-- ==== Sys2Proof/Word.lean ====
section
/-! DEFINITION. The machine words of the AN7128 and their plainest arithmetic: unsigned words of the widths the
dictionary types name (R44), bytes, byte strings, and the two increments every counter of the spec uses, wrapping
and saturating. -/

namespace Sys2Proof

/-- One byte. -/
abbrev Byte := BitVec 8
/-- A byte string, first transferred byte first. -/
abbrev Bytes := List (BitVec 8)
/-- U8 of R44. -/
abbrev U8 := BitVec 8
/-- U16 of R44. -/
abbrev U16 := BitVec 16
/-- U32 of R44. -/
abbrev U32 := BitVec 32
/-- U64 of R44. -/
abbrev U64 := BitVec 64
/-- A meter handle, 20 bits; 0xFFFFF is broadcast (terms of 00_scope, R43). -/
abbrev Handle := BitVec 20
/-- A cycle number, 40 bits, compared and subtracted modulo 2^40 (R15). -/
abbrev Cycle := BitVec 40

/-- One more, staying at the highest value of the width ("saturates"). -/
def satInc {w : Nat} (x : BitVec w) : BitVec w := if x = BitVec.allOnes w then x else x + 1

/-- Add a natural number, staying at the highest value of the width. -/
def satAdd {w : Nat} (x : BitVec w) (n : Nat) : BitVec w := BitVec.ofNat w (min (x.toNat + n) (2 ^ w - 1))

/-- A sparse table keyed by a natural number (a slot, a handle, an object key), in strictly rising key order; an
unlisted key holds the table's default. -/
abbrev Tbl (α : Type) := List (Nat × α)

end Sys2Proof
end

