-- ==== Sys2Proof/Syntax.lean ====
section
/-! DEFINITION. The commands: one constructor of `Instr` for each row of the operation table, with the operands the
spec gives the event (a request and its bytes, an edge and its stamp, a frame and its fields). A timed row (an expiry,
a boundary) IS the coming of its time and carries no operand for it. -/

namespace Sys2Proof

/-- The dictionary transports of R61, and the internal path of the commands that the tables call "Internal only". -/
inductive Transport where
  | canFd | sdo | coap | mailbox | probe | internal
deriving DecidableEq, Repr

/-- One dictionary session of R47: its transport, and which it is: on CAN the port x 128 and the client's node-ID, on CoAP the
association, on the probe the port. -/
structure SessId where
  tr : Transport
  id : Nat
deriving DecidableEq, Repr

/-- Who asks: the session, the token its transport matches the answer by (mailbox slot, CoAP token, CAN node), and the
meter handle the request carries where the transport provides one (R43), whether the MRAM takes the write it asks for
(R51), whether it reaches a native object through the OCB view (R446), and where it is addressed to (R61): the CAN identifier
of a classic SDO request, the node-ID of a USDO request, the UDP port of a CoAP request. -/
structure Req where
  sess   : SessId
  token  : Nat := 0
  dest   : Nat := 0
  handle : Option Handle := none
  storeOk : Bool := true
  view : Bool := false
deriving DecidableEq, Repr

/-- An object's index and subindex (R9). -/
structure ObjKey where
  index : U16
  sub   : U8
deriving DecidableEq, Repr

/-- What a key operation needs (R118, R119). -/
inductive KeyOp where
  | ccm | gcm | cmac | dlms | wrap | storage | derive | ecdsa | ed25519 | ecdh | hmac | dtls | campaign
deriving DecidableEq, Repr

/-- What a port tells of a frame it has received (R147, R152, R159, R170): network time at its end, slot phase in which it
started, measured SNR in 0.25 dB, its samples and erasures, whether a header symbol was fully blanked, its timing offset in
us (0x8000 not measured), its RSSI, and whether the acceptance decision falls after the latest one that yields an
acknowledgement (R33). -/
structure Rx where
  stamp   : Nat
  phase   : Fin 8 := 0
  snr     : Nat := 0
  samples : Nat := 0
  erased  : Nat := 0
  blanked : Bool := false
  offset  : U16 := 0x8000
  rssi    : Int := 0
  late    : Bool := false
deriving DecidableEq, Repr

/-- Octets received on a port, with what the reception tells. -/
structure Heard where
  bytes : Bytes
  rx    : Rx
deriving DecidableEq, Repr

/-- Link modes of Wireless M-Bus (R160). -/
inductive WMode where
  | s1 | s1m | s2 | t1 | t2 | c1 | c2 | n1 | n2
deriving DecidableEq, Repr

/-- The bit of Bq4:01 that admits a link mode (R161, R178). -/
def WMode.bit : WMode → Nat
  | .s1 | .s1m | .s2 => 0 | .t1 | .t2 => 1 | .c1 | .c2 => 2 | .n1 | .n2 => 3

/-- The link mode is bidirectional (R160). -/
def WMode.bidi : WMode → Bool
  | .s2 | .t2 | .c2 | .n2 => true
  | _ => false

/-- A frame of a standard generation, with the fields its standard places in it: handle, counter (or access or sequence
number), key index, security mode, profile or level, link mode of Wireless M-Bus, and all its bytes (R139, R160, R162, R163,
R187, R452). -/
structure StdFrame where
  handle  : Handle
  counter : U32
  mode    : Nat := 0
  link    : WMode := .t2
  bytes   : Bytes
deriving DecidableEq, Repr

/-- A frame of a standard generation, with what its reception tells. -/
structure StdHeard where
  frame : StdFrame
  rx    : Rx
deriving DecidableEq, Repr

/-- One record of a forwarding request (R196): generation code, handle word, forwarder tag, the frame (its bytes alone for
a native generation), and whether its length field is zero. -/
structure FwdRecord where
  gen     : U8
  handle  : Handle
  tag     : U32
  frame   : StdFrame
  zeroLen : Bool := false
deriving DecidableEq, Repr

/-- What a NAND operation failed at (R323, R324). -/
inductive NandFail where
  | program | erase | uncorrectable | retryTwice
deriving DecidableEq, Repr

/-- What a 10/12-cycle block gives of a channel (R241): rms, THD in 0.01 %, magnitude and phase of the fundamental, and the
magnitudes of the harmonic subgroups of orders 2 to 50. -/
structure PqChannel where
  chan : Nat
  rms : U64
  thd : U64
  fund : U64 := 0
  angle : U64 := 0
  harm : List U64 := []
deriving DecidableEq, Repr

/-- What a block gives of a feeder (R241): fundamental P, Q and S in mW, mvar and mVA, negative- and zero-sequence unbalance in
0.01 %, and the neutral residual in A (R238). -/
structure PqFeeder where
  feeder : Nat
  q : Int
  s : Int
  unbalance : U64
  residual : U64
  p : Int := 0
  zero : U64 := 0
deriving DecidableEq, Repr

/-- A 10/12-cycle block (R241): its length in ns, and what it gives. -/
structure PqBlock where
  len : Nat
  channels : List PqChannel
  feeders : List PqFeeder
deriving DecidableEq, Repr

/-- Cumulative registers as a meter gives them: import and export with their COSEM scalers (R256, R273). -/
structure Regs where
  imp : U64
  exp : U64
  impScaler : BitVec 8
  expScaler : BitVec 8
deriving DecidableEq, Repr

/-- What an answer says of a meter's alignment (R201, R202): alignment state, zc_delta in us with 0x80000000 where not
measured, and the hops of the set_cycle that aligned it. -/
structure LatchAlign where
  state : U8
  zc    : U32
  hops  : U8
deriving DecidableEq, Repr

/-- An accepted answer of a meter of class 200 (R255, R256): a latch; the registers read; the cycle count; or whether the meter takes the capture objects written at its join. -/
inductive LatchAns where
  | latched (id : U16) (status : U8) (cycle : Cycle) (regs : Regs)
  | read (regs : Regs)
  | cycleCount (cycle : Cycle)
  | capture (ok : Bool)
deriving DecidableEq, Repr

/-- How a reading is placed in time (R275): latched at a cycle, a capture with its capture time in ms of meter time since
2000-01-01 00:00 (its deviation field taken off where specified), or any other. -/
inductive ReadKind where
  | latched (cycle : Cycle)
  | capture (ms : Int)
  | other
deriving DecidableEq, Repr

/-- A meter's answer to a GET of output_state (R307, R309): the output connected, not connected, or no class 70 object in
its association. -/
inductive OutputAns where
  | connected | disconnected | absent
deriving DecidableEq, Repr

/-- An NVMe command as fetched (R341): its submission queue (0 admin), command identifier and namespace. -/
structure NvCmd where
  queue : Nat
  cid : Nat
  nsid : Nat := 1
deriving DecidableEq, Repr

/-- A meter's answer to a step of a campaign (R361): image transfer attributes 2 and 5, a request done, the blocks missing
by attribute 3, the image transfer status of attribute 6, or the passive attributes 6 to 10 of class 20. -/
inductive CampAns where
  | attributes (blockSize : Nat) (enabled : Bool)
  | done
  | missing (blocks : List Nat)
  | status (n : Nat)
  | content (b : Bytes)
deriving DecidableEq, Repr

/-- Role states (R377). -/
inductive PairRole where
  | solo | starting | active | syncing | standby | failed
deriving DecidableEq, Repr

/-- A heartbeat's content (R380). -/
structure Heartbeat where
  /-- R380: role state -/
  role : PairRole
  /-- R380: position -/
  pos : Nat
  /-- R380: claim driven -/
  claim : U8
  /-- R380: winner seen in the last round (position), none if void -/
  winner : Option Nat
  /-- R380: health score -/
  health : Nat
  /-- R380: RELEASED flag -/
  released : Bool
  /-- R39: personality is OCB -/
  ocb : Bool
  /-- R39: profile is Head-end -/
  headEnd : Bool
  /-- R380: first 8 bytes of the configuration digest -/
  digest : Bytes
  /-- R380: last message sequence received -/
  lastSeq : U64
deriving DecidableEq, Repr

/-- One profile interval of the device (R281, R287, R290): every meter's entry of it shares these. -/
structure Ival where
  /-- R281: where it starts on the billing time line, ns -/
  from_ : Int
  /-- R273, R290: from where energy belongs to it: its start, or for an entry opened at a restoration the interval's own
  boundary -/
  gate : Int
  /-- R281: where it ended, none while open -/
  to_ : Option Int
  /-- R281: interval start, minutes of billing time -/
  start : Nat
  /-- R281: offset in force, minutes -/
  offset : Int
  /-- R281: shift count -/
  shift : U16
  /-- R282: device-wide flags (OFFSET_CHANGE, OUTAGE, POWER_FAIL, CLOCK_ADJ) -/
  flags : U16
  /-- R280: it ended at a 15-minute boundary of billing time, not at a warning or a split -/
  edge : Bool := true
deriving DecidableEq, Repr

/-- A meter's part of one profile interval (R281). -/
structure PEntry where
  /-- R281: import, mWh -/
  imp : Int := 0
  /-- R281: export, mWh -/
  exp : Int := 0
  /-- R282: the meter's own flags (CARRIED, LATE, METER_CLOCK, SPREAD) -/
  flags : U16 := 0
deriving DecidableEq, Repr

/-- One meter's record in a bulk copy (R387): journal sequence its effects reach, register set as a billing delta carries
it, ledger record, and its entries of open day blocks. -/
structure MeterCopy where
  handle : Handle
  seq : U64
  set : Bytes
  ledger : Bytes
  entries : List (Nat × PEntry)
deriving DecidableEq, Repr

/-- A campaign in a bulk copy (R387): number, state, definition objects 0xA081:01-:0C, content, targets. -/
structure CampCopy where
  number : Nat
  st : Nat
  defs : List Bytes
  content : Bytes
  targets : List Handle
deriving DecidableEq, Repr

/-- What the bulk copy of a resynchronisation brings (R387): context images with their handles, meter key records, meter
records, device billing state (period, shift count, last closed boundary) with the open profile intervals, campaigns, and
the open journal entries (R189). -/
structure BulkCopy where
  contexts : List (Handle × Bytes)
  keys : List (Handle × Bytes)
  meters : List MeterCopy
  period : U32
  shift : U16
  closed : Nat
  ivals : List (Nat × Ival)
  campaigns : List CampCopy
  entries : List Bytes
deriving DecidableEq, Repr

/-- A mirrored configuration message (R380): a group's committed set, a calendar set or shift, a cycle epoch, a campaign verified
(definition, content), or campaign targets added or removed. -/
inductive MirrorCfg where
  | commit (group : Nat) (values : List (ObjKey × Nat × Bytes))
  | calendarSet (arg : Bytes)
  | calendarShift (arg : Bytes)
  | epoch (arg : Bytes)
  | campaign (c : CampCopy)
  | targets (campaign : Nat) (add : Bool) (arg : Bytes)
deriving DecidableEq, Repr

/-- What an announce message says (R82, R83): the grandmaster's priorities, class, accuracy, variance and identity, the
steps removed, and the UTC offset where flagged valid. -/
structure PtpAnnounce where
  prio1 : U8
  cls : U8
  accuracy : U8
  variance : U16
  prio2 : U8
  gm : U64
  steps : U16
  utc : Option Int
deriving DecidableEq, Repr

/-- A received PTP message of the domain it names (R83, R86): an announce; a Sync, one-step or joined with its follow-up,
with the origin time and corrections in ns and its receive stamp at the MAC-PHY boundary; a Pdelay response with the ns
from the request's departure to its arrival and the residence time; or any other. -/
inductive PtpMsg where
  | announce (a : PtpAnnounce)
  | sync (origin rx : Nat)
  | pdelayResp (turn residence : Nat)
  | other
deriving DecidableEq, Repr

/-- What a main reset release finds (R29, R110, R190, R396, R410, R414, R416): whether the reset counter's CRC holds; GiB of context memory detected and trained, the
straps, the canary word, whether the event buffer's and the summaries' CRC hold and the buffer's fill count where it is
readable, journal entries whose marker or CRC fails, and firmware slots that fail verification (kind, slot). -/
structure StartUp where
  ctxGib : Nat := 0
  ocbLow : Bool := false
  pos : Fin 2 := 0
  canaryOk : Bool := true
  crcOk : Bool := true
  bufferOk : Bool := true
  sumsOk : Bool := true
  count : Option Nat := none
  torn : List U64 := []
  badImages : List (Nat × Nat) := []
  factoryOk : Bool := true
deriving DecidableEq, Repr

/-- A received Ethernet frame (R426, R427, R443): its source address, its length before a PRP trailer, whether its FCS
holds, whether no buffer takes it, the sequence number of its redundancy control trailer, and whether it is PTP. -/
structure EthFrame where
  source : BitVec 48
  size   : Nat
  fcsOk  : Bool := true
  noBuf  : Bool := false
  prp    : Option U16 := none
  ptp    : Bool := false
deriving DecidableEq, Repr

/-- Where a memory error is found (R374). -/
inductive EccPlace where
  | sram | mram | contextMemory | contextStore | journal | keyRegister
deriving DecidableEq, Repr

/-- What the device finds while it carries out a command that came over a transport, where the command's own rule asks: fuse
bits of LC and DBG_OFF that do not read back (R112), whether a fuse reads back blown, fuses of the counters that do not, and the partner's committed configuration (R387). -/
structure Found where
  stuck : BitVec 4 := 0
  readsBack : Bool := true
  fuses : List Nat := []
  values : List (ObjKey × Nat × Bytes) := []
deriving DecidableEq, Repr

/-- Method of a CoAP request (R64). -/
inductive CoapMethod where
  | get | put | post | other
deriving DecidableEq, Repr

/-- A block option of RFC 7959 (R61): block number, more to come, block size. -/
structure CoapBlock where
  num  : Nat
  more : Bool
  size : Nat
deriving DecidableEq, Repr

/-- What an SDO or USDO initiate asks for (R61): an upload whose response has room for so many bytes, an expedited download,
a segmented download with the size it announces, a block, bulk or remote transfer, or a broadcast. -/
inductive SdoInit where
  | upload (room : Nat)
  | expedited (data : Bytes)
  | segmented (size : Option Nat)
  | bulk
  | broadcast
deriving DecidableEq, Repr

/-- A data-set request over the optical probe (R67): a read, a write, or the password command. -/
inductive ProbeOp where
  | read (k : ObjKey)
  | write (k : ObjKey) (v : Bytes)
  | password (v : Bytes)
deriving DecidableEq, Repr

/-- One command. Those that carry operands stand first: Lean's runtime takes no object with a higher constructor number
than 244, so the rows are in the table's order within the two halves. -/
inductive Instr where
  /-- OBJECT_WRITE (R51) -/
  | objectWrite (r : Req) (k : ObjKey) (v : Bytes)
  /-- STAGED_WRITE (R52) -/
  | stagedWrite (r : Req) (k : ObjKey) (v : Bytes)
  /-- OCB_IMMEDIATE_WRITE (R58) -/
  | ocbImmediateWrite (r : Req) (k : ObjKey) (v : Bytes)
  /-- CFG_MISMATCH_TIMEOUT (R58) -/
  | cfgMismatchTimeout (group : Fin 39)
  /-- COMMIT (R54) -/
  | commit (r : Req) (group : Fin 39) (arg : Bytes)
  /-- DISCARD (R57) -/
  | discard (r : Req) (group : Fin 39) (arg : Bytes)
  /-- GROUP_SAFE_POINT_APPLY (R54) -/
  | groupSafePointApply (group : Fin 39)
  /-- RESTORE_DEFAULTS (R51) -/
  | restoreDefaults (r : Req) (arg : Bytes)
  /-- AUTHENTICATION_CHALLENGE_READ (R48) -/
  | authenticationChallengeRead (r : Req)
  /-- AUTHENTICATION_RESPONSE (R48) -/
  | authenticationResponse (r : Req) (v : Bytes)
  /-- AUTH_LOCKOUT_EXPIRY (R48) -/
  | authLockoutExpiry (tr : Transport)
  /-- SESSION_IDLE_TIMEOUT (R48) -/
  | sessionIdleTimeout (i : SessId)
  /-- VENDOR_CHALLENGE_READ (R129) -/
  | vendorChallengeRead (r : Req)
  /-- VERIFY_VENDOR_TOKEN (R129) -/
  | verifyVendorToken (r : Req) (arg : Bytes)
  /-- VENDOR_SESSION_EXPIRY (R129) -/
  | vendorSessionExpiry (i : SessId)
  /-- METER_KEY_RECORD_WRITE (R124) -/
  | meterKeyRecordWrite (r : Req) (v : Bytes)
  /-- COAP_REQUEST (R64) -/
  | coapRequest (r : Req) (peer : Bytes) (m : CoapMethod) (k : ObjKey) (format : Option Nat) (block : Option CoapBlock) (v : Bytes) (f : Found)
  /-- SDO_INITIATE (R61) -/
  | sdoInitiate (r : Req) (k : ObjKey) (what : SdoInit) (f : Found)
  /-- SDO_SEGMENT (R63) -/
  | sdoSegment (r : Req) (toggle : Bool) (v : Bytes) (last : Bool) (room : Nat) (f : Found)
  /-- SDO_SEGMENT_TIMEOUT (R63) -/
  | sdoSegmentTimeout (r : Req)
  /-- COAP_BLOCKWISE_TIMEOUT (R69) -/
  | coapBlockwiseTimeout (r : Req)
  /-- PROBE_SIGN_ON (R61) -/
  | probeSignOn (port : Fin 2)
  /-- PROBE_REQUEST (R67) -/
  | probeRequest (r : Req) (op : ProbeOp) (f : Found)
  /-- PROBE_SIGN_OFF (R47) -/
  | probeSignOff (port : Fin 2)
  /-- PROBE_BREAK (R440) -/
  | probeBreak (port : Fin 2)
  /-- MAILBOX_DOORBELL (R433) -/
  | mailboxDoorbell (slot : U32) (content : Bytes)
  /-- MAILBOX_REQUEST (R66) -/
  | mailboxRequest (slot : Fin 32) (storeOk : Bool) (f : Found)
  /-- MBX_DONE_CLEAR (R433) -/
  | mbxDoneClear (bits : U32)
  /-- NMT_RESET (R436) -/
  | nmtReset (port : Fin 2)
  /-- CAN_HEARTBEAT (R436) -/
  | canHeartbeat (port : Fin 2)
  /-- CAN_BUS_OFF_RECOVERY (R436) -/
  | canBusOffRecovery (port : Fin 2)
  /-- ZC_CROSSING (R150) -/
  | zcCrossing (input : Fin 3) (stamp width : Nat)
  /-- SET_CYCLE_EPOCH (R78) -/
  | setCycleEpoch (r : Req) (arg : Bytes)
  /-- PTP_MESSAGE_RX (R86) -/
  | ptpMessageRx (port : Fin 4) (domain : U8) (m : PtpMsg) (at_ : Nat)
  /-- PTP_MESSAGE_TX (R85) -/
  | ptpMessageTx (port : Fin 4) (kind : Fin 4) (residence : Nat)
  /-- PTP_ANNOUNCE_TIMEOUT (R84) -/
  | ptpAnnounceTimeout (sync : Bool)
  /-- PPS_IN_EDGE (R86) -/
  | ppsInEdge (stamp : Nat)
  /-- ARM (R93) -/
  | arm (r : Req) (n : Fin 32)
  /-- DISARM (R92) -/
  | disarm (r : Req) (n : Fin 32)
  /-- TRIGGER_FIRE (R93) -/
  | triggerFire (n : Fin 32) (at_ : Nat)
  /-- CAPTURE_EDGE (R94) -/
  | captureEdge (c : Fin 6) (rising : Bool) (stamp : Nat)
  /-- SET_CALENDAR (R97) -/
  | setCalendar (r : Req) (arg : Bytes)
  /-- SUB_SECOND_SHIFT (R99) -/
  | subSecondShift (r : Req) (arg : Bytes)
  /-- TEMPERATURE_BIN_SAMPLE (R101) -/
  | temperatureBinSample (temp : BitVec 16)
  /-- TRIM_WINDOW_END (R101) -/
  | trimWindowEnd (mean : BitVec 16) (elapsed : Nat)
  /-- RELEARN_TRIM (R101) -/
  | relearnTrim (r : Req) (arg : Bytes)
  /-- LIFE_CYCLE_TRANSITION (R114) -/
  | lifeCycleTransition (r : Req) (arg : Bytes) (stuck : BitVec 4)
  /-- CLOSE_DEBUG_PORT (R116) -/
  | closeDebugPort (r : Req) (arg : Bytes) (readsBack : Bool)
  /-- LOCK_PERSONALITY (R116) -/
  | lockPersonality (r : Req) (arg : Bytes) (readsBack : Bool)
  /-- IMPORT_FLEET_WRAP_KEY (R120) -/
  | importFleetWrapKey (r : Req) (arg : Bytes)
  /-- IMPORT_KEY (R120) -/
  | importKey (r : Req) (arg : Bytes)
  /-- DERIVE_KEY (R120) -/
  | deriveKey (r : Req) (arg : Bytes)
  /-- INVALIDATE (R121) -/
  | invalidate (r : Req) (arg : Bytes)
  /-- DESTROY (R121) -/
  | destroy (r : Req) (arg : Bytes)
  /-- CHANGE_FLEET_WRAP_KEY (R127) -/
  | changeFleetWrapKey (r : Req) (arg : Bytes)
  /-- KEY_USE (R119) -/
  | keyUse (handle : U32) (op : KeyOp)
  /-- REMOTE_CONTEXT_FETCH (R125) -/
  | remoteContextFetch (h : Handle)
  /-- ATTESTATION_REQUEST (R130) -/
  | attestationRequest (r : Req) (arg : Bytes)
  /-- PEER_DIGEST_WRITE (R128) -/
  | peerDigestWrite (r : Req) (entry : Fin 32) (v : Bytes)
  /-- NATIVE_FRAME_RX (R184) -/
  | nativeFrameRx (port : Fin 24) (bytes : Bytes) (rx : Rx)
  /-- NATIVE_PLC_ACK_TX (R144) -/
  | nativePlcAckTx (port : Fin 12)
  /-- NATIVE_RADIO_ACK_TX (R170) -/
  | nativeRadioAckTx (port : Fin 12)
  /-- JOIN_REQUEST (R485) -/
  | joinRequest (port : Fin 24) (bytes : Bytes) (rx : Rx)
  /-- JOIN_RESPONSE (R485) -/
  | joinResponse (port : Fin 24)
  /-- NEIGHBOUR_REPORT (R146) -/
  | neighbourReport (port : Fin 12)
  /-- PHASE_REPORT (R151) -/
  | phaseReport (port : Fin 12)
  /-- RESYNCHRONISED (R173) -/
  | resynchronised (port : Fin 24)
  /-- UNKNOWN_COMMAND (R146) -/
  | unknownCommand (port : Fin 24)
  /-- SLOT_ASSIGNMENT_TX (R171) -/
  | slotAssignmentTx (port : Fin 12)
  /-- TIMING_HINT_TX (R173) -/
  | timingHintTx (port : Fin 24)
  /-- PLC_BEACON_TX (R145) -/
  | plcBeaconTx (port : Fin 12)
  /-- PATH_SELECTION (R148) -/
  | pathSelection (port : Fin 12) (due : List (Handle × Fin 8 × Nat))
  /-- DOWNLINK_FRAME_TX (R166) -/
  | downlinkFrameTx (port : Fin 24) (handle : Handle) (content : Bytes)
  /-- DOWNLINK_ACK_RX (R170) -/
  | downlinkAckRx (port : Fin 24) (f : Heard)
  /-- DOWNLINK_ACK_TIMEOUT (R173) -/
  | downlinkAckTimeout (port : Fin 24) (handle : Handle)
  /-- BLANKING_RESEED (R152) -/
  | blankingReseed (port : Fin 12) (rms : U16)
  /-- G3_FRAME_RX (R139) -/
  | g3FrameRx (port : Fin 12) (f : StdFrame) (rx : Rx)
  /-- PRIME_FRAME_RX (R139) -/
  | primeFrameRx (port : Fin 12) (f : StdFrame) (rx : Rx)
  /-- STANDARD_ACK_TX (R139) -/
  | standardAckTx (port : Fin 24)
  /-- G3_LBP_JOIN (R154) -/
  | g3LbpJoin (port : Fin 12) (handle : Handle)
  /-- G3_REKEY_SWITCH (R140) -/
  | g3RekeySwitch (port : Fin 12)
  /-- PRIME_REGISTRATION (R154) -/
  | primeRegistration (port : Fin 12) (handle : Handle)
  /-- SFSK_DISCOVERY (R154) -/
  | sfskDiscovery (port : Fin 12) (handle : Handle)
  /-- OCB_LPDU_RX (R452) -/
  | ocbLpduRx (port : Fin 12) (bytes : Bytes) (rx : Rx)
  /-- OCB_ACK_TX (R452) -/
  | ocbAckTx (port : Fin 12)
  /-- SET_CYCLE_BROADCAST (R202) -/
  | setCycleBroadcast (port : Fin 12)
  /-- NATIVE_BEACON_START (R153) -/
  | nativeBeaconStart (port : Fin 12)
  /-- RADIO_BEACON_START (R175) -/
  | radioBeaconStart (port : Fin 12)
  /-- RADIO_BEACON_TX (R169) -/
  | radioBeaconTx (port : Fin 12)
  /-- WMBUS_FRAME_RX (R162): a frame, received in a link mode -/
  | wmbusFrameRx (port : Fin 12) (f : StdFrame) (link : WMode) (rx : Rx)
  /-- WMBUS_INSTALL_REQUEST (R175) -/
  | wmbusInstallRequest (port : Fin 12) (f : StdHeard)
  /-- SUN_FRAME_RX (R163) -/
  | sunFrameRx (port : Fin 12) (f : StdFrame) (rx : Rx)
  /-- SUN_ASSOCIATION (R175) -/
  | sunAssociation (port : Fin 12) (handle : Handle)
  /-- ACTIVE_BEACON_MISSED (R174) -/
  | activeBeaconMissed (port : Fin 24)
  /-- FORWARDING_REQUEST (R196) -/
  | forwardingRequest (r : Req) (peer : Bytes) (records : List FwdRecord) (stamp : Nat)
  /-- ENQUEUE (R208) -/
  | enqueue (flow : BitVec 12) (kind : U8) (telemetry : Bool) (key : Handle) (ref : U64) (delay : Option (Fin 4 × Nat))
  /-- DISPATCH_READ (R209) -/
  | dispatchRead (core : Fin 4)
  /-- DONE (R213) -/
  | done (core : Fin 4) (wants : List (BitVec 12 × U8 × Handle × U64))
  /-- RETRY (R209) -/
  | retry (core : Fin 4)
  /-- FAIL (R213) -/
  | fail (core : Fin 4)
  /-- DELAY_DUE (R214) -/
  | delayDue (list : Fin 4)
  /-- BUDGET_OVERRUN (R220) -/
  | budgetOverrun (core : Fin 4)
  /-- ACCOUNT_EXHAUSTED (R219) -/
  | accountExhausted (a : Fin 16) (res : Fin 4)
  /-- INPUT_DEADLINE_DISCARD (R223) -/
  | inputDeadlineDiscard (src : Nat)
  /-- REF_CHECK (R236) -/
  | refCheck (ppb : U32) (temp : BitVec 16)
  /-- FEEDER_DEMAND_INTERVAL_END (R240) -/
  | feederDemandIntervalEnd (feeder : Fin 64)
  /-- RESET_MAXIMUM_DEMAND (R240) -/
  | resetMaximumDemand (r : Req) (arg : Bytes)
  /-- PQ_BLOCK_END (R241) -/
  | pqBlockEnd (b : PqBlock)
  /-- PQ_AGGREGATE (R241) -/
  | pqAggregate (tenMinute : Bool) (freq : List (Fin 64 × U32))
  /-- PQ_EVENT_DETECT (R241) -/
  | pqEventDetect (chan : Fin 128) (level : U16)
  /-- ARM_LATCH (R243) -/
  | armLatch (r : Req) (arg : Bytes)
  /-- LATCH_RECORD_COMPLETE (R244) -/
  | latchRecordComplete (target : BitVec 40)
  /-- CAPTURE_ARM (R245) -/
  | captureArm (r : Req)
  /-- CAPTURE_TRIGGER_NOW (R245) -/
  | captureTriggerNow (r : Req)
  /-- CAPTURE_DISARM (R245) -/
  | captureDisarm (r : Req)
  /-- CAPTURE_TRIGGER (R245) -/
  | captureTrigger (feeder : Option (Fin 64))
  /-- CALIBRATE_CHANNEL (R248) -/
  | calibrateChannel (r : Req) (arg : Bytes)
  /-- CALIBRATION_MEASURED (R248) -/
  | calibrationMeasured (meas : U64)
  /-- LATCH_NOW (R253) -/
  | latchNow (r : Req) (arg : Bytes)
  /-- SET_CYCLE_UNICAST (R254) -/
  | setCycleUnicast (handle : Handle)
  /-- LATCH_ANSWER (R256): the answer, and the meter's alignment where a latch carries it -/
  | latchAnswer (handle : Handle) (seq : U64) (align : Option LatchAlign) (a : LatchAns)
  /-- SEGMENT_UPDATE (R262) -/
  | segmentUpdate (segment : BitVec 12)
  /-- RESET_MODEL (R258) -/
  | resetModel (r : Req) (arg : Bytes)
  /-- READING_APPLY (R273) -/
  | readingApply (handle : Handle) (seq : U64) (kind : ReadKind) (regs : Regs)
  /-- METER_CLOCK_READ (R275) -/
  | meterClockRead (handle : Handle) (answer : Option (BitVec 32))
  /-- TARIFF_ACTIVE (R279) -/
  | tariffActive (table : Fin 16)
  /-- DAY_BLOCK_CLOSE (R283) -/
  | dayBlockClose (date : U16)
  /-- CLOSE_PERIOD_NOW (R284) -/
  | closePeriodNow (r : Req) (arg : Bytes)
  /-- TAMPER_EDGE (R293) -/
  | tamperEdge (input : Fin 2) (opened : Bool)
  /-- CLEAR_TAMPER_LATCHES (R299) -/
  | clearTamperLatches (r : Req) (arg : Bytes)
  /-- PREPAY_ITEM (R302) -/
  | prepayItem (handle : Handle)
  /-- CREDIT_TRANSFER (R303) -/
  | creditTransfer (r : Req) (arg : Bytes)
  /-- REQUEST_EMERGENCY_CREDIT (R306) -/
  | requestEmergencyCredit (r : Req) (arg : Bytes)
  /-- METER_EC_REQUEST (R306) -/
  | meterEcRequest (handle : Handle) (code : U16)
  /-- ADJUST_DEBT (R304) -/
  | adjustDebt (r : Req) (arg : Bytes)
  /-- NOTICE_END (R307) -/
  | noticeEnd (handle : Handle)
  /-- DISCONNECT_ISSUE (R309) -/
  | disconnectIssue (handle : Handle)
  /-- DISCONNECT_CONFIRM_TIMEOUT (R309) -/
  | disconnectConfirmTimeout (handle : Handle)
  /-- OUTPUT_STATE_RESPONSE (R309) -/
  | outputStateResponse (handle : Handle) (a : OutputAns)
  /-- RECONNECT_ISSUE (R309) -/
  | reconnectIssue (handle : Handle)
  /-- MANUAL_ON (R312) -/
  | manualOn (r : Req)
  /-- MANUAL_OFF (R312) -/
  | manualOff (r : Req)
  /-- BACK_TO_SCHEDULE (R312) -/
  | backToSchedule (r : Req)
  /-- GROUP_MEMBER_COMMAND (R312) -/
  | groupMemberCommand (group : Fin 32) (acked : List Handle)
  /-- RELAY_SWITCH (R315) -/
  | relaySwitch (r : Fin 8)
  /-- CHECKPOINT_COMMIT (R331) -/
  | checkpointCommit (units : U16) (readsBack : Bool)
  /-- NAND_OPERATION_FAIL (R324) -/
  | nandOperationFail (block : BitVec 18) (unit : BitVec 14) (what : NandFail)
  /-- READ_SCRUB (R340) -/
  | readScrub (block : BitVec 18) (weak : Bool)
  /-- READ_DISTURB_RELOCATE (R340) -/
  | readDisturbRelocate (block : BitVec 18)
  /-- ARCHIVE_APPEND (R329) -/
  | archiveAppend (cls : Fin 10) (coding : Bool) (subject : U32) (stamp : U32) (body : Bytes)
  /-- NVME_READ (R341) -/
  | nvmeRead (c : NvCmd) (lba : Nat) (count : U16) (uncorrectable : Bool)
  /-- NVME_WRITE (R342) -/
  | nvmeWrite (c : NvCmd) (lba : Nat) (data : List Bytes) (fua : Bool)
  /-- NVME_FLUSH (R342) -/
  | nvmeFlush (c : NvCmd)
  /-- NVME_DATASET_MANAGEMENT (R343) -/
  | nvmeDatasetManagement (c : NvCmd) (deallocate : Bool) (ranges : List (Nat × Nat))
  /-- NVME_FORMAT (R341) -/
  | nvmeFormat (c : NvCmd) (ses : Nat)
  /-- NVME_IDENTIFY (R341) -/
  | nvmeIdentify (c : NvCmd) (cns : Nat)
  /-- NVME_GET_LOG_PAGE (R341) -/
  | nvmeGetLogPage (c : NvCmd) (lid : Nat)
  /-- NVME_SET_FEATURES (R341) -/
  | nvmeSetFeatures (c : NvCmd) (fid value : Nat)
  /-- NVME_GET_FEATURES (R341) -/
  | nvmeGetFeatures (c : NvCmd) (fid : Nat)
  /-- NVME_CREATE_IO_QUEUE (R341) -/
  | nvmeCreateIoQueue (c : NvCmd) (completion : Bool) (id size cq : Nat)
  /-- NVME_DELETE_IO_QUEUE (R341) -/
  | nvmeDeleteIoQueue (c : NvCmd) (completion : Bool) (id : Nat)
  /-- NVME_ABORT (R341) -/
  | nvmeAbort (c : NvCmd) (queue cid : Nat)
  /-- ASYNCHRONOUS_EVENT_REQUEST (R341) -/
  | asynchronousEventRequest (c : NvCmd)
  /-- NVME_INVALID_OPCODE (R341) -/
  | nvmeInvalidOpcode (c : NvCmd)
  /-- HMB_MAP_FETCH (R344) -/
  | hmbMapFetch (page : U16) (content : Bytes)
  /-- BEGIN_DOWNLOAD (R350) -/
  | beginDownload (r : Req) (arg : Bytes)
  /-- IMAGE_BLOCK (R351) -/
  | imageBlock (r : Req) (arg : Bytes)
  /-- FINISH_DOWNLOAD (R350) -/
  | finishDownload (r : Req) (arg : Bytes)
  /-- ABANDON_DOWNLOAD (R350) -/
  | abandonDownload (r : Req) (arg : Bytes)
  /-- ACTIVATE (R352) -/
  | activate (r : Req) (arg : Bytes)
  /-- CONFIRM_HEALTH (R353) -/
  | confirmHealth (r : Req) (arg : Bytes) (stuck : List Nat)
  /-- CONFIGURATION_MIGRATION (R355) -/
  | configurationMigration (values : List (ObjKey × Nat × Bytes)) (ok : Bool)
  /-- CAMPAIGN_KIND_WRITE (R357) -/
  | campaignKindWrite (r : Req) (v : Bytes)
  /-- CONTENT_BLOCK (R357) -/
  | contentBlock (r : Req) (arg : Bytes)
  /-- VERIFY (R357) -/
  | verify (r : Req)
  /-- START (R357) -/
  | start (r : Req)
  /-- PAUSE (R363) -/
  | pause (r : Req)
  /-- RESUME (R357) -/
  | resume (r : Req)
  /-- CANCEL (R357) -/
  | cancel (r : Req)
  /-- DELETE (R357) -/
  | delete (r : Req)
  /-- ADD_TARGETS (R358) -/
  | addTargets (r : Req) (arg : Bytes)
  /-- REMOVE_TARGETS (R358) -/
  | removeTargets (r : Req) (arg : Bytes)
  /-- CAMPAIGN_MULTICAST_TX (R359) -/
  | campaignMulticastTx (campaign : Fin 64) (port : Fin 24)
  /-- CAMPAIGN_UNICAST_STEP (R361) -/
  | campaignUnicastStep (campaign : Fin 64) (handle : Handle)
  /-- CAMPAIGN_RESPONSE (R361) -/
  | campaignResponse (campaign : Fin 64) (handle : Handle) (a : CampAns)
  /-- CAMPAIGN_ATTEMPT_TIMEOUT (R361) -/
  | campaignAttemptTimeout (campaign : Fin 64) (handle : Handle)
  /-- CAMPAIGN_ACTIVATION_TIME (R361) -/
  | campaignActivationTime (campaign : Fin 64)
  /-- CLAIM_ROUND (R371) -/
  | claimRound (partner : Option (U8 × Bool × U8)) (fresh : Bool)
  /-- HEARTBEAT_RX (R380) -/
  | heartbeatRx (h : Heartbeat)
  /-- ENTRY (R381) -/
  | entry (m : U64) (bytes context : Bytes)
  /-- CONFIRMATION (R381) -/
  | confirmation (m : U64) (seq : U64) (late : Bool)
  /-- CONTEXT_CHANGE (R380) -/
  | contextChange (m : U64) (handle : Handle) (image : Bytes)
  /-- BILLING_DELTA (R383) -/
  | billingDelta (m : U64) (meters : List (Handle × U64 × Bytes)) (period : U32) (shift : U16) (closed : Nat)
  /-- LEDGER_DELTA (R380) -/
  | ledgerDelta (m : U64) (handle : Handle) (record : Bytes)
  /-- KEY_OPERATION (R380) -/
  | keyOperation (m : U64) (k : ObjKey) (handle : Handle) (arg : Bytes)
  /-- CONFIGURATION (R380) -/
  | configuration (m : U64) (c : MirrorCfg)
  /-- TIME_STATE (R40) -/
  | timeState (m : U64) (cycle : Cycle) (stamp : Nat)
  /-- LATCH_ORDER (R253) -/
  | latchOrder (m : U64) (id : U16) (target : Cycle)
  /-- HAND_OVER (R386) -/
  | handOver (r : Req) (arg : Bytes)
  /-- ADOPT_PARTNER_CONFIGURATION (R387) -/
  | adoptPartnerConfiguration (r : Req) (arg : Bytes) (values : List (ObjKey × Nat × Bytes))
  /-- RESYNC_COMPLETE (R387) -/
  | resyncComplete (b : BulkCopy)
  /-- EVENT_RAISE (R391) -/
  | eventRaise (code : BitVec 10) (measure : U64)
  /-- EVENT_TOKEN_REFILL (R392) -/
  | eventTokenRefill (code : BitVec 10)
  /-- CLEAR_CHALLENGE_READ (R399) -/
  | clearChallengeRead (r : Req)
  /-- CLEAR_EVENTS (R399) -/
  | clearEvents (r : Req) (arg : Bytes)
  /-- RAISE_APPLICATION_EVENT (R401) -/
  | raiseApplicationEvent (r : Req) (arg : Bytes)
  /-- MAIN_RESET_RELEASE (R403) -/
  | mainResetRelease (x : StartUp)
  /-- ISLAND_FAULT (R417) -/
  | islandFault (island : Fin 10)
  /-- QUIESCE_TIMEOUT (R417) -/
  | quiesceTimeout (island : Fin 10)
  /-- BLOCK_RESET_RELEASE (R417) -/
  | blockResetRelease (island : Fin 10)
  /-- JUNCTION_TEMPERATURE_SAMPLE (R422) -/
  | junctionTemperatureSample (temp : BitVec 16)
  /-- MAIN_RESET_COMMAND (R423) -/
  | mainResetCommand (r : Req) (arg : Bytes)
  /-- CLEAR_RSTCNT_INVALID (R414) -/
  | clearRstcntInvalid (r : Req) (arg : Bytes)
  /-- VBAT_MEASURE (R425) -/
  | vbatMeasure (vbat vbk : U16)
  /-- ETH_FRAME_RX (R427) -/
  | ethFrameRx (port : Fin 4) (f : EthFrame)
  /-- ETH_LINK_CHANGE (R426) -/
  | ethLinkChange (port : Fin 4) (speed : Fin 4)
  /-- REMOTE_DOWNLINK_TX (R431) -/
  | remoteDownlinkTx (assoc : Nat)
  /-- REMOTE_DOWNLINK_RESULT (R431) -/
  | remoteDownlinkResult (token : Nat) (results : List (U32 × U8))
  /-- REMOTE_DOWNLINK_RETRANSMIT (R431) -/
  | remoteDownlinkRetransmit (token : Nat)
  /-- REMOTE_DOWNLINK_EXPIRY (R431) -/
  | remoteDownlinkExpiry (tag : U32)
  /-- DLV_AVAIL_WRITE (R434) -/
  | dlvAvailWrite (avail : U32) (descs : List (Nat × Nat))
  /-- DLV_BASE_WRITE (R435) -/
  | dlvBaseWrite (base : U64) (entries : U32)
  /-- READING_DELIVERY (R435) -/
  | readingDelivery (seq : U64)
  /-- SERIAL_POLL (R439) -/
  | serialPoll (port : Fin 16)
  /-- SERIAL_REPLY_RX (R439) -/
  | serialReplyRx (port : Fin 16) (good : Bool) (f : StdFrame) (rx : Rx)
  /-- SERIAL_RESPONSE_TIMEOUT (R439) -/
  | serialResponseTimeout (port : Fin 16)
  /-- UART_BYTE_RX (R441) -/
  | uartByteRx (port : Fin 2) (b : Byte)
  /-- ACCESS_CODE_ENTRY (R449) -/
  | accessCodeEntry (r : Req) (v : Bytes)
  /-- OCB_LEGAL_TIME_WRITE (R447) -/
  | ocbLegalTimeWrite (r : Req) (v : Bytes)
  /-- OCB_HEADEND_CONNECT (R453) -/
  | ocbHeadendConnect (conn : Nat) (addr : U32)
  /-- OCB_HEADEND_DELIVERY (R453) -/
  | ocbHeadendDelivery (conn : Nat) (msg : Bytes) (stamp : Nat)
  /-- OCB_HEADEND_KEEPALIVE_TX (R453) -/
  | ocbHeadendKeepaliveTx (conn : Nat)
  /-- OCB_HEADEND_IDLE_CLOSE (R453) -/
  | ocbHeadendIdleClose (conn : Nat)
  /-- CLEAR_OCB_EVENT_TABLE (R455) -/
  | clearOcbEventTable (r : Req) (arg : Bytes)
  /-- CHECK_CHANNEL_SAMPLE (R231) -/
  | checkChannelSample (at_ : Nat) (raw : List (Fin 128 × BitVec 24))
  /-- MEMORY_ECC_ERROR (R374) -/
  | memoryEccError (place : EccPlace) (corrected : Bool)
  /-- SUN_BEACON_TX (R160) -/
  | sunBeaconTx (port : Fin 12)
  /-- NVME_CONTROLLER_ENABLE (R341) -/
  | nvmeControllerEnable (en : Bool)
  /-- PARTNER_REMOVAL (R181) -/
  | partnerRemoval (handle : Handle)
  /-- MAILBOX_ENABLE (R433) -/
  | mailboxEnable
  /-- MAILBOX_DISABLE (R433) -/
  | mailboxDisable
  /-- DICTIONARY_AVAILABLE (R68) -/
  | dictionaryAvailable
  /-- ZC_PREDICTED_CROSSING (R76) -/
  | zcPredictedCrossing
  /-- PPS_IN_MISSED (R86) -/
  | ppsInMissed
  /-- PPS_OUT_PULSE (R90) -/
  | ppsOutPulse
  /-- CAL_WRAP (R96) -/
  | calWrap
  /-- CALENDAR_SET_TICK (R98) -/
  | calendarSetTick
  /-- CALENDAR_SET_NO_TICK (R98) -/
  | calendarSetNoTick
  /-- HOLD_END (R99) -/
  | holdEnd
  /-- CALENDAR_DISCIPLINE (R100) -/
  | calendarDiscipline
  /-- OSC_STOP (R102) -/
  | oscStop
  /-- DST_OFFSET_CHANGE (R107) -/
  | dstOffsetChange
  /-- DST_TABLE_LOW (R108) -/
  | dstTableLow
  /-- ORPHAN_SWEEP_END (R121) -/
  | orphanSweepEnd
  /-- REWRAP_COMPLETE (R127) -/
  | rewrapComplete
  /-- ATTESTATION_DONE (R130) -/
  | attestationDone
  /-- LINK_AGEING (R147) -/
  | linkAgeing
  /-- QUIET_START_END (R420) -/
  | quietStartEnd
  /-- JOURNAL_STUCK (R191) -/
  | journalStuck
  /-- BUDGET_PERIOD_BOUNDARY (R218) -/
  | budgetPeriodBoundary
  /-- CAPTURE_DONE (R245) -/
  | captureDone
  /-- MEASUREMENT_SETTLED (R242) -/
  | measurementSettled
  /-- LATCH_ORDER_ISSUE (R253) -/
  | latchOrderIssue
  /-- ARM_ABANDON (R254) -/
  | armAbandon
  /-- LATCH_REPORT_WAIT (R256) -/
  | latchReportWait
  /-- LATCH_DEADLINE (R257) -/
  | latchDeadline
  /-- RATE_SWITCH (R277) -/
  | rateSwitch
  /-- PROFILE_INTERVAL_END (R281) -/
  | profileIntervalEnd
  /-- BILLING_CLOSE (R284) -/
  | billingClose
  /-- PERIOD_GRACE_EXPIRY (R284) -/
  | periodGraceExpiry
  /-- CLOCK_ADJ (R287) -/
  | clockAdj
  /-- OUTAGE_RESTORATION (R290) -/
  | outageRestoration
  /-- TAMPER_LOG_COPY (R294) -/
  | tamperLogCopy
  /-- DISPLAY_FRAME_TX (R295) -/
  | displayFrameTx
  /-- DISPLAY_DWELL_EXPIRY (R296) -/
  | displayDwellExpiry
  /-- BTN_NEXT_PRESS (R296) -/
  | btnNextPress
  /-- BTN_NEXT_HOLD (R296) -/
  | btnNextHold
  /-- BTN_HOLD_PRESS (R296) -/
  | btnHoldPress
  /-- HOLD_LIMIT_EXPIRY (R296) -/
  | holdLimitExpiry
  /-- LOADGROUP_MINUTE (R314) -/
  | loadgroupMinute
  /-- LOADGROUP_RELEASE (R316) -/
  | loadgroupRelease
  /-- GARBAGE_COLLECTION (R340) -/
  | garbageCollection
  /-- ARCHIVE_RETENTION_SWEEP (R329) -/
  | archiveRetentionSweep
  /-- STATE_RESTORE (R332) -/
  | stateRestore
  /-- WRITE_BUFFER_PROGRAM (R342) -/
  | writeBufferProgram
  /-- ACTIVATION_RESET (R352) -/
  | activationReset
  /-- HEALTH_WINDOW_EXPIRY (R353) -/
  | healthWindowExpiry
  /-- CLAIM_LINE_STUCK (R373) -/
  | claimLineStuck
  /-- HEALTH_EVALUATION (R374) -/
  | healthEvaluation
  /-- LEASE_EXPIRY (R375) -/
  | leaseExpiry
  /-- FAILED_RESTART (R376) -/
  | failedRestart
  /-- PAIR_START_WINDOW_EXPIRY (R378) -/
  | pairStartWindowExpiry
  /-- HEARTBEAT_TX (R380) -/
  | heartbeatTx
  /-- BILLING_DELTA_TX (R380) -/
  | billingDeltaTx
  /-- MIRROR_RETRANSMIT (R379) -/
  | mirrorRetransmit
  /-- PAIR_LOST (R379) -/
  | pairLost
  /-- HANDOVER_TIMEOUT (R386) -/
  | handoverTimeout
  /-- PAIR_YIELD (R386) -/
  | pairYield
  /-- GRATUITOUS_ARP (R428) -/
  | gratuitousArp
  /-- EVENT_FLUSH (R396) -/
  | eventFlush
  /-- POWER_FAIL_WARNING (R405) -/
  | powerFailWarning
  /-- POWER_FAIL_SEQUENCE_DONE (R405) -/
  | powerFailSequenceDone
  /-- WARNING_RECOVERED (R406) -/
  | warningRecovered
  /-- ISLAND_STAGE_RELEASE (R416) -/
  | islandStageRelease
  /-- ACCEPTANCE_READY (R419) -/
  | acceptanceReady
  /-- RESET_N_ASSERTED (R412) -/
  | resetNAsserted
  /-- WATCHDOG_EXPIRY (R412) -/
  | watchdogExpiry
  /-- VDD_AON_ACCEPT (R409) -/
  | vddAonAccept
  /-- VDD_AON_DROP (R409) -/
  | vddAonDrop
  /-- RET_TRIP (R410) -/
  | retTrip
  /-- PRP_SUPERVISION_TX (R427) -/
  | prpSupervisionTx
  /-- DELIVERY_ENABLE (R434) -/
  | deliveryEnable
  /-- DELIVERY_DISABLE (R434) -/
  | deliveryDisable
  /-- DELIVERY_BUFFER_RETURN (R434) -/
  | deliveryBufferReturn
  /-- PCIE_LINK_TRAINED (R40) -/
  | pcieLinkTrained
  /-- PCIE_HOT_RESET (R432) -/
  | pcieHotReset
  /-- ACCESS_CODE_LOCKOUT_EXPIRY (R449) -/
  | accessCodeLockoutExpiry
  /-- OSCILLATOR_RESUME (R102) -/
  | oscillatorResume
  /-- CLOCK_LOSS (R375) -/
  | clockLoss
  /-- MAIN_SUPPLY_LOSS (R408) -/
  | mainSupplyLoss
  /-- RESTORATION_HOLD_END (R307) -/
  | restorationHoldEnd
  /-- FRIENDLY_HOURS_CHANGE (R307) -/
  | friendlyHoursChange
deriving DecidableEq, Repr

end Sys2Proof
end

