-- ==== Sys2Proof/Machine/Bits.lean ====
section
/-! DEFINITION. Byte order (R10), signed readings, bit fields, and the operations on sparse tables. -/

namespace Sys2Proof.Machine

/-- The number a byte string spells least significant byte first (R10). -/
def leNat : Bytes → Nat
  | [] => 0
  | b :: bs => b.toNat + 256 * leNat bs

/-- A number in n bytes, least significant byte first (R10); higher bytes are dropped. -/
def leBytes : Nat → Nat → Bytes
  | 0, _ => []
  | n + 1, v => BitVec.ofNat 8 v :: leBytes n (v / 256)

/-- The number a byte string spells most significant byte first. -/
def beNat (bs : Bytes) : Nat := leNat bs.reverse

/-- A number in n bytes, most significant byte first. -/
def beBytes (n v : Nat) : Bytes := (leBytes n v).reverse

/-- Two's complement reading of an unsigned number of w bits (R44). -/
def toSigned (w n : Nat) : Int := if n < 2 ^ (w - 1) then (n : Int) else (n : Int) - 2 ^ w

/-- The unsigned number whose w low bits are those of an integer in two's complement (R44). -/
def ofSigned (w : Nat) (i : Int) : Nat := (i % (2 ^ w : Int)).toNat

/-- An integer kept in w bits of two's complement. -/
def wrapS (w : Nat) (i : Int) : Int := toSigned w (ofSigned w i)

/-- 1 for true, 0 for false. -/
def bit (b : Bool) : Nat := if b then 1 else 0

/-- Bytes from offset o, n of them. -/
def slice (bs : Bytes) (o n : Nat) : Bytes := (bs.drop o).take n

/-- The unsigned field of n bytes at offset o, least significant byte first. -/
def fieldAt (bs : Bytes) (o n : Nat) : Nat := leNat (slice bs o n)

/-- A two-digit number as BCD8 (R44). -/
def toBcd (n : Nat) : Nat := n / 10 % 10 * 16 + n % 10

/-- Both nibbles of a byte are digits (R44). -/
def bcdOk (b : Byte) : Bool := b.toNat % 16 ≤ 9 && b.toNat / 16 ≤ 9

/-- The number a BCD8 byte spells. -/
def ofBcd (b : Byte) : Nat := b.toNat / 16 * 10 + b.toNat % 16

/-- Division rounded to the nearest integer, halves away from zero. -/
def roundDiv (a : Int) (b : Nat) : Int :=
  if 0 ≤ a then (2 * a + b) / (2 * b) else -((2 * (-a) + b) / (2 * b))

/-- The entry a table holds for a key, if it is listed. -/
def tblFind? {α : Type} : Tbl α → Nat → Option α
  | [], _ => none
  | (k', v) :: t, k => if k' = k then some v else tblFind? t k

/-- The entry of a key, or the table's default. -/
def tblGet {α : Type} (d : α) (t : Tbl α) (k : Nat) : α := (tblFind? t k).getD d

/-- The table with a key's entry set, keys staying in rising order. -/
def tblPut {α : Type} : Tbl α → Nat → α → Tbl α
  | [], k, v => [(k, v)]
  | (k', v') :: t, k, v =>
    if k < k' then (k, v) :: (k', v') :: t
    else if k = k' then (k, v) :: t
    else (k', v') :: tblPut t k v

/-- The table without a key's entry. -/
def tblDel {α : Type} (t : Tbl α) (k : Nat) : Tbl α := t.filter (fun (p : Nat × α) => p.1 != k)

/-- The table with a key's entry changed by a function, from the default if unlisted. -/
def tblUpd {α : Type} (d : α) (t : Tbl α) (k : Nat) (f : α → α) : Tbl α := tblPut t k (f (tblGet d t k))

/-- Keys stand in strictly rising order, all above a bound. -/
def tblSortedFrom {α : Type} : Nat → Tbl α → Bool
  | _, [] => true
  | b, (k, _) :: t => decide (b ≤ k) && tblSortedFrom (k + 1) t

/-- The canonical form of a table: keys strictly rising. -/
def tblSorted {α : Type} (t : Tbl α) : Bool := tblSortedFrom 0 t

/-- A fixed-length list with one place changed; other places, and a place outside it, unchanged. -/
def listUpd {α : Type} : List α → Nat → (α → α) → List α
  | [], _, _ => []
  | x :: xs, 0, f => f x :: xs
  | x :: xs, n + 1, f => x :: listUpd xs n f

/-- A cycle number is ahead of another (R15). -/
def cycleAhead (a b : Cycle) : Bool := a != b && decide ((a - b).toNat < 2 ^ 39)

end Sys2Proof.Machine
end

