-- ==== Sys2Proof/Machine/TimeState.lean ====
section
/-! DEFINITION. The state of the four time scales, the triggers, the captures and the calendar (03_time). -/

namespace Sys2Proof.Machine

/-- Tracker states (R75). -/
inductive Tracker where
  | search | locked | holdover | absent
deriving DecidableEq, Repr

/-- Codes of the tracker (R75). -/
def Tracker.code : Tracker → Nat
  | .search => 0 | .locked => 1 | .holdover => 2 | .absent => 3

/-- Synchronisation states (R86). -/
inductive Sync where
  | free | acquiring | locked | holdover
deriving DecidableEq, Repr

/-- One crossing table entry (R79). -/
structure Crossing where
  /-- R79: cycle number -/
  num : Cycle
  /-- R79: ZC_A stamp, ns of network time after compensation -/
  stamp : Nat
  /-- R79: ZC_B offset in ns; none where no ZC_B crossing was seen -/
  offB : Option Int
  /-- R79: ZC_C offset in ns; none where no ZC_C crossing was seen -/
  offC : Option Int
  /-- R79: NOT_TRACEABLE -/
  notTraceable : Bool
  /-- R77: ESTIMATED -/
  estimated : Bool
  /-- R76: PREDICTED -/
  predicted : Bool
  /-- R76: RELOCK -/
  relock : Bool
deriving DecidableEq, Repr

/-- A cycle snapshot in MRAM (R77). -/
structure CycleSnap where
  /-- R77: current cycle number -/
  num : Cycle
  /-- R77: its stamp, ns -/
  stamp : Nat
  /-- R77: measured period, ns -/
  period : Nat
deriving DecidableEq, Repr

/-- A calendar time (R95), held as numbers and shown as BCD8. -/
structure CalTime where
  /-- R95: year with century, 2000-2399 -/
  year : Nat := 2000
  /-- R95: month 1-12 -/
  month : Nat := 1
  /-- R95: day 1-31 -/
  day : Nat := 1
  /-- R95: hours 0-23 -/
  hour : Nat := 0
  /-- R95: minutes 0-59 -/
  minute : Nat := 0
  /-- R95: seconds 0-59 -/
  second : Nat := 0
deriving DecidableEq, Repr

/-- States of a trigger (R92). -/
inductive TrigSt where
  | idle | armed | fired | firedLate
deriving DecidableEq, Repr

/-- The status members of a trigger record (R92). -/
structure Trigger where
  /-- R92: state, 0x3300+n:07; reset idle -/
  st : TrigSt := .idle
  /-- R92: fired at, 0x3300+n:08, ns of network time; reset 0 -/
  firedAt : Nat := 0
  /-- R92: resolved cycle, 0x3300+n:09; reset 0 -/
  resolved : Cycle := 0
deriving DecidableEq, Repr

/-- One capture (R94). -/
structure Capture where
  /-- R94: last stamp, 0x3500+c:02, ns of network time; reset 0 -/
  last : Nat := 0
  /-- R94: capture count, 0x3500+c:03; reset 0 -/
  count : U32 := 0
  /-- R94: network time until which a button's input is debounced; reset 0 -/
  quietTo : Nat := 0
deriving DecidableEq, Repr

/-- One trim bin (R101). -/
structure TrimBin where
  /-- R101: correction in units of 0.001 ppm; reset 0 -/
  value : Int := 0
  /-- R101: windows in a row that agreed within 0.2 ppm; reset 0 -/
  agree : Nat := 0
  /-- R101: valid after four agreeing windows; reset false -/
  valid : Bool := false
deriving DecidableEq, Repr

/-- What a PTP port knows of the grandmaster it hears (R83, R84). -/
structure PtpPort where
  /-- R84: best announce heard, as its ranking and identity; reset none -/
  announce : Option (Nat × Nat) := none
  /-- R83: the announce itself, which a boundary clock passes on; reset none -/
  parent : Option PtpAnnounce := none
  /-- R83: mean path delay in ns, none until measured; reset none -/
  pathDelay : Option Int := none
  /-- R84: announce intervals missed in a row; reset 0 -/
  missedAnnounce : Nat := 0
  /-- R83: Sync messages sent on the port; reset 0 -/
  sent : Nat := 0
deriving DecidableEq, Repr

/-- Time. -/
structure TimeState where
  /-- R150: re-locks of the last 16 cycles, newest first: number and displacement, ns; reset none -/
  slips : List (Cycle × Int) := []
  /-- R391, R393: monotonic 32.768 kHz ticks; reset 0 -/
  mono : Nat := 0
  /-- R82: network time, ns since the PTP epoch; at reset from the legal calendar (R86), 946,684,800 s + 37 s for 2000-01-01 -/
  net : Nat := 946684837000000000
  /-- R93: fraction of a nanosecond of network time, in units of 1/(64 x 10^12) ns; model's own, reset 0 -/
  netFrac : Nat := 0
  /-- R75: tracker state 0x3100:06; reset SEARCH -/
  tracker : Tracker := .search
  /-- R74: last crossing entered, real or predicted, as prediction base (ns, shifted by steps per R76); reset none -/
  lastStamp : Option Nat := none
  /-- R76: last measured period in ns; at reset the nominal period (0x3100:05) -/
  period : Nat := 20000000
  /-- R81: measured frequency 0x3100:07 valid since reset; reset false -/
  measured : Bool := false
  /-- R141: the tracker has been LOCKED since reset; model's own, reset false (log entry 58) -/
  everLocked : Bool := false
  /-- R75: predicted crossings in a row; reset 0 -/
  predictedRun : Nat := 0
  /-- R75, R150: a disturbed crossing of ZC_A was seen since the last lock; model's own, reset false (log entry 53) -/
  zcSeen : Bool := false
  /-- R141: last measured offset of a ZC_B crossing after its ZC_A crossing, in ns, since reset; reset none -/
  lastB : Option Int := none
  /-- R141: as lastB, of ZC_C; reset none -/
  lastC : Option Int := none
  /-- R150: last ZC_B crossing (stamp) and its consecutive disturbed crossings; reset none -/
  zcB : Option (Nat × Nat) := none
  /-- R150: last ZC_C crossing (stamp) and its consecutive disturbed crossings; reset none -/
  zcC : Option (Nat × Nat) := none
  /-- R81: current cycle number 0x3100:08; reset 0 without snapshot -/
  cycle : Cycle := 0
  /-- R78: number the next real crossing takes after an epoch set; reset none -/
  epochNext : Option Cycle := none
  /-- R79: crossing table, newest first (2,048); reset empty -/
  table : List Crossing := []
  /-- R77: snapshot in MRAM; reset none before commissioning -/
  snap : Option CycleSnap := none
  /-- R86: sync state 0x3110:09; reset FREE -/
  sync : Sync := .free
  /-- R86: consecutive qualifying offsets or pulses; reset 0 -/
  acq : Nat := 0
  /-- R91: last offset 0x3110:0A in ns; reset 0 -/
  lastOffset : Int := 0
  /-- R91: rate adjustment 0x3110:0B in 10^-12; reset 0 -/
  rate : Int := 0
  /-- R87: learned oscillator rate in 10^-12; reset 0 -/
  learned : Int := 0
  /-- R88: running sum of offsets in ns; reset 0 -/
  integral : Int := 0
  /-- R88: rate in use when the mode changed, from which the integral starts; reset 0 -/
  rateBase : Int := 0
  /-- R88: consecutive offsets above the servo step threshold; reset 0 -/
  badOffsets : Nat := 0
  /-- R91: steps taken 0x3110:0C; reset 0 -/
  steps : U32 := 0
  /-- R91: monotonic tick at which HOLDOVER was entered; reset none -/
  holdSince : Option Nat := none
  /-- R82: UTC offset from announces when flagged valid; reset none -/
  utcOffset : Option Int := none
  /-- R84: slave port, 0-3; reset none -/
  slave : Option Nat := none
  /-- R83: the PTP ports ETH0-ETH3; reset empty -/
  ptp : Tbl PtpPort := []
  /-- R86: stamp of the last PPS_IN pulse in ns; reset none -/
  lastPps : Option Nat := none
  /-- R90: PPS_OUT pulses given; reset 0 -/
  ppsOut : Nat := 0
  /-- R92: trigger status members, 32; reset idle -/
  triggers : Tbl Trigger := []
  /-- R93: time-target latches fired and waiting for the first crossing at or after their firing (trigger, latch identifier,
  network time of the firing), oldest first; reset none -/
  trigLatch : List (Nat × U16 × Nat) := []
  /-- R94: captures, 6; reset 0 -/
  captures : Tbl Capture := []
  /-- R95: calendar time; reset 2000-01-01 00:00:00 (R411) -/
  cal : CalTime := {}
  /-- R95: sub-second count, 15 bits; reset 0 (R411) -/
  sub : BitVec 15 := 0
  /-- R105: OSF; reset set at the first power-up of the backup domain (R102) -/
  osf : Bool := true
  /-- R105: CAL_WRAP; reset clear (R411) -/
  calWrap : Bool := false
  /-- R105: RTC_SET_ERR; reset clear (R411) -/
  setErr : Bool := false
  /-- R105: DIVERGED; reset clear (R411) -/
  diverged : Bool := false
  /-- R99: ticks left of a hold in progress (HOLD set while some); reset none -/
  hold : Option Nat := none
  /-- R103: LOCKOUT; reset released by the trusted island during start-up -/
  lockout : Bool := false
  /-- R72, R102: TIME_UNTRUSTED; reset set with OSF -/
  untrusted : Bool := true
  /-- R102: the 32.768 kHz oscillator is stopped; reset running -/
  oscStopped : Bool := false
  /-- R98: set that reached the always-on island and waits for a tick, with its requester and whether it came by 0x3201:00; reset none -/
  pendSet : Option (CalTime × Option (Req × Bool)) := none
  /-- R100: set of calendar discipline that waits for the second boundary of its time; reset none -/
  discSet : Option CalTime := none
  /-- R100, R101: samples of calendar discipline fed to the open learning window, newest first, in ns; reset empty -/
  trimFed : List Int := []
  /-- R99: shift that reached the always-on island and waits for a tick; reset none -/
  pendShift : Option (Int × Option Req) := none
  /-- R98, R99, R287: calendar adjustments on their way to the billing engine, oldest first, in 1/32,768 s; reset empty -/
  adjust : List Int := []
  /-- R101: temperature at the last sample, 0.1 degC; reset DESIGN CHOICE 250 (log entry 2) -/
  temp : Int := 250
  /-- R101: trim bins 0-15; reset none learned -/
  trim : Tbl TrimBin := []
  /-- R101: copy of the trim bins in MRAM; reset none learned -/
  trimMram : Tbl TrimBin := []
  /-- R101: correction error accumulated, in units of 10^-9 tick; reset 0 -/
  trimAcc : Int := 0
  /-- R107: offset in force 0x3403:00, minutes; reset the base offset 0 -/
  dst : Int := 0
deriving DecidableEq, Repr

end Sys2Proof.Machine
end

