-- ==== Sys2Proof/Machine/Calendar.lean ====
section
/-! DEFINITION. Calendar arithmetic (R95, R96), crystal trim (R101), and the offset table's arithmetic (R107). -/

namespace Sys2Proof.Machine

/-- The Gregorian leap-year rule (R96). -/
def leapYear (y : Nat) : Bool := (y % 4 == 0 && y % 100 != 0) || y % 400 == 0

/-- Days of a month (R96). -/
def monthDays (y m : Nat) : Nat :=
  if m = 2 then (if leapYear y then 29 else 28) else if m = 4 ∨ m = 6 ∨ m = 9 ∨ m = 11 then 30 else 31

/-- A calendar time that a set may carry (R97). -/
def CalTime.valid (c : CalTime) : Bool :=
  decide (c.second ≤ 59) && decide (c.minute ≤ 59) && decide (c.hour ≤ 23) && decide (1 ≤ c.month) && decide (c.month ≤ 12) &&
  decide (1 ≤ c.day) && decide (c.day ≤ monthDays c.year c.month) && decide (2000 ≤ c.year) && decide (c.year ≤ 2399)

/-- Days before a year, from 2000-01-01. -/
def daysBeforeYear (y : Nat) : Nat :=
  let n := y - 2000
  365 * n + (n + 3) / 4 - (n + 99) / 100 + (n + 399) / 400

/-- Days before a month in its year. -/
def daysBeforeMonth (y m : Nat) : Nat := ((List.range (m - 1)).map (fun k => monthDays y (k + 1))).foldl (· + ·) 0

/-- Days since 2000-01-01 of a date. -/
def daysOf (c : CalTime) : Nat := daysBeforeYear c.year + daysBeforeMonth c.year c.month + (c.day - 1)

/-- Seconds since 2000-01-01 00:00:00 of a calendar time. -/
def CalTime.secs (c : CalTime) : Nat := daysOf c * 86400 + c.hour * 3600 + c.minute * 60 + c.second

/-- Day of week, 1 Monday to 7 Sunday; 2000-01-01 is a Saturday (R95, R96). -/
def dayOfWeek (days : Nat) : Nat := (days + 5) % 7 + 1

/-- Month and day within a year from the days left, from month m on; k months to try. -/
def monthFrom (y : Nat) : Nat → Nat → Nat → Nat × Nat
  | 0, m, d => (m, d + 1)
  | k + 1, m, d => if d < monthDays y m then (m, d + 1) else monthFrom y k (m + 1) (d - monthDays y m)

/-- The year of a day number: the estimate by the mean year, moved back or on by one where needed. -/
def yearOf (days : Nat) : Nat :=
  let y := 2000 + days * 400 / 146097
  if days < daysBeforeYear y then y - 1
  else if daysBeforeYear (y + 1) ≤ days then y + 1 else y

/-- The calendar time of a count of seconds since 2000-01-01 00:00:00. -/
def CalTime.ofSecs (n : Nat) : CalTime :=
  let days := n / 86400
  let y := yearOf days
  let md := monthFrom y 11 1 (days - daysBeforeYear y)
  { year := y, month := md.1, day := md.2, hour := n / 3600 % 24, minute := n / 60 % 60, second := n % 60 }

/-- The last second of the calendar's range (R96). -/
def calLast : CalTime := { year := 2399, month := 12, day := 31, hour := 23, minute := 59, second := 59 }

/-- The next second of a calendar time, and whether the calendar wrapped (R96). -/
def CalTime.next (c : CalTime) : CalTime × Bool :=
  if c = calLast then ({}, true)
  else if c.second < 59 then ({ c with second := c.second + 1 }, false)
  else if c.minute < 59 then ({ c with second := 0, minute := c.minute + 1 }, false)
  else if c.hour < 23 then ({ c with second := 0, minute := 0, hour := c.hour + 1 }, false)
  else if c.day < monthDays c.year c.month then
    ({ c with second := 0, minute := 0, hour := 0, day := c.day + 1 }, false)
  else if c.month < 12 then
    ({ c with second := 0, minute := 0, hour := 0, day := 1, month := c.month + 1 }, false)
  else ({ year := c.year + 1 }, false)

/-- The time a set argument spells: seconds, minutes, hours, day, month, year, century in BCD (R97). -/
def CalTime.ofBcd7 (b : Bytes) : CalTime :=
  let n := fun i => ofBcd (b.getD i 0)
  { second := n 0, minute := n 1, hour := n 2, day := n 3, month := n 4, year := n 6 * 100 + n 5 }

/-- A set argument is accepted (R97): every nibble a digit, every member in range. -/
def setArgOk (b : Bytes) : Bool := b.all bcdOk && (CalTime.ofBcd7 b).valid

/-- The trim bin of a temperature in 0.1 degC: sixteen bins of 8 degC from -40 degC (R101). -/
def trimBin (temp : Int) : Nat := min 15 (((temp + 400) / 80).toNat)

/-- The middle temperature of a trim bin. -/
def trimMiddle (k : Nat) : Int := -400 + 80 * (k : Int) + 40

/-- The nearest valid bin at or below k. -/
def trimBelow (t : Tbl TrimBin) : Nat → Option Nat
  | 0 => if (tblGet {} t 0).valid then some 0 else none
  | k + 1 => if (tblGet {} t (k + 1)).valid then some (k + 1) else trimBelow t k

/-- The nearest valid bin at or above 15 - j. -/
def trimAbove (t : Tbl TrimBin) (k : Nat) : Option Nat := (List.range 16).find? (fun j => k ≤ j && (tblGet {} t j).valid)

/-- An integer kept within plus or minus a limit. -/
def clampTo (lim x : Int) : Int := if x < -lim then -lim else if lim < x then lim else x

end Sys2Proof.Machine
end

