-- ==== Sys2Proof/Config.lean ====
section
/-! DEFINITION. What the spec leaves open or leaves to a named standard, as constants without a body: nothing in Lean
can evaluate one or prove a value of it, so every claim holds whatever it is. Random draws are a function of a draw
counter that State holds; cryptographic functions are functions of their inputs and carry no assumption. -/

namespace Sys2Proof.Config

/-- The n-th draw of the device's random source: challenges (R48, R129, R399), claim and beacon draws. The spec
states no value (log entry 3). -/
opaque random : Nat → BitVec 128
/-- HMAC-SHA-256 of a message under a key (R48, R399), by the named standard (log entry 4). -/
opaque hmac : Bytes → Bytes → Bytes
/-- SHA-256 (R355, R449), by the named standard (log entry 4). -/
opaque sha256 : Bytes → Bytes
/-- SHA-384 (R110), by the named standard (log entry 4). -/
opaque sha384 : Bytes → Bytes
/-- Counter-mode KDF of SP 800-108 with HMAC-SHA-384 (R113): key, fixed input, output bits (log entry 4). -/
opaque kdf384 : Bytes → Bytes → Nat → Bytes
/-- The same KDF with HMAC-SHA-256 and 256 bits (R120): key, fixed input (log entry 4). -/
opaque kdf256 : Bytes → Bytes → Bytes
/-- Reduction of 448 bits to a private scalar, FIPS 186-5 A.2.1 (R113, log entry 4). -/
opaque scalar : Bytes → Bytes
/-- P-384 public key of a scalar, 97 bytes uncompressed (R132, log entry 4). -/
opaque pubKey : Bytes → Bytes
/-- ECDH P-384: own scalar, peer public key (R120, log entry 4). -/
opaque ecdh : Bytes → Bytes → Bytes
/-- RFC 3394 unwrap: key, initial value, wrapped bytes; none where the integrity check fails (R120, R124, log entry 4). -/
opaque unwrap : Bytes → Bytes → Bytes → Option Bytes
/-- RFC 3394 wrap: key, initial value, key data (R127, log entry 4). -/
opaque wrap : Bytes → Bytes → Bytes → Bytes
/-- Ed25519 verification: public key, message, signature (R129, R349, log entry 4). -/
opaque ed25519 : Bytes → Bytes → Bytes → Bool
/-- ECDSA P-384 verification with SHA-384: public key, message, signature (log entry 4). -/
opaque ecdsaOk : Bytes → Bytes → Bytes → Bool
/-- ES384 signature: scalar, message; 96 bytes (R130, log entry 4). -/
opaque es384 : Bytes → Bytes → Bytes
/-- AES-CCM* opening: key, nonce, authenticated bytes, encrypted payload, MIC; the payload, none where the MIC fails
(R143, log entry 4). -/
opaque ccmOpen : Bytes → Bytes → Bytes → Bytes → Bytes → Option Bytes
/-- AES-CCM* sealing: key, nonce, authenticated bytes, payload; encrypted payload and 16-byte MIC (R143, log entry 4). -/
opaque ccmSeal : Bytes → Bytes → Bytes → Bytes → Bytes
/-- AES-CMAC of a message under a key (R144, R170, R197, log entry 4). -/
opaque cmac : Bytes → Bytes → Bytes
/-- Whether the integrity code of a frame of a standard generation verifies, and its content: generation code of R196,
key, frame (R162, R163, R187, log entry 4). -/
opaque stdOpen : Nat → Bytes → Bytes → Option Bytes
/-- Decryption of a Wireless M-Bus mode 5 frame under a key: its decrypted bytes (EN 13757-7, R162). -/
opaque wmDecrypt : Bytes → Bytes → Bytes
/-- LBP EAP-PSK content that delivers a G3 group key under a partner's own key (ITU-T G.9903, R140): own key, group key. -/
opaque eapPsk : Bytes → Bytes → Bytes
/-- XTS-AES-256 of a data unit: the two keys, tweak, data (R337, log entry 4). -/
opaque xts : Bytes → Bytes → Nat → Bytes → Bytes
/-- Image pages that the on-chip caches of Station profile hold (R28); the spec gives no number (log entry 69). -/
opaque cachedPages : Nat
/-- CRC-32C of bytes (R183, R189), by the named polynomial (log entry 4). -/
opaque crc32c : Bytes → Nat

/-- A number the spec leaves open at one place of an effect: by the place and by a counter in State, so that no two are
related (log entry 6). -/
opaque openInt : Nat → Nat → Int
/-- The factory crystal curve: correction in 0.001 ppm by temperature in 0.1 degC (R101); the spec gives no values (log
entry 6). -/
opaque factoryCurve : Int → Int

/-- Responses that may wait in a session's queue (R216); the spec gives no depth (log entry 6). -/
opaque sessionDepth : Nat

/-- Peak of the context-memory channel in 64-byte transfers per second (R218); the spec gives no figure (log entry 6). -/
opaque ctxPeak : Nat

/-- Offset of a channel in LSB by its factory calibration record (R235, R236); the spec gives no values (log entry 6). -/
opaque factoryOffset : Nat → Int
/-- Factory gain of a channel at a front-end temperature in 0.1 degC and a reference divergence in ppb, applied to an input in nV
(R235, R236, log entry 6). -/
opaque factoryGain : Nat → Int → Nat → Int → Int
/-- The digital integrator of a Rogowski channel (R231, R235 step 5): sample interval in ns, what it held, and the scaled sample;
the spec gives its corner and no coefficients (log entry 6). -/
opaque rogowski : Nat → Int → Int → Int
/-- Skew of a channel in ns by its factory calibration record, at a front-end temperature in 0.1 degC (R235, R236); the spec gives
no values (log entry 6). -/
opaque factorySkew : Nat → Int → Int
/-- The fractional delay (R235 step 6): sample interval in ns, delay in ns, mains period in ns whose phase lead is removed (0 for a
kind that has none), the samples newest first; the spec gives no filter coefficients (log entry 6). -/
opaque weirDelay : Nat → Int → Nat → List Int → Int
/-- e to the power of a binary64 number (R313, R314), whose rounding the spec leaves open (log entry 6). -/
opaque expF64 : BitVec 64 → BitVec 64

/-- A data structure that an Identify, Get Log Page or Get Features command returns: which one, and the values the spec
gives it (R341); its layout is that of the named standard (log entry 6). -/
opaque nvmeData : Nat → List Nat → Bytes

/-- The image that a kind's slot A holds as it leaves the factory, header included (R348); the spec gives no content (log
entry 6). -/
opaque factoryImage : Nat → Bytes
/-- The image that a microcode bundle holds for a sequencer kind, 0 PLC, 1 RF, 2 serial (R348); the spec gives no bundle
layout (log entry 6). -/
opaque bundlePart : Nat → Bytes → Bytes

/-- The activate_passive_calendar_time that a tariff campaign's content carries, ns of network time, 0 where it carries none
(R361); the content is laid out by the named standard (log entry 6). -/
opaque passiveTime : Bytes → Nat

/-- The ciphered DLMS APDU that carries a message to a meter: its form (suite, authentication mechanism, ciphering, service and
class, R199), handle, message code, arguments; its encoding is that of the named standards (R431, log entry 6). -/
opaque dlms : List Nat → Nat → Nat → List Int → Bytes

/-- Group delay of the decimation filter in ns at a sample rate code (R233, 0x6000:08); the spec gives no figure (log entry
6). -/
opaque groupDelay : Nat → U32
/-- MAC address of an Ethernet port by SERIAL (R443, Be8:02); the spec gives no derivation (log entry 6). -/
opaque macAddress : Nat → U32 → BitVec 48

/-- Invocation counter of the ciphered DLMS APDU that the content of a frame carries, none where it carries none (R199, R200);
encoded by the named standards (log entry 55). -/
opaque apduCounter : Bytes → Option (BitVec 32)
/-- Latch identifier of the latch status and values that a reading carries, none where it carries none (R201, R203); encoded by
the named standards (log entry 55). -/
opaque latchContent : Bytes → Option (BitVec 16)

/-- How the service display rounds a quotient that its decimals do not hold: dividend, divisor (R296); the spec states no
rounding (log entry 6). -/
opaque roundShown : Int → Nat → Int
/-- The 4-character label under which an empty display list shows the calendar time (R296); the spec gives none (log entry
6). -/
opaque clockLabel : BitVec 32

/-- What the samples of calendar discipline fed to a learning window add to its learned value, in 0.001 ppm; the spec does not
say how they weigh (R100, R101, log entry 65). -/
opaque trimFeed : List Int → Int

end Sys2Proof.Config
end

