-- ==== Sys2Proof/Machine/DictState.lean ====
section
/-! DEFINITION. The state of the object dictionary (02_dictionary): the values objects hold, staged and committed sets,
groups, sessions and transfers. -/

namespace Sys2Proof.Machine

/-- Roles, least to most privileged (R22). -/
inductive Role where
  | observer | operator | installer | utility | vendor
deriving DecidableEq, Repr

/-- Abort codes (R69). -/
inductive Abort where
  | toggleError | timeout | specifierInvalid | unsupportedAccess | readOfWriteOnly | writeToReadOnly
  | noObject | lengthInvalid | noSubindex | valueInvalid | generalError | cannotStore | fuseLocked
  | deviceBusy | accessDenied | lifeCycle | notReady | inStandby | groupBusy | groupInconsistent
deriving DecidableEq, Repr

/-- A segmented or block-wise transfer in progress (R59, R63, R450). -/
structure Xfer where
  /-- R63: a download (write) or an upload (read) -/
  download : Bool
  /-- R59: the object named -/
  key : ObjKey
  /-- R59: bytes received so far, or still to be sent -/
  buf : Bytes
  /-- R63: toggle bit of the last segment taken -/
  toggle : Bool
  /-- R450: total size announced at the initiate -/
  size : Option Nat
deriving DecidableEq, Repr

/-- One dictionary session (R47). -/
structure Session where
  /-- R47: role held by the session; reset Observer -/
  role : Role := .observer
  /-- R48: challenge last drawn for the session; reset none drawn -/
  challenge : Option (BitVec 128) := none
  /-- R129: vendor challenge last drawn for the session; reset none drawn -/
  vendorChallenge : Option (BitVec 128) := none
  /-- R399: clear challenge last drawn for the session; reset none drawn -/
  clearChallenge : Option (BitVec 128) := none
  /-- R43, R52, R483: per-session selectors and volatile objects written; reset empty (defaults) -/
  vals : Tbl Bytes := []
  /-- R59: transfer in progress; reset none -/
  xfer : Option Xfer := none
  /-- R129: seconds the Vendor role was granted for; reset 0 -/
  vendorLimit : Nat := 0
  /-- R440, R47: the probe or mailbox session or DTLS association is open; reset closed -/
  isOpen : Bool := false
  /-- R128: peer digest of a DTLS association; reset empty -/
  peer : Bytes := []
  /-- R55: values of group 0x00 that the session acts on until the end of its current request, by key; reset none -/
  older : Tbl Bytes := []
deriving DecidableEq, Repr

/-- State of a consistency group (R53, R57, R58). -/
inductive GroupSt where
  | idle | pending | applying | mismatch
deriving DecidableEq, Repr

/-- One consistency group (R57). -/
structure Group where
  /-- R57: state, 0x1F00+g:01; reset IDLE -/
  st : GroupSt := .idle
  /-- R57: last applied, 0x1F00+g:05, ns of network time; reset 0 -/
  lastApplied : Nat := 0
  /-- R57: apply count, 0x1F00+g:06; reset 0 -/
  applyCount : U32 := 0
  /-- R57: mismatch since, 0x1F00+g:08, ns of network time; reset 0 -/
  mismatchSince : Nat := 0
  /-- R58: the CFG_MISMATCH event of this episode has been raised; reset false -/
  mismatchRaised : Bool := false
deriving DecidableEq, Repr

/-- The object dictionary. -/
structure DictState where
  /-- R51: values stored by writes (persistent ones in MRAM), by object and item; unlisted objects hold their default; reset empty -/
  vals : Tbl Bytes := []
  /-- R52: pending values of staged objects; reset empty -/
  pend : Tbl Bytes := []
  /-- R54: committed sets waiting for their safe point; reset empty -/
  committed : Tbl Bytes := []
  /-- R58, R19: values still acted on while a newer stored value is not yet in force (mismatch, next reset, next period, next activation); reset empty -/
  shadow : Tbl Bytes := []
  /-- R279: tariff tables that have a committed version; reset none -/
  tables : List Nat := []
  /-- R57: the group records 0x1F00-0x1F26; reset all IDLE -/
  groups : Tbl Group := []
  /-- R47: the sessions; reset none (each starts as Observer) -/
  sessions : Tbl Session := []
  /-- R48: consecutive wrong responses per transport code; reset 0 -/
  wrong : Tbl Nat := []
  /-- R48: transports on which 0x1021:00 is locked out; reset none -/
  locked : List Transport := []
  /-- R45, R484: command status (state, last abort code) per command object; reset 0, 0 -/
  cmd : Tbl (Nat × U32) := []
  /-- R68: the dictionary is available; reset false -/
  available : Bool := false
  /-- R51: restore of defaults requested for the next reset; reset false -/
  restore : Bool := false
  /-- R71: configuration generation 0x1071:00; reset 0 -/
  generation : U32 := 0
  /-- R48, R129, R399: number of random draws made so far; model's own counter, DESIGN CHOICE 0 (log entry 3) -/
  draws : Nat := 0
deriving DecidableEq, Repr

end Sys2Proof.Machine
end

