-- ==== Sys2Proof/Machine/Objects.lean ====
section
/-! DEFINITION. What a row of an object table says (R19, R44, R45), and the checks a value passes before it is stored. -/

namespace Sys2Proof.Machine

/-- Encodings of R44, with a command's empty argument; octz is an OCTETS value of exactly n bytes or empty. -/
inductive OType where
  | bool | u (n : Nat) | i (n : Nat) | f64 | bcd | oct (lo hi : Nat) | octz (n : Nat) | vstr (hi : Nat) | time64 | cyc | empty
deriving DecidableEq, Repr

/-- Access classes (R45). -/
inductive Acc where
  | ro | rw | wo | rws | cmd
deriving DecidableEq, Repr

/-- Values a writable object accepts (its stated range, and zero where its Zero means column gives zero a meaning). -/
inductive Rng where
  | any
  | rng (lo hi : Int)
  | rngOr (lo hi other : Int)
  | mul (lo hi step : Int)
  | one (vals : List Int)
  | orZero (r : Rng)
deriving DecidableEq, Repr

/-- The Takes effect column (R19); internal marks the commands that only the device itself starts. -/
inductive Effect where
  | none | immediate | volatile | commit | nextReset | nextPeriod | nextActivation | internal
deriving DecidableEq, Repr

/-- Which item an access addresses: the object itself, a meter (R43), the item of a per-session selector (R52), or the
session's own copy (R483). -/
inductive Inst where
  | one | meter | sel (key : Nat) | session
deriving DecidableEq, Repr

/-- One row of an object table. -/
structure ObjRow where
  index : Nat
  sub : Nat
  subTo : Nat
  ports : Nat
  stride : Nat
  ty : OType
  acc : Acc
  role : Role
  dflt : Nat
  rng : Rng
  eff : Effect
  group : Nat
  gstep : Nat
  inst : Inst
deriving DecidableEq, Repr

/-- An object's number: index x 256 + subindex. -/
def ObjKey.num (k : ObjKey) : Nat := k.index.toNat * 256 + k.sub.toNat

/-- The port of a row's block that an index names, if it is one of them. -/
def ObjRow.portOf (o : ObjRow) (ix : Nat) : Option Nat :=
  if ix < o.index then none
  else if (ix - o.index) % o.stride = 0 && (ix - o.index) / o.stride < o.ports then some ((ix - o.index) / o.stride)
  else none

/-- The row describes the object. -/
def ObjRow.covers (o : ObjRow) (ix sub : Nat) : Bool :=
  o.sub.ble sub && sub.ble o.subTo && o.index.ble ix && (o.portOf ix).isSome

/-- Size in bytes of the fixed encodings, and of the shortest value of the others (R44). -/
def OType.width : OType → Nat
  | .bool => 1 | .u n => n | .i n => n | .f64 => 8 | .bcd => 1 | .oct lo _ => 2 + lo | .octz _ => 2 | .vstr _ => 1
  | .time64 => 12 | .cyc => 8 | .empty => 0

/-- The row's default value in its encoding (R19, R51). -/
def ObjRow.dfltBytes (o : ObjRow) : Bytes :=
  match o.ty with
  | .oct _ _ => leBytes (2 + o.dflt % 65536) o.dflt
  | t => leBytes t.width o.dflt

/-- A range admits an integer. -/
def Rng.admits : Rng → Int → Bool
  | .any, _ => true
  | .rng lo hi, v => decide (lo ≤ v) && decide (v ≤ hi)
  | .rngOr lo hi o, v => (decide (lo ≤ v) && decide (v ≤ hi)) || decide (v = o)
  | .mul lo hi st, v => decide (lo ≤ v) && decide (v ≤ hi) && decide (v % st = 0)
  | .one vs, v => vs.contains v
  | .orZero r, v => decide (v = 0) || r.admits v

/-- Bytes of a UTF-8 sequence still expected after a lead byte (R44), none where the byte cannot lead. -/
def utf8Follow (b : Nat) : Option Nat :=
  if b < 0x80 then some 0 else if b < 0xC2 then none else if b < 0xE0 then some 1
  else if b < 0xF0 then some 2 else if b < 0xF5 then some 3 else none

/-- The bytes are valid UTF-8 (R44): n continuation bytes still expected, the next within lo to hi. -/
def utf8From : Nat → Nat → Nat → Bytes → Bool
  | n, _, _, [] => n == 0
  | 0, _, _, b :: bs =>
    match utf8Follow b.toNat with
    | none => false
    | some m =>
      let lo := if b.toNat = 0xE0 then 0xA0 else if b.toNat = 0xF0 then 0x90 else 0x80
      let hi := if b.toNat = 0xED then 0x9F else if b.toNat = 0xF4 then 0x8F else 0xBF
      utf8From m lo hi bs
  | n + 1, lo, hi, b :: bs => decide (lo ≤ b.toNat) && decide (b.toNat ≤ hi) && utf8From n 0x80 0xBF bs

/-- The integer a fixed-width value stands for. -/
def OType.toInt (t : OType) (v : Bytes) : Int :=
  match t with
  | .i n => toSigned (8 * n) (leNat v)
  | _ => (leNat v : Int)

/-- R44: the length matches the type; a length-prefixed value's prefix counts the bytes that follow. -/
def OType.lengthOk (t : OType) (v : Bytes) : Bool :=
  match t with
  | .oct _ _ => decide (2 ≤ v.length) && decide (fieldAt v 0 2 = v.length - 2)
  | .octz _ => decide (2 ≤ v.length) && decide (fieldAt v 0 2 = v.length - 2)
  | .vstr _ => decide (1 ≤ v.length) && decide (fieldAt v 0 1 = v.length - 1)
  | t => decide (v.length = t.width)

/-- R44: the value is one the type and the stated range allow. -/
def OType.valueOk (t : OType) (r : Rng) (v : Bytes) : Bool :=
  match t with
  | .bool => decide (leNat v ≤ 1)
  | .bcd => v.all bcdOk && r.admits (leNat v)
  | .f64 => decide (leNat v / 2 ^ 52 % 2048 ≠ 2047) && r.admits (leNat v)
  | .time64 => decide (fieldAt v 8 4 < 1000000000)
  | .cyc => decide (leNat v < 2 ^ 40)
  | .oct lo hi => decide (lo ≤ v.length - 2) && decide (v.length - 2 ≤ hi)
  | .octz n => decide (v.length = 2) || decide (v.length = 2 + n)
  | .vstr hi => decide (v.length - 1 ≤ hi) && utf8From 0 0 0 (v.drop 1)
  | t => r.admits (t.toInt v)

/-- What R44 and R70 say of a value written to an RW, WO or RWS object: the abort, or none. A wrong length is
"length invalid", and so is an empty value of a string object whose zero is rejected. -/
def ObjRow.checkValue (o : ObjRow) (v : Bytes) : Option Abort :=
  if !o.ty.lengthOk v then
    -- R70: a value of length zero stores an empty string where the type allows one
    (match o.ty with
     | .oct 0 _ => if v = [] then none else some .lengthInvalid
     | .octz _ => if v = [] then none else some .lengthInvalid
     | .vstr _ => if v = [] then none else some .lengthInvalid
     | _ => some .lengthInvalid)
  else if o.ty.valueOk o.rng v then none
  else match o.ty with
    | .oct lo _ => if v.length - 2 < lo then some .lengthInvalid else some .valueInvalid
    | .octz n => if v.length - 2 < n then some .lengthInvalid else some .valueInvalid
    | _ => some .valueInvalid

/-- The stored form of an accepted value: an empty transfer to a string object is the empty string (R70). -/
def ObjRow.stored (o : ObjRow) (v : Bytes) : Bytes :=
  if v = [] then (match o.ty with | .oct _ _ => [0, 0] | .octz _ => [0, 0] | .vstr _ => [0] | _ => v) else v

/-- Reserved fields of a writable object read back as zero (R11): bit 7 of a friendly window's day mask (R319), and the bits
of a queue target that its form does not use (R227). -/
def reservedZero (num : Nat) (v : Bytes) : Bytes :=
  if 0x705301 ≤ num ∧ num ≤ 0x705308 then v.zipIdx.map (fun x => if x.2 = 2 then x.1 &&& 0x7F else x.1)
  else if num = 0x901103 then
    let n := leNat v
    leBytes 4 (if n.testBit 31 then 2 ^ 31 + n % 32 else n % 16)
  else v

/-- What R45 and R70 say of a command's argument: its length, and the range of a plain number. -/
def ObjRow.checkArg (o : ObjRow) (v : Bytes) : Option Abort :=
  match o.ty with
  | .oct lo hi => if lo ≤ v.length ∧ v.length ≤ hi then none else some .lengthInvalid
  | .empty => if v = [] then none else some .lengthInvalid
  | t => if !t.lengthOk v then some .lengthInvalid else if t.valueOk o.rng v then none else some .valueInvalid

end Sys2Proof.Machine
end

