-- ==== Sys2Proof/Machine/ObjTable.lean ====
section
/-! DEFINITION. The dictionary's objects, one row for each row of the object tables of 02 to 19, chapter by chapter: index,
first and last subindex, number of ports and their index step, type, access, role, default, range, when it takes effect,
group and its step per port, item. -/

namespace Sys2Proof.Machine

/-- Objects of chapter 02, part A. -/
def objsIdentA : List ObjRow := [
  ⟨0x1000, 0, 0, 1, 1, .u 4, .ro, .observer, 0x71128, .any, .none, 255, 0, .one⟩,
  ⟨0x1002, 0, 0, 1, 1, .u 4, .ro, .observer, 0, .any, .none, 255, 0, .one⟩,
  ⟨0x1008, 0, 0, 1, 1, .u 1, .rw, .utility, 0, .rng 0 2, .nextReset, 255, 0, .one⟩,
  ⟨0x1009, 0, 0, 1, 1, .vstr 8, .ro, .observer, 0, .any, .none, 255, 0, .one⟩,
  ⟨0x100A, 0, 0, 1, 1, .vstr 32, .ro, .observer, 0, .any, .none, 255, 0, .one⟩,
  ⟨0x100B, 0, 0, 1, 1, .vstr 32, .ro, .observer, 0, .any, .none, 255, 0, .one⟩,
  ⟨0x100C, 0, 0, 1, 1, .vstr 32, .ro, .observer, 0, .any, .none, 255, 0, .one⟩,
  ⟨0x1011, 1, 1, 1, 1, .u 4, .cmd, .utility, 0, .any, .nextReset, 255, 0, .one⟩,
  ⟨0x1018, 0, 0, 1, 1, .u 1, .ro, .observer, 4, .any, .none, 255, 0, .one⟩,
  ⟨0x1018, 1, 1, 1, 1, .u 4, .ro, .observer, 0x58C, .any, .none, 255, 0, .one⟩,
  ⟨0x1018, 2, 2, 1, 1, .u 4, .ro, .observer, 0x7128, .any, .none, 255, 0, .one⟩,
  ⟨0x1018, 3, 3, 1, 1, .u 4, .ro, .observer, 176, .any, .none, 255, 0, .one⟩,
  ⟨0x1018, 4, 4, 1, 1, .u 4, .ro, .observer, 0, .any, .none, 255, 0, .one⟩,
  ⟨0x1020, 0, 0, 1, 1, .oct 16 16, .ro, .observer, 0, .any, .none, 255, 0, .one⟩,
  ⟨0x1021, 0, 0, 1, 1, .oct 33 33, .wo, .observer, 33, .any, .immediate, 255, 0, .one⟩,
  ⟨0x1022, 0, 0, 1, 1, .u 1, .ro, .observer, 1, .any, .none, 255, 0, .one⟩,
  ⟨0x1023, 0, 0, 1, 1, .u 2, .rw, .utility, 60, .rng (10) (3600), .immediate, 255, 0, .one⟩,
  ⟨0x1030, 1, 1, 1, 1, .u 2, .rws, .utility, 0x1634, .rng 1 65535, .commit, 0, 0, .one⟩,
  ⟨0x1030, 2, 2, 1, 1, .u 1, .rws, .utility, 16, .rng (0) (32), .commit, 0, 0, .one⟩,
  ⟨0x1040, 1, 1, 1, 1, .u 1, .rws, .installer, 32, .rng (1) (127), .commit, 0, 0, .one⟩,
  ⟨0x1040, 2, 2, 1, 1, .u 4, .rws, .installer, 0x7A120, .one [500000, 1000000], .commit, 0, 0, .one⟩,
  ⟨0x1040, 3, 3, 1, 1, .u 4, .rws, .installer, 0x1E8480, .one [2000000, 4000000, 5000000], .commit, 0, 0, .one⟩,
  ⟨0x1040, 4, 4, 1, 1, .u 2, .rws, .installer, 0x3E8, .rng (100) (10000), .commit, 0, 0, .one⟩,
  ⟨0x1050, 1, 1, 1, 1, .u 1, .rws, .utility, 8, .rng (0) (32), .commit, 0, 0, .one⟩,
  ⟨0x1060, 1, 1, 1, 1, .u 4, .rws, .installer, 0x4B00, .rng (300) (19200), .commit, 0, 0, .one⟩,
  ⟨0x1060, 2, 2, 1, 1, .u 1, .rws, .utility, 3, .rng (1) (3), .commit, 0, 0, .one⟩,
  ⟨0x1070, 0, 0, 1, 1, .oct 32 32, .ro, .observer, 0, .any, .none, 255, 0, .one⟩,
  ⟨0x1071, 0, 0, 1, 1, .u 4, .ro, .observer, 0, .any, .none, 255, 0, .one⟩,
  ⟨0x1090, 0, 0, 1, 1, .u 4, .rw, .observer, 0xFFFFF, .any, .volatile, 255, 0, .session⟩]

/-- Objects of chapter 02, part B. -/
def objsIdentB : List ObjRow := [
  ⟨0x1F00, 0, 0, 39, 1, .u 1, .ro, .observer, 8, .any, .none, 255, 0, .one⟩,
  ⟨0x1F00, 1, 1, 39, 1, .u 1, .ro, .observer, 0, .any, .none, 255, 0, .one⟩,
  ⟨0x1F00, 2, 2, 39, 1, .u 2, .ro, .observer, 0, .any, .none, 255, 0, .one⟩,
  ⟨0x1F00, 3, 3, 39, 1, .u 2, .cmd, .observer, 0, .any, .immediate, 255, 0, .one⟩,
  ⟨0x1F00, 4, 4, 39, 1, .u 1, .cmd, .observer, 0, .any, .immediate, 255, 0, .one⟩,
  ⟨0x1F00, 5, 5, 39, 1, .time64, .ro, .observer, 0, .any, .none, 255, 0, .one⟩,
  ⟨0x1F00, 6, 6, 39, 1, .u 4, .ro, .observer, 0, .any, .none, 255, 0, .one⟩,
  ⟨0x1F00, 7, 7, 39, 1, .u 1, .ro, .observer, 0, .any, .none, 255, 0, .one⟩,
  ⟨0x1F00, 8, 8, 39, 1, .time64, .ro, .observer, 0, .any, .none, 255, 0, .one⟩]

/-- Objects of chapter 03, part A. -/
def objsTimeA : List ObjRow := [
  ⟨0x3100, 0, 0, 1, 1, .u 1, .ro, .observer, 10, .any, .none, 255, 0, .one⟩,
  ⟨0x3100, 1, 1, 1, 1, .i 4, .rws, .installer, 0, .rng (-500000) (500000), .commit, 28, 0, .one⟩,
  ⟨0x3100, 2, 2, 1, 1, .i 4, .rws, .installer, 0, .rng (-500000) (500000), .commit, 28, 0, .one⟩,
  ⟨0x3100, 3, 3, 1, 1, .i 4, .rws, .installer, 0, .rng (-500000) (500000), .commit, 28, 0, .one⟩,
  ⟨0x3100, 4, 4, 1, 1, .u 2, .rws, .installer, 100, .rng (10) (2000), .commit, 28, 0, .one⟩,
  ⟨0x3100, 5, 5, 1, 1, .u 1, .rws, .installer, 50, .one [50, 60], .commit, 28, 0, .one⟩,
  ⟨0x3100, 6, 6, 1, 1, .u 1, .ro, .observer, 0, .any, .none, 255, 0, .one⟩,
  ⟨0x3100, 7, 7, 1, 1, .u 4, .ro, .observer, 0, .any, .none, 255, 0, .one⟩,
  ⟨0x3100, 8, 8, 1, 1, .cyc, .ro, .observer, 0, .any, .none, 255, 0, .one⟩,
  ⟨0x3100, 10, 10, 1, 1, .cyc, .cmd, .utility, 0, .any, .immediate, 255, 0, .one⟩,
  ⟨0x3101, 1, 1, 1, 1, .cyc, .rw, .observer, 0, .any, .volatile, 255, 0, .session⟩,
  ⟨0x3101, 2, 2, 1, 1, .oct 32 32, .ro, .observer, 0, .any, .none, 255, 0, .one⟩,
  ⟨0x3101, 3, 3, 1, 1, .cyc, .ro, .observer, 0, .any, .none, 255, 0, .one⟩,
  ⟨0x3101, 4, 4, 1, 1, .cyc, .ro, .observer, 0, .any, .none, 255, 0, .one⟩,
  ⟨0x3110, 1, 1, 1, 1, .time64, .ro, .observer, 0, .any, .none, 255, 0, .one⟩,
  ⟨0x3110, 2, 2, 1, 1, .u 1, .rws, .utility, 1, .rng 1 2, .commit, 28, 0, .one⟩,
  ⟨0x3110, 3, 3, 1, 1, .u 1, .rws, .utility, 1, .rng 1 3, .commit, 28, 0, .one⟩,
  ⟨0x3110, 4, 4, 1, 1, .u 2, .rws, .utility, 100, .rng (1) (500), .commit, 28, 0, .one⟩,
  ⟨0x3110, 5, 5, 1, 1, .u 4, .rws, .utility, 0, .rng (0) (3600000), .commit, 28, 0, .one⟩,
  ⟨0x3110, 6, 6, 1, 1, .u 4, .rws, .utility, 0xC350, .rng (1000) (1000000000), .commit, 28, 0, .one⟩,
  ⟨0x3110, 7, 7, 1, 1, .u 4, .rws, .utility, 0x8000, .rng (1) (65536), .commit, 28, 0, .one⟩,
  ⟨0x3110, 8, 8, 1, 1, .u 4, .rws, .utility, 0x2000, .rng (0) (65536), .commit, 28, 0, .one⟩,
  ⟨0x3110, 9, 9, 1, 1, .u 1, .ro, .observer, 0, .any, .none, 255, 0, .one⟩,
  ⟨0x3110, 10, 10, 1, 1, .i 8, .ro, .observer, 0, .any, .none, 255, 0, .one⟩,
  ⟨0x3110, 11, 11, 1, 1, .i 4, .ro, .observer, 0, .any, .none, 255, 0, .one⟩,
  ⟨0x3110, 12, 12, 1, 1, .u 4, .ro, .observer, 0, .any, .none, 255, 0, .one⟩,
  ⟨0x3110, 13, 13, 1, 1, .u 4, .ro, .observer, 0, .any, .none, 255, 0, .one⟩,
  ⟨0x3110, 14, 14, 1, 1, .i 2, .rws, .utility, 37, .rng (0) (255), .commit, 28, 0, .one⟩,
  ⟨0x3110, 15, 15, 1, 1, .i 2, .rws, .utility, 0, .mul (-720) (840) 15, .commit, 28, 0, .one⟩,
  ⟨0x3111, 1, 1, 1, 1, .u 1, .rws, .utility, 0, .any, .commit, 25, 0, .one⟩]

/-- Objects of chapter 03, part B. -/
def objsTimeB : List ObjRow := [
  ⟨0x3111, 2, 2, 1, 1, .u 1, .rws, .utility, 128, .any, .commit, 25, 0, .one⟩,
  ⟨0x3111, 3, 3, 1, 1, .u 1, .rws, .utility, 128, .any, .commit, 25, 0, .one⟩,
  ⟨0x3111, 4, 4, 1, 1, .bool, .rws, .utility, 1, .any, .commit, 25, 0, .one⟩,
  ⟨0x3112, 1, 1, 1, 1, .u 2, .rws, .installer, 100, .rng (0) (900), .commit, 28, 0, .one⟩,
  ⟨0x3200, 0, 0, 1, 1, .u 1, .ro, .observer, 11, .any, .none, 255, 0, .one⟩,
  ⟨0x3200, 1, 3, 1, 1, .bcd, .ro, .observer, 0, .any, .none, 255, 0, .one⟩,
  ⟨0x3200, 4, 4, 1, 1, .u 1, .ro, .observer, 0, .any, .none, 255, 0, .one⟩,
  ⟨0x3200, 5, 8, 1, 1, .bcd, .ro, .observer, 0, .any, .none, 255, 0, .one⟩,
  ⟨0x3200, 9, 9, 1, 1, .u 2, .ro, .observer, 0, .any, .none, 255, 0, .one⟩,
  ⟨0x3200, 10, 10, 1, 1, .u 2, .ro, .observer, 0, .any, .none, 255, 0, .one⟩,
  ⟨0x3200, 11, 11, 1, 1, .oct 10 10, .ro, .observer, 0, .any, .none, 255, 0, .one⟩,
  ⟨0x3201, 0, 0, 1, 1, .oct 7 7, .cmd, .installer, 7, .any, .immediate, 255, 0, .one⟩,
  ⟨0x3202, 0, 0, 1, 1, .i 2, .cmd, .installer, 0, .any, .immediate, 255, 0, .one⟩,
  ⟨0x3203, 0, 0, 1, 1, .u 1, .rws, .utility, 2, .rng (0) (2), .commit, 28, 0, .one⟩,
  ⟨0x3204, 1, 1, 1, 1, .i 4, .ro, .observer, 0, .any, .none, 255, 0, .one⟩,
  ⟨0x3204, 2, 2, 1, 1, .i 2, .ro, .observer, 0, .any, .none, 255, 0, .one⟩,
  ⟨0x3204, 3, 3, 1, 1, .u 2, .ro, .observer, 0, .any, .none, 255, 0, .one⟩,
  ⟨0x3204, 4, 4, 1, 1, .empty, .cmd, .utility, 0, .any, .immediate, 255, 0, .one⟩]

/-- Objects of chapter 03, part C. -/
def objsTimeC : List ObjRow := [
  ⟨0x3300, 0, 0, 32, 1, .u 1, .ro, .observer, 9, .any, .none, 255, 0, .one⟩,
  ⟨0x3300, 1, 1, 32, 1, .u 1, .rw, .utility, 0, .rng 0 4, .volatile, 255, 0, .one⟩,
  ⟨0x3300, 2, 2, 32, 1, .u 4, .rw, .utility, 0, .any, .volatile, 255, 0, .one⟩,
  ⟨0x3300, 3, 3, 32, 1, .u 1, .rw, .utility, 1, .rng 1 2, .volatile, 255, 0, .one⟩,
  ⟨0x3300, 4, 4, 32, 1, .time64, .rw, .utility, 0, .any, .volatile, 255, 0, .one⟩,
  ⟨0x3300, 5, 5, 32, 1, .cyc, .rw, .utility, 0, .any, .volatile, 255, 0, .one⟩,
  ⟨0x3300, 6, 6, 32, 1, .u 1, .cmd, .utility, 0, .rng 1 2, .immediate, 255, 0, .one⟩,
  ⟨0x3300, 7, 7, 32, 1, .u 1, .ro, .observer, 0, .any, .none, 255, 0, .one⟩,
  ⟨0x3300, 8, 8, 32, 1, .time64, .ro, .observer, 0, .any, .none, 255, 0, .one⟩,
  ⟨0x3300, 9, 9, 32, 1, .cyc, .ro, .observer, 0, .any, .none, 255, 0, .one⟩,
  ⟨0x3400, 0, 0, 1, 1, .u 1, .ro, .observer, 64, .any, .none, 255, 0, .one⟩,
  ⟨0x3400, 1, 64, 1, 1, .u 4, .rws, .utility, 0, .orZero (.rng 1 210379679), .commit, 32, 0, .one⟩,
  ⟨0x3401, 0, 0, 1, 1, .u 1, .ro, .observer, 64, .any, .none, 255, 0, .one⟩,
  ⟨0x3401, 1, 64, 1, 1, .i 2, .rws, .utility, 0, .mul (-180) 180 15, .commit, 32, 0, .one⟩,
  ⟨0x3402, 0, 0, 1, 1, .i 2, .rws, .utility, 0, .any, .commit, 32, 0, .one⟩,
  ⟨0x3403, 0, 0, 1, 1, .i 2, .ro, .observer, 0, .any, .none, 255, 0, .one⟩]

/-- Objects of chapter 03, part D. -/
def objsTimeD : List ObjRow := [
  ⟨0x3500, 1, 1, 6, 1, .u 1, .rw, .operator, 0, .rng 0 3, .immediate, 255, 0, .one⟩,
  ⟨0x3500, 2, 2, 6, 1, .time64, .ro, .observer, 0, .any, .none, 255, 0, .one⟩,
  ⟨0x3500, 3, 3, 6, 1, .u 4, .ro, .observer, 0, .any, .none, 255, 0, .one⟩]

/-- Objects of chapter 04, part A. -/
def objsTrustA : List ObjRow := [
  ⟨0xA000, 0, 0, 1, 1, .u 1, .ro, .observer, 0, .any, .none, 255, 0, .one⟩,
  ⟨0xA001, 0, 0, 1, 1, .bool, .ro, .observer, 0, .any, .none, 255, 0, .one⟩,
  ⟨0xA002, 0, 0, 1, 1, .oct 97 97, .ro, .observer, 0, .any, .none, 255, 0, .one⟩,
  ⟨0xA003, 0, 0, 1, 1, .oct 0 1024, .rw, .vendor, 0, .any, .immediate, 255, 0, .one⟩,
  ⟨0xA004, 0, 0, 1, 1, .oct 0 2048, .rw, .utility, 0, .any, .immediate, 255, 0, .one⟩,
  ⟨0xA005, 0, 0, 1, 1, .oct 97 97, .ro, .observer, 0, .any, .none, 255, 0, .one⟩,
  ⟨0xA010, 1, 1, 1, 1, .u 4, .cmd, .utility, 0, .any, .immediate, 255, 0, .one⟩,
  ⟨0xA011, 0, 0, 1, 1, .u 4, .cmd, .utility, 0, .any, .immediate, 255, 0, .one⟩,
  ⟨0xA012, 0, 0, 1, 1, .u 4, .cmd, .utility, 0, .any, .immediate, 255, 0, .one⟩,
  ⟨0xA013, 1, 3, 1, 1, .u 1, .ro, .observer, 0, .any, .none, 255, 0, .one⟩,
  ⟨0xA020, 0, 0, 1, 1, .oct 16 16, .ro, .observer, 0, .any, .none, 255, 0, .one⟩,
  ⟨0xA021, 1, 2, 1, 1, .oct 48 48, .wo, .observer, 48, .any, .volatile, 255, 0, .one⟩,
  ⟨0xA021, 3, 3, 1, 1, .oct 32 32, .wo, .observer, 32, .any, .volatile, 255, 0, .one⟩,
  ⟨0xA021, 4, 4, 1, 1, .empty, .cmd, .observer, 0, .any, .immediate, 255, 0, .one⟩,
  ⟨0xA030, 1, 1, 1, 1, .oct 8 32, .cmd, .operator, 0, .any, .immediate, 255, 0, .one⟩,
  ⟨0xA030, 2, 2, 1, 1, .oct 0 1024, .ro, .observer, 0, .any, .none, 255, 0, .one⟩,
  ⟨0xA040, 1, 32, 1, 1, .octz 32, .rw, .utility, 0, .any, .immediate, 255, 0, .one⟩,
  ⟨0xA041, 1, 32, 1, 1, .u 1, .rw, .utility, 1, .rng (1) (4), .immediate, 255, 0, .one⟩,
  ⟨0xA050, 0, 0, 1, 1, .oct 137 137, .cmd, .utility, 137, .any, .immediate, 255, 0, .one⟩,
  ⟨0xA051, 0, 0, 1, 1, .oct 48 48, .cmd, .utility, 48, .any, .immediate, 255, 0, .one⟩,
  ⟨0xA052, 0, 0, 1, 1, .oct 11 74, .cmd, .operator, 0, .any, .immediate, 255, 0, .one⟩,
  ⟨0xA053, 0, 0, 1, 1, .u 4, .cmd, .utility, 0, .any, .immediate, 255, 0, .one⟩,
  ⟨0xA054, 0, 0, 1, 1, .u 4, .cmd, .utility, 0, .any, .immediate, 255, 0, .one⟩,
  ⟨0xA055, 1, 1, 1, 1, .u 2, .rw, .observer, 0, .rng (0) (20479), .volatile, 255, 0, .session⟩,
  ⟨0xA055, 2, 2, 1, 1, .u 4, .ro, .observer, 0, .any, .none, 255, 0, .sel 0xA05501⟩,
  ⟨0xA055, 3, 3, 1, 1, .u 2, .ro, .observer, 0, .any, .none, 255, 0, .one⟩,
  ⟨0xA055, 4, 4, 1, 1, .u 2, .ro, .observer, 0, .any, .none, 255, 0, .one⟩,
  ⟨0xA055, 5, 5, 1, 1, .u 4, .ro, .observer, 0xFFFFF, .any, .none, 255, 0, .one⟩,
  ⟨0xA056, 0, 0, 1, 1, .oct 137 137, .cmd, .utility, 137, .any, .immediate, 255, 0, .one⟩]

/-- Objects of chapter 04, part B. -/
def objsTrustB : List ObjRow := [
  ⟨0xC010, 1, 1, 1, 1, .oct 64 64, .wo, .utility, 64, .any, .immediate, 255, 0, .meter⟩,
  ⟨0xC010, 2, 2, 1, 1, .u 4, .ro, .observer, 0, .any, .none, 255, 0, .meter⟩]

/-- Objects of chapter 05, part A. -/
def objsPlA : List ObjRow := [
  ⟨0x4000, 1, 1, 12, 16, .u 4, .rws, .installer, 0xF744, .rng (9000) (148500), .commit, 1, 1, .one⟩,
  ⟨0x4000, 2, 2, 12, 16, .u 4, .rws, .installer, 0x12110, .rng (9000) (148500), .commit, 1, 1, .one⟩,
  ⟨0x4000, 3, 3, 12, 16, .u 2, .rws, .installer, 0x960, .one [300, 600, 1200, 2400], .commit, 1, 1, .one⟩,
  ⟨0x4000, 4, 4, 12, 16, .u 1, .rws, .installer, 3, .rng (0) (7), .commit, 1, 1, .one⟩,
  ⟨0x4001, 1, 1, 12, 16, .u 1, .rws, .installer, 0, .orZero (.one [1, 2, 3, 4]), .commit, 1, 1, .one⟩,
  ⟨0x4001, 2, 2, 12, 16, .bool, .rws, .installer, 1, .any, .commit, 1, 1, .one⟩,
  ⟨0x4001, 3, 3, 12, 16, .bool, .rws, .installer, 0, .any, .commit, 1, 1, .one⟩,
  ⟨0x4002, 1, 1, 12, 16, .u 1, .rws, .installer, 1, .one [1, 2, 3], .commit, 1, 1, .one⟩,
  ⟨0x4002, 2, 2, 12, 16, .u 1, .rws, .installer, 0, .rng (0) (15), .commit, 1, 1, .one⟩,
  ⟨0x4002, 3, 3, 12, 16, .u 1, .rws, .installer, 70, .rng (1) (100), .commit, 1, 1, .one⟩,
  ⟨0x4002, 4, 4, 12, 16, .u 2, .rws, .installer, 20, .rng (5) (100), .commit, 1, 1, .one⟩,
  ⟨0x4002, 5, 5, 12, 16, .u 2, .rws, .installer, 10, .rng (5) (100), .commit, 1, 1, .one⟩,
  ⟨0x4003, 1, 1, 12, 16, .u 2, .rws, .installer, 0x190, .orZero (.rng (200) (1600)), .commit, 1, 1, .one⟩,
  ⟨0x4003, 2, 2, 12, 16, .u 1, .rws, .installer, 8, .rng (0) (64), .commit, 1, 1, .one⟩,
  ⟨0x4003, 3, 3, 12, 16, .u 1, .rws, .installer, 25, .rng (5) (50), .commit, 1, 1, .one⟩,
  ⟨0x4004, 1, 1, 12, 16, .u 2, .rws, .utility, 1, .any, .commit, 1, 1, .one⟩,
  ⟨0x4004, 2, 2, 12, 16, .oct 0 16, .rws, .utility, 0, .any, .commit, 1, 1, .one⟩,
  ⟨0x4004, 3, 3, 12, 16, .u 4, .rws, .utility, 0, .any, .commit, 1, 1, .one⟩,
  ⟨0x4004, 4, 4, 12, 16, .u 1, .rws, .utility, 8, .rng (1) (14), .commit, 1, 1, .one⟩,
  ⟨0x4005, 1, 1, 12, 16, .oct 6 6, .rws, .utility, 6, .any, .commit, 1, 1, .one⟩,
  ⟨0x4005, 2, 2, 12, 16, .u 1, .rws, .utility, 1, .rng (1) (8), .commit, 1, 1, .one⟩,
  ⟨0x4005, 3, 3, 12, 16, .u 1, .rws, .utility, 1, .rng (1) (2), .commit, 1, 1, .one⟩,
  ⟨0x4005, 4, 4, 12, 16, .u 4, .rws, .utility, 0, .any, .commit, 1, 1, .one⟩,
  ⟨0x4006, 1, 1, 12, 16, .u 2, .rws, .utility, 1, .rng (1) (65535), .commit, 1, 1, .one⟩,
  ⟨0x4006, 2, 2, 12, 16, .u 1, .rws, .utility, 3, .rng (0) (4), .commit, 1, 1, .one⟩,
  ⟨0x4006, 3, 3, 12, 16, .i 4, .rws, .installer, 0, .rng (-8000) (8000), .commit, 1, 1, .one⟩,
  ⟨0x4006, 4, 4, 12, 16, .u 1, .rws, .utility, 3, .rng (1) (3), .commit, 1, 1, .one⟩,
  ⟨0x4006, 5, 5, 12, 16, .u 1, .rws, .utility, 8, .rng (0) (64), .commit, 1, 1, .one⟩,
  ⟨0x4006, 6, 6, 12, 16, .u 1, .rws, .utility, 3, .rng (1) (8), .commit, 1, 1, .one⟩,
  ⟨0x4006, 7, 7, 12, 16, .u 1, .rws, .utility, 5, .rng (1) (8), .commit, 1, 1, .one⟩]

/-- Objects of chapter 05, part B. -/
def objsPlB : List ObjRow := [
  ⟨0x4006, 8, 8, 12, 16, .u 1, .rws, .utility, 7, .rng (1) (8), .commit, 1, 1, .one⟩,
  ⟨0x4006, 9, 9, 12, 16, .u 4, .rws, .utility, 0, .any, .commit, 1, 1, .one⟩,
  ⟨0x4006, 10, 10, 12, 16, .u 1, .rws, .utility, 64, .rng (1) (255), .commit, 1, 1, .one⟩,
  ⟨0x4006, 11, 11, 12, 16, .u 2, .rws, .utility, 0x3E8, .rng (100) (3000), .commit, 1, 1, .one⟩,
  ⟨0x4007, 1, 1, 12, 16, .u 4, .ro, .observer, 0, .any, .none, 255, 0, .one⟩,
  ⟨0x4007, 2, 2, 12, 16, .u 4, .ro, .observer, 0, .any, .none, 255, 0, .one⟩,
  ⟨0x4007, 3, 3, 12, 16, .u 4, .ro, .observer, 0, .any, .none, 255, 0, .one⟩,
  ⟨0x4007, 4, 4, 12, 16, .u 4, .ro, .observer, 0, .any, .none, 255, 0, .one⟩,
  ⟨0x4007, 5, 5, 12, 16, .u 4, .ro, .observer, 0, .any, .none, 255, 0, .one⟩,
  ⟨0x4007, 6, 6, 12, 16, .u 4, .ro, .observer, 0, .any, .none, 255, 0, .one⟩,
  ⟨0x4007, 7, 7, 12, 16, .u 4, .ro, .observer, 0, .any, .none, 255, 0, .one⟩,
  ⟨0x4007, 8, 8, 12, 16, .u 4, .ro, .observer, 0, .any, .none, 255, 0, .one⟩,
  ⟨0x4007, 9, 9, 12, 16, .u 4, .ro, .observer, 0, .any, .none, 255, 0, .one⟩,
  ⟨0x4007, 10, 10, 12, 16, .u 4, .ro, .observer, 0, .any, .none, 255, 0, .one⟩,
  ⟨0x4007, 11, 11, 12, 16, .u 4, .ro, .observer, 0, .any, .none, 255, 0, .one⟩,
  ⟨0x4007, 12, 12, 12, 16, .u 4, .ro, .observer, 0, .any, .none, 255, 0, .one⟩,
  ⟨0x4008, 1, 1, 12, 16, .u 1, .ro, .observer, 0, .any, .none, 255, 0, .one⟩,
  ⟨0x4008, 2, 2, 12, 16, .u 1, .ro, .observer, 0, .any, .none, 255, 0, .one⟩,
  ⟨0x4008, 3, 3, 12, 16, .u 2, .ro, .observer, 0, .any, .none, 255, 0, .one⟩,
  ⟨0x4008, 4, 4, 12, 16, .oct 8 8, .ro, .observer, 0, .any, .none, 255, 0, .one⟩,
  ⟨0x4008, 5, 5, 12, 16, .u 2, .ro, .observer, 0, .any, .none, 255, 0, .one⟩]

/-- Objects of chapter 05, part C. -/
def objsPlC : List ObjRow := [
  ⟨0xC020, 1, 1, 1, 1, .u 1, .ro, .observer, 255, .rng (0) (11), .none, 255, 0, .meter⟩,
  ⟨0xC020, 2, 2, 1, 1, .u 1, .ro, .observer, 0, .any, .none, 255, 0, .meter⟩,
  ⟨0xC020, 3, 3, 1, 1, .oct 6 6, .ro, .observer, 0, .any, .none, 255, 0, .meter⟩,
  ⟨0xC020, 4, 4, 1, 1, .u 1, .ro, .observer, 255, .any, .none, 255, 0, .meter⟩,
  ⟨0xC020, 5, 5, 1, 1, .u 1, .ro, .observer, 0, .one [1, 2, 3], .none, 255, 0, .meter⟩,
  ⟨0xC020, 6, 6, 1, 1, .i 4, .ro, .observer, 0, .any, .none, 255, 0, .meter⟩]

/-- Objects of chapter 06, part A. -/
def objsRfA : List ObjRow := [
  ⟨0x4100, 1, 1, 12, 16, .u 1, .rws, .installer, 0, .orZero (.one [1, 2, 3]), .commit, 13, 1, .one⟩,
  ⟨0x4100, 2, 2, 12, 16, .bool, .rws, .installer, 0, .any, .commit, 13, 1, .one⟩,
  ⟨0x4101, 1, 1, 12, 16, .u 4, .rws, .installer, 0x989680, .rng (1000000) (20000000), .commit, 13, 1, .one⟩,
  ⟨0x4101, 2, 2, 12, 16, .u 2, .rws, .installer, 10, .rng (0) (100), .commit, 13, 1, .one⟩,
  ⟨0x4101, 3, 3, 12, 16, .u 2, .rws, .installer, 20, .rng (0) (100), .commit, 13, 1, .one⟩,
  ⟨0x4101, 4, 4, 12, 16, .u 2, .rws, .installer, 15, .rng (5) (100), .commit, 13, 1, .one⟩,
  ⟨0x4102, 1, 5, 12, 16, .oct 0 64, .rws, .installer, 0, .any, .commit, 13, 1, .one⟩,
  ⟨0x4103, 1, 1, 12, 16, .u 2, .rws, .installer, 0, .any, .commit, 13, 1, .one⟩,
  ⟨0x4103, 2, 2, 12, 16, .u 4, .rws, .installer, 0x186A0, .one [0, 50000, 100000, 150000], .commit, 13, 1, .one⟩,
  ⟨0x4103, 3, 3, 12, 16, .u 2, .rws, .installer, 10, .rng (0) (1000), .commit, 13, 1, .one⟩,
  ⟨0x4103, 4, 4, 12, 16, .i 2, .rws, .installer, 0xFFA6, .rng (-120) (-40), .commit, 13, 1, .one⟩,
  ⟨0x4104, 1, 1, 12, 16, .u 1, .rws, .installer, 6, .any, .commit, 13, 1, .one⟩,
  ⟨0x4104, 2, 2, 12, 16, .u 1, .rws, .installer, 1, .rng 1 6, .commit, 13, 1, .one⟩,
  ⟨0x4104, 3, 3, 12, 16, .bool, .rws, .utility, 1, .any, .commit, 13, 1, .one⟩,
  ⟨0x4104, 4, 4, 12, 16, .bool, .rws, .utility, 0, .any, .commit, 13, 1, .one⟩,
  ⟨0x4104, 5, 5, 12, 16, .bool, .rws, .utility, 1, .any, .commit, 13, 1, .one⟩,
  ⟨0x4105, 1, 1, 12, 16, .u 2, .rws, .utility, 1, .any, .commit, 13, 1, .one⟩,
  ⟨0x4105, 2, 2, 12, 16, .u 1, .rws, .utility, 8, .rng (0) (14), .commit, 13, 1, .one⟩,
  ⟨0x4105, 3, 3, 12, 16, .u 1, .rws, .utility, 8, .rng (0) (14), .commit, 13, 1, .one⟩,
  ⟨0x4105, 4, 4, 12, 16, .bool, .rws, .utility, 0, .any, .commit, 13, 1, .one⟩,
  ⟨0x4105, 5, 5, 12, 16, .u 4, .rws, .utility, 0, .any, .commit, 13, 1, .one⟩,
  ⟨0x4105, 6, 6, 12, 16, .u 1, .rws, .utility, 6, .rng (5) (7), .commit, 13, 1, .one⟩,
  ⟨0x4106, 1, 1, 12, 16, .u 2, .rws, .utility, 1, .rng (1) (65535), .commit, 13, 1, .one⟩,
  ⟨0x4106, 2, 2, 12, 16, .u 1, .rws, .utility, 3, .rng (0) (6), .commit, 13, 1, .one⟩,
  ⟨0x4106, 3, 3, 12, 16, .u 4, .rws, .utility, 0, .any, .commit, 13, 1, .one⟩,
  ⟨0x4106, 4, 4, 12, 16, .u 1, .rws, .utility, 2, .rng (1) (8), .commit, 13, 1, .one⟩,
  ⟨0x4106, 5, 5, 12, 16, .u 1, .rws, .utility, 4, .rng (1) (8), .commit, 13, 1, .one⟩,
  ⟨0x4106, 6, 6, 12, 16, .u 1, .rws, .utility, 6, .rng (1) (8), .commit, 13, 1, .one⟩,
  ⟨0x4106, 7, 7, 12, 16, .u 1, .rws, .utility, 64, .rng (1) (255), .commit, 13, 1, .one⟩,
  ⟨0x4107, 1, 1, 12, 16, .u 4, .ro, .observer, 0, .any, .none, 255, 0, .one⟩]

/-- Objects of chapter 06, part B. -/
def objsRfB : List ObjRow := [
  ⟨0x4107, 2, 2, 12, 16, .u 4, .ro, .observer, 0, .any, .none, 255, 0, .one⟩,
  ⟨0x4107, 3, 3, 12, 16, .u 4, .ro, .observer, 0, .any, .none, 255, 0, .one⟩,
  ⟨0x4107, 4, 4, 12, 16, .u 4, .ro, .observer, 0, .any, .none, 255, 0, .one⟩,
  ⟨0x4107, 5, 5, 12, 16, .u 4, .ro, .observer, 0, .any, .none, 255, 0, .one⟩,
  ⟨0x4107, 6, 6, 12, 16, .u 4, .ro, .observer, 0, .any, .none, 255, 0, .one⟩,
  ⟨0x4107, 7, 7, 12, 16, .u 4, .ro, .observer, 0, .any, .none, 255, 0, .one⟩,
  ⟨0x4107, 8, 8, 12, 16, .u 4, .ro, .observer, 0, .any, .none, 255, 0, .one⟩,
  ⟨0x4107, 9, 9, 12, 16, .u 4, .ro, .observer, 0, .any, .none, 255, 0, .one⟩,
  ⟨0x4107, 10, 10, 12, 16, .u 4, .ro, .observer, 0, .any, .none, 255, 0, .one⟩,
  ⟨0x4107, 11, 11, 12, 16, .u 4, .ro, .observer, 0, .any, .none, 255, 0, .one⟩,
  ⟨0x4107, 12, 12, 12, 16, .u 4, .ro, .observer, 0, .any, .none, 255, 0, .one⟩,
  ⟨0x4108, 1, 1, 12, 16, .u 1, .ro, .observer, 0, .any, .none, 255, 0, .one⟩,
  ⟨0x4108, 2, 2, 12, 16, .u 2, .ro, .observer, 0, .any, .none, 255, 0, .one⟩,
  ⟨0x4108, 3, 3, 12, 16, .u 2, .ro, .observer, 0, .any, .none, 255, 0, .one⟩,
  ⟨0x4108, 4, 4, 12, 16, .u 2, .ro, .observer, 0, .any, .none, 255, 0, .one⟩,
  ⟨0x4108, 5, 5, 12, 16, .i 2, .ro, .observer, 0, .any, .none, 255, 0, .one⟩]

/-- Objects of chapter 06, part C. -/
def objsRfC : List ObjRow := [
  ⟨0xC021, 1, 1, 1, 1, .u 1, .ro, .observer, 255, .rng (0) (11), .none, 255, 0, .meter⟩,
  ⟨0xC021, 2, 2, 1, 1, .u 1, .ro, .observer, 0, .any, .none, 255, 0, .meter⟩,
  ⟨0xC021, 3, 3, 1, 1, .oct 4 4, .ro, .observer, 0, .any, .none, 255, 0, .meter⟩,
  ⟨0xC021, 4, 4, 1, 1, .u 1, .ro, .observer, 0, .any, .none, 255, 0, .meter⟩,
  ⟨0xC021, 5, 5, 1, 1, .i 4, .ro, .observer, 0, .any, .none, 255, 0, .meter⟩,
  ⟨0xC021, 6, 6, 1, 1, .u 2, .ro, .observer, 50, .any, .none, 255, 0, .meter⟩,
  ⟨0xC021, 7, 7, 1, 1, .u 1, .ro, .observer, 0, .rng (0) (8), .none, 255, 0, .meter⟩,
  ⟨0xC021, 8, 8, 1, 1, .u 1, .ro, .observer, 0, .rng (0) (64), .none, 255, 0, .meter⟩,
  ⟨0xC021, 9, 9, 1, 1, .u 1, .ro, .observer, 0, .any, .none, 255, 0, .meter⟩]

/-- Objects of chapter 07, part A. -/
def objsAcceptA : List ObjRow := [
  ⟨0x5000, 1, 1, 1, 1, .u 4, .ro, .observer, 0, .any, .none, 255, 0, .one⟩,
  ⟨0x5000, 2, 2, 1, 1, .u 4, .ro, .observer, 0, .any, .none, 255, 0, .one⟩,
  ⟨0x5000, 3, 3, 1, 1, .u 4, .ro, .observer, 0, .any, .none, 255, 0, .one⟩,
  ⟨0x5000, 4, 4, 1, 1, .u 4, .ro, .observer, 0, .any, .none, 255, 0, .one⟩,
  ⟨0x5000, 5, 5, 1, 1, .u 4, .ro, .observer, 0, .any, .none, 255, 0, .one⟩,
  ⟨0x5000, 6, 6, 1, 1, .u 4, .ro, .observer, 0, .any, .none, 255, 0, .one⟩,
  ⟨0x5000, 7, 7, 1, 1, .u 4, .ro, .observer, 0, .any, .none, 255, 0, .one⟩,
  ⟨0x5000, 8, 8, 1, 1, .u 4, .ro, .observer, 0, .any, .none, 255, 0, .one⟩,
  ⟨0x5000, 9, 9, 1, 1, .u 4, .ro, .observer, 0, .any, .none, 255, 0, .one⟩,
  ⟨0x5000, 10, 10, 1, 1, .u 4, .ro, .observer, 0, .any, .none, 255, 0, .one⟩,
  ⟨0x5000, 11, 11, 1, 1, .u 4, .ro, .observer, 0, .any, .none, 255, 0, .one⟩,
  ⟨0x5000, 12, 12, 1, 1, .u 4, .ro, .observer, 0, .any, .none, 255, 0, .one⟩,
  ⟨0x5010, 1, 1, 1, 1, .u 1, .rws, .utility, 90, .rng (50) (95), .commit, 36, 0, .one⟩,
  ⟨0x5010, 2, 2, 1, 1, .u 1, .rws, .utility, 75, .rng (40) (94), .commit, 36, 0, .one⟩,
  ⟨0x5010, 3, 3, 1, 1, .u 2, .rws, .utility, 10, .rng (1) (3600), .commit, 36, 0, .one⟩,
  ⟨0x5011, 1, 1, 1, 1, .u 4, .ro, .observer, 0, .any, .none, 255, 0, .one⟩,
  ⟨0x5011, 2, 2, 1, 1, .u 4, .ro, .observer, 0, .any, .none, 255, 0, .one⟩,
  ⟨0x5011, 3, 3, 1, 1, .u 8, .ro, .observer, 0, .any, .none, 255, 0, .one⟩,
  ⟨0x5011, 4, 4, 1, 1, .u 8, .ro, .observer, 0, .any, .none, 255, 0, .one⟩,
  ⟨0x5011, 5, 5, 1, 1, .u 4, .ro, .observer, 0, .any, .none, 255, 0, .one⟩,
  ⟨0x5011, 6, 6, 1, 1, .u 4, .ro, .observer, 0, .any, .none, 255, 0, .one⟩,
  ⟨0x5011, 7, 7, 1, 1, .bool, .ro, .observer, 1, .any, .none, 255, 0, .one⟩,
  ⟨0x5020, 1, 1, 1, 1, .bool, .rws, .utility, 1, .any, .commit, 36, 0, .one⟩,
  ⟨0x5020, 2, 2, 1, 1, .u 1, .rws, .utility, 64, .rng (1) (64), .commit, 36, 0, .one⟩,
  ⟨0x5020, 3, 3, 1, 1, .u 1, .rws, .utility, 2, .rng (2) (4), .commit, 36, 0, .one⟩]

/-- Objects of chapter 07, part B. -/
def objsAcceptB : List ObjRow := [
  ⟨0xC030, 1, 1, 1, 1, .u 1, .ro, .observer, 0, .any, .none, 255, 0, .meter⟩,
  ⟨0xC030, 2, 2, 1, 1, .u 4, .ro, .observer, 0, .any, .none, 255, 0, .meter⟩,
  ⟨0xC030, 3, 3, 1, 1, .bool, .ro, .observer, 0, .any, .none, 255, 0, .meter⟩,
  ⟨0xC030, 4, 4, 1, 1, .oct 8 8, .ro, .observer, 0, .any, .none, 255, 0, .meter⟩,
  ⟨0xC030, 5, 5, 1, 1, .time64, .ro, .observer, 0, .any, .none, 255, 0, .meter⟩,
  ⟨0xC030, 6, 6, 1, 1, .u 2, .ro, .observer, 0, .any, .none, 255, 0, .meter⟩,
  ⟨0xC030, 7, 7, 1, 1, .u 2, .ro, .observer, 0, .any, .none, 255, 0, .meter⟩,
  ⟨0xC030, 8, 8, 1, 1, .u 2, .ro, .observer, 0, .any, .none, 255, 0, .meter⟩,
  ⟨0xC030, 9, 9, 1, 1, .u 8, .ro, .observer, 0, .any, .none, 255, 0, .meter⟩,
  ⟨0xC030, 10, 10, 1, 1, .u 4, .ro, .observer, 0, .any, .none, 255, 0, .meter⟩,
  ⟨0xC030, 11, 11, 1, 1, .u 2, .ro, .observer, 0, .any, .none, 255, 0, .meter⟩,
  ⟨0xC031, 1, 1, 1, 1, .bool, .ro, .observer, 0, .any, .none, 255, 0, .meter⟩,
  ⟨0xC031, 2, 2, 1, 1, .u 1, .ro, .observer, 0, .any, .none, 255, 0, .meter⟩,
  ⟨0xC031, 3, 3, 1, 1, .i 4, .ro, .observer, 0x80000000, .any, .none, 255, 0, .meter⟩,
  ⟨0xC031, 4, 4, 1, 1, .u 2, .ro, .observer, 0, .any, .none, 255, 0, .meter⟩,
  ⟨0xC031, 5, 5, 1, 1, .u 1, .ro, .observer, 0, .any, .none, 255, 0, .meter⟩,
  ⟨0xC031, 6, 6, 1, 1, .cyc, .ro, .observer, 0, .any, .none, 255, 0, .meter⟩]

/-- Objects of chapter 08, part A. -/
def objsCasA : List ObjRow := [
  ⟨0x9000, 1, 1, 1, 1, .u 4, .ro, .observer, 0, .any, .none, 255, 0, .one⟩,
  ⟨0x9000, 2, 2, 1, 1, .u 4, .ro, .observer, 0, .any, .none, 255, 0, .one⟩,
  ⟨0x9000, 3, 3, 1, 1, .u 8, .ro, .observer, 0, .any, .none, 255, 0, .one⟩,
  ⟨0x9000, 4, 4, 1, 1, .u 4, .ro, .observer, 0, .any, .none, 255, 0, .one⟩,
  ⟨0x9001, 1, 4, 1, 1, .u 2, .ro, .observer, 0, .any, .none, 255, 0, .one⟩,
  ⟨0x9001, 5, 8, 1, 1, .u 2, .ro, .observer, 0, .any, .none, 255, 0, .one⟩,
  ⟨0x9010, 1, 1, 1, 1, .u 1, .rw, .observer, 0, .any, .volatile, 255, 0, .session⟩,
  ⟨0x9011, 1, 1, 1, 1, .u 1, .rws, .utility, 0, .orZero (.rng (1) (15)), .commit, 29, 0, .sel 0x901001⟩,
  ⟨0x9011, 2, 2, 1, 1, .u 1, .rws, .utility, 0, .rng (0) (7), .commit, 29, 0, .sel 0x901001⟩,
  ⟨0x9011, 3, 3, 1, 1, .u 4, .rws, .utility, 0, .any, .commit, 29, 0, .sel 0x901001⟩,
  ⟨0x9011, 4, 4, 1, 1, .u 4, .rws, .utility, 0x800, .rng (1) (49152), .commit, 29, 0, .sel 0x901001⟩,
  ⟨0x9011, 5, 5, 1, 1, .bool, .rws, .utility, 0, .any, .commit, 29, 0, .sel 0x901001⟩,
  ⟨0x9011, 6, 6, 1, 1, .bool, .rws, .utility, 0, .any, .commit, 29, 0, .sel 0x901001⟩,
  ⟨0x9012, 1, 1, 1, 1, .u 4, .ro, .observer, 0, .any, .none, 255, 0, .sel 0x901001⟩,
  ⟨0x9012, 2, 2, 1, 1, .u 4, .ro, .observer, 0, .any, .none, 255, 0, .sel 0x901001⟩,
  ⟨0x9012, 3, 3, 1, 1, .u 4, .ro, .observer, 0, .any, .none, 255, 0, .sel 0x901001⟩,
  ⟨0x9012, 4, 4, 1, 1, .u 4, .ro, .observer, 0, .any, .none, 255, 0, .sel 0x901001⟩,
  ⟨0x9012, 5, 5, 1, 1, .oct 32 32, .ro, .observer, 0, .any, .none, 255, 0, .sel 0x901001⟩,
  ⟨0x9013, 1, 1, 1, 1, .u 2, .rw, .observer, 0, .rng (0) (4095), .volatile, 255, 0, .session⟩,
  ⟨0x9014, 1, 1, 1, 1, .u 1, .rws, .utility, 0, .any, .commit, 29, 0, .sel 0x901301⟩,
  ⟨0x9014, 2, 2, 1, 1, .u 1, .rws, .utility, 4, .rng (1) (16), .commit, 29, 0, .sel 0x901301⟩,
  ⟨0x9014, 3, 3, 1, 1, .bool, .rws, .utility, 1, .any, .commit, 29, 0, .sel 0x901301⟩,
  ⟨0x9014, 4, 4, 1, 1, .u 2, .ro, .observer, 0, .any, .none, 255, 0, .sel 0x901301⟩,
  ⟨0x9020, 1, 1, 1, 1, .u 2, .rws, .utility, 50, .rng (10) (1000), .commit, 29, 0, .one⟩,
  ⟨0x9020, 2, 2, 1, 1, .u 4, .rws, .utility, 0x8000, .rng (0) (262144), .commit, 29, 0, .one⟩,
  ⟨0x9020, 3, 3, 1, 1, .u 2, .rws, .utility, 64, .rng (1) (1024), .commit, 29, 0, .one⟩,
  ⟨0x9020, 4, 4, 1, 1, .u 4, .ro, .observer, 0, .any, .none, 255, 0, .one⟩,
  ⟨0x9020, 5, 5, 1, 1, .u 4, .ro, .observer, 0, .any, .none, 255, 0, .one⟩,
  ⟨0x9020, 6, 6, 1, 1, .bool, .ro, .observer, 0, .any, .none, 255, 0, .one⟩,
  ⟨0x9020, 7, 7, 1, 1, .u 4, .ro, .observer, 0, .any, .none, 255, 0, .one⟩]

/-- Objects of chapter 08, part B. -/
def objsCasB : List ObjRow := [
  ⟨0x9021, 1, 77, 1, 1, .u 1, .rws, .utility, 16, .rng (1) (255), .commit, 29, 0, .one⟩,
  ⟨0x9022, 1, 77, 1, 1, .u 1, .rws, .utility, 1, .one [1, 2], .commit, 29, 0, .one⟩,
  ⟨0x9023, 1, 77, 1, 1, .u 2, .rws, .utility, 128, .rng (16) (1024), .commit, 29, 0, .one⟩,
  ⟨0x9024, 1, 77, 1, 1, .u 4, .ro, .observer, 0, .any, .none, 255, 0, .one⟩,
  ⟨0x9100, 1, 1, 1, 1, .u 2, .ro, .observer, 0, .any, .none, 255, 0, .one⟩,
  ⟨0x9100, 2, 2, 1, 1, .u 2, .ro, .observer, 0, .any, .none, 255, 0, .one⟩,
  ⟨0x9100, 3, 3, 1, 1, .u 2, .ro, .observer, 0, .any, .none, 255, 0, .one⟩,
  ⟨0x9100, 4, 4, 1, 1, .u 2, .ro, .observer, 0, .any, .none, 255, 0, .one⟩,
  ⟨0x9100, 5, 5, 16, 1, .bool, .rws, .utility, 0, .any, .commit, 29, 0, .one⟩,
  ⟨0x9100, 6, 6, 16, 1, .u 1, .rws, .utility, 10, .rng (1) (64), .commit, 29, 0, .one⟩,
  ⟨0x9100, 7, 7, 16, 1, .u 4, .rws, .utility, 0x1F4, .rng (10) (10000), .commit, 29, 0, .one⟩,
  ⟨0x9100, 8, 8, 16, 1, .u 1, .ro, .observer, 0, .any, .none, 255, 0, .one⟩,
  ⟨0x9100, 9, 9, 16, 1, .u 4, .ro, .observer, 0, .any, .none, 255, 0, .one⟩,
  ⟨0x9100, 10, 10, 16, 1, .u 4, .ro, .observer, 0, .any, .none, 255, 0, .one⟩,
  ⟨0x9100, 11, 11, 16, 1, .u 4, .ro, .observer, 0, .any, .none, 255, 0, .one⟩,
  ⟨0x9100, 12, 12, 16, 1, .u 4, .ro, .observer, 0, .any, .none, 255, 0, .one⟩,
  ⟨0x9100, 13, 13, 16, 1, .u 1, .ro, .observer, 0, .any, .none, 255, 0, .one⟩,
  ⟨0x9101, 1, 1, 15, 1, .u 2, .rws, .utility, 0, .rng (0) (1024), .commit, 29, 0, .one⟩,
  ⟨0x9101, 2, 2, 15, 1, .u 2, .rws, .utility, 0, .rng (0) (1024), .commit, 29, 0, .one⟩,
  ⟨0x9101, 3, 3, 15, 1, .u 2, .rws, .utility, 0, .rng (0) (1024), .commit, 29, 0, .one⟩,
  ⟨0x9101, 4, 4, 15, 1, .u 2, .rws, .utility, 0, .rng (0) (1024), .commit, 29, 0, .one⟩,
  ⟨0x9180, 1, 1, 1, 1, .u 1, .ro, .observer, 2, .any, .none, 255, 0, .one⟩,
  ⟨0x9180, 2, 2, 1, 1, .u 4, .ro, .observer, 0x1312D00, .any, .none, 255, 0, .one⟩,
  ⟨0x9180, 3, 3, 1, 1, .u 4, .ro, .observer, 0, .any, .none, 255, 0, .one⟩,
  ⟨0x9180, 4, 4, 1, 1, .time64, .ro, .observer, 0, .any, .none, 255, 0, .one⟩]

/-- Objects of chapter 09, part A. -/
def objsWeirA : List ObjRow := [
  ⟨0x6000, 1, 1, 1, 1, .u 1, .rws, .installer, 2, .rng (1) (3), .commit, 30, 0, .one⟩,
  ⟨0x6000, 2, 2, 1, 1, .u 1, .ro, .observer, 0, .any, .none, 255, 0, .one⟩,
  ⟨0x6000, 3, 3, 1, 1, .i 2, .ro, .observer, 0, .any, .none, 255, 0, .one⟩,
  ⟨0x6000, 4, 4, 1, 1, .u 4, .ro, .observer, 0, .any, .none, 255, 0, .one⟩,
  ⟨0x6000, 5, 5, 1, 1, .u 4, .ro, .observer, 0, .any, .none, 255, 0, .one⟩,
  ⟨0x6000, 6, 6, 1, 1, .time64, .ro, .observer, 0, .any, .none, 255, 0, .one⟩,
  ⟨0x6000, 7, 7, 1, 1, .bool, .ro, .observer, 0, .any, .none, 255, 0, .one⟩,
  ⟨0x6000, 8, 8, 1, 1, .u 4, .ro, .observer, 0, .any, .none, 255, 0, .one⟩,
  ⟨0x6000, 9, 9, 1, 1, .i 2, .ro, .observer, 0, .any, .none, 255, 0, .one⟩,
  ⟨0x6000, 10, 10, 1, 1, .oct 10 10, .cmd, .utility, 10, .any, .immediate, 255, 0, .one⟩,
  ⟨0x6000, 11, 11, 1, 1, .u 1, .ro, .observer, 0, .rng (0) (8), .none, 255, 0, .one⟩,
  ⟨0x6000, 12, 12, 1, 1, .u 4, .ro, .observer, 0, .any, .none, 255, 0, .one⟩,
  ⟨0x6000, 13, 13, 1, 1, .u 4, .ro, .observer, 0, .any, .none, 255, 0, .one⟩,
  ⟨0x6010, 1, 1, 1, 1, .u 1, .rw, .observer, 0, .rng (0) (127), .volatile, 255, 0, .session⟩,
  ⟨0x6011, 1, 1, 1, 1, .u 1, .rws, .installer, 0, .rng 0 2, .commit, 30, 0, .sel 0x601001⟩,
  ⟨0x6011, 2, 2, 1, 1, .u 1, .rws, .installer, 2, .rng (1) (4), .commit, 30, 0, .sel 0x601001⟩,
  ⟨0x6011, 3, 3, 1, 1, .u 1, .rws, .installer, 0, .rng (0) (3), .commit, 30, 0, .sel 0x601001⟩,
  ⟨0x6011, 4, 4, 1, 1, .f64, .rws, .installer, 0x3FF0000000000000, .rng 1 0x7FEFFFFFFFFFFFFF, .commit, 30, 0, .sel 0x601001⟩,
  ⟨0x6011, 5, 5, 1, 1, .u 4, .rws, .installer, 0x38270, .rng 1 4294967295, .commit, 30, 0, .sel 0x601001⟩,
  ⟨0x6011, 6, 6, 1, 1, .f64, .rws, .installer, 0x3FF0000000000000, .rng 0x3FECCCCCCCCCCCCD 0x3FF199999999999A, .commit, 30, 0, .sel 0x601001⟩,
  ⟨0x6011, 7, 7, 1, 1, .i 4, .rws, .installer, 0, .rng (-50000) (50000), .commit, 30, 0, .sel 0x601001⟩,
  ⟨0x6011, 8, 8, 1, 1, .i 4, .rws, .installer, 0, .rng (-1048576) (1048575), .commit, 30, 0, .sel 0x601001⟩,
  ⟨0x6011, 9, 9, 1, 1, .u 1, .rws, .installer, 1, .one [0, 1, 2, 3, 4], .commit, 30, 0, .sel 0x601001⟩,
  ⟨0x6012, 1, 1, 1, 1, .f64, .ro, .observer, 0, .any, .none, 255, 0, .sel 0x601001⟩,
  ⟨0x6012, 2, 2, 1, 1, .u 4, .ro, .observer, 0, .any, .none, 255, 0, .sel 0x601001⟩,
  ⟨0x6020, 1, 1, 1, 1, .u 1, .rw, .observer, 0, .rng (0) (63), .volatile, 255, 0, .session⟩,
  ⟨0x6021, 1, 1, 1, 1, .u 1, .rws, .installer, 0, .orZero (.rng (1) (3)), .commit, 30, 0, .sel 0x602001⟩,
  ⟨0x6021, 2, 4, 1, 1, .u 1, .rws, .installer, 255, .rngOr 0 127 255, .commit, 30, 0, .sel 0x602001⟩,
  ⟨0x6021, 5, 8, 1, 1, .u 1, .rws, .installer, 255, .rngOr 0 127 255, .commit, 30, 0, .sel 0x602001⟩,
  ⟨0x6021, 9, 9, 1, 1, .u 1, .rws, .installer, 15, .one [1, 2, 3, 4, 5, 6, 10, 12, 15, 20, 30, 60], .commit, 30, 0, .sel 0x602001⟩]

/-- Objects of chapter 09, part B. -/
def objsWeirB : List ObjRow := [
  ⟨0x6021, 10, 10, 1, 1, .u 1, .rws, .installer, 90, .rng (50) (95), .commit, 30, 0, .sel 0x602001⟩,
  ⟨0x6021, 11, 11, 1, 1, .u 1, .rws, .installer, 110, .rng (105) (150), .commit, 30, 0, .sel 0x602001⟩,
  ⟨0x6021, 12, 12, 1, 1, .u 1, .rws, .installer, 5, .rng (1) (10), .commit, 30, 0, .sel 0x602001⟩,
  ⟨0x6022, 1, 1, 1, 1, .i 8, .ro, .observer, 0, .any, .none, 255, 0, .sel 0x602001⟩,
  ⟨0x6022, 2, 2, 1, 1, .i 8, .ro, .observer, 0, .any, .none, 255, 0, .sel 0x602001⟩,
  ⟨0x6022, 3, 5, 1, 1, .i 8, .ro, .observer, 0, .any, .none, 255, 0, .sel 0x602001⟩,
  ⟨0x6022, 6, 8, 1, 1, .i 8, .ro, .observer, 0, .any, .none, 255, 0, .sel 0x602001⟩,
  ⟨0x6022, 9, 9, 1, 1, .i 8, .ro, .observer, 0, .any, .none, 255, 0, .sel 0x602001⟩,
  ⟨0x6022, 10, 10, 1, 1, .i 8, .ro, .observer, 0, .any, .none, 255, 0, .sel 0x602001⟩,
  ⟨0x6022, 11, 11, 1, 1, .i 8, .ro, .observer, 0, .any, .none, 255, 0, .sel 0x602001⟩,
  ⟨0x6022, 12, 12, 1, 1, .i 8, .ro, .observer, 0, .any, .none, 255, 0, .sel 0x602001⟩,
  ⟨0x6022, 13, 13, 1, 1, .u 2, .ro, .observer, 0, .any, .none, 255, 0, .sel 0x602001⟩,
  ⟨0x6022, 14, 14, 1, 1, .i 8, .ro, .observer, 0, .any, .none, 255, 0, .sel 0x602001⟩,
  ⟨0x6022, 15, 15, 1, 1, .time64, .ro, .observer, 0, .any, .none, 255, 0, .sel 0x602001⟩,
  ⟨0x6022, 16, 16, 1, 1, .empty, .cmd, .utility, 0, .any, .immediate, 255, 0, .sel 0x602001⟩,
  ⟨0x6023, 1, 1, 1, 1, .u 4, .ro, .observer, 0, .any, .none, 255, 0, .sel 0x602001⟩,
  ⟨0x6023, 2, 4, 1, 1, .f64, .ro, .observer, 0, .any, .none, 255, 0, .sel 0x602001⟩,
  ⟨0x6023, 5, 5, 1, 1, .u 2, .ro, .observer, 0, .any, .none, 255, 0, .sel 0x602001⟩,
  ⟨0x6023, 6, 6, 1, 1, .u 2, .ro, .observer, 0, .any, .none, 255, 0, .sel 0x602001⟩,
  ⟨0x6023, 7, 7, 1, 1, .u 2, .ro, .observer, 0, .any, .none, 255, 0, .sel 0x602001⟩,
  ⟨0x6023, 8, 8, 1, 1, .u 4, .ro, .observer, 0, .any, .none, 255, 0, .sel 0x602001⟩,
  ⟨0x6023, 9, 9, 1, 1, .u 4, .ro, .observer, 0, .any, .none, 255, 0, .sel 0x602001⟩,
  ⟨0x6023, 10, 10, 1, 1, .f64, .ro, .observer, 0, .any, .none, 255, 0, .sel 0x602001⟩,
  ⟨0x6030, 1, 1, 1, 1, .u 1, .rw, .observer, 0, .rng (0) (31), .volatile, 255, 0, .session⟩,
  ⟨0x6030, 2, 2, 1, 1, .oct 128 128, .ro, .observer, 0, .any, .none, 255, 0, .one⟩,
  ⟨0x6040, 1, 1, 1, 1, .oct 12 12, .cmd, .installer, 12, .any, .immediate, 255, 0, .one⟩,
  ⟨0x6040, 2, 2, 1, 1, .f64, .ro, .observer, 0, .any, .none, 255, 0, .one⟩,
  ⟨0x6040, 3, 3, 1, 1, .f64, .ro, .observer, 0, .any, .none, 255, 0, .one⟩,
  ⟨0x6050, 1, 1, 1, 1, .octz 16, .rw, .operator, 0, .any, .immediate, 255, 0, .one⟩,
  ⟨0x6050, 2, 2, 1, 1, .u 4, .rw, .operator, 0x4000, .rng (1) (131072), .immediate, 255, 0, .one⟩]

/-- Objects of chapter 09, part C. -/
def objsWeirC : List ObjRow := [
  ⟨0x6050, 3, 3, 1, 1, .u 1, .rw, .operator, 25, .rng (0) (100), .immediate, 255, 0, .one⟩,
  ⟨0x6050, 4, 4, 1, 1, .u 1, .rw, .operator, 1, .rng 0 3, .immediate, 255, 0, .one⟩,
  ⟨0x6050, 5, 5, 1, 1, .u 1, .rw, .operator, 0, .rng (0) (63), .immediate, 255, 0, .one⟩,
  ⟨0x6050, 6, 6, 1, 1, .time64, .rw, .operator, 0, .any, .immediate, 255, 0, .one⟩,
  ⟨0x6050, 7, 7, 1, 1, .u 1, .rw, .operator, 0, .rng (0) (50), .immediate, 255, 0, .one⟩,
  ⟨0x6050, 8, 8, 1, 1, .u 1, .cmd, .operator, 0, .any, .immediate, 255, 0, .one⟩,
  ⟨0x6050, 9, 9, 1, 1, .u 1, .ro, .observer, 0, .any, .none, 255, 0, .one⟩,
  ⟨0x6050, 10, 10, 1, 1, .u 4, .ro, .observer, 0, .any, .none, 255, 0, .one⟩,
  ⟨0x6050, 11, 11, 1, 1, .u 4, .ro, .observer, 0, .any, .none, 255, 0, .one⟩,
  ⟨0x6050, 12, 12, 1, 1, .u 8, .ro, .observer, 0, .any, .none, 255, 0, .one⟩]

/-- Objects of chapter 10, part A. -/
def objsBalanceA : List ObjRow := [
  ⟨0x6100, 1, 1, 1, 1, .bool, .rws, .utility, 0, .any, .commit, 31, 0, .one⟩,
  ⟨0x6100, 2, 2, 1, 1, .u 4, .rws, .utility, 0xAFC8, .rng (3000) (4320000), .commit, 31, 0, .one⟩,
  ⟨0x6100, 3, 3, 1, 1, .u 4, .rws, .utility, 0x1F4, .rng (250) (30000), .commit, 31, 0, .one⟩,
  ⟨0x6100, 4, 4, 1, 1, .u 4, .rws, .utility, 0xBB8, .rng (300) (4320000), .commit, 31, 0, .one⟩,
  ⟨0x6100, 5, 5, 1, 1, .u 4, .rws, .utility, 0x258, .rng (0) (4320000), .commit, 31, 0, .one⟩,
  ⟨0x6100, 6, 6, 1, 1, .cyc, .rws, .utility, 0, .any, .commit, 31, 0, .one⟩,
  ⟨0x6100, 7, 7, 1, 1, .cyc, .cmd, .utility, 0, .any, .immediate, 255, 0, .one⟩,
  ⟨0x6100, 8, 8, 1, 1, .cyc, .ro, .observer, 0, .any, .none, 255, 0, .one⟩,
  ⟨0x6100, 9, 9, 1, 1, .u 2, .ro, .observer, 0, .any, .none, 255, 0, .one⟩,
  ⟨0x6100, 10, 10, 1, 1, .u 4, .ro, .observer, 0, .any, .none, 255, 0, .one⟩,
  ⟨0x6100, 11, 11, 1, 1, .u 4, .ro, .observer, 0, .any, .none, 255, 0, .one⟩,
  ⟨0x6101, 1, 1, 1, 1, .u 2, .rws, .utility, 0x190, .rng (100) (2000), .commit, 31, 0, .one⟩,
  ⟨0x6101, 2, 2, 1, 1, .u 4, .rws, .utility, 0x7530, .rng (1000) (500000), .commit, 31, 0, .one⟩,
  ⟨0x6101, 3, 3, 1, 1, .u 1, .rws, .utility, 3, .rng (1) (32), .commit, 31, 0, .one⟩,
  ⟨0x6101, 4, 4, 1, 1, .u 2, .rws, .utility, 32, .rng (1) (1024), .commit, 31, 0, .one⟩,
  ⟨0x6101, 5, 5, 1, 1, .u 4, .rws, .utility, 200, .any, .commit, 31, 0, .one⟩,
  ⟨0x6101, 6, 6, 1, 1, .u 4, .rws, .utility, 0xC350, .any, .commit, 31, 0, .one⟩,
  ⟨0x6101, 7, 7, 1, 1, .f64, .rws, .utility, 0x40C3880000000000, .rng 0x3FF0000000000000 0x426D1A94A2000000, .commit, 31, 0, .one⟩,
  ⟨0x6101, 8, 8, 1, 1, .f64, .rws, .utility, 0x3F847AE147AE147B, .rng 0x3EB0C6F7A0B5ED8D 0x408F400000000000, .commit, 31, 0, .one⟩,
  ⟨0x6101, 9, 9, 1, 1, .f64, .rws, .utility, 0x4059000000000000, .rng 0x3EB0C6F7A0B5ED8D 0x412E848000000000, .commit, 31, 0, .one⟩,
  ⟨0x6101, 10, 10, 1, 1, .u 1, .rws, .utility, 25, .rng (0) (100), .commit, 31, 0, .one⟩,
  ⟨0x6101, 11, 11, 1, 1, .u 2, .rws, .utility, 96, .rng (1) (1024), .commit, 31, 0, .one⟩,
  ⟨0x6102, 1, 1, 1, 1, .u 2, .ro, .observer, 0, .any, .none, 255, 0, .one⟩,
  ⟨0x6102, 2, 2, 1, 1, .u 2, .ro, .observer, 0, .any, .none, 255, 0, .one⟩,
  ⟨0x6102, 3, 3, 1, 1, .u 2, .ro, .observer, 0, .any, .none, 255, 0, .one⟩,
  ⟨0x6102, 4, 4, 1, 1, .u 4, .ro, .observer, 0, .any, .none, 255, 0, .one⟩,
  ⟨0x6110, 1, 1, 1, 1, .u 2, .rw, .observer, 0, .any, .volatile, 255, 0, .session⟩,
  ⟨0x6111, 1, 1, 1, 1, .u 1, .rws, .utility, 0, .rng (0) (3), .commit, 31, 0, .sel 0x611001⟩,
  ⟨0x6111, 2, 2, 1, 1, .u 1, .rws, .utility, 0, .rng (0) (63), .commit, 31, 0, .sel 0x611001⟩,
  ⟨0x6111, 3, 3, 1, 1, .u 1, .rws, .utility, 1, .one [0, 1, 2, 3], .commit, 31, 0, .sel 0x611001⟩]

/-- Objects of chapter 10, part B. -/
def objsBalanceB : List ObjRow := [
  ⟨0x6111, 4, 4, 1, 1, .u 4, .rws, .utility, 0xFFFFF, .any, .commit, 31, 0, .sel 0x611001⟩,
  ⟨0x6111, 5, 5, 1, 1, .u 4, .rws, .utility, 0, .any, .commit, 31, 0, .sel 0x611001⟩,
  ⟨0x6111, 6, 6, 1, 1, .u 4, .rws, .utility, 0, .rng (0) (100000), .commit, 31, 0, .sel 0x611001⟩,
  ⟨0x6111, 7, 7, 1, 1, .u 4, .rws, .utility, 0xF2EB8, .rng (950000) (999999), .commit, 31, 0, .sel 0x611001⟩,
  ⟨0x6112, 1, 1, 1, 1, .u 2, .ro, .observer, 0, .any, .none, 255, 0, .sel 0x611001⟩,
  ⟨0x6112, 2, 2, 1, 1, .u 1, .ro, .observer, 0, .any, .none, 255, 0, .sel 0x611001⟩,
  ⟨0x6112, 3, 3, 1, 1, .u 4, .ro, .observer, 0, .any, .none, 255, 0, .sel 0x611001⟩,
  ⟨0x6112, 4, 4, 1, 1, .u 2, .ro, .observer, 0, .any, .none, 255, 0, .sel 0x611001⟩,
  ⟨0x6112, 5, 5, 1, 1, .f64, .ro, .observer, 0, .any, .none, 255, 0, .sel 0x611001⟩,
  ⟨0x6112, 6, 6, 1, 1, .f64, .ro, .observer, 0, .any, .none, 255, 0, .sel 0x611001⟩,
  ⟨0x6112, 7, 7, 1, 1, .f64, .ro, .observer, 0, .any, .none, 255, 0, .sel 0x611001⟩,
  ⟨0x6113, 1, 1, 1, 1, .empty, .cmd, .utility, 0, .any, .immediate, 255, 0, .sel 0x611001⟩,
  ⟨0x6114, 1, 1, 1, 1, .u 1, .rw, .observer, 0, .rng (0) (7), .volatile, 255, 0, .session⟩,
  ⟨0x6114, 2, 2, 1, 1, .oct 64 64, .ro, .observer, 0, .any, .none, 255, 0, .one⟩]

/-- Objects of chapter 10, part C. -/
def objsBalanceC : List ObjRow := [
  ⟨0xC040, 1, 1, 1, 1, .u 2, .rws, .utility, 0xFFFF, .any, .commit, 31, 0, .meter⟩,
  ⟨0xC040, 2, 2, 1, 1, .f64, .ro, .observer, 0, .any, .none, 255, 0, .meter⟩,
  ⟨0xC040, 3, 3, 1, 1, .f64, .ro, .observer, 0, .any, .none, 255, 0, .meter⟩,
  ⟨0xC040, 4, 4, 1, 1, .u 1, .ro, .observer, 0, .any, .none, 255, 0, .meter⟩,
  ⟨0xC040, 5, 5, 1, 1, .u 1, .ro, .observer, 0, .any, .none, 255, 0, .meter⟩,
  ⟨0xC040, 6, 6, 1, 1, .u 1, .ro, .observer, 0, .rng (0) (3), .none, 255, 0, .meter⟩,
  ⟨0xC040, 7, 7, 1, 1, .u 1, .ro, .observer, 0, .any, .none, 255, 0, .meter⟩,
  ⟨0xC040, 8, 8, 1, 1, .u 2, .ro, .observer, 0, .any, .none, 255, 0, .meter⟩]

/-- Objects of chapter 11, part A. -/
def objsBillingA : List ObjRow := [
  ⟨0x7000, 1, 1, 1, 1, .u 2, .rws, .utility, 30, .rng (0) (3600), .commit, 32, 0, .one⟩,
  ⟨0x7000, 2, 2, 1, 1, .u 2, .ro, .observer, 0, .any, .none, 255, 0, .one⟩,
  ⟨0x7000, 3, 3, 1, 1, .oct 32 32, .ro, .observer, 0, .any, .none, 255, 0, .one⟩,
  ⟨0x7000, 4, 4, 1, 1, .u 4, .ro, .observer, 0, .any, .none, 255, 0, .one⟩,
  ⟨0x7000, 5, 5, 1, 1, .i 8, .ro, .observer, 0, .any, .none, 255, 0, .one⟩,
  ⟨0x7001, 1, 1, 1, 1, .u 1, .rws, .utility, 15, .one [15, 30, 60], .commit, 32, 0, .one⟩,
  ⟨0x7001, 2, 2, 1, 1, .u 1, .rws, .utility, 1, .one [1, 2], .commit, 32, 0, .one⟩,
  ⟨0x7002, 1, 1, 1, 1, .u 1, .rws, .utility, 48, .rng (1) (168), .commit, 32, 0, .one⟩,
  ⟨0x7002, 2, 2, 1, 1, .u 1, .rws, .utility, 24, .rng (1) (168), .commit, 32, 0, .one⟩,
  ⟨0x7002, 3, 3, 1, 1, .u 2, .rws, .utility, 0x12C, .rng (1) (3600), .commit, 32, 0, .one⟩,
  ⟨0x7002, 4, 4, 1, 1, .u 2, .rws, .utility, 48, .rng (1) (400), .commit, 32, 0, .one⟩,
  ⟨0x7003, 1, 1, 1, 1, .u 1, .rws, .utility, 1, .orZero (.one [1, 2]), .commit, 32, 0, .one⟩,
  ⟨0x7003, 2, 2, 1, 1, .u 1, .rws, .utility, 1, .rng (1) (28), .commit, 32, 0, .one⟩,
  ⟨0x7003, 3, 3, 1, 1, .u 2, .rws, .utility, 0, .mul (0) (1425) 15, .commit, 32, 0, .one⟩,
  ⟨0x7003, 4, 4, 1, 1, .u 4, .ro, .observer, 1, .any, .none, 255, 0, .one⟩,
  ⟨0x7003, 5, 5, 1, 1, .empty, .cmd, .utility, 0, .any, .immediate, 255, 0, .one⟩,
  ⟨0x7003, 6, 6, 1, 1, .time64, .ro, .observer, 0, .any, .none, 255, 0, .one⟩,
  ⟨0x7003, 7, 7, 1, 1, .u 4, .ro, .observer, 0, .any, .none, 255, 0, .one⟩,
  ⟨0x7010, 1, 1, 1, 1, .u 1, .rw, .observer, 0, .rng (0) (15), .volatile, 255, 0, .session⟩,
  ⟨0x7011, 1, 1, 1, 1, .u 4, .rws, .utility, 0, .any, .commit, 32, 0, .sel 0x701001⟩,
  ⟨0x7011, 2, 2, 1, 1, .vstr 16, .rws, .utility, 0, .any, .commit, 32, 0, .sel 0x701001⟩,
  ⟨0x7011, 3, 3, 1, 1, .u 1, .ro, .observer, 0, .any, .none, 255, 0, .sel 0x701001⟩,
  ⟨0x7012, 1, 12, 1, 1, .oct 3 3, .rws, .utility, 3, .any, .commit, 32, 0, .sel 0x701001⟩,
  ⟨0x7013, 1, 8, 1, 1, .oct 7 7, .rws, .utility, 7, .any, .commit, 32, 0, .sel 0x701001⟩,
  ⟨0x7014, 1, 32, 1, 1, .oct 0 48, .rws, .utility, 0, .any, .commit, 32, 0, .sel 0x701001⟩,
  ⟨0x7015, 1, 128, 1, 1, .oct 5 5, .rws, .utility, 5, .any, .commit, 32, 0, .sel 0x701001⟩,
  ⟨0x7016, 1, 128, 1, 1, .oct 5 5, .rws, .utility, 5, .any, .commit, 32, 0, .sel 0x701001⟩,
  ⟨0x7021, 1, 1, 1, 1, .u 1, .rws, .utility, 255, .rngOr 0 15 255, .commit, 32, 0, .sel 0x602001⟩,
  ⟨0x7021, 2, 9, 1, 1, .i 8, .ro, .observer, 0, .any, .none, 255, 0, .sel 0x602001⟩,
  ⟨0x7021, 10, 17, 1, 1, .i 8, .ro, .observer, 0, .any, .none, 255, 0, .sel 0x602001⟩]

/-- Objects of chapter 11, part B. -/
def objsBillingB : List ObjRow := [
  ⟨0x7021, 18, 25, 1, 1, .i 8, .ro, .observer, 0, .any, .none, 255, 0, .sel 0x602001⟩,
  ⟨0x7030, 1, 32, 1, 1, .octz 12, .rw, .installer, 0, .any, .immediate, 255, 0, .one⟩,
  ⟨0x7031, 1, 32, 1, 1, .octz 12, .rw, .installer, 0, .any, .immediate, 255, 0, .one⟩,
  ⟨0x7032, 1, 1, 1, 1, .u 1, .rw, .installer, 8, .rng (1) (60), .immediate, 255, 0, .one⟩,
  ⟨0x7032, 2, 2, 1, 1, .u 2, .rw, .installer, 0x12C, .rng (10) (3600), .immediate, 255, 0, .one⟩,
  ⟨0x7040, 1, 1, 1, 1, .u 2, .rw, .observer, 0, .rng (0) (1023), .volatile, 255, 0, .session⟩,
  ⟨0x7040, 2, 2, 1, 1, .u 1, .ro, .observer, 0, .any, .none, 255, 0, .one⟩,
  ⟨0x7040, 3, 3, 1, 1, .oct 20 20, .ro, .observer, 0, .any, .none, 255, 0, .one⟩,
  ⟨0x7040, 4, 4, 1, 1, .oct 6 6, .ro, .observer, 6, .any, .none, 255, 0, .one⟩,
  ⟨0x7040, 5, 5, 1, 1, .u 1, .cmd, .utility, 0, .any, .immediate, 255, 0, .one⟩]

/-- Objects of chapter 11, part C. -/
def objsBillingC : List ObjRow := [
  ⟨0xC050, 1, 1, 1, 1, .u 1, .rws, .utility, 255, .rngOr 0 15 255, .commit, 32, 0, .meter⟩,
  ⟨0xC050, 2, 2, 1, 1, .bool, .rws, .utility, 0, .any, .commit, 32, 0, .meter⟩,
  ⟨0xC050, 3, 3, 1, 1, .i 8, .ro, .observer, 0, .any, .none, 255, 0, .meter⟩,
  ⟨0xC050, 4, 4, 1, 1, .i 8, .ro, .observer, 0, .any, .none, 255, 0, .meter⟩,
  ⟨0xC050, 5, 12, 1, 1, .i 8, .ro, .observer, 0, .any, .none, 255, 0, .meter⟩,
  ⟨0xC050, 13, 20, 1, 1, .i 8, .ro, .observer, 0, .any, .none, 255, 0, .meter⟩,
  ⟨0xC050, 21, 21, 1, 1, .i 8, .ro, .observer, 0, .any, .none, 255, 0, .meter⟩,
  ⟨0xC050, 22, 22, 1, 1, .i 8, .ro, .observer, 0, .any, .none, 255, 0, .meter⟩,
  ⟨0xC050, 23, 23, 1, 1, .time64, .ro, .observer, 0, .any, .none, 255, 0, .meter⟩,
  ⟨0xC050, 24, 24, 1, 1, .u 4, .ro, .observer, 0, .any, .none, 255, 0, .meter⟩,
  ⟨0xC050, 25, 25, 1, 1, .i 4, .ro, .observer, 0, .any, .none, 255, 0, .meter⟩,
  ⟨0xC050, 26, 26, 1, 1, .u 1, .ro, .observer, 1, .rng (1) (8), .none, 255, 0, .meter⟩,
  ⟨0xC051, 1, 8, 1, 1, .i 8, .ro, .observer, 0, .any, .none, 255, 0, .meter⟩,
  ⟨0xC051, 9, 16, 1, 1, .time64, .ro, .observer, 0, .any, .none, 255, 0, .meter⟩,
  ⟨0xC052, 1, 1, 1, 1, .oct 6 6, .rw, .observer, 6, .any, .volatile, 255, 0, .session⟩,
  ⟨0xC052, 2, 2, 1, 1, .oct 32 32, .ro, .observer, 0, .any, .none, 255, 0, .meter⟩,
  ⟨0xC053, 1, 1, 1, 1, .u 1, .rw, .observer, 0, .rng (0) (23), .volatile, 255, 0, .session⟩,
  ⟨0xC053, 2, 2, 1, 1, .oct 336 336, .ro, .observer, 0, .any, .none, 255, 0, .meter⟩]

/-- Objects of chapter 12, part A. -/
def objsPrepayA : List ObjRow := [
  ⟨0x7050, 1, 1, 1, 1, .i 8, .rws, .utility, 0x1E8480, .any, .commit, 33, 0, .one⟩,
  ⟨0x7050, 2, 2, 1, 1, .i 8, .rws, .utility, 0x4C4B40, .any, .commit, 33, 0, .one⟩,
  ⟨0x7050, 3, 3, 1, 1, .u 1, .rws, .utility, 2, .rng (0) (2), .commit, 33, 0, .one⟩,
  ⟨0x7050, 4, 4, 1, 1, .u 2, .rws, .utility, 30, .rng (0) (1440), .commit, 33, 0, .one⟩,
  ⟨0x7050, 5, 5, 1, 1, .i 8, .rws, .utility, 0, .any, .commit, 33, 0, .one⟩,
  ⟨0x7050, 6, 6, 1, 1, .u 1, .rws, .utility, 10, .rng (0) (120), .commit, 33, 0, .one⟩,
  ⟨0x7050, 7, 7, 1, 1, .u 2, .rws, .utility, 30, .rng (0) (1440), .commit, 33, 0, .one⟩,
  ⟨0x7050, 8, 8, 1, 1, .u 1, .rws, .utility, 0, .rng (0) (100), .commit, 33, 0, .one⟩,
  ⟨0x7050, 9, 9, 1, 1, .i 8, .rws, .utility, 0, .rng 0 0x7FFFFFFFFFFFFFFF, .commit, 33, 0, .one⟩,
  ⟨0x7050, 10, 10, 1, 1, .u 2, .rws, .utility, 0, .any, .commit, 33, 0, .one⟩,
  ⟨0x7051, 1, 1, 1, 1, .u 1, .rw, .observer, 0, .rng (0) (15), .volatile, 255, 0, .session⟩,
  ⟨0x7052, 1, 8, 1, 1, .u 4, .rws, .utility, 0, .any, .commit, 33, 0, .sel 0x705101⟩,
  ⟨0x7052, 9, 9, 1, 1, .u 4, .rws, .utility, 0, .any, .commit, 33, 0, .sel 0x705101⟩,
  ⟨0x7053, 1, 8, 1, 1, .oct 5 5, .rws, .utility, 5, .any, .commit, 33, 0, .one⟩,
  ⟨0x7054, 1, 32, 1, 1, .oct 4 4, .rws, .utility, 4, .any, .commit, 33, 0, .one⟩,
  ⟨0x7060, 1, 1, 1, 1, .u 1, .rw, .observer, 0, .rng (0) (31), .volatile, 255, 0, .session⟩,
  ⟨0x7060, 2, 2, 1, 1, .u 2, .rws, .utility, 60, .rng (0) (3600), .commit, 34, 0, .one⟩,
  ⟨0x7060, 3, 3, 1, 1, .u 2, .rws, .utility, 30, .rng (1) (3600), .commit, 34, 0, .one⟩,
  ⟨0x7061, 1, 1, 1, 1, .bool, .rws, .utility, 0, .any, .commit, 34, 0, .sel 0x706001⟩,
  ⟨0x7061, 2, 2, 1, 1, .oct 6 6, .rws, .utility, 0xFF64000A00000006, .any, .commit, 34, 0, .sel 0x706001⟩,
  ⟨0x7061, 3, 3, 1, 1, .u 2, .rws, .utility, 1, .any, .commit, 34, 0, .sel 0x706001⟩,
  ⟨0x7061, 4, 4, 1, 1, .u 2, .rws, .utility, 2, .any, .commit, 34, 0, .sel 0x706001⟩,
  ⟨0x7061, 5, 5, 1, 1, .u 2, .rws, .utility, 250, .rng (1) (1000), .commit, 34, 0, .sel 0x706001⟩,
  ⟨0x7061, 6, 6, 1, 1, .u 2, .rws, .utility, 0x5A0, .rng (60) (10080), .commit, 34, 0, .sel 0x706001⟩,
  ⟨0x7061, 7, 7, 1, 1, .u 1, .rws, .utility, 20, .rng (0) (100), .commit, 34, 0, .sel 0x706001⟩,
  ⟨0x7061, 8, 8, 1, 1, .u 1, .rws, .utility, 15, .rng (0) (60), .commit, 34, 0, .sel 0x706001⟩,
  ⟨0x7061, 9, 9, 1, 1, .u 2, .rws, .utility, 64, .rng (1) (1024), .commit, 34, 0, .sel 0x706001⟩,
  ⟨0x7062, 1, 4, 1, 1, .oct 5 5, .rws, .utility, 5, .any, .commit, 34, 0, .sel 0x706001⟩,
  ⟨0x7063, 1, 1, 1, 1, .u 1, .ro, .observer, 0, .any, .none, 255, 0, .sel 0x706001⟩,
  ⟨0x7063, 2, 2, 1, 1, .u 2, .ro, .observer, 0, .any, .none, 255, 0, .sel 0x706001⟩]

/-- Objects of chapter 12, part B. -/
def objsPrepayB : List ObjRow := [
  ⟨0x7063, 3, 3, 1, 1, .u 4, .ro, .observer, 0, .any, .none, 255, 0, .sel 0x706001⟩,
  ⟨0x7063, 4, 4, 1, 1, .u 2, .ro, .observer, 0, .any, .none, 255, 0, .sel 0x706001⟩,
  ⟨0x7063, 5, 5, 1, 1, .u 1, .cmd, .operator, 0, .any, .immediate, 255, 0, .sel 0x706001⟩,
  ⟨0x7070, 1, 1, 1, 1, .u 1, .rw, .observer, 0, .rng (0) (7), .volatile, 255, 0, .session⟩,
  ⟨0x7071, 1, 1, 1, 1, .u 1, .rws, .utility, 255, .rngOr 0 31 255, .commit, 34, 0, .sel 0x707001⟩,
  ⟨0x7071, 2, 2, 1, 1, .u 1, .rws, .installer, 1, .one [1, 2, 3], .commit, 34, 0, .sel 0x707001⟩,
  ⟨0x7071, 3, 3, 1, 1, .u 2, .rws, .installer, 0x1F40, .rng (0) (20000), .commit, 34, 0, .sel 0x707001⟩,
  ⟨0x7071, 4, 4, 1, 1, .u 2, .rws, .installer, 0x1388, .rng (0) (20000), .commit, 34, 0, .sel 0x707001⟩,
  ⟨0x7071, 5, 5, 1, 1, .u 1, .ro, .observer, 0, .any, .none, 255, 0, .sel 0x707001⟩,
  ⟨0x7071, 6, 6, 1, 1, .u 4, .ro, .observer, 0, .any, .none, 255, 0, .sel 0x707001⟩,
  ⟨0x7071, 7, 7, 1, 1, .u 4, .ro, .observer, 0, .any, .none, 255, 0, .sel 0x707001⟩]

/-- Objects of chapter 12, part C. -/
def objsPrepayC : List ObjRow := [
  ⟨0xC054, 1, 1, 1, 1, .u 1, .rws, .utility, 0, .rng (0) (1), .commit, 33, 0, .meter⟩,
  ⟨0xC054, 2, 2, 1, 1, .u 1, .rws, .utility, 0, .rng (0) (15), .commit, 33, 0, .meter⟩,
  ⟨0xC054, 3, 3, 1, 1, .oct 64 64, .ro, .observer, 0, .any, .none, 255, 0, .meter⟩,
  ⟨0xC054, 4, 4, 1, 1, .i 8, .ro, .observer, 0, .any, .none, 255, 0, .meter⟩,
  ⟨0xC054, 5, 5, 1, 1, .i 8, .ro, .observer, 0, .any, .none, 255, 0, .meter⟩,
  ⟨0xC054, 6, 6, 1, 1, .u 1, .ro, .observer, 0, .any, .none, 255, 0, .meter⟩,
  ⟨0xC054, 16, 16, 1, 1, .oct 16 16, .cmd, .operator, 16, .any, .immediate, 255, 0, .meter⟩,
  ⟨0xC054, 17, 17, 1, 1, .empty, .cmd, .operator, 0, .any, .immediate, 255, 0, .meter⟩,
  ⟨0xC054, 18, 18, 1, 1, .i 8, .cmd, .utility, 0, .any, .immediate, 255, 0, .meter⟩,
  ⟨0xC055, 1, 1, 1, 1, .u 1, .rws, .utility, 255, .rngOr 0 31 255, .commit, 34, 0, .meter⟩,
  ⟨0xC055, 2, 2, 1, 1, .u 1, .ro, .observer, 0, .any, .none, 255, 0, .meter⟩,
  ⟨0xC055, 3, 3, 1, 1, .u 2, .ro, .observer, 0, .any, .none, 255, 0, .meter⟩]

/-- Objects of chapter 13, part A. -/
def objsArchiveA : List ObjRow := [
  ⟨0x8000, 1, 1, 1, 1, .u 1, .ro, .observer, 0, .any, .none, 255, 0, .one⟩,
  ⟨0x8000, 2, 2, 1, 1, .u 4, .ro, .observer, 0, .any, .none, 255, 0, .one⟩,
  ⟨0x8000, 3, 3, 1, 1, .u 2, .ro, .observer, 0, .any, .none, 255, 0, .one⟩,
  ⟨0x8000, 4, 4, 1, 1, .u 4, .ro, .observer, 0, .any, .none, 255, 0, .one⟩,
  ⟨0x8000, 5, 5, 1, 1, .u 4, .ro, .observer, 0, .any, .none, 255, 0, .one⟩,
  ⟨0x8001, 1, 1, 1, 1, .u 4, .rws, .installer, 0xBB8, .rng (100) (1000000), .commit, 35, 0, .one⟩,
  ⟨0x8001, 2, 2, 1, 1, .u 4, .ro, .observer, 0, .any, .none, 255, 0, .one⟩,
  ⟨0x8001, 3, 3, 1, 1, .u 4, .ro, .observer, 0, .any, .none, 255, 0, .one⟩,
  ⟨0x8001, 4, 4, 1, 1, .u 4, .ro, .observer, 0, .any, .none, 255, 0, .one⟩,
  ⟨0x8001, 5, 5, 1, 1, .u 1, .rws, .installer, 80, .rng (50) (100), .commit, 35, 0, .one⟩,
  ⟨0x8002, 1, 1, 1, 1, .u 4, .rws, .utility, 0, .rng 1 4294967295, .commit, 35, 0, .one⟩,
  ⟨0x8002, 2, 2, 1, 1, .u 4, .rws, .utility, 0x2000, .rng 1 4294967295, .commit, 35, 0, .one⟩,
  ⟨0x8002, 3, 3, 1, 1, .u 4, .rws, .utility, 0, .any, .commit, 35, 0, .one⟩,
  ⟨0x8003, 1, 1, 1, 1, .u 2, .rws, .utility, 30, .rng (7) (365), .commit, 35, 0, .one⟩,
  ⟨0x8003, 2, 2, 1, 1, .u 4, .rws, .utility, 0x186A0, .rng (10000) (10000000), .commit, 35, 0, .one⟩,
  ⟨0x8003, 3, 3, 1, 1, .u 4, .ro, .observer, 0, .any, .none, 255, 0, .one⟩,
  ⟨0x8003, 4, 4, 1, 1, .u 4, .ro, .observer, 0, .any, .none, 255, 0, .one⟩,
  ⟨0x8010, 1, 1, 1, 1, .u 4, .rws, .utility, 0x3A98, .rng (500) (180000), .commit, 35, 0, .one⟩,
  ⟨0x8010, 2, 2, 1, 1, .u 8, .ro, .observer, 0, .any, .none, 255, 0, .one⟩,
  ⟨0x8010, 3, 3, 1, 1, .u 4, .ro, .observer, 0, .any, .none, 255, 0, .one⟩,
  ⟨0x8010, 4, 4, 1, 1, .u 4, .ro, .observer, 0, .any, .none, 255, 0, .one⟩,
  ⟨0x8010, 5, 5, 1, 1, .u 4, .ro, .observer, 0, .any, .none, 255, 0, .one⟩,
  ⟨0x8020, 1, 1, 1, 1, .u 1, .rw, .observer, 1, .rng (1) (9), .volatile, 255, 0, .session⟩,
  ⟨0x8021, 1, 1, 1, 1, .u 1, .rws, .utility, 0, .rng (0) (50), .commit, 35, 0, .sel 0x802001⟩,
  ⟨0x8021, 2, 2, 1, 1, .u 4, .rws, .utility, 0x38270, .any, .commit, 35, 0, .sel 0x802001⟩,
  ⟨0x8021, 3, 3, 1, 1, .u 2, .rws, .utility, 0xE4C, .rng (400) (7300), .commit, 35, 0, .sel 0x802001⟩,
  ⟨0x8021, 4, 4, 1, 1, .u 8, .ro, .observer, 0, .any, .none, 255, 0, .sel 0x802001⟩,
  ⟨0x8021, 5, 5, 1, 1, .u 4, .ro, .observer, 0, .any, .none, 255, 0, .sel 0x802001⟩,
  ⟨0x8040, 1, 1, 1, 1, .bool, .rws, .utility, 0, .any, .commit, 35, 0, .one⟩,
  ⟨0x8040, 2, 2, 1, 1, .u 1, .ro, .observer, 0, .any, .none, 255, 0, .one⟩]

/-- Objects of chapter 13, part B. -/
def objsArchiveB : List ObjRow := [
  ⟨0x8040, 3, 3, 1, 1, .u 4, .ro, .observer, 0, .any, .none, 255, 0, .one⟩,
  ⟨0x8040, 4, 4, 1, 1, .u 4, .ro, .observer, 0, .any, .none, 255, 0, .one⟩,
  ⟨0x8040, 5, 5, 1, 1, .u 4, .ro, .observer, 0, .any, .none, 255, 0, .one⟩,
  ⟨0x8040, 6, 6, 1, 1, .u 4, .ro, .observer, 0, .any, .none, 255, 0, .one⟩]

/-- Objects of chapter 14, part A. -/
def objsUpdateA : List ObjRow := [
  ⟨0xA060, 1, 1, 1, 1, .oct 512 512, .cmd, .utility, 0x200, .any, .immediate, 255, 0, .one⟩,
  ⟨0xA060, 2, 2, 1, 1, .oct 4104 4104, .cmd, .utility, 0x1008, .any, .immediate, 255, 0, .one⟩,
  ⟨0xA060, 3, 3, 1, 1, .empty, .cmd, .utility, 0, .any, .immediate, 255, 0, .one⟩,
  ⟨0xA060, 4, 4, 1, 1, .u 4, .ro, .observer, 0, .any, .none, 255, 0, .one⟩,
  ⟨0xA060, 5, 5, 1, 1, .u 1, .ro, .observer, 0, .any, .none, 255, 0, .one⟩,
  ⟨0xA060, 6, 6, 1, 1, .empty, .cmd, .utility, 0, .any, .immediate, 255, 0, .one⟩,
  ⟨0xA061, 1, 1, 1, 1, .oct 13 13, .cmd, .utility, 13, .any, .immediate, 255, 0, .one⟩,
  ⟨0xA061, 2, 2, 1, 1, .u 1, .rw, .utility, 10, .rng (1) (60), .nextActivation, 255, 0, .one⟩,
  ⟨0xA061, 3, 3, 1, 1, .empty, .cmd, .observer, 0, .any, .internal, 255, 0, .one⟩,
  ⟨0xA062, 1, 3, 1, 1, .u 1, .ro, .observer, 0, .any, .none, 255, 0, .one⟩,
  ⟨0xA063, 1, 6, 1, 1, .u 1, .ro, .observer, 0, .any, .none, 255, 0, .one⟩,
  ⟨0xA064, 1, 1, 1, 1, .bool, .ro, .observer, 0, .any, .none, 255, 0, .one⟩,
  ⟨0xA064, 2, 2, 1, 1, .u 4, .ro, .observer, 0, .any, .none, 255, 0, .one⟩,
  ⟨0xA064, 3, 3, 1, 1, .u 1, .ro, .observer, 0, .rng (0) (5), .none, 255, 0, .one⟩,
  ⟨0xA064, 4, 4, 1, 1, .u 2, .ro, .observer, 0, .any, .none, 255, 0, .one⟩,
  ⟨0xA064, 5, 5, 1, 1, .u 2, .ro, .observer, 0, .any, .none, 255, 0, .one⟩,
  ⟨0xA080, 1, 1, 1, 1, .u 1, .rw, .observer, 0, .rng (0) (63), .volatile, 255, 0, .session⟩,
  ⟨0xA081, 1, 1, 1, 1, .u 1, .rw, .utility, 0, .orZero (.one [1, 2]), .immediate, 255, 0, .sel 0xA08001⟩,
  ⟨0xA081, 2, 2, 1, 1, .u 2, .rw, .utility, 0x200, .rng (64) (1024), .immediate, 255, 0, .sel 0xA08001⟩,
  ⟨0xA081, 3, 3, 1, 1, .u 4, .rw, .utility, 0, .rng (1) (16777216), .immediate, 255, 0, .sel 0xA08001⟩,
  ⟨0xA081, 4, 4, 1, 1, .octz 32, .rw, .utility, 0, .any, .immediate, 255, 0, .sel 0xA08001⟩,
  ⟨0xA081, 5, 5, 1, 1, .oct 0 64, .rw, .utility, 0, .any, .immediate, 255, 0, .sel 0xA08001⟩,
  ⟨0xA081, 6, 6, 1, 1, .u 4, .rw, .utility, 0, .any, .immediate, 255, 0, .sel 0xA08001⟩,
  ⟨0xA081, 7, 7, 1, 1, .time64, .rw, .utility, 0, .any, .immediate, 255, 0, .sel 0xA08001⟩,
  ⟨0xA081, 8, 8, 1, 1, .u 1, .rw, .utility, 25, .rng (1) (50), .immediate, 255, 0, .sel 0xA08001⟩,
  ⟨0xA081, 9, 9, 1, 1, .u 1, .rw, .utility, 3, .rng (0) (8), .immediate, 255, 0, .sel 0xA08001⟩,
  ⟨0xA081, 10, 10, 1, 1, .u 2, .rw, .utility, 8, .rng (1) (1024), .immediate, 255, 0, .sel 0xA08001⟩,
  ⟨0xA081, 11, 11, 1, 1, .u 1, .rw, .utility, 5, .rng (1) (16), .immediate, 255, 0, .sel 0xA08001⟩,
  ⟨0xA081, 12, 12, 1, 1, .u 2, .rw, .utility, 0x258, .rng (10) (43200), .immediate, 255, 0, .sel 0xA08001⟩,
  ⟨0xA082, 1, 1, 1, 1, .oct 4104 4104, .cmd, .utility, 0x1008, .any, .immediate, 255, 0, .sel 0xA08001⟩]

/-- Objects of chapter 14, part B. -/
def objsUpdateB : List ObjRow := [
  ⟨0xA082, 2, 2, 1, 1, .u 1, .cmd, .utility, 0, .rng (1) (6), .immediate, 255, 0, .sel 0xA08001⟩,
  ⟨0xA082, 3, 3, 1, 1, .u 1, .ro, .observer, 0, .any, .none, 255, 0, .sel 0xA08001⟩,
  ⟨0xA083, 1, 1, 1, 1, .oct 2 524282, .cmd, .utility, 2, .any, .immediate, 255, 0, .sel 0xA08001⟩,
  ⟨0xA083, 2, 2, 1, 1, .oct 2 524282, .cmd, .utility, 2, .any, .immediate, 255, 0, .sel 0xA08001⟩,
  ⟨0xA084, 1, 1, 1, 1, .u 4, .ro, .observer, 0, .any, .none, 255, 0, .sel 0xA08001⟩,
  ⟨0xA084, 2, 2, 1, 1, .oct 40 40, .ro, .observer, 40, .any, .none, 255, 0, .sel 0xA08001⟩,
  ⟨0xA084, 3, 3, 1, 1, .u 1, .ro, .observer, 0, .any, .none, 255, 0, .sel 0xA08001⟩,
  ⟨0xA084, 4, 4, 1, 1, .u 4, .ro, .observer, 0, .any, .none, 255, 0, .sel 0xA08001⟩]

/-- Objects of chapter 14, part C. -/
def objsUpdateC : List ObjRow := [
  ⟨0xC060, 1, 1, 1, 1, .u 1, .ro, .observer, 0, .any, .none, 255, 0, .meter⟩,
  ⟨0xC060, 2, 2, 1, 1, .u 1, .ro, .observer, 0, .rng (0) (7), .none, 255, 0, .meter⟩,
  ⟨0xC060, 3, 3, 1, 1, .u 4, .ro, .observer, 0, .any, .none, 255, 0, .meter⟩,
  ⟨0xC060, 4, 4, 1, 1, .u 1, .ro, .observer, 0, .any, .none, 255, 0, .meter⟩,
  ⟨0xC060, 5, 5, 1, 1, .time64, .ro, .observer, 0, .any, .none, 255, 0, .meter⟩]

/-- Objects of chapter 15, part A. -/
def objsPairA : List ObjRow := [
  ⟨0xB000, 1, 1, 1, 1, .u 1, .rw, .utility, 1, .one [1, 2], .nextReset, 255, 0, .one⟩,
  ⟨0xB000, 2, 2, 1, 1, .u 1, .rws, .utility, 2, .rng (0) (2), .commit, 37, 0, .one⟩,
  ⟨0xB000, 3, 3, 1, 1, .u 1, .rws, .utility, 1, .rng (0) (2), .commit, 37, 0, .one⟩,
  ⟨0xB000, 4, 4, 1, 1, .u 2, .rws, .utility, 0x7D0, .rng (100) (60000), .commit, 37, 0, .one⟩,
  ⟨0xB000, 5, 5, 1, 1, .u 1, .rws, .utility, 0, .rng (0) (62), .commit, 37, 0, .one⟩,
  ⟨0xB000, 6, 6, 1, 1, .u 1, .rws, .utility, 3, .rng (0) (10), .commit, 37, 0, .one⟩,
  ⟨0xB001, 1, 1, 1, 1, .u 1, .ro, .observer, 0, .any, .none, 255, 0, .one⟩,
  ⟨0xB001, 2, 2, 1, 1, .u 1, .ro, .observer, 0, .any, .none, 255, 0, .one⟩,
  ⟨0xB001, 3, 3, 1, 1, .u 1, .ro, .observer, 0, .any, .none, 255, 0, .one⟩,
  ⟨0xB001, 4, 4, 1, 1, .u 1, .ro, .observer, 0, .any, .none, 255, 0, .one⟩,
  ⟨0xB001, 5, 5, 1, 1, .u 1, .ro, .observer, 0, .rng (0) (63), .none, 255, 0, .one⟩,
  ⟨0xB001, 6, 6, 1, 1, .u 4, .ro, .observer, 128, .any, .none, 255, 0, .one⟩,
  ⟨0xB001, 7, 7, 1, 1, .u 1, .ro, .observer, 0, .any, .none, 255, 0, .one⟩,
  ⟨0xB001, 8, 8, 1, 1, .bool, .ro, .observer, 0, .any, .none, 255, 0, .one⟩,
  ⟨0xB001, 9, 9, 1, 1, .u 1, .ro, .observer, 0, .any, .none, 255, 0, .one⟩,
  ⟨0xB001, 10, 10, 1, 1, .u 4, .ro, .observer, 0, .any, .none, 255, 0, .one⟩,
  ⟨0xB001, 11, 11, 1, 1, .time64, .ro, .observer, 0, .any, .none, 255, 0, .one⟩,
  ⟨0xB001, 12, 12, 1, 1, .u 1, .ro, .observer, 0, .any, .none, 255, 0, .one⟩,
  ⟨0xB001, 13, 13, 1, 1, .u 8, .ro, .observer, 0, .any, .none, 255, 0, .one⟩,
  ⟨0xB001, 14, 14, 1, 1, .u 4, .ro, .observer, 0, .any, .none, 255, 0, .one⟩,
  ⟨0xB001, 15, 15, 1, 1, .u 4, .ro, .observer, 0, .any, .none, 255, 0, .one⟩,
  ⟨0xB001, 16, 16, 1, 1, .u 4, .ro, .observer, 0, .any, .none, 255, 0, .one⟩,
  ⟨0xB001, 17, 17, 1, 1, .u 4, .ro, .observer, 0, .any, .none, 255, 0, .one⟩,
  ⟨0xB001, 18, 18, 1, 1, .time64, .ro, .observer, 0, .any, .none, 255, 0, .one⟩,
  ⟨0xB001, 19, 19, 1, 1, .time64, .ro, .observer, 0, .any, .none, 255, 0, .one⟩,
  ⟨0xB002, 1, 1, 1, 1, .empty, .cmd, .utility, 0, .any, .immediate, 255, 0, .one⟩,
  ⟨0xB002, 2, 2, 1, 1, .empty, .cmd, .utility, 0, .any, .nextReset, 255, 0, .one⟩]

/-- Objects of chapter 16, part A. -/
def objsEventA : List ObjRow := [
  ⟨0xB100, 1, 1, 1, 1, .u 2, .rw, .observer, 1, .rng (1) (1023), .volatile, 255, 0, .session⟩,
  ⟨0xB101, 1, 1, 1, 1, .oct 112 112, .ro, .observer, 0, .any, .none, 255, 0, .sel 0xB10001⟩,
  ⟨0xB101, 2, 2, 1, 1, .u 4, .ro, .observer, 0, .any, .none, 255, 0, .sel 0xB10001⟩,
  ⟨0xB101, 3, 3, 1, 1, .u 4, .ro, .observer, 0, .any, .none, 255, 0, .sel 0xB10001⟩,
  ⟨0xB102, 1, 1, 1, 1, .u 2, .rws, .utility, 0, .rng (0) (1024), .commit, 38, 0, .sel 0xB10001⟩,
  ⟨0xB102, 2, 2, 1, 1, .u 4, .rws, .utility, 0xEA60, .rng (1) (86400000), .commit, 38, 0, .sel 0xB10001⟩,
  ⟨0xB102, 3, 3, 1, 1, .u 1, .rws, .utility, 0, .one [1, 2], .commit, 38, 0, .sel 0xB10001⟩,
  ⟨0xB110, 1, 1, 1, 1, .u 4, .rw, .observer, 0, .any, .volatile, 255, 0, .session⟩,
  ⟨0xB110, 2, 2, 1, 1, .oct 32 32, .ro, .observer, 0, .any, .none, 255, 0, .one⟩,
  ⟨0xB110, 3, 3, 1, 1, .u 4, .ro, .observer, 0, .any, .none, 255, 0, .one⟩,
  ⟨0xB110, 4, 4, 1, 1, .u 4, .ro, .observer, 0xFFFFFFFF, .any, .none, 255, 0, .one⟩,
  ⟨0xB120, 1, 1, 1, 1, .oct 16 16, .ro, .observer, 0, .any, .none, 255, 0, .one⟩,
  ⟨0xB120, 2, 2, 1, 1, .oct 53 53, .cmd, .utility, 53, .any, .immediate, 255, 0, .one⟩,
  ⟨0xB130, 1, 1, 1, 1, .u 4, .ro, .observer, 0, .any, .none, 255, 0, .one⟩,
  ⟨0xB130, 2, 2, 1, 1, .oct 10 10, .cmd, .observer, 10, .any, .internal, 255, 0, .one⟩,
  ⟨0xB130, 3, 3, 1, 1, .oct 8 8, .ro, .observer, 0, .any, .none, 255, 0, .one⟩,
  ⟨0xB130, 4, 4, 1, 1, .u 4, .ro, .observer, 0, .any, .none, 255, 0, .one⟩]

/-- Objects of chapter 17, part A. -/
def objsPowerA : List ObjRow := [
  ⟨0x3000, 1, 1, 1, 1, .u 1, .ro, .observer, 0, .any, .none, 255, 0, .one⟩,
  ⟨0x3000, 2, 2, 1, 1, .u 4, .ro, .observer, 0, .any, .none, 255, 0, .one⟩,
  ⟨0x3000, 3, 3, 1, 1, .u 2, .ro, .observer, 0, .any, .none, 255, 0, .one⟩,
  ⟨0x3000, 4, 4, 1, 1, .time64, .ro, .observer, 0, .any, .none, 255, 0, .one⟩,
  ⟨0x3000, 5, 5, 1, 1, .i 4, .ro, .observer, 0, .any, .none, 255, 0, .one⟩,
  ⟨0x3001, 1, 1, 1, 1, .u 2, .ro, .observer, 0, .any, .none, 255, 0, .one⟩,
  ⟨0x3001, 2, 2, 1, 1, .u 2, .ro, .observer, 0, .any, .none, 255, 0, .one⟩,
  ⟨0x3001, 3, 3, 1, 1, .u 2, .ro, .observer, 0, .any, .none, 255, 0, .one⟩,
  ⟨0x3001, 4, 4, 1, 1, .i 2, .ro, .observer, 0, .any, .none, 255, 0, .one⟩,
  ⟨0x3010, 1, 1, 1, 1, .u 2, .rw, .utility, 200, .rng (50) (1000), .immediate, 255, 0, .one⟩,
  ⟨0x3010, 2, 2, 1, 1, .oct 20 20, .ro, .observer, 20, .any, .none, 255, 0, .one⟩,
  ⟨0x3011, 1, 1, 1, 1, .u 4, .cmd, .utility, 0, .any, .immediate, 255, 0, .one⟩,
  ⟨0x3011, 2, 2, 1, 1, .empty, .cmd, .utility, 0, .any, .immediate, 255, 0, .one⟩,
  ⟨0x3020, 1, 1, 1, 1, .u 1, .ro, .observer, 0, .any, .none, 255, 0, .one⟩,
  ⟨0x3020, 2, 2, 1, 1, .oct 24 24, .ro, .observer, 0, .any, .none, 255, 0, .one⟩]

/-- Objects of chapter 18, part A. -/
def objsLinkA : List ObjRow := [
  ⟨0x4200, 1, 1, 2, 16, .bool, .rws, .installer, 1, .any, .commit, 25, 0, .one⟩,
  ⟨0x4200, 2, 2, 4, 16, .u 1, .rws, .installer, 1, .one [1, 2], .commit, 25, 0, .one⟩,
  ⟨0x4200, 3, 3, 4, 16, .u 1, .rws, .installer, 0, .one [1, 2, 3, 0], .commit, 25, 0, .one⟩,
  ⟨0x4200, 4, 4, 4, 16, .u 2, .rws, .installer, 0, .rng (0) (4094), .commit, 25, 0, .one⟩,
  ⟨0x4201, 1, 2, 4, 16, .oct 9 9, .rws, .utility, 9, .any, .commit, 25, 0, .one⟩,
  ⟨0x4201, 3, 3, 4, 16, .oct 4 4, .rws, .utility, 4, .any, .commit, 25, 0, .one⟩,
  ⟨0x4201, 4, 5, 4, 16, .oct 17 17, .rws, .utility, 17, .any, .commit, 25, 0, .one⟩,
  ⟨0x4201, 6, 6, 4, 16, .oct 16 16, .rws, .utility, 16, .any, .commit, 25, 0, .one⟩,
  ⟨0x4202, 1, 1, 4, 16, .u 2, .rws, .installer, 0, .rng (0) (10000), .commit, 25, 0, .one⟩,
  ⟨0x4202, 2, 2, 4, 16, .u 2, .rws, .installer, 0, .rng (0) (10000), .commit, 25, 0, .one⟩,
  ⟨0x4202, 3, 3, 2, 16, .bool, .rws, .utility, 1, .any, .commit, 25, 0, .one⟩,
  ⟨0x4203, 1, 1, 1, 16, .bool, .rws, .utility, 1, .any, .commit, 25, 0, .one⟩,
  ⟨0x4207, 1, 1, 4, 16, .u 4, .ro, .observer, 0, .any, .none, 255, 0, .one⟩,
  ⟨0x4207, 2, 2, 4, 16, .u 4, .ro, .observer, 0, .any, .none, 255, 0, .one⟩,
  ⟨0x4207, 3, 3, 4, 16, .u 4, .ro, .observer, 0, .any, .none, 255, 0, .one⟩,
  ⟨0x4207, 4, 4, 4, 16, .u 4, .ro, .observer, 0, .any, .none, 255, 0, .one⟩,
  ⟨0x4207, 5, 5, 4, 16, .u 4, .ro, .observer, 0, .any, .none, 255, 0, .one⟩,
  ⟨0x4208, 1, 1, 4, 16, .u 1, .ro, .observer, 0, .any, .none, 255, 0, .one⟩,
  ⟨0x4208, 2, 2, 4, 16, .oct 6 6, .ro, .observer, 0, .any, .none, 255, 0, .one⟩,
  ⟨0x4213, 1, 1, 3, 16, .bool, .rws, .utility, 0, .any, .commit, 25, 0, .one⟩,
  ⟨0x4220, 1, 1, 2, 16, .bool, .rws, .installer, 0, .any, .commit, 25, 0, .one⟩,
  ⟨0x4222, 3, 3, 2, 16, .bool, .rws, .utility, 0, .any, .commit, 25, 0, .one⟩]

/-- Objects of chapter 18, part B. -/
def objsLinkB : List ObjRow := [
  ⟨0x4300, 1, 1, 8, 16, .bool, .rws, .installer, 0, .any, .commit, 26, 0, .one⟩,
  ⟨0x4300, 2, 2, 8, 16, .u 4, .rws, .installer, 0x960, .one [300, 2400, 9600], .commit, 26, 0, .one⟩,
  ⟨0x4300, 4, 4, 8, 16, .u 2, .rws, .installer, 0x1F4, .rng (10) (5000), .commit, 26, 0, .one⟩,
  ⟨0x4300, 5, 5, 8, 16, .u 1, .rws, .installer, 2, .rng (0) (5), .commit, 26, 0, .one⟩,
  ⟨0x4300, 6, 6, 8, 16, .u 2, .rws, .installer, 0x384, .rng (1) (3600), .commit, 26, 0, .one⟩,
  ⟨0x4300, 7, 7, 8, 16, .bool, .rws, .utility, 0, .any, .commit, 26, 0, .one⟩,
  ⟨0x4307, 1, 1, 8, 16, .u 4, .ro, .observer, 0, .any, .none, 255, 0, .one⟩,
  ⟨0x4307, 2, 2, 8, 16, .u 4, .ro, .observer, 0, .any, .none, 255, 0, .one⟩,
  ⟨0x4307, 3, 3, 8, 16, .u 4, .ro, .observer, 0, .any, .none, 255, 0, .one⟩,
  ⟨0x4307, 4, 4, 8, 16, .u 4, .ro, .observer, 0, .any, .none, 255, 0, .one⟩,
  ⟨0x4307, 5, 5, 8, 16, .u 4, .ro, .observer, 0, .any, .none, 255, 0, .one⟩,
  ⟨0x4307, 6, 6, 8, 16, .u 4, .ro, .observer, 0, .any, .none, 255, 0, .one⟩,
  ⟨0x4308, 1, 1, 8, 16, .u 2, .ro, .observer, 0, .any, .none, 255, 0, .one⟩,
  ⟨0x4380, 1, 1, 8, 16, .bool, .rws, .installer, 0, .any, .commit, 26, 0, .one⟩,
  ⟨0x4380, 2, 2, 8, 16, .u 4, .rws, .installer, 0x2580, .rng (300) (12000000), .commit, 26, 0, .one⟩,
  ⟨0x4380, 4, 4, 8, 16, .u 2, .rws, .installer, 0x1F4, .rng (10) (5000), .commit, 26, 0, .one⟩,
  ⟨0x4380, 5, 5, 8, 16, .u 1, .rws, .installer, 2, .rng (0) (5), .commit, 26, 0, .one⟩,
  ⟨0x4380, 6, 6, 8, 16, .u 2, .rws, .installer, 0x384, .rng (1) (3600), .commit, 26, 0, .one⟩,
  ⟨0x4380, 7, 7, 8, 16, .bool, .rws, .utility, 0, .any, .commit, 26, 0, .one⟩,
  ⟨0x4387, 1, 1, 8, 16, .u 4, .ro, .observer, 0, .any, .none, 255, 0, .one⟩,
  ⟨0x4387, 2, 2, 8, 16, .u 4, .ro, .observer, 0, .any, .none, 255, 0, .one⟩,
  ⟨0x4387, 3, 3, 8, 16, .u 4, .ro, .observer, 0, .any, .none, 255, 0, .one⟩,
  ⟨0x4387, 4, 4, 8, 16, .u 4, .ro, .observer, 0, .any, .none, 255, 0, .one⟩,
  ⟨0x4387, 5, 5, 8, 16, .u 4, .ro, .observer, 0, .any, .none, 255, 0, .one⟩,
  ⟨0x4387, 6, 6, 8, 16, .u 4, .ro, .observer, 0, .any, .none, 255, 0, .one⟩,
  ⟨0x4388, 1, 1, 8, 16, .u 2, .ro, .observer, 0, .any, .none, 255, 0, .one⟩]

/-- Objects of chapter 18, part C. -/
def objsLinkC : List ObjRow := [
  ⟨0x4400, 1, 1, 1, 16, .bool, .rws, .installer, 1, .any, .commit, 27, 0, .one⟩,
  ⟨0x4400, 2, 2, 2, 16, .u 2, .rws, .installer, 0x3E8, .any, .commit, 27, 0, .one⟩,
  ⟨0x4407, 1, 1, 2, 16, .u 4, .ro, .observer, 0, .any, .none, 255, 0, .one⟩,
  ⟨0x4407, 2, 2, 2, 16, .u 4, .ro, .observer, 0, .any, .none, 255, 0, .one⟩,
  ⟨0x4407, 3, 3, 2, 16, .u 4, .ro, .observer, 0, .any, .none, 255, 0, .one⟩,
  ⟨0x4408, 1, 1, 2, 16, .u 1, .ro, .observer, 0, .any, .none, 255, 0, .one⟩,
  ⟨0x4410, 1, 1, 1, 16, .bool, .rws, .installer, 0, .any, .commit, 27, 0, .one⟩,
  ⟨0x4420, 1, 1, 2, 8, .bool, .rws, .installer, 1, .any, .commit, 26, 0, .one⟩,
  ⟨0x4420, 2, 2, 2, 8, .u 2, .rws, .installer, 120, .rng (10) (3600), .commit, 26, 0, .one⟩,
  ⟨0x4427, 1, 1, 2, 8, .u 4, .ro, .observer, 0, .any, .none, 255, 0, .one⟩,
  ⟨0x4430, 1, 1, 2, 8, .bool, .rws, .installer, 0, .any, .commit, 26, 0, .one⟩,
  ⟨0x4430, 2, 2, 2, 8, .u 4, .rws, .installer, 0x1C200, .rng (1200) (921600), .commit, 26, 0, .one⟩,
  ⟨0x4430, 3, 3, 2, 8, .u 1, .rws, .installer, 1, .one [1, 2, 3, 4], .commit, 26, 0, .one⟩,
  ⟨0x4430, 4, 4, 2, 8, .bool, .rws, .installer, 0, .any, .commit, 26, 0, .one⟩,
  ⟨0x4437, 1, 1, 2, 8, .u 4, .ro, .observer, 0, .any, .none, 255, 0, .one⟩]

/-- Objects of chapter 18, part D. -/
def objsLinkD : List ObjRow := [
  ⟨0xC022, 1, 1, 1, 1, .u 1, .rws, .installer, 255, .rngOr 0 15 255, .commit, 26, 0, .meter⟩,
  ⟨0xC022, 2, 2, 1, 1, .u 4, .rws, .installer, 0, .any, .commit, 26, 0, .meter⟩,
  ⟨0xC022, 3, 3, 1, 1, .oct 8 8, .rws, .installer, 8, .any, .commit, 26, 0, .meter⟩,
  ⟨0xC022, 4, 4, 1, 1, .u 2, .ro, .observer, 0, .any, .none, 255, 0, .meter⟩]

/-- Objects of chapter 19, part A. -/
def objsOcbA : List ObjRow := [
  ⟨0x2000, 0, 0, 1, 1, .vstr 16, .ro, .observer, 0, .any, .none, 255, 0, .one⟩,
  ⟨0x2001, 0, 0, 1, 1, .u 4, .wo, .observer, 0, .any, .immediate, 255, 0, .one⟩,
  ⟨0x2002, 1, 4, 1, 1, .u 4, .wo, .utility, 0, .any, .immediate, 255, 0, .one⟩,
  ⟨0x2003, 0, 0, 1, 1, .u 2, .ro, .observer, 0, .any, .none, 255, 0, .one⟩,
  ⟨0x2100, 0, 0, 1, 1, .oct 6 6, .rw, .installer, 6, .any, .immediate, 255, 0, .one⟩,
  ⟨0x2300, 0, 0, 1, 1, .u 2, .rw, .observer, 0, .any, .volatile, 255, 0, .session⟩,
  ⟨0x2400, 1, 1, 1, 1, .u 1, .rw, .observer, 0, .rng (0) (255), .volatile, 255, 0, .session⟩,
  ⟨0x2400, 2, 2, 1, 1, .oct 10 10, .ro, .observer, 0, .any, .none, 255, 0, .one⟩,
  ⟨0x2400, 3, 3, 1, 1, .u 1, .cmd, .utility, 0, .any, .immediate, 255, 0, .one⟩,
  ⟨0x2400, 4, 4, 1, 1, .u 2, .ro, .observer, 0, .rng (0) (256), .none, 255, 0, .one⟩,
  ⟨0x2700, 1, 1, 1, 1, .u 2, .rws, .utility, 0x4FC1, .rng 1 65535, .commit, 25, 0, .one⟩,
  ⟨0x2700, 2, 9, 1, 1, .oct 4 4, .rws, .utility, 4, .any, .commit, 25, 0, .one⟩,
  ⟨0x2700, 10, 10, 1, 1, .bool, .rws, .utility, 0, .any, .commit, 25, 0, .one⟩,
  ⟨0x2700, 11, 11, 1, 1, .u 4, .ro, .observer, 0, .any, .none, 255, 0, .one⟩]

/-- The tables with the first and the last index that each describes. -/
def objChunks : List (Nat × Nat × List ObjRow) := [
  (0x1000, 0x1090, objsIdentA),
  (0x1F00, 0x1F26, objsIdentB),
  (0x3100, 0x3111, objsTimeA),
  (0x3111, 0x3204, objsTimeB),
  (0x3300, 0x3403, objsTimeC),
  (0x3500, 0x3505, objsTimeD),
  (0xA000, 0xA056, objsTrustA),
  (0xC010, 0xC010, objsTrustB),
  (0x4000, 0x40B6, objsPlA),
  (0x4006, 0x40B8, objsPlB),
  (0xC020, 0xC020, objsPlC),
  (0x4100, 0x41B7, objsRfA),
  (0x4107, 0x41B8, objsRfB),
  (0xC021, 0xC021, objsRfC),
  (0x5000, 0x5020, objsAcceptA),
  (0xC030, 0xC031, objsAcceptB),
  (0x9000, 0x9020, objsCasA),
  (0x9021, 0x9180, objsCasB),
  (0x6000, 0x6021, objsWeirA),
  (0x6021, 0x6050, objsWeirB),
  (0x6050, 0x6050, objsWeirC),
  (0x6100, 0x6111, objsBalanceA),
  (0x6111, 0x6114, objsBalanceB),
  (0xC040, 0xC040, objsBalanceC),
  (0x7000, 0x7021, objsBillingA),
  (0x7021, 0x7040, objsBillingB),
  (0xC050, 0xC053, objsBillingC),
  (0x7050, 0x7063, objsPrepayA),
  (0x7063, 0x7071, objsPrepayB),
  (0xC054, 0xC055, objsPrepayC),
  (0x8000, 0x8040, objsArchiveA),
  (0x8040, 0x8040, objsArchiveB),
  (0xA060, 0xA082, objsUpdateA),
  (0xA082, 0xA084, objsUpdateB),
  (0xC060, 0xC060, objsUpdateC),
  (0xB000, 0xB002, objsPairA),
  (0xB100, 0xB130, objsEventA),
  (0x3000, 0x3020, objsPowerA),
  (0x4200, 0x4238, objsLinkA),
  (0x4300, 0x43F8, objsLinkB),
  (0x4400, 0x443F, objsLinkC),
  (0xC022, 0xC022, objsLinkD),
  (0x2000, 0x2700, objsOcbA)]

/-- Every row. -/
def objTable : List ObjRow := objChunks.flatMap (fun c => c.2.2)

end Sys2Proof.Machine
end

