-- ==== Sys2Proof/Machine/AcceptState.lean ====
section
/-! DEFINITION. The state of secure acceptance: security contexts, their snapshots, the in-flight journal, decisions that
wait, and forwarding requests (07_acceptance). -/

namespace Sys2Proof.Machine

/-- A security context (R180); its handle is the key of its table. -/
structure Ctx where
  /-- R180: PINNED -/
  pinned : Bool := false
  /-- R180: REMOTE -/
  remote : Bool := false
  /-- R180: COUNTER_VALID -/
  counterValid : Bool := false
  /-- R180: SEQ_VALID -/
  seqValid : Bool := false
  /-- R180: DIRTY -/
  dirty : Bool := false
  /-- R180: key handle -/
  keyHandle : U32 := 0
  /-- R180: last accepted counter -/
  counter : U32 := 0
  /-- R180: key version -/
  keyVersion : U32 := 0
  /-- R180: duplicate digest -/
  digest : Bytes := List.replicate 8 0
  /-- R180: retained acknowledgement, 16 bytes -/
  ack : Bytes := List.replicate 16 0
  /-- R180: last journal sequence -/
  jseq : U64 := 0
  /-- R180: last accepted, ns of network time; 0 never -/
  lastAt : Nat := 0
  /-- R180: link word: type, port, generation -/
  link : U16 := 0
  /-- R180: duplicates -/
  dups : U16 := 0
  /-- R180: replays -/
  replays : U16 := 0
  /-- R180: lower counters -/
  lowers : U16 := 0
  /-- R180: invocation counter -/
  invoc : U32 := 0
  /-- R180: sequence tick, ms -/
  seqTick : Nat := 0
  /-- R180: last sequence of the OCB link layer -/
  lastSeq : U8 := 0
  /-- R180: last access number -/
  access : U8 := 0
  /-- R180: invocation replays -/
  invReplays : U16 := 0
deriving DecidableEq, Repr

/-- A journal entry (R189). -/
structure JEntry where
  /-- R189: journal sequence -/
  seq : U64
  /-- R189: State: open (0x01) or retired (0x00) -/
  isOpen : Bool
  /-- R189: ACK_WITHHELD -/
  withheld : Bool
  /-- R189: KEEPALIVE -/
  keepalive : Bool
  /-- R189: REMOTE -/
  remote : Bool
  /-- R189: LATCH -/
  latch : Bool
  /-- R189: UNSECURED -/
  unsecured : Bool
  /-- R189: ERASURES -/
  erasures : Bool
  /-- R189: MIRRORED -/
  mirrored : Bool
  /-- R189: MAC_COMMAND -/
  macCmd : Bool
  /-- R189: meter handle -/
  handle : Nat
  /-- R189: link -/
  link : U16
  /-- R189: counter -/
  counter : U32
  /-- R189: digest -/
  digest : Bytes
  /-- R189: accepted at, ns -/
  at_ : Nat
  /-- R189: cycle number -/
  cycle : Cycle
  /-- R189: acknowledgement flags -/
  ackFlags : U8
  /-- R189: acknowledgement timing offset -/
  ackOffset : U16
  /-- R189: key version -/
  keyVersion : U32
  /-- R189: payload -/
  payload : Bytes
  /-- R35: every effect of it is released and held in working state, so that the next checkpoint holds it -/
  effected : Bool
  /-- R191: monotonic tick of its writing -/
  born : Nat
  /-- R200: whether the invocation counter of its ciphered APDU was found above the context's; none until judged; model's own,
  reset none (log entry 55) -/
  apdu : Option Bool := none
deriving DecidableEq, Repr

/-- A decision that waits for mirror confirmation (R381). -/
structure Deciding where
  /-- R381: journal sequence -/
  seq : U64
  /-- R184: field port, none for a forwarded record -/
  port : Option Nat
  /-- R146: code and body of a MAC command -/
  mac : Option (Nat × Bytes)
  /-- R33: decided without the confirmation; what waits for the mirroring still waits -/
  made : Bool := false
deriving DecidableEq, Repr

/-- A forwarding request whose response waits for confirmations (R197). -/
structure FwdWait where
  /-- R196: request -/
  req : Req
  /-- R453: a head-end delivery instead: its connection and delivery number -/
  he : Option (Nat × Nat) := none
  /-- R197: results so far: the 16 bytes of each, and the sequence it waits for -/
  results : List (Bytes × Option U64)
deriving DecidableEq, Repr

/-- What waits at a source of acceptance (R25): a frame with its generation code and port, or a request. -/
inductive Inbound where
  | frame (gen port : Nat) (f : StdFrame) (rx : Rx)
  | request (c : Instr)
deriving DecidableEq, Repr

/-- An entry of a source's input queue (R223). -/
structure Held where
  /-- R223: its class is billing -/
  billing : Bool
  /-- R223: source 1-77 -/
  src : Nat
  /-- R25: what waits -/
  what : Inbound
deriving DecidableEq, Repr

/-- Acceptance. -/
structure AcceptState where
  /-- R180: on-chip context store, by handle (16,384 slots); reset empty -/
  ctx : Tbl Ctx := []
  /-- R181: contexts of remote meters in the meter table, by handle; reset empty -/
  ctxMem : Tbl Ctx := []
  /-- R181: cached remote handles, most recently used first; reset none -/
  cache : List Nat := []
  /-- R183: snapshots in MRAM, by handle; reset empty -/
  snaps : Tbl Ctx := []
  /-- R189: the journal in MRAM, oldest first; reset empty -/
  journal : List JEntry := []
  /-- R193: next journal sequence; reset 0 -/
  nextSeq : U64 := 0
  /-- R188: internal counter of OCB link layer frames; reset 0 -/
  ocbCounter : U32 := 0
  /-- R204: counters 0x5000:01-0C; reset zeros -/
  cnt : List U32 := List.replicate 12 0
  /-- R204: 0x5011:06; reset 0 -/
  replayed : U32 := 0
  /-- R191: admission closed; reset open -/
  closed : Bool := false
  /-- R191: JOURNAL_HIGH raised in this episode; reset false -/
  highRaised : Bool := false
  /-- R191: JOURNAL_STUCK raised in this episode; reset false -/
  stuckRaised : Bool := false
  /-- R190: entries in MRAM whose marker or CRC does not hold; reset 0 -/
  torn : Nat := 0
  /-- R381: decisions waiting for confirmation; reset none -/
  deciding : List Deciding := []
  /-- R197: forwarding requests waiting; reset none -/
  fwd : List FwdWait := []
  /-- R205: 0xC031: latch extension present, by handle; reset none -/
  ext : Tbl Bool := []
  /-- R205: 0xC031: alignment state, zc_delta, last latch identifier, status, latched cycle; reset 0, 0x80000000, 0, 0, 0 -/
  align : Tbl (U8 × U32 × U16 × U8 × Cycle) := []
  /-- R25, R223: what waits at its source while an island of the path is held, oldest first; reset none -/
  inputs : List Held := []
deriving DecidableEq, Repr

end Sys2Proof.Machine
end

