-- ==== Sys2Proof/Machine/ArchState.lean ====
section
/-! DEFINITION. The state of the NAND, the archive, the checkpoints and the Host Volume (13_archive). -/

namespace Sys2Proof.Machine

/-- What a target's parameter page reports (R321). -/
structure Geometry where
  /-- R321: pages of 16,384 bytes per block, 256-3,072 -/
  pages : Nat := 256
  /-- R321: planes, 1, 2 or 4 -/
  planes : Nat := 1
  /-- R321: blocks, at most 16,384 -/
  blocks : Nat := 16384
  /-- R321: page data area and spare area are as required -/
  pageOk : Bool := true
  /-- R340: erase suspend offered -/
  suspend : Bool := false
deriving DecidableEq, Repr

/-- One NAND block that the device has used or marked (R324, R338, R339). -/
structure Block where
  /-- R325: region 1 firmware, 2 checkpoint log, 3 archive, 4 Host Volume; 0 free -/
  region : Nat := 0
  /-- R339: erase count -/
  erases : Nat := 0
  /-- R340: reads since its last erase -/
  reads : Nat := 0
  /-- R323: logical addresses of its programmed data units, oldest first -/
  units : List Nat := []
  /-- R324: bad, factory (1) or grown (2); 0 good -/
  bad : Nat := 0
deriving DecidableEq, Repr

/-- One archive record (R328). -/
structure ArchRec where
  /-- R328: coding, 0 lossless, 1 quantised -/
  coding : Nat
  /-- R328: subject word -/
  subject : U32
  /-- R328: stamp, minutes of billing time -/
  stamp : Nat
  /-- R328: body -/
  body : Bytes
  /-- R328: place of its header in the byte stream of its class -/
  pos : Nat
deriving DecidableEq, Repr

/-- A Host Volume write that waits in the write buffer (R342). -/
structure HvWrite where
  /-- R342: LBA -/
  lba : Nat
  /-- R342: 4,096 bytes -/
  data : Bytes
  /-- R342: monotonic tick of its arrival -/
  born : Nat
deriving DecidableEq, Repr

/-- An NVMe I/O queue (R341). -/
structure NvmeQueue where
  /-- R341: completion queue it posts to (itself for a completion queue) -/
  cq : Nat
  /-- R341: entries, at most 1,024 -/
  size : Nat
deriving DecidableEq, Repr

/-- The archive, the checkpoint log's bookkeeping and the Host Volume. -/
structure ArchState where
  /-- R321: targets fitted, by channel x 4 + chip enable; reset DESIGN CHOICE one on each channel (log entry 2) -/
  fitted : Tbl Geometry := [(0, {}), (4, {}), (8, {}), (12, {})]
  /-- R322: usable targets found at start-up (channel x 4 + chip enable, geometry); reset none -/
  usable : Tbl Geometry := []
  /-- R338, R324: blocks used or bad, by target x 16,384 + block; reset none -/
  blocks : Tbl Block := []
  /-- R338: open block per region; reset none -/
  openBlk : Tbl Nat := []
  /-- R323, R337: the programmed data units, 4,096 data bytes as they are stored and 64 bytes of metadata, by physical data unit; reset
  empty -/
  nand : Tbl Bytes := []
  /-- R28: image pages and model pages in the on-chip caches of Station profile, most recently used first; reset none -/
  onChip : List Nat := []
  /-- R28: segment whose model is in the scratch region; reset none -/
  scratchSeg : Option Nat := none
  /-- R344: Host Volume map pages cached on chip where no buffer is granted, most recently used first; reset none -/
  mapChip : List Nat := []
  /-- R338: both maps and the log's: region x 2^40 + logical address to physical data unit; reset empty -/
  map : Tbl Nat := []
  /-- R346: grown bad blocks 0x8000:05; reset 0 -/
  grown : U32 := 0
  /-- R324: factory bad blocks 0x8000:04; reset 0 -/
  factoryBad : U32 := 0
  /-- R346: uncorrectable data units 0x8003:03; reset 0 -/
  uncorr : U32 := 0
  /-- R374: monotonic tick of the last uncorrectable data unit; reset none -/
  uncorrAt : Option Nat := none
  /-- R346: blocks relocated 0x8003:04; reset 0 -/
  relocated : U32 := 0
  /-- R339: NAND_WEAR has been raised; reset false -/
  wearRaised : Bool := false
  /-- R333: blocks whose erase is recorded as started; reset none -/
  erasing : List Nat := []
  /-- R323: write sequence; reset 0 -/
  writeSeq : U64 := 0
  /-- R328: records held per class, oldest first; reset empty -/
  recs : Tbl (List ArchRec) := []
  /-- R328: length of the byte stream of each class; reset 0 -/
  pos : Tbl Nat := []
  /-- R328: data units of each class's stream already programmed; reset 0 -/
  done : Tbl Nat := []
  /-- R329: appends that wait, oldest first (class, record); reset none -/
  waiting : List (Nat × ArchRec) := []
  /-- R25, R341: commands of the host that wait while the storage island is held, oldest first; reset none -/
  nvWait : List Instr := []
  /-- R329: ARCHIVE_FULL of this episode raised; reset false -/
  fullRaised : Bool := false
  /-- R331: sequence of the next checkpoint; reset 0 -/
  nextSeq : U64 := 0
  /-- R346: last committed checkpoint 0x8010:02; none since formatting, reset none -/
  committed : Option U64 := none
  /-- R331: period end of the checkpoint in progress (net ns, period count, journal sequences in its retire ranges); reset none -/
  ckpt : Option (Nat × U32 × List U64) := none
  /-- R331: period end that waits for the checkpoint in progress; reset none -/
  ckptDue : Option (Nat × U32 × List U64) := none
  /-- R346: last commit duration in us 0x8010:03; reset 0 -/
  commitUs : Nat := 0
  /-- R346: late checkpoints 0x8010:04; reset 0 -/
  late : U32 := 0
  /-- R346: last restore duration in ms 0x8010:05; reset 0 -/
  restoreMs : Nat := 0
  /-- R332: the state has been restored and delivery may start; reset false -/
  restored : Bool := false
  /-- R345: monotonic tick at which the application island was released; reset 0 -/
  restoreFrom : Nat := 0
  /-- R341: data of the Host Volume as its keys decrypt the data units of `nand`, by LBA; reset empty -/
  hvData : Tbl Bytes := []
  /-- R342: write buffer, oldest first; reset empty -/
  wbuf : List HvWrite := []
  /-- R347: key generation 0x8040:06; reset 0 -/
  keyGen : U32 := 0
  /-- R340: the Host Volume is read-only; reset false -/
  readOnly : Bool := false
  /-- R341: CC.EN; reset false -/
  ccEn : Bool := false
  /-- R341: CSTS.RDY; reset false -/
  rdy : Bool := false
  /-- R341: a namespace is presented; reset false -/
  nsUp : Bool := false
  /-- R341: I/O completion queues; reset none -/
  cqs : Tbl NvmeQueue := []
  /-- R341: I/O submission queues; reset none -/
  sqs : Tbl NvmeQueue := []
  /-- R341: features set, by identifier; reset none (defaults) -/
  feats : Tbl Nat := []
  /-- R341: Asynchronous Event Requests held, oldest first (command); reset none -/
  aers : List Nat := []
  /-- R341: events waiting for a request, oldest first (type and information); reset none -/
  events : List Nat := []
  /-- R341: asynchronous events masked until the log page is read; reset none -/
  maskedEv : List Nat := []
  /-- R344: MiB of Host Memory Buffer granted 0x8040:03; reset 0 -/
  hmbMib : Nat := 0
  /-- R344: map pages resident in the buffer, most recently used first; reset none -/
  resident : List Nat := []
  /-- R347: buffer integrity failures 0x8040:05; reset 0 -/
  hmbBad : U32 := 0
deriving DecidableEq, Repr

end Sys2Proof.Machine
end

