-- ==== Sys2Proof/Machine/BillState.lean ====
section
/-! DEFINITION. The state of billing, tamper records, the display, prepayment and load groups (11_billing,
12_prepayment_loads). -/

namespace Sys2Proof.Machine

/-- An attributed span between two readings of a meter (R273). -/
structure Span where
  /-- R273: instant of the earlier reading, ns on the billing time line -/
  t0 : Int
  /-- R273: instant of the later reading -/
  t1 : Int
  /-- R273: import at t0 and t1, mWh -/
  i0 : Int
  i1 : Int
  /-- R273: export at t0 and t1, mWh -/
  e0 : Int
  e1 : Int
  /-- R275: the later reading was placed at its acceptance -/
  clockFlag : Bool
  /-- R273: attributed; a span in which a register went backward is not -/
  attributed : Bool
deriving DecidableEq, Repr

/-- A historic record (R285). -/
structure Hist where
  /-- R285: period closed -/
  period : U32
  /-- R285: flags -/
  flags : U16
  /-- R285: boundaries passed -/
  passed : Nat
  /-- R285: closure instant, ns of network time -/
  net : Nat
  /-- R284: closure instant on the billing time line -/
  line : Int
  /-- R285: closure billing time, minutes -/
  bmin : Nat
  /-- R285: totals -/
  totI : Int
  totE : Int
  /-- R285: import and export, rates 1-8 -/
  imp : List Int
  exp : List Int
  /-- R285: maximum demand and its stamp (ns of network time), rates 1-8 -/
  md : List (Int × Nat)
  /-- R285: outage energy -/
  outage : Int
deriving DecidableEq, Repr

/-- The register set of a meter (R272). -/
structure MeterBill where
  /-- R273: instant of the last applied reading; none before the first -/
  last : Option Int := none
  /-- R273: instant of the first reading -/
  first : Int := 0
  /-- R272: total import and export, mWh; reset 0 -/
  totI : Int := 0
  totE : Int := 0
  /-- R272: import of rates 1-8; reset 0 -/
  imp : List Int := List.replicate 8 0
  /-- R272: export of rates 1-8; reset 0 -/
  exp : List Int := List.replicate 8 0
  /-- R272: maximum demand of the period and its stamp (ns of network time), rates 1-8; reset none -/
  md : List (Int × Nat) := List.replicate 8 (0, 0)
  /-- R272: outage energy; reset 0 -/
  outage : Int := 0
  /-- R272: unattributed change of import and of export, shown as one sum (log entry 75); reset 0 -/
  unattr : Int := 0
  unattrE : Int := 0
  /-- R273, R277: tariff tables that the meter named before, each with the place of the billing time line up to which it was in
  force, newest first; reset none -/
  tables : List (Int × Nat) := []
  /-- R300: readings not applied 0xC050:18; reset 0 -/
  notApplied : U32 := 0
  /-- R300: meter clock deviation, ms; reset 0 -/
  dev : Int := 0
  /-- R276: spans that reach into open day blocks, newest first; reset none -/
  spans : List Span := []
  /-- R283: entries of open day blocks, by profile interval; reset none -/
  entries : Tbl PEntry := []
  /-- R34, R334: the open day block, as far as the profile items have appended to it, by profile interval; reset none -/
  block : Tbl PEntry := []
  /-- R280: demand evaluated up to this profile interval (exclusive); reset 0 -/
  demandTo : Nat := 0
  /-- R285: last 24 historic records, newest first; reset none -/
  hist : List Hist := []
deriving DecidableEq, Repr

/-- A feeder register set (R274). Energy is kept as the check channels give it, in 10^-27 J, and shown in mWh. -/
structure FeederBill where
  /-- R299: import of rates 1-8, 10^-27 J; reset 0 -/
  imp : List Int := List.replicate 8 0
  /-- R299: export of rates 1-8, 10^-27 J; reset 0 -/
  exp : List Int := List.replicate 8 0
  /-- R299: maximum demand, rates 1-8, mW; reset 0 -/
  md : List Int := List.replicate 8 0
deriving DecidableEq, Repr

/-- A tamper record of the always-on island (R293). -/
structure TamperRec where
  /-- R293: kind byte -/
  kind : U8
  /-- R293: calendar stamp -/
  cal : CalTime
  /-- R294: capture in network time, ns, 0 for an edge seen on backup -/
  net : Nat
deriving DecidableEq, Repr

/-- Credit states (R305). -/
inductive Credit where
  | off | credit | low | emergency | exhausted | deferred | disconnected
deriving DecidableEq, Repr

/-- A ledger (R301); mode and price set are the meter's objects 0xC054:01 and :02. -/
structure Ledger where
  /-- R305: state; reset OFF -/
  st : Credit := .off
  /-- R301: EC_ACTIVE; reset false -/
  ec : Bool := false
  /-- R301: NOTICE_SENT; reset false -/
  noticeSent : Bool := false
  /-- R301: RECONNECT_PENDING; reset false -/
  reconnect : Bool := false
  /-- R301: DISCONNECT_PENDING; reset false -/
  disconnect : Bool := false
  /-- R301: energy carry; reset 0 -/
  eCarry : Nat := 0
  /-- R301: balance; reset 0 -/
  balance : Int := 0
  /-- R301: debt; reset 0 -/
  debt : Int := 0
  /-- R301: total credited; reset 0 -/
  credited : Int := 0
  /-- R301: total charged; reset 0 -/
  charged : Int := 0
  /-- R301: last transfer identifier; reset 0 -/
  lastId : U32 := 0
  /-- R301: notice end on the billing time line; none without one, reset none -/
  notice : Option Int := none
  /-- R301: time carry; reset 0 -/
  tCarry : Nat := 0
  /-- R306: emergency credit may not be activated until the balance next falls to 0x7050:01; reset false -/
  ecSpent : Bool := false
  /-- R307: reason code of the deferral in force; reset 0 -/
  reason : Nat := 0
  /-- R309: a disconnection sent and not confirmed: failures so far; reset none -/
  cmd : Option Nat := none
  /-- R309: a reconnection sent and not confirmed; reset false -/
  recSent : Bool := false
  /-- R310: after a fail-over, the next output_state decides whether the command is issued again; reset false -/
  follow : Bool := false
  /-- R309: PREPAY_CMD_FAIL raised for this command; reset false -/
  failRaised : Bool := false
  /-- R307: the meter's class 70 object is absent from its association; reset false -/
  noControl : Bool := false
  /-- R302: rate-register changes not yet charged, rates 1-8, mWh; reset 0 -/
  due : List Int := List.replicate 8 0
deriving DecidableEq, Repr

/-- A load group (R312 to R316). -/
structure LoadGroup where
  /-- R312: commanded state; reset off -/
  on : Bool := false
  /-- R312: manual override in force; reset none -/
  manual : Option Bool := none
  /-- R316: HELD; reset false before a release -/
  held : Bool := false
  /-- R316: released, or back on its schedule, since the last main reset release; reset true before one -/
  freed : Bool := true
  /-- R314: start minute of the window that billing time is in, none outside; reset none -/
  window : Option Nat := none
  /-- R313: stored heat h, binary64; reset 0 -/
  h : BitVec 64 := 0
  /-- R313: h as stored in MRAM; reset 0 -/
  hMram : BitVec 64 := 0
  /-- R319: switchings 0x7063:03; reset 0 -/
  switchings : U32 := 0
  /-- R312: members still to be commanded, ascending; reset none -/
  todo : List Nat := []
  /-- R312: members commanded and not acknowledged (handle, retried); reset none -/
  sent : List (Nat × Bool) := []
deriving DecidableEq, Repr

/-- A local relay (R315). -/
structure Relay where
  /-- R319: energised 0x7071:05; reset false -/
  on : Bool := false
  /-- R319: operations; reset 0 -/
  ops : U32 := 0
  /-- R319: unaligned operations; reset 0 -/
  unaligned : U32 := 0
  /-- R315: commanded by a trigger or by hand; reset none -/
  manual : Option Bool := none
  /-- R315: change waiting for its edge (target, instant in ns); reset none -/
  due : Option (Bool × Nat) := none
deriving DecidableEq, Repr

/-- A step of network time as the billing time line knows it (R275, R89): what was stamped before it. -/
structure StepMark where
  /-- R70: number of the newest crossing stamped before the step -/
  cycle : Cycle
  /-- R188: sequence of the first journal entry stamped after it -/
  seq : U64
  /-- R89: size of the step, ns -/
  off : Int
deriving DecidableEq, Repr

/-- What the application state restored from checkpoints holds of billing and prepayment (R330, R332). -/
structure AppState where
  /-- R193: sequence of the last entry whose effects a meter's record holds; reset none -/
  applied : Tbl U64 := []
  /-- R34: sequence of the last entry whose profile append is made, by meter; reset none -/
  profiled : Tbl U64 := []
  /-- R272: register sets, by meter; reset none -/
  meters : Tbl MeterBill := []
  /-- R274: feeder register sets; reset none -/
  feeders : Tbl FeederBill := []
  /-- R281: profile intervals of open day blocks, by number; reset none -/
  ivals : Tbl Ival := []
  /-- R281: number of the next profile interval; model's own, reset 0 -/
  nextIval : Nat := 0
  /-- R287: shift count 0x7000:02; reset 0 -/
  shift : U16 := 0
  /-- R286: adjustment histogram; reset zeros -/
  adjHist : List U16 := List.replicate 16 0
  /-- R287: adjustments split 0x7000:04; reset 0 -/
  splits : U32 := 0
  /-- R275: adjustments with their place on the billing time line, newest first (size in ns); reset none -/
  adjLog : List (Int × Int) := []
  /-- R274: network-time step sum 0x7000:05, ns; reset 0 -/
  stepSum : Int := 0
  /-- R275: the steps of that sum, newest first; reset none -/
  stepLog : List StepMark := []
  /-- R277: rate of each table over the billing time line, newest first (place, rate); reset none (rate 1) -/
  rates : Tbl (List (Int × Nat)) := []
  /-- R284: current period number; reset 1 -/
  period : U32 := 1
  /-- R284: last closure instant, ns of network time; reset none (0) -/
  closedAt : Nat := 0
  /-- R284: last closed boundary, minutes of billing time; reset 0 -/
  closedBound : Nat := 0
  /-- R284: boundaries count from here: the billing minute at which closures were first looked for; reset none -/
  closeFrom : Option Nat := none
  /-- R284: closures on the billing time line, newest first (place, period closed); reset none -/
  closures : List (Int × U32) := []
  /-- R290: outages on the billing time line, newest first (from, to); reset none -/
  outages : List (Int × Int) := []
  /-- R302: charges of time are taken up to here; reset none -/
  chargedTo : Option Int := none
  /-- R301: ledgers, by meter; reset none -/
  ledgers : Tbl Ledger := []
  /-- R320: 0xC055:02 last command sent, by meter; reset 0 -/
  lgSent : Tbl Nat := []
  /-- R320: 0xC055:03 unacknowledged commands, by meter; reset 0 -/
  lgUnacked : Tbl U16 := []
deriving DecidableEq, Repr

/-- The application state that a checkpoint holds, put in force (R330, R332): the network-time steps are the network time's own, and
what counts since a reset goes on counting (R51). -/
def AppState.over (now d : AppState) : AppState :=
  { d with stepSum := now.stepSum, stepLog := now.stepLog, splits := now.splits, lgSent := now.lgSent, lgUnacked := now.lgUnacked }

/-- Billing, prepayment and load groups: the application state, its durable copy, and what stands outside both. -/
structure BillState where
  /-- R330: the application state in working memory -/
  app : AppState := {}
  /-- R330, R331: the application state as the last committed checkpoint and its predecessors hold it; reset as app -/
  durable : AppState := {}
  /-- R331: the application state at the period end of the checkpoint in progress; reset none -/
  snapshot : Option AppState := none
  /-- R331: the application state at the period end that waits for that checkpoint; reset none -/
  snapDue : Option AppState := none
  /-- R290: the outage record: warning on the billing time line, cycle number, shift count; reset none -/
  warning : Option (Int × Cycle × U16) := none
  /-- R293: first 4 and last 4 records of the always-on island, oldest first; reset empty -/
  tampFirst : List TamperRec := []
  tampLast : List TamperRec := []
  /-- R293: edges per input (cover, terminal block, supply loss), saturating; reset 0 -/
  tampCount : List U16 := [0, 0, 0]
  /-- R293: debounced level of the inputs (cover, terminal block): open; reset closed -/
  tampOpen : List Bool := [false, false]
  /-- R294: tamper log, newest first (1,024 entries of 20 bytes); reset empty -/
  tampLog : List Bytes := []
  /-- R294: opened latches 0x7040:02; reset 0 -/
  tampLatch : U8 := 0
  /-- R296: the alternate list is shown; reset false -/
  dispAlt : Bool := false
  /-- R296: item shown, by its place in the list; reset 0 -/
  dispItem : Nat := 0
  /-- R296: scrolling is stopped; reset false -/
  dispHold : Bool := false
  /-- R295: the item shown has changed since the last frame; reset true -/
  dispChanged : Bool := true
  /-- R319: LG0-LG7; reset de-energised -/
  relays : Tbl Relay := []
  /-- R312, R313: load groups; reset off -/
  groups : Tbl LoadGroup := []
  /-- R313: minutes since h was last stored; reset 0 -/
  hMinutes : Nat := 0
  /-- R380: meters whose registers changed since the last billing delta; model's own, reset none -/
  changed : List Nat := []
  /-- R276: readings waiting for the meter clock read or join GETs (handle, reading reference); reset none -/
  gets : List (Nat × Nat) := []
deriving DecidableEq, Repr

end Sys2Proof.Machine
end

