-- ==== Sys2Proof/Machine/CasState.lean ====
section
/-! DEFINITION. The state of the hardware scheduler and the budget enforcer (08_cascade_sluice). -/

namespace Sys2Proof.Machine

/-- Results that an item stages (R34, R213): a reading for the registers, or a charge for the ledger. -/
inductive Work where
  | reading (kind : ReadKind) (regs : Regs)
  | charge
deriving DecidableEq, Repr

/-- Life of an item in its flow (R209, R213). -/
inductive ItemSt where
  | waiting
  | running (core since : Nat)
  | finished (ok : Bool)
deriving DecidableEq, Repr

/-- One item (R207) on its flow. -/
structure Item where
  /-- R213: arrival number, the model's name for the item -/
  id : Nat
  /-- R207: kind 1-4 -/
  kind : Nat
  /-- R207: TELEMETRY -/
  telemetry : Bool
  /-- R207: RESUMED -/
  resumed : Bool
  /-- R207: FROM_DELAY -/
  fromDelay : Bool
  /-- R207: exclusion key -/
  key : Nat
  /-- R207: reference -/
  ref : Nat
  /-- R206, R219: account of the producing item, charged where its queue names none of its own -/
  acct : Nat
  /-- R224: monotonic tick of the acceptance decision for an accepted frame, else of its arrival -/
  born : Nat
  /-- R214, R227: monotonic tick of its arrival on the flow -/
  since : Nat
  /-- R208: it has been dispatched; set at its first dispatch -/
  sent : Bool
  /-- R209: its life -/
  st : ItemSt
  /-- R213: enqueues it requested on later flows (flow, kind, key, reference) -/
  wants : List (Nat × Nat × Nat × Nat)
  /-- R213: what it staged, to become visible at its release; none until its work is done -/
  work : Option Work := none
deriving DecidableEq, Repr

/-- Counters of a queue (R227). -/
structure QueueStat where
  /-- R227: 0x9012:02 peak depth; reset 0 -/
  peak : Nat := 0
  /-- R227: 0x9012:04 FULL returns; reset 0 -/
  full : U32 := 0
  /-- R227: 0x9012:05 wait histogram, 16 bins saturating; reset zeros -/
  hist : List U16 := List.replicate 16 0
deriving DecidableEq, Repr

/-- One budget account (R218-R220, R229). -/
structure Acct where
  /-- R218: balances of core ns, crypto ns, context transfers, NAND units; below zero is debt; at reset filled by the first period -/
  bal : List Int := [0, 0, 0, 0]
  /-- R219: borrow window remaining 0x9100+a:0D, none while it is the configured 0x9100+a:06; reset 0x9100+a:06 -/
  window : Option Nat := none
  /-- R219: borrowed something this period (account 0: lent something); reset false -/
  borrowed : Bool := false
  /-- R219: exhausted its own share of something this period; reset false -/
  exhausted : Bool := false
  /-- R229: 0x9100+a:09 periods exhausted; reset 0 -/
  periodsExh : U32 := 0
  /-- R229: 0x9100+a:0A periods borrowed; reset 0 -/
  periodsBor : U32 := 0
  /-- R229: 0x9100+a:0C overruns; reset 0 -/
  overruns : U32 := 0
deriving DecidableEq, Repr

/-- Cascade, Sluice and admission. -/
structure CasState where
  /-- R206: flows with their items in arrival order; reset empty -/
  flows : Tbl (List Item) := []
  /-- R213: number of the next item; model's own, reset 0 -/
  nextId : Nat := 0
  /-- R206: descriptors in use 0x9000:01; reset 0 -/
  inUse : Nat := 0
  /-- R227: 0x9000:02 POOL_EMPTY returns; reset 0 -/
  poolEmpty : U32 := 0
  /-- R227: 0x9000:03 dispatches; reset 0 -/
  dispatches : U64 := 0
  /-- R227: 0x9000:04 pre-emptions; reset 0 -/
  preempts : U32 := 0
  /-- R209: item running on each application core (flow, item); reset idle -/
  cores : List (Option (Nat × Nat)) := [none, none, none, none]
  /-- R227: core ns used in this period, per core; reset 0 -/
  busy : List Nat := [0, 0, 0, 0]
  /-- R227: core loads of the last periods, newest first (per mille, four cores, with the period length); reset empty -/
  loadHist : List (List Nat × Nat) := []
  /-- R227: core load 0x9001, per mille, last period (4); reset 0 -/
  load : List Nat := [0, 0, 0, 0]
  /-- R210: queue last served per priority, for the round robin; reset 0 -/
  rr : Tbl Nat := []
  /-- R227: queue counters; reset 0 -/
  queues : Tbl QueueStat := []
  /-- R213: results of released items that become visible with the command that released them (meter, journal sequence,
  results); none between commands, reset none -/
  results : List (Nat × U64 × Work) := []
  /-- R214: the four delay lists in due order (due, flow, item); reset empty -/
  delay : Tbl (List (Nat × Nat × Item)) := []
  /-- R209: cores whose dispatch read stalls, oldest read first; reset none -/
  stalled : List Nat := []
  /-- R208, R216: enqueues that the device's own producers keep until they succeed (account, flow, kind, key, reference,
  TELEMETRY), oldest first; reset none -/
  kept : List (Nat × Nat × Nat × Nat × Nat × Bool) := []
  /-- R214: budget periods since reset, the tick of delay list 2; reset 0 -/
  ticks : Nat := 0
  /-- R217: the first period has started (memory island released); reset false -/
  begun : Bool := false
  /-- R208: status of the last enqueue, 0 OK, 1 FULL, 2 INVALID, 3 POOL_EMPTY; model's own, reset 0 -/
  lastStatus : Nat := 0
  /-- R218: accounts 0-15; reset zero balance -/
  accts : Tbl Acct := []
  /-- R229: 0x9180:01 period source is mains; reset false (2, fallback) -/
  mains : Bool := false
  /-- R229: 0x9180:02 predicted period length, ns; reset 20,000,000 -/
  periodLen : Nat := 20000000
  /-- R229: 0x9180:03 period count; reset 0 -/
  periods : U32 := 0
  /-- R229: 0x9180:04 period start, ns; reset 0 -/
  periodStart : Nat := 0
  /-- R220: overrun in each of the last 64 periods, newest first; reset empty -/
  overrunHist : List Bool := []
  /-- R220: an overrun fell in the running period; reset false -/
  overrunNow : Bool := false
  /-- R228: 0x9020:04 credit remaining; reset C (0x9020:02) -/
  credit : Nat := 32768
  /-- R224: tokens missing per source at the refill mark, in 2^-40 of a token (0 = full bucket); reset 0 -/
  spent : Tbl Nat := []
  /-- R224: refill rate per source in this period, in 2^-40 of a token per ns; reset 0 -/
  rates : Tbl Nat := []
  /-- R224: the refill mark, the monotonic tick from which the rates count; reset 0 -/
  refillAt : Nat := 0
  /-- R224: sources that refused or spent a token this period; reset none -/
  active : List Nat := []
  /-- R224: acceptance-fed items released this period; reset 0 -/
  released : Nat := 0
  /-- R224: refusals this period; reset 0 -/
  refusedNow : Nat := 0
  /-- R226: periods since the last refusal (100 and more end an episode); reset 100 -/
  sinceRefusal : Nat := 100
  /-- R228: 0x9020:06 overload active; reset false -/
  overload : Bool := false
  /-- R226: OVERLOAD of this episode still to be raised at the end of its first period; reset false -/
  firstPeriod : Bool := false
  /-- R224: the sojourn S exceeded L/2 in this period; reset false -/
  highS : Bool := false
  /-- R228: 0x9020:07 shaping refusals; reset 0 -/
  shaping : U32 := 0
  /-- R228: 0x9024 refusals per source; reset 0 -/
  refusals : Tbl U32 := []
deriving DecidableEq, Repr

end Sys2Proof.Machine
end

