-- ==== Sys2Proof/Machine/EventState.lean ====
section
/-! DEFINITION. The state of the event recorder (16_events). -/

namespace Sys2Proof.Machine

/-- One code's summary and bucket (R391, R392, R397). -/
structure EvSummary where
  /-- R391: count, saturating; reset 0 -/
  count : U32 := 0
  /-- R392: suppressed, saturating; reset 0 -/
  suppressed : U32 := 0
  /-- R392: pending suppressed; reset 0 -/
  pendingSup : U32 := 0
  /-- R391: last measure (I64); reset 0 -/
  last : Int := 0
  /-- R391: minimum measure; reset 0 -/
  min : Int := 0
  /-- R391: stamp of the minimum; reset 0 -/
  minStamp : U64 := 0
  /-- R391: maximum measure; reset 0 -/
  max : Int := 0
  /-- R391: stamp of the maximum; reset 0 -/
  maxStamp : U64 := 0
  /-- R391: first stamp since a clear; reset 0 -/
  first : U64 := 0
  /-- R391: last stamp; reset 0 -/
  lastStamp : U64 := 0
  /-- R391: histogram, 16 bins U16 saturating; reset zeros -/
  hist : List U16 := List.replicate 16 0
  /-- R392: tokens missing from the bucket (0 = full); reset 0 -/
  missing : Nat := 0
  /-- R391: second of the previous occurrence on the monotonic tick, none after a main reset or a clear; reset none -/
  prevSec : Option Nat := none
deriving DecidableEq, Repr

/-- One log entry (R397). -/
structure EvEntry where
  /-- R397: log number -/
  num : U32
  /-- R393: stamp -/
  stamp : U64
  /-- R397: code, 0 when removed by a clear -/
  code : Nat
  /-- R397: RESTART flag -/
  restart : Bool
  /-- R397: occurrences suppressed before this entry -/
  supBefore : U32
  /-- R397: measure -/
  measure : Int
deriving DecidableEq, Repr

/-- One OCB event table entry (R455). -/
structure OcbEntry where
  /-- R456: OCB event number -/
  num : U16
  /-- R455: calendar stamp YY MM DD hh mm ss in BCD -/
  stamp : Bytes
  /-- R455: low 16 bits of the measure -/
  measure : U16
deriving DecidableEq, Repr

/-- The event recorder. -/
structure EvState where
  /-- R396: working summaries in SRAM, per code; reset zeros -/
  sums : Tbl EvSummary := []
  /-- R397: summaries last flushed to MRAM; reset zeros -/
  sumsMram : Tbl EvSummary := []
  /-- R396: log buffer in SRAM, newest first (4,096 entries); reset empty -/
  buf : List EvEntry := []
  /-- R397: log ring in MRAM, newest first (28,672 entries); reset empty -/
  log : List EvEntry := []
  /-- R397: number the next log entry takes; reset 0 -/
  nextNum : U32 := 0
  /-- R394: last sequence (63 bits); reset 0 -/
  lastSeq : Nat := 0
  /-- R393: power cycles, U24 saturating, in MRAM; reset 0 -/
  powerCycles : BitVec 24 := 0
  /-- R393: monotonic ticks with main power since commissioning (operating minutes x 60 x 32,768); reset 0 -/
  opTicks : Nat := 0
  /-- R396: the next log entry is the first after a main reset; reset true -/
  restart : Bool := true
  /-- R396: write-through to MRAM since the fall of PFW_N; reset false -/
  writeThrough : Bool := false
  /-- R402: flushes 0xB130:01; reset 0 -/
  flushes : U32 := 0
  /-- R396: log entries discarded at last start-up 0xB130:04; reset 0 -/
  discarded : U32 := 0
  /-- R455: OCB event table in MRAM, newest first (256 entries); reset empty -/
  ocb : List OcbEntry := []
deriving DecidableEq, Repr

end Sys2Proof.Machine
end

