-- ==== Sys2Proof/Machine/FieldState.lean ====
section
/-! DEFINITION. The state of the power-line and radio ports and of the partners they serve (05_powerline, 06_radio). -/

namespace Sys2Proof.Machine

/-- One downlink frame held for a partner (R148, R173). -/
structure Down where
  /-- R146, R171: command code of a command frame, none for a data frame -/
  cmd : Option Nat
  /-- R143: payload (after the code) -/
  payload : Bytes
  /-- R485: sent under the network key -/
  network : Bool
  /-- R216: what the producer knows the frame by; 0 none -/
  ref : Nat
deriving DecidableEq, Repr

/-- One partner served on a field port (R156, R173, R179). -/
structure Partner where
  /-- R156, R179: port: 0-11 PL0-PL11, 12-23 RF0-RF11 -/
  port : Nat
  /-- R156, R179: generation as Bp1:01 (5 S-FSK) or Bq0:01 -/
  gen : Nat
  /-- R156: path 0xC020:03, relay handles from the device; reset none -/
  path : List Nat := []
  /-- R156: path cost 0xC020:04; reset 255 -/
  cost : Nat := 255
  /-- R148: a path has been chosen; reset false -/
  hasPath : Bool := false
  /-- R148: the path is one chosen before, for the hysteresis of the next choice; model's own, reset false -/
  known : Bool := false
  /-- R148: cycles in a row without a path; reset 0 -/
  noPath : Nat := 0
  /-- R148: the cycle last counted without a path; model's own, reset none -/
  noPathAt : Option Cycle := none
  /-- R142, R148: slots that a frame on the chosen path takes with all its hops; model's own, reset 1 -/
  span : Nat := 1
  /-- R148: marked unreachable; reset false -/
  unreachable : Bool := false
  /-- R156: phase 0xC020:05; reset 0 -/
  phase : Nat := 0
  /-- R156: crossing offset 0xC020:06, us; reset 0 -/
  offset : Int := 0
  /-- R151: candidate phase and the reports in a row that gave it; reset none -/
  candidate : Nat × Nat := (0, 0)
  /-- R179: slot pair k, s, p, phi 0xC021:03; reset none -/
  slot : Option (Nat × Nat × Nat × Nat) := none
  /-- R179: sync state 0xC021:04; reset 0 -/
  sync : Nat := 0
  /-- R179: learned error 0xC021:05, ppb; reset 0 -/
  err : Int := 0
  /-- R179: drift bound 0xC021:06, 0.01 ppm; reset 50 -/
  drift : Nat := 50
  /-- R179: confidence 0xC021:07; reset 0 -/
  conf : Nat := 0
  /-- R173: last home-slot uplink (ns) and its timing offset (us); reset none -/
  lastUp : Option (Nat × Int) := none
  /-- R173: last eight deviations |e - error|, ppb; reset none -/
  devs : List Nat := []
  /-- R179: downlink frames held, oldest first (0xC021:08, at most 64); reset none -/
  queue : List Down := []
  /-- R170: downlink sent and not yet acknowledged: its counter and its frame; reset none -/
  flight : Option (Nat × Bytes) := none
  /-- R179: consecutive unacknowledged downlinks 0xC021:09; reset 0 -/
  unacked : Nat := 0
  /-- R143: device's frame counter for the partner, next to be used; model's own, reset 0 -/
  txCounter : U32 := 0
  /-- R173: a timing hint is due; reset false -/
  hintDue : Bool := false
  /-- R171: a slot assignment is due; reset false -/
  assignDue : Bool := false
  /-- R140: the new G3 group key is confirmed; reset true -/
  rekeyed : Bool := true
  /-- R359: its Wireless M-Bus link mode, as last heard, is bidirectional; reset true -/
  bidi : Bool := true
  /-- R161: its Wireless M-Bus link mode, as last heard; reset none -/
  link : Option WMode := none
  /-- R173: the frame in flight went in its downlink slot; reset false -/
  inHome : Bool := false
  /-- R166, R173: superframe whose downlink slot last carried a frame to it; reset none -/
  homeSf : Option Nat := none
  /-- R173: resynchronised: its queued frames go in its downlink slots alone; reset false -/
  draining : Bool := false
  /-- R140: its frame failed with KEY_ORPHAN or KEY_EMPTY: it is re-authenticated ahead of the others; reset false -/
  urgent : Bool := false
  /-- R160: a SUN FSK beacon has announced its pending frame; reset false -/
  announced : Bool := false
  /-- R156, R179: joined; reset false -/
  joined : Bool := false
deriving DecidableEq, Repr

/-- A link estimate per slot phase, in 0.25 dB, none where not heard, and when it was refreshed (R147). -/
structure LinkEst where
  /-- R147: q(l, j) -/
  q : List (Option Nat)
  /-- R147: last refresh, ns of network time -/
  fresh : Nat
deriving DecidableEq, Repr

/-- An acknowledgement that is due on a port (R139, R144, R170). -/
structure AckDue where
  /-- R144: partner -/
  handle : Nat
  /-- R196: generation code -/
  gen : Nat
  /-- R381: journal sequence whose decision it waits for, none once decided -/
  wait : Option Nat
  /-- R144, R170: bytes of a native acknowledgement; empty for a standard one -/
  bytes : Bytes
  /-- R161: link mode that a Wireless M-Bus acknowledgement answers in -/
  link : Option WMode := none
  /-- R186: it answers a duplicate, so that its passing withholds nothing -/
  dup : Bool := false
deriving DecidableEq, Repr

/-- A group-key change of a G3-PLC port (R140). -/
structure Rekey where
  /-- R140: handle of the old key -/
  old : Nat
  /-- R140: key index in use for sending -/
  index : Nat
  /-- R140: start, ns -/
  start : Nat
deriving DecidableEq, Repr

/-- A native MAC command whose frame has been decided and on which the protocol island has still to act (R146). -/
structure MacCmd where
  /-- R146: port -/
  port : Nat
  /-- R146: reporter -/
  handle : Nat
  /-- R146: code -/
  code : Nat
  /-- R146: payload after the code -/
  body : Bytes
deriving DecidableEq, Repr

/-- One field port. -/
structure FieldPort where
  /-- R155, R178: counters Bp7:01-0C or Bq7:01-0C; reset zeros -/
  cnt : List U32 := List.replicate 12 0
  /-- R153, R175: native beacons have started (the tracker was LOCKED, or time held); reset false -/
  began : Bool := false
  /-- R133, R155: the automatic gain, dB (log entry 62); reset 0 -/
  gain : Nat := 0
  /-- R155: running RMS Bp8:03; reset 0 -/
  rms : Nat := 0
  /-- R155: noise per slot phase Bp8:04; reset zeros -/
  noise : Bytes := List.replicate 8 0
  /-- R178: last RSSI Bq8:05; reset 0 -/
  rssi : Int := 0
  /-- R154: joins admitted in this budget period; reset 0 -/
  joins : Nat := 0
  /-- R140: re-authentications made in this budget period; reset 0 -/
  reauths : Nat := 0
  /-- R144, R170: acknowledgements due, oldest first; reset none -/
  acks : List AckDue := []
  /-- R145: beacons sent; reset 0 -/
  beacons : Nat := 0
  /-- R164: transmissions of the last 3,600 s, newest first (second, us); reset none -/
  duty : List (Nat × Nat) := []
  /-- R175, R176: superframe whose every second carries a start beacon; reset none -/
  startSf : Option Nat := none
  /-- R175: first superframe in which the port beaconed since reset; reset none -/
  firstSf : Option Nat := none
  /-- R174: consecutive missed beacons of the Active unit; reset 0 -/
  missed : Nat := 0
  /-- R140: group-key change in progress or last done; reset none -/
  rekey : Option Rekey := none
  /-- R140: key index sent under; reset 0 -/
  keyIndex : Nat := 0
  /-- R140: group key handle in force; reset 0 -/
  groupKey : Nat := 0
  /-- R164: frames counted as deferred and not yet sent, by handle and command code, 256 for a held data frame; reset none -/
  deferred : List (Nat × Nat) := []
  /-- R133, R135: transmissions on the line: generation and end in ns of network time; reset none -/
  sending : List (Nat × Nat) := []
  /-- R133: network time until which the receive path is muted; reset 0 -/
  muteTo : Nat := 0
  /-- R169: network seconds whose beacon has been sent, newest first; reset none -/
  beaconSecs : List Nat := []
  /-- R151: cycle and slot offset of the last beacon sent; reset none -/
  lastBeacon : Option (Cycle × Int) := none
  /-- R202: cycle that the last set_cycle broadcast numbered; reset none -/
  lastSet : Option Cycle := none
deriving DecidableEq, Repr

/-- The field ports. -/
structure FieldState where
  /-- R155, R178: ports 0-11 PL0-PL11, 12-23 RF0-RF11; reset zeros -/
  ports : Tbl FieldPort := []
  /-- R156, R179: partners by handle; reset none -/
  partners : Tbl Partner := []
  /-- R147: estimates of directed links, by listener x 2^24 + sender; reset none -/
  links : Tbl LinkEst := []
  /-- R146: decided MAC commands still to be acted on, oldest first; reset none -/
  mac : List MacCmd := []
  /-- R485: join requests acknowledged, response still to be sent, oldest first (port, handle, requested wake exponent);
  reset none -/
  joinDue : List (Nat × Nat × Nat) := []
  /-- R485: device's frame counter for a handle that has no partner record yet; reset none -/
  joinCtr : Tbl U32 := []
  /-- R148, R485: path chosen for a join response to a handle without a partner record: relays and slots it takes; reset
  none -/
  joinPaths : Tbl (List Nat × Nat) := []
  /-- R144, R170: downlink frames acknowledged, newest first (handle, reference); reset none -/
  acked : List (Nat × Nat) := []
  /-- R176: network time before which a radio slot is skipped after a step; reset 0 -/
  skipTo : Nat := 0
  /-- R145, R253: latch order carried in the beacons: target cycle and identifier; reset none -/
  latch : Option (Cycle × Nat) := none
deriving DecidableEq, Repr

end Sys2Proof.Machine
end

