-- ==== Sys2Proof/Machine/LinkState.lean ====
section
/-! DEFINITION. The state of the backhaul, host and serial links (18_host_links) and of the OCB link services
(19_ocb_mode). -/

namespace Sys2Proof.Machine

/-- One Ethernet port (R443). -/
structure EthPort where
  /-- R443: Be7:01 frames received; reset 0 -/
  rx : U32 := 0
  /-- R443: Be7:02 frames transmitted; reset 0 -/
  tx : U32 := 0
  /-- R443: Be7:03 FCS errors; reset 0 -/
  fcs : U32 := 0
  /-- R443: Be7:04 PRP duplicates discarded; reset 0 -/
  dup : U32 := 0
  /-- R443: Be7:05 frames dropped, no buffer; reset 0 -/
  noBuf : U32 := 0
  /-- R443: Be8:01 link state, 0 down, 1 10, 2 100, 3 1,000 Mbit/s; reset 0 -/
  link : U8 := 0
deriving DecidableEq, Repr

/-- One downlink record to a remote meter (R431). -/
structure RdRec where
  /-- R431: generation -/
  gen : Nat
  /-- R431: a DLMS response is expected -/
  wantsReply : Bool
  /-- R431: meter handle -/
  meter : Nat
  /-- R431: device tag -/
  tag : U32
  /-- R431: expiry in s, 0 none -/
  expiry : Nat
  /-- R431: frame -/
  frame : Bytes
deriving DecidableEq, Repr

/-- A confirmable POST to /t outstanding (R431). -/
structure RdReq where
  /-- R431: the forwarder's association -/
  assoc : Nat
  /-- R431: message token -/
  token : Nat
  /-- R431: retransmissions made, at most 4 -/
  sends : Nat
  /-- R431: records carried, 1-64 -/
  recs : List RdRec
deriving DecidableEq, Repr

/-- The delivery engine of function 0 (R433-R435). -/
structure Delivery where
  /-- R433: DLV_BASE; reset 0 -/
  base : U64 := 0
  /-- R433: DLV_ENTRIES; reset 0 -/
  entries : U32 := 0
  /-- R433: DLV_AVAIL; reset 0 -/
  avail : U32 := 0
  /-- R433: DLV_USED; reset 0 -/
  used : U32 := 0
  /-- R433: DLV_SKIPPED; reset 0 -/
  skipped : U32 := 0
  /-- R433: DLV_CTRL[0] enable; reset 0 -/
  enabled : Bool := false
  /-- R433: DLV_CTRL[1] STOPPED; reset 0 -/
  stopped : Bool := false
  /-- R434: descriptors given and not yet filled, oldest first (address, length) of the ring in host memory; reset empty -/
  ring : List (Nat × Nat) := []
  /-- R434: records in the buffer being filled, oldest first; reset empty -/
  filling : List Bytes := []
  /-- R435: records waiting in the delivery buffer, oldest first (sequence, bytes); reset empty -/
  waiting : List (Nat × Bytes) := []
  /-- R435: gap to be delivered first (sequence of the first record skipped, number skipped); reset none -/
  gap : Option (Nat × Nat) := none
  /-- R434: vector 1 has been raised in this period; reset false -/
  raised : Bool := false
  /-- R434: vector 1 waits for the next period; reset false -/
  owed : Bool := false
  /-- R434: buffers returned to the host, newest first; reset empty -/
  returned : List (List Bytes) := []
deriving DecidableEq, Repr

/-- One CAN port (R443). -/
structure CanPort where
  /-- R443: Bc7:01 frames received; reset 0 -/
  rx : U32 := 0
  /-- R443: Bc7:02 error frames; reset 0 -/
  errors : U32 := 0
  /-- R443: Bc7:03 bus-off events; reset 0 -/
  busOff : U32 := 0
  /-- R443: Bc8:01 controller state, 0 off, 1 active, 2 passive, 3 bus-off; reset 0 -/
  st : U8 := 0
  /-- R436: NMT stopped (heartbeat only while operational or pre-operational); reset false -/
  nmtStopped : Bool := false
deriving DecidableEq, Repr

/-- One MB or LN port (R443). -/
structure SerialPort where
  /-- R443: Bs7:01 requests sent; reset 0 -/
  sent : U32 := 0
  /-- R443: Bs7:02 replies received; reset 0 -/
  replies : U32 := 0
  /-- R443: Bs7:03 timeouts; reset 0 -/
  timeouts : U32 := 0
  /-- R443: Bs7:04 collisions and checksum errors; reset 0 -/
  collisions : U32 := 0
  /-- R443: Bs7:05 unsecured replies discarded; reset 0 -/
  unsecured : U32 := 0
  /-- R443: Bs7:06 polls deferred; reset 0 -/
  deferred : U32 := 0
  /-- R439: meter being asked and retries made; reset none -/
  asking : Option (Nat × Nat) := none
  /-- R439: meters still to be polled in this round, ascending handles; reset empty -/
  round : List Nat := []
  /-- R437: FCB of the next request per meter; reset 0 -/
  fcb : Tbl Bool := []
deriving DecidableEq, Repr

/-- The links. -/
structure LinkState where
  /-- R443: ETH0-ETH3; reset zeros -/
  eth : Tbl EthPort := []
  /-- R427: PRP discard table, newest first (source, sequence) with monotonic tick, 4,096 entries; reset empty -/
  prp : List ((Nat × Nat) × Nat) := []
  /-- R427: PRP sequence number of the next frame sent; reset 0 -/
  prpSeq : U16 := 0
  /-- R428: gratuitous announcements still due (0, 100, 200 ms); reset 0 -/
  garpDue : Nat := 0
  /-- R428: the service addresses are answered; reset false until ACTIVE or Solo runs -/
  service : Bool := false
  /-- R431: requests to /t outstanding; reset none -/
  remote : List RdReq := []
  /-- R431: records waiting for an association; reset none -/
  remoteWait : List RdRec := []
  /-- R431: DTLS association that delivered each remote meter's last accepted record; reset none -/
  assoc : Tbl Nat := []
  /-- R431: next device tag; model's own counter, reset 0 -/
  nextTag : U32 := 0
  /-- R431: results received by the device (tag, result), newest first; reset empty -/
  results : List (U32 × Nat) := []
  /-- R432: PCIe link trained; reset false -/
  pcie : Bool := false
  /-- R432: function 1 present; reset false -/
  fn1 : Bool := false
  /-- R433: MBX_DONE; reset 0 -/
  mbxDone : U32 := 0
  /-- R433: MBX_CTRL[0]; reset 0 -/
  mbxOn : Bool := false
  /-- R433: MBX_ERR; reset 0 -/
  mbxErr : U32 := 0
  /-- R433: slots outstanding; reset none -/
  mbxOut : List Nat := []
  /-- R66: outstanding slots whose request is being carried out; reset none -/
  mbxRun : List Nat := []
  /-- R66: contents of the slots in BAR2; reset empty -/
  mbxSlot : Tbl Bytes := []
  /-- R433, R434: MSI-X vectors raised, newest first (function, vector); reset empty -/
  msix : List (Nat × Nat) := []
  /-- R433: delivery registers; reset zeros -/
  dlv : Delivery := {}
  /-- R443: CAN0, CAN1; reset zeros -/
  can : Tbl CanPort := []
  /-- R443: MB0-MB7, LN0-LN7; reset zeros -/
  serial : Tbl SerialPort := []
  /-- R443: 0xC022:04 consecutive timeouts per meter, saturating; reset 0 -/
  consec : Tbl U16 := []
  /-- R443: Bo7:01 sessions per probe port; reset 0 -/
  probeSessions : Tbl U32 := []
  /-- R441: receive FIFO per UART, oldest first (256 bytes); reset empty -/
  uart : Tbl Bytes := []
  /-- R443: Bu7:01 bytes lost per UART; reset 0 -/
  uartLost : Tbl U32 := []
  /-- R449: consecutive wrong access codes; reset 0 -/
  codeWrong : Nat := 0
  /-- R449: access-code entry refused; reset false -/
  codeLocked : Bool := false
  /-- R453: head-end connections (number, IPv4 address); reset none -/
  heConn : Tbl U32 := []
  /-- R454: 0x2700:0B deliveries unconfirmed; reset 0 -/
  heUnconf : U32 := 0
deriving DecidableEq, Repr

end Sys2Proof.Machine
end

