-- ==== Sys2Proof/Machine/PairState.lean ====
section
/-! DEFINITION. The state of the redundant pair (15_pairing). -/

namespace Sys2Proof.Machine

/-- Messages of the Reflecting Pool other than heartbeats (R380). -/
inductive MirrorKind where
  | entry | confirmation | contextChange | billingDelta | ledgerDelta | keyOperation | configuration
  | timeState | latchOrder
deriving DecidableEq, Repr

/-- The pair. -/
structure PairState where
  /-- R377: role state 0xB001:01; reset Solo (0xB000:01 default 1) -/
  role : PairRole := .solo
  /-- R372: CLAIM_WON; reset low -/
  won : Bool := false
  /-- R389: own claim 0xB001:03; reset 0 -/
  claim : U8 := 0
  /-- R389: partner claim, last round 0xB001:04; reset 0 -/
  partnerClaim : U8 := 0
  /-- R371: consecutive rounds won; reset 0 -/
  wins : Nat := 0
  /-- R378: consecutive rounds won with the partner released or silent and no line fault; reset 0 -/
  freeWins : Nat := 0
  /-- R373: position of the winner observed in the last round, none if void or none; reset none -/
  winner : Option Nat := none
  /-- R373: consecutive rounds in which the two units saw different winners; reset 0 -/
  splitRun : Nat := 0
  /-- R373: a line fault episode is open; reset false -/
  lineFault : Bool := false
  /-- R373: clean rounds since the fault; reset 0 -/
  clean : Nat := 0
  /-- R371: equal positions found, claim 0x00 until the next main reset; reset false -/
  equalPos : Bool := false
  /-- R374: health conditions 0xB001:06; reset 0x00000080 -/
  cond : U32 := 0x80
  /-- R374: own health score 0xB001:05; reset 0 -/
  health : Nat := 0
  /-- R374: health conditions latched by faults until reset (LEASE, CLOCK, UNCORRECTABLE, PROTOCOL_FAULT); reset 0 -/
  faults : U32 := 0
  /-- R374: monotonic ticks of corrected ECC errors in the last second, newest first; reset empty -/
  ecc : List Nat := []
  /-- R375: the lease is in force; reset false -/
  lease : Bool := false
  /-- R380: partner's last heartbeat; reset none -/
  hb : Option Heartbeat := none
  /-- R378: no heartbeat arrived during the pair start window; reset false -/
  windowOver : Bool := false
  /-- R389: PAIR link 0xB001:08; reset lost -/
  link : Bool := false
  /-- R380: this unit's heartbeats carry RELEASED; reset false -/
  released : Bool := false
  /-- R379: sequence of the last message sent; reset 0 -/
  txSeq : U64 := 0
  /-- R379: messages unacknowledged, oldest first (sequence, kind, key, body); reset empty -/
  unacked : List (U64 × MirrorKind × Nat × Bytes) := []
  /-- R379: sequence of the last message received; reset 0 -/
  rxSeq : U64 := 0
  /-- R39: PAIR_MISMATCH open, measure 1-4; reset none -/
  mismatch : Option Nat := none
  /-- R389: resynchronisation progress 0xB001:09 in %; reset 0 -/
  progress : Nat := 0
  /-- R401: monotonic tick at which SYNCING was entered; reset 0 -/
  syncSince : Nat := 0
  /-- R389: fail-overs 0xB001:0A; reset 0 -/
  failovers : U32 := 0
  /-- R389: last fail-over 0xB001:0B, ns; reset 0 -/
  lastFailover : Nat := 0
  /-- R389: last fail-over cause 0xB001:0C; reset 0 -/
  failCause : U8 := 0
  /-- R389: entries mirrored or confirmed 0xB001:0D; reset 0 -/
  mirrored : U64 := 0
  /-- R389: decisions without confirmation 0xB001:0E; reset 0 -/
  noConfirm : U32 := 0
  /-- R389: billing divergences 0xB001:0F; reset 0 -/
  diverge : U32 := 0
  /-- R389: beacon suspicions 0xB001:10; reset 0 -/
  suspicions : U32 := 0
  /-- R389: line faults 0xB001:11; reset 0 -/
  lineFaults : U32 := 0
  /-- R389: archive gap start 0xB001:12, ns; reset 0 -/
  gapStart : Nat := 0
  /-- R389: archive gap end 0xB001:13, ns; reset 0 -/
  gapEnd : Nat := 0
  /-- R376: monotonic ticks of automatic restarts in the last hour; reset empty -/
  restarts : List Nat := []
  /-- R386: hand-over in progress: requester, none for a yield; reset none -/
  handover : Option (Option Req) := none
  /-- R386: yield hand-over rather than commanded; reset false -/
  yielding : Bool := false
deriving DecidableEq, Repr

end Sys2Proof.Machine
end

