-- ==== Sys2Proof/Machine/Outputs.lean ====
section
/-! DEFINITION. What the device puts on its wires and pins, as one trace in State, newest first (the model's own field,
log entry 5). -/

namespace Sys2Proof.Machine

/-- What the device asks of a meter by a DLMS service (R201, R254, R256, R275, R309, R312). -/
inductive MeterMsg where
  /-- R254: ACTION arm of class 200 -/
  | armLatch (id : U16) (target : Cycle)
  /-- R256: GET of attributes 6, 8, 9 of class 200 -/
  | getLatch
  /-- R256: GET of the active registers -/
  | getRegisters
  /-- R256: SET of attribute 7 of class 200 with the active import and export registers -/
  | captureObjects
  /-- R255: GET of cycle_count -/
  | getCycleCount
  /-- R254: unicast set_cycle with hops 0 -/
  | setCycle (num : Cycle)
  /-- R275: GET of class 8 attribute 2 -/
  | getClock
  /-- R309: ACTION remote_disconnect -/
  | disconnect
  /-- R309: ACTION remote_reconnect -/
  | reconnect
  /-- R309: GET of output_state -/
  | getOutput
  /-- R309: balance and state code to classes 112 and 111 -/
  | tellCredit (balance : Int) (code : Nat)
  /-- R312: ACTION execute of a script -/
  | script (table : Bytes) (id : Nat)
  /-- R361: a unicast step of a campaign: campaign, target state and phase, block number -/
  | campaign (c st phase block : Nat)
deriving DecidableEq, Repr

/-- One output. -/
inductive Out where
  /-- R69, R484: answer to a dictionary request: none is success, with the bytes read -/
  | resp (r : Req) (abort : Option Abort) (data : Bytes)
  /-- R68, R69: answer to a CoAP request: response code x 100 as class*100+detail, Max-Age, payload -/
  | coap (r : Req) (code : Nat) (maxAge : Nat) (data : Bytes)
  /-- R379, R380: message of the Reflecting Pool -/
  | mirror (seq : U64) (kind : MirrorKind) (key : Nat) (body : Bytes)
  /-- R380: a heartbeat of the Reflecting Pool -/
  | heartbeat (h : Heartbeat)
  /-- R428: gratuitous ARP and neighbour advertisements for every service address -/
  | announce
  /-- R90: a PPS_OUT pulse of a width in ms -/
  | pps (width : Nat)
  /-- R83, R85: a PTP message (1 Sync, 3 Pdelay_Req, 4 Pdelay_Resp) with its inserted time or residence in ns -/
  | ptp (port kind : Nat) (time : Nat)
  /-- R83, R84: an Announce: port, domain, priority 1, clockClass, priority 2, grandmaster, steps removed, timeTraceable -/
  | ptpAnnounce (port domain prio1 cls prio2 gm steps : Nat) (traceable : Bool)
  /-- R119: a use of a key by handle: none succeeded, else KEY_DENIED 1, EMPTY 2, STALE 3, USAGE 4, ORPHAN 5 -/
  | keyUse (handle : U32) (err : Option Nat)
  /-- R144, R145, R169, R170: a frame leaves a field port (0-11 PL, 12-23 RF) -/
  | field (port : Nat) (bytes : Bytes)
  /-- R134, R135: a power-line port drives the line for a generation: TXEN lead and lag in us, and the level of each
  transmission now on the line in half per cent of DAC full scale -/
  | drive (port gen lead lag level : Nat)
  /-- R157, R177: RFq_TXEN of a radio port is high from the start of the transmit script until some us, the TX latency, after
  the last bit -/
  | txen (port lag : Nat)
  /-- R158: the SPI transfers of a radio port's script, in order -/
  | spi (port : Nat) (transfers : List Bytes)
  /-- R139, R161 to R163, R452: the acknowledgement or response that the standard prescribes, by port, generation code,
  partner and, of Wireless M-Bus, its link mode -/
  | stdAck (port gen handle : Nat) (mode : Option WMode)
  /-- R148, R166, R254: a downlink frame of a standard generation, by port, generation, handle, what its standard takes from
  the port's configuration (R137), and content -/
  | stdTx (port gen handle param : Nat) (content : Bytes)
  /-- R140, R154: the G3 group key delivered to a partner by LBP, sealed under the partner's own key: port, partner, key
  index, content -/
  | lbp (port handle index : Nat) (content : Bytes)
  /-- R202: a set_cycle broadcast on a G3-PLC or PRIME port: crossing number, hops -/
  | setCycle (port : Nat) (cycle : Cycle) (hops : Nat)
  /-- R160: an IEEE 802.15.4 beacon on a SUN FSK port: PAN identifier, BO, SO and pending address list -/
  | sunBeacon (port pan bo so : Nat) (pend : List Nat)
  /-- R254, R256, R275, R309, R312: a message to a meter enters its downlink flow, or waits for its forwarder -/
  | meter (handle : Nat) (msg : MeterMsg)
  /-- R295: a show frame to the display module -/
  | display (frame : Bytes)
  /-- R341: completion of an NVMe command: queue, command, status, data -/
  | nvme (queue cid status : Nat) (data : Bytes)
  /-- R427: a PRP supervision frame on ETH0 and ETH1 with its sequence number -/
  | prpSupervision (seq : U16)
  /-- R431: a confirmable POST to /t over an association, with its message token and the records it carries as bytes -/
  | remote (assoc token : Nat) (records : List Bytes)
  /-- R437, R438, R439: a request to a meter on serial port 0-15 in the order of R41; the FCB it carries on an MB port -/
  | serial (port handle : Nat) (fcb : Bool)
  /-- R453: a head-end protocol message: connection, type (2 confirmation, 3 keep-alive), delivery number -/
  | headEnd (conn type number : Nat)
  /-- R453: a TCP reset to a concentrator's address -/
  | tcpReset (addr : U32)
  /-- R61: a classic SDO or USDO response: bytes of a segment or the initiate's data, or an abort -/
  | sdo (i : SessId) (ident : Nat) (abort : Option Abort) (data : Bytes)
  /-- R436: a CANopen heartbeat on CAN0 or CAN1 -/
  | canHeartbeat (port : Nat)
  /-- R207, R209: the dispatch read of a core returns a descriptor -/
  | dispatch (core : Nat) (descriptor : Bytes)
  /-- R197: response to a forwarding request: response code, results -/
  | fwd (r : Req) (code : Nat) (results : List Bytes)
deriving DecidableEq, Repr

/-- What a request is answered with: the bytes read (none for a write or command), or an abort. -/
inductive Answer where
  | ok (data : Bytes)
  | abort (a : Abort)
deriving DecidableEq, Repr

/-- A response of the dictionary service that waits for the next budget period (R60): an answer, or one block or segment. -/
inductive Late where
  | answer (r : Req) (a : Answer)
  | part (o : Out)
deriving DecidableEq, Repr

end Sys2Proof.Machine
end

