-- ==== Sys2Proof/Machine/PowerState.lean ====
section
/-! DEFINITION. The state of power, profile, reset and start-up (01_architecture, 17_power_reset). -/

namespace Sys2Proof.Machine

/-- The islands in the row order of R23. -/
inductive IslandSt where
  | held | running | quiescing | resetting
deriving DecidableEq, Repr

/-- Power, reset, profile and personality. -/
structure PowerState where
  /-- R29: Head-end profile (context memory present); at reset from start-up, DESIGN CHOICE false (Station, log entry 2) -/
  headEnd : Bool := false
  /-- R29: context memory found at start-up, GiB; reset 0 -/
  ctxGib : Nat := 0
  /-- R30: recorded profile Head-end, in persistent configuration; reset none before commissioning -/
  recHeadEnd : Option Bool := none
  /-- R30: recorded meter capacity; reset 0 before commissioning -/
  recCapacity : Nat := 0
  /-- R72: CTXMEM_FAULT; from start-up, reset false -/
  ctxFault : Bool := false
  /-- R72, R444: personality in force is OCB; from strap or 0x1008, reset false (native: strap high, R415) -/
  ocb : Bool := false
  /-- R416: OCB_N as sampled is low; reset false (weak pull-up, R415) -/
  strapOcb : Bool := false
  /-- R416: PAIR_POS as sampled, 0 or 1; reset DESIGN CHOICE 0 (log entry 2) -/
  strapPos : Nat := 0
  /-- R412: last reset cause 0x3000:01; reset 1 power-on -/
  cause : U8 := 1
  /-- R414: reset counter COUNT; reset 1 after the release that finds retention lost -/
  resetCount : BitVec 24 := 1
  /-- R424: POWER_SHORT; from start-up, reset false -/
  powerShort : Bool := false
  /-- R424: WARNING_SEEN; from start-up, reset false -/
  warningSeen : Bool := false
  /-- R424: EVENTS_DISCARDED; from start-up, reset false -/
  eventsDiscarded : Bool := false
  /-- R424: RETENTION_LOST; from start-up, first power-up loses retention, reset true -/
  retentionLost : Bool := true
  /-- R424: RSTCNT_INVALID; reset true after retention loss (R411) -/
  rstcntInvalid : Bool := true
  /-- R424: OSF_AT_START; from start-up, reset true -/
  osfAtStart : Bool := true
  /-- R423: last main reset release 0x3000:04, ns of network time; reset the network time at reset -/
  release : Nat := 946684837000000000
  /-- R307: monotonic tick of the last main reset release; reset 0 -/
  releasedAt : Nat := 0
  /-- R423: last outage length 0x3000:05 in s, -1 unknown; reset 0 -/
  outageLen : Int := 0
  /-- R425: SEQ_DONE; reset 0 -/
  seqDone : Bool := false
  /-- R425: PFW recognised; reset 0 -/
  pfw : Bool := false
  /-- R425: AON_ACCEPTED; reset 1 -/
  aonAccepted : Bool := true
  /-- R425: BAT_LOW; reset 0 -/
  batLow : Bool := false
  /-- R425: BAT_ABSENT; reset 0 -/
  batAbsent : Bool := false
  /-- R425: OVERTEMP; reset 0 -/
  overtemp : Bool := false
  /-- R423: VBAT in mV 0x3001:02; reset DESIGN CHOICE 3000 (log entry 2) -/
  vbat : U16 := 3000
  /-- R423: VBK in mV 0x3001:03; reset DESIGN CHOICE 3300 (log entry 2) -/
  vbk : U16 := 3300
  /-- R423: junction temperature 0x3001:04 in 0.1 degC; reset DESIGN CHOICE 250 (log entry 2) -/
  tj : Int := 250
  /-- R423: block resets per island 0x3010:02, U16 saturating, rows of R23; reset zeros -/
  blockResets : List U16 := List.replicate 10 0
  /-- R418: monotonic ticks of each island's block-alone resets, newest first; reset empty -/
  blockTimes : Tbl (List Nat) := []
  /-- R23, R417: islands in the row order of R23; reset only always-on, Grotto and crypto released (R416 stages 1, 2) -/
  islands : List IslandSt := [.running, .running, .running, .held, .held, .held, .held, .held, .held, .held]
  /-- R25: crossings held at the boundary of an island in a block-alone reset, oldest first; reset none -/
  crossings : List (Nat × Instr) := []
  /-- R416: last start-up stage released, 1-6; reset 2 -/
  stage : Nat := 2
  /-- R423: start-up phase 0x3020:01; reset 1 trusted boot -/
  phase : Nat := 1
  /-- R423: start-up timeline 0x3020:02, us from release per phase, none not reached; reset phase 1 at 0 -/
  timeline : List (Option Nat) := [some 0, none, none, none, none, none]
  /-- R72, R420: QUIET_START; reset 1 -/
  quiet : Bool := true
  /-- R419: acceptance is ready; reset false -/
  acceptReady : Bool := false
  /-- R410: RET_TRIP latched; reset cleared (R411) -/
  retTrip : Bool := false
  /-- R403: main reset is asserted (nothing but the always-on island runs); reset released -/
  inReset : Bool := false
  /-- R412: cause of the main reset in progress; reset none -/
  nextCause : Option U8 := none
  /-- R423: cause of a main reset waiting for the next period boundary; reset none -/
  atPeriod : Option U8 := none
  /-- R408: calendar tick at which the backup switch last left VDD_AON; reset none -/
  switchTick : Option CalTime := none
  /-- R407: calendar tick at which PFW_N was recognised; reset none -/
  warnTick : Option CalTime := none
  /-- R290, R407: an outage is open; reset false -/
  outageOpen : Bool := false
  /-- R405: the main rails are out of regulation; reset false -/
  railsLost : Bool := false
  /-- R290, R405: outage record in MRAM (start), none without one; reset none -/
  outageRec : Option CalTime := none
deriving DecidableEq, Repr

end Sys2Proof.Machine
end

