-- ==== Sys2Proof/Machine/TrustState.lean ====
section
/-! DEFINITION. The state of the trusted island and the key register (04_trust_keys). -/

namespace Sys2Proof.Machine

/-- Life-cycle states (R113). -/
inductive LifeCycle where
  | blank | provisioned | fielded | retired
deriving DecidableEq, Repr

/-- One slot of the key register (R117, R118). -/
structure KeySlot where
  /-- R118: attribute word; reset 0 -/
  attr : U32 := 0
  /-- R117: the 256-bit key or private scalar; reset empty -/
  key : Bytes := []
deriving DecidableEq, Repr

/-- An orphan sweep in progress (R121). -/
structure Sweep where
  /-- R121: slots whose invalidation or destruction it serves -/
  slots : List Nat
  /-- R115: slots zeroized so far at a transition -/
  zeroized : Nat
  /-- R122: commands that answer when it ends (object, request) -/
  who : List (Nat × Req)
deriving DecidableEq, Repr

/-- Trust. -/
structure TrustState where
  /-- R111: LC fuses; reset unblown -/
  lcFuse : BitVec 3 := 0
  /-- R111: DBG_OFF fuse; reset unblown -/
  dbgOff : Bool := false
  /-- R111: PERS_LOCK fuses: 1 native, 2 OCB, 3 native; reset unblown -/
  persLock : BitVec 2 := 0
  /-- R111: ROOT_LOCK fuse; reset blown at factory -/
  rootLock : Bool := true
  /-- R111: VK0_REVOKED fuse; reset unblown -/
  vk0Revoked : Bool := false
  /-- R111: SERIAL fuses, blown at factory; reset DESIGN CHOICE 1 (log entry 2) -/
  serial : U32 := 1
  /-- R111: ROOT fuses, blown at factory; reset DESIGN CHOICE 1 (log entry 2) -/
  root : BitVec 256 := 1
  /-- R111: VKH0 fuses, blown at factory; reset DESIGN CHOICE 1 (log entry 2) -/
  vkh0 : BitVec 256 := 1
  /-- R111: VKH1 fuses, blown at factory; reset DESIGN CHOICE 1 (log entry 2) -/
  vkh1 : BitVec 256 := 1
  /-- R111: TFW_SVN fuses; reset unblown -/
  tfwSvn : BitVec 64 := 0
  /-- R111: AFW_SVN fuses; reset unblown -/
  afwSvn : BitVec 128 := 0
  /-- R111: UCODE_SVN fuses; reset unblown -/
  ucodeSvn : BitVec 64 := 0
  /-- R117: the Cistern's 20,480 slots; reset empty -/
  slots : Tbl KeySlot := []
  /-- R117: sealed copies in MRAM; reset none -/
  sealedCopies : Tbl KeySlot := []
  /-- R121: orphan sweep in progress; reset none -/
  sweep : Option Sweep := none
  /-- R124: meter key records (64 bytes) by handle; a meter is in use when it has one; reset none -/
  meters : Tbl Bytes := []
  /-- R125: meter slot that a meter's key occupies or is pinned to, by handle; reset none -/
  meterSlot : Tbl Nat := []
  /-- R125: handles of direct partners whose slots are pinned; reset none -/
  pins : List Nat := []
  /-- R125: handles with unpinned slots, most recently used first; reset none -/
  lru : List Nat := []
  /-- R121: partners treated as keyless until a new key is imported, by handle; reset none -/
  keyless : List Nat := []
  /-- R127: fleet wrap key change in progress: last handle done, none yet; reset none -/
  rewrap : Option (Option Nat) := none
  /-- R124, R127: epoch of the fleet wrap key in slot 2, as wrap epochs of key records count it; reset 0 -/
  fleetEpoch : Nat := 0
  /-- R130: nonce of the statement being produced; reset none -/
  attNonce : Option Bytes := none
  /-- R130: attestation statement 0xA030:02; reset empty -/
  statement : Bytes := []
  /-- R110: measurement of the trusted firmware; from start-up, reset empty -/
  measTfw : Bytes := []
  /-- R110: measurement of the application firmware; reset empty -/
  measAfw : Bytes := []
  /-- R110: measurement of the microcode; reset empty -/
  measUcode : Bytes := []
deriving DecidableEq, Repr

/-- The life-cycle state that the LC fuses spell (R111); a pattern that is no thermometer code is RETIRED (R112). -/
def TrustState.lc (t : TrustState) : LifeCycle :=
  if t.lcFuse = 0 then .blank else if t.lcFuse = 1 then .provisioned else if t.lcFuse = 3 then .fielded else .retired

/-- Life-cycle codes (R114). -/
def LifeCycle.code : LifeCycle → Nat
  | .blank => 0 | .provisioned => 1 | .fielded => 2 | .retired => 3

end Sys2Proof.Machine
end

