-- ==== Sys2Proof/Machine/UpdState.lean ====
section
/-! DEFINITION. The state of the device's own updates and of the campaigns to meters (14_updates). -/

namespace Sys2Proof.Machine

/-- States of a firmware slot (R365). -/
inductive SlotSt where
  | empty | fallback | staged | trial | active | rejected | unbootable
deriving DecidableEq, Repr

/-- One firmware slot (R348). -/
structure FwSlot where
  /-- R365: state; reset EMPTY -/
  st : SlotSt := .empty
  /-- R349: header, 512 bytes; empty where the image is the one fitted at the factory, whose content the spec does not give -/
  header : Bytes := []
  /-- R350: payload blocks of 4,096 bytes by number; reset none -/
  blocks : Tbl Bytes := []
deriving DecidableEq, Repr

/-- A trial (R353). -/
structure Trial where
  /-- R352: kind mask of the set -/
  mask : Nat
  /-- R353: the set has been started -/
  started : Bool
  /-- R353: health window in minutes, as at the activation -/
  window : Nat
  /-- R353: monotonic tick from which the window counts -/
  since : Nat
  /-- R355: migration of the configuration has completed, or is not needed -/
  migrated : Bool
deriving DecidableEq, Repr

/-- A meter's place in a campaign (R361, R367). -/
structure Target where
  /-- R361: state 1-10 -/
  st : Nat
  /-- R361: part of the state's work: 0 the first request, 1 what follows -/
  phase : Nat := 0
  /-- R361: failure reason; reset 0 -/
  reason : Nat := 0
  /-- R361: blocks still missing, none before the meter has told; reset none -/
  missing : Option (List Nat) := none
  /-- R367: blocks held; reset 0 -/
  held : Nat := 0
  /-- R367: attempts in the current step; reset 0 -/
  attempts : Nat := 0
  /-- R367: last step, ns of network time; reset 0 -/
  last : Nat := 0
  /-- R361: verification failures so far; reset 0 -/
  verifyFails : Nat := 0
  /-- R361: activate this target's image once it is verified; model's own, reset false -/
  due : Bool := false
deriving DecidableEq, Repr

/-- One campaign (R357); its definition is in the objects 0xA081. -/
structure Campaign where
  /-- R357: state code; reset 0 Unused -/
  st : Nat := 0
  /-- R357: content blocks of 4,096 bytes, by number; reset none -/
  content : Tbl Bytes := []
  /-- R358: targets by handle; reset none -/
  targets : Tbl Target := []
  /-- R361: multicast passes done 0xA084:03; reset 0 -/
  passes : Nat := 0
  /-- R366: unicast requests sent; reset 0 -/
  unicasts : U32 := 0
  /-- R361: per port, passes done, next block and next fragment of the pass in progress; reset none -/
  ports : Tbl (Nat × Nat × Nat) := []
deriving DecidableEq, Repr

/-- Updates. -/
structure UpdState where
  /-- R348, R365: slots A and B of each kind, by (kind - 1) x 2 + slot; reset A active, B empty -/
  slots : Tbl FwSlot := [(0, { st := .active }), (2, { st := .active }), (4, { st := .active })]
  /-- R365: active slot of each kind 0xA062; reset A (DESIGN CHOICE, log entry 2) -/
  active : List Nat := [0, 0, 0]
  /-- R350: kind of the image being downloaded; reset none -/
  dl : Option Nat := none
  /-- R365: kind last downloaded, whose blocks 0xA060:04 counts; reset none -/
  dlKind : Option Nat := none
  /-- R365: download state 0xA060:05; reset 0 -/
  dlState : Nat := 0
  /-- R352: activation scheduled: kind mask, instant in ns; reset none -/
  activation : Option (Nat × Nat) := none
  /-- R353: trial running; reset none -/
  trial : Option Trial := none
  /-- R365: last outcome 0xA064:03; reset 0 -/
  outcome : Nat := 0
  /-- R355, R365: writes discarded at the last fallback 0xA064:04; reset 0 -/
  discarded : U16 := 0
  /-- R355, R365: stored configuration schema 0xA064:05; reset DESIGN CHOICE 0 (log entry 2) -/
  schema : Nat := 0
  /-- R355: stored schema before the trial; reset 0 -/
  oldSchema : Nat := 0
  /-- R355: old bank: values of the blocks whose version migration changed, by object and item; reset none -/
  oldBank : Tbl Bytes := []
  /-- R355: writes to such blocks during the trial; reset 0 -/
  trialWrites : U16 := 0
  /-- R354: kinds of which no slot could be started; reset none -/
  down : List Nat := []
  /-- R357: campaigns 0-63; reset unused -/
  camps : Tbl Campaign := []
  /-- R362: last campaign frame of a port: its cycle number or network second; reset none -/
  lastFrame : Tbl Nat := []
  /-- R362: campaign transmissions of the last 60 s on ports of standard generations, by port x 64 + campaign (start in ns of network
  time, us); reset none -/
  stdSent : Tbl (List (Nat × Nat)) := []
deriving DecidableEq, Repr

end Sys2Proof.Machine
end

