-- ==== Sys2Proof/Machine/F64.lean ====
section
/-! DEFINITION. IEEE 754 binary64 with round to nearest, ties to even (R263): every operation is computed exactly as a
ratio times a power of two and rounded once; a multiply-add is fused. -/

namespace Sys2Proof.Machine

/-- A binary64 value in its 64-bit encoding. -/
abbrev F64 := BitVec 64

/-- What an encoding stands for: (-1)^neg * m * 2^e, an infinity, or no number. -/
inductive FVal where
  | fin (neg : Bool) (m : Nat) (e : Int)
  | inf (neg : Bool)
  | nan
deriving DecidableEq, Repr

/-- The value of an encoding. -/
def F64.val (x : F64) : FVal :=
  let e : Nat := x.toNat / 2 ^ 52 % 2048
  let f : Nat := x.toNat % 2 ^ 52
  let neg := x.getLsbD 63
  if e = 2047 then (if f = 0 then .inf neg else .nan)
  else if e = 0 then .fin neg f (-1074)
  else .fin neg (2 ^ 52 + f) ((e : Int) - 1075)

/-- The encoding of not-a-number that an invalid operation answers. -/
def F64.qnan : F64 := 0x7FF8000000000000
/-- The infinity of a sign. -/
def F64.infinity (neg : Bool) : F64 := if neg then 0xFFF0000000000000 else 0x7FF0000000000000

/-- A natural ratio times a power of two as an exact integer ratio. -/
def ratioAt (num den : Nat) (e : Int) : Nat × Nat := if 0 ≤ e then (num * 2 ^ e.toNat, den) else (num, den * 2 ^ (-e).toNat)

/-- (-1)^neg * num/den * 2^e, rounded to the nearest binary64, ties to even; den is not zero. -/
def F64.round (neg : Bool) (num den : Nat) (e : Int) : F64 :=
  if num = 0 then BitVec.ofNat 64 (bit neg * 2 ^ 63)
  else
    let l : Int := (Nat.log2 num : Int) - (Nat.log2 den : Int) + e
    let t0 : Int := max (l - 53) (-1074)
    let q0 := ratioAt num den (e - t0)
    let t := if 2 ^ 53 ≤ q0.1 / q0.2 then t0 + 1 else t0
    let r := ratioAt num den (e - t)
    let q := r.1 / r.2
    let d := r.1 % r.2
    let k := if r.2 < 2 * d ∨ (2 * d = r.2 ∧ q % 2 = 1) then q + 1 else q
    let bits := if k < 2 ^ 52 then k else (t + 1074).toNat * 2 ^ 52 + k
    if 2047 * 2 ^ 52 ≤ bits then F64.infinity neg else BitVec.ofNat 64 (bit neg * 2 ^ 63 + bits)

/-- The integer nearest in binary64. -/
def F64.ofInt (i : Int) : F64 := F64.round (decide (i < 0)) i.natAbs 1 0

/-- An integer ratio, correctly rounded. -/
def F64.ofRatio (n : Int) (d : Nat) : F64 := F64.round (decide (n < 0)) n.natAbs d 0

/-- The signed sum of two finite values as mantissa and exponent. -/
def dyadicSum (n1 : Bool) (m1 : Nat) (e1 : Int) (n2 : Bool) (m2 : Nat) (e2 : Int) : Int × Int :=
  let e := min e1 e2
  let a : Int := (m1 * 2 ^ (e1 - e).toNat : Nat)
  let b : Int := (m2 * 2 ^ (e2 - e).toNat : Nat)
  ((if n1 then -a else a) + (if n2 then -b else b), e)

/-- Fused multiply-add a*b + c. -/
def F64.fma (a b c : F64) : F64 :=
  match a.val, b.val, c.val with
  | .nan, _, _ => F64.qnan
  | _, .nan, _ => F64.qnan
  | _, _, .nan => F64.qnan
  | .fin n1 m1 e1, .fin n2 m2 e2, .fin n3 m3 e3 =>
    let s := dyadicSum (n1 != n2) (m1 * m2) (e1 + e2) n3 m3 e3
    if s.1 = 0 then BitVec.ofNat 64 (bit ((n1 != n2) && n3) * 2 ^ 63)
    else F64.round (decide (s.1 < 0)) s.1.natAbs 1 s.2
  | .fin _ _ _, .fin _ _ _, .inf n => F64.infinity n
  | .inf n1, .fin n2 m2 _, .inf n3 => if m2 = 0 ∨ (n1 != n2) ≠ n3 then F64.qnan else F64.infinity n3
  | .inf n1, .fin n2 m2 _, .fin _ _ _ => if m2 = 0 then F64.qnan else F64.infinity (n1 != n2)
  | .fin n1 m1 _, .inf n2, .inf n3 => if m1 = 0 ∨ (n1 != n2) ≠ n3 then F64.qnan else F64.infinity n3
  | .fin n1 m1 _, .inf n2, .fin _ _ _ => if m1 = 0 then F64.qnan else F64.infinity (n1 != n2)
  | .inf n1, .inf n2, .inf n3 => if (n1 != n2) ≠ n3 then F64.qnan else F64.infinity n3
  | .inf n1, .inf n2, .fin _ _ _ => F64.infinity (n1 != n2)

/-- One in binary64. -/
def F64.one : F64 := 0x3FF0000000000000

/-- The negative. -/
def F64.neg (a : F64) : F64 := a ^^^ 0x8000000000000000
/-- Sum. -/
def F64.add (a b : F64) : F64 := F64.fma a F64.one b
/-- Difference. -/
def F64.sub (a b : F64) : F64 := a.add b.neg

/-- Product. -/
def F64.mul (a b : F64) : F64 :=
  match a.val, b.val with
  | .nan, _ => F64.qnan
  | _, .nan => F64.qnan
  | .fin n1 m1 e1, .fin n2 m2 e2 => F64.round (n1 != n2) (m1 * m2) 1 (e1 + e2)
  | .inf n1, .fin n2 m2 _ => if m2 = 0 then F64.qnan else F64.infinity (n1 != n2)
  | .fin n1 m1 _, .inf n2 => if m1 = 0 then F64.qnan else F64.infinity (n1 != n2)
  | .inf n1, .inf n2 => F64.infinity (n1 != n2)

/-- Quotient. -/
def F64.div (a b : F64) : F64 :=
  match a.val, b.val with
  | .nan, _ => F64.qnan
  | _, .nan => F64.qnan
  | .fin n1 m1 e1, .fin n2 m2 e2 =>
    if m2 = 0 then (if m1 = 0 then F64.qnan else F64.infinity (n1 != n2))
    else F64.round (n1 != n2) m1 m2 (e1 - e2)
  | .inf n1, .fin n2 _ _ => F64.infinity (n1 != n2)
  | .fin n1 _ _, .inf n2 => BitVec.ofNat 64 (bit (n1 != n2) * 2 ^ 63)
  | .inf _, .inf _ => F64.qnan

/-- Integer square root, bit by bit from bit k down. -/
def isqrt (n : Nat) : Nat → Nat → Nat
  | 0, r => r
  | k + 1, r => let r' := r + 2 ^ k; isqrt n k (if r' * r' ≤ n then r' else r)

/-- Square root. -/
def F64.sqrt (a : F64) : F64 :=
  match a.val with
  | .nan => F64.qnan
  | .inf neg => if neg then F64.qnan else a
  | .fin neg m e =>
    if m = 0 then a
    else if neg then F64.qnan
    else
      let k : Int := if e % 2 = 0 then 128 else 129
      let n := m * 2 ^ k.toNat
      let r := isqrt n 128 0
      F64.round false (2 * r + (if r * r = n then 0 else 1)) 1 ((e - k) / 2 - 1)

/-- a < b; not so where either is no number. -/
def F64.lt (a b : F64) : Bool :=
  match a.val, b.val with
  | .nan, _ => false
  | _, .nan => false
  | .fin n1 m1 e1, .fin n2 m2 e2 => decide ((dyadicSum n1 m1 e1 (!n2) m2 e2).1 < 0)
  | .inf n1, .inf n2 => n1 && !n2
  | .inf n1, .fin _ _ _ => n1
  | .fin _ _ _, .inf n2 => !n2

/-- a ≤ b. -/
def F64.le (a b : F64) : Bool := F64.lt a b || (match a.val, b.val with
  | .nan, _ => false
  | _, .nan => false
  | _, _ => !F64.lt b a)

/-- Magnitude. -/
def F64.abs (a : F64) : F64 := a &&& 0x7FFFFFFFFFFFFFFF

/-- Neither infinite nor no number. -/
def F64.finite (a : F64) : Bool := match a.val with | .fin _ _ _ => true | _ => false

/-- A finite value as an exact ratio of an integer by a natural number; 0 otherwise. -/
def F64.ratio (a : F64) : Int × Nat :=
  match a.val with
  | .fin neg m e =>
    let r := ratioAt m 1 e
    (if neg then -(r.1 : Int) else (r.1 : Int), r.2)
  | _ => (0, 1)

/-- Nearest integer, halves away from zero (R259); 0 where the value is not finite. -/
def F64.toInt (a : F64) : Int := let r := a.ratio; roundDiv r.1 r.2

/-- An integer times a binary64 value, rounded to the nearest integer, halves away from zero. -/
def scaleInt (x : Int) (a : F64) : Int := let r := a.ratio; roundDiv (x * r.1) r.2

end Sys2Proof.Machine
end

