-- ==== Sys2Proof/Machine/WeirState.lean ====
section
/-! DEFINITION. The state of the check channels (09_weir) and of the balance engine (10_balance). Energies of the
accumulators are in units of 10^-27 J (nV x nA x ns, log entry 15); registers are shown in mWh. -/

namespace Sys2Proof.Machine

/-- A cycle boundary of one phase that the samples have still to reach (R239, R244). -/
structure Bound where
  /-- R239: its instant, ns of network time -/
  at_ : Nat
  /-- R239: phase 0 A, 1 B, 2 C -/
  phase : Nat
  /-- R244: cycle number, none for a fallback interval -/
  cycle : Option Cycle
  /-- R244: the offset fell back -/
  fallback : Bool
  /-- R76: a predicted crossing -/
  predicted : Bool
deriving DecidableEq, Repr

/-- What a latch has of one feeder (R244): import and export of the phases and the total, mWh. -/
structure LatchVals where
  imp : List Int := [0, 0, 0]
  exp : List Int := [0, 0, 0]
  totI : Int := 0
  totE : Int := 0
  /-- R244: flags of the feeder at its instants -/
  flags : U16 := 0
deriving DecidableEq, Repr

/-- A pending latch (R243). -/
structure Latch where
  /-- R243: identifier -/
  id : U16
  /-- R243: target cycle -/
  target : Cycle
  /-- R244: s_A of the target, none before it -/
  sA : Option Nat := none
  /-- R244: phases that have reached their instant (A, B, C) -/
  got : List Bool := [false, false, false]
  /-- R244: offsets used, ns -/
  offB : Int := 0
  offC : Int := 0
  /-- R244: PREDICTED and OFFSET_FALLBACK -/
  flags : U16 := 0
  /-- R261: 0x6000:05 at s_A -/
  cal : U32 := 0
  /-- R244: its crossing fell while accumulation was stopped -/
  missed : Bool := false
  /-- R244: values per feeder -/
  vals : Tbl LatchVals := []
deriving DecidableEq, Repr

/-- Values of an aggregate of a feeder (R241, R244): roots of mean squares in the order of `blockSquares`, P, Q and S in mW,
mvar and mVA, and its flags. -/
structure AggVals where
  vals : List F64 := []
  pow : List Int := [0, 0, 0]
  flags : U16 := 0
deriving DecidableEq, Repr

/-- Registers and running values of a feeder (R239, R240, R241). -/
structure Feeder where
  /-- R239: import and export registers A, B, C; reset 0 -/
  imp : List Int := [0, 0, 0]
  exp : List Int := [0, 0, 0]
  /-- R239: total import and export; reset 0 -/
  totI : Int := 0
  totE : Int := 0
  /-- R239: net energy of the running cycle per phase; reset 0 -/
  run : List Int := [0, 0, 0]
  /-- R239: net energy of the running ZC_A cycle over the phases; reset 0 -/
  runTot : Int := 0
  /-- R239: reactive import, export and apparent energy, in 10^-27 J; reset 0 -/
  reactI : Int := 0
  reactE : Int := 0
  app : Int := 0
  /-- R240: net total at the start of the demand interval; reset 0 -/
  dStart : Int := 0
  /-- R240: flags of the running demand interval; reset 0 -/
  dFlags : U16 := 0
  /-- R240: demand of the last interval, mW; reset 0 -/
  demand : Int := 0
  /-- R240: flags of the last interval; reset 0 -/
  lastFlags : U16 := 0
  /-- R240: maximum demand and its stamp (ns of network time); reset none -/
  maxD : Int := 0
  maxAt : Nat := 0
  /-- R241: flags of the running 10-minute aggregate; reset 0 -/
  aFlags : U16 := 0
  /-- R241: blocks in it, and the sums of the squares of their values; reset 0 -/
  aBlocks : Nat := 0
  aSums : List F64 := []
  /-- R241: sums of P, Q and S over its blocks; reset 0 -/
  aPow : List Int := [0, 0, 0]
  /-- R241: blocks, sums and flags of the running 150/180-cycle aggregate; reset 0 -/
  cBlocks : Nat := 0
  cSums : List F64 := []
  cPow : List Int := [0, 0, 0]
  cFlags : U16 := 0
  /-- R241: the last 150/180-cycle values, powers and flags; reset none -/
  cycles150 : AggVals := {}
  /-- R241: the last 10-minute values, powers and flags; reset none -/
  minutes10 : AggVals := {}
  /-- R250: 0x6023:01 to :07 of the last aggregate; reset 0 -/
  freq : Nat := 0
  volts : List F64 := [0, 0, 0]
  unbal : Nat := 0
  thd : Nat := 0
  aggFlags : U16 := 0
  residual : F64 := 0
  /-- R250: dips 0x6023:08; reset 0 -/
  dips : U32 := 0
  /-- R250: swells and interruptions 0x6023:09; reset 0 -/
  swells : U32 := 0
  /-- R241: open dip (1), swell (2) or interruption (3) per voltage channel, with its extreme; reset none -/
  pq : Tbl (Nat × Nat) := []
deriving DecidableEq, Repr

/-- A field calibration measurement in progress (R248). -/
structure Calib where
  chan : Nat
  kind : Nat
  cycles : Nat
  ref : F64
deriving DecidableEq, Repr

/-- The Weir. -/
structure WeirState where
  /-- R249: measurement state 0x6000:02; reset 0 -/
  st : Nat := 0
  /-- R249: front-end temperature, 0.1 degC; reset DESIGN CHOICE 250 (log entry 2) -/
  temp : Int := 250
  /-- R249: reference divergence, ppb; reset 0 -/
  diverge : Nat := 0
  /-- R236: REF_SUSPECT in force; reset false -/
  suspect : Bool := false
  /-- R249: calibration applies 0x6000:05; reset 0 -/
  calApplies : U32 := 0
  /-- R249: last calibration applied, ns; reset 0 -/
  calAt : Nat := 0
  /-- R236: the factory calibration record verifies; reset DESIGN CHOICE true (log entry 2) -/
  factoryOk : Bool := true
  /-- R249: latches missed 0x6000:0C; reset 0 -/
  missed : U32 := 0
  /-- R249: power-quality blocks lost 0x6000:0D; reset 0 -/
  lost : U32 := 0
  /-- R235: last 64 samples of each channel after step 5, newest first; reset empty -/
  hist : Tbl (List Int) := []
  /-- R231: what the integrator of each Rogowski channel holds; reset 0 -/
  integ : Tbl Int := []
  /-- R231: measured mains period at the last budget period, by which the integrators' phase lead is removed; reset 0 -/
  lead : Nat := 0
  /-- R249: overrange samples 0x6012:02; reset 0 -/
  overs : Tbl U32 := []
  /-- R231: channels overrange at the last sample; reset none -/
  overNow : List Nat := []
  /-- R249: rms of the last block 0x6012:01; reset 0 -/
  rms : Tbl F64 := []
  /-- R233: instant of the last sample, and the power of each feeder's phases at it; reset none -/
  lastAt : Option Nat := none
  /-- R233: sample interval of the last sample; reset 0 -/
  lastTs : Nat := 0
  /-- R233: end of the time that the samples taken stand for, ns of network time; reset 0 -/
  upTo : Nat := 0
  lastP : Tbl (List Int) := []
  /-- R234: steps of network time since the last sample, ns; reset none -/
  stepped : Option Int := none
  /-- R242: the filters have settled and accumulation starts at the next ZC_A crossing; reset false -/
  settled : Bool := false
  /-- R242: instant from which samples accumulate, ns of network time; reset 0 -/
  startAt : Nat := 0
  /-- R239: boundaries ahead; reset none -/
  bounds : List Bound := []
  /-- R244: last measured ZC_B and ZC_C offsets since reset; reset none -/
  offB : Option Int := none
  offC : Option Int := none
  /-- R238: feeders; reset zeros -/
  feeders : Tbl Feeder := []
  /-- R243: pending latches, oldest first (at most 8), in MRAM; reset none -/
  latches : List Latch := []
  /-- R244: latch records per feeder, newest first (32), 128 bytes each; reset none -/
  records : Tbl (List Bytes) := []
  /-- R241: blocks in the ring, oldest first (16), and whether one was lost since the last aggregate; reset none -/
  ring : List PqBlock := []
  /-- R234, R241: flags of the blocks in the ring, and of the running block; reset none -/
  ringFlags : List U16 := []
  blkFlags : U16 := 0
  gap : Bool := false
  /-- R245: capture state 0x6050:09; reset 0 -/
  capSt : Nat := 0
  /-- R245: captured samples per channel, newest first; reset empty -/
  capBuf : Tbl (List Int) := []
  /-- R245: samples still to be taken after the trigger; reset 0 -/
  capLeft : Nat := 0
  /-- R336: stamp of the first sample kept, ns; reset 0 -/
  capAt : Nat := 0
  /-- R250: captures completed; reset 0 -/
  capDone : U32 := 0
  /-- R250: triggers ignored; reset 0 -/
  capIgnored : U32 := 0
  /-- R250: last archive reference; reset 0 -/
  capRef : U64 := 0
  /-- R248: calibration in progress; reset none -/
  calib : Option Calib := none
  /-- R249: measured value 0x6040:02; reset 0 -/
  measured : F64 := 0
  /-- R249: proposed value 0x6040:03; reset 0 -/
  proposed : F64 := 0
deriving DecidableEq, Repr

/-- A member's part in a latch (R256). -/
inductive Answer2 where
  /-- not answered; whether its arm is acknowledged -/
  | waiting (armed : Bool)
  /-- latched, with its net energy in mWh -/
  | latched (net : Int)
  /-- read, with its net energy -/
  | read (net : Int)
deriving DecidableEq, Repr

/-- An order (R253): outstanding until its target has passed, and answers until its deadline (R257). -/
structure Order where
  /-- R253: identifier -/
  id : U16
  /-- R253: target cycle -/
  target : Cycle
  /-- R253: its lead in cycles -/
  lead : Nat := 0
  /-- R261: 0x6000:05 at the check latch, once its record is complete -/
  cal : Option U32 := none
  /-- R256: answers per meter -/
  answers : Tbl Answer2 := []
  /-- R256: latched cycle of each latched answer -/
  checkCycle : Tbl Cycle := []
  /-- R255: targets of segments with a remote check meter, by segment -/
  remote : Tbl Cycle := []
  /-- R256: members asked by a read latch -/
  asked : List Nat := []
  /-- R256: members asked for attributes 6, 8 and 9 after the report wait -/
  polled : List Nat := []
  /-- R256: members whose answer did not match, counted already -/
  mismatched : List Nat := []
  /-- R257: segments already complete or declared incomplete -/
  closed : List Nat := []
deriving DecidableEq, Repr

/-- A latch of a segment: identifier, cycle, instant (ns), check energy, member energies by handle (R258, R259). -/
structure SegLatch where
  id : U16
  cycle : Cycle
  at_ : Nat
  check : Int
  members : Tbl Int
  /-- R261: members read, and flags of the check latch record -/
  reads : List Nat
  flags : U16
  /-- R261: 0x6000:05 at the latch -/
  cal : U32
deriving DecidableEq, Repr

/-- A model (R262, R264): members ascending; theta with u last; P as the packed upper triangle by columns. -/
structure Model where
  members : List Nat := []
  updates : U32 := 0
  base : Option SegLatch := none
  s : F64 := 0
  theta : List F64 := []
  p : List F64 := []
deriving DecidableEq, Repr

/-- What a segment shows besides its model (R257, R265, R266, R270). -/
structure Segment where
  /-- R270: state 0x6112:02; reset 0 -/
  st : Nat := 0
  /-- R270: consecutive incomplete; reset 0 -/
  incomplete : Nat := 0
  /-- R257: an incomplete latch lies inside the interval; reset false -/
  long : Bool := false
  /-- R264: the baseline is a restored model copy's; reset false -/
  restored : Bool := false
  /-- R270: unmetered score; reset 0 -/
  zu : F64 := 0
  /-- R266: updates in a row above, and below half, the thresholds; reset 0 -/
  hi : Nat := 0
  lo : Nat := 0
  /-- R261: last 8 records, newest first; reset none -/
  records : List Bytes := []
  /-- R264: updates since the last copy was written; reset 0 -/
  sinceSave : Nat := 0
  /-- R257: latches waiting for their update, oldest first; reset none -/
  queue : List SegLatch := []
  /-- R262: the model -/
  model : Model := {}
  /-- R264: latest copy in the archive; reset none -/
  copy : Option Model := none
deriving DecidableEq, Repr

/-- A member's balance state (R265, R267, R271). -/
structure Member where
  /-- R271: score; reset 0 -/
  z : F64 := 0
  /-- R271: member state 0xC040:04; reset 0 -/
  st : Nat := 0
  /-- R265: updates in a row that met the condition up, down, and back; reset 0 -/
  up : Nat := 0
  down : Nat := 0
  back : Nat := 0
  /-- R265: smeared in each of the last 32 updates, newest first; reset none -/
  smeared : List Bool := []
  /-- R271: inferred phase; reset 0 -/
  phase : Nat := 0
  /-- R271: candidate phase and agreeing votes; reset 0 -/
  cand : Nat := 0
  votes : Nat := 0
  /-- R267: found on a wrong phase of a kind 2 segment; reset false -/
  wrong : Bool := false
  /-- R271: consecutive latches without answer, saturating; reset 0 -/
  noAnswer : U16 := 0
deriving DecidableEq, Repr

/-- The balance engine. -/
structure BalState where
  /-- R193: journal sequence of the last entry whose answer a member's record holds; reset none -/
  applied : Tbl U64 := []
  /-- R269: last identifier since reset 0x6100:09; reset 0 -/
  shownId : U16 := 0
  /-- R253: identifier of the last order; reset 0 -/
  lastId : U16 := 0
  /-- R269: orders issued; reset 0 -/
  issued : U32 := 0
  /-- R269: orders skipped; reset 0 -/
  skipped : U32 := 0
  /-- R253: orders, newest first, in MRAM: outstanding or awaiting answers; reset none -/
  orders : List Order := []
  /-- R269: segments updated, last latch, and that latch's identifier; reset 0 -/
  updated : Nat := 0
  updatedId : U16 := 0
  /-- R269: model resets; reset 0 -/
  resets : U32 := 0
  /-- R251: segments; reset off -/
  segs : Tbl Segment := []
  /-- R265: members, by handle; reset none -/
  mems : Tbl Member := []
  /-- R254: monotonic second of the last unicast set_cycle per member; reset none -/
  setCycleAt : Tbl Nat := []
deriving DecidableEq, Repr

end Sys2Proof.Machine
end

