-- ==== Sys2Proof/Machine/State.lean ====
section
/-! DEFINITION. The whole state of the AN7128, the reasons a step can stop, and the state right after reset. -/

namespace Sys2Proof.Machine

/-- Why the machine stops. No command of this device stops it: an abort, a refusal of a request, a drop or a counted
error is a next state, as the spec says. The one constructor names a stop that no meaning of this model takes. -/
inductive Fault where
  /-- Raised by nothing; kept so that the type is inhabited. Safe. -/
  | none
deriving DecidableEq, Repr

/-- Why a command has no meaning. -/
inductive Refusal where
  /-- Raised by an arm of exec whose row has no meaning yet, and by nothing else. Safe. -/
  | notModelled (mnemonic : String)
deriving DecidableEq, Repr

/-- The AN7128. -/
structure State where
  /-- commands waiting, first in first out -/
  pending : List Instr := []
  /-- outputs so far, newest first (log entry 5) -/
  out : List Out := []
  /-- open values taken so far (log entry 6): model's own counter, DESIGN CHOICE 0 -/
  opens : Nat := 0
  /-- R60: responses of the dictionary service that wait for the next budget period, oldest first; reset none -/
  late : List Late := []
  /-- the object dictionary (02_dictionary) -/
  dict : DictState := {}
  /-- the event recorder (16_events) -/
  ev : EvState := {}
  /-- time (03_time) -/
  time : TimeState := {}
  /-- power, profile, reset (01_architecture, 17_power_reset) -/
  pwr : PowerState := {}
  /-- links (18_host_links, 19_ocb_mode) -/
  link : LinkState := {}
  /-- the pair (15_pairing) -/
  pair : PairState := {}
  /-- trust and keys (04_trust_keys) -/
  trust : TrustState := {}
  /-- scheduler and budgets (08_cascade_sluice) -/
  cas : CasState := {}
  /-- field ports and partners (05_powerline, 06_radio) -/
  field : FieldState := {}
  /-- acceptance and the journal (07_acceptance) -/
  acc : AcceptState := {}
  /-- NAND, archive and Host Volume (13_archive) -/
  arch : ArchState := {}
  /-- billing, prepayment and load groups (11_billing, 12_prepayment_loads) -/
  bill : BillState := {}
  /-- check channels (09_weir) -/
  weir : WeirState := {}
  /-- balance engine (10_balance) -/
  bal : BalState := {}
  /-- updates and campaigns (14_updates) -/
  upd : UpdState := {}
deriving DecidableEq, Repr

/-- The machine right after reset. -/
def State.reset : State := {}

end Sys2Proof.Machine
end

