-- ==== Sys2Proof/Machine/Ops.lean ====
section
/-! DEFINITION. The named operations every family uses: reading an object's value in force, charging an account,
random draws, recording an event (R391 to R397, R455), mirroring a message (R379), and answering a request (R69). -/

namespace Sys2Proof.Machine

/-- The row that describes an index and subindex, among tables of which each names the indices it describes. -/
def rowIn (ix sub : Nat) : List (Nat × Nat × List ObjRow) → Option ObjRow
  | [] => none
  | c :: cs =>
    if c.1.ble ix && ix.ble c.2.1 then
      match c.2.2.find? (fun o => o.covers ix sub) with
      | some o => some o
      | none => rowIn ix sub cs
    else rowIn ix sub cs

/-- The row of the object tables that describes an object. -/
def findRow (num : Nat) : Option ObjRow := rowIn (num / 256) (num % 256) objChunks

/-- Where the value of one item of one object is kept. -/
def storeKey (num inst : Nat) : Nat := num * 2 ^ 64 + inst

/-- Codes that are never limited by default (R392). -/
def unlimitedCode (c : Nat) : Bool :=
  c == 0x041 || c == 0x043 || (0x143 ≤ c && c ≤ 0x14A) || c == 0x154 || c == 0x205 ||
  (0x211 ≤ c && c ≤ 0x213) || c == 0x244 || c == 0x260

/-- Codes of histogram kind M in the table of R401. -/
def kindMCodes : List Nat :=
  [0x040, 0x048, 0x04B, 0x052, 0x054, 0x0C4, 0x0C5, 0x0C6, 0x0C7, 0x0E1, 0x102, 0x104, 0x105, 0x106, 0x144,
   0x183, 0x185, 0x202, 0x243]

/-- Codes of R401: those of its table, as ranges, and the application's own. -/
def listedCode (c : Nat) : Bool :=
  [(0x001, 0x004), (0x040, 0x043), (0x048, 0x04C), (0x050, 0x054), (0x080, 0x082), (0x0C0, 0x0C7), (0x0E0, 0x0E1),
   (0x100, 0x107), (0x110, 0x117), (0x140, 0x144), (0x148, 0x14A), (0x150, 0x156), (0x158, 0x158), (0x180, 0x186),
   (0x200, 0x205), (0x210, 0x213), (0x220, 0x221), (0x240, 0x247), (0x260, 0x260), (0x300, 0x3FF)].any
    (fun r => decide (r.1 ≤ c) && decide (c ≤ r.2))

/-- The default queue of a flow (R206); an unbound flow reads 0xFF, a queue that is unbound (log entry 9). -/
def flowQueueDefault (f : Nat) : Nat :=
  if f < 0xC00 then f % 16
  else if f < 0xC2C then f - 0xC00 + 0x10
  else if f < 0xC3C then 0x3C
  else if f < 0xC4C then 0x3D
  else 0xFF

/-- The default account of a queue (R206): 0 unbound; 16 stands for "of the producing item" (log entry 9). -/
def queueAcctDefault (q : Nat) : Nat :=
  if q < 0x10 then 2 else if q < 0x3C then 16 else if q = 0x3C then 3 else if q = 0x3D then 4 else 0

/-- The default priority of a queue (R206). -/
def queuePrioDefault (q : Nat) : Nat := if q < 0x10 ∨ q = 0x3C ∨ q = 0x3D then 3 else if q < 0x3C then 2 else 0

/-- The default target of a queue (R206, R227): a core mask, or bit 31 and a sequencer number. -/
def queueTargetDefault (q : Nat) : Nat :=
  if q < 0x10 ∨ q = 0x3C ∨ q = 0x3D then 0xF else if q < 0x28 then 2 ^ 31 + (q - 0x10)
  else if q < 0x3C then 2 ^ 31 + 24 else 0

/-- Default shares and borrow flags of the accounts 0 to 15 (R222): core, crypto, context memory, NAND, borrows. -/
def shareDefaults : List (List Nat) :=
  [[136, 152, 84, 128, 0], [16, 256, 64, 0, 1], [300, 0, 160, 0, 1], [40, 0, 16, 0, 1], [80, 0, 64, 0, 1],
   [40, 300, 96, 400, 1], [60, 0, 200, 48, 0], [24, 0, 8, 0, 0], [40, 64, 48, 32, 0], [40, 32, 8, 8, 0],
   [80, 64, 64, 0, 0], [16, 8, 4, 16, 0], [24, 100, 64, 200, 0], [40, 32, 64, 16, 0], [64, 0, 48, 16, 0],
   [24, 16, 32, 160, 1]]

/-- Defaults that differ from item to item or with the profile (R206, R222, R326, R392, R401). -/
def dynDefault (headEnd : Bool) (num inst : Nat) : Option Nat :=
  if num = 0x901101 then some (queueAcctDefault inst)
  else if num = 0x901102 then some (queuePrioDefault inst)
  else if num = 0x901103 then some (queueTargetDefault inst)
  else if num = 0x901104 then some (if inst < 0x10 ∨ inst = 0x3C ∨ inst = 0x3D then 2048 else 256)
  else if num = 0x901105 then some (if inst < 0x10 then 1 else 0)
  else if num = 0x901401 then some (flowQueueDefault inst)
  else if 0x910001 ≤ num ∧ num ≤ 0x910F05 ∧ 1 ≤ num % 256 ∧ num % 256 ≤ 5 then
    ((shareDefaults[num / 256 - 0x9100]?).bind (·[num % 256 - 1]?))
  else if num = 0xB10201 then some (if unlimitedCode inst then 0 else 16)
  else if num = 0xB10203 then some (if 0x300 ≤ inst ∨ kindMCodes.contains inst then 1 else 2)
  else if num = 0x800202 then some (if headEnd then 8192 else 2048)
  else none

/-- The default value of an item, in its encoding. -/
def dfltValue (headEnd : Bool) (num inst : Nat) : Bytes :=
  match findRow num with
  | none => []
  | some o =>
    match dynDefault headEnd num inst with
    | some v => leBytes o.ty.width v
    | none => o.dfltBytes

/-- The archive quota's floor in MiB (R326): 256 KiB per meter of the capacity, and 1,088 MiB for models in Station
profile. -/
def archiveFloor (headEnd : Bool) (ctxGib : Nat) : Nat :=
  if !headEnd then 12288 / 4 + 1088 else if ctxGib < 4 then 262144 / 4 else (1048575 + 3) / 4

/-- The default of an item: the PRIME subnetwork address is 02 00 then SERIAL, most significant first (R155); the archive
quota is its floor (R346); a direct partner, on a field or serial port, shares its supply (R300); every other as its row says. -/
def State.dflt (s : State) (num inst : Nat) : Bytes :=
  if 0x400501 ≤ num ∧ num ≤ 0x40B501 ∧ num % 4096 = 0x501 then [6, 0, 2, 0] ++ beBytes 4 s.trust.serial.toNat
  else if num = 0x800201 then leBytes 4 (archiveFloor s.pwr.headEnd s.pwr.ctxGib)
  else if num = 0xC05002 then
    let port := leNat ((tblFind? s.dict.vals (storeKey 0xC02201 inst)).getD (dfltValue s.pwr.headEnd 0xC02201 inst))
    [BitVec.ofNat 8 (bit ((tblFind? s.field.partners inst).isSome || decide (port < 16)))]
  else dfltValue s.pwr.headEnd num inst

/-- The stored value of an item: what a write left, or the default (R51). -/
def State.stored (s : State) (num inst : Nat) : Bytes :=
  (tblFind? s.dict.vals (storeKey num inst)).getD (s.dflt num inst)

/-- The value a block acts on: the last consistent or not yet replaced one where that differs from the stored one
(R19, R58), else the stored one. -/
def State.cfgBytes (s : State) (num inst : Nat) : Bytes :=
  (tblFind? s.dict.shadow (storeKey num inst)).getD (s.stored num inst)

/-- The value in force, as an unsigned number. -/
def State.cfgN (s : State) (num : Nat) (inst : Nat := 0) : Nat := leNat (s.cfgBytes num inst)

/-- The value in force, as a signed number of n bytes. -/
def State.cfgI (s : State) (n num : Nat) (inst : Nat := 0) : Int := toSigned (8 * n) (s.cfgN num inst)

/-- The value in force of a BOOL. -/
def State.cfgB (s : State) (num : Nat) (inst : Nat := 0) : Bool := s.cfgN num inst != 0

/-- The content of an OCTETS value in force, without its prefix. -/
def State.cfgOct (s : State) (num : Nat) (inst : Nat := 0) : Bytes := (s.cfgBytes num inst).drop 2

/-- Store a value in its canonical place: the default is stored as nothing (R51); a write to a block that migration changed
is counted during a trial (R355). -/
def State.storeVal (s : State) (num inst : Nat) (v : Bytes) : State :=
  { s with
    upd := if (tblFind? s.upd.oldBank (storeKey num inst)).isSome then { s.upd with trialWrites := satInc s.upd.trialWrites } else s.upd
    dict := { s.dict with
      vals :=
        if v = s.dflt num inst then tblDel s.dict.vals (storeKey num inst)
        else tblPut s.dict.vals (storeKey num inst) v } }

/-- Add an output to the trace. -/
def State.emit (s : State) (o : Out) : State := { s with out := o :: s.out }

/-- Draw a random value (R48, R371): the next of the device's random source. -/
def State.draw (s : State) : BitVec 128 × State :=
  (Config.random s.dict.draws, { s with dict := { s.dict with draws := s.dict.draws + 1 } })

/-- Take an open value at a place of an effect (log entry 6). -/
def State.openVal (s : State) (place : Nat) : Int × State :=
  (Config.openInt place s.opens, { s with opens := s.opens + 1 })

/-- An account's record. -/
def State.acct (s : State) (a : Nat) : Acct := tblGet {} s.cas.accts a

/-- An account's balance of a resource (0 core ns, 1 crypto ns, 2 context transfers, 3 NAND units). -/
def State.balance (s : State) (a res : Nat) : Int := (s.acct a).bal.getD res 0

/-- An account's borrow window remaining (R219, R229). -/
def State.window (s : State) (a : Nat) : Nat := ((s.acct a).window).getD (s.cfgN ((0x9100 + a) * 256 + 6))

/-- An account may borrow a resource from RESERVE (R219): its flag, its window, and RESERVE's balance. -/
def State.mayBorrow (s : State) (a res : Nat) : Bool :=
  s.cfgB ((0x9100 + a) * 256 + 5) && decide (0 < s.window a) && decide (0 < s.balance 0 res) && a != 0

/-- Take an amount from one account's balance. -/
def State.take (s : State) (a res amount : Nat) (borrower : Bool) : State :=
  { s with
    cas := { s.cas with
      accts := tblUpd {} s.cas.accts a (fun x =>
        { x with bal := listUpd x.bal res (· - (amount : Int)), borrowed := x.borrowed || borrower }) } }

/-- What RESERVE lends of a charge (R219): the part beyond the account's own balance, while RESERVE has balance. -/
def State.lent (s : State) (a res amount : Nat) : Nat :=
  if s.mayBorrow a res then min (amount - (s.balance a res).toNat) (s.balance 0 res).toNat else 0

/-- Charge an account for a resource (R219, R220): its own balance; RESERVE for what lies beyond it where the account may
borrow; the rest is debt. -/
def State.charge (s : State) (a res amount : Nat) : State :=
  if s.lent a res amount = 0 then s.take a res amount false
  else (s.take 0 res (s.lent a res amount) true).take a res (amount - s.lent a res amount) true

/-- An account has balance of a resource, or may borrow it (R210, R219). -/
def State.mayUse (s : State) (a res : Nat) : Bool := decide (0 < s.balance a res) || s.mayBorrow a res

/-- Whole seconds of the monotonic tick. -/
def State.monoSec (s : State) : Nat := s.time.mono / 32768

/-- This unit's position in its pair, 0 for a Solo unit (R394). -/
def State.pos (s : State) : Nat := if s.pair.role = .solo then 0 else s.pwr.strapPos

/-- The unit acts in the field: Solo or ACTIVE (R377). -/
def State.acting (s : State) : Bool := s.pair.role = .solo || s.pair.role = .active

/-- The unit is Paired and not ACTIVE; it answers the dictionary as a Standby does (R38, R376). -/
def State.isStandby (s : State) : Bool := !s.acting

/-- The calendar stamp of the OCB view: YY MM DD hh mm ss in BCD (R447). -/
def CalTime.ocbStamp (c : CalTime) : Bytes :=
  [c.year % 100, c.month, c.day, c.hour, c.minute, c.second].map (fun n => BitVec.ofNat 8 (toBcd n))

/-- The stamp of an occurrence (R393, R394) and the unit's last sequence after it. -/
def State.stampNow (s : State) : U64 × Nat :=
  if s.pwr.headEnd then
    let c := s.time.net / 1000 * 512 + s.pos
    let q := if s.ev.lastSeq < c then c else s.ev.lastSeq + 2
    (BitVec.ofNat 64 (2 ^ 63 + q % 2 ^ 63), q)
  else
    (BitVec.ofNat 64 (s.ev.powerCycles.toNat * 2 ^ 32 + min (s.ev.opTicks / (32768 * 60)) (2 ^ 32 - 1)), s.ev.lastSeq)

/-- The histogram bin of a value (R391). -/
def histBin (v : Nat) : Nat := if v = 0 then 0 else min 15 (Nat.log2 v + 1)

/-- The value a code's histogram bins: |measure| for kind M, the interval in seconds for kind I, none when there is no
interval (R391). -/
def binValue (kind : Nat) (measure : Int) (prevSec : Option Nat) (now : Nat) : Option Nat :=
  if kind = 1 then some measure.natAbs else prevSec.map (now - ·)

/-- A summary after one more occurrence (R391). -/
def EvSummary.occur (e : EvSummary) (kind : Nat) (measure : Int) (stamp : U64) (now : Nat) : EvSummary :=
  { e with
    count := satInc e.count
    last := measure
    min := if e.count = 0 ∨ measure < e.min then measure else e.min
    minStamp := if e.count = 0 ∨ measure < e.min then stamp else e.minStamp
    max := if e.count = 0 ∨ e.max < measure then measure else e.max
    maxStamp := if e.count = 0 ∨ e.max < measure then stamp else e.maxStamp
    first := if e.count = 0 then stamp else e.first
    lastStamp := stamp
    hist := match binValue kind measure e.prevSec now with
            | none => e.hist
            | some v => listUpd e.hist (histBin v) satInc
    prevSec := some now }

/-- The OCB event number of a native code (R456), apart from POWER_OUTAGE. -/
def ocbNumber (code : Nat) : Option Nat :=
  [(0x144, 3), (0x051, 4), (0x053, 5), (0x148, 6), (0x149, 7), (0x0C0, 8), (0x0C1, 9), (0x143, 10), (0x142, 11),
   (0x002, 12), (0x041, 13), (0x211, 14)].lookup code

/-- The measure an OCB entry carries: low 16 bits, and 0xFFFF for a meter handle of 65,536 or above (R455). -/
def ocbMeasure (code : Nat) (m : Int) : U16 :=
  if (code = 0x0C0 ∨ code = 0x0C1) ∧ 65536 ≤ m then 0xFFFF else BitVec.ofInt 16 m

/-- Start of the open outage on the calendar (R290, R407, R408). -/
def State.outageStart (s : State) : Option CalTime := s.pwr.outageRec.orElse (fun _ => s.pwr.warnTick.orElse (fun _ => s.pwr.switchTick))

/-- The OCB event table after an occurrence (R455): newest first, 256 entries. An outage whose start is unknown begins at the
restarted calendar time. -/
def ocbAppend (s : State) (code : Nat) (m : Int) : List OcbEntry :=
  if !s.pwr.ocb then s.ev.ocb
  else if code = 0x040 then
    let start := (if s.pwr.retentionLost then s.time.cal else s.outageStart.getD s.time.cal).ocbStamp
    ({ num := 2, stamp := s.time.cal.ocbStamp, measure := BitVec.ofInt 16 m } ::
      { num := 1, stamp := start, measure := BitVec.ofInt 16 m } :: s.ev.ocb).take 256
  else match ocbNumber code with
    | none => s.ev.ocb
    | some n => ({ num := BitVec.ofNat 16 n, stamp := s.time.cal.ocbStamp, measure := ocbMeasure code m } :: s.ev.ocb).take 256

/-- The recorder with its buffer and summaries copied to MRAM (R396, R397). -/
def EvState.copyOut (e : EvState) : EvState :=
  { e with log := (e.buf ++ e.log).take 28672, buf := [], sumsMram := e.sums }

/-- A periodic or commanded flush (R396, R402). -/
def EvState.flush (e : EvState) : EvState := { e.copyOut with flushes := e.flushes + 1 }

/-- The recorder after one occurrence of a code (R391 to R397). -/
def EvState.record (e : EvState) (code : Nat) (measure : Int) (stamp : U64) (seq now depth kind : Nat)
    (ocb : List OcbEntry) : EvState :=
  let o := (tblGet {} e.sums code).occur kind measure stamp now
  let token := depth = 0 ∨ o.missing < depth
  let e1 : EvState :=
    if token then
      { e with
        sums := tblPut e.sums code { o with missing := if depth = 0 then 0 else o.missing + 1, pendingSup := 0 }
        buf := { num := e.nextNum, stamp := stamp, code := code, restart := e.restart, supBefore := o.pendingSup,
                 measure := measure } :: e.buf
        nextNum := e.nextNum + 1
        restart := false, lastSeq := seq, ocb := ocb }
    else
      { e with
        sums := tblPut e.sums code { o with suppressed := satInc o.suppressed, pendingSup := o.pendingSup + 1 }
        lastSeq := seq, ocb := ocb }
  if e.writeThrough then e1.copyOut else e1

/-- Raise an event (R390): record it and charge 200 ns of core time to account EVENTS. -/
def State.raise (s : State) (code : Nat) (measure : Int) : State :=
  let st := s.stampNow
  ({ s with
    ev := s.ev.record code (wrapS 64 measure) st.1 st.2 s.monoSec (s.cfgN 0xB10201 code) (s.cfgN 0xB10203 code)
      (ocbAppend s code measure) }).charge 11 0 200

/-- The pair is formed: this unit is ACTIVE, PAIR is up and the partner is STANDBY (R39, R381). -/
def State.formed (s : State) : Bool :=
  s.pair.role = .active && s.pair.link && (s.pair.hb.map (·.role)) = some .standby

/-- The live mirror stream flows: this unit is ACTIVE, PAIR is up and the partner is STANDBY or SYNCING (R387). -/
def State.streaming (s : State) : Bool :=
  s.pair.role = .active && s.pair.link &&
    ((s.pair.hb.map (·.role)) = some .standby || (s.pair.hb.map (·.role)) = some .syncing)

/-- Send a message over the Reflecting Pool; it stays unacknowledged until the receiver's cumulative
acknowledgement (R379). -/
def State.sendPair (s : State) (kind : MirrorKind) (key : Nat) (body : Bytes) : State :=
  ({ s with pair := { s.pair with
      txSeq := s.pair.txSeq + 1
      unacked := s.pair.unacked ++ [(s.pair.txSeq + 1, kind, key, body)] } }).emit
    (.mirror (s.pair.txSeq + 1) kind key body)

/-- Mirror a change to the partner where the stream flows (R380). -/
def State.mirror (s : State) (kind : MirrorKind) (key : Nat) (body : Bytes) : State :=
  if s.streaming then s.sendPair kind key body else s

/-- The abort's code (R69). -/
def Abort.code : Abort → Nat
  | .toggleError => 0x05030000 | .timeout => 0x05040000 | .specifierInvalid => 0x05040001
  | .unsupportedAccess => 0x06010000 | .readOfWriteOnly => 0x06010001 | .writeToReadOnly => 0x06010002
  | .noObject => 0x06020000 | .lengthInvalid => 0x06070010 | .noSubindex => 0x06090011
  | .valueInvalid => 0x06090030 | .generalError => 0x08000000 | .cannotStore => 0x08000020
  | .fuseLocked => 0x08000021 | .deviceBusy => 0x08000022 | .accessDenied => 0x0F000001
  | .lifeCycle => 0x0F000002 | .notReady => 0x0F000003 | .inStandby => 0x0F000004
  | .groupBusy => 0x0F000005 | .groupInconsistent => 0x0F000006

/-- The CoAP response code an abort maps to, class x 100 + detail (R69); toggle error never leaves over CoAP. -/
def Abort.coap : Abort → Nat
  | .toggleError => 500 | .timeout => 408 | .specifierInvalid => 405 | .unsupportedAccess => 405
  | .readOfWriteOnly => 405 | .writeToReadOnly => 405 | .noObject => 404 | .lengthInvalid => 400
  | .noSubindex => 404 | .valueInvalid => 422 | .generalError => 500 | .cannotStore => 500
  | .fuseLocked => 403 | .deviceBusy => 503 | .accessDenied => 403 | .lifeCycle => 403 | .notReady => 503
  | .inStandby => 409 | .groupBusy => 409 | .groupInconsistent => 422

/-- Whole seconds until the dictionary is available, rounded up and never less than 1 (R68): availability comes about
200 ms after release, so 1. -/
def maxAgeNotReady : Nat := 1

/-- A charge whose amount the spec does not state: an open value of a place (log entry 28). -/
def State.chargeOpen (s : State) (place a res : Nat) : State :=
  let v := s.openVal place
  v.2.charge a res v.1.toNat

/-- Of an image page (R330) or a model's page in use: in Head-end profile so many 64-byte transfers of the context memory, in Station
profile a NAND page read where the on-chip caches do not hold the page, which then is the most recently used (R26, R28, log entry
69). The page size of the caches is that of the image pages. -/
def State.usePage (s : State) (page acct transfers : Nat) : State :=
  if s.pwr.headEnd then s.charge acct 2 transfers
  else
    let s1 : State := { s with arch := { s.arch with
      onChip := (page :: s.arch.onChip.filter (· != page)).take Config.cachedPages } }
    if s.arch.onChip.contains page then s1 else s1.charge acct 3 1

/-- Sluice lets an account use a resource (R219); before the first period nothing is budgeted. -/
def State.allows (s : State) (a res : Nat) : Bool := !s.cas.begun || s.mayUse a res

/-- DICT has no core time left in this period and may not borrow any (R60, R219); before the first period nothing is
budgeted. -/
def State.dictExhausted (s : State) : Bool := s.cas.begun && !s.mayUse 9 0

/-- The session of a request; an unlisted session is one that has just started (R47). -/
def sessNum (i : SessId) : Nat :=
  (match i.tr with | .canFd => 0 | .sdo => 1 | .coap => 2 | .mailbox => 3 | .probe => 4 | .internal => 5) * 2 ^ 32 + i.id

/-- The session a request belongs to. -/
def State.sess (s : State) (i : SessId) : Session := tblGet {} s.dict.sessions (sessNum i)

/-- A value of the dictionary transports that a session acts on (R55): until the end of its current request, the one that was in force
when a switch of group 0x00 came. -/
def State.transN (s : State) (i : SessId) (num : Nat) : Nat :=
  match tblFind? (s.sess i).older (storeKey num 0) with
  | some b => leNat b
  | none => s.cfgN num

/-- The device's CAN node-ID (R368, R436): 0x1040:01, in position 1 of a pair the one after it, or 126 where that is 127. -/
def State.nodeId (s : State) (i : SessId) : Nat :=
  let n := s.transN i 0x104001
  if s.pos = 0 then n else if n = 127 then 126 else n + 1

/-- The identifier that answers a CAN session (R61): 0x580 + node-ID on classic SDO, the node-ID itself on USDO. -/
def State.canAnswer (s : State) (i : SessId) : Nat := (if i.tr = .sdo then 0x580 else 0) + s.nodeId i

/-- Put an answer on its own transport (R64, R66, R67, R69). -/
def State.respondNow (s : State) (r : Req) (a : Answer) : State :=
  match r.sess.tr with
  | .internal => s
  | .coap =>
    match a with
    | .ok [] => s.emit (.coap r 204 0 [])
    | .ok d => s.emit (.coap r 205 0 d)
    | .abort .notReady => s.emit (.coap r 503 maxAgeNotReady [])
    | .abort x => s.emit (.coap r x.coap 0 [])
  | .mailbox =>
    let tag := slice (tblGet [] s.link.mbxSlot r.token) 0 2
    let d := match a with | .ok d => d | .abort _ => []
    let st := match a with | .ok _ => 0 | .abort x => x.code
    -- a slot given up when the host disabled the mailbox is answered no more
    if !s.link.mbxOut.contains r.token then s
    else { s with link := { s.link with
        mbxRun := s.link.mbxRun.erase r.token
        mbxSlot := tblPut s.link.mbxSlot r.token (tag ++ [0, 0] ++ leBytes 4 st ++ leBytes 4 d.length ++ d)
        mbxOut := s.link.mbxOut.erase r.token
        mbxDone := s.link.mbxDone ||| (1#32 <<< r.token)
        msix := (0, 0) :: s.link.msix } }
  | .sdo | .canFd => s.emit (.sdo r.sess (s.canAnswer r.sess) (match a with | .ok _ => none | .abort x => some x)
      (match a with | .ok d => d | .abort _ => []))
  | .probe =>
    match a with
    | .ok d => s.emit (.resp r none d)
    | .abort x => s.emit (.resp r (some x) [])

/-- Answer a request (R60): the service is charged to DICT, and while DICT is exhausted the response waits for the next
period. Requests of the internal path are no dictionary service and are not answered. -/
def State.respond (s : State) (r : Req) (a : Answer) : State :=
  if r.sess.tr = .internal then s
  else
    (if s.dictExhausted then { s with late := s.late ++ [.answer r a] } else s.respondNow r a).chargeOpen 90 9 0

/-- One block or segment of a transfer of the dictionary service, as `respond` answers (R60). -/
def State.serve (s : State) (o : Out) : State :=
  (if s.dictExhausted then { s with late := s.late ++ [.part o] } else s.emit o).chargeOpen 90 9 0

/-- A period has begun: the responses that waited for it leave (R60). -/
def State.answerLate (s : State) : State :=
  s.late.foldl (fun t l => match l with | .answer r a => t.respondNow r a | .part o => t.emit o) { s with late := [] }

/-- A slot of the key register. -/
def State.slot (s : State) (n : Nat) : KeySlot := tblGet {} s.trust.slots n

/-- The key of a VALID slot (R118). -/
def State.slotKey (s : State) (n : Nat) : Option Bytes :=
  if (s.slot n).attr.getLsbD 31 then some (s.slot n).key else none

/-- SERIAL as four bytes, most significant first (R113, R399). -/
def State.serialBytes (s : State) : Bytes := beBytes 4 s.trust.serial.toNat

/-- Change the session a request belongs to. -/
def State.setSess (s : State) (i : SessId) (f : Session → Session) : State :=
  { s with dict := { s.dict with sessions := tblUpd {} s.dict.sessions (sessNum i) f } }

/-- Set a command object's status (R45, R484): 0 idle, 1 running, 2 done, 3 failed, with the last abort code. -/
def State.setCmd (s : State) (num inst st : Nat) (a : U32) : State :=
  { s with dict := { s.dict with cmd := tblPut s.dict.cmd (storeKey num inst) (st, a) } }

/-- The status of a command object. -/
def State.cmdSt (s : State) (num inst : Nat) : Nat × U32 := tblGet (0, 0) s.dict.cmd (storeKey num inst)

/-- A group's record. -/
def State.group (s : State) (g : Nat) : Group := tblGet {} s.dict.groups g

/-- Change a group's record. -/
def State.setGroup (s : State) (g : Nat) (f : Group → Group) : State :=
  { s with dict := { s.dict with groups := tblUpd {} s.dict.groups g f } }

/-- Meters the profile may have in use (R29). -/
def State.capacityMeters (s : State) : Nat :=
  if !s.pwr.headEnd then 12288 else if s.pwr.ctxGib < 4 then 262144 else 1048575

/-- A start-up phase is reached, at a time after main reset release (R423). -/
def State.reachPhase (s : State) (n : Nat) : State :=
  { s with pwr := { s.pwr with
      phase := max s.pwr.phase n
      timeline := listUpd s.pwr.timeline (n - 1) (fun x => some (x.getD ((s.time.net - s.pwr.release) / 1000))) } }

/-- An island runs, by its row of R23. -/
def State.isUp (s : State) (i : Nat) : Bool := s.pwr.islands.getD i .held == .running

def State.setPwr (s : State) (f : PowerState → PowerState) : State := { s with pwr := f s.pwr }

/-- A crossing into an island that is held in a block-alone reset is held at its boundary, in its order (R25); else it is delivered,
with its effect. -/
def State.crossing (s : State) (i : Nat) (c : Instr) (t : State) : State :=
  if s.pwr.islands.getD i .held = .quiescing ∨ s.pwr.islands.getD i .held = .resetting then
    s.setPwr (fun p => { p with crossings := p.crossings ++ [(i, c)] })
  else t

end Sys2Proof.Machine
end

