-- ==== Sys2Proof/Machine/Operands.lean ====
section
/-! DEFINITION. How a dictionary request names its object and item (R42, R43, R52), who may make it (R22, R37, R38, R47,
R50, R68, R483), and how a command object answers (R45, R46, R484). -/

namespace Sys2Proof.Machine

/-- Role codes 1 to 5 (R71, 0x1022:00). -/
def Role.code : Role → Nat
  | .observer => 1 | .operator => 2 | .installer => 3 | .utility => 4 | .vendor => 5

/-- Transport codes (R48, R401): CAN FD 1, mailbox 2, probe 3; classic SDO, CoAP and the internal path have none. -/
def Transport.authCode : Transport → Option Nat
  | .canFd => some 1 | .mailbox => some 2 | .probe => some 3 | _ => none

/-- The access a request asks for. -/
inductive Want where
  | read | write | command
deriving DecidableEq, Repr

/-- An index of the native tables that only some personality or transport reaches (R37, R42). -/
def State.reaches (s : State) (r : Req) (ix : Nat) : Bool :=
  if 0x2000 ≤ ix ∧ ix < 0x3000 then s.pwr.ocb
  else r.view || r.sess.tr != .sdo || (0x1000 ≤ ix && ix < 0x3000)

/-- Some listed object occupies the index (R42). -/
def indexListed (ix : Nat) : Bool := objTable.any (fun o => (o.portOf ix).isSome)

/-- The highest subindex listed at an index (R9). -/
def highestSub (ix : Nat) : Nat := objTable.foldl (fun m o => if (o.portOf ix).isSome then max m o.subTo else m) 0

/-- A RECORD's subindex 0 that the tables do not list by itself: its highest subindex, read only (R9, R44). -/
def recordRow (ix : Nat) : ObjRow :=
  ⟨ix, 0, 0, 1, 1, .u 1, .ro, .observer, highestSub ix, .any, .none, 0xFF, 0, .one⟩

/-- The row of an object, with the implicit subindex 0 of a RECORD. -/
def rowOf (num : Nat) : Option ObjRow :=
  match findRow num with
  | some o => some o
  | none => if num % 256 = 0 ∧ indexListed (num / 256) then some (recordRow (num / 256)) else none

/-- A selector or other per-session object's value in a session (R43, R52, R483). -/
def State.sessVal (s : State) (i : SessId) (num : Nat) : Nat :=
  leNat ((tblFind? (s.sess i).vals num).getD (s.dflt num 0))

/-- The meter handle a request names (R43). -/
def State.handleOf (s : State) (r : Req) : Nat := (r.handle.map (·.toNat)).getD (s.sessVal r.sess 0x109000)

/-- The item a request addresses (R43, R52). -/
def State.itemOf (s : State) (r : Req) (o : ObjRow) : Nat :=
  match o.inst with
  | .one => 0
  | .session => 0
  | .meter => s.handleOf r
  | .sel k => s.sessVal r.sess k

/-- A meter is in use: it has a key record (R43, R124). -/
def State.inUse (s : State) (h : Nat) : Bool := (tblFind? s.trust.meters h).isSome

/-- A session object (R483). -/
def isSessionObj (num : Nat) (o : ObjRow) : Bool :=
  o.inst = .session || num == 0x102100 || (0xA02101 ≤ num && num ≤ 0xA02104)

/-- Objects outside 0xB000-0xBFFF that a Standby lets you write, besides session objects (R38). -/
def standbyAdmits (num : Nat) : Bool :=
  let ix := num / 256
  (0xB000 ≤ ix && ix ≤ 0xBFFF) || num == 0xA03001 || (0x3300 ≤ ix && ix ≤ 0x331F) ||
  [0x100800, 0x301101, 0x301102, 0xA01001, 0xA01100, 0xA01200, 0xA05000, 0xA06001, 0xA06002, 0xA06003, 0xA06004,
   0xA06005, 0xA06006, 0xA06101, 0xA06102].contains num

/-- The role that the identity-to-role table gives a peer (R128). -/
def State.peerRole (s : State) (peer : Bytes) : Role :=
  match (List.range 32).find? (fun (i : Nat) => s.cfgOct (0xA04001 + i) == peer && peer != []) with
  | none => .observer
  | some i =>
    match s.cfgN (0xA04101 + i) with
    | 4 => .utility | 3 => .installer | 2 => .operator | _ => .observer

/-- A DTLS association has ended (R431): the records it had still to answer for wait for the next one. -/
def State.assocEnded (s : State) (assoc : Nat) : State :=
  { s with link := { s.link with
      assoc := s.link.assoc.filter (fun p => p.2 != assoc)
      remote := s.link.remote.filter (fun q => q.assoc != assoc)
      remoteWait := (s.link.remote.filter (fun q => q.assoc == assoc)).flatMap (fun (q : RdReq) => q.recs) ++ s.link.remoteWait } }

/-- The DTLS associations open (R47). -/
def State.assocsOpen (s : State) : Nat :=
  (s.dict.sessions.filter (fun (p : Nat × Session) => p.1 / 2 ^ 32 == 2 && p.2.isOpen)).length

/-- A CoAP request on its association: one not seen before, or with another peer, starts a session in that peer's role and
ends the one before it; none while the DTLS sessions of 0x1030:02 are all in use. -/
def State.association (s : State) (i : SessId) (peer : Bytes) : Option State :=
  if (s.sess i).isOpen ∧ (s.sess i).peer = peer then some s
  else if s.cfgN 0x103002 ≤ (if (s.sess i).isOpen then s.assocsOpen - 1 else s.assocsOpen) then none
  else some ((s.assocEnded i.id).setSess i (fun _ => { role := s.peerRole peer, isOpen := true, peer := peer }))

/-- The role a session holds; in FIELDED the Vendor role has the rights of Utility (R50). -/
def State.roleOf (s : State) (r : Req) : Nat :=
  let c := (s.sess r.sess).role.code
  if s.trust.lc = .fielded ∧ c = 5 then 4 else c

/-- The consistency group an object belongs to (R52, R56). -/
def groupOf (num : Nat) : Option Nat :=
  match findRow num with
  | none => none
  | some o => if o.group = 0xFF then none else some (o.group + o.gstep * ((o.portOf (num / 256)).getD 0))

/-- Entries of a table of values that belong to a group. -/
def groupEntries (g : Nat) (t : Tbl Bytes) : Tbl Bytes := t.filter (fun p => groupOf (p.1 / 2 ^ 64) = some g)

/-- Entries of a table of values that do not belong to a group. -/
def groupOthers (g : Nat) (t : Tbl Bytes) : Tbl Bytes := t.filter (fun p => groupOf (p.1 / 2 ^ 64) ≠ some g)

/-- The more privileged of two roles. -/
def Role.max (a b : Role) : Role := if a.code < b.code then b else a

/-- The role of the most privileged pending member of a group (R57). -/
def State.groupRole (s : State) (g : Nat) : Role :=
  (groupEntries g s.dict.pend).foldl
    (fun m p => match findRow (p.1 / 2 ^ 64) with | none => m | some o => m.max o.role) .observer

/-- The role an object's Access column names, with the group records' own rule (R57). -/
def State.rowRole (s : State) (num : Nat) (o : ObjRow) : Role :=
  if 0x1F00 ≤ num / 256 ∧ num / 256 ≤ 0x1F26 then s.groupRole (num / 256 - 0x1F00) else o.role

/-- The life-cycle limits of R50 refuse the request. -/
def State.lifeRefuses (s : State) (r : Req) (num : Nat) (o : ObjRow) (w : Want) : Bool :=
  let ix := num / 256
  let vendor := (s.sess r.sess).role = .vendor
  match s.trust.lc with
  | .blank =>
    if vendor then false
    else match w with
      | .read => !((0x1000 ≤ ix && ix ≤ 0x10FF) || num == 0xA02000)
      | _ => !isSessionObj num o
  | .provisioned => false
  | .fielded =>
    w != .read && (s.sess r.sess).role = .installer &&
      !((0x4000 ≤ ix && ix ≤ 0x44FF) || s.rowRole num o = .installer || isSessionObj num o)
  | .retired =>
    if vendor then true
    else
      let inRange := (0x1000 ≤ ix && ix ≤ 0x1FFF) || (0xB000 ≤ ix && ix ≤ 0xBFFF)
      match w with
      | .read => !inRange
      | _ => !(inRange && isSessionObj num o)

/-- R43: what naming a meter that the request may not name is aborted with. -/
def State.meterRefuses (s : State) (r : Req) (num : Nat) (o : ObjRow) (w : Want) : Option Abort :=
  if 0xC000 ≤ num / 256 then
    let h := s.handleOf r
    if h = 0xFFFFF then (if o.acc = .cmd then none else some .valueInvalid)
    else if s.inUse h ∨ (num = 0xC01001 ∧ w ≠ .read) then none
    else some .noObject
  else none

/-- The class of the object refuses the access (R45). -/
def classRefuses (o : ObjRow) (w : Want) : Option Abort :=
  match w, o.acc with
  | .read, .wo => some .readOfWriteOnly
  | .read, _ => none
  | _, .ro => some .writeToReadOnly
  | .write, .cmd => some .unsupportedAccess
  | .command, .cmd => none
  | .command, _ => some .unsupportedAccess
  | .write, _ => none

/-- Everything that can refuse a request before its value is looked at, in the order the model takes (log entry 7). -/
def State.accessRefuses (s : State) (r : Req) (num : Nat) (o : ObjRow) (w : Want) : Option Abort :=
  if r.sess.tr = .internal then none
  else if o.eff = .internal ∧ w ≠ .read then some .unsupportedAccess
  else if s.lifeRefuses r num o w then some .lifeCycle
  else match s.meterRefuses r num o w with
  | some a => some a
  | none =>
    match classRefuses o w with
    | some a => some a
    | none =>
      if s.pwr.ocb ∧ 0x3000 ≤ num / 256 ∧ r.view = false ∧ s.roleOf r < 4 then some .accessDenied
      else if w = .read then none
      else if s.roleOf r < (s.rowRole num o).code then some .accessDenied
      else if s.isStandby ∧ !isSessionObj num o ∧ !standbyAdmits num then some .inStandby
      else none

/-- The queue of a session on CAN, CoAP or the probe is full of responses that wait (R60, R216). -/
def State.sessionFull (s : State) (r : Req) : Bool :=
  decide (r.sess.tr ≠ .internal) && decide (r.sess.tr ≠ .mailbox) &&
  decide (Config.sessionDepth < (s.late.filter (fun l => match l with | .answer q _ => q.sess == r.sess | .part _ => false)).length)

/-- The Grotto answers in place of the dictionary (R354): no application firmware could be started, the request comes over the PCIe
mailbox or CAN FD, and start-up has come to where the dictionary would be available. -/
def State.grottoServes (s : State) (r : Req) : Bool :=
  s.upd.down.contains 2 && decide (6 ≤ s.pwr.stage) && !s.pwr.inReset && (r.sess.tr == .mailbox || r.sess.tr == .canFd)

/-- Requests on a transport are served at all (R68, R354). -/
def State.serving (s : State) (r : Req) : Bool := s.dict.available || s.grottoServes r

/-- Objects that the Grotto serves (R354). -/
def grottoIndex (ix : Nat) : Bool := (0x1000 ≤ ix && ix ≤ 0x10FF) || (0xA060 ≤ ix && ix ≤ 0xA064)

/-- Locate an object for a request: its row, or the abort (R38, R42, R68, R216, R354). -/
def State.locate (s : State) (r : Req) (num : Nat) : Except Abort ObjRow :=
  if !s.dict.available && r.sess.tr != .internal && !(s.grottoServes r && grottoIndex (num / 256)) then .error .notReady
  else if s.sessionFull r then .error .deviceBusy
  else if r.sess.tr = .sdo ∧ s.isStandby then .error .deviceBusy
  else if !s.reaches r (num / 256) || !indexListed (num / 256) then .error .noObject
  else match rowOf num with
  | none => .error .noSubindex
  | some o => .ok o

/-- What the body of a command comes to. -/
inductive CmdOut where
  /-- refused before it starts: the status stays (R484) -/
  | refuse (a : Abort) (s : State)
  /-- done at once -/
  | done (s : State)
  /-- running, and answers when it ends (R484) -/
  | running (s : State)
  /-- started, answered with success, and goes on running (R484, other commands) -/
  | started (s : State)
  /-- started and failed -/
  | failed (a : Abort) (s : State)

/-- A request to a command object (R45, R46, R70, R484): checked for access and argument, refused with "device busy"
while the same command runs, then its body. A command object reached through a selector or a handle has one status per item,
and one for the broadcast handle (log entry 59). -/
def State.command (s : State) (r : Req) (num : Nat) (arg : Bytes) (body : Nat → State → CmdOut) : State :=
  match s.locate r num with
  | .error a => s.respond r (.abort a)
  | .ok o =>
    match s.accessRefuses r num o .command with
    | some a => s.respond r (.abort a)
    | none =>
      match o.checkArg arg with
      | some a => s.respond r (.abort a)
      | none =>
        let i := s.itemOf r o
        if (s.cmdSt num i).1 = 1 then s.respond r (.abort .deviceBusy)
        else match body i s with
        | .refuse a s' => s'.respond r (.abort a)
        | .done s' => (s'.setCmd num i 2 (s'.cmdSt num i).2).respond r (.ok [])
        | .running s' => s'.setCmd num i 1 (s'.cmdSt num i).2
        | .started s' => (s'.setCmd num i 1 (s'.cmdSt num i).2).respond r (.ok [])
        | .failed a s' => (s'.setCmd num i 3 (BitVec.ofNat 32 a.code)).respond r (.abort a)

/-- Whether a new value waits for its moment while the block keeps acting on the old one (R19); a value of the next
activation is simply read when that activation starts its trial. -/
def Effect.later : Effect → Bool
  | .nextReset => true | .nextPeriod => true | _ => false

/-- Store a checked value of an object: in the session for a session's own copy (R43), else in the dictionary, the
acting value being kept where the object takes effect later (R19). -/
def State.storeObj (s : State) (r : Req) (num : Nat) (o : ObjRow) (v : Bytes) : State :=
  if o.inst = .session ∨ isSessionObj num o = true then s.setSess r.sess (fun x => { x with vals := tblPut x.vals num v })
  else
    let i := s.itemOf r o
    let s1 :=
      if o.eff.later ∧ tblFind? s.dict.shadow (storeKey num i) = none then
        { s with dict := { s.dict with shadow := tblPut s.dict.shadow (storeKey num i) (s.stored num i) } }
      else s
    s1.storeVal num i v

/-- A write to an RW or WO object (R44, R51): access, length and value, a check of its own, durability, then stored; and
what else the write does to the item. -/
def State.writeThen (s : State) (r : Req) (num : Nat) (v : Bytes) (pre : Nat → Bytes → Option Abort)
    (post : Nat → State → State) : State :=
  match s.locate r num with
  | .error a => s.respond r (.abort a)
  | .ok o =>
    match s.accessRefuses r num o .write with
    | some a => s.respond r (.abort a)
    | none =>
      match o.checkValue v with
      | some a => s.respond r (.abort a)
      | none =>
        match pre (s.itemOf r o) (o.stored v) with
        | some a => s.respond r (.abort a)
        | none =>
          if o.eff ≠ .volatile ∧ r.storeOk = false then s.respond r (.abort .cannotStore)
          else (post (s.itemOf r o) (s.storeObj r num o (o.stored v))).respond r (.ok [])

/-- A write that does nothing but store. -/
def State.writeObj (s : State) (r : Req) (num : Nat) (v : Bytes) (pre : Nat → Bytes → Option Abort) : State :=
  s.writeThen r num v pre (fun _ t => t)

/-- A running command ends: its status, and its answer where it answers at completion (R484). -/
def State.endCommand (s : State) (num inst : Nat) (who : Option Req) (a : Option Abort) : State :=
  let s1 := match a with
    | none => s.setCmd num inst 2 (s.cmdSt num inst).2
    | some x => s.setCmd num inst 3 (BitVec.ofNat 32 x.code)
  match who with
  | none => s1
  | some r => s1.respond r (match a with | none => .ok [] | some x => .abort x)

end Sys2Proof.Machine
end

