-- ==== Sys2Proof/Machine/Events.lean ====
section
/-! DEFINITION. The event recorder's commands (16_events): raises, refills, flushes, the clear and its challenge, and the
application's own raises. -/

namespace Sys2Proof.Machine

/-- Outcome of a command that always goes on. -/
abbrev Result := Host.Outcome State Fault Refusal

/-- R391: a raise updates its code's summary and histogram, and writes a log entry if a token is available. Code 0x000
and the reserved codes are never raised (R390, R401). -/
def execEventRaise (code : BitVec 10) (measure : U64) (s : State) : Result :=
  .next (if listedCode code.toNat = false then s else s.raise code.toNat measure.toInt)

/-- A bucket below its depth gains one token (R392). -/
def EvState.refill (e : EvState) (code : Nat) : EvState :=
  { e with sums := tblUpd {} e.sums code (fun m => { m with missing := m.missing - 1 }) }

/-- R392: every F ms while a code's bucket is below D, one token is added. -/
def execEventTokenRefill (code : BitVec 10) (s : State) : Result :=
  .next (if (tblGet {} s.ev.sums code.toNat).missing = 0 then s else { s with ev := s.ev.refill code.toNat })

/-- R396: summaries and log are flushed to MRAM. -/
def execEventFlush (s : State) : Result := .next { s with ev := s.ev.flush }

/-- An OCTETS value in its encoding (R44). -/
def octets (b : Bytes) : Bytes := leBytes 2 b.length ++ b

/-- A random draw as 16 bytes (R48). -/
def drawBytes (x : BitVec 128) : Bytes := leBytes 16 x.toNat

/-- Draw a fresh clear challenge for a session (R399). -/
def State.redrawClear (s : State) (i : SessId) : State :=
  (s.draw.2).setSess i (fun x => { x with clearChallenge := some s.draw.1 })

/-- A read request's guard: the row, or the abort (R42 to R50, R68). -/
def State.readGuard (s : State) (r : Req) (num : Nat) : Except Abort ObjRow :=
  match s.locate r num with
  | .error a => .error a
  | .ok o => match s.accessRefuses r num o .read with
    | some a => .error a
    | none => .ok o

/-- R399: a read of 0xB120:01 draws and returns a fresh clear challenge. -/
def State.clearChallengeRead (s : State) (r : Req) : State :=
  match s.readGuard r 0xB12001 with
  | .error a => s.respond r (.abort a)
  | .ok _ => (s.redrawClear r.sess).respond r (.ok (octets (drawBytes s.draw.1)))

def execClearChallengeRead (r : Req) (s : State) : Result := .next (s.clearChallengeRead r)

/-- Summaries of a range of codes set to zero, their buckets full, 0x260 excluded (R399). -/
def clearSums (lo hi : Nat) (t : Tbl EvSummary) : Tbl EvSummary :=
  t.filter (fun p => !(decide (lo ≤ p.1) && decide (p.1 ≤ hi) && p.1 != 0x260))

/-- A log entry of a range of codes reads all zero except its stamp; its number stays (R399). -/
def EvEntry.cleared (lo hi : Nat) (e : EvEntry) : EvEntry :=
  if lo ≤ e.code ∧ e.code ≤ hi ∧ e.code ≠ 0x260 then
    { e with code := 0, restart := false, supBefore := 0, measure := 0 }
  else e

/-- The recorder after an accepted clear (R399). -/
def EvState.clear (e : EvState) (lo hi scope : Nat) : EvState :=
  { e with
    sums := if scope % 2 = 1 then clearSums lo hi e.sums else e.sums
    buf := if scope / 2 % 2 = 1 then e.buf.map (·.cleared lo hi) else e.buf
    log := if scope / 2 % 2 = 1 then e.log.map (·.cleared lo hi) else e.log }

/-- The body of 0xB130:02 (R401): a U16 code 0x300-0x3FF and an I64 measure. -/
def raiseApplicationBody (arg : Bytes) (_i : Nat) (s : State) : CmdOut :=
  let code := fieldAt arg 0 2
  if code < 0x300 ∨ 0x3FF < code then .refuse .valueInvalid s
  else .done (s.raise code (toSigned 64 (fieldAt arg 2 8)))

/-- R401: internal command 0xB130:02 raises an application code; external transports are answered "unsupported access". -/
def execRaiseApplicationEvent (r : Req) (arg : Bytes) (s : State) : Result :=
  .next (s.command r 0xB13002 arg (raiseApplicationBody arg))

end Sys2Proof.Machine
end

