-- ==== Sys2Proof/Machine/Time.lean ====
section
/-! DEFINITION. The calendar's commands (R96 to R103), the trim (R101), the offset table (R107, R108), captures (R94),
PPS_OUT and PTP transmission (R85, R90), and the tick of the 32.768 kHz oscillator. -/

namespace Sys2Proof.Machine

/-- Seconds from the PTP epoch to 2000-01-01 00:00:00 on the same count. -/
def epoch2000 : Nat := 946684800

/-- The UTC offset in seconds: from the announces when flagged valid, else 0x3110:0E (R82). DESIGN CHOICE (log entry 64): the
last offset announced as valid stays in use after its grandmaster is lost, until an announce of the slave port flags none. -/
def State.utcOff (s : State) : Int := s.time.utcOffset.getD (s.cfgI 2 0x31100E)

/-- Legal time derived from network time through R82, in ns since 2000-01-01 00:00:00. -/
def State.legalNs (s : State) : Int :=
  (s.time.net : Int) - s.utcOff * 1000000000 - (epoch2000 : Int) * 1000000000 + s.cfgI 2 0x31100F * 60000000000

/-- Calendar time in ns since 2000-01-01 00:00:00. -/
def TimeState.calNs (t : TimeState) : Nat := t.cal.secs * 1000000000 + t.sub.toNat * 1000000000 / 32768

/-- The daylight-saving offset in force at a legal minute (R107): the last used entry that has started, among k entries
from number i, or the offset so far. -/
def dstScan (s : State) (now : Nat) : Nat → Nat → Int → Int
  | 0, _, acc => acc
  | k + 1, i, acc =>
    let st := s.cfgN (0x340000 + i)
    dstScan s now k (i + 1) (if st ≠ 0 ∧ st ≤ now then s.cfgI 2 (0x340100 + i) else acc)

/-- The offset in force (R107). -/
def State.dstNow (s : State) : Int := dstScan s (s.time.cal.secs / 60) 64 1 (s.cfgI 2 0x340200)

/-- Legal time in whole minutes since 2000-01-01 plus the offset: billing time (R107). -/
def State.billingMin (s : State) : Int := (s.time.cal.secs / 60 : Nat) + s.time.dst

/-- The trim correction in use, in 0.001 ppm (R101). -/
def TimeState.trimInUse (t : TimeState) : Int :=
  let k := trimBin t.temp
  clampTo 200000 (match trimBelow t.trim k, trimAbove t.trim k with
    | some l, some u =>
      if l = k then (tblGet {} t.trim k).value
      else (tblGet {} t.trim l).value +
        ((tblGet {} t.trim u).value - (tblGet {} t.trim l).value) * ((k - l : Nat) : Int) / ((u - l : Nat) : Int)
    | some b, none => (tblGet {} t.trim b).value + (Config.factoryCurve t.temp - Config.factoryCurve (trimMiddle b))
    | none, some b => (tblGet {} t.trim b).value + (Config.factoryCurve t.temp - Config.factoryCurve (trimMiddle b))
    | none, none => Config.factoryCurve t.temp)

/-- The calendar one second on; a wrap sets CAL_WRAP and raises the event (R96). -/
def State.addSecond (s : State) : State :=
  let n := s.time.cal.next
  let s1 := { s with time := { s.time with cal := n.1, calWrap := s.time.calWrap || n.2 } }
  if n.2 then s1.raise 0x050 0 else s1

/-- The sub-second count advanced by ticks; when it passes 32,767 the seconds carry exactly once (R99). -/
def State.addSub (s : State) (n : Nat) : State :=
  if s.time.sub.toNat + n < 32768 then { s with time := { s.time with sub := BitVec.ofNat 15 (s.time.sub.toNat + n) } }
  else ({ s with time := { s.time with sub := BitVec.ofNat 15 (s.time.sub.toNat + n - 32768) } }).addSecond

/-- Ticks that the trim makes of one oscillator tick, 0, 1 or 2, with the error carried (R101). -/
def trimTick (acc corr : Int) : Nat × Int :=
  let a := acc + corr
  if 1000000000 ≤ a then (2, a - 1000000000) else if a ≤ -1000000000 then (0, a + 1000000000) else (1, a)

/-- Network time one 32.768 kHz tick on: 1,953,125/64 ns at the rate adjustment in 10^-12, the fraction carried. -/
def TimeState.advanceNet (t : TimeState) : TimeState :=
  let a := t.netFrac + (1953125 * (1000000000000 + t.rate)).toNat
  { t with net := t.net + a / 64000000000000, netFrac := a % 64000000000000 }

/-- The calendar at one oscillator tick: a hold stands still, else the trimmed ticks count (R99, R101). -/
def State.calTick (s : State) : State :=
  if s.time.oscStopped then s
  else match s.time.hold with
  | some n => { s with time := { s.time with hold := if n ≤ 1 then none else some (n - 1) } }
  | none =>
    let k := trimTick s.time.trimAcc s.time.trimInUse
    ({ s with time := { s.time with trimAcc := k.2 } }).addSub k.1

/-- One tick of 32.768 kHz of time passing while nothing is commanded (log entry 8): the monotonic tick, operating
minutes and network time run on main power, and the calendar on its oscillator. -/
def State.tick (s : State) : State :=
  let s1 := if s.pwr.inReset then s
    else { s with
      time := { s.time.advanceNet with mono := s.time.mono + 1 }
      ev := { s.ev with opTicks := s.ev.opTicks + 1 } }
  s1.calTick

/-- Network time brought up to a stamp that a command carries; it never runs back (log entry 8). -/
def State.atNet (s : State) (stamp : Nat) : State :=
  if s.time.net < stamp then { s with time := { s.time with net := stamp, netFrac := 0 } } else s

/-- R96: after 2399-12-31 23:59:59 the calendar wraps. At any other calendar time no wrap can come. -/
def execCalWrap (s : State) : Result :=
  .next (if s.time.cal = calLast then ({ s with time := { s.time with sub := 0 } }).addSecond else s)

/-- The body of 0x3201:00 (R97, R98, R103): the lockout refuses, an invalid time sets RTC_SET_ERR, an accepted one goes to
the always-on island. -/
def setCalendarBody (r : Req) (arg : Bytes) (_i : Nat) (s : State) : CmdOut :=
  if !setArgOk arg then
    .refuse .valueInvalid (({ s with time := { s.time with setErr := true } }).raise 0x051 0)
  else if s.time.lockout then .refuse .notReady s
  else .running { s with time := { s.time with pendSet := some (CalTime.ofBcd7 arg, some (r, true)) } }

/-- R97: command 0x3201:00. -/
def execSetCalendar (r : Req) (arg : Bytes) (s : State) : Result :=
  .next (s.command r 0x320100 arg (setCalendarBody r arg))

/-- A pending set or shift is refused with "device not ready" and nothing changes (R98, R99). -/
def State.refusePending (s : State) : State :=
  let s1 := match s.time.pendSet with
    | none => s
    | some (_, none) => s
    | some (_, some (r, true)) => s.endCommand 0x320100 0 (some r) (some .notReady)
    | some (_, some (r, false)) => s.respond r (.abort .notReady)
  let s2 := match s.time.pendShift with
    | none => s1
    | some (_, none) => s1
    | some (_, some r) => s1.endCommand 0x320200 0 (some r) (some .notReady)
  { s2 with time := { s2.time with pendSet := none, pendShift := none } }

/-- R98: no tick within 2.1 ms. -/
def execCalendarSetNoTick (s : State) : Result := .next s.refusePending

/-- A shift applied at the next tick (R99): forward at once, backward as a hold; the billing engine gets S/32,768 s. -/
def State.shift (s : State) (n : Int) : State :=
  let s1 := { s with time := { s.time with adjust := s.time.adjust ++ [n] } }
  if 0 ≤ n then s1.addSub n.toNat else { s1 with time := { s1.time with hold := some n.natAbs } }

/-- The body of 0x3202:00 (R99, R102, R103). -/
def subSecondShiftBody (r : Req) (arg : Bytes) (_i : Nat) (s : State) : CmdOut :=
  let n := toSigned 16 (leNat arg)
  if n < -32767 then .refuse .valueInvalid s
  else if n = 0 then .done s
  else if s.time.lockout then .refuse .notReady s
  else if s.time.hold.isSome then .refuse .deviceBusy s
  else if s.time.oscStopped then .running { s with time := { s.time with pendShift := some (n, some r) } }
  else .done ((s.shift n).mirror .configuration 0x320200 arg)

/-- R99: command 0x3202:00. -/
def execSubSecondShift (r : Req) (arg : Bytes) (s : State) : Result :=
  .next (s.command r 0x320200 arg (subSecondShiftBody r arg))

/-- R99: the count has stood still for |S| ticks; it resumes and HOLD clears. -/
def execHoldEnd (s : State) : Result := .next { s with time := { s.time with hold := none } }

/-- One run of calendar discipline (R100): d is legal time less calendar time. The set of mode 2 waits for its second boundary
apart from a set that a requester has pending. -/
def State.discipline (s : State) : State :=
  let mode := s.cfgN 0x320300
  let d : Int := s.legalNs - s.time.calNs
  let n := d.natAbs
  if mode = 0 ∨ s.time.sync ≠ .locked ∨ s.time.lockout = true ∨ s.time.oscStopped = true then s
  else if n < 1000000000 then
    let s1 := { s with time := { s.time with diverged := false } }
    if s.time.hold.isSome then s1
    else if n < 1000000 then { s1 with time := { s1.time with trimFed := d :: s1.time.trimFed } }
    else s1.shift (roundDiv (d * 32768) 1000000000)
  else
    let next := s.legalNs / 1000000000 + 1
    let inRange := decide (0 ≤ next) && decide (next < 400 * 365 * 86400 + 97 * 86400)
    if mode = 2 ∧ inRange = true then
      { s with time := { s.time with discSet := some (CalTime.ofSecs next.toNat) } }
    else if s.time.diverged then s
    else ({ s with time := { s.time with diverged := true } }).raise 0x052 (d / 1000000)

/-- R100: every 64 s. -/
def execCalendarDiscipline (s : State) : Result := .next s.discipline

/-- R101: every 64 s the always-on island measures its temperature (0.1 degC) and selects the trim bin. -/
def execTemperatureBinSample (temp : BitVec 16) (s : State) : Result :=
  .next { s with time := { s.time with temp := temp.toInt } }

/-- A bin after a window's value (R101): valid after four windows that agree within 0.2 ppm. DESIGN CHOICE (log entry 64):
consecutive windows are compared, the bin's value is the last window's, and a bin once valid stays so. -/
def TrimBin.learn (b : TrimBin) (v : Int) : TrimBin :=
  let a := if (v - b.value).natAbs ≤ 200 ∧ b.agree ≠ 0 then b.agree + 1 else 1
  { value := v, agree := a, valid := b.valid || decide (4 ≤ a) }

/-- R101: the end of a 1,024 s learning window of mean temperature (0.1 degC), over which network time ran `elapsed` ns,
and over which calendar discipline fed its samples (R100; how they weigh is open, log entry 65). While network time is not
LOCKED nothing is learned; the table is copied to MRAM. -/
def execTrimWindowEnd (mean : BitVec 16) (elapsed : Nat) (s : State) : Result :=
  let k := trimBin mean.toInt
  let fed := if s.time.trimFed = [] then 0 else Config.trimFeed s.time.trimFed
  let v := clampTo 200000 (s.time.trimInUse + fed + roundDiv (((elapsed : Int) - 1024000000000) * 1000000000) 1024000000000)
  let t := if s.time.sync = .locked ∧ s.time.lockout = false then tblUpd {} s.time.trim k (·.learn v) else s.time.trim
  .next { s with time := { s.time with trim := t, trimMram := t, trimFed := [] } }

/-- R101, R106: command 0x3204:04 clears every bin; a trim write is refused in lockout (R103). -/
def execRelearnTrim (r : Req) (arg : Bytes) (s : State) : Result :=
  .next (s.command r 0x320404 arg (fun _ s =>
    if s.time.lockout then .refuse .notReady s
    else .done { s with time := { s.time with trim := [] } }))

/-- R102: the oscillator gives no edge for 2 ms: OSF and TIME_UNTRUSTED are set and OSC_STOP is raised. -/
def execOscStop (s : State) : Result :=
  .next (({ s with time := { s.time with oscStopped := true, osf := true, untrusted := true } }).raise 0x053 0)

/-- R102: edges return; the calendar goes on from its stopped value, OSF stays set. -/
def execOscillatorResume (s : State) : Result := .next { s with time := { s.time with oscStopped := false } }

/-- R107: legal time reaches the start of a used entry; billing time takes the offset in force. -/
def execDstOffsetChange (s : State) : Result := .next { s with time := { s.time with dst := s.dstNow } }

/-- The last used start of the offset table, in legal minutes (R108). -/
def dstLast (s : State) : Nat := (List.range 64).foldl (fun m i => max m (s.cfgN (0x340001 + i))) 0

/-- R108: the daily check raises DST_TABLE_LOW while the last used start lies less than 366 days ahead. -/
def execDstTableLow (s : State) : Result :=
  let last := dstLast s
  let ahead : Int := (last : Int) - (s.time.cal.secs / 60 : Nat)
  .next (if last ≠ 0 ∧ ahead < 366 * 1440 then s.raise 0x054 (ahead / 1440) else s)

/-- A capture after an edge (R94): the first edge of a button starts 20 ms in which its input is debounced. -/
def Capture.edge (x : Capture) (button takes : Bool) (stamp : Nat) : Capture :=
  if button = true ∧ stamp < x.quietTo ∧ x.quietTo ≤ stamp + 20000000 then x
  else
    let y := if button then { x with quietTo := stamp + 20000000 } else x
    if takes then { y with last := stamp, count := y.count + 1 } else y

/-- R94: an edge on a capture input, stamped in network time while main power is present. -/
def execCaptureEdge (c : Fin 6) (rising : Bool) (stamp : Nat) (s : State) : Result :=
  let sel := s.cfgN (0x350001 + c.val * 256)
  let s1 := s.atNet stamp
  let takes := sel == 3 || (sel == 1 && rising) || (sel == 2 && !rising)
  .next (if s.pwr.inReset then s
    else { s1 with
      time := { s1.time with captures := tblUpd {} s1.time.captures c.val (fun x => x.edge (decide (4 ≤ c.val)) takes stamp) } })

/-- R90: PPS_OUT rises at a network-time second boundary for the width of 0x3112:01; 0 holds it low. -/
def execPpsOutPulse (s : State) : Result :=
  let w := s.cfgN 0x311201
  .next (if w = 0 then s
    else ({ s with time := { s.time with ppsOut := s.time.ppsOut + 1 } }).emit (.pps w))

/-- PPS_IN is the qualified source (R83): from ACQUIRING on (R86). -/
def State.ppsQualified (s : State) : Bool := s.cfgN 0x311003 == 2 && (s.time.sync == .locked || s.time.sync == .acquiring)

/-- The other port of ETH0 and ETH1 is PASSIVE while one of the two is the slave port (R84). -/
def State.ptpPassive (s : State) (p : Nat) : Bool :=
  decide (p < 2) && (s.time.slave == some (1 - p))

/-- What an Announce of a port says (R83): of a boundary clock with a slave port what its grandmaster says, one step further;
else the device's own as grandmaster, clockClass 248 while free-running and 6 while PPS_IN is the qualified source. That
timeTraceable follows the class, and what the device's identity is, is open (log entry 6). That the states the table does
not name, PPS_IN or PTP lost in HOLDOVER and PTP with no slave port, announce 248 is the model's choice (log entry 72). -/
def State.announce (s : State) (p : Nat) : Out :=
  match s.time.slave.bind (fun q => (tblGet {} s.time.ptp q).parent) with
  | some a =>
    .ptpAnnounce p (s.cfgN 0x311101) a.prio1.toNat a.cls.toNat a.prio2.toNat a.gm.toNat (a.steps.toNat + 1) (a.cls.toNat == 6)
  | none =>
    .ptpAnnounce p (s.cfgN 0x311101) (s.cfgN 0x311102) (if s.ppsQualified then 6 else 248) (s.cfgN 0x311103)
      ((Config.openInt 86 0).toNat % 2 ^ 64) 0 s.ppsQualified

/-- R85, R429: a one-step message leaves a port with the time of its start-of-frame delimiter plus the port's transmit
PHY delay, or for Pdelay_Resp the residence time widened by both PHY delays. Sync (0) and Announce (1) leave only a port that is not the slave, is not
PASSIVE and may be master (R83, R84); a port without PTP sends nothing. -/
def execPtpMessageTx (port : Fin 4) (kind : Fin 4) (residence : Nat) (s : State) : Result :=
  let p := port.val
  let master := s.time.slave ≠ some p ∧ s.ptpPassive p = false ∧ s.cfgB 0x311104 = false
  let t := if kind = 3 then residence + s.cfgN (0x420201 + 0x1000 * p) + s.cfgN (0x420202 + 0x1000 * p) else s.time.net + s.cfgN (0x420201 + 0x1000 * p)
  .next (if s.cfgB (0x420203 + 0x1000 * p) = false ∨ s.cfgB (0x420001 + 0x1000 * p) = false ∨ (kind.val < 2 ∧ ¬ master) then s
    else
      ({ s with
        time := { s.time with ptp := tblUpd {} s.time.ptp p (fun x => { x with sent := x.sent + 1 }) }
        link := { s.link with eth := tblUpd {} s.link.eth p (fun e => { e with tx := e.tx + 1 }) } }).emit
          (if kind = 1 then s.announce p else .ptp p (kind.val + 1) t))

end Sys2Proof.Machine
end

