-- ==== Sys2Proof/Machine/Cascade.lean ====
section
/-! DEFINITION. Flows, queues and items (R206 to R216), accounts and the period boundary (R217 to R222), admission
shaping (R224 to R226). -/

namespace Sys2Proof.Machine

/-- Queue of a flow (R227). -/
def State.queueOf (s : State) (f : Nat) : Nat := s.cfgN 0x901401 f

/-- Account of a queue, 0 unbound, 16 of the producing item (R206, log entry 9). -/
def State.queueAcct (s : State) (q : Nat) : Nat := s.cfgN 0x901101 q

/-- A queue's target lets an application core take its items (R227). -/
def State.queueTakes (s : State) (q core : Nat) : Bool :=
  let t := s.cfgN 0x901103 q
  t / 2 ^ 31 % 2 == 0 && t / 2 ^ core % 2 == 1

/-- The protocol sequencer that a bound queue names as its target (R206, R227), none where it names cores. -/
def State.queueSeq (s : State) (q : Nat) : Option Nat :=
  let t := s.cfgN 0x901103 q
  if s.queueAcct q != 0 && t / 2 ^ 31 % 2 == 1 then some (t % 32) else none

/-- Items of a flow in arrival order. -/
def State.items (s : State) (f : Nat) : List Item := tblGet [] s.cas.flows f

/-- Items held in a queue, over all its flows (R208). -/
def State.depth (s : State) (q : Nat) : Nat :=
  (s.cas.flows.filter (fun p => s.queueOf p.1 = q)).foldl (fun n p => n + p.2.length) 0

/-- Replace a flow's items. -/
def State.setItems (s : State) (f : Nat) (l : List Item) : State :=
  { s with cas := { s.cas with flows := if l = [] then tblDel s.cas.flows f else tblPut s.cas.flows f l } }

/-- An enqueue's status (R208). -/
inductive EnqStatus where
  | ok | full | invalid | poolEmpty
deriving DecidableEq, Repr

/-- Status numbers in the order of R208. -/
def EnqStatus.num : EnqStatus → Nat
  | .ok => 0 | .full => 1 | .invalid => 2 | .poolEmpty => 3

/-- A new item of a producer's account (R206, R207). -/
def mkItem (s : State) (acct kind key ref : Nat) (telemetry fromDelay : Bool) : Item :=
  { id := s.cas.nextId, kind := kind, telemetry := telemetry, resumed := false, fromDelay := fromDelay, key := key,
    ref := ref, acct := acct, born := s.time.mono, since := s.time.mono, sent := false, st := .waiting, wants := [] }

/-- The 16 bytes of an item's descriptor on a flow, reserved bits zero (R207). -/
def Item.descriptor (f : Nat) (x : Item) : Bytes :=
  leBytes 2 (f % 4096) ++ leBytes 1 x.kind ++ leBytes 1 (bit x.telemetry + 2 * bit x.resumed + 4 * bit x.fromDelay) ++
  leBytes 4 (x.key % 2 ^ 20) ++ leBytes 8 x.ref

/-- Descriptors in use or reserved by an admission whose frame is not yet delivered (R216, R224). -/
def State.poolTaken (s : State) : Nat := s.cas.inUse + (s.acc.deciding.filter (fun d => !d.made)).length

/-- The item put at its flow's tail, with a descriptor from the pool and the queue's peak depth. -/
def State.append (s : State) (f : Nat) (it : Item) (newDesc : Bool) : State :=
  let q := s.queueOf f
  let s1 := s.setItems f (s.items f ++ [it])
  let d := s1.depth q
  { s1 with
    cas := { s1.cas with
      nextId := s1.cas.nextId + 1
      inUse := if newDesc then s1.cas.inUse + 1 else s1.cas.inUse
      queues := tblUpd {} s1.cas.queues q (fun x => { x with peak := max x.peak d }) } }

/-- The newest item of a key on a flow, where it is a notification not yet dispatched (R208). -/
def State.mergeable (s : State) (f key : Nat) : Option Item :=
  ((s.items f).filter (fun x => x.key == key)).getLast?.filter (fun x => x.kind == 4 && x.st == .waiting && !x.sent)

/-- Change one item of a flow. -/
def State.setItem (s : State) (f id : Nat) (g : Item → Item) : State :=
  s.setItems f ((s.items f).map (fun x => if x.id = id then g x else x))

/-- An enqueue of a descriptor to a flow by a producer of an account (R208). Nothing is queued on any status but OK; a
notification merges with the newest one of its key on a coalescing queue, which adds its count. -/
def State.enqueue (s : State) (acct f kind key ref : Nat) (telemetry : Bool) : EnqStatus × State :=
  let q := s.queueOf f
  let coalesces := kind = 4 ∧ s.cfgB 0x901106 q = true
  if kind = 0 ∨ 4 < kind ∨ (kind = 4 ∧ ref = 0) ∨ s.queueAcct q = 0 then (.invalid, s)
  else match (if coalesces then s.mergeable f key else none) with
  | some x => (.ok, s.setItem f x.id (fun y => { y with ref := y.ref + ref }))
  | none =>
    if s.cfgN 0x901104 q ≤ s.depth q ∧ ¬ coalesces then
      (.full, { s with cas := { s.cas with queues := tblUpd {} s.cas.queues q (fun x => { x with full := x.full + 1 }) } })
    else if 49152 ≤ s.poolTaken then (.poolEmpty, { s with cas := { s.cas with poolEmpty := s.cas.poolEmpty + 1 } })
    else (.ok, s.append f (mkItem s acct kind key ref telemetry false) true)

/-- An enqueue by the device's own firmware or hardware, which keeps what is not queued (R208, R216). -/
def State.produce (s : State) (acct f kind key ref : Nat) (telemetry : Bool) : State :=
  let e := s.enqueue acct f kind key ref telemetry
  if e.1 = .ok then e.2
  else { e.2 with cas := { e.2.cas with kept := e.2.cas.kept ++ [(acct, f, kind, key, ref, telemetry)] } }

/-- Kept enqueues are tried again, oldest first (R208, R216). -/
def State.retryKept (s : State) : State :=
  s.cas.kept.foldl (fun t k => t.produce k.1 k.2.1 k.2.2.1 k.2.2.2.1 k.2.2.2.2.1 k.2.2.2.2.2)
    { s with cas := { s.cas with kept := [] } }

/-- Items of a flow that run. -/
def runningOf (l : List Item) : List Item := l.filter (fun x => match x.st with | .running _ _ => true | _ => false)

/-- The account an item's core time is charged to (R206, R219): its queue's, or its producer's. -/
def State.itemAcct (s : State) (f : Nat) (it : Item) : Nat :=
  if s.queueAcct (s.queueOf f) = 16 then it.acct else s.queueAcct (s.queueOf f)

/-- A waiting item of a flow is ready (R210); a pre-empted item keeps its key (R211). -/
def State.ready (s : State) (f : Nat) (it : Item) : Bool :=
  let l := s.items f
  it.st == .waiting && decide ((runningOf l).length < s.cfgN 0x901402 f) && s.mayUse (s.itemAcct f it) 0 &&
  (s.cfgB 0x901403 f == false ||
    ((runningOf l).all (fun x => x.key != it.key) &&
      l.all (fun x => !(x.resumed && x.st == .waiting && x.key == it.key && x.id != it.id))))

/-- Place in the arrival order of a queue (R210, R211): a resumed item stands at the head of its flow's waiting items. -/
def State.arrival (s : State) (f : Nat) (it : Item) : Nat :=
  if it.resumed then 2 * ((s.items f).filter (fun x => x.st == .waiting)).foldl (fun m x => min m x.id) it.id
  else 2 * it.id + 1

/-- Order of service (R210): priority, round robin by queue number after the queue last served, arrival. -/
def State.serviceRank (s : State) (f : Nat) (it : Item) : Nat × Nat × Nat :=
  let q := s.queueOf f
  let p := s.cfgN 0x901102 q
  (p, (q + 512 - (tblGet 255 s.cas.rr p + 1)) % 256, s.arrival f it)

/-- One service rank comes before another. -/
def rankBefore (a b : Nat × Nat × Nat) : Bool :=
  decide (a.1 < b.1) || (a.1 == b.1 && (decide (a.2.1 < b.2.1) || (a.2.1 == b.2.1 && decide (a.2.2 < b.2.2))))

/-- The ready items a core may take, as flow and item. -/
def State.readyFor (s : State) (core : Nat) : List (Nat × Item) :=
  s.cas.flows.flatMap (fun p =>
    if s.queueTakes (s.queueOf p.1) core then (p.2.filter (s.ready p.1)).map (fun x => (p.1, x)) else [])

/-- The first of some items in the order of service (R210). -/
def State.firstOf (s : State) (l : List (Nat × Item)) : Option (Nat × Item) :=
  l.foldl (fun best c =>
    match best with
    | none => some c
    | some b => if rankBefore (s.serviceRank c.1 c.2) (s.serviceRank b.1 b.2) then some c else some b) none

/-- The item that Cascade gives a free core (R210). -/
def State.pick (s : State) (core : Nat) : Option (Nat × Item) := s.firstOf (s.readyFor core)

/-- Nanoseconds of a span of monotonic ticks. -/
def ticksNs (n : Nat) : Nat := n * 1953125 / 64

/-- Core time since dispatch is charged to an item's account (R219). -/
def State.chargeRun (s : State) (core f : Nat) (it : Item) (since : Nat) : State :=
  let ns := ticksNs (s.time.mono - since)
  let s1 := s.charge (s.itemAcct f it) 0 ns
  { s1 with cas := { s1.cas with busy := listUpd s1.cas.busy core (· + ns) } }

/-- The running item of a core, with its flow and dispatch tick. -/
def State.onCore (s : State) (core : Nat) : Option (Nat × Item × Nat) :=
  match s.cas.cores.getD core none with
  | none => none
  | some (f, id) =>
    match (s.items f).find? (fun x => x.id == id) with
    | none => none
    | some it => match it.st with
      | .running _ since => some (f, it, since)
      | _ => none

/-- A core's item goes back to the head of the waiting items, flagged RESUMED, and its charging stops (R211). -/
def State.preempt (s : State) (core : Nat) : State :=
  match s.onCore core with
  | none => s
  | some (f, it, since) =>
    let s1 := (s.chargeRun core f it since).setItem f it.id (fun x => { x with st := .waiting, resumed := true })
    { s1 with cas := { s1.cas with cores := listUpd s1.cas.cores core (fun _ => none), preempts := s1.cas.preempts + 1 } }

/-- The core of a target set that runs the lowest priority, the lower number on a tie (R211). -/
def State.victim (s : State) (q : Nat) : Option (Nat × Nat) :=
  (List.range 4).foldl (fun best c =>
    if s.queueTakes q c then
      match s.onCore c with
      | none => best
      | some (f, _, _) =>
        let p := s.cfgN 0x901102 (s.queueOf f)
        match best with
        | none => some (p, c)
        | some b => if b.1 < p then some (p, c) else some b
    else best) none

/-- Every core of a queue's target set is running. -/
def State.allBusy (s : State) (q : Nat) : Bool :=
  (List.range 4).all (fun c => !s.queueTakes q c || (s.onCore c).isSome)

/-- A waiting item on whose flow it is, where every core of its target set runs and one runs a lower priority (R211). -/
def State.preempts (s : State) (f : Nat) (it : Item) : Option Nat :=
  let q := s.queueOf f
  if s.ready f it && s.allBusy q then
    match s.victim q with
    | none => none
    | some (p, c) => if s.cfgN 0x901102 q < p then some c else none
  else none

/-- Items that have become ready pre-empt (R211), the first in the order of service first; n bounds the cores. -/
def State.preemptAll (s : State) : Nat → State
  | 0 => s
  | n + 1 =>
    if (s.cas.cores.filter (·.isSome)) = [] then s
    else
      let l := s.cas.flows.flatMap (fun p => (p.2.filter (fun x => (s.preempts p.1 x).isSome)).map (fun x => (p.1, x)))
      match s.firstOf l with
      | none => s
      | some (f, it) =>
        match s.preempts f it with
        | none => s
        | some c => (s.preempt c).preemptAll n

/-- Set the status of the last enqueue. -/
def State.setStatus (s : State) (e : EnqStatus) : State := { s with cas := { s.cas with lastStatus := e.num } }

/-- The tick that a delay list counts (R214). -/
def State.listTick (s : State) (l : Nat) : Nat :=
  if l = 0 then s.time.mono * 1000000 / 32768 else if l = 1 then s.time.mono * 1000 / 32768
  else if l = 2 then s.cas.ticks else s.time.cycle.toNat

/-- A due value lies within its list's range (R214): at most 2^32 ticks ahead on lists 0 to 2; on list 3 a cycle number. -/
def dueInRange (l due tick : Nat) : Bool := if l = 3 then decide (due < 2 ^ 40) else decide (due ≤ tick + 2 ^ 32)

/-- A due value is still ahead of the list's tick; cycle numbers compare modulo 2^40 (R15, R214). -/
def dueAhead (l due tick : Nat) : Bool :=
  if l = 3 then cycleAhead (BitVec.ofNat 40 due) (BitVec.ofNat 40 tick) else decide (tick < due)

/-- A due value's place in the order of its list (R214), cycle numbers by their distance from the tick modulo 2^40 (R15). -/
def dueRank (l tick due : Nat) : Nat := if l = 3 then (due + 3 * 2 ^ 39 - tick % 2 ^ 40) % 2 ^ 40 else due

/-- Insert into a delay list in order of due value, equal values in order of insertion (R214). -/
def delayInsert (l tick : Nat) (x : Nat × Nat × Item) : List (Nat × Nat × Item) → List (Nat × Nat × Item)
  | [] => [x]
  | y :: ys => if dueRank l tick x.1 < dueRank l tick y.1 then x :: y :: ys else y :: delayInsert l tick x ys

/-- Microseconds waited, as a bin of the wait histogram (R227). -/
def waitBin (s : State) (it : Item) : Nat :=
  let us := (s.time.mono - it.since) * 1000000 / 32768
  if us < 2 then 0 else min 15 (Nat.log2 us)

/-- A dispatch from a flow's queue is counted, with the time the item waited (R227). -/
def State.countDispatch (s : State) (f : Nat) (it : Item) : State :=
  { s with
    cas := { s.cas with
      dispatches := s.cas.dispatches + 1
      queues := tblUpd {} s.cas.queues (s.queueOf f) (fun x => { x with hist := listUpd x.hist (waitBin s it) satInc }) } }

/-- A core's dispatch read returns an item, which runs there from now (R209, R210). -/
def State.dispatchTo (s : State) (core f : Nat) (it : Item) : State :=
  let s1 := ((s.countDispatch f it).setItem f it.id (fun x => { x with st := .running core s.time.mono, sent := true })).emit
    (.dispatch core (it.descriptor f))
  { s1 with
    cas := { s1.cas with
      cores := listUpd s1.cas.cores core (fun _ => some (f, it.id))
      stalled := s1.cas.stalled.erase core
      rr := tblPut s1.cas.rr (s.cfgN 0x901102 (s.queueOf f)) (s.queueOf f) } }

/-- Items are dispatched: the application island runs and the state has been restored since the last main reset (R332). -/
def State.dispatches (s : State) : Bool := s.arch.restored && s.isUp 8

/-- The stalled reads of cores for which an item is ready return, the oldest read first (R209). -/
def State.serveStalled (s : State) : State :=
  s.cas.stalled.foldl (fun t c =>
    if t.dispatches then
      match t.pick c with
      | none => t
      | some (f, it) => t.dispatchTo c f it
    else t) s

/-- What follows when items become ready (R209, R211): stalled reads return, then ready items pre-empt, and an item that lost its
core may suit a stalled read; n bounds the rounds. -/
def State.scheduleRounds (s : State) : Nat → State
  | 0 => s
  | n + 1 => (s.serveStalled.preemptAll 4).scheduleRounds n

/-- Every stalled read and every pre-emption that the ready items bring, a core at a time (R209, R211). -/
def State.schedule (s : State) : State := s.scheduleRounds 4

/-- Perform an item's requested enqueues until one meets FULL or POOL_EMPTY; answers those left over (R213). -/
def State.doWants (s : State) (acct : Nat) : List (Nat × Nat × Nat × Nat) → List (Nat × Nat × Nat × Nat) × State
  | [] => ([], s)
  | w :: ws =>
    let e := s.enqueue acct w.1 w.2.1 w.2.2.1 w.2.2.2 false
    match e.1 with
    | .full => (w :: ws, e.2)
    | .poolEmpty => (w :: ws, e.2)
    | _ => e.2.doWants acct ws

/-- A queue is acceptance-fed (R227). -/
def State.accFed (s : State) (f : Nat) : Bool := s.cfgB 0x901105 (s.queueOf f)

/-- Release a flow's finished items in arrival order (R213); n bounds the items looked at. Answers the items released,
oldest first. -/
def State.releaseFlow (s : State) (f : Nat) : Nat → List Item × State
  | 0 => ([], s)
  | n + 1 =>
    match s.items f with
    | [] => ([], s)
    | it :: _ =>
      match it.st with
      | .finished ok =>
        let w := if ok then s.doWants (s.itemAcct f it) it.wants else ([], s)
        if w.1 = [] then
          let s1 := w.2.setItems f ((w.2.items f).filter (fun x => x.id != it.id))
          let s2 := { s1 with
            cas := { s1.cas with
              inUse := s1.cas.inUse - 1
              released := if s.accFed f then s1.cas.released + 1 else s1.cas.released } }
          let r := s2.releaseFlow f n
          (it :: r.1, r.2)
        else ([], w.2.setItem f it.id (fun x => { x with wants := w.1 }))
      | _ => ([], s)

/-- Release over every flow that holds a finished head (R213). -/
def State.releaseAll (s : State) : List (Nat × Item) × State :=
  (s.cas.flows.map (·.1)).foldl (fun acc f =>
    let r := acc.2.releaseFlow f (acc.2.items f).length
    (acc.1 ++ r.1.map (fun x => (f, x)), r.2)) ([], s)

/-- Age in microseconds of the oldest unreleased item of the acceptance-fed queues: the sojourn S (R224). -/
def State.sojourn (s : State) : Nat :=
  let oldest := (s.cas.flows.filter (fun p => s.accFed p.1)).foldl (fun m p => p.2.foldl (fun m x => min m x.born) m) s.time.mono
  (s.time.mono - oldest) * 1000000 / 32768

/-- The sojourn S has exceeded half the latency target (R224); it is greatest as items release and at a boundary. -/
def State.noteSojourn (s : State) : State :=
  { s with cas := { s.cas with highS := s.cas.highS || decide (s.cfgN 0x902001 * 1000 < 2 * s.sojourn) } }

/-- Release until no flow releases any more, so that room made downstream frees the flows before it (R213); n bounds the
rounds. -/
def State.releaseRounds (s : State) : Nat → List (Nat × Item) × State
  | 0 => ([], s)
  | n + 1 =>
    let r := s.releaseAll
    if r.1 = [] then r
    else
      let q := r.2.releaseRounds n
      (r.1 ++ q.1, q.2)

/-- Accounts of the items that run on the cores. -/
def State.runAccts (s : State) : List Nat :=
  (List.range 4).filterMap (fun c => (s.onCore c).map (fun x => s.itemAcct x.1 x.2.1))

/-- The account of the item whose firmware enqueues (R206). The command does not name the core: where the running items share
one account it is that, else an open choice among theirs, and from 1 to 15 while no item runs (log entry 60). -/
def State.producer (s : State) : Nat × State :=
  let l := s.runAccts
  if l ≠ [] ∧ l.all (· == l.headD 0) = true then (l.headD 0, s)
  else
    let v := s.openVal 91
    (if l = [] then 1 + v.1.toNat % 15 else l.getD (v.1.toNat % l.length) 1, v.2)

/-- R208, R211, R214: an enqueue of a descriptor to a flow, directly or through a delay list. A due value not ahead of the
list's tick makes the item ready at once; one beyond the list's range is INVALID (log entry 60). The account is that of the core's
item that enqueues. -/
def execEnqueue (flow : BitVec 12) (kind : U8) (telemetry : Bool) (key : Handle) (ref : U64)
    (delay : Option (Fin 4 × Nat)) (s : State) : Result :=
  let f := flow.toNat
  let a := s.producer
  let direct := a.2.enqueue a.1 f kind.toNat key.toNat ref.toNat telemetry
  .next (match delay with
    | none => (direct.2.setStatus direct.1).schedule
    | some (l, due) =>
      if !dueAhead l.val due (s.listTick l.val) then (direct.2.setStatus direct.1).schedule
      else if kind = 0 ∨ 4 < kind ∨ (kind = 4 ∧ ref = 0) ∨ s.queueAcct (s.queueOf f) = 0 ∨
          dueInRange l.val due (s.listTick l.val) = false then s.setStatus .invalid
      else if 49152 ≤ s.poolTaken then
        ({ s with cas := { s.cas with poolEmpty := s.cas.poolEmpty + 1 } }).setStatus .poolEmpty
      else
        let t := a.2
        let it := mkItem t a.1 kind.toNat key.toNat ref.toNat telemetry true
        let tick := s.listTick l.val
        ({ t with
          cas := { t.cas with
            nextId := t.cas.nextId + 1
            inUse := t.cas.inUse + 1
            delay := tblPut t.cas.delay l.val (delayInsert l.val tick (due, f, it) (tblGet [] t.cas.delay l.val)) } }).setStatus .ok)

/-- R209, R210, R332: a core reads its dispatch window: the read stalls while nothing is ready for it, and returns when an
item is; a core that still runs reads nothing. -/
def execDispatchRead (core : Fin 4) (s : State) : Result :=
  .next (if (s.onCore core.val).isSome then s
    else match (if s.dispatches then s.pick core.val else none) with
    | some (f, it) => (s.dispatchTo core.val f it).schedule
    | none => if s.cas.stalled.contains core.val then s
      else { s with cas := { s.cas with stalled := s.cas.stalled ++ [core.val] } })

/-- A core's item ends its run in a given way, and the core is free (R209). -/
def State.endRun (s : State) (core : Nat) (g : Item → Item) : State :=
  match s.onCore core with
  | none => s
  | some (f, it, since) =>
    let s1 := (s.chargeRun core f it since).setItem f it.id g
    { s1 with cas := { s1.cas with cores := listUpd s1.cas.cores core (fun _ => none) } }

/-- R209: RETRY puts the item back at its place in the flow, without what it had staged. -/
def execRetry (core : Fin 4) (s : State) : Result :=
  .next (s.endRun core.val (fun x => { x with st := .waiting, resumed := false, work := none })).schedule

/-- The items of a delay list whose due value its tick has reached, and those still ahead (R214). -/
def splitDue (l tick : Nat) (xs : List (Nat × Nat × Item)) : List (Nat × Nat × Item) × List (Nat × Nat × Item) :=
  (xs.filter (fun x => !dueAhead l x.1 tick), xs.filter (fun x => dueAhead l x.1 tick))

/-- A due item joins the tail of its flow; this moment counts as its arrival (R214). -/
def State.joinFlow (s : State) (f : Nat) (it : Item) : State :=
  s.append f { it with id := s.cas.nextId, born := s.time.mono, since := s.time.mono } false

/-- R214, R211: due items become ready in order and join the tails of their flows. -/
def execDelayDue (list : Fin 4) (s : State) : Result :=
  let p := splitDue list.val (s.listTick list.val) (tblGet [] s.cas.delay list.val)
  .next (p.1.foldl (fun (t : State) x => t.joinFlow x.2.1 x.2.2)
    ({ s with cas := { s.cas with delay := tblPut s.cas.delay list.val p.2 } } : State)).schedule

/-- R220: a running item past its account's overrun limit is pre-empted, counted, and BUDGET_OVERRUN is raised. -/
def execBudgetOverrun (core : Fin 4) (s : State) : Result :=
  .next (match s.onCore core.val with
    | none => s
    | some (f, it, _) =>
      let a := s.itemAcct f it
      let s1 := s.preempt core.val
      (({ s1 with
        cas := { s1.cas with
          accts := tblUpd {} s1.cas.accts a (fun x => { x with overruns := x.overruns + 1 })
          overrunNow := true } }).raise 0x0E0 a).schedule)

/-- R219: an account whose balance for a resource reaches zero has exhausted its share; it stops using the resource, or borrows
as its next charge draws from RESERVE. -/
def execAccountExhausted (a : Fin 16) (res : Fin 4) (s : State) : Result :=
  .next (if 0 < s.balance a.val res.val then s
    else { s with cas := { s.cas with accts := tblUpd {} s.cas.accts a.val (fun x => { x with exhausted := true }) } })

/-- The grain in which tokens are counted (R224, log entry 68). -/
def tokenUnit : Nat := 2 ^ 40

/-- What has flowed back to a source since the refill mark (R224). -/
def State.refilled (s : State) (src : Nat) : Nat := tblGet 0 s.cas.rates src * ticksNs (s.time.mono - s.cas.refillAt)

/-- What a source's bucket lacks now (R224). -/
def State.tokensMissing (s : State) (src : Nat) : Nat := tblGet 0 s.cas.spent src - s.refilled src

/-- Admission shaping at step 1 of acceptance (R224): S at or below L admits freely; above it a credit, then a token of
the source, is spent; otherwise the frame is refused, as is one for which no descriptor is left to reserve (R216, log entry
61). -/
def State.admitInput (s : State) (src : Nat) : Bool × State :=
  let l := s.cfgN 0x902001 * 1000
  let c1 := s.noteSojourn.cas
  if s.sojourn ≤ l ∧ s.poolTaken < 49152 then (true, { s with cas := c1 })
  else if 0 < c1.credit ∧ s.poolTaken < 49152 then (true, { s with cas := { c1 with credit := c1.credit - 1 } })
  else
    let act := if c1.active.contains src then c1.active else src :: c1.active
    if s.tokensMissing src + tokenUnit ≤ s.cfgN 0x902003 * tokenUnit ∧ s.poolTaken < 49152 then
      (true, { s with
        cas := { c1 with spent := tblPut c1.spent src (s.tokensMissing src + s.refilled src + tokenUnit), active := act } })
    else
      (false, { s with
        cas := { c1 with
          active := act
          refusedNow := c1.refusedNow + 1
          shaping := c1.shaping + 1
          overload := true
          firstPeriod := c1.firstPeriod || decide (100 ≤ c1.sinceRefusal)
          sinceRefusal := if 100 ≤ c1.sinceRefusal then 100 else c1.sinceRefusal
          refusals := tblUpd 0 c1.refusals src (· + 1) } })

/-- Capacity of a resource over a period (R218): core and crypto ns, context transfers (none in Station profile), NAND
units for the fitted targets. -/
def State.capacity (s : State) (len res : Nat) : Nat :=
  if res = 0 then 4 * len
  else if res = 1 then 2 * len
  else if res = 2 then (if s.pwr.headEnd then Config.ctxPeak * 4 / 5 * len / 1000000000 else 0)
  else 20000 * s.arch.fitted.length * len / 1000000000

/-- Share of an account of a resource in 1/1,024 (R218, R229); RESERVE holds the remainder. -/
def State.share (s : State) (a res : Nat) : Nat :=
  if a = 0 then 1024 - (List.range 15).foldl (fun n i => n + s.cfgN ((0x9101 + i) * 256 + res + 1)) 0
  else s.cfgN ((0x9100 + a) * 256 + res + 1)

/-- An account at a boundary (R218 to R220): balance set to its share less the debt carried, windows and counts updated. -/
def State.renewAcct (s : State) (len a : Nat) : Acct :=
  let x := s.acct a
  { x with
    bal := (List.range 4).map (fun r => (s.share a r * s.capacity len r / 1024 : Nat) + min (x.bal.getD r 0) 0)
    window := if a = 0 then none
      else if x.borrowed then some (s.window a - 1)
      else if x.exhausted then some (s.window a)
      else some (min (s.window a + 1) (s.cfgN ((0x9100 + a) * 256 + 6)))
    periodsExh := if x.exhausted then x.periodsExh + 1 else x.periodsExh
    periodsBor := if x.borrowed then x.periodsBor + 1 else x.periodsBor
    borrowed := false
    exhausted := false }

/-- Refill rates after a period of some ns (R224): 15/16 of its release rate, shared by weight among the sources that refused or
spent a token in it. -/
def State.refillRates (s : State) (ns : Nat) : Tbl Nat :=
  let total := s.cas.active.foldl (fun n x => n + s.cfgN (0x902100 + x)) 0
  s.cas.active.foldl (fun t x =>
    tblPut t x (s.cas.released * 15 * s.cfgN (0x902100 + x) * tokenUnit / (16 * max total 1 * max ns 1))) []

/-- Running items are charged up to the boundary, so that their use falls in the period it was made in (R219). -/
def State.chargeRunning (s : State) : State :=
  (List.range 4).foldl (fun t c =>
    match t.onCore c with
    | none => t
    | some (f, it, since) => (t.chargeRun c f it since).setItem f it.id (fun x => { x with st := .running c t.time.mono })) s

/-- Mains crossings are the boundaries (R217, R229). -/
def State.mainsPeriods (s : State) : Bool := decide (s.time.tracker = .locked ∨ s.time.tracker = .holdover)

/-- The instant of the boundary that has come since the running period began (R217): the newest crossing, real or predicted,
that lies at least 7.5 ms after its start, or in fallback 20 ms after its start; none where the period runs on. -/
def State.boundaryDue (s : State) : Option Nat :=
  if s.mainsPeriods then s.time.lastStamp.filter (fun t => decide (s.cas.periodStart + 7500000 ≤ t))
  else if s.cas.periodStart + 20000000 ≤ s.time.net then some (s.cas.periodStart + 20000000)
  else none

/-- The newest periods that together make up one second (R227). -/
def lastSecond : List (List Nat × Nat) → Nat → List (List Nat × Nat)
  | [], _ => []
  | x :: xs, len => if 1000000000 ≤ len then [] else x :: lastSecond xs (len + x.2)

/-- Sluice and the admission counters at a period boundary at an instant (R217 to R220, R224, R226). -/
def State.sluiceBoundary (s0 : State) (start : Nat) : State :=
  let s := s0.chargeRunning.noteSojourn
  let len := if s.mainsPeriods then s.time.period else 20000000
  let old := max (start - s.cas.periodStart) 1
  let c := s.cas
  let calm := c.refusedNow = 0
  let since := if calm then min (c.sinceRefusal + 1) 100 else 0
  let loads := c.busy.map (fun b => min 1000 (b * 1000 / old))
  let s1 : State := { s with
    cas := { c with
      accts := (List.range 16).map (fun a => (a, s.renewAcct len a))
      mains := s.mainsPeriods
      periodLen := len
      periods := c.periods + 1
      ticks := c.ticks + 1
      periodStart := start
      begun := true
      overrunHist := (c.overrunNow :: c.overrunHist).take 64
      overrunNow := false
      spent := c.spent.map (fun p => (p.1, s.tokensMissing p.1))
      rates := s.refillRates old
      refillAt := s.time.mono
      active := []
      credit := if calm ∧ c.highS = false then min (s.cfgN 0x902002) (c.credit + c.released) else min (s.cfgN 0x902002) c.credit
      released := 0
      refusedNow := 0
      highS := false
      firstPeriod := false
      sinceRefusal := since
      overload := c.overload && decide (since < 100)
      load := loads
      loadHist := lastSecond ((loads, old) :: c.loadHist) 0
      busy := [0, 0, 0, 0] } }
  if c.firstPeriod then s1.raise 0x0E1 c.refusedNow else s1

/-- The first period starts when the memory island is released, in fallback (R217): the accounts hold their shares. -/
def State.startPeriods (s : State) : State :=
  { s with
    cas := { s.cas with
      accts := (List.range 16).map (fun a => (a, s.renewAcct 20000000 a))
      mains := false, periodLen := 20000000, periodStart := s.time.net, begun := true } }

end Sys2Proof.Machine
end

