-- ==== Sys2Proof/Machine/Keys.lean ====
section
/-! DEFINITION. The key register: attribute words, handles and their checks (R117 to R119), orphans and zeroization (R121),
key derivation inputs (R113, R120), and the fuses' counters (R131). -/

namespace Sys2Proof.Machine

/-- Attribute fields (R118). -/
def KeySlot.valid (k : KeySlot) : Bool := k.attr.getLsbD 31
def KeySlot.usage (k : KeySlot) : Nat := k.attr.toNat / 2 ^ 27 % 16
def KeySlot.depth (k : KeySlot) : Nat := k.attr.toNat / 2 ^ 24 % 8
def KeySlot.parent (k : KeySlot) : Nat := k.attr.toNat / 2 ^ 9 % 2 ^ 15
def KeySlot.gen (k : KeySlot) : Nat := k.attr.toNat / 2 ^ 6 % 8
def KeySlot.pgen (k : KeySlot) : Nat := k.attr.toNat / 8 % 8
def KeySlot.lifetime (k : KeySlot) : Nat := k.attr.toNat / 2 % 4
def KeySlot.pinned (k : KeySlot) : Bool := k.attr.getLsbD 0

/-- The attribute word of a valid slot (R118). -/
def mkAttr (usage depth parent gen pgen life : Nat) (pinned : Bool) : U32 :=
  BitVec.ofNat 32 (2 ^ 31 + usage * 2 ^ 27 + depth * 2 ^ 24 + parent * 2 ^ 9 + gen * 2 ^ 6 + pgen * 8 + life * 2 + bit pinned)

/-- The parent code of a key derived from the root (R118). -/
def rootParent : Nat := 0x7FFF

/-- An orphan: its parent is not VALID, its PGEN differs from the parent's GEN, or an ancestor is an orphan (R118); the walk
takes at most six steps (R119). -/
def State.orphan (s : State) : Nat → Nat → Bool
  | 0, _ => false
  | fuel + 1, n =>
    let k := s.slot n
    if k.parent = rootParent then false
    else !(s.slot k.parent).valid || k.pgen != (s.slot k.parent).gen || s.orphan fuel k.parent

/-- A key whose sealed copy is kept in MRAM (R117): a system slot that is not re-derived, whose lifetime does not end with a
reset or a use (log entry 11). -/
def sealable (n : Nat) (k : KeySlot) : Bool :=
  k.valid && (n == 2 || n == 5 || (decide (8 ≤ n) && decide (n ≤ 4095))) && (k.lifetime == 0 || k.lifetime == 3)

/-- Set a slot, with its sealed copy written or overwritten (R117, R121). -/
def State.setSlot (s : State) (n : Nat) (k : KeySlot) : State :=
  { s with trust := { s.trust with
      slots := tblPut s.trust.slots n k
      sealedCopies := if sealable n k then tblPut s.trust.sealedCopies n k else tblDel s.trust.sealedCopies n } }

/-- A zeroized slot keeps only its incremented GEN (R118, R121). -/
def KeySlot.zeroized (k : KeySlot) : KeySlot := { attr := BitVec.ofNat 32 ((k.gen + 1) % 8 * 64), key := [] }

/-- Zeroize a slot; a meter slot is no longer in the cache's use order (R121, R125). -/
def State.zeroize (s : State) (n : Nat) : State := s.setSlot n (s.slot n).zeroized

/-- Increment a slot's GEN and keep its key bits (R121). -/
def KeySlot.bumped (k : KeySlot) : KeySlot :=
  { k with attr := BitVec.ofNat 32 (k.attr.toNat - k.gen * 64 + (k.gen + 1) % 8 * 64) }

/-- Slots that hold a key. -/
def State.validSlots (s : State) : List Nat := (s.trust.slots.filter (fun p => p.2.valid)).map (·.1)

/-- Orphaned slots (R118). -/
def State.orphans (s : State) : List Nat := s.validSlots.filter (fun n => s.orphan 7 n)

/-- What KEY_USE and the commands fail with (R119). -/
inductive KeyErr where
  | denied | empty | stale | usage | orphan
deriving DecidableEq, Repr

/-- A USAGE code permits an operation (R118); a DLMS suite key runs AES-GCM (R199, log entry 57). -/
def usagePermits (u : Nat) : KeyOp → Bool
  | .ccm => u == 1 | .gcm => u == 1 || u == 2 | .cmac => u == 1 || u == 10 | .dlms => u == 2 | .wrap => u == 3
  | .storage => u == 4 | .derive => u == 5 | .ecdsa => u == 6 | .ed25519 => u == 7 | .ecdh => u == 8
  | .hmac => u == 9 || u == 10 | .dtls => u == 11 | .campaign => u == 12

/-- Slot number and GEN of a handle (R119). -/
def handleSlot (h : Nat) : Nat := h % 2 ^ 15
def handleGen (h : Nat) : Nat := h / 2 ^ 15 % 8

/-- The handle of a slot as it stands (R119). -/
def State.handleFor (s : State) (n : Nat) : Nat := (s.slot n).gen * 2 ^ 15 + n

/-- The checks of R119 on each use of a handle, in order; `trusted` when the Grotto runs the operation, for which slot 0
alone is refused (R120). -/
def State.keyCheck (s : State) (h : Nat) (op : KeyOp) (trusted : Bool) : Except KeyErr Nat :=
  let n := handleSlot h
  let k := s.slot n
  if (if trusted then n = 0 else n < 16) then .error .denied
  else if 20479 < n ∨ 2 ^ 18 ≤ h then .error .denied
  else if !k.valid then .error .empty
  else if handleGen h ≠ k.gen then .error .stale
  else if !usagePermits k.usage op then .error .usage
  else if s.orphan 7 n then .error .orphan
  else .ok n

/-- A slot with LIFETIME 2 is zeroized once its first operation completes (R119). -/
def State.usedSlot (s : State) (n : Nat) : State := if (s.slot n).lifetime = 2 then s.zeroize n else s

/-- ASCII text as bytes. -/
def ascii (t : String) : Bytes := t.toList.map (fun c => BitVec.ofNat 8 c.toNat)

/-- Fixed input of a derivation from the root or slot 1 (R113). -/
def State.rootInput (s : State) (label : String) : Bytes := ascii label ++ [0] ++ s.serialBytes

/-- The root as bytes, most significant first. -/
def State.rootBytes (s : State) : Bytes := beBytes 32 s.trust.root.toNat

/-- The wrap epoch of the key that a change of fleet wrap key puts in slot 5 (R124, R127). -/
def State.nextEpoch (s : State) : Nat := (s.trust.fleetEpoch + 1) % 65536

/-- Slots 0, 1, 3 and 4 derived (R113, R117), where the life cycle lets them be; their GEN is kept. That all four hold their
keys in BLANK once ROOT_LOCK is blown, and 0xA002 and 0xA005 show them, is the model's choice among R113, R120 and R132 (log
entry 72). -/
def State.deriveRoots (s : State) : State :=
  if s.trust.lc = .retired ∨ (s.trust.lc = .blank ∧ s.trust.rootLock = false) then s
  else
    let g := fun n => (s.slot n).gen
    let s0 := s.setSlot 0 ⟨mkAttr 6 1 rootParent (g 0) 0 0 false, Config.scalar (Config.kdf384 s.rootBytes (s.rootInput "AN7128 ID") 448)⟩
    let st := Config.kdf384 s.rootBytes (s.rootInput "AN7128 ST") 256
    let s1 := s0.setSlot 1 ⟨mkAttr 4 1 rootParent (g 1) 0 0 false, st⟩
    let s3 := s1.setSlot 3 ⟨mkAttr 8 1 rootParent (g 3) 0 0 false, Config.scalar (Config.kdf384 s.rootBytes (s.rootInput "AN7128 PV") 448)⟩
    s3.setSlot 4 ⟨mkAttr 6 2 1 (g 4) (g 1) 0 false, Config.scalar (Config.kdf384 st (s.rootInput "AN7128 TLS") 448)⟩

/-- The initial value of a wrapped key: A6 four times, then a number most significant first (R120, R124). -/
def wrapIv (n : Nat) : Bytes := [0xA6, 0xA6, 0xA6, 0xA6] ++ beBytes 4 n

/-- The initial value RFC 3394 gives when none is stated. -/
def plainIv : Bytes := List.replicate 8 0xA6

/-- A thermometer counter: its highest blown bit plus one (R131). -/
def svnValue {w : Nat} (f : BitVec w) : Nat := if f = 0 then 0 else Nat.log2 f.toNat + 1

/-- A counter with a gap in its blown bits (R131). -/
def svnGap {w : Nat} (f : BitVec w) : Bool := f.toNat + 1 != 2 ^ svnValue f

/-- RWS values in force that differ from their default, as the digest takes them: index, instance, subindex, item bytes
(R355). -/
def State.digestItems (s : State) : List ((Nat × Nat × Nat) × Bytes) :=
  s.dict.vals.filterMap (fun p =>
    let num := p.1 / 2 ^ 64
    let i := p.1 % 2 ^ 64
    match findRow num with
    | none => none
    | some o =>
      if o.acc = .rws then
        some ((num / 256, i, num % 256),
          leBytes 2 (num / 256) ++ [BitVec.ofNat 8 num] ++ (match o.inst with | .one => [] | _ => leBytes 4 i) ++ p.2)
      else none)

/-- Order of the items: index, then instance, then subindex (R355). -/
def digestBefore (a b : Nat × Nat × Nat) : Bool :=
  decide (a.1 < b.1) || (a.1 == b.1 && (decide (a.2.1 < b.2.1) || (a.2.1 == b.2.1 && decide (a.2.2 < b.2.2))))

/-- One item put in its place. -/
def digestInsert (x : (Nat × Nat × Nat) × Bytes) : List ((Nat × Nat × Nat) × Bytes) → List ((Nat × Nat × Nat) × Bytes)
  | [] => [x]
  | y :: ys => if digestBefore x.1 y.1 then x :: y :: ys else y :: digestInsert x ys

/-- The configuration digest 0x1070:00 (R355). -/
def State.configDigest (s : State) : Bytes :=
  Config.sha256 ((s.digestItems.foldr digestInsert []).flatMap (·.2))

end Sys2Proof.Machine
end

