-- ==== Sys2Proof/Machine/Trust.lean ====
section
/-! DEFINITION. The trusted island's commands (04_trust_keys): life cycle and fuses, imports, derivations, invalidations
and destructions with their sweep, the fleet wrap key, uses of a key, vendor tokens, attestation and the peer table. -/

namespace Sys2Proof.Machine

/-- A code as four letters and a target (R114, R116). -/
def lcMagic : Nat := 0x4C435400

/-- The meter whose key a slot holds (R125). -/
def State.meterOfSlot (s : State) (n : Nat) : Option Nat := (s.trust.meterSlot.find? (fun p => p.2 == n)).map (·.1)

/-- A meter whose slot was zeroized by a sweep or a destruction is keyless until a new key is imported (R121). -/
def State.noteKeyless (s : State) (n : Nat) : State :=
  match s.meterOfSlot n with
  | none => s
  | some h => { s with trust := { s.trust with keyless := h :: s.trust.keyless.erase h, lru := s.trust.lru.erase h } }

/-- Destroy every slot a predicate names: zeroized, counted (R115). -/
def State.destroyWhere (s : State) (p : Nat → KeySlot → Bool) : Nat × State :=
  s.validSlots.foldl (fun acc n =>
    if p n (acc.2.slot n) then (acc.1 + 1, (acc.2.noteKeyless n).zeroize n) else acc) (0, s)

/-- The key destructions that a life-cycle state calls for when it is entered (R115). -/
def State.lifeDestroy (s : State) (target : LifeCycle) : Nat × State :=
  match target with
  | .retired =>
    let d := s.destroyWhere (fun _ _ => true)
    -- R114: wrapped meter key records are overwritten with zeros
    (d.1, { d.2 with trust := { d.2.trust with rewrap := none, meters := d.2.trust.meters.map (fun p => (p.1, List.replicate 64 0)) } })
  | .fielded => s.destroyWhere (fun _ k => k.lifetime == 3 || (s.pwr.ocb && k.usage == 10))
  | _ => s.destroyWhere (fun _ k => k.lifetime == 3)

/-- Start an orphan sweep, or join the one in progress (R121). -/
def State.startSweep (s : State) (slots : List Nat) (zeroized : Nat) (who : List (Nat × Req)) : State :=
  match s.trust.sweep with
  | none => { s with trust := { s.trust with sweep := some ⟨slots, zeroized, who⟩ } }
  | some w =>
    { s with trust := { s.trust with sweep := some ⟨w.slots ++ slots, w.zeroized + zeroized, w.who ++ who⟩ } }

/-- LC fuses of a state (R111). -/
def LifeCycle.fuse : LifeCycle → BitVec 3
  | .blank => 0 | .provisioned => 1 | .fielded => 3 | .retired => 7

/-- Target of a transition's argument (R114). -/
def lcTarget (arg : Nat) : Option LifeCycle :=
  if arg = lcMagic + 1 then some .provisioned else if arg = lcMagic + 2 then some .fielded
  else if arg = lcMagic + 3 then some .retired else none

/-- Preconditions of a transition (R114); none where the transition is not listed. -/
def State.lcPre (s : State) (target : LifeCycle) : Option Bool :=
  match s.trust.lc, target with
  | .blank, .provisioned => some (s.trust.rootLock && s.trust.serial != 0 && s.trust.vkh0 != 0)
  | .provisioned, .fielded => some ((s.slot 2).valid && (s.slot 11).valid && s.cfgOct 0xA00300 != [])
  | .blank, .retired => some true
  | .provisioned, .retired => some true
  | .fielded, .retired => some true
  | _, _ => none

/-- Whether the requester's role may make the transition (R114). -/
def State.lcRole (s : State) (r : Req) (target : LifeCycle) : Bool :=
  let vendor := decide ((s.sess r.sess).role = .vendor)
  match s.trust.lc, target with
  | .provisioned, .fielded => true
  | .fielded, _ => true
  | _, _ => vendor

/-- Commissioning records the profile and the capacity run with (R30); the spec names no moment: DEDUCED, entering FIELDED. -/
def State.commissioned (s : State) : State :=
  { s with pwr := { s.pwr with recHeadEnd := some s.pwr.headEnd, recCapacity := s.capacityMeters } }

/-- The body of 0xA010:01 (R112, R114, R115): `stuck` marks LC fuse bits 2 to 0 and, as bit 3, DBG_OFF that fail to read
back blown. A pattern that spells another state than before, though not the one asked for, has its destructions at once: the
fuse state requires them (R115; log entry 73). -/
def lifeCycleBody (r : Req) (arg : Bytes) (stuck : BitVec 4) (_i : Nat) (s : State) : CmdOut :=
  match lcTarget (leNat arg) with
  | none => .refuse .valueInvalid s
  | some t =>
    match s.lcPre t with
    | none => .refuse .valueInvalid s
    | some ok =>
      if !ok then .refuse .lifeCycle s
      else if !s.lcRole r t then .refuse .accessDenied s
      else
        let blown := t.fuse &&& ~~~(stuck.setWidth 3)
        let s1 := { s with trust := { s.trust with lcFuse := s.trust.lcFuse ||| blown } }
        if s1.trust.lcFuse ≠ t.fuse then
          let s2 := s1.raise 0x200 0
          if s1.trust.lc = s.trust.lc then .failed .cannotStore s2
          else
            let d := s2.lifeDestroy s1.trust.lc
            .failed .cannotStore (d.2.startSweep [] d.1 [])
        else
          let wantDbg := t != .provisioned && !s.trust.dbgOff
          let s2 := { s1 with trust := { s1.trust with dbgOff := s1.trust.dbgOff || (wantDbg && !stuck.getLsbD 3) } }
          let s3 := if t = .provisioned then s2.deriveRoots else if t = .fielded then s2.commissioned else s2
          let d := s3.lifeDestroy t
          let s4 := d.2.startSweep [] d.1 [(0xA01001, r)]
          if wantDbg ∧ stuck.getLsbD 3 = true then .failed .cannotStore ((d.2.startSweep [] d.1 []).raise 0x200 3)
          else .running s4

/-- R114, R115: command 0xA010:01. -/
def State.lifeCycleCmd (s : State) (r : Req) (arg : Bytes) (stuck : BitVec 4) : State :=
  s.command r 0xA01001 arg (lifeCycleBody r arg stuck)

def execLifeCycleTransition (r : Req) (arg : Bytes) (stuck : BitVec 4) (s : State) : Result :=
  .next (s.lifeCycleCmd r arg stuck)

/-- The life cycle refuses a request for an object, for every role and before its argument is looked at (R116, R120). -/
def State.lifeBars (s : State) (r : Req) (num : Nat) (lifeOk : Bool) : Bool :=
  s.dict.available && !lifeOk && decide (r.sess.tr ≠ .internal) && s.reaches r (num / 256) && decide (r.sess.tr ≠ .sdo)

/-- A key command (R120), aborted in BLANK for every role. -/
def State.keyCmd (s : State) (r : Req) (num : Nat) (arg : Bytes) (body : Nat → State → CmdOut) : State :=
  if s.lifeBars r num (s.trust.lc != .blank) then s.respond r (.abort .lifeCycle)
  else s.command r num arg (fun i s => if s.trust.lc = .blank then .refuse .lifeCycle s else body i s)

/-- R116: a fuse command: states in which it is permitted and the role, checked in that order; then its argument. -/
def State.fuseCmd (s : State) (r : Req) (num : Nat) (arg : Bytes) (lifeOk : Bool) (roleOk : Bool) (magic : Nat)
    (body : State → CmdOut) : State :=
  if s.lifeBars r num lifeOk then s.respond r (.abort .lifeCycle)
  else
    s.command r num arg (fun _ s =>
      if !roleOk then .refuse .accessDenied s
      else if leNat arg ≠ magic then .refuse .valueInvalid s
      else body s)

/-- R116: command 0xA011:00; `readsBack` is whether the fuse reads back blown (R112). -/
def State.closeDebugCmd (s : State) (r : Req) (arg : Bytes) (readsBack : Bool) : State :=
  let lc := s.trust.lc
  let c := s.roleOf r
  s.fuseCmd r 0xA01100 arg (lc = .provisioned || (lc = .blank && decide (c = 5)))
    (if lc = .blank then decide (c = 5) else decide (4 ≤ c)) 0x4442474F
    (fun s =>
      if readsBack then .done { s with trust := { s.trust with dbgOff := true } }
      else .failed .cannotStore (s.raise 0x200 3))

def execCloseDebugPort (r : Req) (arg : Bytes) (readsBack : Bool) (s : State) : Result :=
  .next (s.closeDebugCmd r arg readsBack)

/-- R116: command 0xA012:00 blows PERS_LOCK to the running personality. -/
def State.lockPersCmd (s : State) (r : Req) (arg : Bytes) (readsBack : Bool) : State :=
  let lc := s.trust.lc
  s.fuseCmd r 0xA01200 arg (lc = .provisioned || lc = .fielded) true 0x504C434B
    (fun s =>
      if readsBack then
        .done { s with trust := { s.trust with persLock := s.trust.persLock ||| (if s.pwr.ocb then 2 else 1) } }
      else .failed .cannotStore (s.raise 0x200 4))

def execLockPersonality (r : Req) (arg : Bytes) (readsBack : Bool) (s : State) : Result :=
  .next (s.lockPersCmd r arg readsBack)

/-- The key that unwraps a fleet wrap key (R120): ECDH with slot 3, then the KDF of R113. -/
def State.fleetKek (s : State) (peer : Bytes) : Bytes :=
  Config.kdf384 (Config.ecdh (s.slot 3).key peer) (s.rootInput "AN7128 FW") 256

/-- The fleet wrap key an argument carries, unwrapped (R120). -/
def State.fleetKey (s : State) (arg : Bytes) : Option Bytes :=
  Config.unwrap (s.fleetKek (slice arg 0 97)) plainIv (slice arg 97 40)

/-- R120: command 0xA050:00. -/
def State.importFleetCmd (s : State) (r : Req) (arg : Bytes) : State :=
  s.keyCmd r 0xA05000 arg (fun _ s =>
    if (s.slot 2).valid then .refuse .valueInvalid s
    else match s.fleetKey arg with
    | none => .failed .valueInvalid (s.raise 0x201 2)
    | some k => .done (s.setSlot 2 ⟨mkAttr 3 2 3 (s.slot 2).gen (s.slot 3).gen 0 false, k⟩))

def execImportFleetWrapKey (r : Req) (arg : Bytes) (s : State) : Result := .next (s.importFleetCmd r arg)

/-- The fields both key commands check (R120): target slot, usage and lifetime. -/
def targetOk (target usage life : Nat) : Bool :=
  ((decide (16 ≤ target) && decide (target ≤ 4095)) || (decide (8 ≤ target) && decide (target ≤ 11) && usage == 9)) &&
  decide (1 ≤ usage) && decide (usage ≤ 12) && decide (life ≤ 3)

/-- A key put into a system slot below its parent (R118, R120), the parent used once more (R119). -/
def State.placeKey (s : State) (parent target usage life : Nat) (key : Bytes) : State :=
  (s.setSlot target
    ⟨mkAttr usage ((s.slot parent).depth + 1) parent (s.slot target).gen (s.slot parent).gen life false, key⟩).usedSlot parent

/-- R120: command 0xA051:00. -/
def State.importKeyCmd (s : State) (r : Req) (arg : Bytes) : State :=
  s.keyCmd r 0xA05100 arg (fun _ s =>
    let target := fieldAt arg 4 2
    let usage := fieldAt arg 6 1
    let life := fieldAt arg 7 1
    match s.keyCheck (fieldAt arg 0 4) .wrap true with
    | .error _ => .refuse .valueInvalid s
    | .ok p =>
      if !targetOk target usage life || (s.slot target).valid || decide (6 < (s.slot p).depth + 1) then .refuse .valueInvalid s
      else match Config.unwrap (s.slot p).key ([0xA6, 0xA6, 0xA6, 0xA6] ++ beBytes 4 (0x80000000 + target)) (slice arg 8 40) with
      | none => .failed .valueInvalid (s.raise 0x201 target)
      | some k => .done ((s.placeKey p target usage life k).mirror .keyOperation 0xA05100 arg))

def execImportKey (r : Req) (arg : Bytes) (s : State) : Result := .next (s.importKeyCmd r arg)

/-- R120: command 0xA052:00; a label or a context of more than 32 bytes is of invalid length too (log entry 64). -/
def State.deriveKeyCmd (s : State) (r : Req) (arg : Bytes) : State :=
  s.keyCmd r 0xA05200 arg (fun _ s =>
    let target := fieldAt arg 4 2
    let usage := fieldAt arg 6 1
    let life := fieldAt arg 7 1
    let l := fieldAt arg 8 1
    let c := fieldAt arg 9 1
    if l = 0 ∨ 32 < l ∨ 32 < c ∨ arg.length ≠ 10 + l + c then .refuse .lengthInvalid s
    else match s.keyCheck (fieldAt arg 0 4) .derive true with
    | .error _ => .refuse .valueInvalid s
    | .ok p =>
      if !targetOk target usage life || (s.slot target).valid || decide (6 < (s.slot p).depth + 1) then .refuse .valueInvalid s
      else
        let input := slice arg 10 l ++ [0] ++ slice arg (10 + l) c ++ beBytes 2 target ++ beBytes 1 usage
        .done ((s.placeKey p target usage life (Config.kdf256 (s.slot p).key input)).mirror .keyOperation 0xA05200 arg))

def execDeriveKey (r : Req) (arg : Bytes) (s : State) : Result := .next (s.deriveKeyCmd r arg)

/-- What refuses a handle named for invalidation or destruction (R121); of a slot both empty and swept, its being empty comes
first (log entry 64). -/
def State.killRefuses (s : State) (h : Nat) : Option Abort :=
  let n := handleSlot h
  if 2 ^ 18 ≤ h ∨ 20479 < n then some .valueInvalid
  else if n = 0 ∨ n = 1 ∨ n = 3 then some .accessDenied
  else if n = 2 ∨ !(s.slot n).valid ∨ handleGen h ≠ (s.slot n).gen then some .valueInvalid
  else match s.trust.sweep with
  | none => none
  | some w => if w.slots.contains n then some .deviceBusy else none

/-- R121: command 0xA053:00: GEN goes up, the key bits stay, and the sweep starts; success follows its end (R122). -/
def State.invalidateCmd (s : State) (r : Req) (arg : Bytes) : State :=
  s.command r 0xA05300 arg (fun _ s =>
    match s.killRefuses (leNat arg) with
    | some a => .refuse a s
    | none =>
      let n := handleSlot (leNat arg)
      .running (((s.setSlot n (s.slot n).bumped).startSweep [n] 0 [(0xA05300, r)]).mirror .keyOperation 0xA05300 arg))

def execInvalidate (r : Req) (arg : Bytes) (s : State) : Result := .next (s.invalidateCmd r arg)

/-- R121: command 0xA054:00: the slot is zeroized and the sweep starts. -/
def State.destroyCmd (s : State) (r : Req) (arg : Bytes) : State :=
  s.command r 0xA05400 arg (fun _ s =>
    match s.killRefuses (leNat arg) with
    | some a => .refuse a s
    | none =>
      let n := handleSlot (leNat arg)
      .running ((((s.noteKeyless n).zeroize n).startSweep [n] 0 [(0xA05400, r)]).mirror .keyOperation 0xA05400 arg))

def execDestroy (r : Req) (arg : Bytes) (s : State) : Result := .next (s.destroyCmd r arg)

/-- Every orphan zeroized, with the number of them (R121). An orphan's children are orphans too, so one pass over the set
reaches every depth. -/
def State.sweepOrphans (s : State) : Nat × State :=
  let l := s.orphans
  (l.length, l.foldl (fun t n => (t.noteKeyless n).zeroize n) s)

/-- R121, R122: the sweep and the overwrites have ended: KEY_SWEEP, and the commands it served answer. -/
def execOrphanSweepEnd (s : State) : Result :=
  .next (match s.trust.sweep with
    | none => s
    | some w =>
      let d := s.sweepOrphans
      let s1 := ({ d.2 with trust := { d.2.trust with sweep := none } }).raise 0x202 ((w.zeroized + d.1 : Nat) : Int)
      w.who.foldl (fun t x => t.endCommand x.1 0 (some x.2) none) s1)

/-- R127: command 0xA056:00: the new key goes into slot 5, and the command answers; the rewrap runs on. It is accepted while
slot 2 is empty, and again after a reset that interrupted a run (log entry 64). -/
def State.changeFleetCmd (s : State) (r : Req) (arg : Bytes) : State :=
  s.keyCmd r 0xA05600 arg (fun _ s =>
    match s.fleetKey arg with
    | none => .failed .valueInvalid (s.raise 0x201 5)
    | some k =>
      let s1 := s.setSlot 5 ⟨mkAttr 3 2 3 (s.slot 5).gen (s.slot 3).gen 0 false, k⟩
      .started (({ s1 with trust := { s1.trust with rewrap := some none } }).mirror .keyOperation 0xA05600 arg))

def execChangeFleetWrapKey (r : Req) (arg : Bytes) (s : State) : Result := .next (s.changeFleetCmd r arg)

/-- A meter key record rewrapped from slot 2 to slot 5, its epoch one higher (R124, R127). A record that does not unwrap
keeps its wrapped bytes. -/
def rewrapRecord (old new : Bytes) (handle : Nat) (rec : Bytes) : Bytes :=
  let w := match Config.unwrap old (wrapIv handle) (slice rec 0 40) with
    | none => slice rec 0 40
    | some k => (Config.wrap new (wrapIv handle) k).take 40
  w ++ slice rec 40 10 ++ leBytes 2 (fieldAt rec 50 2 + 1) ++ rec.drop 52

/-- The old wrap key's other children: imported keys, destroyed with it (R127). Meter slots load again from their
rewrapped records. -/
def State.dropOldFleet (s : State) : State :=
  let l := s.orphans
  l.foldl (fun t n => t.zeroize n) s

/-- The next records of a fleet wrap key change rewrapped, up to a number of them, in handle order (R127); one written under
the new key meanwhile stays as it is. -/
def State.rewrapSome (s : State) (n : Nat) : State :=
  match s.trust.rewrap with
  | none => s
  | some done =>
    let todo := (s.trust.meters.filter (fun p => match done with | none => true | some d => decide (d < p.1))).take n
    match todo.getLast? with
    | none => s
    | some last =>
      { s with trust := { s.trust with
          meters := s.trust.meters.map (fun p =>
            if todo.any (fun x => x.1 == p.1) && fieldAt p.2 50 2 != s.nextEpoch then (p.1, rewrapRecord (s.slot 2).key (s.slot 5).key p.1 p.2) else p)
          rewrap := some (some last.1) } }

/-- The change of fleet wrap key goes on through a period (R127): how many records it does is open (log entry 6); its lane
time is DICT's. -/
def State.rewrapRun (s : State) : State :=
  if s.trust.rewrap.isNone then s
  else
    let v := s.openVal 94
    (v.2.rewrapSome v.1.toNat).chargeOpen 95 9 1

/-- R127: the last record is done: slot 5 becomes slot 2 in one step, and the old key and its children go. -/
def execRewrapComplete (s : State) : Result :=
  .next (if s.trust.rewrap.isNone ∨ (s.slot 5).valid = false then s
    else
      let new := (s.slot 5).key
      let s0 := (s.rewrapSome s.trust.meters.length).chargeOpen 95 9 1
      let s1 := { s0 with trust := { s0.trust with rewrap := none, fleetEpoch := s0.nextEpoch } }
      let s2 := s1.setSlot 2 ⟨mkAttr 3 2 3 ((s.slot 2).gen + 1 |> (· % 8)) (s.slot 3).gen 0 false, new⟩
      let s3 := s2.zeroize 5
      s3.dropOldFleet.endCommand 0xA05600 0 none none)

/-- R129: a read of 0xA020:00 draws and returns the vendor challenge of the session. -/
def State.vendorChallengeRead (s : State) (r : Req) : State :=
  match s.readGuard r 0xA02000 with
  | .error a => s.respond r (.abort a)
  | .ok _ =>
    ((s.draw.2).setSess r.sess (fun x => { x with vendorChallenge := some s.draw.1 })).respond r
      (.ok (octets (drawBytes s.draw.1)))

def execVendorChallengeRead (r : Req) (s : State) : Result := .next (s.vendorChallengeRead r)

/-- The 128-byte token a session has written in three parts (R129). -/
def State.tokenOf (s : State) (i : SessId) : Bytes :=
  let part := fun k => ((tblFind? (s.sess i).vals (0xA02100 + k)).getD [0, 0]).drop 2
  part 1 ++ part 2 ++ part 3

/-- The public key's digest is that of a vendor key in force (R129). -/
def State.vendorKeyOk (s : State) (pub : Bytes) : Bool :=
  let d := Config.sha256 pub
  (s.trust.vkh0 != 0 && !s.trust.vk0Revoked && d == beBytes 32 s.trust.vkh0.toNat) ||
  (s.trust.vkh1 != 0 && d == beBytes 32 s.trust.vkh1.toNat)

/-- Every check of a vendor token (R49, R129); its reserved fields are ignored (R11). -/
def State.tokenOk (s : State) (i : SessId) : Bool :=
  let t := s.tokenOf i
  let limit := fieldAt t 56 4
  (i.tr == .mailbox || i.tr == .probe) && t.length == 128 && s.vendorKeyOk (slice t 0 32) && fieldAt t 32 2 == 1 &&
  fieldAt t 36 4 == s.trust.serial.toNat && fieldAt t 36 4 != 0 &&
  (s.sess i).vendorChallenge.map drawBytes == some (slice t 40 16) &&
  decide (1 ≤ limit) && decide (limit ≤ 86400) &&
  Config.ed25519 (slice t 0 32) (slice t 0 64) (slice t 64 64)

/-- R129: command 0xA021:04; every write draws a new challenge, so that a token is used at most once. -/
def State.verifyTokenCmd (s : State) (r : Req) (arg : Bytes) : State :=
  let t := s.command r 0xA02104 arg (fun _ s =>
    if s.tokenOk r.sess then
      .done (s.setSess r.sess (fun x => { x with role := .vendor, vendorLimit := fieldAt (s.tokenOf r.sess) 56 4 }))
    else .failed .accessDenied (s.raise 0x204 (((Transport.authCode r.sess.tr).getD 0 : Nat) : Int)))
  if s.dict.available then (t.draw.2).setSess r.sess (fun x => { x with vendorChallenge := none }) else t

def execVerifyVendorToken (r : Req) (arg : Bytes) (s : State) : Result := .next (s.verifyTokenCmd r arg)

/-- R129: the session limit has elapsed: a Vendor session returns to Observer. -/
def execVendorSessionExpiry (i : SessId) (s : State) : Result :=
  .next (if (s.sess i).role = .vendor then s.setSess i (fun x => { x with role := .observer, vendorLimit := 0 }) else s)

/-- A CBOR head: major type and number (R130). -/
def cborHead (major n : Nat) : Bytes :=
  if n < 24 then [BitVec.ofNat 8 (major * 32 + n)]
  else if n < 256 then [BitVec.ofNat 8 (major * 32 + 24), BitVec.ofNat 8 n]
  else if n < 65536 then BitVec.ofNat 8 (major * 32 + 25) :: beBytes 2 n
  else if n < 2 ^ 32 then BitVec.ofNat 8 (major * 32 + 26) :: beBytes 4 n
  else BitVec.ofNat 8 (major * 32 + 27) :: beBytes 8 n

/-- CBOR of an unsigned number, a byte string, a text (R130). -/
def cborN (n : Nat) : Bytes := cborHead 0 n
def cborB (b : Bytes) : Bytes := cborHead 2 b.length ++ b
def cborT (t : String) : Bytes := cborHead 3 (ascii t).length ++ ascii t

/-- The identity public key 0xA002:00, empty while slot 0 holds no key (R132). -/
def State.identityPub (s : State) : Bytes := if (s.slot 0).valid then Config.pubKey (s.slot 0).key else []

/-- Synchronisation state code (0x3110:09). -/
def Sync.code : Sync → Nat
  | .free => 0 | .acquiring => 1 | .locked => 2 | .holdover => 3

/-- The statement's payload (R130). -/
def State.attPayload (s : State) (nonce : Bytes) : Bytes :=
  cborHead 5 11 ++
  cborN 1 ++ cborN s.trust.serial.toNat ++
  cborN 2 ++ cborB (Config.sha256 s.identityPub) ++
  cborN 3 ++ cborN s.trust.lc.code ++
  cborN 4 ++ [if s.trust.dbgOff then 0xF5 else 0xF4] ++
  cborN 5 ++ cborB s.trust.measTfw ++
  cborN 6 ++ cborB s.trust.measAfw ++
  cborN 7 ++ cborB s.trust.measUcode ++
  cborN 8 ++ cborB s.configDigest ++
  cborN 9 ++ cborB nonce ++
  cborN 10 ++ cborHead 4 3 ++ cborN (svnValue s.trust.tfwSvn) ++ cborN (svnValue s.trust.afwSvn) ++ cborN (svnValue s.trust.ucodeSvn) ++
  cborN 11 ++ cborHead 4 3 ++ cborN (s.time.net / 1000000000) ++ cborN (s.time.net % 1000000000) ++ cborN s.time.sync.code

/-- The protected header: alg ES384 (R130). -/
def attProtected : Bytes := [0xA1, 0x01, 0x38, 0x22]

/-- The COSE_Sign1 statement (R130). -/
def State.attStatement (s : State) (nonce : Bytes) : Bytes :=
  let p := s.attPayload nonce
  let tbs := cborHead 4 4 ++ cborT "Signature1" ++ cborB attProtected ++ cborB [] ++ cborB p
  cborHead 4 4 ++ cborB attProtected ++ cborHead 5 1 ++ cborN 4 ++ cborB (Config.sha256 s.identityPub) ++ cborB p ++
    cborB (Config.es384 (s.slot 0).key tbs)

/-- R130: command 0xA030:01: a nonce starts a statement. -/
def State.attestCmd (s : State) (r : Req) (arg : Bytes) : State :=
  s.command r 0xA03001 arg (fun _ s => .started { s with trust := { s.trust with attNonce := some arg } })

def execAttestationRequest (r : Req) (arg : Bytes) (s : State) : Result := .next (s.attestCmd r arg)

/-- R130: the statement is readable. -/
def execAttestationDone (s : State) : Result :=
  .next (match s.trust.attNonce with
    | none => s
    | some n =>
      ({ s with trust := { s.trust with attNonce := none, statement := s.attStatement n } }).endCommand 0xA03001 0 none none)

/-- Another used entry of the peer table holds the digest (R128). -/
def State.peerHeld (s : State) (num : Nat) (v : Bytes) : Bool :=
  v.length != 2 && (List.range 32).any (fun i => 0xA04001 + i != num && s.stored (0xA04001 + i) 0 == v)

/-- R128: a write to 0xA040. -/
def State.peerWrite (s : State) (r : Req) (num : Nat) (v : Bytes) : State :=
  s.writeObj r num v (fun _ x => if s.peerHeld num x then some .valueInvalid else none)

def execPeerDigestWrite (r : Req) (entry : Fin 32) (v : Bytes) (s : State) : Result :=
  .next (s.peerWrite r (0xA04001 + entry.val) v)

/-- A clear token's nonce and MAC hold (R399): HMAC-SHA-256 under slot 11, where that may be used (R119, R122), over bytes 0-20
then SERIAL. -/
def State.clearTokenOk (s : State) (i : SessId) (arg : Bytes) : Bool :=
  (s.sess i).clearChallenge.map drawBytes == some (slice arg 5 16) &&
  (match s.keyCheck ((s.slot 11).gen * 2 ^ 15 + 11) .hmac true with
   | .error _ => false
   | .ok n => let k := (s.slot n).key; slice arg 21 32 == Config.hmac k (slice arg 0 21 ++ s.serialBytes))

/-- The Utility role key has computed a clear token's HMAC (R119, R399). -/
def State.clearKeyUsed (s : State) : State :=
  match s.keyCheck ((s.slot 11).gen * 2 ^ 15 + 11) .hmac true with
  | .error _ => s
  | .ok n => s.usedSlot n

/-- The body of 0xB120:02 (R399): nonce and MAC first, then range and scope, whose reserved bits
are ignored (R11), then the clear, EVENT_CLEAR and the flush. -/
def clearEventsBody (r : Req) (arg : Bytes) (_i : Nat) (s : State) : CmdOut :=
  let lo := fieldAt arg 0 2
  let hi := fieldAt arg 2 2
  let scope := fieldAt arg 4 1 % 4
  let ok := s.clearTokenOk r.sess arg
  let s := s.clearKeyUsed
  if !ok then .refuse .accessDenied (s.raise 0x001 4)
  else if lo = 0 ∨ hi = 0 ∨ 0x3FF < lo ∨ 0x3FF < hi ∨ hi < lo ∨ scope = 0 then .refuse .valueInvalid s
  else
    let s1 := { s with ev := s.ev.clear lo hi scope }
    let s2 := s1.raise 0x260 ((scope * 2 ^ 32 + lo * 2 ^ 16 + hi : Nat) : Int)
    .done { s2 with ev := s2.ev.flush }

/-- R399: command 0xB120:02. A new challenge is drawn after each write, whatever its outcome; a request refused because
the dictionary is not available changes nothing (R68). -/
def execClearEvents (r : Req) (arg : Bytes) (s : State) : Result :=
  .next (
    let t := s.command r 0xB12002 arg (clearEventsBody r arg)
    if s.dict.available then t.redrawClear r.sess else t)

end Sys2Proof.Machine
end

