-- ==== Sys2Proof/Machine/Accept.lean ====
section
/-! DEFINITION. Secure acceptance: where a meter's key and context are, the nine steps of R184, the journal (R189 to R192),
and decisions (R381). -/

namespace Sys2Proof.Machine

/-- TIME64 of an instant in ns (R44). -/
def time64 (ns : Nat) : Bytes := leBytes 8 (ns / 1000000000) ++ leBytes 4 (ns % 1000000000)

/-- The instant that a TIME64 names, in ns. -/
def ofTime64 (b : Bytes) : Nat := fieldAt b 0 8 * 1000000000 + fieldAt b 8 4

/-- The meter's record in the table (R124): key version, usage. -/
def State.keyRecord (s : State) (h : Nat) : Option Bytes := tblFind? s.trust.meters h
def State.keyVersionOf (s : State) (h : Nat) : Nat := ((s.keyRecord h).map (fieldAt · 44 4)).getD 0

/-- The device keeps remote meters (R30): in Head-end profile, or in a Station profile that stands in for a recorded Head-end. -/
def State.keepsRemote (s : State) : Bool := s.pwr.headEnd || s.pwr.recHeadEnd == some true

/-- A remote meter is served (R30): never in a Station profile that stands in for a recorded Head-end, and only the lowest
262,144 handles in use where the recorded capacity is the full one. -/
def State.remoteServed (s : State) (h : Nat) : Bool :=
  if !s.pwr.headEnd then s.pwr.recHeadEnd != some true
  else !(s.pwr.recCapacity == 1048575 && decide (s.pwr.ctxGib < 4)) ||
    decide ((s.trust.meters.filter (fun p => p.1 < h)).length < 262144)

/-- Slots that hold a meter's key, or are pinned to a partner (R125). -/
def State.slotsInUse (s : State) : List Nat :=
  (s.trust.meterSlot.filter (fun p => (s.slot p.2).valid || s.trust.pins.contains p.1)).map (·.2)

/-- The lowest meter slot that no meter occupies (R117, R125). -/
def State.freeSlot (s : State) : Option Nat :=
  ((List.range (s.trust.meterSlot.length + 1)).map (· + 4096)).find? (fun n => n ≤ 20479 && !s.slotsInUse.contains n)

/-- A meter's use of its unpinned slot (R125). -/
def State.touchSlot (s : State) (h : Nat) : State :=
  if s.trust.pins.contains h then s else { s with trust := { s.trust with lru := h :: s.trust.lru.erase h } }

/-- A slot for a meter's key: its own, a free one, or the least recently used unpinned one, zeroized (R125). -/
def State.claimSlot (s : State) (h : Nat) : Option (Nat × State) :=
  match tblFind? s.trust.meterSlot h with
  | some n => some (n, s)
  | none =>
    match s.freeSlot with
    | some n => some (n, { s with trust := { s.trust with meterSlot := tblPut (s.trust.meterSlot.filter (fun p => p.2 != n)) h n } })
    | none =>
      match s.trust.lru.getLast? with
      | none => none
      | some old =>
        match tblFind? s.trust.meterSlot old with
        | none => none
        | some n =>
          let s1 := s.zeroize n
          some (n, { s1 with trust := { s1.trust with
            meterSlot := tblPut (tblDel s1.trust.meterSlot old) h n, lru := s1.trust.lru.erase old } })

/-- The slot that a meter's record is wrapped under (R124, R127): slot 5 for a record of the new epoch while a change
of the fleet wrap key runs. -/
def State.wrapSlot (s : State) (h : Nat) : Nat :=
  if s.trust.rewrap.isSome ∧ fieldAt ((s.keyRecord h).getD []) 50 2 = s.nextEpoch then 5 else 2

/-- A meter's key in a slot, unwrapped from its record where no slot holds it (R124, R125): the slot, or none without a
valid key; a record that does not unwrap raises KEY_UNWRAP_FAIL. The lane time is ACCEPT's (R26, log entry 28). -/
def State.loadKey (s : State) (h : Nat) : Option Nat × State :=
  let held := (tblFind? s.trust.meterSlot h).bind (fun n => if (s.slot n).valid then some n else none)
  match held with
  | some n => (some n, s.touchSlot h)
  | none =>
    if s.trust.keyless.contains h ∨ s.keyVersionOf h = 0 then (none, s)
    else
      let kr := (s.keyRecord h).getD []
      let w := s.wrapSlot h
      if !(s.slot w).valid then (none, s)
      else match Config.unwrap (s.slot w).key (wrapIv h) (slice kr 0 40) with
      | none => (none, s.raise 0x201 h)
      | some k =>
        match s.claimSlot h with
        | none => (none, s)
        | some (n, s1) =>
          let s2 := s1.setSlot n ⟨mkAttr (fieldAt kr 48 1) 3 2 (s1.slot n).gen (s1.slot 2).gen 0 (s1.trust.pins.contains h), k⟩
          (some n, ((s2.touchSlot h).usePage (0x4000 + h / 256) 1 1).chargeOpen 92 1 1)

/-- Add one to an acceptance counter 0x5000:k (R204). -/
def State.bumpAcc (s : State) (k : Nat) : State := { s with acc := { s.acc with cnt := listUpd s.acc.cnt (k - 1) (· + 1) } }

/-- A field port's record, and a change of it. -/
def State.fport (s : State) (p : Nat) : FieldPort := tblGet {} s.field.ports p
def State.setFport (s : State) (p : Nat) (f : FieldPort → FieldPort) : State :=
  { s with field := { s.field with ports := tblUpd {} s.field.ports p f } }

/-- Add one to a port counter Bp7:k or Bq7:k (R155, R178). -/
def State.bumpPort (s : State) (p k : Nat) : State := s.setFport p (fun x => { x with cnt := listUpd x.cnt (k - 1) (· + 1) })

/-- A context on chip. -/
def State.ctxOf (s : State) (h : Nat) : Option Ctx := tblFind? s.acc.ctx h

/-- Change a context on chip; a remote one becomes DIRTY (R184). -/
def State.setCtx (s : State) (h : Nat) (f : Ctx → Ctx) : State :=
  match s.ctxOf h with
  | none => s
  | some c => { s with acc := { s.acc with ctx := tblPut s.acc.ctx h (let d := f c; { d with dirty := d.dirty || d.remote }) } }

/-- The decision or the mirroring that a frame of a meter still waits for (R33, R186, R381): the newest of its entries. -/
def State.awaited (s : State) (h : Nat) : Option Nat :=
  ((s.acc.deciding.filter (fun d => s.acc.journal.any (fun e => e.seq == d.seq && e.handle == h))).getLast?).map (·.seq.toNat)

/-- The least recently used remote context that has no frame in acceptance is written back, a transfer of its 128 bytes
where it is DIRTY, and its slot freed (R180, R181, R218). -/
def State.evictCtx (s : State) : State :=
  match (s.acc.cache.filter (fun h => (s.awaited h).isNone)).getLast? with
  | none => s
  | some h =>
    match s.ctxOf h with
    | none => { s with acc := { s.acc with cache := s.acc.cache.erase h } }
    | some c =>
      let s1 := if c.dirty then s.charge 1 2 2 else s
      { s1 with acc := { s.acc with
          ctx := tblDel s.acc.ctx h
          cache := s.acc.cache.erase h
          ctxMem := if c.dirty then tblPut s.acc.ctxMem h { c with dirty := false } else s.acc.ctxMem } }

/-- The snapshot of a pinned context, so that no reset restores a counter below it (R183). -/
def State.snapshot (s : State) (h : Nat) : State :=
  match s.ctxOf h with
  | none => s
  | some c => if c.remote then s else { s with acc := { s.acc with snaps := tblPut s.acc.snaps h c } }

/-- The handle of a meter's key as its context holds it (R180). -/
def State.noteHandle (s : State) (h : Nat) : State :=
  match tblFind? s.trust.meterSlot h, s.ctxOf h with
  | some n, some c => { s with acc := { s.acc with ctx := tblPut s.acc.ctx h { c with keyHandle := BitVec.ofNat 32 (s.handleFor n) } } }
  | _, _ => s

/-- A remote context fetched from the meter table into the context store, with its key (R32, R125, R181): 128 bytes,
charged to ACCEPT in transfers of 64, beside what the load of its key takes. -/
def State.fetchRemote (s : State) (h : Nat) : State :=
  if (s.ctxOf h).isSome then s
  else match tblFind? s.acc.ctxMem h with
  | none => s
  | some c =>
    let s1 := if 16384 ≤ s.acc.ctx.length then s.evictCtx else s
    let s2 := { s1 with acc := { s1.acc with ctx := tblPut s1.acc.ctx h c, cache := h :: s1.acc.cache } }
    ((((s2.bumpAcc 0x0A).charge 1 2 2).loadKey h).2).noteHandle h

/-- R125, R181: on a remote context miss. -/
def execRemoteContextFetch (h : Handle) (s : State) : Result :=
  .next (if s.remoteServed h.toNat ∧ s.allows 1 2 = true then s.fetchRemote h.toNat else s)

/-- The context a frame is judged by (step 2 of R184): pinned or cached, or fetched. -/
def State.findCtx (s : State) (h : Nat) : Option Ctx × State :=
  match s.ctxOf h with
  | some c => (some c, if c.remote then { s with acc := { s.acc with cache := h :: s.acc.cache.erase h } } else s)
  | none =>
    let t := if s.remoteServed h then s.fetchRemote h else s
    (t.ctxOf h, t)

/-- Bytes of a journal entry's payload, padded (R189). -/
def padded (n : Nat) : Nat := (n + 15) / 16 * 16

/-- Length of an entry in the ring (R189). -/
def JEntry.len (e : JEntry) : Nat := 64 + padded e.payload.length

/-- Flags byte of an entry (R189). -/
def JEntry.flags (e : JEntry) : Nat :=
  bit e.withheld + 2 * bit e.keepalive + 4 * bit e.remote + 8 * bit e.latch + 16 * bit e.unsecured + 32 * bit e.erasures +
  64 * bit e.mirrored + 128 * bit e.macCmd

/-- The entry as it stands in MRAM (R189). -/
def JEntry.bytes (e : JEntry) : Bytes :=
  let head := [0x45, 0x4A, 0x01, BitVec.ofNat 8 e.flags] ++ leBytes 2 e.len ++ leBytes 2 e.payload.length ++ leBytes 8 e.seq.toNat ++
    leBytes 4 e.handle ++ leBytes 2 e.link.toNat ++ [0, 0] ++ leBytes 4 e.counter.toNat ++ e.digest ++ time64 e.at_ ++
    leBytes 5 e.cycle.toNat ++ [e.ackFlags] ++ leBytes 2 e.ackOffset.toNat ++ leBytes 4 e.keyVersion.toNat
  head ++ leBytes 4 (Config.crc32c (head ++ e.payload)) ++ e.payload ++ List.replicate (padded e.payload.length - e.payload.length) 0

/-- The entry that bytes spell (R189). -/
def JEntry.parse (b : Bytes) (born : Nat) : JEntry :=
  let f := fieldAt b 3 1
  { seq := BitVec.ofNat 64 (fieldAt b 8 8), isOpen := fieldAt b 2 1 == 1, withheld := f % 2 == 1, keepalive := f / 2 % 2 == 1,
    remote := f / 4 % 2 == 1, latch := f / 8 % 2 == 1, unsecured := f / 16 % 2 == 1, erasures := f / 32 % 2 == 1,
    mirrored := f / 64 % 2 == 1, macCmd := f / 128 % 2 == 1, handle := fieldAt b 16 4 % 2 ^ 20,
    link := BitVec.ofNat 16 (fieldAt b 20 2), counter := BitVec.ofNat 32 (fieldAt b 24 4), digest := slice b 28 8,
    at_ := ofTime64 (slice b 36 12), cycle := BitVec.ofNat 40 (fieldAt b 48 5), ackFlags := BitVec.ofNat 8 (fieldAt b 53 1),
    ackOffset := BitVec.ofNat 16 (fieldAt b 54 2), keyVersion := BitVec.ofNat 32 (fieldAt b 56 4),
    payload := slice b 64 (fieldAt b 6 2), effected := false, born := born }

/-- Bytes of the ring in use, from its tail to its head (R191). -/
def AcceptState.fill (a : AcceptState) : Nat := a.journal.foldl (fun n e => n + e.len) 0

/-- Fill in per cent (R191). -/
def AcceptState.fillPct (a : AcceptState) : Nat := a.fill * 100 / 4194304

/-- The ring's fill has reached a number of per cent (R191). -/
def AcceptState.reaches (a : AcceptState) (pct : Nat) : Bool := decide (pct * 4194304 ≤ a.fill * 100)

/-- The ring's fill lies ten points below a number of per cent (R191). -/
def AcceptState.tenBelow (a : AcceptState) (pct : Nat) : Bool := decide (a.fill * 100 ≤ (pct - 10) * 4194304)

/-- The oldest open entry is older than a number of seconds, at a monotonic tick (R191). -/
def AcceptState.journalOld (a : AcceptState) (limit now : Nat) : Bool :=
  (a.journal.find? (·.isOpen)).any (fun e => decide (limit * 32768 < now - e.born))

/-- High-water mark, closing and reopening of admission (R191), after the fill has changed; an episode of a stuck journal ends
when its oldest open entry is no longer too old. -/
def State.journalMarks (s0 : State) : State :=
  let s := { s0 with acc := { s0.acc with stuckRaised := s0.acc.stuckRaised && s0.acc.journalOld (s0.cfgN 0x501003) s0.time.mono } }
  let pct := s.acc.fillPct
  let high := s.acc.reaches (s.cfgN 0x501002)
  let limit := s.cfgN 0x501001
  let s1 :=
    if high && !s.acc.highRaised then ({ s with acc := { s.acc with highRaised := true } }).raise 0x0C5 pct
    else if high then s
    else { s with acc := { s.acc with highRaised := false } }
  if s.acc.reaches limit && !s1.acc.closed then ({ s1 with acc := { s1.acc with closed := true } }).raise 0x0C6 pct
  else if s.acc.tenBelow limit then { s1 with acc := { s1.acc with closed := false } }
  else s1

/-- An entry written at the head of the ring (R189). -/
def State.journalAppend (s : State) (e : JEntry) : State :=
  ({ s with acc := { s.acc with journal := s.acc.journal ++ [e] } }).journalMarks

/-- Change the entry of a sequence. -/
def State.setEntry (s : State) (q : U64) (f : JEntry → JEntry) : State :=
  { s with acc := { s.acc with journal := s.acc.journal.map (fun e => if e.seq = q then f e else e) } }

/-- The entry of a sequence. -/
def State.entryOf (s : State) (q : U64) : Option JEntry := s.acc.journal.find? (fun e => e.seq == q)

/-- Retired entries at the tail are reclaimed (R189). -/
def reclaim (l : List JEntry) : List JEntry := l.dropWhile (fun e => !e.isOpen)

/-- Content is enqueued on the partner's ordered flow (step 9 of R184, R206, R224): its descriptor was reserved. -/
def State.deliver (s : State) (src : Nat) (e : JEntry) : State :=
  let f := e.handle % 3072
  let it := mkItem s 2 1 e.handle e.seq.toNat (decide (s.cfgN (0x902200 + src) = 2)) false
  ((s.setEntry e.seq (fun x => { x with born := s.time.mono })).append f it true).schedule

/-- The entries of a meter whose reading is in the registers, appended to the profile, and charged where the meter is on
prepayment, have every effect in working state (R34, R35). -/
def State.settleEffects (s : State) (h : Nat) : State :=
  let upTo := fun (l : Tbl U64) (q : U64) => match tblFind? l h with | none => false | some m => decide (q ≤ m)
  let paid := (tblGet {} s.bill.app.ledgers h).due.all (· == 0) || s.cfgN 0xC05401 h == 0
  let held := fun (e : JEntry) => e.handle == h && upTo s.bill.app.applied e.seq && upTo s.bill.app.profiled e.seq && paid
  { s with acc := { s.acc with journal := s.acc.journal.map (fun e => if held e then { e with effected := true } else e) } }

/-- R34 step 5: what the readings up to a sequence brought is appended to the meter's open day block. -/
def State.profileAppend (s : State) (h : Nat) (q : U64) : State :=
  let m := tblGet ({} : MeterBill) s.bill.app.meters h
  let last : U64 := match tblFind? s.bill.app.profiled h with | none => q | some p => if p ≤ q then q else p
  { s with bill := { s.bill with app := { s.bill.app with
    meters := tblPut s.bill.app.meters h { m with block := m.entries }
    profiled := tblPut s.bill.app.profiled h last } } }

/-- The unreleased item of a flow that carries an entry, and its results where it staged any (R207, R213). -/
def State.entryItem (s : State) (f h : Nat) (q : Nat) : Option Item :=
  (s.items f).find? (fun x => x.kind == 1 && x.key == h && x.ref == q)

/-- An item of a flow has been released (R34, R35, R213): what it staged becomes visible; a meter flow's entry that brought no
reading has no further effect; a profile item's release makes its append visible. -/
def State.itemReleased (s : State) (f : Nat) (it : Item) : State :=
  let q := BitVec.ofNat 64 it.ref
  if it.kind ≠ 1 then s
  else if let some w := it.work then { s with cas := { s.cas with results := s.cas.results ++ [(it.key, q, w)] } }
  else if f < 0xC00 then
    if (match tblFind? s.bill.app.applied it.key with | none => false | some m => decide (q ≤ m)) then s.settleEffects it.key
    else s.setEntry q (fun e => { e with effected := true })
  else if 0xC3C ≤ f ∧ f < 0xC4C then (s.profileAppend it.key q).settleEffects it.key
  else s.settleEffects it.key

/-- Application firmware has taken a UART's bytes with the item of its flow (R441). -/
def State.uartTaken (s : State) (f : Nat) : State :=
  if f = 0xC2A ∨ f = 0xC2B then { s with link := { s.link with uart := tblPut s.link.uart (f - 0xC2A) [] } } else s

/-- Items in the flows. -/
def State.itemCount (s : State) : Nat := s.cas.flows.foldl (fun n p => n + p.2.length) 0

/-- Work goes on as far as it can (R208, R209, R211, R213): finished items whose turn has come are released, producers'
kept enqueues are tried again, and what is ready is dispatched. -/
def State.releaseDone (s : State) : State :=
  let r := s.noteSojourn.releaseRounds (s.itemCount + 1)
  (((r.1.foldl (fun (t : State) (x : Nat × Item) => (t.itemReleased x.1 x.2).uartTaken x.1) r.2).noteSojourn).retryKept).schedule

/-- A sequencer takes an item from a queue of its own (R209, R210): counted as a dispatch of its queue, and its descriptor is
free. -/
def State.seqTake (s : State) (f : Nat) (it : Item) : State :=
  let t := (s.countDispatch f it).setItems f ((s.items f).filter (fun x => x.id != it.id))
  ({ t with cas := { t.cas with
      inUse := t.cas.inUse - 1, rr := tblPut t.cas.rr (s.cfgN 0x901102 (s.queueOf f)) (s.queueOf f) } }).releaseDone

/-- An item put into its place in the order of service (R210). -/
def State.byService (s : State) (x : Nat × Item) : List (Nat × Item) → List (Nat × Item)
  | [] => [x]
  | y :: ys => if rankBefore (s.serviceRank x.1 x.2) (s.serviceRank y.1 y.2) then x :: y :: ys else y :: s.byService x ys

/-- The ready items of the queues whose target is a sequencer, in the order of service (R206, R209, R210, R227). -/
def State.seqItems (s : State) (n : Nat) : List (Nat × Item) :=
  (s.cas.flows.flatMap (fun p =>
    if s.queueSeq (s.queueOf p.1) = some n then (p.2.filter (s.ready p.1)).map (fun x => (p.1, x)) else [])).foldr s.byService []

/-- What step 4 finds in the frame (R186 to R188). -/
inductive CountRule where
  | counter (c : U32)
  | access (a : U8)
  | ocb (q : U8)
  | unsecured
deriving DecidableEq, Repr

/-- The rule judges a counter of the partner's own (R186, R187). -/
def CountRule.partnerCounts : CountRule → Bool
  | .counter _ => true | .access _ => true | .ocb _ => false | .unsecured => false

/-- What acceptance answers (R186, R197). -/
inductive AccRes where
  | accepted | duplicate | lower | replay | integrity | noKey | refused | noContext | unavailable
deriving DecidableEq, Repr

/-- What step 4 decides (R186 to R188). -/
inductive CountRes where
  | fresh (counter : U32)
  | duplicate
  | conflict
  | replay
  | lower
deriving DecidableEq, Repr

/-- A counter judged against a context (R186). -/
def judgeCounter (c : Ctx) (n : U32) (digest : Bytes) : CountRes :=
  if !c.counterValid ∨ c.counter < n then .fresh n
  else if n = c.counter then (if digest = c.digest then .duplicate else .replay)
  else .lower

/-- Whether 4,000 ms have not yet passed since the context's last acceptance (R188). -/
def seqInside (c : Ctx) (ms : Nat) : Bool := decide (ms - c.seqTick < 4000)

/-- Step 4 of R184. -/
def State.judge (s : State) (c : Ctx) (digest : Bytes) : CountRule → CountRes
  | .counter n => judgeCounter c n digest
  | .access a =>
    -- R162: mode 5: the access number extended by its distance from the last one; beyond 0xFFFFFFFF no counter exists (R186)
    if !c.counterValid then .fresh (a.setWidth 32)
    else
      let d := (a - c.access).toNat
      if d = 0 then judgeCounter c c.counter digest
      else if d ≤ 127 ∧ c.counter.toNat + d < 2 ^ 32 then .fresh (c.counter + BitVec.ofNat 32 d)
      else .lower
  | .ocb q =>
    if c.seqValid ∧ c.lastSeq = q ∧ seqInside c (s.time.mono * 1000 / 32768) then
      (if digest = c.digest then .duplicate else if s.pwr.ocb then .conflict else .replay)
    else .fresh s.acc.ocbCounter
  | .unsecured => .fresh s.acc.nextSeq.toNat

/-- A frame offered to acceptance. -/
structure Offer where
  /-- source of R223 -/
  src : Nat
  /-- meter -/
  handle : Nat
  /-- link word of R180 -/
  link : U16
  /-- R185 -/
  digest : Bytes
  /-- field port, none for backhaul and serial -/
  port : Option Nat
  /-- the key: the partner's own, or a system handle, and the operation it must permit -/
  key : Option Nat
  op : KeyOp
  /-- the integrity check: the content, none where it fails -/
  verify : Bytes → Option Bytes
  /-- step 4's rule -/
  rule : CountRule
  /-- the retained part of the acknowledgement, from the key and the counter -/
  ackOf : Bytes → U32 → Bytes
  /-- code and body of a MAC command in the content, none in a data frame -/
  macOf : Bytes → Option (Nat × Bytes)
  erasures : Bool
  stamp : Nat
  late : Bool

/-- A key taken by its handle for one operation (R119): checked, and zeroized after it where its LIFETIME is 2. -/
def State.useKey (s : State) (handle : Nat) (op : KeyOp) : Option Bytes × State :=
  match s.keyCheck handle op false with
  | .error _ => (none, s)
  | .ok n => (some (s.slot n).key, s.usedSlot n)

/-- R119: a use of a key by handle: the operation runs, or fails by the first check that does not pass; `trusted` for the
Grotto's own. -/
def execKeyUse (handle : U32) (op : KeyOp) (s : State) : Result :=
  let a := s.producer
  .next (s.crossing 2 (.keyUse handle op) (match s.keyCheck handle.toNat op false with
    | .error e => s.emit (.keyUse handle (some (match e with | .denied => 1 | .empty => 2 | .stale => 3 | .usage => 4 | .orphan => 5)))
    | .ok n => ((a.2.usedSlot n).chargeOpen 103 a.1 1).emit (.keyUse handle none)))

/-- A meter's own key taken for one operation (R119, R125), loaded where no slot holds it. -/
def State.useMeterKey (s : State) (h : Nat) (op : KeyOp) : Option Bytes × State :=
  let k := s.loadKey h
  match k.1 with
  | none => (none, k.2)
  | some n => (k.2.noteHandle h).useKey ((k.2.noteHandle h).handleFor n) op

/-- What taking a key for a frame of a port's own costs (R26): crypto-lane time of an account, or, with none named, of the item
that produced the frame (log entry 6). -/
def State.chargeKey (s : State) (acct : Option Nat) : State :=
  match acct with
  | some a => s.chargeOpen 102 a 1
  | none => let a := s.producer; a.2.chargeOpen 102 a.1 1

/-- A key taken by its handle for a frame of a port's own; none while the crypto island is held (R25). -/
def State.lineKey (s : State) (acct : Option Nat) (handle : Nat) (op : KeyOp) : Option Bytes × State :=
  let k := s.useKey handle op
  if s.isUp 2 = false then (none, s) else if k.1.isNone then k else (k.1, k.2.chargeKey acct)

/-- A meter's own key taken for a frame of a port's own; none while the crypto island is held (R25). -/
def State.lineMeterKey (s : State) (acct : Option Nat) (h : Nat) (op : KeyOp) : Option Bytes × State :=
  let k := s.useMeterKey h op
  if s.isUp 2 = false then (none, s) else if k.1.isNone then k else (k.1, k.2.chargeKey acct)

/-- The key that verifies an offer (step 3 of R184): a meter's own, or a system handle. -/
def State.offerKey (s : State) (o : Offer) : Option Bytes × State :=
  match o.key with
  | some h => s.useKey h o.op
  | none => s.useMeterKey o.handle o.op

/-- R381, R39: whether this unit's decision waits for the partner's confirmation. -/
def State.waitsConfirm (s : State) : Bool := s.formed && s.pair.mismatch.isNone

/-- Content that carries the latch status and values of an order in force is journalled with LATCH (R203, log entry 55). -/
def State.carriesLatch (s : State) (body : Bytes) : Bool :=
  match Config.latchContent body with
  | none => false
  | some id => s.bal.orders.any (fun o => o.id == id)

/-- The entry of an accepted frame (R189). -/
def State.entryFor (s : State) (o : Offer) (c : Ctx) (n : U32) (body : Bytes) (mac : Bool) : JEntry :=
  { seq := s.acc.nextSeq, isOpen := true, withheld := o.late, keepalive := body.isEmpty && !mac, remote := c.remote,
    latch := s.carriesLatch body, unsecured := o.rule == .unsecured, erasures := o.erasures, mirrored := false, macCmd := mac, handle := o.handle, link := o.link,
    counter := n, digest := o.digest, at_ := o.stamp, cycle := s.time.cycle,
    ackFlags := 0, ackOffset := 0,
    keyVersion := if o.rule = .unsecured then 0 else BitVec.ofNat 32 (s.keyVersionOf o.handle),
    payload := body, effected := body.isEmpty || mac, born := s.time.mono }

/-- On wired M-Bus and RS-485 and backhaul records of those links, the invocation counter is the counter of step 4 (R187,
R200). -/
def countsApdus (link : U16) : Bool := link.toNat % 256 == 9 || link.toNat % 256 == 10

/-- The verdict of R200 on a journal entry is noted, once (log entry 55). -/
def State.apduVerdict (s : State) (e : JEntry) (c : Ctx) (n : U32) : Bool × State :=
  if n ≤ c.invoc then
    (true, ((s.setCtx e.handle (fun x => { x with invReplays := satInc x.invReplays })).setEntry e.seq (fun x =>
      { x with apdu := some false, effected := true })).raise 0x0C3 e.handle)
  else (false, (s.setCtx e.handle (fun x => { x with invoc := n })).setEntry e.seq (fun x => { x with apdu := some true }))

/-- R200: a ciphered APDU whose invocation counter does not exceed the context's is discarded, and the entry that brought it
retires with no effect. Answers whether it is discarded. -/
def State.judgeApdu (s : State) (q : U64) : Bool × State :=
  match s.entryOf q with
  | none => (false, s)
  | some e =>
    match e.apdu, Config.apduCounter e.payload with
    | some ok, _ => (!ok, s)
    | none, none => (false, s)
    | none, some n =>
      if e.unsecured || countsApdus e.link then (false, s)
      else
        let k := s.findCtx e.handle
        match k.1 with
        | none => (false, k.2)
        | some c => k.2.apduVerdict e c n

/-- Step 6 of R184: the context after an accepted frame. -/
def State.ctxAfter (s : State) (o : Offer) (n : U32) (ack : Bytes) (seq : U64) (c : Ctx) : Ctx :=
  if o.rule = .unsecured then { c with lastAt := o.stamp }
  else
    { c with
      counter := n, counterValid := true, digest := o.digest, ack := ack, jseq := seq, lastAt := o.stamp, link := o.link
      keyVersion := BitVec.ofNat 32 (s.keyVersionOf o.handle)
      invoc := if countsApdus o.link then n else c.invoc
      access := match o.rule with | .access a => a | _ => c.access
      lastSeq := match o.rule with | .ocb q => q | _ => c.lastSeq
      seqValid := match o.rule with | .ocb _ => true | _ => c.seqValid
      seqTick := match o.rule with | .ocb _ => s.time.mono * 1000 / 32768 | _ => c.seqTick }

/-- The fields of a context that an Entry message carries beside the entry (R380). -/
def Ctx.mirrorBytes (c : Ctx) : Bytes :=
  leBytes 4 c.counter.toNat ++ c.digest ++ c.ack ++ leBytes 4 c.keyVersion.toNat ++ [c.lastSeq, c.access]

/-- A forwarded record's decision has come: its request answers once no record waits (R197), and a head-end delivery is confirmed
(R453). -/
def State.fwdDecided (s : State) (q : U64) : State :=
  let upd := s.acc.fwd.map (fun w =>
    { w with results := w.results.map (fun x => if x.2 = some q then (x.1, none) else x) })
  let done := upd.filter (fun w => w.results.all (fun x => x.2.isNone))
  let s1 := { s with acc := { s.acc with fwd := upd.filter (fun w => w.results.any (fun x => x.2.isSome)) } }
  done.foldl (fun (t : State) (w : FwdWait) => match w.he with
    | none => t.emit (.fwd w.req 204 (w.results.map (·.1)))
    | some x => t.emit (.headEnd x.1 2 x.2)) s1

/-- The acknowledgements of a port that waited for a sequence no longer wait (R186, R381). -/
def FieldPort.decided (x : FieldPort) (q : Nat) : FieldPort :=
  { x with acks := x.acks.map (fun (a : AckDue) => if a.wait = some q then { a with wait := none } else a) }

/-- A decided MAC command is handed to the protocol island (R146). -/
def State.handMac (s : State) (p : Nat) (q : U64) (m : Nat × Bytes) : State :=
  match s.entryOf q with
  | none => s
  | some e =>
    let c : MacCmd := ⟨p, e.handle, m.1, m.2⟩
    { s with field := { s.field with mac := s.field.mac ++ [c] } }

/-- Step 8 and 9 of R184 for the entry of a sequence: a MAC command is handed to the protocol island, and content is
delivered. -/
def State.settle (s : State) (d : Deciding) (src : Nat) : State :=
  let s1 := match d.port with
    | none => s
    | some p => s.bumpPort p 2
  let s2 := match d.mac, d.port with
    | some m, some p => s1.handMac p d.seq m
    | _, _ => s1
  match s2.entryOf d.seq with
  | none => s2
  | some e => if e.keepalive ∨ e.macCmd then s2 else s2.deliver src e

/-- What waited for the mirroring of a sequence goes on (R186, R197, R381): acknowledgements on every port, forwarded results. -/
def State.mirrorDone (s : State) (q : U64) : State :=
  ({ s with field := { s.field with ports := s.field.ports.map (fun (x : Nat × FieldPort) => (x.1, x.2.decided q.toNat)) } }).fwdDecided q

/-- Source of a link word (R180, R223): power-line and radio ports, then serial ports, then the backhaul. -/
def linkSource (link : U16) : Nat :=
  let p := link.toNat / 256 % 64
  match link.toNat / 2 ^ 14 with
  | 0 => 1 + p | 1 => 13 + p | 2 => 25 + p | _ => 45 + p % 32

/-- Source of the entry of a sequence. -/
def State.sourceOf (s : State) (q : U64) : Nat := ((s.entryOf q).map (fun e => linkSource e.link)).getD 0

/-- The confirmation of a sequence has come, or is no longer waited for (R381). -/
def State.confirm (s : State) (q : U64) : State :=
  match s.acc.deciding.find? (fun d => d.seq == q) with
  | none => s
  | some d =>
    let s1 := { s with acc := { s.acc with deciding := s.acc.deciding.filter (fun x => x.seq != q) } }
    (if d.made then s1 else s1.settle d (s1.sourceOf q)).mirrorDone q

/-- The decision on a sequence is made without its confirmation (R33): the frame is delivered, and the mirroring still awaited. -/
def State.decideNow (s : State) (q : U64) : State :=
  match s.acc.deciding.find? (fun d => d.seq == q && !d.made) with
  | none => s
  | some d =>
    ({ s with acc := { s.acc with deciding := s.acc.deciding.map (fun (x : Deciding) => if x.seq = q then { x with made := true } else x) } }).settle
      d (s.sourceOf q)

/-- The entry that acceptance writes (R189), with what its acknowledgement carries (R180). -/
def State.acceptEntry (s : State) (o : Offer) (c : Ctx) (key : Bytes) (n : U32) (body : Bytes) : JEntry :=
  let e := s.entryFor o c n body (o.macOf body).isSome
  if o.link.toNat / 2 ^ 14 = 1 ∧ o.link.toNat % 256 = 8 then
    { e with
      ackFlags := (o.ackOf key n).getD 4 0
      ackOffset := BitVec.ofNat 16 (fieldAt (o.ackOf key n) 5 2) }
  else e

/-- Steps 5 and 6 of R184: the entry takes the next sequence, and the context the frame. -/
def State.acceptStored (s : State) (o : Offer) (key : Bytes) (n : U32) (e : JEntry) : State :=
  let s1 := s.bumpAcc 1
  let s2 : State := { s1 with acc := { s1.acc with
      nextSeq := s.acc.nextSeq + 1
      ocbCounter := match o.rule with | .ocb _ => s1.acc.ocbCounter + 1 | _ => s1.acc.ocbCounter } }
  let s3 := (s2.journalAppend e).setCtx o.handle (s.ctxAfter o n (o.ackOf key n) s.acc.nextSeq)
  if n = 0xFFFFFFFF ∧ o.rule.partnerCounts = true then s3.raise 0x0C2 o.handle else s3

/-- Step 7 of R184: the entry and its context mirrored where the stream flows (R380). -/
def State.acceptMirrored (s : State) (h : Nat) (e : JEntry) : State :=
  let t := s.mirror .entry e.seq.toNat (e.bytes ++ (((s.ctxOf h).map (·.mirrorBytes)).getD []))
  if t.streaming then { t with pair := { t.pair with mirrored := t.pair.mirrored + 1 } } else t

/-- Step 8 of R184: the decision, or the wait for the partner's confirmation (R381). -/
def State.acceptDecided (s : State) (d : Deciding) (src : Nat) : State :=
  if s.waitsConfirm then { s with acc := { s.acc with deciding := s.acc.deciding ++ [d] } }
  else
    (if s.pair.role = .active ∧ s.pair.link = false then
        { s with pair := { s.pair with noConfirm := s.pair.noConfirm + 1 } }
      else s).settle d src

/-- Steps 5 to 9 of R184 for a frame that step 4 finds fresh. -/
def State.acceptFresh (s : State) (o : Offer) (c : Ctx) (key : Bytes) (n : U32) (body : Bytes) : State :=
  let e := s.acceptEntry o c key n body
  ((s.acceptStored o key n e).acceptMirrored o.handle e).acceptDecided { seq := e.seq, port := o.port, mac := o.macOf body } o.src

/-- A frame refused by step 1 or step 5 of R184 (R190, R191). -/
def State.refused (s : State) : AccRes × State := (.refused, s.bumpAcc 7)

/-- Step 4 of R184 and what follows from it (R186 to R188, R191). -/
def State.acceptJudged (s : State) (o : Offer) (c : Ctx) (key body : Bytes) : AccRes × State :=
  match s.judge c o.digest o.rule with
  | .duplicate => (.duplicate, (s.bumpAcc 2).setCtx o.handle (fun x => { x with dups := satInc x.dups }))
  | .conflict => (.duplicate, s.bumpAcc 0x0B)
  | .replay => (.replay, ((s.bumpAcc 3).setCtx o.handle (fun x => { x with replays := satInc x.replays })).raise 0x0C1 o.handle)
  | .lower => (.lower, (s.bumpAcc 4).setCtx o.handle (fun x => { x with lowers := satInc x.lowers }))
  | .fresh n => if s.acc.closed then s.refused else (.accepted, s.acceptFresh o c key n body)

/-- A frame that fails its integrity check (step 3 of R184), counted on its port too (R155, R178). -/
def State.integrityFails (s : State) (o : Offer) : AccRes × State :=
  let t := (s.bumpAcc 5).raise 0x0C0 o.handle
  (.integrity, match o.port with | none => t | some p => t.bumpPort p (if p < 12 then 5 else 4))

/-- Step 3 of R184: the integrity check, whose lane time is ACCEPT's (R219), and the key version (R182). -/
def State.acceptKeyed (s0 : State) (o : Offer) (c : Ctx) (key : Bytes) : AccRes × State :=
  let s := s0.chargeOpen 93 1 1
  match o.verify key with
  | none => s.integrityFails o
  | some body =>
    if o.rule ≠ .unsecured ∧ s.keyVersionOf o.handle < c.keyVersion.toNat then (.integrity, s.bumpAcc 6)
    else s.acceptJudged o c key body

/-- Steps 3 to 9 of R184, for a frame whose context is found: its key first; an unsecured frame has none. -/
def State.acceptKnown (s : State) (o : Offer) (c : Ctx) : AccRes × State :=
  if o.rule = .unsecured then s.acceptKeyed o c []
  else
    let k := s.offerKey o
    match k.1 with
    | none => (.noKey, k.2.bumpAcc 6)
    | some key => k.2.acceptKeyed o c key

/-- Steps 2 to 9 of R184, for an admitted frame: its context first (R30, R181). -/
def State.acceptAdmitted (s : State) (o : Offer) : AccRes × State :=
  if (s.ctxOf o.handle).isNone ∧ (tblFind? s.acc.ctxMem o.handle).isSome ∧ s.remoteServed o.handle = false then (.unavailable, s)
  else
    let l := s.findCtx o.handle
    match l.1 with
    | none => (.noContext, l.2.bumpAcc 0x0C)
    | some c => l.2.acceptKnown o c

/-- The nine steps of R184 (R30, R182, R186 to R191). Answers the result, and the sequence of an accepted frame. -/
def State.accept (s : State) (o : Offer) : AccRes × State :=
  if s.pwr.pfw then s.refused
  else
    let ad := s.admitInput o.src
    if !ad.1 then (.refused, ad.2.bumpAcc 8) else ad.2.acceptAdmitted o

/-- The unit takes frames: it acts in the field, acceptance is ready and no hand-over runs (R38, R386, R419). -/
def State.takesFrames (s : State) : Bool := s.acting && s.pwr.acceptReady && s.pair.handover.isNone

/-- A frame that is not taken: one that ends after PFW_N has fallen counts as refused (R190). -/
def State.turnedAway (s : State) : State := if s.pwr.pfw ∧ s.pwr.acceptReady = true then s.bumpAcc 7 else s

end Sys2Proof.Machine
end

