-- ==== Sys2Proof/Machine/Codec.lean ====
section
/-! DEFINITION. The profile codec: differences in zigzag LEB128 (R335) and the sample coder of the lossy classes (R246,
R336). -/

namespace Sys2Proof.Machine

/-- Zigzag: 2d for d at or above 0, -2d - 1 otherwise (R335). -/
def zigzag (d : Int) : Nat := if 0 ≤ d then (2 * d).toNat else (-2 * d - 1).toNat

/-- The integer a zigzag value stands for. -/
def unzigzag (n : Nat) : Int := if n % 2 = 0 then (n / 2 : Nat) else -((n / 2 : Nat) : Int) - 1

/-- Unsigned LEB128 in at most n bytes: groups of 7 bits, least significant first (R335). -/
def leb128 : Nat → Nat → Bytes
  | 0, _ => []
  | n + 1, v => if v < 128 then [BitVec.ofNat 8 v] else BitVec.ofNat 8 (v % 128 + 128) :: leb128 n (v / 128)

/-- A difference as the day block carries it: at most 10 bytes (R335). -/
def codeDiff (d : Int) : Bytes := leb128 10 (zigzag d)

/-- The sample coder (R246, R336): step 0 is lossless; the prediction is 2 r1 - r2 for waveforms and r1 otherwise, from
the reconstructed values. Answers the codes, first sample first. -/
def codeSamples (wave : Bool) (step : Nat) : Int → Int → List Int → Bytes
  | _, _, [] => []
  | r1, r2, x :: xs =>
    let p := if wave then 2 * r1 - r2 else r1
    let k := if step = 0 then x - p else roundDiv (x - p) step
    let r := if step = 0 then x else p + k * step
    codeDiff k ++ codeSamples wave step r r1 xs

/-- The reconstructed samples of the same coder (R246). -/
def reconstruct (wave : Bool) (step : Nat) : Int → Int → List Int → List Int
  | _, _, [] => []
  | r1, r2, x :: xs =>
    let p := if wave then 2 * r1 - r2 else r1
    let r := if step = 0 then x else p + roundDiv (x - p) step * step
    r :: reconstruct wave step r r1 xs

end Sys2Proof.Machine
end

