-- ==== Sys2Proof/Machine/Archive.lean ====
section
/-! DEFINITION. NAND blocks and both maps (R324, R325, R338 to R340), archive appends and removal (R327 to R329), and
upkeep. -/

namespace Sys2Proof.Machine

/-- A target within R321. -/
def Geometry.ok (g : Geometry) : Bool :=
  g.pageOk && decide (256 ≤ g.pages) && decide (g.pages ≤ 3072) && decide (g.blocks ≤ 16384) &&
  (g.planes == 1 || g.planes == 2 || g.planes == 4)

/-- The usable targets among those fitted, and those refused (R322): all of the first one's geometry. -/
def usableTargets (fitted : Tbl Geometry) : Tbl Geometry × List Nat :=
  match fitted with
  | [] => ([], [])
  | (_, g) :: _ => (fitted.filter (fun p => p.2.ok && p.2 == g), (fitted.filter (fun p => !(p.2.ok && p.2 == g))).map (·.1))

/-- The common geometry. -/
def ArchState.geo (a : ArchState) : Geometry := ((a.usable.head?).map (·.2)).getD {}

/-- Blocks of the firmware region: the first good blocks of NF0 target 0 that hold two slots of 80 MiB (R325). -/
def ArchState.fwBlocks (a : ArchState) : Nat := (160 * 64 + a.geo.pages - 1) / a.geo.pages

/-- A block's record. -/
def ArchState.blk (a : ArchState) (k : Nat) : Block := tblGet {} a.blocks k

/-- The lowest block of a target that the device has neither used nor marked, from block b. -/
def freshFrom (a : ArchState) (t : Nat) : Nat → Nat → Option Nat
  | 0, _ => none
  | n + 1, b =>
    if a.geo.blocks ≤ b then none
    else match tblFind? a.blocks (t * 16384 + b) with
      | none => some (t * 16384 + b)
      | some _ => freshFrom a t n (b + 1)

/-- The lowest unused block over the usable targets (R339). -/
def ArchState.fresh (a : ArchState) : Option Nat :=
  (a.usable.filterMap (fun p => freshFrom a p.1 (a.blocks.length + 1) (if p.1 = 0 then a.fwBlocks else 0))).head?

/-- Blocks of the pool that were erased and are free (R325). -/
def ArchState.freed (a : ArchState) : List (Nat × Block) :=
  a.blocks.filter (fun p => p.2.region == 0 && p.2.bad == 0)

/-- The free block with the lowest erase count, then the lowest target, then the lowest block (R339). -/
def ArchState.takeFree (a : ArchState) : Option Nat :=
  (a.freed.map (fun p => (p.2.erases, p.1)) ++ (match a.fresh with | none => [] | some k => [(0, k)])).foldl
    (fun best x => match best with
      | none => some x
      | some b => if x.1 < b.1 ∨ (x.1 = b.1 ∧ x.2 < b.2) then some x else some b) (none : Option (Nat × Nat)) |>.map (·.2)

/-- Blocks of the pool: usable blocks outside the firmware region, less the bad ones. -/
def ArchState.poolBlocks (a : ArchState) : Nat :=
  a.usable.length * a.geo.blocks - (if (tblFind? a.usable 0).isSome then a.fwBlocks else 0) -
    (a.blocks.filter (fun p => p.2.bad != 0)).length

/-- Free blocks of the pool 0x8001:04. -/
def ArchState.freeBlocks (a : ArchState) : Nat :=
  a.poolBlocks - (a.blocks.filter (fun p => p.2.bad == 0 && p.2.region != 0)).length

/-- Blocks kept in reserve: 16 per usable target (R325). -/
def ArchState.reserve (a : ArchState) : Nat := 16 * a.usable.length

/-- Data units of a block. -/
def ArchState.unitsPerBlock (a : ArchState) : Nat := 4 * a.geo.pages

/-- Key of a logical address in the maps. -/
def mapKey (region logical : Nat) : Nat := region * 2 ^ 40 + logical

/-- The physical form of R338: target, block, page and data unit. -/
def physUnit (blk idx : Nat) : Nat := blk * 2 ^ 14 + idx

/-- A data unit as it is stored (R337): XTS-AES-256 under the region's two keys, with its logical address as tweak. -/
def State.sealUnit (s : State) (region logical : Nat) (data : Bytes) : Bytes :=
  let k := if region = 4 then 18 else 16
  Config.xts ((s.slotKey k).getD []) ((s.slotKey (k + 1)).getD []) logical data

/-- The metadata of a data unit as it is programmed (R323), in the clear: region, stream class, the offset at which the first record of
an archive unit starts, logical address, write sequence, erase count of the block, the key generation of a Host Volume unit (R337), and
the CRC-32C over its first 60 bytes and the stored data. -/
def unitMeta (region logical first : Nat) (seq : U64) (erases gen : Nat) (data : Bytes) : Bytes :=
  let m := leBytes 1 region ++ leBytes 1 (if region = 3 then logical / 2 ^ 32 else 0) ++ leBytes 2 (if region = 3 then first else 0) ++
    leBytes 4 0 ++ leBytes 8 logical ++ leBytes 8 seq.toNat ++ leBytes 4 erases ++ leBytes 4 (if region = 4 then gen else 0) ++
    List.replicate 28 0
  m ++ leBytes 4 (Config.crc32c (m ++ data))

/-- Put one data unit of a region, its data as they are stored and its metadata (R323, R338, R339), into the region's open block, or into
a block from the pool, whose erase has then ended; NAND time is charged as a quarter of a page program. Nothing is programmed where no
block can be had. -/
def State.placeUnit (s : State) (region logical acct first : Nat) (stored : Bytes) : State :=
  let a := s.arch
  let cur := (tblFind? a.openBlk region).filter (fun k => decide ((a.blk k).units.length < a.unitsPerBlock))
  let pick := match cur with
    | some k => some k
    | none => if region = 4 ∧ a.freeBlocks ≤ a.reserve then none else a.takeFree
  match pick with
  | none => s
  | some k =>
    let b := a.blk k
    ({ s with
      arch := { a with
        blocks := tblPut a.blocks k { b with region := region, units := b.units ++ [logical] }
        openBlk := tblPut a.openBlk region k
        map := tblPut a.map (mapKey region logical) (physUnit k b.units.length)
        nand := tblPut a.nand (physUnit k b.units.length)
          (stored ++ unitMeta region logical first a.writeSeq b.erases a.keyGen.toNat stored)
        erasing := a.erasing.filter (· != k)
        writeSeq := a.writeSeq + 1 } }).charge acct 3 1

/-- The image page of the archive map that has a logical address of the archive (R330). -/
def archMapPage (logical : Nat) : Nat := 0x6000 + logical / 4 / 4096 % 0x4000

/-- Program one data unit of a region: encrypted (R337), which takes lane time of the account (R26), and placed; an archive map page
that is not at hand is read in (R28). -/
def State.program (s : State) (region logical acct first : Nat) (data : Bytes) : State :=
  let s1 := if region = 3 then s.usePage (archMapPage logical) acct 1 else s
  (s1.placeUnit region logical acct first (s.sealUnit region logical data)).chargeOpen 101 acct 1

/-- Valid data units of a block, with their logical addresses. -/
def ArchState.validUnits (a : ArchState) (k : Nat) : List Nat :=
  ((a.blk k).units.zipIdx.filter (fun u => tblGet 0 a.map (mapKey (a.blk k).region u.1) == physUnit k u.2)).map (·.1)

/-- The highest erase count 0x8001:02. -/
def ArchState.highest (a : ArchState) : Nat := a.blocks.foldl (fun m p => max m p.2.erases) 0

/-- The mean erase count in 0.01 cycles 0x8001:03. -/
def ArchState.mean (a : ArchState) : Nat := a.blocks.foldl (fun n p => n + p.2.erases) 0 * 100 / max (a.usable.length * a.geo.blocks) 1

/-- Erase a block (R333, R339, R340): recorded as started before it is issued, until it has ended (log entry 41), charged to UPKEEP, and
back in the pool; NAND_WEAR once the rating's share is reached. -/
def State.eraseBlock (s : State) (k : Nat) : State :=
  let b := s.arch.blk k
  let s1 := ({ s with
    arch := { s.arch with
      blocks := tblPut s.arch.blocks k { b with region := 0, units := [], reads := 0, erases := b.erases + 1 }
      nand := s.arch.nand.filter (fun p => p.1 / 2 ^ 14 != k)
      openBlk := s.arch.openBlk.filter (fun p => p.2 != k)
      erasing := s.arch.erasing.filter (· != k) ++ [k] } }).charge 15 3 8
  if s1.arch.wearRaised = false ∧ s1.cfgN 0x800101 * s1.cfgN 0x800105 ≤ 100 * s1.arch.highest then
    ({ s1 with arch := { s1.arch with wearRaised := true } }).raise 0x183 s1.arch.highest
  else s1

/-- Move a block's valid data units elsewhere, under UPKEEP (R324, R340): data as they are stored (R337), metadata anew (R323). -/
def State.moveUnits (s : State) (k : Nat) : State :=
  let region := (s.arch.blk k).region
  let units := s.arch.validUnits k
  let s0 := { s with arch := { s.arch with openBlk := s.arch.openBlk.filter (fun p => p.2 != k) } }
  let stored := fun (u : Nat) => tblGet [] s.arch.nand (tblGet 0 s.arch.map (mapKey region u))
  let s1 := units.foldl (fun t u => (t.charge 15 3 1).placeUnit region u 15 (fieldAt (stored u) 4098 2) ((stored u).take 4096)) s0
  { s1 with arch := { s1.arch with relocated := s1.arch.relocated + 1 } }

/-- Relocate a block and return it to the pool (R340). -/
def State.relocate (s : State) (k : Nat) : State := (s.moveUnits k).eraseBlock k

/-- The record's length: header and body (R328). -/
def ArchRec.len (r : ArchRec) : Nat := 16 + r.body.length

/-- The record's header (R328). -/
def ArchRec.header (r : ArchRec) (cls crc : Nat) : Bytes :=
  leBytes 2 r.len ++ leBytes 1 cls ++ leBytes 1 r.coding ++ leBytes 4 r.subject.toNat ++ leBytes 4 r.stamp ++ leBytes 4 crc

/-- The record as it is stored, with its CRC-32C (R328). -/
def ArchRec.bytes (r : ArchRec) (cls : Nat) : Bytes :=
  r.header cls (Config.crc32c (r.header cls 0 ++ r.body)) ++ r.body

/-- Records of a class, oldest first. -/
def State.recsOf (s : State) (cls : Nat) : List ArchRec := tblGet [] s.arch.recs cls

/-- Bytes held by a class 0x8021:04. -/
def State.heldBytes (s : State) (cls : Nat) : Nat := (s.recsOf cls).foldl (fun n r => n + r.len) 0

/-- Bytes held by the archive. -/
def State.archiveUsed (s : State) : Nat := s.arch.recs.foldl (fun n p => n + p.2.foldl (fun m r => m + r.len) 0) 0

/-- Logical address of a data unit of a class's stream. -/
def streamUnit (cls unit : Nat) : Nat := cls * 2 ^ 32 + unit

/-- The bytes of one data unit of a class's stream (R328): its records back to back, zeros where none stands. -/
def State.unitBytes (s : State) (cls unit : Nat) : Bytes :=
  let p := unit * 4096
  let b := ((s.recsOf cls).filter (fun r => decide (p < r.pos + r.len) && decide (r.pos < p + 4096))).foldl
    (fun (b : Bytes) r => b ++ List.replicate (r.pos - (p + b.length)) 0 ++ (r.bytes cls).drop (p + b.length - r.pos)) []
  (b ++ List.replicate (4096 - b.length) 0).take 4096

/-- The offset at which the first record of a data unit of a class's stream starts (R323): 0xFFFF where none does. -/
def State.firstRecord (s : State) (cls unit : Nat) : Nat :=
  (((s.recsOf cls).find? (fun r => r.pos / 4096 == unit)).map (fun r => r.pos % 4096)).getD 0xFFFF

/-- Program the data units of a class's stream that are full, n at most (R328). -/
def State.programFull (s : State) (cls : Nat) : Nat → State
  | 0 => s
  | n + 1 =>
    let d := tblGet 0 s.arch.done cls
    if tblGet 0 s.arch.pos cls / 4096 ≤ d then s
    else
      let s1 := s.program 3 (streamUnit cls d) 5 (s.firstRecord cls d) (s.unitBytes cls d)
      ({ s1 with arch := { s1.arch with done := tblPut s1.arch.done cls (d + 1) } }).programFull cls n

/-- A stream padded to the next data unit, so that what it holds can be programmed (R328: length zero is padding). -/
def State.padStream (s : State) (cls : Nat) : State :=
  let p := tblGet 0 s.arch.pos cls
  if p % 4096 = 0 then s
  else ({ s with arch := { s.arch with pos := tblPut s.arch.pos cls ((p + 4095) / 4096 * 4096) } }).programFull cls 32

/-- Unmap the data units of a class's stream before the oldest record held (R329). -/
def State.trimStream (s : State) (cls : Nat) : State :=
  let first := match s.recsOf cls with
    | [] => tblGet 0 s.arch.pos cls / 4096
    | r :: _ => r.pos / 4096
  { s with
    arch := { s.arch with
      map := s.arch.map.filter (fun p => !(decide (mapKey 3 (streamUnit cls 0) ≤ p.1) &&
        decide (p.1 < mapKey 3 (streamUnit cls first)))) } }

/-- Replace the records of a class. -/
def State.setRecs (s : State) (cls : Nat) (l : List ArchRec) : State :=
  { s with arch := { s.arch with recs := if l = [] then tblDel s.arch.recs cls else tblPut s.arch.recs cls l } }

/-- The oldest record of a class is removed. -/
def State.dropOldest (s : State) (cls : Nat) : State := (s.setRecs cls ((s.recsOf cls).drop 1)).trimStream cls

/-- Blocks of 4,096 bytes that all campaigns hold (R357). -/
def State.contentHeld (s : State) : Nat := s.upd.camps.foldl (fun n p => n + p.2.content.length) 0

/-- The archive quota in bytes, less the content of campaigns that Station profile holds in it (R357). -/
def State.archiveQuota (s : State) : Nat :=
  s.cfgN 0x800201 * 1048576 - (if s.pwr.headEnd then 0 else s.contentHeld * 4096)

/-- Remove class 9, then class 8, then class 7 data, oldest first, until a length fits (R329); n bounds the removals. -/
def State.makeRoom (s : State) (len : Nat) : Nat → State
  | 0 => s
  | n + 1 =>
    if s.archiveUsed + len ≤ s.archiveQuota then s
    else match [9, 8, 7].find? (fun c => s.recsOf c ≠ []) with
      | none => s
      | some c => (s.dropOldest c).makeRoom len n

/-- The record put at the end of its class's stream. -/
def State.putRecord (s : State) (cls : Nat) (r : ArchRec) : State :=
  let p := tblGet 0 s.arch.pos cls
  let s1 := s.setRecs cls (s.recsOf cls ++ [{ r with pos := p }])
  ({ s1 with arch := { s1.arch with pos := tblPut s1.arch.pos cls (p + r.len) } }).programFull cls 32

/-- Lossy appends stop once the pool has nothing left outside the reserve (R340). -/
def State.lossyStopped (s : State) (cls : Nat) : Bool := decide (7 ≤ cls) && decide (s.arch.freeBlocks ≤ s.arch.reserve)

/-- Append a record (R329): lossy data makes room; where none is left the append waits, and ARCHIVE_FULL is raised once
per episode. While PFW_N has fallen no append is started (R333), and none reaches a storage island that is held (R25). -/
def State.appendRec (s : State) (cls : Nat) (r : ArchRec) : State :=
  let s1 := s.makeRoom r.len ((s.recsOf 7).length + (s.recsOf 8).length + (s.recsOf 9).length)
  if s.pwr.pfw ∨ s.isUp 4 = false ∨ s.lossyStopped cls = true then
    { s with arch := { s.arch with waiting := s.arch.waiting ++ [(cls, r)] } }
  else if s1.archiveUsed + r.len ≤ s1.archiveQuota then s1.putRecord cls r
  else
    let s2 := { s1 with arch := { s1.arch with waiting := s1.arch.waiting ++ [(cls, r)], fullRaised := true } }
    if s1.arch.fullRaised then s2 else s2.raise 0x184 cls

/-- Subject words (R328): 0 meter, 1 feeder, 2 segment, 3 device. -/
def subjectWord (kind n : Nat) : U32 := BitVec.ofNat 32 (kind * 2 ^ 30 + n % 2 ^ 20)

/-- A run of open bytes (log entry 6). -/
def openBytes (place n start : Nat) : Bytes := (List.range n).map (fun i => BitVec.ofInt 8 (Config.openInt place (start + i)))

/-- Append a body under a class, coding, subject and stamp. -/
def State.archive (s : State) (cls coding : Nat) (subject : U32) (stamp : Nat) (body : Bytes) : State :=
  s.appendRec cls { coding := coding, subject := subject, stamp := stamp, body := body, pos := 0 }

/-- Billing time now, in minutes, never below zero. -/
def State.billingNow (s : State) : Nat := s.billingMin.toNat

/-- A transfer, a state change or a command of prepayment is recorded (R327, class 3): the subject is the meter; of the body the spec gives
no layout, and it holds 64 open bytes (log entry 77). -/
def State.recordPrepay (s : State) (h : Nat) : State :=
  ({ s with opens := s.opens + 64 } : State).archive 3 0 (subjectWord 0 h) s.billingNow (openBytes 100000 64 s.opens)

/-- Appends that waited are tried again, oldest first (R329); the episode ends when none waits. -/
def State.retryAppends (s : State) : State :=
  let w := s.arch.waiting
  let s0 : State := { s with arch := { s.arch with waiting := [] } }
  let s1 : State := w.foldl (fun (t : State) (x : Nat × ArchRec) => t.appendRec x.1 x.2) s0
  if s1.arch.waiting = [] then { s1 with arch := { s1.arch with fullRaised := false } } else s1

/-- R329: an archive record of a class is appended. -/
def execArchiveAppend (cls : Fin 10) (coding : Bool) (subject : U32) (stamp : U32) (body : Bytes) (s : State) : Result :=
  .next (if cls.val = 0 ∨ 65535 < 16 + body.length then s
    else s.archive cls.val (bit (coding && decide (7 ≤ cls.val))) subject stamp.toNat body)

/-- Days a class's records are kept (R327); class 6 is kept by number of copies. -/
def State.retentionDays (s : State) (cls : Nat) : Nat := if cls = 2 ∨ cls = 3 then s.cfgN 0x802103 cls else 400

/-- Records of a class within its retention; class 6 keeps the latest two copies of each segment (R327). -/
def State.withinRetention (s : State) (cls : Nat) : List ArchRec :=
  let l := s.recsOf cls
  if cls = 6 then
    (l.zipIdx.filter (fun x => decide (((l.drop (x.2 + 1)).filter (fun r => r.subject == x.1.subject)).length < 2))).map (·.1)
  else l.filter (fun r => decide (s.billingNow < r.stamp + s.retentionDays cls * 1440))

/-- R329: once a day records older than their retention are removed, and blocks that hold nothing return to the pool; while PFW_N is low
no erase is started (R333). -/
def execArchiveRetentionSweep (s : State) : Result :=
  let s1 := (List.range 9).foldl (fun t i => (t.setRecs (i + 1) (s.withinRetention (i + 1))).trimStream (i + 1)) s
  let empty := (s1.arch.blocks.filter (fun p => !s.pwr.pfw && p.2.region == 3 && p.2.units != [] &&
    (s1.arch.validUnits p.1).isEmpty && tblGet 0 s1.arch.openBlk 3 != p.1)).map (·.1)
  .next ((empty.foldl (fun t k => t.eraseBlock k) s1).retryAppends)

/-- R323, R324: a failed operation marks its block grown bad; readable data is relocated, data whose program failed is
programmed again, and an uncorrectable data unit is lost: an archive record that it held is gone. -/
def execNandOperationFail (block : BitVec 18) (unit : BitVec 14) (what : NandFail) (s : State) : Result :=
  let k := block.toNat
  let b := s.arch.blk k
  let lostUnit := if what = .uncorrectable then b.units[unit.toNat]? else none
  let s1 := if what = .uncorrectable then
      ({ s with arch := { s.arch with uncorr := s.arch.uncorr + 1, uncorrAt := some s.time.mono } }).raise 0x181 (physUnit k unit.toNat)
    else s
  let s2 := match lostUnit with
    | none => s1
    | some l =>
      let s' := { s1 with arch := { s1.arch with map := tblDel s1.arch.map (mapKey b.region l) } }
      if b.region = 3 then
        let cls := l / 2 ^ 32
        let n := l % 2 ^ 32
        s'.setRecs cls ((s'.recsOf cls).filter (fun r =>
          !(decide (r.pos / 4096 ≤ n) && decide (n ≤ (r.pos + r.len - 1) / 4096))))
      else if b.region = 4 then { s' with arch := { s'.arch with hvData := tblDel s'.arch.hvData l } }
      else s'
  let s3 := s2.moveUnits k
  .next (if b.bad ≠ 0 then s
    else
      ({ s3 with
        arch := { s3.arch with
          grown := s3.arch.grown + 1
          blocks := tblPut s3.arch.blocks k { s3.arch.blk k with bad := 2, units := [], region := 0 } } }).raise 0x182 k)

/-- R340: the Host Volume goes read-only once the pool has no block left outside the reserve. -/
def State.checkPool (s : State) : State :=
  { s with arch := { s.arch with readOnly := s.arch.usable ≠ [] && decide (s.arch.freeBlocks ≤ s.arch.reserve) } }

/-- R340: when the free pool falls below 2 %, the block with the fewest valid data units is relocated and freed. A storage island
that is held (R25), UPKEEP without NAND balance (R219), or PFW_N low (R333: no erase is started) lets no upkeep run. -/
def execGarbageCollection (s : State) : Result :=
  let a := s.arch
  let inUse := a.blocks.filter (fun p => p.2.bad == 0 && p.2.region != 0 && !(a.openBlk.any (fun o => o.2 == p.1)))
  let victim := inUse.foldl (fun best p =>
    let n := (a.validUnits p.1).length
    match best with
    | none => some (n, p.1)
    | some b => if n < b.1 then some (n, p.1) else some b) (none : Option (Nat × Nat))
  .next (if s.isUp 4 = false ∨ s.pwr.pfw = true ∨ s.allows 15 3 = false ∨ a.poolBlocks ≤ 50 * a.freeBlocks then s
    else match victim with
      | none => s.checkPool
      | some v => if a.unitsPerBlock ≤ v.1 then s.checkPool else (s.relocate v.2).checkPool)

/-- R340: a written block is read in full; where a data unit needed soft decoding the block is relocated. -/
def execReadScrub (block : BitVec 18) (weak : Bool) (s : State) : Result :=
  let k := block.toNat
  let b := s.arch.blk k
  .next (if b.units = [] ∨ b.bad ≠ 0 ∨ s.isUp 4 = false ∨ s.allows 15 3 = false then s
    else
      let s1 := ({ s with
        arch := { s.arch with blocks := tblPut s.arch.blocks k { b with reads := b.reads + b.units.length } } }).charge 15 3
          ((b.units.length + 3) / 4)
      if weak ∧ s.pwr.pfw = false then s1.relocate k else s1)

/-- R340: a block that has been read as often as 0x8003:02 allows since its last erase is relocated. -/
def execReadDisturbRelocate (block : BitVec 18) (s : State) : Result :=
  let k := block.toNat
  let b := s.arch.blk k
  .next (if b.region = 0 ∨ b.bad ≠ 0 ∨ b.reads < s.cfgN 0x800302 ∨ s.isUp 4 = false ∨ s.pwr.pfw = true ∨ s.allows 15 3 = false then s
    else s.relocate k)

end Sys2Proof.Machine
end

