-- ==== Sys2Proof/Machine/Frames.lean ====
section
/-! DEFINITION. Native frames on the power-line and radio ports: their layout (R143, R144, R168 to R170), their checks
before acceptance (R152, R167), link estimates (R147), drift learning (R173), acknowledgements (R144, R170) and join
requests (R485). -/

namespace Sys2Proof.Machine

/-- Index base of a field port (R155, R178), and a member of its configuration in force. -/
def portBase (p : Nat) : Nat := if p < 12 then 0x4000 + 16 * p else 0x4100 + 16 * (p - 12)
def State.pcfg (s : State) (p blk sub : Nat) : Nat := s.cfgN ((portBase p + blk) * 256 + sub)

/-- A radio port. -/
def isRf (p : Nat) : Bool := decide (12 ≤ p)

/-- The native generation runs on a port that is enabled (R138, R161). -/
def State.isNative (s : State) (p : Nat) : Bool :=
  if isRf p then s.pcfg p 0 1 == 3 && s.pcfg p 0 2 == 1 else s.pcfg p 1 1 == 4 && s.pcfg p 1 3 == 1

/-- Station identifier, network key handle, joins per period of a port (R155, R178). -/
def State.station (s : State) (p : Nat) : Nat := s.pcfg p 6 1
def State.netKey (s : State) (p : Nat) : Nat := s.pcfg p 6 (if isRf p then 3 else 9)
def State.joinLimit (s : State) (p : Nat) : Nat := s.pcfg p 6 (if isRf p then 7 else 0x0A)

/-- The counter of format errors and of unknown or ignored commands (R155, R178). -/
def fmtCounter (p : Nat) : Nat := if isRf p then 6 else 0x0B

/-- Link word of a field port (R180): type, port, generation code of R196. -/
def linkWord (p gen : Nat) : U16 :=
  BitVec.ofNat 16 (if isRf p then 2 ^ 14 + (p - 12) * 256 + gen else p * 256 + gen)

/-- Generation code of a native frame (R196). -/
def nativeGen (p : Nat) : Nat := if isRf p then 8 else 4

/-- A native frame's fields (R143). -/
structure NFrame where
  /-- bytes 0 to h - 1, with bits [1:0] of frame control zero -/
  head : Bytes
  type : Nat
  uplink : Bool
  relays : List Nat
  hops : Nat
  station : Nat
  handle : Nat
  counter : U32
  keyIndex : Nat
  len : Nat
  /-- encrypted payload -/
  cipher : Bytes
  mic : Bytes
  /-- the frame as authenticated (R185) -/
  authed : Bytes
deriving DecidableEq, Repr

/-- The frame with bits [1:0] of frame control taken as zero (R143, R185). -/
def maskHops : Bytes → Bytes
  | [] => []
  | b :: bs => (b &&& 0xFC) :: bs

/-- Read a native frame (R143); none where it is shorter than its fields say. -/
def parseNative (b : Bytes) : Option NFrame :=
  let fc := fieldAt b 0 1
  let n := fc / 4 % 4
  let h := 6 + 3 * n
  let len := fieldAt b (h + 5) 2
  if b.length ≠ h + 7 + len + 16 then none
  else some
    { head := maskHops (b.take (h + 7))
      type := fc / 32
      uplink := fc / 16 % 2 == 1
      relays := (List.range n).map (fun i => fieldAt b (6 + 3 * i) 3 % 2 ^ 20)
      hops := fc % 4
      station := fieldAt b 1 2
      handle := fieldAt b 3 3 % 2 ^ 20
      counter := BitVec.ofNat 32 (fieldAt b h 4)
      keyIndex := fieldAt b (h + 4) 1 % 2
      len := len
      cipher := slice b (h + 7) len
      mic := slice b (h + 7 + len) 16
      authed := maskHops b }

/-- The CCM* nonce (R143). -/
def nativeNonce (station handle counter : Nat) (uplink : Bool) : Bytes :=
  leBytes 2 station ++ leBytes 3 handle ++ [0] ++ leBytes 4 counter ++ [if uplink then 1 else 0, 0, 0]

/-- The content of a native frame under a key, none where the MIC fails (R143). -/
def NFrame.content (f : NFrame) (key : Bytes) : Option Bytes :=
  Config.ccmOpen key (nativeNonce f.station f.handle f.counter.toNat f.uplink) f.head f.cipher f.mic

/-- The first eight bytes of SHA-256 over the frame as authenticated (R185). -/
def digestOf (authed : Bytes) : Bytes := (Config.sha256 authed).take 8

/-- Longest payload of a radio port's rate (R167). -/
def rfLimit (rate : Nat) : Nat := if rate = 50000 then 105 else 256

/-- MIC of an acknowledgement (R144, R170): the variable fields before it and the MIC of the accepted frame. -/
def ackMic (key : Bytes) (station handle : Nat) (var mic : Bytes) : Bytes :=
  (Config.cmac key (leBytes 2 station ++ leBytes 3 handle ++ var ++ mic)).take 8

/-- The variable part of an acknowledgement, zero-filled to 16 bytes (R144, R170, R180). -/
def ackVar (p : Nat) (f : NFrame) (flags : Nat) (offset : U16) (key : Bytes) (c : U32) : Bytes :=
  let var := if isRf p then leBytes 4 c.toNat ++ [BitVec.ofNat 8 flags] ++ leBytes 2 offset.toNat else leBytes 4 c.toNat
  let v := var ++ ackMic key f.station f.handle var f.mic
  (v ++ List.replicate 16 0).take 16

/-- An acknowledgement: the frame's header with type 1, uplink 0 and hops done 0, its reserved bits zero (R11), then the
variable part (R144, R170). -/
def ackFrame (p : Nat) (f : NFrame) (var : Bytes) : Bytes :=
  let fc := 32 + 4 * f.relays.length
  [BitVec.ofNat 8 fc] ++ leBytes 2 f.station ++ leBytes 3 f.handle ++ f.relays.flatMap (leBytes 3) ++
    var.take (if isRf p then 15 else 12)

/-- The sender of the last hop of a frame, at the device (R145, R147): of an uplink frame or a partner's acknowledgement
(`up`), the partner or the relay that sent it last; of a downlink frame or beacon, its last relay, none where the device or
the Active unit itself sent it. -/
def lastHop (b : Bytes) (up : Bool) : Option Nat :=
  let n := fieldAt b 0 1 / 4 % 4
  let k := fieldAt b 0 1 % 4
  let relay := fun (i : Nat) => if i < n then some (fieldAt b (6 + 3 * i) 3 % 2 ^ 20) else none
  if k = 0 then (if up then some (fieldAt b 3 3 % 2 ^ 20) else none)
  else if up then relay (n - k) else relay (k - 1)

/-- A handle that stands for the device in the link table (log entry 12). -/
def deviceId : Nat := 0xFFFFF

/-- Key of the directed link from a sender to a listener (R147). -/
def linkKey (listener sender : Nat) : Nat := listener * 2 ^ 24 + sender

/-- One sample into an estimate (R147): q <- q + (sample - q)/8, rounded toward zero. -/
def linkStep (q sample : Nat) : Nat := if q ≤ sample then q + (sample - q) / 8 else q - (q - sample) / 8

/-- An estimate with a sample at a phase (R147). That the first sample at a phase where nothing was heard becomes q itself is
the model's choice (log entry 72). -/
def LinkEst.sample (l : LinkEst) (phase v now : Nat) : LinkEst :=
  { q := listUpd l.q phase (fun x => match x with | none => some v | some q => some (linkStep q v)), fresh := now }

/-- The device's estimate of the link of a frame's last hop on a power-line port (R147). -/
def State.linkHeard (s : State) (p : Nat) (b : Bytes) (up : Bool) (rx : Rx) : State :=
  match (if isRf p then none else lastHop b up) with
  | none => s
  | some sender =>
    { s with field := { s.field with
        links := tblUpd ⟨List.replicate 8 none, 0⟩ s.field.links (linkKey deviceId sender) (fun l => l.sample rx.phase.val rx.snr rx.stamp) } }

/-- A partner's record. -/
def State.partner (s : State) (h : Nat) : Option Partner := tblFind? s.field.partners h
def State.setPartner (s : State) (h : Nat) (f : Partner → Partner) : State :=
  match s.partner h with
  | none => s
  | some x => { s with field := { s.field with partners := tblPut s.field.partners h (f x) } }

/-- What a partner's record learns from a home-slot uplink's timing offset (R173): error in ppb, deviation bound over the
last eight, confidence. That e is the difference of two successive offsets over the time between them, and that the deviation
is taken from the error already updated, is the model's choice (log entry 72). -/
def Partner.learn (x : Partner) (stamp : Nat) (offset : Int) : Partner :=
  match x.lastUp with
  | none => { x with lastUp := some (stamp, offset) }
  | some (t, o) =>
    if stamp ≤ t then x
    else
      let e := (o - offset) * 1000000000000 / ((stamp - t : Nat) : Int)
      let err := x.err + (e - x.err).tdiv 4
      let devs := ((e - err).natAbs :: x.devs).take 8
      { x with lastUp := some (stamp, offset), err := err, devs := devs
               drift := max 50 (devs.foldl max 0 / 10), conf := min 8 (x.conf + 1) }

/-- What a received frame teaches of its radio partner (R173): only frames in a home slot are measured. -/
def State.learnDrift (s : State) (p h : Nat) (rx : Rx) : State :=
  if isRf p ∧ rx.offset ≠ 0x8000 then s.setPartner h (fun x => x.learn rx.stamp rx.offset.toInt) else s

/-- R152: blanking is on, and the frame has too many erasures or a fully blanked header symbol. -/
def State.impulseDrops (s : State) (p : Nat) (rx : Rx) : Bool :=
  s.pcfg p 3 1 != 0 && (rx.blanked || decide (s.pcfg p 3 3 * rx.samples < rx.erased * 100))

/-- R152: impulse noise drops the frame before acceptance. -/
def State.impulseDrop (s : State) (p gen : Nat) : State := (s.bumpPort p 4).raise 0x080 (linkWord p gen).toNat

/-- The transfers of a script: code, length and bytes of each item, the channel word in place of the last two bytes where the
item says so; n bounds the items (R158). -/
def scriptTransfers (word : Nat) : Nat → Bytes → List Bytes
  | 0, _ => []
  | n + 1, c :: l :: rest =>
    let m := l.toNat
    if c = 2 then scriptTransfers word n rest
    else
      (if c = 3 then rest.take (m - 2) ++ beBytes 2 word else rest.take m) :: scriptTransfers word n (rest.drop m)
  | _, _ => []

/-- A radio port's transceiver gets a script: 1 idle, 2 receive, 3 transmit, 4 channel, 5 RSSI; an empty one needs no
traffic (R158). -/
def State.runScript (s : State) (p k : Nat) : State :=
  let b := s.cfgOct ((portBase p + 2) * 256 + k)
  if b = [] then s else s.emit (.spi p (scriptTransfers (s.pcfg p 3 1) b.length b))

/-- What a power-line port measures of its line between frames (R133, R152, R155): the automatic gain in steps of 3 dB to
42 dB, the running RMS and the noise of a slot phase, which no command carries: open values (log entry 62). -/
def State.listen (s : State) (p : Nat) (rx : Rx) : State :=
  let g := s.openVal 96
  let r := g.2.openVal 97
  let n := r.2.openVal 98
  n.2.setFport p (fun x => { x with
    gain := 3 * (g.1.toNat % 15), rms := r.1.toNat % 65536, noise := listUpd x.noise rx.phase.val (fun _ => BitVec.ofInt 8 n.1) })

/-- Blanking left erasures in a frame (R152): none where it is off. -/
def State.erasures (s : State) (p : Nat) (rx : Rx) : Bool := !isRf p && s.pcfg p 3 1 != 0 && decide (0 < rx.erased)

/-- A power-line port whose receive path is muted hears no frame (R133). -/
def State.deaf (s : State) (p : Nat) (rx : Rx) : Bool := !isRf p && decide (rx.stamp < (s.fport p).muteTo)

/-- A frame is received on a port (R155, R158, R178): on radio an RSSI script, where there is one, reads the level. -/
def State.heard (s : State) (p : Nat) (rx : Rx) : State :=
  let s1 := (s.atNet rx.stamp).bumpPort p 1
  if isRf p then
    (if s.cfgOct ((portBase p + 2) * 256 + 5) = [] then s1 else (s1.runScript p 5).setFport p (fun x => { x with rssi := rx.rssi }))
  else
    let s2 := s1.listen p rx
    if s.erasures p rx && !s.impulseDrops p rx then s2.bumpPort p 6 else s2

/-- An acknowledgement is due on a port (R144, R170), with the sequence its decision waits for. -/
def State.ackDue (s : State) (p : Nat) (a : AckDue) : State := s.setFport p (fun x => { x with acks := x.acks ++ [a] })

/-- Code and body of a native command frame; a command frame without payload is a keep-alive (R143). -/
def nativeMac (f : NFrame) (body : Bytes) : Option (Nat × Bytes) :=
  if f.type = 3 then body.head?.map (fun c => (c.toNat, body.drop 1)) else none

/-- Counter of decisions without acknowledgement of a port (R155, R178). -/
def lateCounter (p : Nat) : Nat := if isRf p then 5 else 0x0A

/-- An accepted frame whose decision fell too late for its acknowledgement (R33). -/
def State.lateDecision (s : State) (p : Nat) : State := (s.bumpPort p (lateCounter p)).bumpAcc 9

/-- The latest decision that yields an acknowledgement has passed for a sequence (R33): its entry stands without one, and it is
decided as it is. -/
def State.decideLate (s : State) (p : Nat) (q : U64) : State :=
  ((s.setEntry q (fun e => { e with withheld := true })).lateDecision p).decideNow q

/-- A duplicate's acknowledgement waits while the frame it repeats is not yet decided and mirrored (R33, R186). -/
def State.dupAck (s : State) (a : AckDue) : AckDue := { a with wait := s.awaited a.handle, dup := true }

/-- The key that a meter's slot holds. -/
def State.meterKey (s : State) (h : Nat) : Bytes := ((tblFind? s.trust.meterSlot h).map (fun n => (s.slot n).key)).getD []

/-- A native data or command frame as acceptance takes it (R143, R144, R170, R184). That DOWNLINK_PENDING is set for command
0x05 alone, the one case the spec names, is the model's choice (log entry 72). -/
def nativeOffer (p : Nat) (f : NFrame) (rx : Rx) (erased : Bool) : Offer :=
  { src := p + 1, handle := f.handle, link := linkWord p (nativeGen p), digest := digestOf f.authed, port := some p, key := none
    op := .ccm, verify := f.content, rule := .counter f.counter
    ackOf := fun (key : Bytes) (c : U32) =>
      ackVar p f (if (nativeMac f ((f.content key).getD [])).map (·.1) == some 5 then 1 else 0) rx.offset key c
    macOf := nativeMac f, erasures := erased, stamp := rx.stamp, late := rx.late }

/-- Acceptance of a native data or command frame (R184), with its acknowledgement. -/
def State.acceptNative (s : State) (p : Nat) (f : NFrame) (rx : Rx) : State :=
  let q := s.acc.nextSeq
  let a := s.accept (nativeOffer p f rx (s.erasures p rx))
  let r : AccRes × State := (a.1, if a.1 = .accepted ∨ a.1 = .duplicate then a.2.learnDrift p f.handle rx else a.2)
  let c := (r.2.ctxOf f.handle).getD {}
  let ack := ackFrame p f c.ack
  -- R183, R186: the retained acknowledgement, its MIC computed over the retried frame's
  let again := ackFrame p f (ackVar p f (fieldAt c.ack 4 1) (BitVec.ofNat 16 (fieldAt c.ack 5 2)) (r.2.meterKey f.handle) c.counter)
  match r.1 with
  | .accepted =>
    if rx.late then r.2.decideLate p q
    else r.2.ackDue p { handle := f.handle, gen := nativeGen p, wait := if r.2.acc.deciding.any (fun d => d.seq == q) then some q.toNat else none, bytes := ack }
  | .duplicate => if rx.late then r.2 else r.2.ackDue p (r.2.dupAck { handle := f.handle, gen := nativeGen p, wait := none, bytes := again })
  | _ => r.2

/-- A native join request (R485): paced, verified under the network key, acknowledged, answered later; no acceptance. -/
def State.joinFrame (s : State) (p : Nat) (f : NFrame) (rx : Rx) : State :=
  if s.joinLimit p ≤ (s.fport p).joins then s.bumpPort p 7
  else
    let s0 := s.setFport p (fun x => { x with joins := x.joins + 1 })
    let k := s0.lineKey (some 1) (s0.netKey p) .ccm
    let fails := fun (t : State) => t.bumpPort p (if isRf p then 4 else 5)
    match k.1 with
    | none => fails k.2
    | some key =>
      match f.content key with
      | none => fails k.2
      | some body =>
        match nativeMac f body with
        | some (1, rest) =>
          let ack := ackFrame p f (ackVar p f 0 rx.offset key f.counter)
          let s1 := if rx.late then k.2 else k.2.ackDue p { handle := f.handle, gen := nativeGen p, wait := none, bytes := ack }
          { s1 with field := { s1.field with joinDue := s1.field.joinDue ++ [(p, f.handle, fieldAt rest 0 1)] } }
        | _ => k.2.bumpPort p (fmtCounter p)

/-- An acknowledgement that a port hears runs the way of its partner's own (R144, R147): none has been repeated yet, or it
answers the frame in flight to that partner. -/
def State.ackUp (s : State) (p : Nat) (b : Bytes) : Bool :=
  fieldAt b 0 1 % 4 == 0 ||
  (match s.partner (fieldAt b 3 3 % 2 ^ 20) with
   | none => false
   | some x => x.port == p && (x.flight.map (·.1)) == some (fieldAt b (6 + 3 * (fieldAt b 0 1 / 4 % 4)) 4))

/-- What a port does with any acknowledgement it hears (R143, R144, R147, R152, R155, R168): heard, dropped by impulse noise,
unsound or of another station, else a sample of its last hop's link; whether it is sound and of the port's own station. -/
def State.screenAck (s : State) (p : Nat) (b : Bytes) (rx : Rx) : Bool × State :=
  let n := fieldAt b 0 1 / 4 % 4
  let s1 := s.heard p rx
  if !isRf p && s.impulseDrops p rx then (false, s1.impulseDrop p (nativeGen p))
  else if n = 3 ∨ (isRf p ∧ n ≠ 0) ∨ b.length ≠ 6 + 3 * n + (if isRf p then 15 else 12) ∨ fieldAt b 1 2 = 0 then
    (false, s1.bumpPort p (fmtCounter p))
  else if fieldAt b 1 2 ≠ s.station p then (false, s1)
  else (true, s1.linkHeard p b (s.ackUp p b) rx)

/-- What a port checks of a native frame before it goes further (R143, R152, R167, R168); none where the frame is dropped or
ignored, with what that leaves. -/
def State.screenNative (s : State) (p : Nat) (b : Bytes) (rx : Rx) : Option NFrame × State :=
  let s1 := s.heard p rx
  if !isRf p && s.impulseDrops p rx then (none, s1.impulseDrop p 4)
  else match parseNative b with
  | none => (none, s1.bumpPort p (fmtCounter p))
  | some f =>
    if 4 ≤ f.type ∨ (fieldAt b 0 1 / 4 % 4 = 3) ∨ f.station = 0 then (none, s1.bumpPort p (fmtCounter p))
    else if f.station ≠ s.station p then (none, s1)
    else if isRf p ∧ (f.relays ≠ [] ∨ rfLimit (s.pcfg p 3 2) < f.len) then (none, s1.bumpPort p (fmtCounter p))
    else if 256 < f.len then (none, s1.bumpPort p (fmtCounter p))
    else
      let s2 := s1.linkHeard p b f.uplink rx
      if !f.uplink ∨ f.type = 1 ∨ f.type = 2 then (none, s2)
      else (some f, s2)

/-- A beacon's form is sound (R143, R145, R168, R169): its relay count, station, broadcast handle, length, backoff and, on
radio, superframe exponent. -/
def State.beaconForm (s : State) (p : Nat) (b : Bytes) : Bool :=
  let n := fieldAt b 0 1 / 4 % 4
  let body := if isRf p then 13 else 22 + 3 * n
  n != 3 && (!isRf p || n == 0) && fieldAt b 1 2 == s.station p && fieldAt b 3 3 % 2 ^ 20 == 0xFFFFF && b.length == body + 16 &&
  fieldAt b (if isRf p then 11 else 12 + 3 * n) 1 != 0 && (!isRf p || fieldAt b 10 1 / 32 != 7)

/-- A beacon's authenticated part verifies under the network key (R145, R169): nonce with handle 0xFFFFF and, as counter,
the low 32 bits of the cycle number or the network seconds. -/
def beaconOk (p : Nat) (b key : Bytes) : Bool :=
  let n := fieldAt b 0 1 / 4 % 4
  let body := if isRf p then 13 else 22 + 3 * n
  (Config.ccmOpen key (nativeNonce (fieldAt b 1 2) 0xFFFFF (fieldAt b (6 + 3 * n) 4) false)
    (maskHops (b.take body)) [] (b.drop body)).isSome

/-- A received beacon (R145, R147, R152, R169): blanked ones and those of unsound form are dropped; a relayed one tells of
its last hop; on a Standby a valid one restarts the count of those missed (R174). -/
def State.beaconRx (s : State) (p : Nat) (b : Bytes) (rx : Rx) : State :=
  let s1 := s.heard p rx
  if !isRf p && s.impulseDrops p rx then s1.impulseDrop p 4
  else if s.beaconForm p b = false then (if fieldAt b 0 1 / 4 % 4 = 3 ∨ isRf p ∧ fieldAt b 0 1 / 4 % 4 ≠ 0 then s1.bumpPort p (fmtCounter p) else s1)
  else
    let s2 := s1.linkHeard p b false rx
    if !s.isStandby then s2
    else
      let k := s2.lineKey (some 1) (s2.netKey p) .ccm
      if (k.1.map (beaconOk p b)) = some true then k.2.setFport p (fun x => { x with missed := 0 }) else k.2

/-- A native frame on a port of a unit that takes frames. -/
def State.nativeRx (s : State) (p : Nat) (b : Bytes) (rx : Rx) : State :=
  if !s.isNative p || s.deaf p rx then s
  else if fieldAt b 0 1 / 32 = 2 then s.beaconRx p b rx
  else if fieldAt b 0 1 / 32 = 1 then (s.screenAck p b rx).2
  else
    let q := s.screenNative p b rx
    match q.1 with
    | none => q.2
    | some f =>
      if !q.2.takesFrames then q.2.turnedAway
      else if f.keyIndex = 1 then (if f.type = 3 then q.2.joinFrame p f rx else q.2.bumpPort p (fmtCounter p))
      else q.2.acceptNative p f rx

/-- The memory, crypto and protocol islands run (R23, R25), and ACCEPT's crypto time is not exhausted (R219); before the first
period nothing is budgeted. -/
def State.pathRuns (s : State) : Bool :=
  [2, 3, 6].all (fun i => s.pwr.islands.getD i .held == .running) && (!s.cas.begun || s.mayUse 1 1)

/-- What arrives while an island of the path is held, or ACCEPT is exhausted, waits at its source (R25, R219, R223): a full queue gives up its oldest
telemetry entry for any newcomer, and discards the newcomer where it holds none. -/
def State.holdInput (s : State) (src : Nat) (w : Inbound) : State :=
  let x : Held := { billing := s.cfgN (0x902200 + src) != 2, src := src, what := w }
  let mine := s.acc.inputs.filter (fun y => y.src == src)
  let push := fun (t : State) => { t with acc := { t.acc with inputs := t.acc.inputs ++ [x] } }
  let drop := fun (t : State) =>
    let t1 := t.bumpAcc 8
    { t1 with cas := { t1.cas with refusals := tblUpd 0 t1.cas.refusals src (· + 1) } }
  if s.pwr.acceptReady = false then s
  else if mine.length < s.cfgN (0x902300 + src) then push s
  else match mine.find? (fun y => !y.billing) with
  | some old => push (drop { s with acc := { s.acc with inputs := s.acc.inputs.erase old } })
  | none => drop s

/-- A frame that arrives while an island of the path is held. -/
def State.holdFrame (s : State) (src gen p : Nat) (f : StdFrame) (rx : Rx) : State := s.holdInput src (.frame gen p f rx)

/-- A request that reaches acceptance waits at its source while an island of the path is held (R25). -/
def State.orWait (s : State) (src : Nat) (c : Instr) (t : State) : State :=
  if s.pathRuns ∨ s.pwr.acceptReady = false then t else s.holdInput src (.request c)

/-- R184: a native data or command frame received on a port. -/
def execNativeFrameRx (port : Fin 24) (bytes : Bytes) (rx : Rx) (s : State) : Result :=
  .next (if s.pathRuns then s.nativeRx port.val bytes rx
    else s.holdFrame (port.val + 1) (nativeGen port.val) port.val { handle := 0, counter := 0, bytes := bytes } rx)

/-- R485: a native join request received on a port. -/
def execJoinRequest (port : Fin 24) (bytes : Bytes) (rx : Rx) (s : State) : Result :=
  .next (if s.pathRuns then s.nativeRx port.val bytes rx
    else s.holdFrame (port.val + 1) (nativeGen port.val) port.val { handle := 0, counter := 0, bytes := bytes } rx)

/-- The first acknowledgement due on a port that a predicate picks, taken out of its queue. -/
def FieldPort.takeAck (x : FieldPort) (ok : AckDue → Bool) : Option AckDue × FieldPort :=
  match x.acks.find? ok with
  | none => (none, x)
  | some a => (some a, { x with acks := x.acks.erase a })

/-- A native power-line port and S-FSK transmit nothing until the tracker has first been LOCKED after reset, a native radio
port until its first beacon is due (R141, R175); other generations do not wait. -/
def State.portBegun (s : State) (p gen : Nat) : Bool :=
  if gen == 4 || gen == 5 then s.time.everLocked else if gen == 8 then (s.fport p).began else true

/-- The unit's transmitter on a port is its own (R38, R134, R157): it acts in the field, has won the claim in a pair, runs
its microcode, and the port is enabled. -/
def State.lineOurs (s : State) (p : Nat) : Bool :=
  s.acting && !s.upd.down.contains 3 && (s.pair.role == .solo || s.pair.won) &&
  s.pcfg p (if isRf p then 0 else 1) (if isRf p then 2 else 3) == 1

/-- R158: an enabled radio port's transceiver is set to its channel and enters receive, on a Standby as well, which listens
(R174); any other port's enters idle. -/
def State.radioApplied (s : State) (p : Nat) : State :=
  if s.isUp 6 = false then s
  else if s.pcfg p 0 2 = 1 ∧ s.upd.down.contains 3 = false then (s.runScript p 4).runScript p 2 else s.runScript p 1

/-- The enabled radio ports once the protocol island runs (R157, R158). -/
def State.radiosUp (s : State) : State :=
  ((List.range 12).map (· + 12)).foldl (fun (t : State) (p : Nat) => if s.pcfg p 0 2 = 1 then t.radioApplied p else t) s

/-- The seconds of the duty window (R164). -/
def dutyPrune (now : Nat) (l : List (Nat × Nat)) : List (Nat × Nat) := l.filter (fun x => now < x.1 + 3600)

/-- Transmit time of the last 3,600 s in us (R164). -/
def dutySum (l : List (Nat × Nat)) : Nat := l.foldl (fun n x => n + x.2) 0

/-- Air time in us of a native radio frame of n bytes with preamble, SFD, PHR and FCS (R167). -/
def airtime (rate n : Nat) : Nat := (n + 16) * 8 * 1000000 / max rate 1

/-- A transmission of a number of us on a radio port counted in the duty sum (R164). -/
def State.countAir (s : State) (p us : Nat) : State :=
  if isRf p then
    let now := s.time.net / 1000000000
    s.setFport p (fun x => { x with duty := (now, us) :: dutyPrune now x.duty })
  else s

/-- Air time in us of a frame of a standard, which the spec leaves to it, at most the 25 ms of R164 (log entry 62). -/
def State.stdAir (s : State) : Nat × State := let v := s.openVal 100; (v.1.toNat % 25001, v.2)

/-- A port puts a transmission of a generation out (R133 to R135, R158): on the line, TXEN with its lead and lag, the
receive path muted until 30 us after its end, which is open (log entry 62), and the level halved while one of another generation
lasts; on radio, the transmit script with RFq_TXEN before it and the receive script after it (R157). -/
def State.drive (s : State) (p gen : Nat) : State :=
  if isRf p then ((s.runScript p 3).emit (.txen p (s.pcfg p 1 3))).runScript p 2
  else
    let d := s.openVal 99
    let now := s.time.net
    let fin := now + d.1.toNat
    let shared := (s.fport p).sending.any (fun x => x.1 != gen && decide (now < x.2))
    (d.2.setFport p (fun x => { x with
      sending := (gen, fin) :: x.sending.filter (fun y => decide (now < y.2)), muteTo := max x.muteTo (fin + 30000) })).emit
      (.drive p gen (s.pcfg p 2 4) (s.pcfg p 2 5) (s.pcfg p 2 3 * (if shared then 1 else 2)))

/-- An acknowledgement leaves a port, or is dropped where the port transmits nothing (R38, log entry 58). Where the frame is not
yet mirrored none is sent: of the frame itself the decision is taken without it (R33), of a duplicate nothing else changes
(R186). -/
def State.sendAck (s : State) (p : Nat) (ok : AckDue → Bool) (send : AckDue → State → State) : State :=
  let t := (s.fport p).takeAck ok
  match t.1 with
  | none => s
  | some a =>
    let s1 := s.setFport p (fun _ => t.2)
    match a.wait with
    | none => if s.portBegun p a.gen && s.lineOurs p then (((send a (s1.drive p a.gen))).bumpPort p 3).bumpPort p 9 else s1
    | some q => if a.dup then s1 else s1.decideLate p (BitVec.ofNat 64 q)

/-- R144: 500 us after the end of the frame. -/
def execNativePlcAckTx (port : Fin 12) (s : State) : Result :=
  .next (s.sendAck port.val (fun a => a.gen == 4) (fun a t => t.emit (.field port.val a.bytes)))

/-- R170: 200 us after the end of the frame at the antenna. -/
def execNativeRadioAckTx (port : Fin 12) (s : State) : Result :=
  let p := port.val + 12
  .next (s.sendAck p (fun a => a.gen == 8) (fun a t =>
    (t.emit (.field p a.bytes)).countAir p (airtime (s.pcfg p 3 2) a.bytes.length)))

/-- The acknowledgement or response of a standard leaves (R139, R161 to R163), its air time counted on radio (R164). -/
def State.emitStdAck (s : State) (p : Nat) (a : AckDue) : State :=
  let t := s.emit (.stdAck p a.gen a.handle a.link)
  if isRf p then t.stdAir.2.countAir p t.stdAir.1 else t

/-- R139, R162, R163: the acknowledgement that a standard prescribes, after acceptance. -/
def execStandardAckTx (port : Fin 24) (s : State) : Result :=
  .next (s.sendAck port.val (fun a => a.gen != 4 && a.gen != 8 && a.gen != 5) (fun a t => t.emitStdAck port.val a))

/-- R452: the OCB acknowledgement in the first S-FSK timeslot after the frame's last one. -/
def execOcbAckTx (port : Fin 12) (s : State) : Result :=
  .next (s.sendAck port.val (fun a => a.gen == 5) (fun a t => t.emitStdAck port.val a))

end Sys2Proof.Machine
end

