-- ==== Sys2Proof/Machine/Partners.lean ====
section
/-! DEFINITION. Partners of the field ports: joins and removals (R125, R181, R485), key records (R124, R182), the native MAC
commands (R146, R151, R171, R173), link estimates and paths (R147, R148), and downlinks (R144, R166, R170, R173). -/

namespace Sys2Proof.Machine

/-- Image of a context slot (R180). -/
def Ctx.image (c : Ctx) (h : Nat) : Bytes :=
  let ident := 2 ^ 31 + bit c.pinned * 2 ^ 30 + bit c.remote * 2 ^ 29 + bit c.counterValid * 2 ^ 28 + bit c.seqValid * 2 ^ 27 +
    bit c.dirty * 2 ^ 26 + h
  leBytes 4 ident ++ leBytes 4 c.keyHandle.toNat ++ leBytes 4 c.counter.toNat ++ leBytes 4 c.keyVersion.toNat ++ c.digest ++ c.ack ++
    leBytes 8 c.jseq.toNat ++ time64 c.lastAt ++ leBytes 2 c.link.toNat ++ leBytes 2 c.dups.toNat ++ leBytes 2 c.replays.toNat ++
    leBytes 2 c.lowers.toNat ++ leBytes 4 c.invoc.toNat ++ leBytes 8 c.seqTick ++ [c.lastSeq, c.access] ++ leBytes 2 c.invReplays.toNat ++
    List.replicate 44 0

/-- The context that an image spells (R180). -/
def Ctx.ofImage (b : Bytes) : Ctx :=
  let w := fieldAt b 0 4
  { pinned := w / 2 ^ 30 % 2 == 1, remote := w / 2 ^ 29 % 2 == 1, counterValid := w / 2 ^ 28 % 2 == 1, seqValid := w / 2 ^ 27 % 2 == 1,
    dirty := w / 2 ^ 26 % 2 == 1, keyHandle := BitVec.ofNat 32 (fieldAt b 4 4), counter := BitVec.ofNat 32 (fieldAt b 8 4),
    keyVersion := BitVec.ofNat 32 (fieldAt b 12 4), digest := slice b 16 8, ack := slice b 24 16, jseq := BitVec.ofNat 64 (fieldAt b 40 8),
    lastAt := ofTime64 (slice b 48 12), link := BitVec.ofNat 16 (fieldAt b 60 2), dups := BitVec.ofNat 16 (fieldAt b 62 2),
    replays := BitVec.ofNat 16 (fieldAt b 64 2), lowers := BitVec.ofNat 16 (fieldAt b 66 2), invoc := BitVec.ofNat 32 (fieldAt b 68 4),
    seqTick := fieldAt b 72 8, lastSeq := BitVec.ofNat 8 (fieldAt b 80 1), access := BitVec.ofNat 8 (fieldAt b 81 1),
    invReplays := BitVec.ofNat 16 (fieldAt b 82 2) }

/-- Mirror a change of a meter's context (R380). -/
def State.mirrorCtx (s : State) (h : Nat) : State :=
  match s.ctxOf h with
  | some c => s.mirror .contextChange h (c.image h)
  | none =>
    match tblFind? s.acc.ctxMem h with
    | some c => s.mirror .contextChange h (c.image h)
    | none => s

/-- A meter's context pinned in the context store, from wherever it was, or new (R181), with its snapshot (R183); a full store
gives up the least recently used remote context for it. -/
def State.pinCtx (s0 : State) (h : Nat) : State :=
  let s := if (s0.ctxOf h).isNone ∧ 16384 ≤ s0.acc.ctx.length then s0.evictCtx else s0
  let c := match s.ctxOf h with
    | some c => c
    | none => (tblFind? s.acc.ctxMem h).getD {}
  ({ s with acc := { s.acc with
      ctx := tblPut s.acc.ctx h { c with pinned := true, remote := false, dirty := false }
      ctxMem := tblDel s.acc.ctxMem h
      cache := s.acc.cache.erase h } }).snapshot h

/-- A partner's key slot and context pinned (R125, R181, R485); none where a 12,289th slot would be pinned. -/
def State.pinPartner (s : State) (h : Nat) : Option State :=
  if s.trust.pins.contains h then some s
  else if 12288 ≤ s.trust.pins.length then none
  else
    let s1 := { s with trust := { s.trust with pins := s.trust.pins ++ [h], lru := s.trust.lru.erase h } }
    let k := s1.loadKey h
    let s2 := match k.1 with
      | none => k.2
      | some n => k.2.setSlot n { (k.2.slot n) with attr := (k.2.slot n).attr ||| 1 }
    some (((s2.pinCtx h).noteHandle h).mirrorCtx h)

/-- A partner joins a port (R485): its slot and context pinned and its record begun, keeping the device's frame counter for
it; on a radio port it has no path (R168). Its capture objects are written (R256). -/
def State.joinPartner (s : State) (p h gen : Nat) : Option State :=
  (s.pinPartner h).map (fun t =>
    let c := tblFind? t.field.joinPaths h
    let fresh : Partner :=
      { port := p, gen := gen, txCounter := tblGet 0 t.field.joinCtr h, path := (c.map (·.1)).getD [], hasPath := c.isSome, known := c.isSome
        span := (c.map (·.2)).getD 1 }
    let old := (t.partner h).getD fresh
    let kept := if isRf p then { old with path := [], cost := 255, hasPath := false, known := false } else old
    (({ t with field := { t.field with
        joinCtr := tblDel t.field.joinCtr h, joinPaths := tblDel t.field.joinPaths h
        partners := tblPut t.field.partners h { kept with port := p, gen := gen, joined := true, sync := 1, unacked := 0 } } }).emit
          (.meter h .captureObjects)).produce 6 (0xC00 + p) 2 h 6 false)

/-- R181: a direct partner is removed: in Head-end profile it becomes a remote meter, in Station profile it leaves use. -/
def State.removePartner (s : State) (h : Nat) : State :=
  let s1 := match tblFind? s.trust.meterSlot h with
    | none => s
    | some n => s.zeroize n
  let c := (s1.ctxOf h).getD {}
  let s2 : State := { s1 with
    trust := { s1.trust with
      pins := s1.trust.pins.erase h
      meterSlot := tblDel s1.trust.meterSlot h
      meters := if s.keepsRemote then s1.trust.meters else tblDel s1.trust.meters h }
    field := { s1.field with partners := tblDel s1.field.partners h }
    acc := { s1.acc with
      ctx := tblDel s1.acc.ctx h
      snaps := tblDel s1.acc.snaps h
      ctxMem := if s.keepsRemote then tblPut s1.acc.ctxMem h { c with pinned := false, remote := true } else s1.acc.ctxMem } }
  s2.mirror .contextChange h (List.replicate 128 0)

/-- Two wake patterns that never share an active superframe (R166). -/
def wakeDisjoint (p phi p' phi' : Nat) : Bool := let m := 2 ^ min p p'; phi % m != phi' % m

/-- The first slot pair and wake phase free on a radio port for a wake exponent, in order of second, slot and phase (R166,
log entry 13). -/
def State.freePair (s : State) (p h wake : Nat) : Option (Nat × Nat × Nat × Nat) :=
  let held := s.field.partners.filterMap (fun x => if x.2.port = p ∧ x.1 ≠ h then x.2.slot else none)
  let secs := 2 ^ s.pcfg p 6 2
  ((List.range secs).flatMap (fun k => (List.range 12).flatMap (fun i => (List.range (2 ^ wake)).map (fun phi => (k, i + 4, wake, phi))))).find?
    (fun c => held.all (fun x => x.1 != c.1 || x.2.1 != c.2.1 || wakeDisjoint x.2.2.1 x.2.2.2 wake c.2.2.2))

/-- A native downlink frame (R143): its head, then the sealed payload. -/
def nativeFrame (type : Nat) (station h : Nat) (relays : List Nat) (counter keyIndex : Nat) (key payload : Bytes) : Bytes :=
  let head := [BitVec.ofNat 8 (type * 32 + 4 * relays.length)] ++ leBytes 2 station ++ leBytes 3 h ++ relays.flatMap (leBytes 3) ++
    leBytes 4 counter ++ leBytes 1 keyIndex ++ leBytes 2 payload.length
  head ++ Config.ccmSeal key (nativeNonce station h counter false) head payload

/-- A frame leaves a field port: output, counter, duty (R155, R164, R178). -/
def State.transmit (s : State) (p : Nat) (b : Bytes) : State :=
  (((s.drive p (nativeGen p)).emit (.field p b)).bumpPort p 9).countAir p (airtime (s.pcfg p 3 2) b.length)

/-- The unit may transmit on a port (R38, R134, R157): the transmitter is its own and no power-fail warning holds. -/
def State.mayTransmit (s : State) (p : Nat) : Bool := s.lineOurs p && !s.pwr.pfw

/-- Offset in ns of a phase's crossing after ZC_A (R141): the last one measured since reset, else the nominal third. -/
def State.phaseOffset (s : State) (ph : Nat) : Int :=
  match ph with
  | 2 => s.time.lastB.getD (s.time.period / 3 : Nat)
  | 3 => s.time.lastC.getD (2 * s.time.period / 3 : Nat)
  | _ => 0

/-- Start of slot 0 after the ZC_A crossing, in us (R141, R145). -/
def State.slotOffset (s : State) (p : Nat) : Int :=
  s.phaseOffset (s.pcfg p 2 1) / 1000 + s.cfgI 4 ((portBase p + 6) * 256 + 3)

/-- How far a port's slot grid still lies behind the re-locked phase, ns (R142, R150): the displacements since its last beacon
cycle, at which the grid moves. -/
def State.gridLag (s : State) (p : Nat) : Int :=
  let c := s.time.cycle.toNat
  let beacon := c - c % 2 ^ s.pcfg p 6 2
  ((s.time.slips.filter (fun x => decide (beacon < x.1.toNat) && decide (x.1.toNat ≤ c))).map (·.2)).sum

/-- The cycle and the slot phase that now lies in, on a power-line port's grid (R141, R150). -/
def State.cycleSlot (s : State) (p : Nat) : Int × Nat :=
  let t : Int := max 1 s.time.period
  let d : Int := (s.time.net : Int) - (s.time.lastStamp.getD s.time.net : Nat) + s.gridLag p - s.slotOffset p * 1000
  ((s.time.cycle.toNat : Int) + d / t, ((d % t) * 8 / t).toNat)

/-- A downlink frame that takes a number of slots may start now on a power-line port (R142): in slots 0 to 3 of a cycle that
is no beacon cycle, where it ends before the next beacon slots. -/
def State.downSlot (s : State) (p span : Nat) : Bool :=
  let c := s.cycleSlot p
  let len : Nat := 2 ^ s.pcfg p 6 2
  let r := (c.1 % (len : Int)).toNat
  r != 0 && decide (c.2 < 4) && decide (c.2 + span ≤ (len - r) * 8)

/-- The slot that now lies in on a radio port is not one that a step of time makes it skip (R176). -/
def State.slotKept (s : State) : Bool := decide (s.field.skipTo ≤ s.time.net - s.time.net % 31250000)

/-- The slot of its second that now lies in (R165). -/
def State.rfSlot (s : State) : Nat := s.time.net % 1000000000 / 31250000

/-- Superframe number of a radio port (R165). -/
def State.superframe (s : State) (p : Nat) : Nat := s.time.net / 1000000000 / 2 ^ s.pcfg p 6 2

/-- Now is the downlink slot of a partner in an active superframe of its own (R166). -/
def State.homeSlot (s : State) (p : Nat) (x : Partner) : Bool :=
  let sec := s.time.net / 1000000000
  let b := s.pcfg p 6 2
  match x.slot with
  | none => false
  | some (k, n, e, phi) => sec % 2 ^ b == k && s.rfSlot == n + 16 && sec / 2 ^ b % 2 ^ e == phi

/-- A partner's downlink slot is now, and none of this superframe's has carried a frame to it (R166, R173). -/
def State.homeOpen (s : State) (p : Nat) (x : Partner) : Bool := s.homeSlot p x && x.homeSf != some (s.superframe p)

/-- A native frame of the device may start now (R142, R165, R171, R172): at a downlink-start slot; on radio in slots 16 to
19, or a data frame in its partner's downlink slot, which is the only place for what waited for a resynchronised partner
(R173). -/
def State.slotOpen (s : State) (p span : Nat) (home : Option Partner) : Bool :=
  if isRf p then
    s.slotKept && ((decide (16 ≤ s.rfSlot) && decide (s.rfSlot ≤ 19) && (home.map (·.draining)) != some true) ||
      (home.map (s.homeOpen p)) == some true)
  else s.downSlot p span

/-- Whether a radio frame of some us fits the duty limit (R164). -/
def State.dutyFits (s : State) (p us : Nat) : Bool :=
  !isRf p || decide (dutySum (dutyPrune (s.time.net / 1000000000) (s.fport p).duty) + us ≤ s.pcfg p 3 3 * 3600000)

/-- A frame that does not fit the duty limit is counted once as deferred (R164). -/
def State.defer (s : State) (p h code : Nat) : State :=
  if (s.fport p).deferred.contains (h, code) then s
  else (s.setFport p (fun x => { x with deferred := (h, code) :: x.deferred })).bumpPort p 8

/-- A deferred frame has been sent (R164). -/
def State.undefer (s : State) (p h code : Nat) : State :=
  s.setFport p (fun x => { x with deferred := x.deferred.filter (· != (h, code)) })

/-- The device's next frame counter for a handle (R143, R485). -/
def State.txCount (s : State) (h : Nat) : U32 :=
  match s.partner h with | some x => x.txCounter | none => tblGet 0 s.field.joinCtr h

/-- One frame counter used for a handle (R143, R485). -/
def State.txUsed (s : State) (h : Nat) : State :=
  match s.partner h with
  | some _ => s.setPartner h (fun x => { x with txCounter := x.txCounter + 1 })
  | none => { s with field := { s.field with joinCtr := tblUpd 0 s.field.joinCtr h (· + 1) } }

/-- Relays of the path chosen to a handle and the slots that a frame takes on it with its acknowledgement (R142, R148), none
while a power-line port has no path to it; a radio frame has no relays (R168). That the acknowledgement takes one slot for
each hop back is the model's reading (log entry 74). -/
def State.routeTo (s : State) (p h : Nat) : Option (List Nat × Nat) :=
  if isRf p then some ([], 1)
  else match s.partner h with
  | some x => if x.hasPath then some (x.path, x.span + x.path.length + 1) else none
  | none => (tblFind? s.field.joinPaths h).map (fun c => (c.1, c.2 + c.1.length + 1))

/-- A command frame to a partner leaves now, under its own or the network key (R146, R171); none where it has to wait: for the
port, a path, a slot or the duty limit. Without a key there is no frame. -/
def State.sendCommand (s : State) (p h code : Nat) (body : Bytes) (network : Bool) : Option State :=
  match s.routeTo p h with
  | none => none
  | some (path, span) =>
    if !s.mayTransmit p || !s.portBegun p (nativeGen p) || !s.slotOpen p span none || !s.isUp 2 then none
    else
      let k := if network then s.lineKey none (s.netKey p) .ccm else s.lineMeterKey none h .ccm
      match k.1 with
      | none => some k.2
      | some key =>
        let b := nativeFrame 3 (s.station p) h path (s.txCount h).toNat (bit network) key (BitVec.ofNat 8 code :: body)
        if s.dutyFits p (airtime (s.pcfg p 3 2) b.length) then some (((k.2.transmit p b).txUsed h).undefer p h code) else none

/-- A command frame that waits for the duty limit is counted (R164). -/
def State.commandWaits (s : State) (p h code : Nat) : State :=
  if isRf p ∧ s.mayTransmit p = true ∧ s.portBegun p 8 = true ∧ s.slotOpen p 1 none = true then s.defer p h code else s

/-- R485: the join response: status 1 without a valid key record, 2 without a free slot pair, else 0 once the key slot and
context are pinned; no response where the pin limit is met. None where it has to wait. That a wake exponent above 6 is answered
with status 2, and a request without one counts as exponent 0, is the model's choice (log entry 72). -/
def State.joinResponse (s : State) (p h wake : Nat) : Option State :=
  if s.keyVersionOf h = 0 then s.sendCommand p h 2 [1] true
  else
    let pair := if isRf p then s.freePair p h wake else some (0, 0, 0, 0)
    if (isRf p ∧ 6 < wake) ∨ pair = none then s.sendCommand p h 2 [2] true
    else match s.joinPartner p h (if isRf p then 3 else 4) with
    | none => some (s.raise 0x203 h)
    | some t =>
      (if isRf p then t.setPartner h (fun x => { x with slot := pair, assignDue := true }) else t).sendCommand p h 2 [0] true

/-- R485, R125: the first join response due on a port; one that has to wait stays due. -/
def execJoinResponse (port : Fin 24) (s : State) : Result :=
  .next (match s.field.joinDue.find? (fun x => x.1 == port.val) with
    | none => s
    | some d =>
      match ({ s with field := { s.field with joinDue := s.field.joinDue.erase d } } : State).joinResponse port.val d.2.1 d.2.2 with
      | some t => t
      | none => s.commandWaits port.val d.2.1 2)

/-- R171: command 0x06 to a partner whose assignment is due; one that has to wait stays due. -/
def execSlotAssignmentTx (port : Fin 12) (s : State) : Result :=
  let p := port.val + 12
  .next (match s.field.partners.find? (fun x => x.2.port == p && x.2.assignDue) with
    | none => s
    | some (h, x) =>
      let a := x.slot.getD (0, 0, 0, 0)
      match (s.setPartner h (fun y => { y with assignDue := false })).sendCommand p h 6
        (leBytes 1 a.1 ++ leBytes 1 a.2.1 ++ leBytes 1 a.2.2.1 ++ leBytes 1 a.2.2.2) false with
      | some t => t
      | none => s.commandWaits p h 6)

/-- R173: command 0x07: learned error in ppb, twice the drift bound, confidence 1; one that has to wait stays due. -/
def execTimingHintTx (port : Fin 24) (s : State) : Result :=
  let p := port.val
  .next (match s.field.partners.find? (fun x => x.2.port == p && x.2.hintDue) with
    | none => s
    | some (h, x) =>
      match (s.setPartner h (fun y => { y with hintDue := false })).sendCommand p h 7
        (leBytes 4 (ofSigned 32 x.err) ++ leBytes 2 (min 65535 (2 * x.drift)) ++ [1]) false with
      | some t => t
      | none => s.commandWaits p h 7)

/-- A decided MAC command of a port that a predicate on the code picks, taken out (R146). -/
def State.takeMac (s : State) (p : Nat) (ok : Nat → Bool) : Option MacCmd × State :=
  match s.field.mac.find? (fun m => m.port == p && ok m.code) with
  | none => (none, s)
  | some m => (some m, { s with field := { s.field with mac := s.field.mac.erase m } })

/-- One entry of a neighbour report (R146): eight SNR values, 0xFF not heard. -/
def neighbourEntry (body : Bytes) (i : Nat) : Nat × List (Option Nat) :=
  (fieldAt body (1 + 11 * i) 3 % 2 ^ 20,
    (List.range 8).map (fun j => let v := fieldAt body (4 + 11 * i + j) 1; if v = 0xFF then none else some v))

/-- R146, R147: a report replaces the reported links' values; an empty one removes every link of the reporter. -/
def State.neighbours (s : State) (h : Nat) (body : Bytes) : State :=
  let n := fieldAt body 0 1
  if n = 0 then { s with field := { s.field with links := s.field.links.filter (fun x => x.1 / 2 ^ 24 != h) } }
  else
    { s with field := { s.field with
        links := (List.range n).foldl (fun t i =>
          let e := neighbourEntry body i
          tblPut t (linkKey h e.1) ⟨e.2, s.time.net⟩) s.field.links } }

/-- R146: command 0x03 at its decision. -/
def execNeighbourReport (port : Fin 12) (s : State) : Result :=
  let t := s.takeMac port.val (· == 3)
  .next (match t.1 with
    | none => s
    | some m =>
      if 8 < fieldAt m.body 0 1 ∨ m.body.length ≠ 1 + 11 * fieldAt m.body 0 1 then t.2.bumpPort port.val (fmtCounter port.val)
      else t.2.neighbours m.handle m.body)

/-- Distance of two offsets modulo a period. -/
def modDist (a b t : Int) : Int := let d := (a - b) % t; min d (t - d)

/-- Offset in ns of a phase's crossing in a cycle, from the crossing table (R79, R151), else as R141 falls back. -/
def State.cycleOffset (s : State) (c : Option Cycle) (ph : Nat) : Int :=
  let e := c.bind (fun n => s.time.table.find? (fun x => x.num == n))
  match ph with
  | 2 => (e.bind (·.offB)).getD (s.phaseOffset 2)
  | 3 => (e.bind (·.offC)).getD (s.phaseOffset 3)
  | _ => 0

/-- The phase nearest to a crossing offset (us) of a cycle, with its distance (R151). -/
def State.nearestPhase (s : State) (c : Option Cycle) (off : Int) : Nat × Int :=
  let t := max 1 ((s.time.period : Int) / 1000)
  [(2 : Nat), 3].foldl (fun best ph =>
    let d := modDist off (s.cycleOffset c ph / 1000) t
    if d < best.2 then (ph, d) else best) (1, modDist off 0 t)

/-- A report of a crossing offset votes for a partner's phase; three in a row record it, and one out of tolerance breaks the
run (R151). -/
def State.votePhase (s : State) (p h : Nat) (c : Option Cycle) (off : Int) : State :=
  let n := s.nearestPhase c off
  if (s.pcfg p 6 0x0B : Int) < n.2 then (s.setPartner h (fun x => { x with candidate := (0, 0) })).bumpPort p 0x0C
  else s.setPartner h (fun x =>
    let c := if x.candidate.1 = n.1 then x.candidate.2 + 1 else 1
    { x with candidate := (n.1, c), phase := if 3 ≤ c then n.1 else x.phase, offset := if 3 ≤ c then off else x.offset })

/-- A member's record of the balance engine. -/
def State.member (s : State) (h : Nat) : Member := tblGet {} s.bal.mems h

/-- Change a member's record. -/
def State.setMember (s : State) (h : Nat) (f : Member → Member) : State :=
  { s with bal := { s.bal with mems := tblUpd {} s.bal.mems h f } }

/-- A meter's inferred phase is another than that of its kind 2 segment (R267). -/
def State.wrongPhase (s : State) (h : Nat) : Bool :=
  let g := s.cfgN 0xC04001 h
  let ph := (s.member h).phase
  g != 0xFFFF && s.cfgN 0x611101 g == 2 && ph != 0 && s.cfgN 0x611103 g != ph

/-- A member found on a wrong phase is not scored, and its conflict is raised once (R267). -/
def State.judgeMember (s : State) (h : Nat) : State :=
  let w := s.wrongPhase h
  let s1 := s.setMember h (fun m => { m with wrong := w, st := if w then 1 else m.st })
  if w ∧ (s.member h).wrong = false then s1.raise 0x117 h else s1

/-- An offset within a tolerance of a phase votes for a member's phase; three in a row infer it (R267). A conflict with the
recorded phase is raised when the inferred phase changes; one with the phase of a kind 2 segment when it is found. -/
def State.inferPhase (s : State) (h : Nat) (c : Option Cycle) (off tol : Int) : State :=
  let n := s.nearestPhase c off
  if tol < n.2 then s
  else
    let m := s.member h
    let k := if m.cand = n.1 then min (m.votes + 1) 3 else 1
    let ph := if 3 ≤ k then n.1 else m.phase
    let rec_ := ((tblFind? s.field.partners h).map (·.phase)).getD 0
    let s1 := s.setMember h (fun x => { x with cand := n.1, votes := k, phase := ph })
    let s2 := if ph ≠ m.phase ∧ rec_ ≠ 0 ∧ rec_ ≠ ph ∧ s1.wrongPhase h = false then s1.raise 0x117 h else s1
    (if ph ≠ m.phase then s2.setMember h (fun x => { x with wrong := false }) else s2).judgeMember h

/-- R151: command 0x04 at its decision: the offset of the partner's crossing from the slot offset that the last beacon sent
carried. -/
def execPhaseReport (port : Fin 12) (s : State) : Result :=
  let t := s.takeMac port.val (· == 4)
  .next (match t.1 with
    | none => s
    | some m =>
      let last := (s.fport port.val).lastBeacon
      let off := ((last.map (·.2)).getD (s.slotOffset port.val) - toSigned 32 (fieldAt m.body 0 4)) % max 1 ((s.time.period : Int) / 1000)
      (t.2.votePhase port.val m.handle (last.map (·.1)) off).inferPhase m.handle (last.map (·.1)) off (s.pcfg port.val 6 0x0B))

/-- R149, R173: command 0x05 at its decision. -/
def execResynchronised (port : Fin 24) (s : State) : Result :=
  let t := s.takeMac port.val (· == 5)
  .next (match t.1 with
    | none => s
    | some m => t.2.setPartner m.handle (fun x => { x with sync := 1, unacked := 0, hintDue := true, draining := !x.queue.isEmpty }))

/-- Codes that a port acts on under the partner's own key (R146, R171); a join request goes under the network key (R485). -/
def knownCode (p code : Nat) : Bool := if isRf p then code == 5 else code == 3 || code == 4 || code == 5

/-- R146, R171: a command frame with an unknown code, at its decision: ignored and counted. -/
def execUnknownCommand (port : Fin 24) (s : State) : Result :=
  let t := s.takeMac port.val (fun c => !knownCode port.val c)
  .next (match t.1 with | none => s | some _ => t.2.bumpPort port.val (fmtCounter port.val))

/-- R147: links not refreshed for 24 h are removed. -/
def execLinkAgeing (s : State) : Result :=
  .next { s with field := { s.field with links := s.field.links.filter (fun x => decide (s.time.net < x.2.fresh + 86400000000000)) } }

/-- The estimate of a hop at a phase, downlink (R147): what the listener reported, else the other direction. -/
def State.hopQ (s : State) (src dst phase : Nat) : Option Nat :=
  let at' := fun (k : Nat) => (tblFind? s.field.links k).bind (fun l => (l.q[phase]?).join)
  match at' (linkKey dst src) with
  | some q => some q
  | none => at' (linkKey src dst)

/-- Cost of a hop, none where it is unusable (R147). -/
def hopCost (q : Option Nat) : Option Nat :=
  match q with
  | none => none
  | some v => if v < 12 then none else some (16 + (48 - (v - 12)))

/-- Cost of a path of hops from the device (R148), capped at 255. -/
def State.pathCost (s : State) (h j step : Nat) (relays : List Nat) : Option Nat :=
  let nodes := deviceId :: relays ++ [h]
  ((List.range (relays.length + 1)).foldl (fun acc i =>
    match acc, hopCost (s.hopQ (nodes.getD i 0) (nodes.getD (i + 1) 0) ((j + i * step) % 8)) with
    | some a, some c => some (a + c)
    | _, _ => none) (some 0)).map (min 255)

/-- Relay lists of up to the port's maximum hops (R148). -/
def State.pathsTo (s : State) (p h : Nat) : List (List Nat) :=
  let rs := (s.field.partners.filter (fun x => x.2.port = p ∧ x.1 ≠ h ∧ x.2.joined = true)).map (·.1)
  let hops := s.pcfg p 6 4
  [[]] ++ (if 2 ≤ hops then rs.map (fun r => [r]) else []) ++
    (if 3 ≤ hops then rs.flatMap (fun r => (rs.filter (· != r)).map (fun q => [r, q])) else [])

/-- One path is better than another: cost, then hops, then first relay (R148). -/
def pathBetter (a b : Nat × List Nat) : Bool :=
  decide (a.1 < b.1) || (a.1 == b.1 && (decide (a.2.length < b.2.length) ||
    (a.2.length == b.2.length && decide (a.2.headD 0 < b.2.headD 0))))

/-- The best path to a partner (R148); of two that tie in cost, hops and first relay the first in the table's order (log entry
64). -/
def State.bestPath (s : State) (p h j step : Nat) : Option (Nat × List Nat) :=
  (s.pathsTo p h).foldl (fun best l =>
    match s.pathCost h j step l with
    | none => best
    | some c => match best with
      | none => some (c, l)
      | some b => if pathBetter (c, l) b then some (c, l) else some b) none

/-- R148: the path of one frame that starts at slot phase j and whose hops take `step` slots. A previous path of more than the
maximum hops is excluded; a cycle without a path counts once. -/
def State.choosePath (s : State) (p h j step : Nat) : State :=
  let best := s.bestPath p h j step
  match s.partner h with
  | none =>
    { s with field := { s.field with
        joinPaths := match best with
          | none => tblDel s.field.joinPaths h
          | some (_, l) => tblPut s.field.joinPaths h (l, (l.length + 1) * step) } }
  | some _ => s.setPartner h (fun x =>
    match best with
    | none =>
      if x.noPathAt = some s.time.cycle then x
      else { x with
        noPath := x.noPath + 1, noPathAt := some s.time.cycle, hasPath := false, unreachable := x.unreachable || decide (64 ≤ x.noPath + 1) }
    | some (c, l) =>
      let prev := if x.known ∧ x.path.length < s.pcfg p 6 4 then s.pathCost h j step x.path else none
      let y := { x with noPath := 0, noPathAt := none, unreachable := false, hasPath := true }
      match prev with
      | some pc =>
        if c < pc ∧ c + s.pcfg p 6 5 ≤ pc then { y with path := l, cost := c, span := (l.length + 1) * step }
        else { y with cost := pc, span := (x.path.length + 1) * step }
      | none => { y with path := l, cost := c, known := true, span := (l.length + 1) * step })

/-- R148: at the start of a cycle, for each downlink frame due in it (partner, slot phase, slots per hop). -/
def execPathSelection (port : Fin 12) (due : List (Handle × Fin 8 × Nat)) (s : State) : Result :=
  .next (due.foldl (fun t d => t.choosePath port.val d.1.toNat d.2.1.val d.2.2) s)

/-- Hold a downlink frame for a partner (R173): a 65th is refused and counted. -/
def State.queueDown (s : State) (h : Nat) (d : Down) : Bool × State :=
  match s.partner h with
  | none => (false, s)
  | some x =>
    if 64 ≤ x.queue.length then (false, if isRf x.port then s.bumpPort x.port 0x0C else s)
    else (true, s.setPartner h (fun y => { y with queue := y.queue ++ [d] }))

/-- A port's sequencer takes the oldest item of its queue whose partner has room, with its staged content (R173, R206, R209);
one for a partner that holds 64 frames is refused to its flow and counted. -/
def State.takeFirst (s : State) (p : Nat) (content : Bytes) : List (Nat × Item) → State
  | [] => s
  | x :: xs =>
    match s.partner x.2.key with
    | none => s.takeFirst p content xs
    | some _ =>
      let q := s.queueDown x.2.key ⟨none, content, false, x.2.ref⟩
      if q.1 then q.2.seqTake x.1 x.2 else q.2.takeFirst p content xs

/-- The sequencer of a port takes work at a frame boundary, from the queues that name it (R206, R209). -/
def State.takePortItem (s : State) (p : Nat) (content : Bytes) : State := s.takeFirst p content (s.seqItems p)

/-- Longest payload of the device's own native frame on a port (R143, R167). -/
def State.sendLimit (s : State) (p : Nat) : Nat := if isRf p then rfLimit (s.pcfg p 3 2) else 256

/-- The payload of a held downlink: a command's code comes first (R143). -/
def Down.body (d : Down) : Bytes := match d.cmd with | none => d.payload | some c => BitVec.ofNat 8 c :: d.payload

/-- The frame that a held downlink becomes (R143), under the partner's own or the network key and a fresh counter; none
without a key. -/
def State.downFrame (s : State) (p h : Nat) (path : List Nat) (d : Down) : Option Bytes × State :=
    let k := if d.network then s.lineKey none (s.netKey p) .ccm else s.lineMeterKey none h .ccm
    (k.1.map (fun key => nativeFrame (if d.cmd.isSome then 3 else 0) (s.station p) h path (s.txCount h).toNat (bit d.network) key d.body), k.2)

/-- Send the head of a partner's queue (R166, R173): an unacknowledged frame goes again as it was where no other frame has
gone to the partner since. That a frame whose payload is longer than the port can send is taken from the queue is the model's
choice (log entry 63). -/
def State.sendHead (s : State) (p h : Nat) (path : List Nat) (x : Partner) (d : Down) : State :=
  let again := x.flight.bind (fun f => if f.1 + 1 = x.txCounter.toNat then some f.2 else none)
  let f := match again with | some b => (some b, s) | none => s.downFrame p h path d
  if again = none ∧ s.sendLimit p < d.body.length then s.setPartner h (fun y => { y with queue := y.queue.drop 1 })
  else match f.1 with
  | none => f.2
  | some b =>
    if s.dutyFits p (airtime (s.pcfg p 3 2) b.length) = false then s.defer p h 256
    else
      let home := isRf p && s.homeSlot p x
      (f.2.transmit p b).setPartner h (fun y =>
        { y with
          inHome := home, homeSf := if home then some (s.superframe p) else y.homeSf
          flight := some (if again.isSome then x.txCounter.toNat - 1 else x.txCounter.toNat, b)
          txCounter := if again.isSome then y.txCounter else y.txCounter + 1 })

/-- What a frame of a standard generation takes from its port's configuration (R137, R160): S-FSK initial credit, G3 maximum
route hops, PRIME security profile, Wireless M-Bus modes, SUN security level. -/
def State.stdParam (s : State) (p gen : Nat) : Nat :=
  if isRf p then s.pcfg p (if gen = 1 then 4 else 5) (if gen = 1 then 1 else 6)
  else if gen = 5 then s.pcfg p 0 4 else if gen = 3 then s.pcfg p 5 3 else s.pcfg p 4 4

/-- PRIME's acknowledgements for a service node all ride in the next frame to it (R139). -/
def State.rideAcks (s : State) (p h : Nat) : State :=
  let due := (s.fport p).acks.filter (fun a => a.gen == 3 && a.handle == h && a.wait.isNone)
  due.foldl (fun (t : State) a => (t.emitStdAck p a).bumpPort p 3)
    (s.setFport p (fun x => { x with acks := x.acks.filter (fun a => !due.contains a) }))

/-- A frame of a standard generation may go to a partner (R160, R161, R178): a SUN FSK one once a beacon has announced it, a
Wireless M-Bus one to a meter of a bidirectional mode, where the port gives responses. -/
def State.stdReady (s : State) (p : Nat) (x : Partner) : Bool :=
  !isRf p || (if x.gen = 2 then x.announced else x.gen != 1 || (x.bidi && s.pcfg p 4 5 == 1))

/-- What a downlink frame of a standard generation is sent with: of Wireless M-Bus the meter's own mode, as last heard (R161). -/
def State.downParam (s : State) (p : Nat) (x : Partner) : Nat :=
  match (if isRf p ∧ x.gen = 1 then x.link else none) with
  | some l => 2 ^ l.bit
  | none => s.stdParam p x.gen

/-- The head of a partner's queue leaves by a standard generation (R148, R160, R164): a SUN FSK association response (R163) as
the response its standard prescribes. -/
def State.sendStd (s : State) (p h : Nat) (x : Partner) (d : Down) (rest : List Down) : State :=
  let air := s.stdAir
  if s.stdReady p x = false then s
  else if s.dutyFits p air.1 = false then air.2.defer p h 256
  else
    let t := if isRf p then (air.2.undefer p h 256).countAir p air.1 else if x.gen = 3 then s.rideAcks p h else s
    let out : Out := if d.cmd.isSome then .stdAck p x.gen h none else .stdTx p x.gen h (s.downParam p x) d.payload
    (((t.drive p x.gen).emit out).bumpPort p 9).setPartner h
      (fun y => { y with queue := rest, announced := false })

/-- The head of a partner's queue is acknowledged (R170, R173). -/
def State.downDone (s : State) (h : Nat) : State :=
  match s.partner h with
  | none => s
  | some x =>
    let s1 := (s.setPartner h (fun y => { y with
      queue := y.queue.drop 1, flight := none, unacked := 0, draining := y.draining && decide (1 < y.queue.length) })).undefer x.port h 256
    match x.queue with
    | [] => s1
    | d :: _ => { s1 with field := { s1.field with acked := (h, d.ref) :: s1.field.acked } }

/-- A partner's acknowledgement of the frame in flight to it, verified under its key over the MIC of that frame (R144, R170);
heard and judged as every acknowledgement is. -/
def State.ackRx (s : State) (p : Nat) (b : Bytes) (rx : Rx) : State :=
  let o := 6 + 3 * (fieldAt b 0 1 / 4 % 4)
  let h := fieldAt b 3 3 % 2 ^ 20
  let vl := if isRf p then 7 else 4
  let q := s.screenAck p b rx
  match (if q.1 then s.partner h else none).bind (fun x => if x.port = p then x.flight else none) with
  | none => q.2
  | some f =>
    let k := q.2.lineMeterKey none h .cmac
    match k.1 with
    | none => k.2
    | some key =>
      if fieldAt b o 4 = f.1 ∧ slice b (o + vl) 8 = ackMic key (s.station p) h (slice b o vl) (f.2.drop (f.2.length - 16)) then k.2.downDone h
      else k.2

/-- R144, R170: a partner's acknowledgement received on a port. -/
def execDownlinkAckRx (port : Fin 24) (a : Heard) (s : State) : Result :=
  .next (s.orWait (port.val + 1) (.downlinkAckRx port a)
    (if s.isNative port.val ∧ s.takesFrames = true ∧ fieldAt a.bytes 0 1 / 32 = 1 ∧ s.deaf port.val a.rx = false then
      s.ackRx port.val a.bytes a.rx
    else s))

/-- R173: a downlink without acknowledgement; three in a row, on radio of frames sent in its downlink slots, mark the partner
unsynchronised. -/
def execDownlinkAckTimeout (port : Fin 24) (handle : Handle) (s : State) : Result :=
  let p := port.val
  let h := handle.toNat
  .next (match s.partner h with
    | none => s
    | some x =>
      if x.port ≠ p ∨ x.flight = none ∨ (isRf p ∧ x.inHome = false) then s
      else if x.unacked + 1 < 3 ∨ x.sync = 2 then s.setPartner h (fun y => { y with unacked := y.unacked + 1 })
      else
        let s1 := s.setPartner h (fun y => { y with unacked := y.unacked + 1, sync := 2 })
        (if isRf p then s1.bumpPort p 0x0A else s1).raise 0x081 h)

/-- Checks of a meter key record (R43, R120, R124). -/
def State.keyRecordRefuses (s : State) (h : Nat) (v : Bytes) : Option Abort :=
  let u := fieldAt v 48 1
  if s.trust.lc = .blank then some .lifeCycle
  else if u ≠ 1 ∧ u ≠ 2 ∧ u ≠ 10 then some .valueInvalid
  else if !s.inUse h ∧ s.capacityMeters ≤ s.trust.meters.length then some .valueInvalid
  else none

/-- A context after a new key version (R182). -/
def Ctx.newKey (c : Ctx) (v : U32) : Ctx :=
  { c with counterValid := false, seqValid := false, invoc := 0, digest := List.replicate 8 0, keyVersion := v }

/-- A meter key record stored (R124, R125, R181, R182): the meter comes into use, a slot that holds its key is zeroized, and a
change of version resets its counters. -/
def State.storeKeyRecord (s : State) (h : Nat) (v : Bytes) : State :=
  let first := !s.inUse h
  let changed := s.keyVersionOf h ≠ fieldAt v 44 4
  let s1 := match tblFind? s.trust.meterSlot h with
    | none => s
    | some n => if (s.slot n).valid then s.zeroize n else s
  let s2 : State := { s1 with trust := { s1.trust with
    meters := tblPut s1.trust.meters h v
    keyless := s1.trust.keyless.erase h
    lru := s1.trust.lru.erase h
    meterSlot := if s1.trust.pins.contains h then s1.trust.meterSlot else tblDel s1.trust.meterSlot h } }
  let s3 := if !first then s2
    else if s.keepsRemote then { s2 with acc := { s2.acc with ctxMem := tblPut s2.acc.ctxMem h { remote := true } } }
    else s2.pinCtx h
  let ver : U32 := BitVec.ofNat 32 (fieldAt v 44 4)
  if !changed then s3
  else
    (({ s3 with acc := { s3.acc with
        ctx := s3.acc.ctx.map (fun (x : Nat × Ctx) => if x.1 = h then (h, x.2.newKey ver) else x)
        ctxMem := s3.acc.ctxMem.map (fun (x : Nat × Ctx) => if x.1 = h then (h, x.2.newKey ver) else x) } }).snapshot h).mirrorCtx h

/-- R124: a write to 0xC010:01. -/
def State.keyRecordWrite (s : State) (r : Req) (v : Bytes) : State :=
  match s.locate r 0xC01001 with
  | .error a => s.respond r (.abort a)
  | .ok o =>
    match (if s.lifeBars r 0xC01001 (s.trust.lc != .blank) then some .lifeCycle else s.accessRefuses r 0xC01001 o .write) with
    | some a => s.respond r (.abort a)
    | none => match o.checkValue v with
      | some a => s.respond r (.abort a)
      | none =>
        let b := v.drop 2
        match s.keyRecordRefuses (s.handleOf r) b with
        | some a => s.respond r (.abort a)
        | none =>
          if !r.storeOk then s.respond r (.abort .cannotStore)
          else ((s.storeKeyRecord (s.handleOf r) b).mirror .keyOperation (0xC01001 * 2 ^ 20 + s.handleOf r) b).respond r (.ok [])

def execMeterKeyRecordWrite (r : Req) (v : Bytes) (s : State) : Result := .next (s.keyRecordWrite r v)

end Sys2Proof.Machine
end

