-- ==== Sys2Proof/Machine/FieldPorts.lean ====
section
/-! DEFINITION. Beacons and start-up of the field ports (R141, R145, R153, R165, R169, R175), frames of the standard
generations (R139, R160 to R163, R187, R452), paced joins (R154, R175), group re-keying (R140), forwarding (R196 to R198)
and what waits at its source (R223). -/

namespace Sys2Proof.Machine

/-- R153: once acknowledgements can be given and the tracker is LOCKED, a native power-line port beacons. -/
def execNativeBeaconStart (port : Fin 12) (s : State) : Result :=
  .next (if s.isNative port.val ∧ s.takesFrames = true ∧ s.time.tracker = .locked then
      s.setFport port.val (fun x => { x with began := true })
    else s)

/-- R175: once acknowledgements can be given and network time is LOCKED or legal time trusted, a native radio port beacons;
its first superframe, that of the first whole second after, carries start beacons. -/
def execRadioBeaconStart (port : Fin 12) (s : State) : Result :=
  let p := port.val + 12
  .next (if s.isNative p ∧ s.takesFrames = true ∧ (s.time.sync = .locked ∨ s.time.untrusted = false) ∧ (s.fport p).began = false then
      let first := (s.time.net + 999999999) / 1000000000 / 2 ^ s.pcfg p 6 2
      s.setFport p (fun x => { x with began := true, startSf := some first, firstSf := some first })
    else s)

/-- The latch order that beacons still carry (R145). -/
def State.beaconLatch (s : State) : Option (Cycle × Nat) :=
  s.field.latch.bind (fun l => if l.1 = s.time.cycle ∨ cycleAhead l.1 s.time.cycle then some l else none)

/-- The native power-line beacon of a cycle (R145). -/
def State.plcBeacon (s : State) (p : Nat) (key : Bytes) : Bytes :=
  let e := s.pcfg p 6 2
  let quiet := s.pwr.quiet
  let held := s.time.tracker = .holdover || s.time.tracker = .absent
  let lo := if quiet then s.pcfg p 6 8 else s.pcfg p 6 6
  let hi := if quiet then s.pcfg p 6 8 else s.pcfg p 6 7
  let latch := match s.beaconLatch with
    | none => List.replicate 7 0
    | some l => leBytes 5 l.1.toNat ++ leBytes 2 l.2
  let b := [0x40] ++ leBytes 2 (s.station p) ++ leBytes 3 0xFFFFF ++ leBytes 5 s.time.cycle.toNat ++
    leBytes 1 (e * 32 + bit quiet * 16 + bit s.beaconLatch.isSome * 8 + bit held * 4) ++ leBytes 1 (lo * 16 + hi) ++
    leBytes 2 (ofSigned 16 (s.slotOffset p)) ++ latch
  b ++ Config.ccmSeal key (nativeNonce (s.station p) 0xFFFFF (s.time.cycle.toNat % 2 ^ 32) false) b []

/-- R145: the device's beacon in slots 0 and 1 of a beacon cycle; the slot offset it carries is kept for the reports that refer
to it (R151). -/
def execPlcBeaconTx (port : Fin 12) (s : State) : Result :=
  let p := port.val
  .next (if s.isNative p ∧ s.mayTransmit p = true ∧ (s.fport p).began = true ∧ s.time.cycle.toNat % 2 ^ s.pcfg p 6 2 = 0 then
      let k := s.lineKey none (s.netKey p) .ccm
      match k.1 with
      | none => s
      | some key => (k.2.transmit p (s.plcBeacon p key)).setFport p (fun x =>
          { x with beacons := x.beacons + 1, lastBeacon := some (s.time.cycle, s.slotOffset p) })
    else s)

/-- The native radio beacon of a second (R169, R175). -/
def State.radioBeacon (s : State) (p : Nat) (key : Bytes) : Bytes :=
  let sec := s.time.net / 1000000000
  let b := s.pcfg p 6 2
  let k := sec % 2 ^ b
  let quiet := s.pwr.quiet || (s.fport p).firstSf == some (s.superframe p)
  let lo := if quiet then s.pcfg p 6 6 else s.pcfg p 6 4
  let hi := if quiet then s.pcfg p 6 6 else s.pcfg p 6 5
  let body := [0x40] ++ leBytes 2 (s.station p) ++ leBytes 3 0xFFFFF ++ leBytes 4 (sec % 2 ^ 32) ++
    leBytes 1 (b * 32 + bit quiet * 16 + bit (k != 0) * 8 + bit (s.time.sync = .holdover) * 4) ++ leBytes 1 (lo * 16 + hi) ++ leBytes 1 k
  body ++ Config.ccmSeal key (nativeNonce (s.station p) 0xFFFFF (sec % 2 ^ 32) false) body []

/-- R169: slot 0 of second 0 of each superframe, or of every second while start beacons are due; not a slot that a step makes
the port skip (R176), and one beacon per second at most. -/
def execRadioBeaconTx (port : Fin 12) (s : State) : Result :=
  let p := port.val + 12
  let k := s.time.net / 1000000000 % 2 ^ s.pcfg p 6 2
  .next (if s.isNative p ∧ s.mayTransmit p = true ∧ (s.fport p).began = true ∧
        (k = 0 ∨ (s.fport p).startSf = some (s.superframe p) ∨ (s.fport p).firstSf = some (s.superframe p)) ∧ s.slotKept = true ∧
        (s.fport p).beaconSecs.contains (s.time.net / 1000000000) = false then
      let k := s.lineKey none (s.netKey p) .ccm
      match k.1 with
      | none => s
      | some key => (k.2.transmit p (s.radioBeacon p key)).setFport p (fun x =>
          { x with beacons := x.beacons + 1, beaconSecs := s.time.net / 1000000000 :: x.beaconSecs })
    else s)

/-- Partners of a SUN FSK port for which a frame is held (R160). -/
def State.sunPending (s : State) (p : Nat) : List Nat :=
  (s.field.partners.filter (fun x => x.2.port == p && x.2.gen == 2 && !x.2.queue.isEmpty)).map (·.1)

/-- R160: a beacon of the SUN FSK PAN that the port coordinates, with the pending address list of the frames held for indirect
transmission. -/
def execSunBeaconTx (port : Fin 12) (s : State) : Result :=
  let p := port.val + 12
  let a := s.stdAir
  .next (if s.pcfg p 0 1 = 2 ∧ s.mayTransmit p = true then
      let t := (((a.2.drive p 7).emit (.sunBeacon p (s.pcfg p 5 1) (s.pcfg p 5 2) (s.pcfg p 5 3) (s.sunPending p))).bumpPort p 9).countAir p a.1
      { t.setFport p (fun x => { x with beacons := x.beacons + 1 }) with
        field := { (t.setFport p (fun x => { x with beacons := x.beacons + 1 })).field with
          partners := t.field.partners.map (fun x => if (s.sunPending p).contains x.1 then (x.1, { x.2 with announced := true }) else x) } }
    else s)

/-- R202: set_cycle, 5T/6 after a ZC_A crossing, with that crossing's number and hops 0. -/
def execSetCycleBroadcast (port : Fin 12) (s : State) : Result :=
  let p := port.val
  let g := s.pcfg p 1 1
  .next (if (g = 1 ∨ g = 2 ∨ g = 3) ∧ s.mayTransmit p = true ∧ (s.time.tracker = .locked ∨ s.time.tracker = .holdover) then
      (((s.drive p g).emit (.setCycle p s.time.cycle 0)).bumpPort p 9).setFport p (fun x => { x with lastSet := some s.time.cycle })
    else s)

/-- R152: 6,400 samples blanked without a break: the running RMS is reseeded from the last 1,024 samples. Nothing is blanked
while the port mutes its receive path (R133) or blanking is off. -/
def execBlankingReseed (port : Fin 12) (rms : U16) (s : State) : Result :=
  let p := port.val
  .next (if s.pcfg p 3 1 = 0 ∨ s.time.net < (s.fport p).muteTo then s
    else (s.setFport p (fun x => { x with rms := rms.toNat })).bumpPort p 8)

/-- R174: on a Standby, an expected beacon of the Active unit did not come with a valid MIC; the third in a row is reported. -/
def execActiveBeaconMissed (port : Fin 24) (s : State) : Result :=
  let p := port.val
  .next (if !s.isStandby || !s.isNative p then s
    else
      let n := (s.fport p).missed + 1
      let s1 := s.setFport p (fun x => { x with missed := n })
      if n ≠ 3 then s1
      else
        let s2 := (if isRf p then s1.bumpPort p 0x0B else s1).raise 0x082 ((if isRf p then p - 12 else p : Nat) : Int)
        { s2 with pair := { s2.pair with suspicions := s2.pair.suspicions + 1 } })

/-- R420: 1,000 ms after reset release. -/
def execQuietStartEnd (s : State) : Result := .next (({ s with pwr := { s.pwr with quiet := false } }).reachPhase 6)

/-- A frame of a standard generation is received on an enabled port that runs it. -/
def State.stdPortOk (s : State) (p gen : Nat) : Bool :=
  if isRf p then s.pcfg p 0 2 == 1 && (if gen == 6 then s.pcfg p 0 1 == 1 else s.pcfg p 0 1 == 2)
  else s.pcfg p 1 3 == 1 && (if gen == 5 then s.pcfg p 1 2 == 1 else s.pcfg p 1 1 == gen)

/-- The content of a frame of a standard generation under a key, none where its integrity check fails (R187): a Wireless M-Bus
frame of mode 5 verifies where its first two decrypted bytes are 2F 2F (R162). -/
def stdContent (gen : Nat) (f : StdFrame) (key : Bytes) : Option Bytes :=
  if gen = 6 ∧ f.mode = 5 then
    let d := Config.wmDecrypt key f.bytes
    if d.take 2 = [0x2F, 0x2F] then some d else none
  else Config.stdOpen gen key f.bytes

/-- A frame of a standard generation as acceptance takes it (R139, R162, R163, R187); an unsecured one has no integrity code. -/
def stdOffer (p gen : Nat) (key : Option Nat) (rule : CountRule) (f : StdFrame) (rx : Rx) (erased : Bool) : Offer :=
  { src := p + 1, handle := f.handle.toNat, link := linkWord p gen, digest := digestOf f.bytes, port := some p, key := key
    op := .ccm, verify := fun k => if rule = .unsecured then some f.bytes else stdContent gen f k, rule := rule, ackOf := fun _ _ => List.replicate 16 0
    macOf := fun _ => none, erasures := erased, stamp := rx.stamp, late := rx.late }

/-- The acknowledgement of a frame of a standard generation, with the decision it waits for (R139, R161 to R163). -/
def stdAckDue (gen : Nat) (f : StdFrame) (wait : Option Nat) : AckDue :=
  { handle := f.handle.toNat, gen := gen, wait := wait, bytes := [], link := if gen = 6 then some f.link else none }

/-- Acceptance of a frame of a standard generation, with the acknowledgement its standard prescribes (R139, R162, R163); a
duplicate waits for the decision of the frame it repeats (R186). A G3-PLC partner whose frame finds no key is
re-authenticated ahead of the others (R140). -/
def State.acceptStd (s : State) (p gen : Nat) (key : Option Nat) (rule : CountRule) (wantAck : Bool) (f : StdFrame) (rx : Rx) : State :=
  let s1 := s.heard p rx
  if !isRf p && s.impulseDrops p rx then s1.impulseDrop p gen
  else if !s1.takesFrames then s1.turnedAway
  else
    let q := s1.acc.nextSeq
    let h := f.handle.toNat
    let r := s1.accept (stdOffer p gen key rule f rx (s1.erasures p rx))
    match r.1 with
    | .accepted =>
      if rx.late then r.2.decideLate p q
      else if wantAck then
        r.2.ackDue p (stdAckDue gen f (if r.2.acc.deciding.any (fun d => d.seq == q) then some q.toNat else none))
      else r.2
    | .duplicate => if rx.late || !wantAck then r.2 else r.2.ackDue p (r.2.dupAck (stdAckDue gen f none))
    | .noKey => if gen = 1 ∨ gen = 2 then r.2.setPartner h (fun x => { x with rekeyed := false, urgent := true }) else r.2
    | _ => r.2

/-- The group key a G3-PLC frame's key index names (R140): the one sent under, or, during a change, the other one. -/
def State.g3Key (s : State) (p idx : Nat) : Option Nat :=
  let x := s.fport p
  match x.rekey with
  | none => if idx = x.keyIndex then some (s.pcfg p 4 3) else none
  | some k => if idx = k.index then some k.old else some (s.pcfg p 4 3)

/-- A frame whose path is held waits; else it runs (R25, R223). -/
def State.orHold (s : State) (gen p : Nat) (f : StdFrame) (rx : Rx) (t : State) : State :=
  if s.pathRuns then t else s.holdFrame (p + 1) gen p f rx

/-- R139, R140: a G3-PLC MAC frame; `mode` is its key index. -/
def State.g3Rx (s : State) (p : Nat) (f : StdFrame) (rx : Rx) : State :=
  let gen := s.pcfg p 1 1
  if (gen = 1 ∨ gen = 2) ∧ s.stdPortOk p gen = true ∧ s.deaf p rx = false then
    match s.g3Key p f.mode with
    | none => (s.heard p rx).bumpAcc 6
    | some k => s.acceptStd p gen (some k) (.counter f.counter) true f rx
  else s

def execG3FrameRx (port : Fin 12) (f : StdFrame) (rx : Rx) (s : State) : Result :=
  .next (s.orHold (s.pcfg port.val 1 1) port.val f rx (s.g3Rx port.val f rx))

/-- R137, R139: a PRIME frame, under the port's PRIME key and of the port's security profile; `mode` is its profile. -/
def State.primeRx (s : State) (p : Nat) (f : StdFrame) (rx : Rx) : State :=
  if s.stdPortOk p 3 = true ∧ s.deaf p rx = false then
    (if f.mode = s.pcfg p 5 3 then s.acceptStd p 3 (some (s.pcfg p 5 4)) (.counter f.counter) true f rx else s.heard p rx)
  else s

def execPrimeFrameRx (port : Fin 12) (f : StdFrame) (rx : Rx) (s : State) : Result :=
  .next (s.orHold 3 port.val f rx (s.primeRx port.val f rx))

/-- A Wireless M-Bus frame as it is received in a link mode (R161). -/
def inMode (f : StdFrame) (l : WMode) : StdFrame := { f with link := l }

/-- R161, R162: a Wireless M-Bus frame of a link mode that the port receives: `mode` is its security mode. A bidirectional
mode is answered, in that mode. -/
def State.wmbusRx (s : State) (p : Nat) (f : StdFrame) (rx : Rx) : State :=
  if s.stdPortOk p 6 = false ∨ s.pcfg p 4 1 / 2 ^ f.link.bit % 2 = 0 then s
  else
    let ack := f.link.bidi && s.pcfg p 4 5 == 1
    let t := s.setPartner f.handle.toNat (fun x => { x with bidi := f.link.bidi, link := some f.link })
    match f.mode with
    | 7 => t.acceptStd p 6 none (.counter f.counter) ack f rx
    | 5 => if s.pcfg p 4 3 = 1 then t.acceptStd p 6 none (.access (f.counter.setWidth 8)) ack f rx else t.heard p rx
    | 0 => if s.pcfg p 4 4 = 1 then t.acceptStd p 6 none .unsecured ack f rx else t.heard p rx
    | _ => t.heard p rx

def execWmbusFrameRx (port : Fin 12) (f : StdFrame) (link : WMode) (rx : Rx) (s : State) : Result :=
  let g := inMode f link
  .next (s.orHold 6 (port.val + 12) g rx (s.wmbusRx (port.val + 12) g rx))

/-- R163: a SUN FSK frame, under the port's SUN key; `mode` is its security level. -/
def State.sunRx (s : State) (p : Nat) (f : StdFrame) (rx : Rx) : State :=
  if s.stdPortOk p 7 then
    (if f.mode = s.pcfg p 5 6 then s.acceptStd p 7 (some (s.pcfg p 5 5)) (.counter f.counter) true f rx else s.heard p rx)
  else s

def execSunFrameRx (port : Fin 12) (f : StdFrame) (rx : Rx) (s : State) : Result :=
  .next (s.orHold 7 (port.val + 12) f rx (s.sunRx (port.val + 12) f rx))

/-- The AES-128 key of an OCB link-layer frame: bits [127:0] of the meter's key (R451). -/
def ocbKey (k : Bytes) : Bytes := k.drop (k.length - 16)

/-- The content of an OCB frame under a key (R451), none where its authentication code fails. -/
def ocbOpen (b key : Bytes) : Option Bytes :=
  let l := fieldAt b 4 1
  if b.length = 9 + l ∧ (Config.cmac (ocbKey key) (b.take (5 + l))).take 4 = b.drop (5 + l) then some (slice b 5 l) else none

/-- The acknowledgement of an OCB frame (R452). -/
def ocbAck (b key : Bytes) : Bytes :=
  let h := [BitVec.ofNat 8 (64 + fieldAt b 0 1 % 32)] ++ slice b 1 3 ++ [0]
  h ++ (Config.cmac (ocbKey key) h).take 4

/-- An OCB link-layer uplink offered to acceptance (R188, R452). -/
def ocbOffer (src : Nat) (handle : Nat) (link : U16) (port : Option Nat) (b : Bytes) (rx : Rx) (erased : Bool) : Offer :=
  { src := src, handle := handle, link := link, digest := digestOf b, port := port, key := none, op := .cmac, verify := ocbOpen b
    rule := .ocb (BitVec.ofNat 8 (fieldAt b 1 1)), ackOf := fun k _ => (ocbAck b k ++ List.replicate 16 0).take 16
    macOf := fun _ => none, erasures := erased, stamp := rx.stamp, late := rx.late }

/-- R452: an OCB LPDU on a port that runs S-FSK. -/
def State.ocbRx (s : State) (p : Nat) (b : Bytes) (rx : Rx) : State :=
  if s.stdPortOk p 5 = false ∨ s.deaf p rx = true then s
  else
    let s1 := s.heard p rx
    if s.impulseDrops p rx then s1.impulseDrop p 5
    else if fieldAt b 0 1 / 64 ≠ 0 ∨ fieldAt b 0 1 / 32 % 2 = 0 then s1
    else if !s1.takesFrames then s1.turnedAway
    else
      let h := beNat (slice b 2 2)
      let q := s1.acc.nextSeq
      let r := s1.accept (ocbOffer (p + 1) h (linkWord p 5) (some p) b rx (s1.erasures p rx))
      let ack := (((r.2.ctxOf h).map (·.ack)).getD []).take 9
      match r.1 with
      | .accepted =>
        if rx.late then r.2.decideLate p q
        else r.2.ackDue p { handle := h, gen := 5, wait := if r.2.acc.deciding.any (fun d => d.seq == q) then some q.toNat else none, bytes := ack }
      | .duplicate => if rx.late then r.2 else r.2.ackDue p (r.2.dupAck { handle := h, gen := 5, wait := none, bytes := ack })
      | _ => r.2

def execOcbLpduRx (port : Fin 12) (bytes : Bytes) (rx : Rx) (s : State) : Result :=
  .next (s.orHold 5 port.val { handle := 0, counter := 0, bytes := bytes } rx (s.ocbRx port.val bytes rx))

/-- A join, registration, association, discovery or installation request (R154, R175): admitted within the pacing of the
period, it joins the partner, with the response its standard prescribes; beyond it, it gets none and is counted. -/
def State.pacedJoin (s : State) (p h gen : Nat) (respond : State → State) : State :=
  if s.joinLimit p ≤ (s.fport p).joins then s.bumpPort p 7
  else
    let s1 := s.setFport p (fun x => { x with joins := x.joins + 1 })
    match s1.joinPartner p h gen with
    | none => s1.raise 0x203 h
    | some t => if t.portBegun p gen then respond t else t

/-- A unit that takes frames paces the joins of an enabled port; each request is a frame received (R155, R178). -/
def State.joinOn (s : State) (p h gen : Nat) (respond : State → State) : State :=
  if s.takesFrames ∧ s.mayTransmit p = true then (s.bumpPort p 1).pacedJoin p h gen respond else s

/-- The response to a registration or discovery (R154). -/
def State.joinAnswer (s : State) (p h gen : Nat) : State :=
  ((s.drive p gen).emitStdAck p { handle := h, gen := gen, wait := none, bytes := [] }).bumpPort p 9

/-- The key index under which a port's new group key goes (R140). -/
def FieldPort.newIndex (x : FieldPort) : Nat := match x.rekey with | none => x.keyIndex | some k => 1 - k.index

/-- The G3 group key of an index goes to a partner by LBP under the partner's own key (R137, R140); none without a key. -/
def State.giveGroupKey (s : State) (p h index : Nat) : Option State :=
  let k := s.lineMeterKey none h .cmac
  let g := k.2.lineKey none (s.pcfg p 4 3) .ccm
  match k.1, g.1 with
  | some own, some group => some ((g.2.drive p (s.pcfg p 1 1)).emit (.lbp p h index (Config.eapPsk own group)))
  | _, _ => none

/-- A joined partner is still to be re-authenticated (R140): one whose frame found no key goes ahead of the others. -/
def State.reauthDue (s : State) (p : Nat) (x : Partner) : Bool :=
  !x.rekeyed && (x.urgent || !s.field.partners.any (fun y => y.2.port == p && y.2.joined && y.2.urgent))

/-- R154, R140: a G3-PLC LBP bootstrap request, answered with the group key under the partner's own key; of a joined partner
that has not the group key, its re-authentication. During a change of the group key both get the new one. A partner without a valid key of its own gets no response. -/
def execG3LbpJoin (port : Fin 12) (handle : Handle) (s : State) : Result :=
  let p := port.val
  let h := handle.toNat
  let g := s.pcfg p 1 1
  .next (s.orWait (p + 1) (.g3LbpJoin port handle) (if (g ≠ 1 ∧ g ≠ 2) ∨ s.takesFrames = false ∨ s.mayTransmit p = false then s
    else
      let s := s.bumpPort p 1
      let join := s.pacedJoin p h g (fun t => match t.giveGroupKey p h (s.fport p).newIndex with | none => t | some u => u.bumpPort p 9)
      match s.partner h with
      | some x =>
        if x.joined ∧ x.rekeyed = false then
          if s.reauthDue p x = false ∨ s.joinLimit p ≤ (s.fport p).reauths then s
          else match (s.setFport p (fun y => { y with reauths := y.reauths + 1 })).giveGroupKey p h (s.fport p).newIndex with
            | none => s
            | some t => (t.setPartner h (fun y => { y with rekeyed := true, urgent := false })).bumpPort p 9
        else join
      | none => join))

/-- R140: every joined partner has confirmed, or 600 s have passed: the device sends under the new key index. -/
def execG3RekeySwitch (port : Fin 12) (s : State) : Result :=
  let p := port.val
  .next (match (s.fport p).rekey with
    | none => s
    | some k =>
      let allIn := s.field.partners.all (fun x => x.2.port != p || !x.2.joined || x.2.rekeyed)
      if allIn ∨ k.start + 600000000000 ≤ s.time.net then
        s.setFport p (fun x => { x with rekey := none, keyIndex := 1 - k.index, groupKey := s.pcfg p 4 3 })
      else s)

/-- R154: a PRIME registration request. -/
def execPrimeRegistration (port : Fin 12) (handle : Handle) (s : State) : Result :=
  .next (s.orWait (port.val + 1) (.primeRegistration port handle)
    (if s.pcfg port.val 1 1 = 3 then s.joinOn port.val handle.toNat 3 (fun t => t.joinAnswer port.val handle.toNat 3) else s))

/-- R154: an S-FSK discovery response. -/
def execSfskDiscovery (port : Fin 12) (handle : Handle) (s : State) : Result :=
  .next (s.orWait (port.val + 1) (.sfskDiscovery port handle)
    (if s.pcfg port.val 1 2 = 1 then s.joinOn port.val handle.toNat 5 (fun t => t.joinAnswer port.val handle.toNat 5) else s))

/-- A Wireless M-Bus installation request of a mode that the port receives (R161, R162, R175): paced, it joins the meter and
goes through acceptance as its other frames, and a bidirectional mode is answered after that. -/
def State.installRx (s : State) (p : Nat) (f : StdFrame) (rx : Rx) : State :=
  if s.stdPortOk p 6 = false ∨ s.pcfg p 4 1 / 2 ^ f.link.bit % 2 = 0 ∨ s.takesFrames = false ∨ s.mayTransmit p = false then s
  else if s.joinLimit p ≤ (s.fport p).joins then (s.heard p rx).bumpPort p 7
  else s.pacedJoin p f.handle.toNat 1 (fun t => t.wmbusRx p f rx)

/-- R175: a Wireless M-Bus installation request. -/
def execWmbusInstallRequest (port : Fin 12) (f : StdHeard) (s : State) : Result :=
  .next (s.orWait (port.val + 13) (.wmbusInstallRequest port f) (s.installRx (port.val + 12) f.frame f.rx))

/-- R163, R175: a SUN FSK association request: its response waits for indirect transmission, and for the duty limit, in the
partner's queue (R160, R164). -/
def execSunAssociation (port : Fin 12) (handle : Handle) (s : State) : Result :=
  .next (s.orWait (port.val + 13) (.sunAssociation port handle)
    (if s.pcfg (port.val + 12) 0 1 = 2 then
      s.joinOn (port.val + 12) handle.toNat 2 (fun t => (t.queueDown handle.toNat ⟨some 2, [], false, 0⟩).2)
    else s))

/-- R191: the oldest open entry is older than the stuck age: raised once per episode, which ends when that no longer holds. -/
def execJournalStuck (s : State) : Result :=
  .next (match s.acc.journal.find? (·.isOpen) with
    | none => { s with acc := { s.acc with stuckRaised := false } }
    | some e =>
      let age := s.time.mono - e.born
      if s.acc.journalOld (s.cfgN 0x501003) s.time.mono = false then { s with acc := { s.acc with stuckRaised := false } }
      else if s.acc.stuckRaised = false then ({ s with acc := { s.acc with stuckRaised := true } }).raise 0x0C7 (age / 32768)
      else s)

/-- R223: a frame held at its source has not been admitted by its deadline: the oldest one of the source is discarded. Field
ports alone (sources 1 to 24) have a fixed acknowledgement gap. -/
def execInputDeadlineDiscard (src : Nat) (s : State) : Result :=
  .next (match (if src ≤ 24 then s.acc.inputs.find? (fun x => x.src == src) else none) with
    | none => s
    | some f =>
      let t := ({ s with acc := { s.acc with inputs := s.acc.inputs.erase f } }).bumpAcc 8
      { t with cas := { t.cas with refusals := tblUpd 0 t.cas.refusals src (· + 1) } })

/-- Acceptance of a reply on serial port `p` (0-15 in the order of R41), wired M-Bus as generation 9 and RS-485 as 10 (R187,
R196); `mode` 0 is a reply without ciphering. -/
def State.serialAccept (s : State) (p : Nat) (f : StdFrame) (rx : Rx) : State :=
  let gen := if p < 8 then 9 else 10
  if !s.takesFrames then s.turnedAway
  else (s.accept
    { src := 25 + p, handle := f.handle.toNat, link := BitVec.ofNat 16 (2 * 2 ^ 14 + p * 256 + gen), digest := digestOf f.bytes
      port := none, key := none, op := .gcm, verify := fun k => if f.mode = 0 then some f.bytes else stdContent gen f k
      rule := if f.mode = 0 then .unsecured else .counter f.counter, ackOf := fun _ _ => List.replicate 16 0
      macOf := fun _ => none, erasures := false, stamp := rx.stamp, late := false }).2

/-- A frame held at its source runs once its path is released (R25). -/
def State.runHeld (s : State) (gen p : Nat) (f : StdFrame) (rx : Rx) : State :=
  if gen = 4 ∨ gen = 8 then s.nativeRx p f.bytes rx
  else if gen = 5 then s.ocbRx p f.bytes rx
  else if gen = 3 then s.primeRx p f rx
  else if gen = 6 then s.wmbusRx p f rx
  else if gen = 7 then s.sunRx p f rx
  else if 9 ≤ gen then s.serialAccept p f rx
  else s.g3Rx p f rx

/-- Token of a forwarded record (R197). DESIGN CHOICE (log entry 70): the CMAC is over the handle as 4 bytes and the counter as 4
bytes, least significant first, then the 8-byte digest. -/
def fwdToken (key : Bytes) (h : Nat) (c : U32) (digest : Bytes) : Bytes :=
  (Config.cmac key (leBytes 4 h ++ leBytes 4 c.toNat ++ digest)).take 8

/-- Result codes of R197. -/
def AccRes.code : AccRes → Nat
  | .accepted => 0 | .duplicate => 1 | .lower => 2 | .replay => 3 | .integrity => 4 | .noKey => 5 | .refused => 6
  | .noContext => 7 | .unavailable => 8

/-- One 16-byte result (R197). -/
def fwdResult (tag : U32) (code : Nat) (token : Bytes) : Bytes :=
  leBytes 4 tag.toNat ++ [BitVec.ofNat 8 code, BitVec.ofNat 8 token.length, 0, 0] ++ (token ++ List.replicate 8 0).take 8

/-- A forwarded record as acceptance takes it (R187, R196); none where its form is wrong. A record whose frame is unsecured (mode
0) fails its integrity check: no port's configuration allows it (R187, log entry 57). -/
def fwdOffer (src : Nat) (link : U16) (x : FwdRecord) (stamp : Nat) : Option Offer :=
  let g := x.gen.toNat
  let h := x.handle.toNat
  let base : Offer :=
    { src := src, handle := h, link := link, digest := digestOf x.frame.bytes, port := none, key := none, op := .ccm
      verify := stdContent g x.frame, rule := .counter x.frame.counter, ackOf := fun _ _ => List.replicate 16 0
      macOf := fun _ => none, erasures := false, stamp := stamp, late := false }
  if g = 0 ∨ 10 < g ∨ x.frame.bytes = [] then none
  else if g = 4 ∨ g = 8 then
    match parseNative x.frame.bytes with
    | none => none
    | some f =>
      if f.handle ≠ h ∨ !f.uplink ∨ f.keyIndex = 1 ∨ (f.type ≠ 0 ∧ f.type ≠ 3) then none
      else some { base with
        digest := digestOf f.authed, verify := f.content, rule := .counter f.counter, macOf := fun b => (nativeMac f b) }
  else if g = 5 then
    if fieldAt x.frame.bytes 0 1 / 32 ≠ 1 then none
    else some { base with op := .cmac, verify := ocbOpen x.frame.bytes, rule := .ocb (BitVec.ofNat 8 (fieldAt x.frame.bytes 1 1)) }
  else if (g = 6 ∨ 9 ≤ g) ∧ x.frame.mode = 0 then some { base with verify := fun _ => none }
  else if g = 6 ∧ x.frame.mode = 5 then some { base with rule := .access (x.frame.counter.setWidth 8) }
  else if 9 ≤ g then some { base with op := .gcm }
  else some base

/-- One record of a forwarding request (R196 to R198): its result and the sequence its result waits for. -/
def State.forwardOne (s : State) (assoc src : Nat) (x : FwdRecord) (stamp : Nat) : (Bytes × Option U64) × State :=
  let link : U16 := BitVec.ofNat 16 (3 * 2 ^ 14 + (src - 45) * 256 + x.gen.toNat)
  match fwdOffer src link x stamp with
  | none => ((fwdResult x.tag 9 [], none), s)
  | some o =>
    let r := s.accept o
    let c := (r.2.ctxOf o.handle).getD {}
    let ok := r.1 = .accepted || r.1 = .duplicate
    -- the key that verified the record makes its token
    let k : Option Bytes × State := if ok then r.2.lineMeterKey (some 1) o.handle o.op else (none, r.2)
    let tok := match k.1 with | some key => fwdToken key o.handle c.counter c.digest | none => []
    let wait := if ok && k.2.acc.deciding.any (fun d => d.seq == c.jseq) then some c.jseq else none
    -- R431: the association that delivered the meter's last accepted record
    let t := if r.1 = .accepted then
        { k.2 with link := { k.2.link with assoc := tblPut k.2.link.assoc o.handle assoc } }
      else k.2
    ((fwdResult x.tag r.1.code tok, wait), t)

/-- Every record of a request, in order. -/
def State.forwardAll (s : State) (assoc src : Nat) (stamp : Nat) : List FwdRecord → List (Bytes × Option U64) × State
  | [] => ([], s)
  | x :: xs =>
    let a := s.forwardOne assoc src x stamp
    let b := a.2.forwardAll assoc src stamp xs
    (a.1 :: b.1, b.2)

/-- A forwarding request on its association (R196, R197). A Standby's service address does not answer (R428). -/
def State.forwarding (s : State) (r : Req) (records : List FwdRecord) (stamp : Nat) : State :=
  if !s.acting then s
    else if !s.pwr.acceptReady then s.emit (.coap r 503 maxAgeNotReady [])
    else if !s.cfgB 0x502001 then s.emit (.coap r 404 0 [])
    else if s.roleOf r < s.cfgN 0x502003 then s.emit (.coap r 403 0 [])
    else if s.cfgN 0x502002 < records.length then s.emit (.coap r 413 0 [])
    else if records.any (·.zeroLen) then s.emit (.coap r 400 0 [])
    else if records = [] then s.emit (.fwd r 204 [])
    else
      let a := (s.atNet stamp).forwardAll r.sess.id (45 + r.sess.id % 32) stamp records
      if a.1.all (fun x => x.2.isNone) then a.2.emit (.fwd r 204 (a.1.map (·.1)))
      else { a.2 with acc := { a.2.acc with fwd := a.2.acc.fwd ++ [{ req := r, results := a.1 }] } }

/-- R196, R197: a CoAP POST to /f by the peer of a DTLS association. -/
def execForwardingRequest (r : Req) (peer : Bytes) (records : List FwdRecord) (stamp : Nat) (s : State) : Result :=
  .next (match s.association r.sess peer with
    | none => s
    | some t => t.orWait (45 + r.sess.id % 32) (.forwardingRequest r peer records stamp) (t.forwarding r records stamp))

end Sys2Proof.Machine
end

