-- ==== Sys2Proof/Machine/Staging.lean ====
section
/-! DEFINITION. Pending values of staged objects (R52). -/

namespace Sys2Proof.Machine

/-- A checked value of a staged object's item becomes its pending value (R52); refused while the group is APPLYING (R54). -/
def State.stage (s : State) (num inst : Nat) (v : Bytes) : Except Abort State :=
  match groupOf num with
  | none => .error .unsupportedAccess
  | some g =>
    if (s.group g).st = .applying then .error .groupBusy
    else .ok (({ s with dict := { s.dict with pend := tblPut s.dict.pend (storeKey num inst) v } }).setGroup g
      (fun x => { x with st := .pending }))

/-- Pending members of a group (R57). -/
def State.pendingCount (s : State) (g : Nat) : Nat := (groupEntries g s.dict.pend).length

/-- A consistent set is committed (R54): stored, waiting for its safe point, and the group is APPLYING; the configuration
generation advances and never wraps to 0 (R71). -/
def State.commitSet (s : State) (g : Nat) (set : Tbl Bytes) : State :=
  ({ s with dict := { s.dict with
      committed := set.foldl (fun (t : Tbl Bytes) (p : Nat × Bytes) => tblPut t p.1 p.2) s.dict.committed
      pend := groupOthers g s.dict.pend
      generation := if s.dict.generation + 1 = 0 then 1 else s.dict.generation + 1 } }).setGroup g (fun x => { x with st := .applying })

/-- A committed set as it is mirrored (R380): index, subindex, item, value. -/
def committedBytes (set : Tbl Bytes) : Bytes :=
  set.flatMap (fun (p : Nat × Bytes) => leBytes 3 (p.1 / 2 ^ 64) ++ leBytes 4 (p.1 % 2 ^ 64) ++ leBytes 2 p.2.length ++ p.2)

end Sys2Proof.Machine
end

