-- ==== Sys2Proof/Machine/Tariff.lean ====
section
/-! DEFINITION. Which rate is in force (R277, R279), the billing time line, and the feeder register sets (R274). -/

namespace Sys2Proof.Machine

/-- The billing time line: network time less the sum of its steps (R274). -/
def State.line (s : State) : Int := (s.time.net : Int) - s.bill.app.stepSum

/-- Change the application state. -/
def State.setApp (s : State) (f : AppState → AppState) : State := { s with bill := { s.bill with app := f s.bill.app } }

/-- A step of network time leaves the billing time line where it is (R275); what was stamped before it is known by its number. -/
def State.noteStep (s : State) (off : Int) : State :=
  s.setApp (fun a => { a with
    stepSum := a.stepSum + off, stepLog := { cycle := s.time.cycle, seq := s.acc.nextSeq, off := off } :: a.stepLog })

/-- The steps made since something was stamped (R275). -/
def AppState.stepsSince (a : AppState) (before : StepMark → Bool) : Int :=
  (a.stepLog.filter before).foldl (fun n x => n + x.off) 0

/-- Items of a table: the bytes of object num of tariff table t in force. -/
def State.tariffBytes (s : State) (num t : Nat) : Bytes := s.cfgOct num t

/-- The used special day that matches a date, its day profile (R277): the first in subindex order (log entry 16). -/
def State.specialDay (s : State) (t : Nat) (d : CalTime) : Option Nat :=
  (List.range 256).findSome? (fun i =>
    let e := s.tariffBytes (if i < 128 then 0x701501 + i else 0x701601 + (i - 128)) t
    let p := fieldAt e 4 1
    if p ≠ 0 ∧ fieldAt e 2 1 = d.month ∧ fieldAt e 3 1 = d.day ∧ (fieldAt e 0 2 = 0 ∨ fieldAt e 0 2 = d.year) then some p
    else none)

/-- The used seasons: month and day of the start as one number, and the week profile (R277). -/
def State.seasons (s : State) (t : Nat) : List (Nat × Nat) :=
  ((List.range 12).map (fun i => s.tariffBytes (0x701201 + i) t)).filterMap (fun e =>
    if e = [0, 0, 0] then none else some (fieldAt e 0 1 * 100 + fieldAt e 1 1, fieldAt e 2 1))

/-- The week profile of the season that a date falls in (R277). -/
def State.seasonWeek (s : State) (t : Nat) (d : CalTime) : Nat :=
  let l := s.seasons t
  match (l.filter (fun x => decide (x.1 ≤ d.month * 100 + d.day))).getLast? with
  | some x => x.2
  | none => (l.getLast?.map (·.2)).getD 0

/-- The day profile that a date follows (R277). -/
def State.dayProfile (s : State) (t : Nat) (d : CalTime) : Nat :=
  match s.specialDay t d with
  | some p => p
  | none => fieldAt (s.tariffBytes (0x701300 + s.seasonWeek t d) t) (dayOfWeek (daysOf d) - 1) 1

/-- The rate at a minute of the day of a day profile: the latest switching point at or before it (R277). -/
def rateInDay (minute : Nat) : Nat → Bytes → Nat → Nat
  | 0, _, acc => acc
  | _, [], acc => acc
  | n + 1, b, acc =>
    if fieldAt b 0 2 ≤ minute then rateInDay minute n (b.drop 3) (fieldAt b 2 1) else acc

/-- The rate of a table at a minute of billing time (R277); rate 1 where the table gives none. -/
def State.rateOf (s : State) (t bmin : Nat) : Nat :=
  let d := CalTime.ofSecs (bmin * 60)
  let r := rateInDay (bmin % 1440) 16 (s.tariffBytes (0x701400 + s.dayProfile t d) t) 1
  if r = 0 ∨ 8 < r then 1 else r

/-- The rate of a table in force at a place of the billing time line; table 0xFF is always in rate 1 (R277). -/
def AppState.rateAt (a : AppState) (t : Nat) (at_ : Int) : Nat :=
  if t = 0xFF then 1
  else (((tblGet [] a.rates t).find? (fun x => decide (x.1 ≤ at_))).map (·.2)).getD 1

/-- The rate of a table in force now. -/
def State.rateNow (s : State) (t : Nat) : Nat := s.bill.app.rateAt t s.line

/-- Every table's rate follows billing time from a place of the time line on (R277). -/
def State.followRatesAt (s : State) (at_ : Int) (bmin : Nat) : State :=
  (List.range 16).foldl (fun t k =>
    let r := t.rateOf k bmin
    if r = (((tblGet [] t.bill.app.rates k).head?).map (·.2)).getD 1 then t
    else t.setApp (fun a => { a with rates := tblPut a.rates k ((at_, r) :: tblGet [] a.rates k) })) s

/-- Every table's rate follows billing time now. -/
def State.followRates (s : State) : State := s.followRatesAt s.line s.billingNow

/-- R277: billing time has reached a switching point. -/
def execRateSwitch (s : State) : Result := .next s.followRates

/-- Objects of a tariff table. -/
def isTariffObj (num : Nat) : Bool := decide (0x701101 ≤ num) && decide (num ≤ 0x701680)

/-- The values of a table that stand in while its committed version is scheduled (R279). -/
def tableShadow (t : Nat) (p : Nat × Bytes) : Bool := isTariffObj (p.1 / 2 ^ 64) && p.1 % 2 ^ 64 == t

/-- A table's committed version waits for its valid-from (R279). -/
def State.tableScheduled (s : State) (t : Nat) : Bool := s.dict.shadow.any (tableShadow t)

/-- A scheduled table takes effect (R279). -/
def State.activateTable (s : State) (t : Nat) : State :=
  ({ s with dict := { s.dict with shadow := s.dict.shadow.filter (fun p => !tableShadow t p) } }).followRates.raise 0x142 t

/-- R279: billing time has reached a scheduled table's valid-from. -/
def execTariffActive (table : Fin 16) (s : State) : Result :=
  let t := table.val
  .next (if s.tableScheduled t ∧ leNat (s.stored 0x701101 t) ≤ s.billingNow ∧ s.time.untrusted = false then s.activateTable t else s)

/-- Version state 0x7011:03 (R279, R298). -/
def State.tableState (s : State) (t : Nat) : Nat :=
  if !s.dict.tables.contains t then 0 else if s.tableScheduled t then 1 else 2

/-- Energy added to a register, a signed 64-bit integer in mWh (R12). -/
def addE (d x : Int) : Int := wrapS 64 (x + d)

/-- A feeder's netted cycle, in 10^-27 J, goes whole to the rate in force at its end (R274). -/
def State.feederEnergy (s : State) (f : Nat) (net : Int) : State :=
  let t := s.cfgN 0x702101 f
  if t = 0xFF then s
  else
    let i := s.rateNow t - 1
    s.setApp (fun a => { a with
      feeders := tblUpd {} a.feeders f (fun x =>
        if 0 ≤ net then { x with imp := listUpd x.imp i (· + net) } else { x with exp := listUpd x.exp i (· - net) }) })

/-- A feeder's demand interval counts toward the rate in force in its last second (R274, R280). -/
def State.feederDemand (s : State) (f : Nat) (mw : Int) : State :=
  let t := s.cfgN 0x702101 f
  if t = 0xFF then s
  else
    let i := s.bill.app.rateAt t (s.line - 1000000000) - 1
    s.setApp (fun a => { a with
      feeders := tblUpd {} a.feeders f (fun x => { x with md := listUpd x.md i (fun m => max m mw) }) })

end Sys2Proof.Machine
end

