-- ==== Sys2Proof/Machine/Weir.lean ====
section
/-! DEFINITION. The check channels (09_weir): samples, energies per cycle, latches, demand, power quality, waveform
capture and field calibration. -/

namespace Sys2Proof.Machine

/-- Units of 10^-27 J in one mWh. -/
def mwhUnit : Nat := 3600000000000000000000000000

/-- A register in mWh, rounded to the nearest, halves away from zero (R239). -/
def mwh (x : Int) : Int := roundDiv x mwhUnit

/-- Object number of a channel member. -/
def chanN (s : State) (sub ch : Nat) : Nat := s.cfgN (0x601100 + sub) ch
/-- Object number of a feeder member. -/
def feederN (s : State) (sub f : Nat) : Nat := s.cfgN (0x602100 + sub) f

/-- A channel is on. -/
def State.chanOn (s : State) (ch : Nat) : Bool := chanN s 1 ch != 0

/-- Enabled feeders (R238). -/
def State.feedersOn (s : State) : List Nat := (List.range 64).filter (fun f => feederN s 1 f != 0)

/-- A feeder's record. -/
def State.feeder (s : State) (f : Nat) : Feeder := tblGet {} s.weir.feeders f

/-- Change the Weir. -/
def State.setWeir (s : State) (f : WeirState → WeirState) : State := { s with weir := f s.weir }

/-- Change a feeder's record. -/
def State.setFeeder (s : State) (f : Nat) (g : Feeder → Feeder) : State :=
  s.setWeir (fun w => { w with feeders := tblUpd {} w.feeders f g })

/-- Every enabled feeder's running interval and aggregates, and the running block, carry flags (R234, R242, R244). -/
def State.flagFeeders (s : State) (b : U16) : State :=
  s.feedersOn.foldl (fun t f => t.setFeeder f (fun x => { x with
      dFlags := x.dFlags ||| b, aFlags := x.aFlags ||| b, cFlags := x.cFlags ||| b }))
    (s.setWeir (fun w => { w with blkFlags := w.blkFlags ||| b }))

/-- Sample interval of the rate in force, ns (R233). -/
def State.sampleNs (s : State) : Nat :=
  let r := s.cfgN 0x600001
  if r = 1 then 125000 else if r = 3 then 31250 else 62500

/-- Full scale of an input range in nV (R230). -/
def fullScale (range : Nat) : Nat := [1200000000, 600000000, 300000000, 150000000].getD range 1200000000

/-- A raw sample through steps 1 to 4 of R235, in 10^-9 primary units. -/
def State.scaleSample (s : State) (ch : Nat) (lsb : Int) : Int :=
  let fac := s.weir.factoryOk
  let l := lsb - (if fac then Config.factoryOffset ch else 0) - s.cfgI 4 0x601108 ch
  let nv := roundDiv (l * fullScale (chanN s 3 ch)) (2 ^ 23)
  let nv' := if fac then Config.factoryGain ch s.weir.temp s.weir.diverge nv else nv
  scaleInt (scaleInt nv' (BitVec.ofNat 64 (chanN s 6 ch))) (BitVec.ofNat 64 (chanN s 4 ch))

/-- A sample's magnitude reaches 99 % of full scale (R231). -/
def overrange (raw : BitVec 24) : Bool := decide (99 * 2 ^ 23 ≤ 100 * raw.toInt.natAbs)

/-- A channel has a Rogowski coil (R231). -/
def State.isRogowski (s : State) (ch : Nat) : Bool := chanN s 2 ch == 4

/-- A channel's newest sample after step 6 of R235: the fractional delay is the factory skew (none on nominal coefficients, R236)
plus the field delay; no delay leaves a sample of kinds 1 to 3 as it is. -/
def State.filtered (s : State) (ch : Nat) : Int :=
  let h := tblGet [] s.weir.hist ch
  let d := (if s.weir.factoryOk then Config.factorySkew ch s.weir.temp else 0) + s.cfgI 4 0x601107 ch
  if d = 0 ∧ s.isRogowski ch = false then h.headD 0
  else Config.weirDelay s.sampleNs d (if s.isRogowski ch then s.weir.lead else 0) h

/-- A channel takes a scaled sample: a Rogowski coil's is integrated (R231, R235 step 5). -/
def State.pushSample (s : State) (ch : Nat) (y : Int) : State :=
  let z := if s.isRogowski ch then Config.rogowski s.sampleNs (tblGet 0 s.weir.integ ch) y else y
  s.setWeir (fun w => { w with
    integ := if s.isRogowski ch then tblPut w.integ ch z else w.integ
    hist := tblUpd [] w.hist ch (fun h => (z :: h).take 64) })

/-- Take the raw samples of the enabled channels (R231, R235). -/
def State.takeSamples (s : State) (raw : List (Fin 128 × BitVec 24)) : State :=
  raw.foldl (fun t x =>
    let ch := x.1.val
    if t.chanOn ch then
      let t1 := t.pushSample ch (t.scaleSample ch x.2.toInt)
      if overrange x.2 then
        (t1.setWeir (fun w => { w with
          overs := tblUpd 0 w.overs ch (· + 1), overNow := ch :: w.overNow })).raise 0x100 ch
      else t1
    else t) (s.setWeir (fun w => { w with overNow := [] }))

/-- The phase 0 to 2 of a type 1 feeder: that of its channels (R238). -/
def State.singlePhase (s : State) (f : Nat) : Nat := min (chanN s 9 (feederN s 5 f) - 1) 2

/-- Power of a feeder's phases at the newest sample, in 10^-18 W (R239). -/
def State.feederPower (s : State) (f : Nat) : List Int :=
  let p := fun (v i : Nat) => s.filtered (feederN s v f) * s.filtered (feederN s i f)
  match feederN s 1 f with
  | 1 => (List.range 3).map (fun k => if k = s.singlePhase f then p 2 5 else 0)
  | 2 => [p 2 5, 0, p 4 7]
  | _ => [p 2 5, p 3 6, p 4 7]

/-- A feeder's phase is netted at the boundaries of this phase (R239): both elements of a type 2 feeder at ZC_A's. -/
def State.nettedAt (s : State) (f k : Nat) : Nat := if feederN s 1 f = 2 then 0 else k

/-- Add energy over a time to the running nets (R239). -/
def State.runEnergy (s : State) (p : Tbl (List Int)) (dt : Int) : State :=
  p.foldl (fun t x => t.setFeeder x.1 (fun f => { f with
    run := (List.range 3).map (fun k => f.run.getD k 0 + x.2.getD k 0 * dt)
    runTot := f.runTot + (x.2.foldl (· + ·) 0) * dt })) s

/-- Flags that every interval and latch carries now (R234, R236). -/
def State.condFlags (s : State) : U16 :=
  BitVec.ofNat 16 (bit (s.time.sync != .locked) * 2 + bit (decide (10000000 < (s.time.rate - s.time.learned).natAbs)) * 8 +
    bit s.weir.suspect * 32 + bit (!s.weir.factoryOk) * 512)

/-- A feeder has an overrange channel at the newest sample. -/
def State.feederOver (s : State) (f : Nat) : Bool :=
  (List.range 7).any (fun k => s.weir.overNow.contains (feederN s (k + 2) f))

/-- Net one phase of a feeder into its registers, and the total at ZC_A (R239). -/
def Feeder.net (f : Feeder) (phases : List Nat) (total : Bool) : Feeder :=
  let f1 := phases.foldl (fun x k =>
    let e := x.run.getD k 0
    { x with
      imp := listUpd x.imp k (· + max e 0)
      exp := listUpd x.exp k (· + max (-e) 0)
      run := listUpd x.run k (fun _ => 0) }) f
  if total then { f1 with totI := f1.totI + max f1.runTot 0, totE := f1.totE + max (-f1.runTot) 0, runTot := 0 } else f1

/-- Values of a feeder entered in a latch at a boundary of a phase (R244). -/
def LatchVals.enter (v : LatchVals) (f : Feeder) (phases : List Nat) (total : Bool) (flags : U16) : LatchVals :=
  { imp := (List.range 3).map (fun k => if phases.contains k then mwh (f.imp.getD k 0) else v.imp.getD k 0)
    exp := (List.range 3).map (fun k => if phases.contains k then mwh (f.exp.getD k 0) else v.exp.getD k 0)
    totI := if total then mwh f.totI else v.totI
    totE := if total then mwh f.totE else v.totE
    flags := v.flags ||| flags }

/-- One boundary reached: every feeder is netted on its phase, feeder sets take the total, and latches of its cycle take
the values (R239, R244, R274). -/
def State.reachBound (s : State) (b : Bound) : State :=
  let fs := s.feedersOn
  let total := b.phase = 0
  let net := fun (t : State) (f : Nat) =>
    let ph := (List.range 3).filter (fun k => t.nettedAt f k = b.phase)
    let tot := (t.feeder f).runTot
    let t1 := t.setFeeder f (fun x => x.net ph total)
    if total then t1.feederEnergy f tot else t1
  let s1 := fs.foldl net s
  let flags : U16 := s1.condFlags ||| BitVec.ofNat 16 (bit s.weir.stepped.isSome * 4)
  s1.setWeir (fun w => { w with
    latches := w.latches.map (fun l =>
      if b.cycle = some l.target ∧ l.missed = false then
        { l with
          got := listUpd l.got b.phase (fun _ => true)
          offB := if b.phase = 1 then (b.at_ : Int) - (l.sA.getD b.at_ : Nat) else l.offB
          offC := if b.phase = 2 then (b.at_ : Int) - (l.sA.getD b.at_ : Nat) else l.offC
          flags := l.flags ||| BitVec.ofNat 16 (bit b.predicted + bit b.fallback * 1024)
          vals := fs.foldl (fun v f =>
            let ph := (List.range 3).filter (fun k => s1.nettedAt f k = b.phase)
            tblUpd {} v f (fun x => x.enter (s1.feeder f) ph total
              (flags ||| BitVec.ofNat 16 (bit (s1.feederOver f) * 16)))) l.vals }
      else l) })

/-- Boundaries in order of instant (n of them at most) up to an end, energy running between them (R239: a straddling
sample is split in proportion). -/
def State.runBounds (s : State) (p : Tbl (List Int)) (stop : Nat) : Nat → Nat → State
  | 0, cur => s.runEnergy p ((stop : Int) - cur)
  | n + 1, cur =>
    let due := s.weir.bounds.filter (fun b => decide (b.at_ < stop))
    match due.foldl (fun best b => match best with
        | none => some b
        | some x => if b.at_ < x.at_ then some b else some x) (none : Option Bound) with
    | none => s.runEnergy p ((stop : Int) - cur)
    | some b =>
      let at_ := max b.at_ cur
      let s1 := (s.setWeir (fun w => { w with bounds := w.bounds.erase b })).runEnergy p ((at_ : Int) - cur)
      (s1.reachBound b).runBounds p stop n at_

/-- The time a sample stands for in the interval that contains a step of network time is its physical length (R234): what
the last sample was given too much or too little, of the time that accumulates. -/
def State.stepLength (s : State) (at_ : Nat) : State :=
  match s.weir.stepped, s.weir.lastAt with
  | some off, some _ =>
    s.runEnergy s.weir.lastP ((max at_ s.weir.startAt : Nat) - max ((s.weir.upTo : Int) + off) (s.weir.startAt : Int))
  | _, _ => s

/-- Channels of the capture mask (R245). -/
def State.captureChans (s : State) : List Nat :=
  let m := leNat (s.cfgOct 0x605001)
  (List.range 128).filter (fun n => m / 2 ^ n % 2 = 1)

/-- The capture buffer takes the newest sample of its channels (R245). -/
def State.captureSample (s : State) : State :=
  if s.weir.capSt = 3 then s
  else
    let n := s.cfgN 0x605002
    let s1 := s.setWeir (fun w => { w with
      capBuf := (s.captureChans).map (fun ch => (ch, (s.filtered ch :: tblGet [] w.capBuf ch).take n)) })
    if s.weir.capSt = 2 then
      s1.setWeir (fun w => { w with capLeft := w.capLeft - 1, capSt := if w.capLeft ≤ 1 then 3 else 2 })
    else s1

/-- Where the time that a sample at an instant stands for begins (R233): at the instant; after a change of the rate where the
samples so far end, so that no time is lost or counted twice. -/
def State.sampleFrom (s : State) (at_ : Nat) : Nat :=
  if s.weir.lastAt.isNone ∨ s.weir.stepped.isSome then at_
  else if s.weir.lastTs ≠ s.sampleNs then s.weir.upTo
  else max at_ s.weir.upTo

/-- R231, R233 to R239: at a grid instant all enabled channels convert, correct and accumulate a sample. -/
def execCheckChannelSample (at_ : Nat) (raw : List (Fin 128 × BitVec 24)) (s : State) : Result :=
  let s1 := s.takeSamples raw
  let p : Tbl (List Int) := s1.feedersOn.map (fun f => (f, s1.feederPower f))
  let ts := s.sampleNs
  let flags := s1.condFlags
  let s2 := (s1.flagFeeders flags)
  let s3 := s1.feedersOn.foldl (fun t f =>
    if s1.feederOver f then t.setFeeder f (fun x => { x with dFlags := x.dFlags ||| 16, aFlags := x.aFlags ||| 16, cFlags := x.cFlags ||| 16 }) else t) s2
  let begin_ := max (s.sampleFrom at_) s.weir.startAt
  let s4 := if s.weir.st = 2 then
      (s3.stepLength at_).runBounds p (max (at_ + ts) begin_) (s3.weir.bounds.length) begin_
    else s3
  .next (if at_ % ts ≠ 0 then s
    else (s4.setWeir (fun w => { w with
      lastAt := some at_, lastTs := ts, upTo := max (at_ + ts) (s.sampleFrom at_), lastP := p, stepped := none })).captureSample)

/-- A crossing of the mains with its number (R239, R244): it bounds the cycles of the phases, B and C by the last measured
offset until their own crossing is seen; the crossing at which accumulation starts bounds those of B and C, whose first net is what
ran since; and it is the target of latches. While the island is held in reset its latches wait for its
release (R242, R243, log entry 54). -/
def State.weirCrossing (s : State) (num : Cycle) (stamp : Nat) (predicted : Bool) : State :=
  let w := s.weir
  let start := w.st = 1 ∧ w.settled = true
  let ob := w.offB.getD (s.time.period / 3 : Nat)
  let oc := w.offC.getD (2 * s.time.period / 3 : Nat)
  let s1 :=
    if start then
      (s.setWeir (fun w => { w with st := 2, settled := false, startAt := stamp })).flagFeeders 128
    else s
  let live := w.st = 2
  s1.setWeir (fun w => { w with
    bounds := if live ∨ start then w.bounds ++
        (if live then [({ at_ := stamp, phase := 0, cycle := some num, fallback := false, predicted := predicted } : Bound)] else []) ++
        [{ at_ := ((stamp : Int) + ob).toNat, phase := 1, cycle := some num, fallback := true, predicted := predicted },
         { at_ := ((stamp : Int) + oc).toNat, phase := 2, cycle := some num, fallback := true, predicted := predicted }]
      else w.bounds
    latches := if w.st = 0 then w.latches else w.latches.map (fun l =>
      if l.target = num then
        (if live then { l with sA := some stamp, cal := w.calApplies } else { l with missed := true })
      else if cycleAhead num l.target ∧ l.sA = none then { l with missed := true } else l) })

/-- A crossing of phase B (1) or C (2) (R244): the offset of its cycle is measured. -/
def State.weirPhase (s : State) (ph stamp : Nat) : State :=
  match s.time.table.head? with
  | none => s
  | some c =>
    let off : Int := (stamp : Int) - (c.stamp : Int)
    s.setWeir (fun w => { w with
      offB := if ph = 1 then some off else w.offB
      offC := if ph = 2 then some off else w.offC
      bounds := w.bounds.map (fun b =>
        if b.phase = ph ∧ b.cycle = some c.num ∧ b.fallback = true then { b with at_ := stamp, fallback := false } else b) })

/-- At a budget period the integrators' phase lead follows the measured mains period (R231). While the tracker is in SEARCH every
phase is netted over the fallback intervals that bound the budget periods (R239): at the boundary's instant. -/
def State.weirFallback (s0 : State) (at_ : Nat) : State :=
  let s := s0.setWeir (fun w => { w with lead := s0.time.period })
  if s.time.tracker = .search ∧ s.weir.st = 2 then
    s.setWeir (fun w => { w with bounds := w.bounds ++ (List.range 3).map (fun k =>
      ({ at_ := at_, phase := k, cycle := none, fallback := false, predicted := false } : Bound)) })
  else s

/-- A step of network time moves the grid and what is stamped ahead on it, and is flagged, in a latch whose phases have not all
reached their instants too (R234). -/
def State.weirStep (s : State) (off : Int) : State :=
  (s.setWeir (fun w => { w with
    stepped := some (w.stepped.getD 0 + off)
    startAt := ((w.startAt : Int) + off).toNat
    latches := w.latches.map (fun l => if l.sA.isSome then { l with flags := l.flags ||| 4 } else l)
    bounds := w.bounds.map (fun b => { b with at_ := ((b.at_ : Int) + off).toNat }) })).flagFeeders 4

/-- R236: once per second REF_B is converted against REF_A; REF_SUSPECT above 20 ppm until below 15 ppm, WEIR_REF once per
episode. -/
def execRefCheck (ppb : U32) (temp : BitVec 16) (s : State) : Result :=
  let n := ppb.toNat
  let s1 := s.setWeir (fun w => { w with
    temp := temp.toInt, diverge := n
    suspect := if 20000 < n then true else if n < 15000 then false else w.suspect })
  .next (if s.weir.suspect = false ∧ 20000 < n then s1.raise 0x102 n else s1)

/-- Net active energy of a feeder since its registers began, in 10^-27 J. -/
def Feeder.netTotal (f : Feeder) : Int := f.totI - f.totE

/-- A feeder's demand interval closes with further flags (R240, R242): net energy over the nominal interval. -/
def State.closeDemand (s : State) (f : Nat) (extra : U16) : State :=
  let x := s.feeder f
  let mw := roundDiv (x.netTotal - x.dStart) (feederN s 9 f * 60 * 10 ^ 24)
  let flags := x.dFlags ||| extra
  let s1 := s.setFeeder f (fun x => { x with
    demand := mw, lastFlags := flags, dStart := x.netTotal, dFlags := 0
    maxD := max x.maxD mw
    maxAt := if x.maxD < mw then s.time.net else x.maxAt })
  (s1.feederDemand f mw).archive 4 0 (subjectWord 1 f) s.billingNow
    (time64 s.time.net ++ leBytes 8 (ofSigned 64 mw) ++ leBytes 2 flags.toNat)

/-- R240: the end of a feeder's demand interval. -/
def execFeederDemandIntervalEnd (feeder : Fin 64) (s : State) : Result :=
  .next (if feederN s 1 feeder.val = 0 then s else s.closeDemand feeder.val 0)

/-- Command 0x6022:10 (R240). -/
def State.resetMaxCmd (s : State) (r : Req) (arg : Bytes) : State :=
  s.command r 0x602210 arg (fun f s => .done (s.setFeeder f (fun x => { x with maxD := 0, maxAt := 0 })))

/-- R240: command 0x6022:10 resets the selected feeder's maximum demand and its stamp. -/
def execResetMaximumDemand (r : Req) (arg : Bytes) (s : State) : Result := .next (s.resetMaxCmd r arg)

/-- R241: a 10/12-cycle block goes into the ring of 16, the oldest one overwritten and counted lost where the firmware is
behind; reactive and apparent energies grow by its fundamental values. -/
def execPqBlockEnd (b : PqBlock) (s : State) : Result :=
  let full := decide (16 ≤ s.weir.ring.length)
  let s1 := s.setWeir (fun w => { w with
    ring := (if full then w.ring.drop 1 else w.ring) ++ [b]
    ringFlags := (if full then w.ringFlags.drop 1 else w.ringFlags) ++ [w.blkFlags]
    blkFlags := 0
    gap := w.gap || full
    lost := if full then w.lost + 1 else w.lost
    rms := b.channels.foldl (fun t c => tblPut t c.chan c.rms) w.rms })
  .next (b.feeders.foldl (fun t f => t.setFeeder f.feeder (fun x =>
      let e : Int := f.q * (b.len : Int) * 10 ^ 15
      { x with
        reactI := x.reactI + max e 0
        reactE := x.reactE + max (-e) 0
        app := x.app + f.s * (b.len : Int) * 10 ^ 15 })) s1)

/-- The values of a block that a feeder's aggregates take by their squares (R241): the rms of its three voltages, negative-sequence
unbalance, worst voltage THD, neutral residual, zero-sequence unbalance, the rms of its four currents, and of each of its seven
channels fundamental, THD and harmonics 2 to 50. -/
def blockSquares (s : State) (b : PqBlock) (f : PqFeeder) : List F64 :=
  let chans := (List.range 7).map (fun k => b.channels.find? (fun c => c.chan == feederN s (k + 2) f.feeder))
  let rms := chans.map (fun c => (c.map (·.rms)).getD 0)
  let worst := (chans.take 3).foldl (fun m c => let t := (c.map (·.thd)).getD 0; if F64.lt m t then t else m) 0
  rms.take 3 ++ [f.unbalance, worst, f.residual, f.zero] ++ rms.drop 3 ++
    chans.flatMap (fun c => match c with
      | none => List.replicate 51 0
      | some c => c.fund :: c.thd :: (List.range 49).map (fun k => c.harm.getD k 0))

/-- The root of the mean of the squares of an aggregate. -/
def aggValue (sum : F64) (n : Nat) : F64 := (sum.div (F64.ofInt n)).sqrt

/-- The values of an aggregate of n blocks (R241): roots of the mean squares, the means of P, Q and S, and its flags. -/
def aggOf (n : Nat) (sums : List F64) (pow : List Int) (flags : U16) : AggVals :=
  { vals := sums.map (fun x => aggValue x n), pow := pow.map (fun x => roundDiv x n), flags := flags }

/-- The 150/180-cycle values of a feeder: 15 blocks make them (R241). -/
def Feeder.closeShort (x : Feeder) (flags : U16) : Feeder :=
  { x with
    cycles150 := aggOf (max x.cBlocks 1) x.cSums x.cPow (x.cFlags ||| flags)
    cBlocks := 0, cSums := [], cPow := [0, 0, 0], cFlags := if x.pq = [] then 0 else 4096 }

/-- Sums of squares with the squares of a block's values. -/
def addSquares (sums xs : List F64) : List F64 := xs.zipIdx.map (fun x => F64.fma x.1 x.1 (sums.getD x.2 0))

/-- A block with its flags enters the running aggregates (R234, R241): sums of squares, and of P, Q and S
sums, whose mean is the model's reading (log entry 76). -/
def State.aggregate (s : State) (b : PqBlock) (flags : U16) : State :=
  b.feeders.foldl (fun t f =>
    let xs := blockSquares t b f
    let pow := fun (l : List Int) => [l.getD 0 0 + f.p, l.getD 1 0 + f.q, l.getD 2 0 + f.s]
    t.setFeeder f.feeder (fun x =>
      let y := { x with
        aBlocks := x.aBlocks + 1, aSums := addSquares x.aSums xs, aPow := pow x.aPow, aFlags := x.aFlags ||| flags
        cBlocks := x.cBlocks + 1, cSums := addSquares x.cSums xs, cPow := pow x.cPow, cFlags := x.cFlags ||| flags }
      if 15 ≤ y.cBlocks then y.closeShort 0 else y)) s

/-- Voltages of an aggregate in 10^-7 of the rated value of their channels (R336). -/
def aggUnits (s : State) (f k : Nat) (v : F64) : Int :=
  let rated := chanN s 5 (feederN s (k + 2) f)
  scaleInt (10 ^ 10) (v.div (F64.ofInt (max rated 1)))

/-- The 10-minute aggregate of a feeder ends: its values are shown and archived (R241, R250); one without a block has only its
flags. A disturbance that lasts on overlaps the next one too. -/
def State.endAggregate (s : State) (f : Nat) : State :=
  let x := s.feeder f
  let flags := x.aFlags ||| BitVec.ofNat 16 (bit s.weir.gap * 2048)
  let next : U16 := if x.pq = [] then 0 else 4096
  if x.aBlocks = 0 then s.setFeeder f (fun x => { x with aggFlags := flags, aFlags := next })
  else
    let v := fun k => aggValue (x.aSums.getD k 0) x.aBlocks
    let unb := (F64.toInt (v 3)).toNat
    let thd := (F64.toInt (v 4)).toNat
    let step := s.cfgN 0x802101 8 * 1000
    let s1 := s.setFeeder f (fun x => { x with
      volts := [v 0, v 1, v 2], unbal := unb, thd := thd, aggFlags := flags, residual := v 5
      minutes10 := aggOf x.aBlocks x.aSums x.aPow flags
      aBlocks := 0, aSums := [], aPow := [0, 0, 0], aFlags := next })
    s1.archive 8 (bit (step != 0)) (subjectWord 1 f) s.billingNow
      (codeSamples false step 0 0 ((List.range 3).map (fun k => aggUnits s f k (v k))) ++
        codeDiff x.freq ++ codeDiff unb ++ codeDiff thd ++ leBytes 2 flags.toNat)

/-- R241, R250: firmware under account WEIR aggregates the blocks of the ring; the 10 s frequency counts (mHz) of the feeders' first
voltage channels are shown as they come; at a UTC 10-minute mark the 10-minute values of the feeders form. -/
def execPqAggregate (tenMinute : Bool) (freq : List (Fin 64 × U32)) (s : State) : Result :=
  let s0 := (s.weir.ring.zip s.weir.ringFlags).foldl (fun t b => t.aggregate b.1 b.2) (s.setWeir (fun w => { w with ring := [], ringFlags := [] }))
  let s1 := freq.foldl (fun t x => t.setFeeder x.1.val (fun y => { y with freq := x.2.toNat })) s0
  .next (if tenMinute then
      (s1.feedersOn.foldl (fun t f => t.endAggregate f) s1).setWeir (fun w => { w with gap := false })
    else s1)

/-- The state of a voltage channel's disturbance on a feeder after a half-cycle rms in 0.1 % of rated (R241): thresholds
in per cent, hysteresis 2 points; and the event it raises. -/
def pqStep (st level dip swell int : Nat) : Nat × Option Nat :=
  if level < 10 * int then (3, if st = 3 then none else some 0x106)
  else if st = 3 ∧ level < 10 * int + 20 then (3, none)
  else if level < 10 * dip then (1, if st = 1 ∨ st = 3 then none else some 0x104)
  else if (st = 1 ∨ st = 3) ∧ level < 10 * dip + 20 then (1, none)
  else if 10 * swell < level then (2, if st = 2 then none else some 0x105)
  else if st = 2 ∧ 10 * swell < level + 20 then (2, none)
  else (0, none)

/-- R241: a half-cycle rms of a voltage channel, in 0.1 % of its rated value, crosses a threshold of a feeder. -/
def execPqEventDetect (chan : Fin 128) (level : U16) (s : State) : Result :=
  .next (s.feedersOn.foldl (fun t f =>
    if (List.range 3).all (fun k => feederN t (k + 2) f != chan.val) then t
    else
      let old := tblGet (0, 0) (t.feeder f).pq chan.val
      let n := pqStep old.1 level.toNat (feederN t 0x0A f) (feederN t 0x0B f) (feederN t 0x0C f)
      let t1 := t.setFeeder f (fun x => { x with
        pq := if n.1 = 0 then tblDel x.pq chan.val else tblPut x.pq chan.val (n.1, level.toNat)
        aFlags := if n.1 ≠ 0 ∨ old.1 ≠ 0 then x.aFlags ||| 4096 else x.aFlags
        cFlags := if n.1 ≠ 0 ∨ old.1 ≠ 0 then x.cFlags ||| 4096 else x.cFlags
        dips := if n.2 = some 0x104 then x.dips + 1 else x.dips
        swells := if n.2 = some 0x105 ∨ n.2 = some 0x106 then x.swells + 1 else x.swells })
      match n.2 with
      | none => t1
      | some code => t1.raise code level.toNat) s)

/-- Arm a check latch (R243): at most eight pending, the target at least two cycles ahead. -/
def State.armLatch (s : State) (id : U16) (target : Cycle) : Except Abort State :=
  let d := (target - s.time.cycle).toNat
  if d < 2 ∨ 2 ^ 39 ≤ d then .error .valueInvalid
  else if 8 ≤ s.weir.latches.length then .error .deviceBusy
  else .ok (s.setWeir (fun w => { w with latches := w.latches ++ [{ id := id, target := target }] }))

/-- Command 0x6000:0A (R243). -/
def State.armLatchCmd (s : State) (r : Req) (arg : Bytes) : State :=
  s.command r 0x60000A arg (fun _ s =>
    if 2 ^ 40 ≤ fieldAt arg 0 8 then .refuse .valueInvalid s
    else match s.armLatch (BitVec.ofNat 16 (fieldAt arg 8 2)) (BitVec.ofNat 40 (fieldAt arg 0 8)) with
    | .error a => .refuse a s
    | .ok s' => .done s')

/-- R243: command 0x6000:0A arms a check latch at a target cycle. -/
def execArmLatch (r : Req) (arg : Bytes) (s : State) : Result := .next (s.armLatchCmd r arg)

/-- A latch is complete: missed, or every phase has reached its instant (R244). -/
def Latch.ready (l : Latch) : Bool := l.missed || l.got.all (· == true)

/-- The record of a latch for a feeder (R244), 128 bytes. -/
def Latch.record (l : Latch) (f : Nat) : Bytes :=
  let v := if l.missed then {} else tblGet {} l.vals f
  let i := fun x : Int => leBytes 8 (ofSigned 64 x)
  leBytes 2 l.id.toNat ++ leBytes 1 (if l.missed then 2 else 1) ++ leBytes 1 f ++
  leBytes 2 (if l.missed then 0 else (l.flags ||| v.flags).toNat) ++ [0, 0] ++ leBytes 8 l.target.toNat ++
  (if l.missed then List.replicate 12 0 else time64 (l.sA.getD 0)) ++ [0, 0, 0, 0] ++
  v.imp.flatMap i ++ v.exp.flatMap i ++ i v.totI ++ i v.totE ++
  leBytes 4 (ofSigned 32 (if l.missed then 0 else l.offB)) ++ leBytes 4 (ofSigned 32 (if l.missed then 0 else l.offC)) ++
  List.replicate 24 0

/-- Records of the complete latches of a target: kept per feeder (32), written to the check-reading stream, a missed latch
counted (R244). A feeder of `off`, one that a segment uses though it is turned off, has a missed record (R252). Answers the
latches completed. -/
def State.completeLatches (s : State) (target : Cycle) (off : List Nat) : List Latch × State :=
  let ls := s.weir.latches.filter (fun l => l.target == target && l.ready)
  let s1 := s.setWeir (fun w => { w with
    latches := w.latches.filter (fun l => !(l.target == target && l.ready))
    missed := w.missed + BitVec.ofNat 32 (ls.filter (·.missed)).length })
  let put := fun (u : State) (l : Latch) (f : Nat) =>
    (u.setWeir (fun w => { w with records := tblUpd [] w.records f (fun x => (l.record f :: x).take 32) })).archive 4 0
      (subjectWord 1 f) s.billingNow (l.record f)
  (ls, ls.foldl (fun t l =>
    off.foldl (fun u f => put u { l with missed := true } f) (s.feedersOn.foldl (fun u f => put u l f) t)) s1)

/-- An armed capture is triggered (R245); a trigger while it is being filled or coded is ignored and counted. -/
def State.captureTrigger (s : State) : State :=
  if s.weir.capSt = 1 then
    let n := s.cfgN 0x605002
    let pre := n * s.cfgN 0x605003 / 100
    s.setWeir (fun w => { w with
      capSt := if pre = n then 3 else 2
      capLeft := n - pre
      capAt := (w.lastAt.getD 0) - (pre - 1) * s.sampleNs
      capBuf := w.capBuf.map (fun p => (p.1, p.2.take pre)) })
  else if s.weir.capSt = 0 then s
  else s.setWeir (fun w => { w with capIgnored := w.capIgnored + 1 })

/-- Command 0x6050:08 (R245): 1 arm, 2 trigger now, 3 disarm. -/
def State.captureCmd (s : State) (r : Req) (arg : Bytes) : State :=
  s.command r 0x605008 arg (fun _ s =>
    let c := leNat arg
    if c = 1 then
      let n := s.captureChans.length
      if n = 0 ∨ 16 < n ∨ 131072 < n * s.cfgN 0x605002 ∨ s.cfgN 0x605004 = 0 then .refuse .valueInvalid s
      else if s.weir.capSt ≠ 0 then .refuse .deviceBusy s
      else .done (s.setWeir (fun w => { w with capSt := 1 }))
    else if c = 2 then .done s.captureTrigger
    else if c = 3 then .done (s.setWeir (fun w => { w with capSt := if w.capSt = 1 then 0 else w.capSt }))
    else .refuse .valueInvalid s)

/-- R245: capture control 1 checks the configuration and arms the capture. -/
def execCaptureArm (r : Req) (s : State) : Result := .next (s.captureCmd r [1])
/-- R245: capture control 2 triggers the armed capture at once. -/
def execCaptureTriggerNow (r : Req) (s : State) : Result := .next (s.captureCmd r [2])
/-- R245: capture control 3 disarms the capture. -/
def execCaptureDisarm (r : Req) (s : State) : Result := .next (s.captureCmd r [3])

/-- R245: a power-quality event on a feeder, or (none) the trigger time, triggers the capture where its source says so. -/
def execCaptureTrigger (feeder : Option (Fin 64)) (s : State) : Result :=
  let src := s.cfgN 0x605004
  .next (match feeder with
    | some f => if src = 2 ∧ s.cfgN 0x605005 = f.val then s.captureTrigger else s
    | none => if src = 3 ∧ ofTime64 (s.cfgBytes 0x605006 0) ≤ s.time.net then s.captureTrigger else s)

/-- Samples of a captured channel in 10^-7 of its rated value, oldest first (R336). -/
def State.captureUnits (s : State) (ch : Nat) : List Int :=
  (tblGet [] s.weir.capBuf ch).reverse.map (fun v => roundDiv (v * 10) (max (chanN s 5 ch) 1))

/-- Class 9 records of a channel's samples, at most 6,000 samples a record (log entry 17), n records at most. -/
def State.captureRecords (s : State) (ch step at_ : Nat) : Nat → List Int → State
  | 0, _ => s
  | n + 1, xs =>
    if xs = [] then s
    else
      let part := xs.take 6000
      (s.archive 9 (bit (step != 0)) (subjectWord 3 ch) s.billingNow
        (leBytes 1 ch ++ leBytes 1 (s.cfgN 0x600001) ++ [0, 0] ++ time64 at_ ++ leBytes 4 part.length ++ leBytes 4 step ++
          codeSamples true step 0 0 part)).captureRecords ch step (at_ + 6000 * s.sampleNs) n (xs.drop 6000)

/-- R245: a completed capture is coded into the waveform stream, the buffer is released and CAPTURE_DONE is raised with
the archive reference: the place of its first record in the stream of class 9 (log entry 17). -/
def execCaptureDone (s : State) : Result :=
  .next (if s.weir.capSt ≠ 3 then s
    else
      let ref := tblGet 0 s.arch.pos 9
      let step := s.cfgN 0x605007 * 1000
      let s1 := s.captureChans.foldl (fun t ch => t.captureRecords ch step s.weir.capAt 22 (s.captureUnits ch)) s
      (s1.setWeir (fun w => { w with
        capSt := 0, capBuf := [], capDone := w.capDone + 1, capRef := BitVec.ofNat 64 ref })).raise 0x107 ref)

/-- A current channel of a feeder that has a voltage channel of its phase (R248). -/
def State.hasVoltage (s : State) (ch : Nat) : Bool :=
  chanN s 1 ch == 2 && s.feedersOn.any (fun f =>
    (List.range 3).any (fun k => feederN s (k + 5) f == ch && feederN s (k + 2) f != 0xFF))

/-- Command 0x6040:01 (R248). -/
def State.calibrateCmd (s : State) (r : Req) (arg : Bytes) : State :=
  s.command r 0x604001 arg (fun _ s =>
    let ch := fieldAt arg 0 1
    let kind := fieldAt arg 1 1
    let n := fieldAt arg 2 2
    let ref : F64 := BitVec.ofNat 64 (fieldAt arg 4 8)
    if 127 < ch ∨ s.chanOn ch = false ∨ kind = 0 ∨ 3 < kind ∨ F64.finite ref = false ∨ (kind = 3 ∧ ref ≠ 0) ∨
        (kind = 2 ∧ s.hasVoltage ch = false) then .refuse .valueInvalid s
    else if s.weir.calib.isSome then .refuse .deviceBusy s
    else .started (s.setWeir (fun w => { w with
      calib := some { chan := ch, kind := kind, cycles := if n = 0 then 250 else n, ref := ref } })))

/-- R248: command 0x6040:01 starts a gain, phase or offset measurement on a channel. -/
def execCalibrateChannel (r : Req) (arg : Bytes) (s : State) : Result := .next (s.calibrateCmd r arg)

/-- The member a calibration proposes: object, its new value in its encoding and as a number (R248). -/
def State.proposal (s : State) (c : Calib) (meas : F64) : Option (Nat × Bytes × F64) :=
  if c.kind = 1 then
    let g : F64 := F64.div (F64.mul (BitVec.ofNat 64 (chanN s 6 c.chan)) c.ref) meas
    if F64.finite g ∧ F64.le 0x3FECCCCCCCCCCCCD g = true ∧ F64.le g 0x3FF199999999999A = true then
      some (0x601106, leBytes 8 g.toNat, g)
    else none
  else if c.kind = 2 then
    let d := s.cfgI 4 0x601107 c.chan +
      F64.toInt (F64.div (F64.mul (F64.sub meas c.ref) (F64.ofInt s.time.period)) (F64.ofInt 360))
    if -50000 ≤ d ∧ d ≤ 50000 then some (0x601107, leBytes 4 (ofSigned 32 d), F64.ofInt d) else none
  else
    let o := F64.toInt meas
    if -1048576 ≤ o ∧ o ≤ 1048575 then some (0x601108, leBytes 4 (ofSigned 32 o), F64.ofInt o) else none

/-- R248: the measurement ends with its value (rms, angle in degrees, or mean in LSB); the new member value is staged, or
nothing is where it lies outside its range. -/
def execCalibrationMeasured (meas : U64) (s : State) : Result :=
  .next (match s.weir.calib with
    | none => s
    | some c =>
      let s1 := s.setWeir (fun w => { w with calib := none, measured := meas })
      match s.proposal c meas with
      | none => s1.endCommand 0x604001 0 none (some .valueInvalid)
      | some x =>
        match (s1.setWeir (fun w => { w with proposed := x.2.2 })).stage x.1 c.chan x.2.1 with
        | .error a => s1.endCommand 0x604001 0 none (some a)
        | .ok s2 => s2.endCommand 0x604001 0 none none)

/-- R242: the filters have settled; accumulation resumes at the next ZC_A crossing. -/
def execMeasurementSettled (s : State) : Result :=
  .next (s.setWeir (fun w => { w with settled := w.settled || w.st == 1 }))

/-- A latch whose s_A is past while a phase's instant is still ahead is missed where accumulation stops: that phase's crossing falls
while it is stopped (R244). -/
def State.missBegun (s : State) : State :=
  s.setWeir (fun w => { w with latches := w.latches.map (fun l =>
    if l.sA.isSome ∧ l.got.all (· == true) = false then { l with missed := true } else l) })

/-- At the fall of PFW_N accumulation stops, and the open demand intervals and aggregates close, flagged POWER_FAIL
(R242). -/
def State.weirPowerFail (s : State) : State :=
  if s.weir.st = 0 ∨ s.weir.st = 3 then s
  else
    let s1 := s.feedersOn.foldl (fun t f =>
      ((t.closeDemand f 64).setFeeder f (fun x => { (x.closeShort 64) with aFlags := x.aFlags ||| 64 })).endAggregate f) s
    (s1.setWeir (fun w => { w with st := 3, settled := false, bounds := [] })).missBegun

/-- After a release the measurement island settles (R242); registers, with what the open cycle held at the warning, and pending
latches are the stored ones. -/
def State.weirRelease (s : State) : State :=
  let w := s.weir
  let s1 := s.setWeir (fun _ =>
    { st := 1, factoryOk := w.factoryOk, calApplies := w.calApplies, calAt := w.calAt, latches := (s.missBegun).weir.latches
      feeders := w.feeders
      temp := w.temp })
  if w.factoryOk then s1 else s1.raise 0x101 0

/-- An applied commit of group 0x1E that changed a coefficient of a channel that is on (R248). -/
def State.weirCalApplied (s : State) : State :=
  ((s.setWeir (fun w => { w with calApplies := w.calApplies + 1, calAt := s.time.net })).flagFeeders 256).raise 0x103
    (s.weir.calApplies + 1).toNat

end Sys2Proof.Machine
end

