-- ==== Sys2Proof/Machine/Meters.lean ====
section
/-! DEFINITION. Messages to meters on their downlink flows (R206, R254, R309, R312, R431), and their registers in mWh
(R273). -/

namespace Sys2Proof.Machine

/-- Code and arguments of a message, as its opaque encoding takes them. -/
def MeterMsg.args : MeterMsg → Nat × List Int
  | .armLatch id t => (1, [(id.toNat : Int), (t.toNat : Int)])
  | .getLatch => (2, [])
  | .getRegisters => (3, [])
  | .getCycleCount => (4, [])
  | .captureObjects => (14, [])
  | .setCycle n => (5, [(n.toNat : Int)])
  | .getClock => (6, [])
  | .disconnect => (7, [])
  | .reconnect => (8, [])
  | .getOutput => (9, [])
  | .tellCredit b c => (10, [b, (c : Int)])
  | .campaign c st ph b => (12, [(c : Int), (st : Int), (ph : Int), (b : Int)])
  | .script t i => (11, (i : Int) :: t.map (fun b => (b.toNat : Int)))

/-- The services a DLMS client uses (R199): GET with list for several attributes. -/
inductive DlmsService where
  | get | getList | set | action
deriving DecidableEq, Repr

def DlmsService.code : DlmsService → Nat
  | .get => 0 | .getList => 1 | .set => 2 | .action => 3

/-- Service and interface class of a message, by logical name (R199, R201, R254 to R256, R275, R309, R312, R357): a campaign's
image goes to class 18, its tariff to class 20. -/
def State.requestOf (s : State) : MeterMsg → DlmsService × Nat
  | .armLatch _ _ => (.action, 200)
  | .getLatch => (.getList, 200)
  | .getRegisters => (.getList, 3)
  | .captureObjects => (.set, 200)
  | .getCycleCount => (.get, 200)
  | .setCycle _ => (.action, 200)
  | .getClock => (.get, 8)
  | .disconnect => (.action, 70)
  | .reconnect => (.action, 70)
  | .getOutput => (.get, 70)
  | .tellCredit _ _ => (.set, 112)
  | .script _ _ => (.action, 9)
  | .campaign c _ _ _ => if s.cfgN 0xA08101 c = 2 then (.set, 20) else (.action, 18)

/-- The security of a meter's association (R199): suite 0 to 2; LLS for a meter on the OCB link layer in OCB personality, else
HLS by GMAC, or by ECDSA with suites 1 and 2; global, dedicated, general-global or general-dedicated ciphering, or
general-signing with suites 1 and 2. Which of them a meter uses is open (log entry 6). -/
def State.dlmsSecurity (s : State) (h : Nat) : List Nat :=
  let suite := (Config.openInt 105 h).toNat % 3
  let lls := s.pwr.ocb && ((tblFind? s.field.partners h).map (·.gen)) == some 5
  let ecdsa := suite != 0 && (Config.openInt 106 h).toNat % 2 == 1
  [suite, if lls then 1 else if ecdsa then 7 else 5, (Config.openInt 107 h).toNat % (if suite = 0 then 4 else 5)]

/-- The form of the APDU that carries a request to a meter (R199). -/
def State.apduForm (s : State) (h : Nat) (q : DlmsService × Nat) : List Nat := s.dlmsSecurity h ++ [q.1.code, q.2]

/-- The account whose work a message is (R26): BALANCE, BILLING, PREPAY, CAMPAIGN; load commands stand under none of those
that R362 names (log entry 9). -/
def MeterMsg.acct : MeterMsg → Nat
  | .armLatch _ _ => 6
  | .getLatch => 6
  | .getRegisters => 6
  | .getCycleCount => 6
  | .captureObjects => 6
  | .setCycle _ => 6
  | .getClock => 2
  | .disconnect => 3
  | .reconnect => 3
  | .getOutput => 3
  | .tellCredit _ _ => 3
  | .script _ _ => 14
  | .campaign _ _ _ _ => 8

/-- The serial port a meter is on, 0-15 in the order of R41. -/
def State.serialOf (s : State) (h : Nat) : Option Nat := let p := s.cfgN 0xC02201 h; if p < 16 then some p else none

/-- A meter is a direct partner: served on a field port or on a serial port (terms of 00_scope). -/
def State.isDirect (s : State) (h : Nat) : Bool := (tblFind? s.field.partners h).isSome || (s.serialOf h).isSome

/-- Send a message to a meter: an item on its port's downlink flow, which refers to its account and is kept while its queue is full
(R208, R216), or for a remote meter a record that waits for its
forwarder (R206, R431), with an expiry that the spec does not give (log entry 6). A Standby issues none (R38). -/
def State.tell (s : State) (h : Nat) (m : MeterMsg) : State :=
  if s.isStandby then s
  else
    let s1 := s.emit (.meter h m)
    match tblFind? s.field.partners h, s.serialOf h with
    | some x, _ => (s1.produce m.acct (0xC00 + x.port) 2 h m.acct false).schedule
    | none, some p => (s1.produce m.acct (0xC18 + p) 2 h m.acct false).schedule
    | none, none =>
      let a := m.args
      let x := s1.openVal 89
      { x.2 with link := { s1.link with
          nextTag := s1.link.nextTag + 1
          remoteWait := s1.link.remoteWait ++
            [{ gen := 0, wantsReply := true, meter := h, tag := s1.link.nextTag, expiry := x.1.natAbs, frame := Config.dlms (s.apduForm h (s.requestOf m)) h a.1 a.2 }] } }

/-- A register value in mWh through its COSEM scaler (powers of ten of Wh); the part below 1 mWh stays in the next
difference (R273). -/
def toMwh (v : U64) (scaler : BitVec 8) : Int :=
  let k : Int := scaler.toInt + 3
  wrapS 64 (if 0 ≤ k then (v.toNat : Int) * 10 ^ k.toNat else (v.toNat : Int) / 10 ^ (-k).toNat)

/-- Net energy of an answer (R256). -/
def regsNet (r : Regs) : Int := wrapS 64 (toMwh r.imp r.impScaler - toMwh r.exp r.expScaler)

end Sys2Proof.Machine
end

