-- ==== Sys2Proof/Machine/Model.lean ====
section
/-! DEFINITION. The recursive least-squares model of a segment (R262 to R264) in binary64. -/

namespace Sys2Proof.Machine

/-- The sum of a lane: the products of the indices congruent to l modulo 8, ascending, each multiply-add fused (R263). -/
def laneSum (xs ys : List F64) (l : Nat) : F64 :=
  ((xs.zip ys).zipIdx.filter (fun p => p.2 % 8 == l)).foldl (fun a p => F64.fma p.1.1 p.1.2 a) 0

/-- A dot product in the fixed order of R263: ((0+1)+(2+3))+((4+5)+(6+7)). -/
def dot (xs ys : List F64) : F64 :=
  let l := laneSum xs ys
  F64.add (F64.add (F64.add (l 0) (l 1)) (F64.add (l 2) (l 3))) (F64.add (F64.add (l 4) (l 5)) (F64.add (l 6) (l 7)))

/-- Place of an element of P in its packed upper triangle by columns (R264). -/
def triIndex (i j : Nat) : Nat := let a := min i j; let b := max i j; b * (b + 1) / 2 + a

/-- An element of P. -/
def Model.pAt (m : Model) (i j : Nat) : F64 := m.p.getD (triIndex i j) 0

/-- Parameters of the model: a coefficient a member, and u (R262). -/
def Model.size (m : Model) : Nat := m.members.length + 1

/-- The packed triangle of n parameters by a function of row and column. -/
def triangle (n : Nat) (f : Nat → Nat → F64) : List F64 :=
  (List.range n).flatMap (fun j => (List.range (j + 1)).map (fun i => f i j))

/-- The initial covariance of n members (R262). -/
def initP (n : Nat) (vc vu : F64) : List F64 :=
  triangle (n + 1) (fun i j => if i = j then (if i = n then vu else vc) else 0)

/-- The initial model of a set of members (R262). -/
def initModel (hs : List Nat) (vc vu : F64) : Model :=
  { members := hs, theta := List.replicate hs.length F64.one ++ [0], p := initP hs.length vc vu }

/-- One update (R262): regressors, observation, forgetting factor, trace limit, initial variances. Answers whether the
covariance had to be reset. -/
def Model.update (m : Model) (x : List F64) (y lam limit vc vu : F64) : Model × Bool :=
  let n := m.size
  let e := F64.sub y (dot x m.theta)
  let px := (List.range n).map (fun i => dot ((List.range n).map (fun j => m.pAt i j)) x)
  let g := F64.add lam (dot x px)
  let k := px.map (fun v => F64.div v g)
  let theta := (List.range n).map (fun i => F64.fma (k.getD i 0) e (m.theta.getD i 0))
  let raw := triangle n (fun i j => F64.fma (F64.neg (k.getD i 0)) (px.getD j 0) (m.pAt i j))
  let diag := (List.range n).map (fun i => F64.div (raw.getD (triIndex i i) 0) lam)
  let div := if F64.lt limit (dot diag (List.replicate n F64.one)) then F64.one else lam
  let p := raw.map (fun v => F64.div v div)
  let s := if m.updates = 0 then F64.mul e e
    else F64.fma lam m.s (F64.mul (F64.mul (F64.sub F64.one lam) e) e)
  let bad := (List.range n).any (fun i => !(F64.lt 0 (p.getD (triIndex i i) 0) && F64.finite (p.getD (triIndex i i) 0)))
  if bad then ({ m with theta := theta, p := initP m.members.length vc vu, s := s, updates := 0 }, true)
  else ({ m with theta := theta, p := p, s := s, updates := satInc m.updates }, false)

/-- The model of a changed set of members (R258): a continuing member keeps its coefficient and its rows, a new one enters
with coefficient 1, zero covariance and the initial variance, a removed one's row and column go. -/
def Model.remap (m : Model) (hs : List Nat) (vc : F64) : Model :=
  let old : Nat → Option Nat := fun i =>
    if i = hs.length then some m.members.length else (hs[i]?).bind (fun h => m.members.findIdx? (· == h))
  { m with
    members := hs
    theta := (List.range (hs.length + 1)).map (fun i => ((old i).map (fun k => m.theta.getD k 0)).getD F64.one)
    p := triangle (hs.length + 1) (fun i j => match old i, old j with
      | some a, some b => m.pAt a b
      | _, _ => if i = j then vc else 0) }

/-- A member's or u's score: deviation over the root of s times its variance (R265, R266), by IEEE arithmetic. -/
def Model.score (m : Model) (i : Nat) (base : F64) : F64 :=
  F64.div (F64.sub (m.theta.getD i 0) base) (F64.sqrt (F64.mul m.s (m.pAt i i)))

/-- A model as it is laid out in memory and in the archive (R264), 278,528 bytes. -/
def Model.bytes (m : Model) (seg : Nat) : Bytes :=
  let n := m.members.length
  let b := m.base
  let pad := fun (k : Nat) (x : Bytes) => x ++ List.replicate (k - x.length) 0
  let i64 := fun x : Int => leBytes 8 (ofSigned 64 x)
  let big := triangle 257 (fun i j => if i ≤ n ∧ j ≤ n then m.pAt i j else 0)
  pad 1024 (leBytes 2 seg ++ leBytes 2 n ++ leBytes 4 m.updates.toNat ++ leBytes 8 ((b.map (·.cycle.toNat)).getD 0) ++
    leBytes 2 ((b.map (·.id.toNat)).getD 0) ++ List.replicate 6 0 ++ leBytes 8 m.s.toNat ++ i64 ((b.map (·.check)).getD 0)) ++
  (List.range 256).flatMap (fun i => leBytes 4 ((m.members[i]?).getD 0xFFFFFFFF)) ++
  (List.range 256).flatMap (fun i => i64 (match b, m.members[i]? with
    | some l, some h => tblGet 0 l.members h
    | _, _ => 0)) ++
  pad 4096 ((List.range 257).flatMap (fun i => leBytes 8 (m.theta.getD i 0).toNat)) ++
  pad 270336 (big.flatMap (fun v => leBytes 8 v.toNat))

end Sys2Proof.Machine
end

