-- ==== Sys2Proof/Machine/Balance.lean ====
section
/-! DEFINITION. The balance engine (10_balance): latch orders, answers, completeness, the balance record, the model's
updates and the findings. -/

namespace Sys2Proof.Machine

/-- Segments the profile runs (R29, R251). -/
def State.segCapacity (s : State) : Nat := if s.pwr.headEnd ∧ s.pwr.ctxGib < 4 then 1024 else 4096

/-- A member of a segment's object. -/
def segN (s : State) (sub seg : Nat) : Nat := s.cfgN (0x611100 + sub) seg

/-- A segment is on. -/
def State.segOn (s : State) (g : Nat) : Bool := segN s 1 g != 0

/-- Segments that run, in ascending order: those with a stored or scheduled definition (R251). -/
def State.segments (s : State) : List Nat :=
  (((s.dict.vals ++ s.dict.shadow).filter (fun p => p.1 / 2 ^ 64 == 0x611101)).map (fun p => p.1 % 2 ^ 64)).eraseDups.filter
    (fun g => decide (g < s.segCapacity) && s.segOn g)

/-- Members of a segment in ascending handle order (R252). -/
def State.membersOf (s : State) (g : Nat) : List Nat :=
  (s.trust.meters.filter (fun p => s.cfgN 0xC04001 p.1 == g)).map (·.1)

/-- The check meter of a kind 3 segment (R251). -/
def State.checkMeter (s : State) (g : Nat) : Option Nat := if segN s 1 g = 3 then some (segN s 4 g) else none

/-- Meters that answer for a segment: members and the check meter. -/
def State.answerers (s : State) (g : Nat) : List Nat := s.membersOf g ++ (s.checkMeter g).toList

/-- A segment's record. -/
def State.seg (s : State) (g : Nat) : Segment := tblGet {} s.bal.segs g

/-- Change a segment's record. -/
def State.setSeg (s : State) (g : Nat) (f : Segment → Segment) : State :=
  { s with bal := { s.bal with segs := tblUpd {} s.bal.segs g f } }

/-- Change the balance engine. -/
def State.setBal (s : State) (f : BalState → BalState) : State := { s with bal := f s.bal }

/-- An order is outstanding until its target cycle has passed (R253). -/
def State.orderOut (s : State) : Bool :=
  s.bal.orders.any (fun o => o.target == s.time.cycle || cycleAhead o.target s.time.cycle)

/-- Change the order of an identifier. -/
def State.setOrder (s : State) (id : U16) (f : Order → Order) : State :=
  s.setBal (fun b => { b with orders := b.orders.map (fun o => if o.id = id then f o else o) })

/-- How a member can be reached with a latch order (R254). -/
inductive Delivery2 where
  | beacon | arm | remote | none
deriving DecidableEq, Repr

/-- The delivery of a member's link in a segment of a kind (R254); a meter without the extension, or on a link that no
order reaches, is read. -/
def State.deliveryOf (s : State) (kind h : Nat) : Delivery2 :=
  match tblFind? s.field.partners h with
  | some x =>
    if !isRf x.port ∧ x.gen = 4 then .beacon
    else if (tblGet false s.acc.ext h) = false then .none
    else if isRf x.port then (if x.gen = 3 then .arm else .none)
    else if 1 ≤ x.gen ∧ x.gen ≤ 3 then .arm
    else .none
  | none =>
    if (s.serialOf h).isSome then (if tblGet false s.acc.ext h then .arm else .none)
    else if kind = 3 then .remote else .none

/-- Ask a member for its registers: a read latch (R256). -/
def State.readMember (s : State) (id : U16) (h : Nat) : State :=
  (s.tell h .getRegisters).setOrder id (fun o => { o with asked := h :: o.asked })

/-- Deliver an order to the meters of a segment (R254, R255, R256). -/
def State.deliverOrder (s : State) (id : U16) (target : Cycle) (g : Nat) : State :=
  let kind := segN s 1 g
  let remoteSeg := kind = 3 ∧ s.deliveryOf 3 (segN s 4 g) = .remote
  (s.answerers g).foldl (fun t h =>
    let t1 := t.setOrder id (fun o => { o with answers := tblPut o.answers h (.waiting (t.deliveryOf kind h == .beacon)) })
    if remoteSeg then
      (if t.checkMeter g = some h then t1.tell h .getCycleCount
        else if tblGet false t.acc.ext h then t1 else t1.readMember id h)
    else match t.deliveryOf kind h with
    | .beacon => t1
    | .arm => t1.tell h (.armLatch id target)
    | _ => if t.checkMeter g = some h then t1 else t1.readMember id h) s

/-- The next identifier: from 1, wrapping from 0xFFFF back to 1 (R253). -/
def nextOrderId (x : U16) : U16 := if x = 0xFFFF then 1 else x + 1

/-- A scheduled order, or a trigger's, is refused in SEARCH, in quiet start, or while an order is outstanding (R253). -/
def State.orderBlocked (s : State) : Bool := s.time.tracker == .search || s.pwr.quiet || s.orderOut

/-- An order is held, and its meters are armed, asked or read (R253 to R256). A Standby holds the order that the Active mirrors
and sends nothing (`State.tell`, R38). -/
def State.holdOrder (s : State) (id : U16) (target : Cycle) (lead : Nat) : State :=
  let s1 := s.setBal (fun b => { b with
    lastId := id, orders := { id := id, target := target, lead := lead } :: b.orders })
  let s2 := { s1 with field := { s1.field with latch := some (target, id.toNat) } }
  s2.segments.foldl (fun t g => t.deliverOrder id target g) s2

/-- Issue an order at a target whose check latch has been armed in `s` (R253). -/
def State.issueOrder (s : State) (id : U16) (target : Cycle) (lead : Nat) : State :=
  ((s.mirror .latchOrder id.toNat (leBytes 8 target.toNat)).setBal (fun b => { b with
    shownId := id, issued := b.issued + 1 })).holdOrder id target lead

/-- One order: refused while one is outstanding or by its check latch, else issued (R253). Its lead is what separates its target
from the current cycle. -/
def State.tryOrder (s : State) (target : Cycle) : Except Abort State :=
  if s.orderOut then .error .deviceBusy
  else
    let id := nextOrderId s.bal.lastId
    match s.armLatch id target with
    | .error a => .error a
    | .ok s1 => .ok (s1.issueOrder id target (target - s.time.cycle).toNat)

/-- Issue an order, or skip it with LATCH_SKIPPED (R253). -/
def State.orderOrSkip (s : State) (target : Cycle) : State :=
  match (if s.orderBlocked then .error .deviceBusy else s.tryOrder target) with
  | .ok s1 => s1
  | .error _ => (s.setBal (fun b => { b with skipped := b.skipped + 1 })).raise 0x110 (target.toNat % 2 ^ 32)

/-- The schedule's origin 0x6100:06. -/
def State.latchOrigin (s : State) : Cycle := BitVec.ofNat 40 (s.cfgN 0x610006)

/-- A target of the schedule: the origin plus a whole multiple of the period (R253), not behind the origin (R15). -/
def State.isTarget (s : State) (t : Cycle) : Bool :=
  !cycleAhead s.latchOrigin t && (t - s.latchOrigin).toNat % max (s.cfgN 0x610002) 1 == 0

/-- Next target 0x6100:08: the first scheduled one whose issue is not yet past. -/
def State.nextTarget (s : State) : Nat :=
  if !s.cfgB 0x610001 then 0
  else
    let p := max (s.cfgN 0x610002) 1
    let t := s.time.cycle + BitVec.ofNat 40 (s.cfgN 0x610003)
    if cycleAhead s.latchOrigin t then s.latchOrigin.toNat
    else (s.latchOrigin + BitVec.ofNat 40 (((t - s.latchOrigin).toNat + p - 1) / p * p)).toNat

/-- R253: a scheduled order falls due, 0x6100:03 cycles before its target. -/
def execLatchOrderIssue (s : State) : Result :=
  let t := s.time.cycle + BitVec.ofNat 40 (s.cfgN 0x610003)
  .next (if s.acting ∧ s.cfgB 0x610001 = true ∧ s.isTarget t = true then s.orderOrSkip t else s)

/-- Command 0x6100:07 (R253). -/
def State.latchNowCmd (s : State) (r : Req) (arg : Bytes) : State :=
  s.command r 0x610007 arg (fun _ s =>
    let n := leNat arg
    if 2 ^ 40 ≤ n then .refuse .valueInvalid s
    else
      let t := if n = 0 then s.time.cycle + BitVec.ofNat 40 (s.cfgN 0x610003) else BitVec.ofNat 40 n
      match s.tryOrder t with
      | .error a => .refuse a s
      | .ok s1 => .done s1)

/-- R253: command 0x6100:07 issues one order outside the schedule. -/
def execLatchNow (r : Req) (arg : Bytes) (s : State) : Result := .next (s.latchNowCmd r arg)

/-- Members of an order whose arm is not acknowledged. -/
def Order.unarmed (o : Order) : List Nat :=
  (o.answers.filter (fun p => p.2 == .waiting false && !o.asked.contains p.1)).map (·.1)

/-- R254: two cycles before an order's target an arm not acknowledged is abandoned, and the member is read. A check meter
is never read instead (R256). -/
def execArmAbandon (s : State) : Result :=
  .next ((s.bal.orders.filter (fun o => decide ((o.target - s.time.cycle).toNat ≤ 2))).foldl (fun t o =>
    o.unarmed.foldl (fun u h =>
      if u.segments.any (fun g => u.checkMeter g == some h) then u else u.readMember o.id h) t) s)

/-- R254: a unicast set_cycle to a native radio, wired M-Bus or RS-485 member or check meter, at least once per 600 s. -/
def execSetCycleUnicast (handle : Handle) (s : State) : Result :=
  let h := handle.toNat
  let radio : Bool := match tblFind? s.field.partners h with
    | some x => isRf x.port && x.gen == 3
    | none => (s.serialOf h).isSome
  let due : Bool := match tblFind? s.bal.setCycleAt h with
    | none => true
    | some t => decide (t + 600 ≤ s.monoSec)
  let latches := s.cfgN 0xC04001 h ≠ 0xFFFF ∨ s.segments.any (fun g => s.checkMeter g == some h)
  .next (if s.acting ∧ radio ∧ due ∧ tblGet false s.acc.ext h ∧ latches then
      (s.setBal (fun b => { b with setCycleAt := tblPut b.setCycleAt h s.monoSec })).tell h (.setCycle s.time.cycle)
    else s)

/-- The check side of an order for a segment (R257): energy, instant and flags of the latch record; or the check meter's
answer. -/
def State.checkSide (s : State) (o : Order) (g : Nat) : Option (Int × Nat × U16) :=
  let kind := segN s 1 g
  if kind = 3 then
    match tblFind? o.answers (segN s 4 g) with
    | some (.latched net) => some (net, 0, 0)
    | _ => none
  else
    match (tblGet [] s.weir.records (segN s 2 g)).find? (fun b =>
        fieldAt b 0 2 == o.id.toNat && fieldAt b 8 8 == o.target.toNat && fieldAt b 2 1 == 1) with
    | none => none
    | some b =>
      let i := fun off => toSigned 64 (fieldAt b off 8)
      let flags := BitVec.ofNat 16 (fieldAt b 4 2)
      let sA := ofTime64 (slice b 16 12)
      if kind = 1 then some (wrapS 64 (i 80 - i 88), sA, flags)
      else
        let k := min (segN s 3 g - 1) 2
        let off : Int := if k = 0 then 0 else toSigned 32 (fieldAt b (92 + 4 * k) 4)
        some (wrapS 64 (i (32 + 8 * k) - i (56 + 8 * k)), ((sA : Int) + off).toNat, flags)

/-- The latched cycle that a segment's members must have answered with (R256). -/
def State.wantedCycle (s : State) (o : Order) (g : Nat) : Option Cycle :=
  match s.checkMeter g with
  | none => some o.target
  | some c => tblFind? o.checkCycle c

/-- Discard the latched answers of a kind 3 segment whose cycle is not the check meter's (R256). -/
def State.dropMismatched (s : State) (id : U16) (o : Order) (g : Nat) : State :=
  match s.wantedCycle o g with
  | none => s
  | some c =>
    (s.membersOf g).foldl (fun t h =>
      match tblFind? o.answers h, tblFind? o.checkCycle h with
      | some (.latched _), some c' =>
        if c' = c then t
        else ((t.setOrder id (fun o => { o with
            answers := tblPut o.answers h (.waiting true), mismatched := h :: o.mismatched })).setMember h
          (fun m => { m with noAnswer := satInc m.noAnswer }))
      | _, _ => t) s

/-- Net energy of an answer, if it is one. -/
def Answer2.net : Answer2 → Option Int
  | .waiting _ => none
  | .latched n => some n
  | .read n => some n

/-- A segment whose check value and every member's answer are in is complete, and queued for its update (R257). -/
def State.tryComplete (s : State) (id : U16) (g : Nat) : State :=
  match s.bal.orders.find? (fun o => o.id == id) with
  | none => s
  | some o0 =>
    let s0 := s.dropMismatched id o0 g
    match s0.bal.orders.find? (fun o => o.id == id) with
    | none => s0
    | some o =>
      let hs := s0.membersOf g
      if o.closed.contains g ∨ s0.segOn g = false then s0
      else if hs.all (fun h => ((tblFind? o.answers h).bind (·.net)).isSome) then
        match s0.checkSide o g with
        | none => s0
        | some c =>
          let l : SegLatch :=
            { id := id, cycle := (s0.wantedCycle o g).getD o.target, at_ := c.2.1, check := c.1
              members := hs.map (fun h => (h, ((tblFind? o.answers h).bind (·.net)).getD 0))
              reads := hs.filter (fun h => match tblFind? o.answers h with | some (.read _) => true | _ => false)
              flags := c.2.2
              cal := o.cal.getD s0.weir.calApplies }
          let s1 := (s0.setOrder id (fun o => { o with closed := g :: o.closed })).setSeg g (fun x => { x with
            incomplete := 0, st := if x.st = 3 then 2 else x.st, queue := x.queue ++ [l] })
          hs.foldl (fun t h => t.setMember h (fun m => { m with noAnswer := 0 })) s1
      else s0

/-- R244, R247: the latch records of a target complete, and the balance engine takes them; a feeder turned off that a segment uses
is recorded as missed (R252). -/
def execLatchRecordComplete (target : BitVec 40) (s : State) : Result :=
  let off := ((s.segments.filter (fun g => segN s 1 g != 3)).map (fun g => segN s 2 g)).eraseDups.filter (fun f => !s.feedersOn.contains f)
  let c := s.completeLatches target off
  .next (c.1.foldl (fun t l =>
    t.segments.foldl (fun u g => u.tryComplete l.id g) (t.setOrder l.id (fun o => { o with cal := some l.cal }))) c.2)

/-- An order that a meter's answer can serve: the newest whose answer from it is open. -/
def State.orderFor (s : State) (h : Nat) (id : Option U16) : Option Order :=
  s.bal.orders.find? (fun o =>
    (match id with | none => true | some i => o.id == i) &&
    (match tblFind? o.answers h with | some (.waiting _) => true | _ => false))

/-- Segments that a meter answers for. -/
def State.segsOf (s : State) (h : Nat) : List Nat := s.segments.filter (fun g => (s.answerers g).contains h)

/-- What the device notes of a class 200 answer beside the latch (R205). -/
def State.noteAlign (s : State) (h : Nat) (id : U16) (status : U8) (cycle : Cycle) (al : Option LatchAlign) : State :=
  { s with acc := { s.acc with
    ext := tblPut s.acc.ext h true
    align := tblUpd ((0, 0x80000000, 0, 0, 0) : U8 × U32 × U16 × U8 × Cycle) s.acc.align h (fun a =>
      ((al.map (·.state)).getD a.1, (al.map (·.zc)).getD a.2.1, id, status, cycle)) } }

/-- The crossing offset 5T/6 - zc_delta of a hops-0 reporter of a G3-PLC or PRIME port votes for its phase as a report does
(R151, R202, R267); its cycle is the one that the last set_cycle numbered. -/
def State.noteLatch (s : State) (h : Nat) (id : U16) (status : U8) (cycle : Cycle) (al : Option LatchAlign) : State :=
  let s1 := s.noteAlign h id status cycle al
  match al, tblFind? s.field.partners h with
  | some a, some x =>
    if a.zc = 0x80000000 ∨ a.hops ≠ 0 ∨ isRf x.port = true ∨ x.gen = 0 ∨ 3 < x.gen then s1
    else
      let off : Int := ((5 * s.time.period / 6000 : Nat) : Int) - a.zc.toInt
      let c := (s.fport x.port).lastSet
      (s1.votePhase x.port h c off).inferPhase h c off (s.pcfg x.port 6 0x0B)
  | _, _ => s1

/-- Record an answer of a meter in an order and try its segments. -/
def State.recordAnswer (s : State) (h : Nat) (o : Order) (a : Answer2) (cycle : Option Cycle) : State :=
  let s1 := s.setOrder o.id (fun x => { x with
      answers := tblPut x.answers h a
      checkCycle := match cycle with | none => x.checkCycle | some c => tblPut x.checkCycle h c })
  (s1.segsOf h).foldl (fun t g => t.tryComplete o.id g) s1

/-- R255: the target of a remote segment: the check meter's cycle count, the cycles elapsed since its acceptance at the
nominal frequency, and the order's lead; the check meter and every member with the extension (R254) are armed with it. -/
def State.armRemote (s : State) (h : Nat) (o : Order) (count : Cycle) (acceptedAt : Nat) : State :=
  let hz := s.cfgN 0x310005
  let t := count + BitVec.ofNat 40 ((s.time.net - acceptedAt) * max hz 1 / 1000000000 + o.lead)
  (s.segments.filter (fun g => s.checkMeter g == some h)).foldl (fun u g =>
    ((u.answerers g).filter (fun m => m == h || tblGet false u.acc.ext m)).foldl (fun v m => v.tell m (.armLatch o.id t))
      (u.setOrder o.id (fun x => { x with remote := tblPut x.remote g t }))) s

/-- A latched answer of a meter (R256): a status 3 leads to a read; a status 2 whose latched cycle does not match is discarded
and counted. -/
def State.latchedAnswer (s1 : State) (h : Nat) (id : U16) (status : U8) (cycle : Cycle) (regs : Regs) : State :=
  match s1.orderFor h (some id) with
  | none => s1
  | some o =>
    if status = 1 then s1.setOrder id (fun x => { x with answers := tblPut x.answers h (.waiting true) })
    else if status = 3 then
      (if s1.segments.any (fun g => s1.checkMeter g == some h) then s1 else s1.readMember id h)
    else if status = 2 then
      let free := (s1.segsOf h).any (fun g => segN s1 1 g == 3)
      if cycle = o.target ∨ free then s1.recordAnswer h o (.latched (regsNet regs)) (some cycle)
      else (s1.setOrder id (fun x => { x with mismatched := h :: x.mismatched })).setMember h
        (fun m => { m with noAnswer := satInc m.noAnswer })
    else s1

/-- An accepted answer that has its effect (R255, R256). -/
def State.answered (s : State) (h acceptedAt : Nat) (al : Option LatchAlign) (a : LatchAns) : State :=
  match a with
  | .capture ok => { s with acc := { s.acc with ext := tblPut s.acc.ext h ok } }
  | .cycleCount c =>
    let s1 : State := { s with acc := { s.acc with ext := tblPut s.acc.ext h true } }
    match s1.orderFor h none with
    | none => s1
    | some o => s1.armRemote h o c acceptedAt
  | .read regs =>
    match s.orderFor h none with
    | none => s
    | some o => if s.segments.any (fun g => s.checkMeter g == some h) then s else s.recordAnswer h o (.read (regsNet regs)) none
  | .latched id status cycle regs => (s.noteLatch h id status cycle al).latchedAnswer h id status cycle regs

/-- R256: an answer in the entry of a sequence, applied once (R193). One in an unsecured entry, or in an APDU that R200
discards, has no effect. -/
def execLatchAnswer (handle : Handle) (seq : U64) (align : Option LatchAlign) (a : LatchAns) (s : State) : Result :=
  let h := handle.toNat
  let done : Bool := (tblFind? s.bal.applied h).any (fun q => decide (seq ≤ q))
  .next (match s.entryOf seq with
    | none => s
    | some e =>
      if e.handle ≠ h ∨ done = true ∨ e.isOpen = false ∨ e.unsecured = true then s
      else
        let j := s.judgeApdu seq
        if j.1 then j.2
        else (j.2.setBal (fun b => { b with applied := tblPut b.applied h seq })).answered h e.at_ align a)

/-- Cycles since an order's target. -/
def State.pastTarget (s : State) (o : Order) (n : Nat) : Bool :=
  !(cycleAhead o.target s.time.cycle) && decide (n ≤ (s.time.cycle - o.target).toNat)

/-- R256: at the target plus 0x6100:05 cycles every member that has not answered is asked for attributes 6, 8 and 9. -/
def execLatchReportWait (s : State) : Result :=
  .next ((s.bal.orders.filter (fun o => s.pastTarget o (s.cfgN 0x610005))).foldl (fun t o =>
    (o.answers.filter (fun p => (p.2.net).isNone && !o.polled.contains p.1)).foldl (fun u p =>
      (u.tell p.1 .getLatch).setOrder o.id (fun x => { x with polled := p.1 :: x.polled })) t) s)

/-- A latch is incomplete for a segment (R257); a member that did answer it has answered the last latch (R271). -/
def State.incompleteLatch (s : State) (o : Order) (g : Nat) : State :=
  let n := (s.seg g).incomplete + 1
  let s1 := s.setSeg g (fun x => { x with
    incomplete := min n 0xFFFF, long := true, st := if 4 ≤ n then 3 else x.st })
  let s2 := if n = 4 then s1.raise 0x111 g else s1
  (s.membersOf g).foldl (fun t h =>
    if ((tblFind? o.answers h).bind (·.net)).isSome then t.setMember h (fun m => { m with noAnswer := 0 })
    else if o.mismatched.contains h then t
    else t.setMember h (fun m => { m with noAnswer := satInc m.noAnswer })) s2

/-- R257: the completeness deadline of an order passes: it is incomplete for every segment still missing answers, and the
order is over. -/
def execLatchDeadline (s : State) : Result :=
  let past := s.bal.orders.filter (fun o => s.pastTarget o (s.cfgN 0x610004))
  .next (past.foldl (fun t o =>
    ((t.segments.filter (fun g => !o.closed.contains g)).foldl (fun u g => u.incompleteLatch o g) t).setBal
      (fun b => { b with orders := b.orders.filter (fun x => x.id != o.id) })) s)

/-- Initial variances and trace limit (R269). -/
def State.f64 (s : State) (num : Nat) (inst : Nat := 0) : F64 := BitVec.ofNat 64 (s.cfgN num inst)

/-- The technical loss in mWh (R259): P0 dt + rho 10^-6 |P| |dE|, in binary64, the sum fused with the last product (R263), rounded
half away from zero; operations in the order written (log entry 18). -/
def techLoss (p0 rho dt : Nat) (dE : Int) : Int :=
  let fdt := F64.ofInt dt
  let e := F64.abs (F64.ofInt dE)
  let noLoad := F64.div (F64.mul (F64.ofInt p0) fdt) (F64.ofInt 3600000000)
  let pbar := F64.div (F64.mul e (F64.ofInt 3600000)) fdt
  F64.toInt (if dt = 0 then noLoad else F64.fma (F64.mul (F64.ofRatio rho 1000000) pbar) e noLoad)

/-- The balance ratio in ppm, toward zero (R259), within its I32. -/
def balanceRatio (b dE : Int) : Int :=
  if dE = 0 then 0
  else max (-2147483648) (min 2147483647 ((if 0 ≤ b then 1 else -1) * ((b.natAbs * 1000000 / dE.natAbs : Nat) : Int)))

/-- A sum of energies, in the 64 bits of R12. -/
def sumE (xs : List Int) : Int := wrapS 64 (xs.foldl (· + ·) 0)

/-- An interval between a baseline and a complete latch (R259 to R261). -/
structure Interval where
  dt : Nat
  dE : Int
  dMem : List Int
  loss : Int
  bal : Int
  ratio : Int
  flags : U16
  update : Bool

/-- Form the interval of a segment (R259, R260, R261): differences of registers in the 64 bits of R12, which a register's wrap
leaves right (R263). -/
def State.interval (s : State) (g : Nat) (b k : SegLatch) : Interval :=
  let kind := segN s 1 g
  let hs := k.members.map (·.1)
  let dE := wrapS 64 (k.check - b.check)
  let dMem := k.members.map (fun p => wrapS 64 (p.2 - tblGet p.2 b.members p.1))
  let dt := if kind = 3 then (k.cycle - b.cycle).toNat * 1000000000 / max (s.cfgN 0x310005) 1 else k.at_ - b.at_
  let loss := techLoss (segN s 5 g) (segN s 6 g) dt dE
  let bal := wrapS 64 (dE - sumE dMem - loss)
  let f := b.flags ||| k.flags
  let checkFlag := f.getLsbD 4 || f.getLsbD 5 || f.getLsbD 9
  let cal := b.cal != k.cal
  let mixed := kind = 1 && hs.any (fun h =>
    let ph := if (s.member h).phase ≠ 0 then (s.member h).phase else ((tblFind? s.field.partners h).map (·.phase)).getD 0
    ph == 2 || ph == 3)
  let idle := dE = 0 && dMem.all (· == 0)
  let no := checkFlag || cal || idle
  { dt := dt, dE := dE, dMem := dMem, loss := loss, bal := bal, ratio := balanceRatio bal dE
    flags := BitVec.ofNat 16 (bit no * 128 + bit checkFlag * 64 + bit cal * 32 + bit (b.reads != [] || k.reads != []) * 16 +
      bit mixed * 8 + bit (s.seg g).long * 4 + bit (s.seg g).restored * 2 + bit (f.getLsbD 0))
    update := !no }

/-- The balance record (R261), 64 bytes. -/
def Interval.record (i : Interval) (g : Nat) (b k : SegLatch) : Bytes :=
  let i64 := fun x : Int => leBytes 8 (ofSigned 64 x)
  leBytes 2 g ++ leBytes 2 k.id.toNat ++ leBytes 2 b.id.toNat ++ leBytes 2 i.flags.toNat ++ leBytes 8 k.cycle.toNat ++
  leBytes 8 i.dt ++ i64 i.dE ++ i64 (sumE i.dMem) ++ i64 i.loss ++ i64 i.bal ++
  leBytes 2 (k.members.length - k.reads.length) ++ leBytes 2 k.reads.length ++ leBytes 4 (ofSigned 32 i.ratio)

/-- A member's state after an evaluation (R265): thresholds, consecutive updates wanted. -/
def Member.evaluate (m : Member) (z dev thr half dmin : F64) (n : Nat) : Member × Option Nat :=
  let up := F64.le thr z && F64.le dmin dev
  let down := F64.le z (F64.neg thr) && F64.le dmin (F64.neg dev)
  let back := F64.lt (F64.abs z) half
  let m1 := { m with z := z }
  if m.st = 3 ∨ m.st = 4 then
    let k := if back then m.back + 1 else 0
    if n ≤ k then ({ m1 with st := 2, up := 0, down := 0, back := 0 }, none) else ({ m1 with back := k }, none)
  else
    let u := if up then m.up + 1 else 0
    let d := if down then m.down + 1 else 0
    if n ≤ u then ({ m1 with st := 3, up := 0, down := 0, back := 0 }, some 0x114)
    else if n ≤ d then ({ m1 with st := 4, up := 0, down := 0, back := 0 }, some 0x115)
    else ({ m1 with st := 2, up := u, down := d, back := 0 }, none)

/-- Scores of the members of a segment after an update (R265): suppressed for a smeared or wrongly phased member. -/
def State.scoreMembers (s : State) (g : Nat) (reads : List Nat) : State :=
  let m := (s.seg g).model
  let thr := F64.ofRatio (s.cfgN 0x610101) 100
  let half := F64.ofRatio (s.cfgN 0x610101) 200
  let dmin := F64.ofRatio (s.cfgN 0x610102) 1000000
  let s1 := m.members.foldl (fun t h => t.setMember h (fun x => { x with
    smeared := (reads.contains h :: x.smeared).take 32
    st := if x.st = 0 then 1 else x.st })) s
  if m.updates.toNat < s.cfgN 0x610104 then s1
  else m.members.zipIdx.foldl (fun t p =>
    let h := p.1
    let x := t.member h
    let smear := (x.smeared.filter (· == true)).length
    if t.cfgN 0x61010A * x.smeared.length < smear * 100 ∨ x.wrong then
      t.setMember h (fun x => { x with st := 1, up := 0, down := 0, back := 0 })
    else
      let e := x.evaluate (m.score p.2 F64.one) (F64.sub (m.theta.getD p.2 0) F64.one) thr half dmin (t.cfgN 0x610103)
      let t1 := t.setMember h (fun _ => e.1)
      match e.2 with
      | none => t1
      | some code => t1.raise code h) s1

/-- The unmetered score of a segment after an update (R266). -/
def State.scoreUnmetered (s : State) (g : Nat) : State :=
  let x := s.seg g
  let m := x.model
  if m.updates.toNat < s.cfgN 0x610104 then s
  else
    let u := m.theta.getD m.members.length 0
    let zu := m.score m.members.length 0
    let thr := F64.ofRatio (s.cfgN 0x610101) 100
    let half := F64.ofRatio (s.cfgN 0x610101) 200
    let n := s.cfgN 0x610103
    let hi := if F64.le thr zu && F64.le (F64.ofRatio (s.cfgN 0x610105) 1000) u then x.hi + 1 else 0
    let lo := if F64.lt zu half then x.lo + 1 else 0
    if x.st ≠ 4 ∧ n ≤ hi then (s.setSeg g (fun x => { x with zu := zu, st := 4, hi := 0, lo := 0 })).raise 0x116 g
    else if x.st = 4 ∧ n ≤ lo then s.setSeg g (fun x => { x with zu := zu, st := 2, hi := 0, lo := 0 })
    else s.setSeg g (fun x => { x with zu := zu, hi := hi, lo := lo })

/-- The bytes of a model copy in records of 60,000 bytes (log entry 17). -/
def chunks : Nat → Bytes → List Bytes
  | 0, _ => []
  | n + 1, b => if b = [] then [] else b.take 60000 :: chunks n (b.drop 60000)

/-- Write a copy of a segment's model to the archive (R264). -/
def State.saveModel (s : State) (g : Nat) : State :=
  let m := (s.seg g).model
  (chunks 5 (m.bytes g)).foldl (fun t b => t.archive 6 0 (subjectWord 2 g) s.billingNow b)
    (s.setSeg g (fun x => { x with copy := some x.model, sinceSave := 0 }))

/-- MODEL_RESET is counted and raised (R258, R262, R269). -/
def State.modelReset (s : State) (g : Nat) : State :=
  (s.setBal (fun b => { b with resets := b.resets + 1 })).raise 0x112 g

/-- The model's update from an interval (R262), then the findings; the copy is saved every 0x6101:0B updates, and always
in Station profile (R264). -/
def State.updateModel (s : State) (g : Nat) (i : Interval) (reads : List Nat) : State :=
  let m0 := (s.seg g).model
  let hs := s.membersOf g
  let m := if m0.members = hs then m0 else m0.remap hs (s.f64 0x610108)
  let x := i.dMem.map (fun d => F64.ofRatio d 1000000) ++ [F64.ofRatio i.dt 3600000000000]
  let u := m.update x (F64.ofRatio (i.dE - i.loss) 1000000) (F64.ofRatio (segN s 7 g) 1000000) (s.f64 0x610107)
    (s.f64 0x610108) (s.f64 0x610109)
  let s1 := s.setSeg g (fun x => { x with model := u.1, sinceSave := x.sinceSave + 1 })
  let s2 := if u.2 then s1.modelReset g else s1
  (s2.scoreMembers g reads).scoreUnmetered g

/-- One complete latch of a segment: the first is its baseline; a later one gives a balance record and, unless NO_UPDATE, an
update of the model; the baseline advances (R258, R261). -/
def State.takeLatch (s : State) (g : Nat) (k : SegLatch) : State :=
  let x := s.seg g
  let advance := fun (t : State) => t.setSeg g (fun y => { y with
    model := { y.model with base := some k }, long := false, restored := false, st := if y.st = 0 ∨ y.st = 1 then 2 else y.st })
  match x.model.base with
  | none => advance s
  | some b =>
    let i := s.interval g b k
    let body := i.record g b k
    let limit := s.cfgN 0x610106
    let s1 := s.setSeg g (fun y => { y with records := (body :: y.records).take 8 })
    let s2 := s1.archive 5 0 (subjectWord 2 g) s.billingNow body
    let s3 := if (limit : Int) < (i.ratio.natAbs : Int) ∨ (limit = 0 ∧ i.bal ≠ 0) then s2.raise 0x113 g else s2
    let s4 := if i.update then (s3.updateModel g i (b.reads ++ k.reads)).setBal (fun b => { b with
        updated := if b.updatedId = k.id then b.updated + 1 else 1, updatedId := k.id }) else s3
    let s5 := advance s4
    if i.update ∧ (s.pwr.headEnd = false ∨ s.cfgN 0x61010B ≤ (s5.seg g).sinceSave) then s5.saveModel g else s5

/-- A segment's model is brought into the scratch region whole and written back (R28, R268): 278,528 bytes each way in 64-byte
transfers of the context memory, or 17 page reads and 17 page programs; charged to BALANCE. -/
def State.bringModel (s : State) (g : Nat) : State :=
  let s1 : State := { s with arch := { s.arch with scratchSeg := some g } }
  if s.pwr.headEnd then s1.charge 6 2 8704 else s1.charge 6 3 85

/-- R262: a queued segment forms its balance record and updates its model; while the balance island is held (R25), or BALANCE has
no balance for the transfers (R219), it stays queued. -/
def execSegmentUpdate (segment : BitVec 12) (s : State) : Result :=
  let g := segment.toNat
  .next (match (if s.isUp 9 ∧ s.allows 6 (if s.pwr.headEnd then 2 else 3) then (s.seg g).queue else []) with
    | [] => s
    | k :: rest => ((s.setSeg g (fun x => { x with queue := rest })).bringModel g).takeLatch g k)

/-- Initialise a segment's model (R262) and wait for a baseline; a copy of the model before is no longer its own. -/
def State.initSegment (s : State) (g : Nat) : State :=
  s.setSeg g (fun x => { x with
    model := initModel (s.membersOf g) (s.f64 0x610108) (s.f64 0x610109), copy := none
    zu := 0, hi := 0, lo := 0, long := false, restored := false, sinceSave := 0, queue := []
    st := if s.segOn g then 1 else 0 })

/-- Command 0x6113:01 (R258): the model is re-initialised and counted (log entry 19). -/
def State.resetModelCmd (s : State) (r : Req) (arg : Bytes) : State :=
  s.command r 0x611301 arg (fun g s =>
    if s.segCapacity ≤ g then .refuse .valueInvalid s
    else .done ((s.initSegment g).setBal (fun b => { b with resets := b.resets + 1 })))

/-- R258: command 0x6113:01 re-initialises the selected segment's model and resets its baseline. -/
def execResetModel (r : Req) (arg : Bytes) (s : State) : Result := .next (s.resetModelCmd r arg)

/-- An applied commit of group 0x1F touches a segment (R258): its baseline is reset; a change of check source
re-initialises the model, any other keeps it over the new members, and with it the latest copy (log entry 17). -/
def State.touchSegment (s : State) (g : Nat) (reinit : Bool) : State :=
  if reinit then (s.initSegment g).modelReset g
  else if (s.seg g).model.theta = [] then s.initSegment g
  else s.setSeg g (fun x => { x with
    model := { x.model.remap (s.membersOf g) (s.f64 0x610108) with base := none }
    copy := x.copy.map (fun m => { m.remap (s.membersOf g) (s.f64 0x610108) with base := none })
    long := false, restored := false, queue := [], st := if s.segOn g then 1 else 0 })

/-- After a restart the models are restored from their latest copies (R264); a segment without one starts anew. -/
def State.restoreModels (s : State) : State :=
  s.segments.foldl (fun t g =>
    match (t.seg g).copy with
    | some m => t.setSeg g (fun x => { x with
        model := m, restored := true, long := true, st := 2, queue := [], incomplete := 0, hi := 0, lo := 0, zu := 0 })
    | none => (t.initSegment g).setSeg g (fun x => { x with incomplete := 0 })) s

/-- Segments defined 0x6102:01 and updates queued 0x6102:03. -/
def State.updatesQueued (s : State) : Nat := s.bal.segs.foldl (fun n p => n + p.2.queue.length) 0

end Sys2Proof.Machine
end

