-- ==== Sys2Proof/Machine/Billing.lean ====
section
/-! DEFINITION. The billing engine (11_billing): spans and pieces, registers, demand, profile and day blocks, periods,
clock adjustments. -/

namespace Sys2Proof.Machine

/-- A meter's register set. -/
def State.mbill (s : State) (h : Nat) : MeterBill := tblGet {} s.bill.app.meters h

/-- Change a meter's register set. -/
def State.setMbill (s : State) (h : Nat) (f : MeterBill → MeterBill) : State :=
  s.setApp (fun a => { a with meters := tblUpd {} a.meters h f })

/-- The open profile interval and its number. -/
def AppState.openIval (a : AppState) : Option (Nat × Ival) := a.ivals.getLast?.filter (fun p => p.2.to_.isNone)

/-- The daylight-saving offset in force at a legal time in ns since 2000 (R107). -/
def State.offsetAt (s : State) (legal : Int) : Int := dstScan s (legal / 60000000000).toNat 64 1 (s.cfgI 2 0x340200)

/-- Billing minutes at a legal time in ns (R107). -/
def State.billingOf (s : State) (legal : Int) : Nat := (legal / 60000000000 + s.offsetAt legal).toNat

/-- Legal time, in ns, at a place of the billing time line before now: the calendar taken back by the distance (R275). -/
def State.legalAt (s : State) (at_ : Int) : Int := (s.time.calNs : Int) - (s.line - at_)

/-- Open a profile interval now, which is the legal time given, with flags (R281, R287). -/
def State.openAt (s : State) (legal : Int) (flags : U16) : State :=
  let b := s.billingOf legal
  s.setApp (fun a => { a with
    nextIval := a.nextIval + 1
    closeFrom := some (a.closeFrom.getD b)
    chargedTo := some (a.chargedTo.getD s.line)
    ivals := a.ivals ++ [(a.nextIval,
      { from_ := s.line, gate := s.line, to_ := none, start := b / 15 * 15, offset := s.offsetAt legal, shift := a.shift
        flags := flags })] })

/-- Open a profile interval at the calendar's present time. -/
def State.openNow (s : State) (flags : U16) : State := s.openAt s.time.calNs flags

/-- Close the open profile interval at a place, whose legal time is given, with flags, and say whether that is a 15-minute boundary:
OFFSET_CHANGE where the offset has changed inside (R282), so just before the end. -/
def State.closeIval (s : State) (at_ legal : Int) (flags : U16) (edge : Bool) : State :=
  s.setApp (fun a => match a.openIval with
    | none => a
    | some (k, i) =>
      let oc : U16 := if i.offset = s.offsetAt (legal - 1) then 0 else 512
      { a with ivals := tblPut a.ivals k { i with to_ := some at_, flags := i.flags ||| flags ||| oc, edge := edge } })

/-- The first entry of the first open day block (R283). -/
def AppState.firstOpen (a : AppState) : Option Nat :=
  (a.ivals.find? (fun p => a.ivals.all (fun q => decide (p.2.start / 1440 ≤ q.2.start / 1440)))).map (·.1)

/-- A place of the time line at or after the end of interval k lies in the next one, which a day block has taken. -/
def AppState.nextGone (a : AppState) (k : Nat) (i : Ival) (at_ : Int) : Bool :=
  (match i.to_ with | none => false | some e => decide (e ≤ at_)) && decide (k + 1 < a.nextIval) && (tblFind? a.ivals (k + 1)).isNone

/-- The profile interval that holds a place of the time line, and whether it stands for one of a closed day block (R283): that is
the first entry of the first open one. Before the first interval of all there is none (log entry 56). -/
def AppState.ivalAt (a : AppState) (at_ : Int) : Option (Nat × Bool) :=
  match (a.ivals.filter (fun p => decide (p.2.gate ≤ at_))).getLast? with
  | some p => if a.nextGone p.1 p.2 at_ then a.firstOpen.map (fun k => (k, true)) else some (p.1, false)
  | none => a.firstOpen.map (fun k => (k, (tblFind? a.ivals 0).isNone))

/-- The table in force for a meter at a place of the time line, given the one it names now (R277). -/
def MeterBill.tableAt (m : MeterBill) (cur : Nat) (at_ : Int) : Nat :=
  ((m.tables.filter (fun x => decide (at_ < x.1))).getLast?.map (·.2)).getD cur

/-- The rate in force for a meter at a place of the time line (R277). -/
def AppState.meterRate (a : AppState) (m : MeterBill) (cur : Nat) (at_ : Int) : Nat := a.rateAt (m.tableAt cur at_) at_

/-- A piece of a span (R273): its ends, profile interval and whether that stands for a closed block, rate, outage. -/
structure Piece where
  p0 : Int
  p1 : Int
  ival : Nat
  carried : Bool
  rate : Nat
  outage : Bool

/-- Places at which the rate of a meter changes (R277). -/
def AppState.rateChanges (a : AppState) (m : MeterBill) (cur : Nat) : List Int :=
  (m.tables.map (·.1) ++ (cur :: m.tables.map (·.2)).flatMap (fun t => (tblGet [] a.rates t).map (·.1))).filter
    (fun x => a.meterRate m cur (x - 1) != a.meterRate m cur x)

/-- Places at which a span of a meter is cut (R273). -/
def AppState.cuts (a : AppState) (m : MeterBill) (cur : Nat) (t0 t1 : Int) : List Int :=
  ((a.ivals.map (fun p => p.2.gate)) ++ (a.ivals.map (fun p => p.2.from_)) ++ (a.ivals.filterMap (fun p => p.2.to_)) ++
    a.rateChanges m cur ++ a.closures.map (·.1) ++
    a.outages.flatMap (fun o => [o.1, o.2])).filter (fun x => decide (t0 < x) && decide (x < t1))

/-- Insert into an ascending list without repeats. -/
def ascInsert (x : Int) : List Int → List Int
  | [] => [x]
  | y :: ys => if x < y then x :: y :: ys else if x = y then y :: ys else y :: ascInsert x ys

/-- The pieces between consecutive cut points. -/
def AppState.piecesBetween (a : AppState) (rate : Int → Nat) : Int → List Int → List Piece
  | _, [] => []
  | p, x :: xs =>
    let iv := (a.ivalAt p).getD (0, false)
    { p0 := p, p1 := x, ival := iv.1, carried := iv.2, rate := rate p
      outage := a.outages.any (fun o => decide (o.1 ≤ p) && decide (p < o.2)) } :: a.piecesBetween rate x xs

/-- The pieces of a span (R273). -/
def AppState.pieces (a : AppState) (m : MeterBill) (cur : Nat) (t0 t1 : Int) : List Piece :=
  a.piecesBetween (a.meterRate m cur) t0 ((a.cuts m cur t0 t1).foldl (fun l x => ascInsert x l) [] ++ [t1])

/-- Weights of pieces (R273): a meter that shares the supply has none inside outage time; where nothing would weigh, every
piece by its length, and a span without length wholly on its first piece (log entry 20). -/
def weights (shares : Bool) (ps : List Piece) : List Nat :=
  let len := ps.map (fun p => (p.p1 - p.p0).toNat)
  let w := ps.map (fun p => if shares && p.outage then 0 else (p.p1 - p.p0).toNat)
  if w.any (· != 0) then w else if len.any (· != 0) then len else 1 :: (len.drop 1)

/-- Shares of an energy by weight: rounded down, the units left over to the largest discarded fractions, the earlier piece
first (R273). -/
def shareOut (d : Nat) (w : List Nat) : List Nat :=
  let total := max (w.foldl (· + ·) 0) 1
  let parts := w.map (fun x => (d * x / total, d * x % total))
  let left := d - parts.foldl (fun n x => n + x.1) 0
  parts.zipIdx.map (fun x =>
    let ahead := (parts.zipIdx.filter (fun y => decide (x.1.2 < y.1.2) || (decide (y.1.2 = x.1.2) && decide (y.2 < x.2)))).length
    if ahead < left then x.1.1 + 1 else x.1.1)

/-- The table that a meter names. -/
def State.tableOf (s : State) (h : Nat) : Nat := s.cfgN 0xC05001 h

/-- A ledger. -/
def State.ledger (s : State) (h : Nat) : Ledger := tblGet {} s.bill.app.ledgers h

/-- Change a ledger. -/
def State.setLedger (s : State) (h : Nat) (f : Ledger → Ledger) : State :=
  s.setApp (fun a => { a with ledgers := tblUpd {} a.ledgers h f })

/-- PROVISIONAL (R285). -/
def Hist.provisional (x : Hist) : Bool := x.flags.getLsbD 2

/-- A piece's share enters a register set (R273, R284): rate and outage registers, profile entry, and the provisional
records of the periods that closed at or after its end. -/
def MeterBill.addPiece (m : MeterBill) (p : Piece) (i e : Int) (flags : U16) : MeterBill :=
  let k := p.rate - 1
  { m with
    imp := listUpd m.imp k (addE i)
    exp := listUpd m.exp k (addE e)
    outage := if p.outage then addE i m.outage else m.outage
    entries := tblUpd {} m.entries p.ival (fun x => { x with
      imp := addE i x.imp, exp := addE e x.exp
      flags := x.flags ||| flags ||| (if p.carried then 256 else 0) })
    hist := m.hist.map (fun x =>
      if x.provisional = true ∧ p.p1 ≤ x.line then
        { x with
          imp := listUpd x.imp k (addE i), exp := listUpd x.exp k (addE e)
          totI := addE i x.totI, totE := addE e x.totE
          outage := if p.outage then addE i x.outage else x.outage }
      else x) }

/-- The pieces of a meter's span (R273). -/
def State.spanPieces (s : State) (h : Nat) (sp : Span) : List Piece := s.bill.app.pieces (s.mbill h) (s.tableOf h) sp.t0 sp.t1

/-- A piece's part of a span: its shares of import and export, and the flags it gives its entry. -/
structure Share where
  piece : Piece
  imp : Nat
  exp : Nat
  flags : U16

/-- The shares of a span (R273). A piece of no weight takes none, so it is neither spread nor placed by the meter's clock (R282, log
entry 56). -/
def State.shares (s : State) (h : Nat) (sp : Span) : List Share :=
  let ps := s.spanPieces h sp
  let w := weights (s.cfgB 0xC05002 h) ps
  let is := shareOut (sp.i1 - sp.i0).toNat w
  let es := shareOut (sp.e1 - sp.e0).toNat w
  let spread := decide (1 < (ps.map (·.ival)).eraseDups.length)
  let flags : U16 := (if spread then 2 else 0) ||| (if sp.clockFlag then 64 else 0)
  ps.zipIdx.map (fun x =>
    { piece := x.1, imp := is.getD x.2 0, exp := es.getD x.2 0, flags := if w.getD x.2 0 = 0 then 0 else flags })

/-- Enter a span with a sign (R273, R276, R302): the shares of an attributed one go to registers, profile, and with prepayment on to
the ledger's rate-register changes; the jump of another is part of the unattributed change. -/
def State.enterSpan (s : State) (h : Nat) (sp : Span) (sign : Int) : State :=
  if sp.attributed then
    (s.shares h sp).foldl (fun t x =>
      let t1 := t.setMbill h (fun m => m.addPiece x.piece (sign * x.imp) (sign * x.exp) x.flags)
      if x.piece.outage ∨ s.cfgN 0xC05401 h = 0 then t1
      else t1.setLedger h (fun l => { l with due := listUpd l.due (x.piece.rate - 1) (addE · (sign * x.imp)) })) s
  else s.setMbill h (fun m => { m with
    unattr := addE (sign * (sp.i1 - sp.i0)) m.unattr, unattrE := addE (sign * (sp.e1 - sp.e0)) m.unattrE })

/-- A new span (R273): REGISTER_BACKWARD where it is not attributed. -/
def State.layDown (s : State) (h : Nat) (sp : Span) : State :=
  let s1 := s.enterSpan h sp 1
  if sp.attributed then s1 else s1.raise 0x140 h

/-- SPREAD and METER_CLOCK of the entries that some spans fed follow the spans that now feed them (R276, R282). The entry that
holds energy of closed day blocks keeps them, whose spans are gone. -/
def State.reflag (s : State) (h : Nat) (ks : List Nat) : State :=
  let all := ((s.mbill h).spans.filter (·.attributed)).flatMap (fun sp => s.shares h sp)
  s.setMbill h (fun m => ks.foldl (fun m k => { m with
    entries := tblUpd {} m.entries k (fun x =>
      if x.flags.getLsbD 8 then x
      else { x with flags := (all.filter (fun y => y.piece.ival == k)).foldl (fun f y => f ||| y.flags) (x.flags &&& 0xFFBD) }) }) m)

/-- The entries whose energy differs from what it was are flagged LATE (R276). -/
def MeterBill.flagLate (m : MeterBill) (before : Tbl PEntry) (ks : List Nat) : MeterBill :=
  ks.foldl (fun m k =>
    let x := tblGet {} m.entries k
    let y := tblGet {} before k
    if x.imp = y.imp ∧ x.exp = y.exp then m else { m with entries := tblPut m.entries k { x with flags := x.flags ||| 128 } }) m

/-- Part of a profile interval that attributed readings cover, ns (R282). -/
def MeterBill.covered (m : MeterBill) (a b : Int) : Int :=
  m.spans.foldl (fun n sp =>
    if sp.attributed then n + max 0 (min sp.t1 b - max sp.t0 a) else n) 0

/-- A meter's flags of a profile interval (R282) up to a place. -/
def MeterBill.flagsOf (m : MeterBill) (k : Nat) (i : Ival) (now : Int) : U16 :=
  let b := i.to_.getD now
  let c := m.covered i.from_ b
  (tblGet {} m.entries k).flags ||| i.flags |||
    (if c = 0 then 1 else if c < b - i.from_ then 4 else 0)

/-- A profile interval contributes no demand: OUTAGE or NO_DATA (R280). -/
def noDemand (f : U16) : Bool := f.getLsbD 5 || f.getLsbD 0

/-- Profile intervals that a demand value closing with interval k covers (R280): those of its demand interval in its shift
count (block), or the last ones (sliding). -/
def State.demandSet (s : State) (k : Nat) (i : Ival) : List (Nat × Ival) :=
  let len := s.cfgN 0x700101
  if s.cfgN 0x700102 = 2 then
    s.bill.app.ivals.filter (fun p => decide (p.1 ≤ k) && decide (k < p.1 + len / 15))
  else s.bill.app.ivals.filter (fun p => p.2.start / len == i.start / len && p.2.shift == i.shift && decide (p.1 ≤ k))

/-- A demand value is due when interval k has closed: at each 15-minute boundary (sliding), or at the last of its demand
interval, which a split or a warning closes too (R280, R287, R290). -/
def State.demandDue (s : State) (k : Nat) (i : Ival) : Bool :=
  let len := s.cfgN 0x700101
  if s.cfgN 0x700102 = 2 then i.edge
  else !i.edge ||
    (match tblFind? s.bill.app.ivals (k + 1) with
     | none => (i.start + 15) % len == 0
     | some n => !(n.start / len == i.start / len && n.shift == i.shift))

/-- Raise a list of maxima at a rate (R276: never lowered). -/
def raiseMax (l : List (Int × Nat)) (r : Nat) (v : Int) (at_ : Nat) : List (Int × Nat) :=
  listUpd l (r - 1) (fun x => if x.1 < v then (v, at_) else x)

/-- Evaluate the demand that closes with profile interval k of a meter (R280): over the entries that contribute, toward the rate in
force in its last second, in the period its end falls in. -/
def State.demandAt (s : State) (h k : Nat) (i : Ival) : State :=
  match i.to_ with
  | none => s
  | some e =>
    let m := s.mbill h
    let set := (s.demandSet k i).filter (fun p => !noDemand (m.flagsOf p.1 p.2 s.line))
    if !s.demandDue k i || set.isEmpty then s
    else
      let sum := set.foldl (fun n p => n + (tblGet {} m.entries p.1).imp) 0
      let mw := sum * 60 / (s.cfgN 0x700101 : Int)
      let r := s.bill.app.meterRate m (s.tableOf h) (e - 1000000000)
      let at_ := (e + s.bill.app.stepSum).toNat
      let closure := (s.bill.app.closures.filter (fun c => decide (e ≤ c.1))).getLast?
      s.setMbill h (fun m => match closure with
        | none => { m with md := raiseMax m.md r mw at_ }
        | some c => { m with
            hist := m.hist.map (fun x => if x.line = c.1 ∧ x.provisional = true then { x with md := raiseMax x.md r mw at_ } else x) })

/-- Evaluate a meter's demand over the closed profile intervals that end by a place (R280). -/
def State.demandTo (s : State) (h : Nat) (upto : Int) : State :=
  let ks := s.bill.app.ivals.filter (fun p =>
    decide ((s.mbill h).demandTo ≤ p.1) && (match p.2.to_ with | none => false | some e => decide (e ≤ upto)))
  let s1 := ks.foldl (fun t p => t.demandAt h p.1 p.2) s
  s1.setMbill h (fun m => { m with demandTo := ks.foldl (fun n p => max n (p.1 + 1)) m.demandTo })

/-- A historic record (R285), 336 bytes. -/
def Hist.bytes (x : Hist) : Bytes :=
  let i := fun v : Int => leBytes 8 (ofSigned 64 v)
  leBytes 4 x.period.toNat ++ leBytes 2 x.flags.toNat ++ leBytes 2 x.passed ++ time64 x.net ++ leBytes 4 x.bmin ++
  i x.totI ++ i x.totE ++ x.imp.flatMap i ++ x.exp.flatMap i ++ x.md.flatMap (fun d => i d.1) ++
  x.md.flatMap (fun d => time64 d.2) ++ i x.outage

/-- A provisional record becomes final, with a flag, and is archived (R284, R327). -/
def State.finalise (s : State) (h : Nat) (ok : Hist → Bool) (flag : U16) : State :=
  let fin := fun (x : Hist) => if x.provisional && ok x then { x with flags := (x.flags &&& 0xFFFB) ||| flag } else x
  let done := ((s.mbill h).hist.filter (fun x => x.provisional && ok x)).map fin
  done.foldl (fun t x => t.archive 2 0 (subjectWord 0 h) x.bmin x.bytes)
    (s.setMbill h (fun m => { m with hist := m.hist.map fin }))

/-- The span between two readings; one in which a register went backward is not attributed (R273). -/
def Span.between (t0 t1 i0 i1 e0 e1 : Int) (clock : Bool) : Span :=
  { t0 := t0, t1 := t1, i0 := i0, i1 := i1, e0 := e0, e1 := e1, clockFlag := clock, attributed := decide (i0 ≤ i1) && decide (e0 ≤ e1) }

/-- A reading later than all applied ones (R273). -/
def State.applyForward (s : State) (h : Nat) (t0 at_ I E : Int) (clock : Bool) : State :=
  let m := s.mbill h
  let sp := Span.between t0 at_ m.totI I m.totE E clock
  let s1 := (s.layDown h sp).setMbill h (fun x => { x with last := some at_, totI := I, totE := E, spans := sp :: x.spans })
  (s1.demandTo h at_).finalise h (fun x => decide (x.line ≤ at_)) 0

/-- An earlier reading may be inserted in the span that contains its instant (R276): every piece of it lies in an open day block and
in the current period. -/
def State.mayInsert (s : State) (h : Nat) (sp : Span) (at_ : Int) : Bool :=
  decide (sp.t0 < at_) && decide (at_ < sp.t1) && (s.spanPieces h sp).all (fun p => !p.carried) &&
  s.bill.app.closures.all (fun c => decide (c.1 ≤ sp.t0))

/-- A reading earlier than the last applied one (R276): the span splits, and the two new ones replace it. -/
def State.applyEarlier (s : State) (h : Nat) (at_ I E : Int) (clock : Bool) : State :=
  let m := s.mbill h
  match m.spans.find? (fun sp => s.mayInsert h sp at_) with
  | none => s.setMbill h (fun x => { x with notApplied := x.notApplied + 1 })
  | some sp =>
    let a := Span.between sp.t0 at_ sp.i0 I sp.e0 E clock
    let b := Span.between at_ sp.t1 I sp.i1 E sp.e1 sp.clockFlag
    let ks := ((s.spanPieces h sp).map (·.ival)).eraseDups
    let s1 := ((s.enterSpan h sp (-1)).layDown h a).layDown h b
    let s2 := s1.setMbill h (fun x => { x with
      spans := x.spans.flatMap (fun y => if y = sp then [b, a] else [y]), demandTo := ks.foldl min x.demandTo })
    ((s2.reflag h ks).setMbill h (fun x => x.flagLate m.entries ks)).demandTo h (m.last.getD at_)

/-- Apply a reading's cumulative registers at a place of the billing time line (R273, R276). -/
def State.applyRegs (s : State) (h : Nat) (at_ I E : Int) (clock : Bool) : State :=
  let m := s.mbill h
  match m.last with
  | none =>
    let k := ((s.bill.app.ivalAt at_).map (·.1)).getD 0
    (s.setMbill h (fun x => { x with last := some at_, first := at_, totI := I, totE := E, demandTo := k })).finalise h
      (fun x => decide (x.line ≤ at_)) 0
  | some t0 =>
    let repeated := (at_ = t0 ∧ I = m.totI ∧ E = m.totE) ∨
      m.spans.any (fun sp => (sp.t1 == at_ && sp.i1 == I && sp.e1 == E) || (sp.t0 == at_ && sp.i0 == I && sp.e0 == E)) = true
    if repeated then s
    else if t0 ≤ at_ then s.applyForward h t0 at_ I E clock
    else s.applyEarlier h at_ I E clock

/-- The phase offset of a meter's latched reading (R275): that of its phase where known. -/
def State.readPhase (s : State) (h : Nat) : Int :=
  let ph := if (s.member h).phase ≠ 0 then (s.member h).phase else ((tblFind? s.field.partners h).map (·.phase)).getD 0
  if ph = 2 ∨ ph = 3 then s.phaseOffset ph else 0

/-- Legal time at an acceptance (R275): the calendar taken back by the distance on the line, and by the adjustments made since. -/
def State.legalThen (s : State) (accLine : Int) : Int :=
  s.legalAt accLine - (s.bill.app.adjLog.filter (fun x => decide (accLine < x.1))).foldl (fun n x => n + x.2) 0

/-- The adjustments between a capture and its acceptance taken out of its age, newest first (R275): an adjustment lies between
where the age so far reaches back past it, or where the capture's time lies after that of the acceptance. -/
def ageWithout (accLine : Int) : List (Int × Int) → Int → Int
  | [], age => age
  | x :: xs, age => ageWithout accLine xs (if x.1 ≤ accLine ∧ (accLine - age < x.1 ∨ age < 0) then age - x.2 else age)

/-- Age of a capture at its acceptance, ns (R275): the device's legal time at the acceptance, less the capture time by the
device's clock, without the adjustments of the calendar between them. -/
def State.captureAge (s : State) (h : Nat) (ms : Int) (accLine : Int) : Int :=
  ageWithout accLine s.bill.app.adjLog (s.legalThen accLine - (ms - (s.mbill h).dev) * 1000000)

/-- The place of a reading on the billing time line and whether it was placed at its acceptance (R275). -/
def State.placeReading (s : State) (h : Nat) (kind : ReadKind) (accLine : Int) : Int × Bool × Bool :=
  match kind with
  | .latched c =>
    match s.time.table.find? (fun x => x.num == c) with
    | some x =>
      let since := s.bill.app.stepsSince (fun m => decide (c ≤ m.cycle))
      ((x.stamp : Int) - (s.bill.app.stepSum - since) + s.readPhase h, false, false)
    | none => (accLine, true, false)
  | .capture ms =>
    let age := s.captureAge h ms accLine
    let bad := (s.cfgN 0x700203 : Int) * 1000 < ((s.mbill h).dev.natAbs : Int) ∨ age < 0 ∨
      (s.cfgN 0x700204 : Int) * 3600000000000 < age
    if bad then (accLine, true, true) else (accLine - age, false, false)
  | .other => (accLine, true, false)

/-- The unattributed change of both registers as the one value that R272 and 0xC050:16 give (log entry 75). -/
def MeterBill.unattrSum (m : MeterBill) : Int := addE m.unattr m.unattrE

/-- The acceptance instant of a journal entry on the billing time line (R275). -/
def State.acceptLine (s : State) (e : JEntry) : Int :=
  (e.at_ : Int) - (s.bill.app.stepSum - s.bill.app.stepsSince (fun m => decide (e.seq < m.seq)))

/-- A register set as a billing delta carries it (R272, R380). -/
def MeterBill.setBytes (m : MeterBill) : Bytes :=
  let i := fun v : Int => leBytes 8 (ofSigned 64 v)
  i m.totI ++ i m.totE ++ m.imp.flatMap i ++ m.exp.flatMap i ++ m.md.flatMap (fun d => i d.1) ++
  m.md.flatMap (fun d => time64 d.2) ++ i m.outage ++ i m.unattrSum

/-- A meter's record holds the effects of an entry (R193). -/
def State.holds (s : State) (h : Nat) (seq : U64) : Bool :=
  match tblFind? s.bill.app.applied h with | none => false | some q => decide (seq ≤ q)

/-- An entry's effects are in the meter's record from now on (R193). -/
def State.markApplied (s : State) (h : Nat) (seq : U64) : State := s.setApp (fun a => { a with applied := tblPut a.applied h seq })

/-- A meter whose register set a billing delta is still to carry (R380). -/
def State.noteChanged (s : State) (h : Nat) : State :=
  { s with bill := { s.bill with changed := if s.bill.changed.contains h then s.bill.changed else s.bill.changed ++ [h] } }

/-- A reading's registers enter the meter's record (R273, R275). -/
def State.applyRead (s : State) (e : JEntry) (kind : ReadKind) (regs : Regs) : State :=
  let s0 := if s.bill.app.openIval.isNone then s.openNow 0 else s
  let p := s0.placeReading e.handle kind (s0.acceptLine e)
  let s1 := if p.2.2 then s0.raise 0x141 e.handle else s0
  ((s1.usePage (e.handle / 64) 2 8).applyRegs e.handle p.1 (toMwh regs.imp regs.impScaler) (toMwh regs.exp regs.expScaler) p.2.1).noteChanged
    e.handle

/-- The effects of an accepted reading, once only under the journal-sequence rule (R193, R273). An unsecured reading never enters
a register (R187), nor does an APDU that R200 discards. -/
def State.applyReading (s : State) (h : Nat) (seq : U64) (kind : ReadKind) (regs : Regs) : State :=
  match s.entryOf seq with
  | none => s
  | some e =>
    if e.handle ≠ h ∨ s.holds h seq = true ∨ e.isOpen = false then s
    else
      let j := s.judgeApdu seq
      if j.1 then j.2
      else if e.unsecured then (j.2.markApplied h seq).setEntry seq (fun x => { x with effected := true })
      else (j.2.applyRead e kind regs).markApplied h seq

/-- R273: the billing item of an accepted reading has worked out its results. While the item stands on its flow they are staged,
and become visible at its release (R213). -/
def execReadingApply (handle : Handle) (seq : U64) (kind : ReadKind) (regs : Regs) (s : State) : Result :=
  let h := handle.toNat
  .next (s.crossing 8 (.readingApply handle seq kind regs) (match s.entryItem (h % 3072) h seq.toNat with
    | some it => s.setItem (h % 3072) it.id (fun x => { x with work := some (.reading kind regs) })
    | none => s.applyReading h seq kind regs))

/-- R275: the meter's clock deviation is read by GET at join and every 0x7002:02 hours: the request goes out, or (with its
answer) the deviation in ms is kept. -/
def execMeterClockRead (handle : Handle) (answer : Option (BitVec 32)) (s : State) : Result :=
  .next (match answer with
    | none => s.tell handle.toNat .getClock
    | some d => s.setMbill handle.toNat (fun m => { m with dev := d.toInt }))

/-- Charges of time that an interval of the line takes from a meter's ledger are taken by the prepayment engine (R302);
what stands here is the length in whole seconds outside outage time. -/
def AppState.paidSeconds (a : AppState) (t0 t1 : Int) : Nat :=
  let sec := fun x : Int => x / 1000000000
  let out := a.outages.foldl (fun n o => n + max 0 (sec (min o.2 t1) - sec (max o.1 t0))) 0
  (sec t1 - sec t0 - out).toNat

/-- Scheduled boundary of a month, in minutes of billing time (R284). -/
def monthBoundary (y m day minute : Nat) : Nat :=
  daysOf { year := y, month := m, day := day } * 1440 + minute

/-- The first scheduled boundary after a minute of billing time (R284); none where only commands close. -/
def State.nextBoundary (s : State) (after : Nat) : Option Nat :=
  let kind := s.cfgN 0x700301
  let minute := s.cfgN 0x700303
  if kind = 2 then some (if after < minute then minute else ((after - minute) / 1440 + 1) * 1440 + minute)
  else if kind = 1 then
    let d := CalTime.ofSecs (after * 60)
    let day := s.cfgN 0x700302
    let b := monthBoundary d.year d.month day minute
    some (if after < b then b
      else if d.month = 12 then monthBoundary (d.year + 1) 1 day minute else monthBoundary d.year (d.month + 1) day minute)
  else none

/-- Boundaries after one minute up to another: how many, and the latest; n bounds them. -/
def State.boundariesTo (s : State) (now : Nat) : Nat → Nat → Nat → Nat × Nat
  | 0, last, k => (k, last)
  | n + 1, last, k =>
    match s.nextBoundary last with
    | none => (k, last)
    | some b => if b ≤ now then s.boundariesTo now n b (k + 1) else (k, last)

/-- Boundary from which the next one counts (R284): the last closed one, or the minute at which closures were first looked
for (log entry 21). -/
def AppState.lastBound (a : AppState) (now : Nat) : Nat := if a.closedBound = 0 then a.closeFrom.getD now else a.closedBound

/-- The meters that have a register set (R272): those in use, and those that readings were applied to. -/
def State.billMeters (s : State) : List Nat :=
  s.trust.meters.map (·.1) ++ (s.bill.app.meters.map (·.1)).filter (fun h => (tblFind? s.trust.meters h).isNone)

/-- A closure has come to a meter (R284, R285): its registers form its historic record, which is final and archived where a reading
has reached the closure, and its maximum demand restarts. -/
def State.closeMeter (s : State) (h : Nat) (x : Hist) (at_ : Int) : State :=
  let m := s.mbill h
  let final := match m.last with | none => false | some l => decide (at_ ≤ l)
  let r := { x with
    flags := if final then x.flags else x.flags ||| 4
    totI := m.totI, totE := m.totE, imp := m.imp, exp := m.exp, md := m.md, outage := m.outage }
  let s1 := s.setMbill h (fun y => { y with hist := (r :: y.hist).take 24, md := List.replicate 8 (0, 0) })
  if final then s1.archive 2 0 (subjectWord 0 h) r.bmin r.bytes else s1

/-- The period closes at a place of the time line and a billing minute (R284, R285): each meter's historic record forms, maximum
demand restarts, BILLING_CLOSE is raised. -/
def State.closePeriod (s : State) (at_ : Int) (bmin passed : Nat) (flags : U16) : State :=
  let p := s.bill.app.period
  let net := (at_ + s.bill.app.stepSum).toNat
  let x : Hist := { period := p, flags := flags, passed := min passed 0xFFFF, net := net, line := at_, bmin := bmin, totI := 0
                    totE := 0, imp := [], exp := [], md := [], outage := 0 }
  let s1 := (s.billMeters.foldl (fun t h => t.closeMeter h x at_) s).setApp (fun a => { a with
    feeders := a.feeders.map (fun x => (x.1, { x.2 with md := List.replicate 8 0 }))
    period := a.period + 1
    closedAt := net
    closures := (at_, p) :: a.closures })
  s1.raise 0x143 p.toNat

/-- A scheduled closure, once for all boundaries that billing time has passed (R284). -/
def State.closeScheduled (s : State) (at_ : Int) (bmin : Nat) (flags : U16) : State :=
  let b := s.boundariesTo bmin 0xFFFF (s.bill.app.lastBound bmin) 0
  if b.1 = 0 then s
  else
    let s1 := s.closePeriod at_ bmin b.1 flags
    s1.setApp (fun a => { a with closedBound := b.2 })

/-- R284, R290: billing time has reached or passed the next boundary; nothing is closed from an untrusted calendar. -/
def execBillingClose (s : State) : Result := .next (if s.time.untrusted then s else s.closeScheduled s.line s.billingNow 0)

/-- Command 0x7003:05 (R284). -/
def State.closeNowCmd (s : State) (r : Req) (arg : Bytes) : State :=
  s.command r 0x700305 arg (fun _ s => .done (s.closePeriod s.line s.billingNow 0 2))

/-- R284: command 0x7003:05 closes the billing period at once. -/
def execClosePeriodNow (r : Req) (arg : Bytes) (s : State) : Result := .next (s.closeNowCmd r arg)

/-- R284: provisional records without a completing reading within the grace become final, GRACE_EXPIRED. -/
def execPeriodGraceExpiry (s : State) : Result :=
  let limit := s.line - (s.cfgN 0x700201 : Int) * 3600000000000
  .next ((s.bill.app.meters.map (·.1)).foldl (fun t h => t.finalise h (fun x => decide (x.line ≤ limit)) 8) s)

/-- Bin of the adjustment histogram (R286). -/
def adjBin (ms : Nat) : Nat := if ms = 0 then 0 else min 15 (Nat.log2 ms + 1)

/-- A logical profile entry of a meter (R281), 32 bytes, of what the interval brought. -/
def State.entryBytes (s : State) (h k : Nat) (i : Ival) (e : PEntry) : Bytes :=
  let m := s.mbill h
  let end_ := i.to_.getD s.line
  leBytes 4 i.start ++ leBytes 2 (ofSigned 16 i.offset) ++ leBytes 2 i.shift.toNat ++ leBytes 8 (ofSigned 64 e.imp) ++
  leBytes 8 (ofSigned 64 e.exp) ++ leBytes 2 (roundDiv (end_ - i.from_) 1000000000).toNat ++
  leBytes 1 (s.bill.app.meterRate m (s.tableOf h) (end_ - 1000000000)) ++ [0] ++ leBytes 2 (m.flagsOf k i s.line).toNat ++ [0, 0]

/-- Entries merged past the 1,024th (R334): sums, and the flags with CLOCK_ADJ. -/
def mergeEntries (a b : Bytes) : Bytes :=
  slice a 0 8 ++ leBytes 8 (ofSigned 64 (toSigned 64 (fieldAt a 8 8) + toSigned 64 (fieldAt b 8 8))) ++
  leBytes 8 (ofSigned 64 (toSigned 64 (fieldAt a 16 8) + toSigned 64 (fieldAt b 16 8))) ++
  leBytes 2 (fieldAt a 24 2 + fieldAt b 24 2) ++ slice a 26 2 ++ leBytes 2 (fieldAt a 28 2 ||| fieldAt b 28 2 ||| 8) ++ [0, 0]

/-- At most 1,024 entries (R334). -/
def limitEntries (l : List Bytes) : List Bytes :=
  match l.drop 1023 with
  | [] => l
  | x :: rest => l.take 1023 ++ [rest.foldl mergeEntries x]

/-- One coded entry against the entry before it (R335). -/
def codeEntry (prev e : Bytes) : Bytes :=
  let d := fun off => toSigned 64 (fieldAt e off 8) - toSigned 64 (fieldAt prev off 8)
  let time := fieldAt e 0 4 ≠ fieldAt prev 0 4 + 15 ∨ slice e 4 4 ≠ slice prev 4 4
  let cover := fieldAt e 24 2 ≠ 900
  let rate := fieldAt e 26 1 ≠ fieldAt prev 26 1
  let flags := fieldAt e 28 2 ≠ 0
  let exp := fieldAt e 16 8 ≠ 0
  leBytes 1 (bit (decide time) * 128 + bit (decide cover) * 64 + bit (decide rate) * 32 + bit (decide flags) * 16 +
    bit (decide exp) * 8) ++
  (if time then slice e 0 8 else []) ++ (if cover then slice e 24 2 else []) ++ (if rate then slice e 26 1 else []) ++
  (if flags then slice e 28 2 else []) ++ codeDiff (d 8) ++ (if exp then codeDiff (d 16) else [])

/-- The coded entries of a day (R335). -/
def codeEntries : Bytes → List Bytes → Bytes
  | _, [] => []
  | prev, e :: es => codeEntry prev e ++ codeEntries e es

/-- A closed day block (R334). -/
def dayBlock (date : Nat) (entries : List Bytes) : Bytes :=
  let l := limitEntries entries
  let first := l.headD (List.replicate 32 0)
  let seed := leBytes 4 (date * 1440 - 15) ++ slice first 4 4 ++ List.replicate 18 0 ++ slice first 26 1 ++ List.replicate 5 0
  let body := codeEntries seed l
  leBytes 2 date ++ leBytes 2 l.length ++ slice first 4 4 ++ slice first 26 1 ++ [1] ++ leBytes 2 body.length ++ body

/-- R283: a day block past its grace is evaluated and appended to the archive for every meter, and its profile intervals
go. -/
def execDayBlockClose (date : U16) (s : State) : Result :=
  let d := date.toNat
  let ivs := s.bill.app.ivals.filter (fun p => p.2.start / 1440 == d && p.2.to_.isSome)
  let ripe := (d + 1) * 1440 + s.cfgN 0x700201 * 60 ≤ s.billingNow
  .next (if ivs = [] ∨ ¬ ripe ∨ s.time.untrusted = true then s
    else
      let s1 := s.billMeters.foldl (fun t h =>
        let t1 := t.demandTo h ((ivs.filterMap (fun p => p.2.to_)).foldl max 0)
        let es := ivs.map (fun p => t1.entryBytes h p.1 p.2 (tblGet {} (t1.mbill h).entries p.1))
        (t1.archive 1 0 (subjectWord 0 h) (d * 1440) (dayBlock d es)).setMbill h (fun m => { m with
          entries := m.entries.filter (fun e => !(ivs.any (fun p => p.1 == e.1)))
          block := m.block.filter (fun e => !(ivs.any (fun p => p.1 == e.1))) })) s
      let s2 := s1.setApp (fun a => { a with ivals := a.ivals.filter (fun p => !(ivs.any (fun q => q.1 == p.1))) })
      let keep := ((s2.bill.app.ivals.head?).map (fun p => p.2.from_)).getD s2.line
      s2.setApp (fun a => { a with meters := a.meters.map (fun x => (x.1, { x.2 with
        spans := x.2.spans.filter (fun sp => decide (keep < sp.t1)) })) }))

end Sys2Proof.Machine
end

