-- ==== Sys2Proof/Machine/Updates.lean ====
section
/-! DEFINITION. The device's own images: download, activation, trial, confirmation, fallback, migration (14_updates,
R348 to R356). The main resets they end in are in Reset. -/

namespace Sys2Proof.Machine

/-- A slot of a kind (R348). -/
def State.fw (s : State) (kind slot : Nat) : FwSlot := tblGet {} s.upd.slots ((kind - 1) * 2 + slot)

/-- Change a slot of a kind. -/
def State.setFw (s : State) (kind slot : Nat) (f : FwSlot → FwSlot) : State :=
  { s with upd := { s.upd with slots := tblUpd {} s.upd.slots ((kind - 1) * 2 + slot) f } }

/-- The active slot of a kind, and the other one (R348). -/
def State.activeSlot (s : State) (kind : Nat) : Nat := s.upd.active.getD (kind - 1) 0
def State.otherSlot (s : State) (kind : Nat) : Nat := 1 - s.activeSlot kind

/-- Kinds of a mask (R352). -/
def maskKinds (m : Nat) : List Nat := [1, 2, 3].filter (fun (k : Nat) => m.testBit (k - 1))

/-- Fields of a header (R349). -/
def hdrSvn (h : Bytes) : Nat := fieldAt h 6 2
def hdrLen (h : Bytes) : Nat := fieldAt h 8 4
def hdrSchema (h : Bytes) : Nat := fieldAt h 12 2
/-- Blocks that a payload is cut into (R350). -/
def hdrBlocks (h : Bytes) : Nat := (hdrLen h + 4095) / 4096

/-- Largest image of a kind, header included (R348). -/
def imageLimit (kind : Nat) : Nat := if kind = 1 then 786432 else if kind = 2 then 67109376 else 8389120

/-- The payload a slot holds (R350). -/
def FwSlot.payload (x : FwSlot) : Bytes :=
  ((List.range (hdrBlocks x.header)).flatMap (fun n => tblGet [] x.blocks n)).take (hdrLen x.header)

/-- The whole image a slot holds (R349); an image fitted at the factory is open (log entry 6). -/
def FwSlot.image (x : FwSlot) (kind : Nat) : Bytes := if x.header = [] then Config.factoryImage kind else x.header ++ x.payload

/-- Security version of the image in a slot (R349). -/
def FwSlot.svn (x : FwSlot) (kind : Nat) : Nat := hdrSvn (if x.header = [] then Config.factoryImage kind else x.header)

/-- The fuse counter of a kind, and its maximum (R131). -/
def State.svnOf (s : State) (kind : Nat) : Nat :=
  if kind = 1 then svnValue s.trust.tfwSvn else if kind = 2 then svnValue s.trust.afwSvn else svnValue s.trust.ucodeSvn
def svnMax (kind : Nat) : Nat := if kind = 2 then 128 else 64

/-- Lowest fuse bit of a kind's counter (R111). -/
def svnField (kind : Nat) : Nat := if kind = 1 then 1008 else if kind = 2 then 880 else 816

/-- The endorsement and the signature of a header hold under a vendor key in force (R111, R349). -/
def State.signed (s : State) (h : Bytes) : Bool :=
  s.vendorKeyOk (slice h 112 32) && Config.ed25519 (slice h 112 32) (slice h 144 97) (slice h 241 64) &&
    Config.ecdsaOk (slice h 144 97) (slice h 0 320) (slice h 320 96)

/-- A version text (R349): UTF-8, padded with zeros. -/
def versionOk (v : Bytes) : Bool :=
  let text := v.takeWhile (· != 0)
  utf8From 0 0 0 text && (v.drop text.length).all (· == 0)

/-- Every field of a header is as R349 asks, its signatures hold and its version is not below the counter (R350). Its
reserved fields are ignored (R11). -/
def State.headerOk (s : State) (h : Bytes) : Bool :=
  let kind := fieldAt h 4 1
  fieldAt h 0 4 == 0x414E4946 && decide (1 ≤ kind) && decide (kind ≤ 3) && fieldAt h 5 1 == 1 &&
  decide (1 ≤ hdrLen h) && decide (hdrLen h + 512 ≤ imageLimit kind) && (hdrSchema h != 0 || kind == 3) &&
  fieldAt h 16 4 == s.cfgN 0x100000 && fieldAt h 16 4 != 0 && decide (fieldAt h 20 4 ≤ s.cfgN 0x101803) &&
  fieldAt h 24 32 != 0 && versionOk (slice h 24 32) && s.signed h && decide (s.svnOf kind ≤ hdrSvn h)

/-- R350: command 0xA060:01. -/
def State.beginDownload (s : State) (r : Req) (arg : Bytes) : State :=
  s.command r 0xA06001 arg (fun _ s =>
    let kind := fieldAt arg 4 1
    if s.upd.dl.isSome ∨ s.upd.trial.isSome then .refuse .deviceBusy s
    else if !s.headerOk arg then .refuse .valueInvalid s
    else
      let t := s.setFw kind (s.otherSlot kind) (fun _ => { st := .empty, header := arg })
      .done { t with upd := { t.upd with dl := some kind, dlKind := some kind, dlState := 1 } })

def execBeginDownload (r : Req) (arg : Bytes) (s : State) : Result := .next (s.beginDownload r arg)

/-- A block of R351 is sound: CRC, number below the count, zero padding of the last block beyond the content. -/
def blockOk (arg : Bytes) (content : Nat) : Bool :=
  let n := fieldAt arg 0 4
  let blocks := (content + 4095) / 4096
  Config.crc32c (slice arg 0 4100) == fieldAt arg 4100 4 && decide (n < blocks) &&
    (n + 1 != blocks || ((slice arg 4 4096).drop (content - n * 4096)).all (· == 0))

/-- R350, R351: command 0xA060:02, whose block is not stored outside a session. -/
def State.imageBlock (s : State) (r : Req) (arg : Bytes) : State :=
  s.command r 0xA06002 arg (fun _ s =>
    match s.upd.dl with
    | none => .refuse .valueInvalid s
    | some k =>
      let sl := s.otherSlot k
      if blockOk arg (hdrLen (s.fw k sl).header) then
        .done ((s.setFw k sl (fun x => { x with blocks := tblPut x.blocks (fieldAt arg 0 4) (slice arg 4 4096) })).charge 9 3
          (if k = 1 then 0 else 1))
      else .refuse .valueInvalid s)

def execImageBlock (r : Req) (arg : Bytes) (s : State) : Result := .next (s.imageBlock r arg)

/-- The payload digest of a slot agrees with its header (R349). -/
def FwSlot.digestOk (x : FwSlot) : Bool := Config.sha384 x.payload == slice x.header 64 48

/-- R350: command 0xA060:03. -/
def State.finishDownload (s : State) (r : Req) (arg : Bytes) : State :=
  s.command r 0xA06003 arg (fun _ s =>
    match s.upd.dl with
    | none => .refuse .valueInvalid s
    | some k =>
      let sl := s.otherSlot k
      let x := s.fw k sl
      if x.blocks.length < hdrBlocks x.header then .refuse .valueInvalid s
      else if x.digestOk then
        let t := s.setFw k sl (fun y => { y with st := .staged })
        .done { t with upd := { t.upd with dl := none, dlState := 3 } }
      else .failed .valueInvalid (({ s with upd := { s.upd with dl := none, dlState := 4 } }).raise 0x210 k))

def execFinishDownload (r : Req) (arg : Bytes) (s : State) : Result := .next (s.finishDownload r arg)

/-- R350: command 0xA060:06 leaves the slot empty; without a session it has nothing to abandon. -/
def State.abandonDownload (s : State) (r : Req) (arg : Bytes) : State :=
  s.command r 0xA06006 arg (fun _ s =>
    match s.upd.dl with
    | none => .done s
    | some k =>
      let t := s.setFw k (s.otherSlot k) (fun _ => {})
      .done { t with upd := { t.upd with dl := none, dlState := 0 } })

def execAbandonDownload (r : Req) (arg : Bytes) (s : State) : Result := .next (s.abandonDownload r arg)

/-- R352: what a kind's staged image must satisfy for activation: version within the counter, schema not lower than the
stored one (a microcode image without a schema has none to compare), and its signature and digest verified again. -/
def State.activable (s : State) (k : Nat) : Bool :=
  let x := s.fw k (s.otherSlot k)
  x.st == .staged && decide (x.svn k ≤ svnMax k) &&
    (decide (s.upd.schema ≤ hdrSchema x.header) || (k == 3 && hdrSchema x.header == 0)) && s.headerOk x.header && x.digestOk

/-- R352: command 0xA061:01; an instant whose nanoseconds are 10^9 or more is rejected whole (R14). -/
def State.activateCmd (s : State) (r : Req) (arg : Bytes) : State :=
  s.command r 0xA06101 arg (fun _ s =>
    let mask := fieldAt arg 0 1
    if 1000000000 ≤ fieldAt arg 9 4 then .refuse .valueInvalid s
    else if mask = 0 then .done s
    else if s.upd.dl.isSome ∨ s.upd.trial.isSome then .refuse .deviceBusy s
    else if 8 ≤ mask ∨ (maskKinds mask).all (fun k => s.activable k) = false then .refuse .valueInvalid s
    else .done { s with upd := { s.upd with activation := some (mask, ofTime64 (slice arg 1 12)) } })

def execActivate (r : Req) (arg : Bytes) (s : State) : Result := .next (s.activateCmd r arg)

/-- The schema that a set of images expects: that of its images that have one (R349). -/
def State.setSchema (s : State) (mask : Nat) : Nat :=
  (maskKinds mask).foldl (fun m k => max m (hdrSchema (s.fw k (s.otherSlot k)).header)) 0

/-- The trial set of an activation is made, to start at the reset that follows (R352, R353). -/
def State.beginTrial (s : State) (mask : Nat) : State :=
  let sch := s.setSchema mask
  let t := (maskKinds mask).foldl (fun t k => t.setFw k (t.otherSlot k) (fun x => { x with st := .trial })) s
  { t with
    upd := { t.upd with
      activation := none, oldBank := [], trialWrites := 0, oldSchema := t.upd.schema
      trial := some { mask := mask, started := false, window := t.cfgN 0xA06102, since := t.time.mono,
                      migrated := sch = 0 || sch == t.upd.schema } } }

/-- The values of the old bank are in force again (R355). -/
def State.restoreBank (s : State) : State :=
  { s with
    dict := { s.dict with vals := s.upd.oldBank.foldl (fun t p => if p.2 = [] then tblDel t p.1 else tblPut t p.1 p.2) s.dict.vals }
    upd := { s.upd with oldBank := [], schema := s.upd.oldSchema, discarded := s.upd.trialWrites, trialWrites := 0 } }

/-- A trial ends in a fallback with an outcome (R353): trial slots rejected, but a kind whose replaced slot is unbootable
keeps its trial image. -/
def State.fallBack (s : State) (outcome : Nat) : State :=
  match s.upd.trial with
  | none => s
  | some t =>
    let s1 := (maskKinds t.mask).foldl (fun u k =>
      if (u.fw k (u.activeSlot k)).st = .unbootable then
        let o := u.otherSlot k
        (({ u with upd := { u.upd with active := listUpd u.upd.active (k - 1) (fun _ => o) } }).setFw k o
          (fun x => { x with st := .active })).raise 0x213 k
      else u.setFw k (u.otherSlot k) (fun x => { x with st := .rejected })) s
    (({ s1 with upd := { s1.upd with trial := none, outcome := outcome } }).restoreBank).raise 0x212 t.mask

/-- R112, R131: a kind's counter is blown up to a version in ascending order; the first fuse that does not read back
(`stuck` names such fuses by their place in the array) ends it, and the bits before it stay blown. -/
def State.advanceSvn (s : State) (kind v : Nat) (stuck : List Nat) : State :=
  let todo := (List.range v).drop (s.svnOf kind)
  let done := todo.takeWhile (fun i => !stuck.contains (svnField kind + i))
  let b := done.foldl (fun n i => n + 2 ^ i) 0
  let s1 : State := { s with
    trust := if kind = 1 then { s.trust with tfwSvn := s.trust.tfwSvn ||| BitVec.ofNat 64 b }
      else if kind = 2 then { s.trust with afwSvn := s.trust.afwSvn ||| BitVec.ofNat 128 b }
      else { s.trust with ucodeSvn := s.trust.ucodeSvn ||| BitVec.ofNat 64 b } }
  if done.length < todo.length then s1.raise 0x200 (svnField kind) else s1

/-- R131, R353: a confirmed kind: its trial slot becomes active, the replaced one holds the fallback, its counter advances,
and a slot whose version the counter has passed is unbootable. -/
def State.confirmKind (s : State) (k : Nat) (stuck : List Nat) : State :=
  let old := s.activeSlot k
  let new := s.otherSlot k
  let s1 := ((({ s with upd := { s.upd with active := listUpd s.upd.active (k - 1) (fun _ => new) } }).setFw k new
    (fun x => { x with st := .active })).setFw k old (fun x => { x with st := .fallback })).advanceSvn k ((s.fw k new).svn k) stuck
  if (s1.fw k old).svn k < s1.svnOf k then (s1.setFw k old (fun x => { x with st := .unbootable })).raise 0x205 k else s1

/-- Every image of a set runs: its islands are released (R353): Grotto, application, protocol. -/
def State.setRuns (s : State) (mask : Nat) : Bool :=
  (maskKinds mask).all (fun k => s.pwr.islands.getD (if k = 1 then 1 else if k = 2 then 8 else 6) .held == .running)

/-- A block-alone reset has occurred since reset release (R353, R417). -/
def State.blockResetSince (s : State) : Bool := s.pwr.blockTimes.any (fun p => p.2 != [])

/-- R353: internal command 0xA061:03; `stuck` names the fuses that do not read back (R112). -/
def State.confirmHealth (s : State) (r : Req) (arg : Bytes) (stuck : List Nat) : State :=
  s.command r 0xA06103 arg (fun _ s =>
    match s.upd.trial with
    | none => .refuse .deviceBusy s
    | some t =>
      if !t.started || !t.migrated || s.blockResetSince || !s.setRuns t.mask then .refuse .deviceBusy s
      else
        let s1 := (maskKinds t.mask).foldl (fun u k => u.confirmKind k stuck) s
        let s2 := ({ s1 with upd := { s1.upd with trial := none, outcome := 1, oldBank := [], trialWrites := 0 } }).raise 0x211 t.mask
        if (maskKinds t.mask).any (fun k => s2.svnOf k < (s2.fw k (s2.activeSlot k)).svn k) then .failed .cannotStore s2 else .done s2)

def execConfirmHealth (r : Req) (arg : Bytes) (stuck : List Nat) (s : State) : Result := .next (s.confirmHealth r arg stuck)

/-- R353: the health window has passed unconfirmed: fallback, and a main reset with cause 7 at the next period boundary. -/
def execHealthWindowExpiry (s : State) : Result :=
  .next (match s.upd.trial with
    | some t =>
      if t.started ∧ t.since + t.window * 60 * 32768 ≤ s.time.mono then
        let u := s.fallBack 2
        { u with pwr := { u.pwr with atPeriod := some 7 } }
      else s
    | none => s)

/-- R355: migration at the first start of a trial set: the items whose value the new schema changes, with their new values
(empty: the default), or `ok` false where it reports a block it cannot convert. -/
def execConfigurationMigration (values : List (ObjKey × Nat × Bytes)) (ok : Bool) (s : State) : Result :=
  .next (match s.upd.trial with
    | some t =>
      if !t.started || t.migrated then s
      else if !ok then s.fallBack 5
      else
        let keys := values.map (fun v => (storeKey (ObjKey.num v.1) v.2.1, v.2.2))
        { s with
          dict := { s.dict with vals := keys.foldl (fun (m : Tbl Bytes) p => if p.2 = [] then tblDel m p.1 else tblPut m p.1 p.2) s.dict.vals }
          upd := { s.upd with
            oldBank := keys.foldl (fun (m : Tbl Bytes) p => tblPut m p.1 ((tblFind? s.dict.vals p.1).getD [])) []
            schema := s.setSchema t.mask
            trial := some { t with migrated := true } } }
    | none => s)

/-- The slot of a kind that starts (R353, R354): the trial slot during a trial, else the active one. -/
def State.startSlot (s : State) (k : Nat) : Nat :=
  match s.upd.trial with
  | some t => if t.mask.testBit (k - 1) then s.otherSlot k else s.activeSlot k
  | none => s.activeSlot k

/-- A slot that may be started: it holds an image, is not marked unbootable or rejected, and verifies; `bad` lists the
slots that fail verification at this start (kind, slot). -/
def State.bootable (s : State) (bad : List (Nat × Nat)) (k slot : Nat) : Bool :=
  let st := (s.fw k slot).st
  (st == .active || st == .fallback || st == .trial) && !bad.contains (k, slot) && decide (s.svnOf k ≤ (s.fw k slot).svn k)

/-- R354: one kind's start outside a trial: its active slot, else the other, else none. -/
def State.startKind (s : State) (bad : List (Nat × Nat)) (k : Nat) : State :=
  if s.bootable bad k (s.startSlot k) then s
  else if s.bootable bad k (1 - s.startSlot k) then
    let o := 1 - s.startSlot k
    (({ s with upd := { s.upd with active := listUpd s.upd.active (k - 1) (fun _ => o) } }).setFw k o
      (fun x => { x with st := .active })).setFw k (1 - o) (fun x => { x with st := if x.st = SlotSt.unbootable then SlotSt.unbootable else SlotSt.rejected }) |>.raise 0x213 k
  else { s with upd := { s.upd with down := k :: s.upd.down } }

/-- The sequencer kind of a sequencer (R206, R348): PL0 to PL11, RF0 to RF11, then the serial engine. -/
def sequencerKind (q : Nat) : Nat := if q < 12 then 0 else if q < 24 then 1 else 2

/-- The loaded microcode images concatenated in ascending sequencer order, PLC sequencers first (R110). That an image counts
once for every sequencer it is loaded into is the reading taken (log entry 73). -/
def loadedUcode (bundle : Bytes) : Bytes :=
  (List.range 25).flatMap (fun q => Config.bundlePart (sequencerKind q) bundle)

/-- R110: the measurements of the images started. -/
def State.measureImages (s : State) : State :=
  let m := fun k => if s.upd.down.contains k then [] else Config.sha384 ((s.fw k (s.startSlot k)).image k)
  { s with trust := { s.trust with
      measTfw := m 1, measAfw := m 2
      measUcode := if s.upd.down.contains 3 then [] else Config.sha384 (loadedUcode ((s.fw 3 (s.startSlot 3)).image 3)) } }

/-- R353, R354: which images a main reset release starts; `warned` is whether the reset was preceded by a fall of PFW_N. -/
def State.startImages (s0 : State) (bad : List (Nat × Nat)) (warned : Bool) : State :=
  let s : State := { s0 with upd := { s0.upd with down := [] } }
  let s1 := match s.upd.trial with
    | none => s
    | some t =>
      if t.started && !warned then s.fallBack 3
      else if (maskKinds t.mask).all (fun k => s.bootable bad k (s.startSlot k)) then
        { s with upd := { s.upd with trial := some { t with started := true, since := s.time.mono } } }
      else s.fallBack 4
  ([1, 2, 3].foldl (fun u k => u.startKind bad k) s1).measureImages

/-- Slot state code (R365). -/
def SlotSt.code : SlotSt → Nat
  | .empty => 0 | .fallback => 1 | .staged => 2 | .trial => 3 | .active => 4 | .rejected => 5 | .unbootable => 6

/-- Window remaining 0xA064:02 in s (R365). -/
def State.windowLeft (s : State) : Nat :=
  match s.upd.trial with
  | some t => if t.started then (t.since + t.window * 60 * 32768 - s.time.mono) / 32768 else 0
  | none => 0

end Sys2Proof.Machine
end

