-- ==== Sys2Proof/Machine/Campaigns.lean ====
section
/-! DEFINITION. Campaigns to meters (14_updates, R357 to R363). -/

namespace Sys2Proof.Machine

def State.camp (s : State) (c : Nat) : Campaign := tblGet {} s.upd.camps c

/-- Change a campaign. -/
def State.setCamp (s : State) (c : Nat) (f : Campaign → Campaign) : State :=
  { s with upd := { s.upd with camps := tblUpd {} s.upd.camps c f } }

/-- Change a campaign's target. -/
def State.setTarget (s : State) (c h : Nat) (f : Target → Target) : State :=
  s.setCamp c (fun x => { x with targets := match tblFind? x.targets h with
    | some t => tblPut x.targets h (f t)
    | none => x.targets })

/-- A member of a campaign's definition 0xA081 (R366). -/
def State.cdef (s : State) (c sub : Nat) : Nat := s.cfgN (0xA08100 + sub) c

/-- The whole content of a campaign (R357). -/
def State.campContent (s : State) (c : Nat) : Bytes :=
  ((List.range ((s.cdef c 3 + 4095) / 4096)).flatMap (fun n => tblGet [] (s.camp c).content n)).take (s.cdef c 3)

/-- Blocks of size B of the content (R360), and one of them. -/
def State.campBlocks (s : State) (c : Nat) : Nat := (s.cdef c 3 + s.cdef c 2 - 1) / max (s.cdef c 2) 1
def State.campBlock (s : State) (c b : Nat) : Bytes := slice (s.campContent c) (b * s.cdef c 2) (s.cdef c 2)

/-- A target has come to its end (R357). -/
def Target.final (t : Target) : Bool := t.st == 8 || t.st == 9 || t.st == 10

/-- Multicast can carry a campaign to a target (R359). -/
def State.multicast (s : State) (c h : Nat) : Bool :=
  s.cdef c 9 != 0 &&
  match s.partner h with
  | none => false
  | some x =>
    if isRf x.port then x.gen == 3 && s.pcfg x.port 6 2 != 0
    else x.gen == 4 || (decide (x.gen ≤ 3) && s.cdef c 6 != 0)

/-- No downlink reaches a target: its Wireless M-Bus mode is S1, T1, C1 or N1 (R359). -/
def State.noDownlink (s : State) (h : Nat) : Bool :=
  match s.partner h with
  | some x => isRf x.port && x.gen == 1 && !x.bidi
  | none => false

/-- The campaign is done once every target has ended (R357). -/
def State.campDone (s : State) (c : Nat) : State :=
  let x := s.camp c
  if x.st = 3 ∧ x.targets ≠ [] ∧ x.targets.all (fun p => p.2.final) = true then
    (s.setCamp c (fun y => { y with st := 6 })).raise 0x221 c
  else s

/-- A lower-numbered running campaign of the same kind has the meter as a target not yet at its end (R358). -/
def State.servedFirst (s : State) (c h : Nat) : Bool :=
  (List.range c).any (fun d => (s.camp d).st == 3 && s.cdef d 1 == s.cdef c 1 &&
    (match tblFind? (s.camp d).targets h with | some t => !t.final | none => false))

/-- Targets of a campaign on a port (R361). -/
def State.portTargets (s : State) (c p : Nat) : List (Nat × Target) :=
  (s.camp c).targets.filter (fun x => ((s.partner x.1).map (·.port)) == some p)

/-- The campaign's record of a port: passes done, next block, next fragment (R361). -/
def State.passOf (s : State) (c p : Nat) : Nat × Nat × Nat := tblGet (0, 0, 0) (s.camp c).ports p

/-- A multicast pass is still to carry blocks to a target that is initiated (R361): passes are left on its port, and the first has not
ended or enough targets of the port miss every block with it. -/
def State.passAhead (s : State) (c h : Nat) : Bool :=
  s.multicast c h && match s.partner h with
  | none => false
  | some x =>
    let n := (s.passOf c x.port).1
    decide (n < s.cdef c 9) && (n == 0 ||
      decide (s.cdef c 10 ≤ ((s.portTargets c x.port).filter (fun q => q.2.st == 3 && q.2.missing.isNone)).length))

/-- A target's place in its campaign as the running campaigns stand: excluded, waiting or released (R358), and a target of
a tariff campaign that has nothing to wait for is initiated (R361). -/
def State.placeTarget (s : State) (c h : Nat) (t : Target) : Target :=
  if t.final then t
  else if s.noDownlink h then { t with st := 10 }
  else if s.servedFirst c h then { t with st := 1, phase := 0, attempts := 0 }
  else
    let t1 : Target := if t.st = 1 then { t with st := 2, phase := 0, attempts := 0 } else t
    let t2 : Target := if t1.st = 2 ∧ s.cdef c 1 = 2 then { t1 with st := 3, phase := 0, attempts := 0 } else t1
    if t2.st = 3 ∧ s.passAhead c h = false then { t2 with st := 4, phase := 0, attempts := 0 } else t2

/-- Place the targets of every running campaign, in campaign order, and end those that are done. -/
def State.placeAll (s : State) : State :=
  (s.upd.camps.map (·.1)).foldl (fun t c =>
    if (t.camp c).st = 3 then
      (t.setCamp c (fun x => { x with targets := x.targets.map (fun p => (p.1, t.placeTarget c p.1 p.2)) })).campDone c
    else t) s

/-- A target fails with a reason (R361). -/
def State.failTarget (s : State) (c h reason : Nat) : State :=
  ((s.setTarget c h (fun t => { t with st := 9, reason := reason, attempts := 0 })).raise 0x220 h).placeAll

/-- A target enters a state with its first request due (R361). -/
def State.toState (s : State) (c h st : Nat) : State :=
  (s.setTarget c h (fun t => { t with st := st, phase := 0, attempts := 0 })).placeAll

/-- R357: a write to the kind of a campaign that is unused or a draft. -/
def State.kindWrite (s : State) (r : Req) (v : Bytes) : State :=
  s.writeThen r 0xA08101 v
    (fun c _ => if (s.camp c).st ≤ 1 then none else some .deviceBusy)
    (fun c t => if leNat v = 0 then t else t.setCamp c (fun x => { x with st := 1 }))

def execCampaignKindWrite (r : Req) (v : Bytes) (s : State) : Result := .next (s.kindWrite r v)

/-- R351, R357: command 0xA082:01. -/
def State.contentCmd (s : State) (r : Req) (arg : Bytes) : State :=
  s.command r 0xA08201 arg (fun c s =>
    let n := fieldAt arg 0 4
    let new := (tblFind? (s.camp c).content n).isNone
    if (s.camp c).st ≠ 1 then .refuse .deviceBusy s
    else if !blockOk arg (s.cdef c 3) || (new && decide (65536 ≤ s.contentHeld)) then .refuse .valueInvalid s
    else .done (s.setCamp c (fun x => { x with content := tblPut x.content n (slice arg 4 4096) })))

def execContentBlock (r : Req) (arg : Bytes) (s : State) : Result := .next (s.contentCmd r arg)

/-- R357: what verify checks; an empty identifier is rejected there too (R366). -/
def State.campaignOk (s : State) (c : Nat) : Bool :=
  let size := s.cdef c 3
  s.cdef c 1 != 0 && decide (1 ≤ size) && decide (size ≤ 16777216) &&
  (List.range ((size + 4095) / 4096)).all (fun n => (tblFind? (s.camp c).content n).isSome) &&
  s.cfgOct 0xA08104 c == Config.sha256 (s.campContent c) && s.cfgOct 0xA08105 c != []

/-- Definition and content of a campaign as they are mirrored (R357). -/
def State.campaignBytes (s : State) (c : Nat) : Bytes :=
  (List.range 12).flatMap (fun i => s.cfgBytes (0xA08101 + i) c) ++ s.campContent c

/-- Forget a campaign: its definition back at the defaults, no content, no targets (R357). -/
def State.forgetCampaign (s : State) (c : Nat) : State :=
  { s with
    dict := { s.dict with vals := (List.range 12).foldl (fun (m : Tbl Bytes) i => tblDel m (storeKey (0xA08101 + i) c)) s.dict.vals }
    upd := { s.upd with camps := tblDel s.upd.camps c } }

/-- R357, R363: command 0xA082:02 with each of its six codes. -/
def State.controlCmd (s : State) (r : Req) (arg : Bytes) : State :=
  s.command r 0xA08202 arg (fun c s =>
    let st := (s.camp c).st
    let move := fun (n : Nat) => s.setCamp c (fun x => { x with st := n })
    match leNat arg with
    | 1 =>
      if st ≠ 1 then .refuse .deviceBusy s
      else if s.campaignOk c then .done ((move 2).mirror .configuration (0xA08202 * 2 ^ 20 + c) (s.campaignBytes c))
      else .failed .valueInvalid s
    | 2 => if st = 2 then .done (move 3).placeAll else .refuse .deviceBusy s
    | 3 => if st = 3 then .done (move 4) else .refuse .deviceBusy s
    | 4 => if st = 4 then .done (move 3).placeAll else .refuse .deviceBusy s
    | 5 =>
      if 2 ≤ st ∧ st ≤ 4 then
        .done (((s.camp c).targets.foldl (fun (t : State) p => if p.2.final then t else
          (t.setTarget c p.1 (fun x => { x with st := 9, reason := 7, attempts := 0 })).raise 0x220 p.1) (move 7)).placeAll)
      else .refuse .deviceBusy s
    | 6 => if st = 1 ∨ st = 2 ∨ st = 6 ∨ st = 7 then .done (s.forgetCampaign c) else .refuse .deviceBusy s
    | _ => .refuse .valueInvalid s)

def execVerify (r : Req) (s : State) : Result := .next (s.controlCmd r [1])

def execStart (r : Req) (s : State) : Result := .next (s.controlCmd r [2])

def execPause (r : Req) (s : State) : Result := .next (s.controlCmd r [3])

def execResume (r : Req) (s : State) : Result := .next (s.controlCmd r [4])

def execCancel (r : Req) (s : State) : Result := .next (s.controlCmd r [5])

def execDelete (r : Req) (s : State) : Result := .next (s.controlCmd r [6])

/-- The ranges of a target list (R358): none where its length does not fit its count or a range runs backwards. -/
def targetRanges (arg : Bytes) : Option (List (Nat × Nat)) :=
  let n := fieldAt arg 0 2
  let l := (List.range n).map (fun (k : Nat) => (fieldAt arg (2 + 8 * k) 4, fieldAt arg (6 + 8 * k) 4))
  if arg.length ≠ 2 + 8 * n ∨ l.any (fun x => x.2 < x.1) = true then none else some l

/-- A handle stands in the ranges; one that contains 0xFFFFF stands for every meter (R358). -/
def inRanges (l : List (Nat × Nat)) (h : Nat) : Bool :=
  l.any (fun x => (decide (x.1 ≤ h) && decide (h ≤ x.2)) || (decide (x.1 ≤ 0xFFFFF) && decide (0xFFFFF ≤ x.2)))

/-- R358: commands 0xA083:01 and :02. -/
def State.targetsCmd (s : State) (r : Req) (num : Nat) (arg : Bytes) : State :=
  s.command r num arg (fun c s =>
    if arg.length ≠ 2 + 8 * fieldAt arg 0 2 then .refuse .lengthInvalid s
    else match targetRanges arg with
    | none => .refuse .valueInvalid s
    | some [] => .done s
    | some l =>
      let st := (s.camp c).st
      if st = 0 ∨ 4 < st then .refuse .deviceBusy s
      else
        let hs := ((s.trust.meters.map (·.1)).filter (inRanges l))
        let t := if num = 0xA08301 then
            s.setCamp c (fun x => { x with targets := hs.foldl (fun (m : Tbl Target) h =>
              if (tblFind? m h).isSome then m else tblPut m h { st := 2 }) x.targets })
          else s.setCamp c (fun x => { x with targets := x.targets.filter (fun p => !inRanges l p.1) })
        .done ((t.mirror .configuration (num * 2 ^ 20 + c) arg).placeAll))

def execAddTargets (r : Req) (arg : Bytes) (s : State) : Result := .next (s.targetsCmd r 0xA08301 arg)

def execRemoveTargets (r : Req) (arg : Bytes) (s : State) : Result := .next (s.targetsCmd r 0xA08302 arg)

/-- Targets on a port that still miss a block: those initiated and not yet asked miss every one (R361). -/
def State.missCount (s : State) (c p b : Nat) : Nat :=
  ((s.portTargets c p).filter (fun x => match x.2.missing with
    | none => x.2.st == 3
    | some l => (x.2.st == 3 || x.2.st == 4) && l.contains b)).length

/-- Whether a pass sends a block: the first pass every block, a later one those that enough targets miss (R361). -/
def State.passSends (s : State) (c p b : Nat) : Bool :=
  if (s.passOf c p).1 = 0 ∧ (s.portTargets c p).any (fun x => x.2.st == 3 && x.2.missing.isNone) = true then true
  else decide (s.cdef c 10 ≤ s.missCount c p b) && decide (0 < s.missCount c p b)

/-- The next block of the pass at or after a number. -/
def State.nextBlock (s : State) (c p : Nat) : Nat → Nat → Option Nat
  | 0, _ => none
  | f + 1, b => if s.campBlocks c ≤ b then none else if s.passSends c p b then some b else State.nextBlock s c p f (b + 1)

/-- Campaign port frames: a later downlink item of BILLING or PREPAY waits for the port (R362). -/
def State.billingWaits (s : State) (flow : Nat) : Bool :=
  (s.items flow).any (fun x => x.st == .waiting && (x.acct == 2 || x.acct == 3)) ||
  s.cas.kept.any (fun k => k.2.1 == flow && (k.1 == 2 || k.1 == 3))

/-- A campaign's share of a port in per cent: its own, within 50 per cent together in campaign order (R362). -/
def State.campShare (s : State) (c p : Nat) : Nat :=
  let before := ((List.range c).filter (fun d => (s.camp d).st == 3 && s.portTargets d p != [])).foldl (fun n d => n + s.cdef d 8) 0
  min (s.cdef c 8) (50 - before)

/-- The cycle (power-line) or second (radio) that a port is in. -/
def State.portClock (s : State) (p : Nat) : Nat := if isRf p then s.time.net / 1000000000 else s.time.cycle.toNat

/-- A native port can carry a campaign frame now (R359, R362): no beacon in the cycle or second, no other campaign frame,
and the share of the eligible ones kept. -/
def State.campSlot (s : State) (c p : Nat) : Bool :=
  let now := s.portClock p
  let e := s.pcfg p 6 2
  let beacon := now % 2 ^ e == 0 || (isRf p && ((s.fport p).startSf == some (s.superframe p) || (s.fport p).firstSf == some (s.superframe p)))
  !beacon && (List.range 64).all (fun (d : Nat) => tblFind? s.upd.lastFrame (p * 64 + d) != some now) &&
    (match tblFind? s.upd.lastFrame (p * 64 + c) with
      | none => decide (0 < s.campShare c p)
      | some last => decide (100 ≤ (now - last) * s.campShare c p))

/-- Transmissions of a campaign on a port of a standard generation within the last 60 s (R362): start in ns, us. -/
def State.lately (s : State) (c p : Nat) : List (Nat × Nat) :=
  (tblGet [] s.upd.stdSent (p * 64 + c)).filter (fun x => decide (s.time.net < x.1 + 60000000000))

/-- A transmission of some us keeps a campaign within its share of the transmit time averaged over 60 s (R362). -/
def State.shareFits (s : State) (c p us : Nat) : Bool :=
  decide (((s.lately c p).map (·.2)).sum + us ≤ s.campShare c p * 600000)

/-- Bytes of a fragment on a port (R360). -/
def State.fragment (s : State) (p : Nat) : Nat := if isRf p ∧ s.pcfg p 3 2 = 50000 then 64 else 192

/-- Command 0x08 with one fragment of a block (R360). -/
def State.campFrame (s : State) (c p b k : Nat) : Bytes :=
  let f := s.fragment p
  let data := s.campBlock c b
  [0x08] ++ leBytes 1 c ++ leBytes 4 b ++ leBytes 1 k ++ leBytes 1 ((data.length + f - 1) / f) ++ [0] ++ slice data (k * f) f

/-- After a fragment (native) or a block (standard), the pass goes on, or ends and every target of the port that took part
is asked what it misses (R361). -/
def State.passOn (s : State) (c p b k : Nat) : State :=
  let f := if s.isNative p then s.fragment p else s.cdef c 2
  if (k + 1) * f < (s.campBlock c b).length then
    s.setCamp c (fun x => { x with ports := tblPut x.ports p ((s.passOf c p).1, b, k + 1) })
  else if (s.nextBlock c p (s.campBlocks c) (b + 1)).isSome then
    s.setCamp c (fun x => { x with ports := tblPut x.ports p ((s.passOf c p).1, b + 1, 0) })
  else
    let n := (s.passOf c p).1 + 1
    let hs := (s.portTargets c p).map (·.1)
    s.setCamp c (fun x => { x with
      passes := max x.passes n
      ports := tblPut x.ports p (n, 0, 0)
      targets := x.targets.map (fun q =>
        if hs.contains q.1 ∧ (q.2.st = 3 ∨ q.2.st = 4) then (q.1, { q.2 with st := 4, phase := 0, attempts := 0, missing := none }) else q) })

/-- R359 to R362: a fragment of a block leaves a port by multicast: command 0x08 under the network key, or a broadcast of
G3-PLC or PRIME under the broadcast key. How many slots a native frame spans is its modulation's, an open value (R142, log entry
6); how long a standard one takes is open below the least share of 60 s (log entry 77). -/
def execCampaignMulticastTx (campaign : Fin 64) (port : Fin 24) (s : State) : Result :=
  let c := campaign.val
  let p := port.val
  let x := s.passOf c p
  .next (if (s.camp c).st ≠ 3 ∨ s.mayTransmit p = false ∨ s.pwr.quiet = true ∨ s.cdef c 9 ≤ x.1 ∨ s.billingWaits (0xC00 + p) = true then s
    else match s.nextBlock c p (s.campBlocks c) x.2.1 with
    | none => s
    | some b =>
      let k := if b = x.2.1 then x.2.2 else 0
      if s.isNative p then
        let frame := s.campFrame c p b k
        let air := airtime (s.pcfg p 3 2) (frame.length + 29)
        let d := s.openVal 104
        if s.campSlot c p = false ∨ s.slotOpen p (1 + d.1.toNat % 32) none = false ∨ (s.fport p).began = false ∨
            (isRf p ∧ (s.pcfg p 6 2 = 0 ∨ s.dutyFits p air = false)) then s
        else
          let key := d.2.lineKey (some 8) (s.netKey p) .ccm
          match key.1 with
          | none => s
          | some n =>
            let t := key.2.transmit p (nativeFrame 3 (s.station p) 0xFFFFF [] (s.portClock p % 2 ^ 32) 1 n frame)
            ({ t with upd := { t.upd with lastFrame := tblPut t.upd.lastFrame (p * 64 + c) (s.portClock p) } }).passOn c p b k
      else if isRf p ∨ s.cdef c 6 = 0 then s
      else
        let air := s.openVal 103
        let us := air.1.toNat % 600000
        let key := air.2.lineKey (some 8) (s.cdef c 6) .dlms
        if s.shareFits c p us = false then s
        else match key.1 with
        | none => key.2
        | some _ =>
          let g := s.pcfg p 1 1
          let t := { key.2 with upd := { key.2.upd with
            stdSent := tblPut key.2.upd.stdSent (p * 64 + c) ((s.time.net, us) :: s.lately c p) } }
          ((((t.drive p g).emit (.stdTx p g 0xFFFFF (s.stdParam p g)
            (Config.dlms (s.apduForm 0xFFFFF (s.requestOf (.campaign c 0 0 b))) 0xFFFFF 13 [(c : Int), (b : Int)] ++ s.campBlock c b))).bumpPort p 9).passOn c p b 0))

/-- Whether the repair of a block waits for a further pass (R361): passes are left and enough targets of the port miss it. -/
def State.leftToPass (s : State) (c h b : Nat) : Bool :=
  match s.partner h with
  | none => false
  | some x => s.multicast c h && decide ((s.passOf c x.port).1 < s.cdef c 9) && decide (s.cdef c 10 ≤ s.missCount c x.port b)

/-- Blocks that go to a target by unicast. -/
def State.unicastBlocks (s : State) (c h : Nat) (t : Target) : List Nat :=
  (t.missing.getD []).filter (fun b => !s.leftToPass c h b)

/-- A request of the target's present step is due (R361): a waiting, initiated or ended target has none, and a repair none
for blocks that a further pass carries. -/
def State.stepDue (s : State) (c h : Nat) (t : Target) : Bool :=
  match t.st with
  | 2 => true
  | 4 => t.phase == 0 || s.unicastBlocks c h t != []
  | 5 => true
  | 6 => t.due || decide (ofTime64 (s.cfgBytes 0xA08107 c) ≤ s.time.net)
  | 7 => true
  | _ => false

/-- The unit may send a unicast campaign frame to a meter now (R359, R362). -/
def State.unicastOpen (s : State) (c h : Nat) : Bool :=
  (s.camp c).st == 3 && s.acting && !s.pwr.quiet &&
  match s.partner h, s.serialOf h with
  | some x, _ => x.sync != 2 && !s.billingWaits (0xC00 + x.port)
  | none, some p => !s.billingWaits (0xC18 + p)
  | none, none => true

/-- Send the request of a target's present step (R361). A verified target that is due enters Activating; a tariff whose own
activation time has passed is only read back. -/
def State.sendStep (s : State) (c h : Nat) (t0 : Target) : State :=
  let own := Config.passiveTime (s.campContent c)
  let t : Target :=
    if t0.st = 6 then
      { t0 with st := 7, attempts := 0, due := false, phase := if s.cdef c 1 = 2 ∧ own ≠ 0 ∧ own ≤ s.time.net then 1 else 0 }
    else t0
  let b := (s.unicastBlocks c h t).headD 0
  (((s.setTarget c h (fun _ => { t with attempts := t.attempts + 1, last := s.time.net })).setCamp c
    (fun x => { x with unicasts := x.unicasts + 1 })).tell h (.campaign c t.st t.phase b))

/-- R361: the next unicast step of a target is sent. -/
def execCampaignUnicastStep (campaign : Fin 64) (handle : Handle) (s : State) : Result :=
  let c := campaign.val
  let h := handle.toNat
  .next (match tblFind? (s.camp c).targets h with
    | none => s
    | some t => if s.unicastOpen c h = false ∨ s.stepDue c h t = false ∨ (t.attempts ≠ 0 ∧ t.st ≠ 6) then s else s.sendStep c h t)

/-- Blocks of size B in which a meter's attributes differ from the content (R361). -/
def State.differing (s : State) (c : Nat) (b : Bytes) : List Nat :=
  (List.range (max (s.campBlocks c) ((b.length + s.cdef c 2 - 1) / max (s.cdef c 2) 1))).filter (fun n =>
    slice b (n * s.cdef c 2) (s.cdef c 2) != s.campBlock c n)

/-- R361: a meter's answer to the request outstanding advances its target or fails it; what fits no request is left. -/
def execCampaignResponse (campaign : Fin 64) (handle : Handle) (a : CampAns) (s : State) : Result :=
  let c := campaign.val
  let h := handle.toNat
  let next := fun (f : Target → Target) => s.setTarget c h (fun t => { f t with attempts := 0 })
  .next (match tblFind? (s.camp c).targets h with
    | none => s
    | some t =>
      if t.attempts = 0 ∨ ¬ ((s.camp c).st = 3 ∨ (s.camp c).st = 4) then s
      else match t.st, t.phase, a with
      | 2, 0, .attributes bs enabled =>
        if !enabled then s.failTarget c h 2
        else if bs < s.cdef c 2 then s.failTarget c h 3
        else next (fun x => { x with phase := 1 })
      | 2, 1, .done => ((next (fun x => { x with missing := none })).toState c h 3)
      | 4, 0, .missing l =>
        let held := s.campBlocks c - l.length
        if l = [] then (next (fun x => { x with held := held, missing := some [] })).toState c h 5
        else next (fun x => { x with phase := 1, missing := some l, held := held })
      | 4, 0, .content b =>
        let l := s.differing c b
        if l = [] then (next (fun x => { x with held := s.campBlocks c, missing := some [] })).toState c h 6
        else next (fun x => { x with phase := 1, missing := some l, held := s.campBlocks c - l.length })
      | 4, 1, .done =>
        let sent := (s.unicastBlocks c h t).headD 0
        let l := (t.missing.getD []).erase sent
        next (fun x => { x with missing := some l, held := x.held + 1, phase := if l = [] then 0 else 1 })
      | 5, 0, .done => next (fun x => { x with phase := 1 })
      | 5, 1, .status n =>
        if n = 3 then s.toState c h 6
        else if n = 4 then
          if t.verifyFails = 0 then next (fun x => { x with st := 2, phase := 1, verifyFails := 1 })
          else s.failTarget c h 5
        else s
      | 7, 0, .done => next (fun x => { x with phase := 1 })
      | 7, 1, .status n => if n = 6 then s.toState c h 8 else if n = 7 then s.failTarget c h 6 else s
      | 7, 1, .content b => if b = s.campContent c then s.toState c h 8 else s
      | _, _, _ => s)

/-- R361: the attempt interval has passed unanswered: the step is tried again, or the target fails. -/
def execCampaignAttemptTimeout (campaign : Fin 64) (handle : Handle) (s : State) : Result :=
  let c := campaign.val
  let h := handle.toNat
  .next (match tblFind? (s.camp c).targets h with
    | none => s
    | some t =>
      if t.attempts = 0 ∨ t.final = true ∨ (s.camp c).st ≠ 3 ∨ s.time.net < t.last + s.cdef c 12 * 1000000000 then s
      else if s.cdef c 11 ≤ t.attempts then s.failTarget c h 4
      else if s.unicastOpen c h then s.sendStep c h t else s)

/-- R361: the activation time has come: every verified target is due. -/
def execCampaignActivationTime (campaign : Fin 64) (s : State) : Result :=
  let c := campaign.val
  .next (if (s.camp c).st = 3 ∧ ofTime64 (s.cfgBytes 0xA08107 c) ≤ s.time.net then
      s.setCamp c (fun x => { x with targets := x.targets.map (fun p => if p.2.st = 6 then (p.1, { p.2 with due := true }) else p) })
    else s)

/-- R363: after a reset or a take-over every running campaign asks each target that has not ended before it sends more, and
counts its passes afresh. -/
def State.campaignsResume (s : State) : State :=
  ({ s with upd := { s.upd with camps := s.upd.camps.map (fun (q : Nat × Campaign) =>
      if q.2.st = 3 ∨ q.2.st = 4 then
        (q.1, { q.2 with passes := 0, ports := [], targets := q.2.targets.map (fun (p : Nat × Target) =>
          if p.2.final then p else (p.1, { p.2 with st := 4, phase := 0, attempts := 0, missing := none })) })
      else q) } }).placeAll

/-- R363: a removed meter fails wherever it is a target that has not ended. -/
def State.campaignsForget (s : State) (h : Nat) : State :=
  (s.upd.camps.map (·.1)).foldl (fun t c =>
    match tblFind? (t.camp c).targets h with
    | some x => if x.final ∨ (t.camp c).st = 7 ∨ (t.camp c).st = 6 then t else t.failTarget c h 1
    | none => t) s

/-- Targets by state 0xA084:02 (R366). -/
def State.targetsByState (s : State) (c : Nat) : Bytes :=
  (List.range 10).flatMap (fun (k : Nat) => leBytes 4 ((s.camp c).targets.filter (fun p => p.2.st == k + 1)).length)

/-- R181: a direct partner is removed from its field port; its campaign targets fail with reason 1 (R360). -/
def execPartnerRemoval (handle : Handle) (s : State) : Result :=
  .next (if (s.partner handle.toNat).isNone then s else (s.removePartner handle.toNat).campaignsForget handle.toNat)

end Sys2Proof.Machine
end

