-- ==== Sys2Proof/Machine/Prepay.lean ====
section
/-! DEFINITION. Prepayment (12_prepayment_loads): charges, credit states, disconnection and reconnection. -/

namespace Sys2Proof.Machine

/-- Code of a credit state (R305). -/
def Credit.code : Credit → Nat
  | .off => 0 | .credit => 1 | .low => 2 | .emergency => 3 | .exhausted => 4 | .deferred => 5 | .disconnected => 6

/-- Payment mode 0xC054:01 of a meter. -/
def State.payMode (s : State) (h : Nat) : Nat := s.cfgN 0xC05401 h

/-- Member sub of the price set that a meter names (R302). -/
def State.price (s : State) (h sub : Nat) : Nat := s.cfgN (0x705200 + sub) (s.cfgN 0xC05402 h)

/-- A weekly window covers a minute of billing time (R308): an end before the start runs into the next day, an end equal to the start
covers the whole day (log entry 40). -/
def windowCovers (e : Bytes) (bmin : Nat) : Bool :=
  let mask := fieldAt e 0 1
  let a := fieldAt e 1 2
  let b := fieldAt e 3 2
  let m := bmin % 1440
  let on := fun day => mask / 2 ^ ((day + 5) % 7) % 2 == 1
  let today := on (bmin / 1440)
  let before := on (bmin / 1440 + 6)
  if a = b then today
  else if a < b then today && decide (a ≤ m) && decide (m < b)
  else (today && decide (a ≤ m)) || (before && decide (m < b))

/-- A friendly date covers a minute of billing time (R308). -/
def dateCovers (e : Bytes) (bmin : Nat) : Bool :=
  let d := CalTime.ofSecs (bmin * 60)
  e != [0, 0, 0, 0] && fieldAt e 2 1 == d.month && fieldAt e 3 1 == d.day &&
    (fieldAt e 0 2 == 0 || fieldAt e 0 2 == d.year)

/-- A minute of billing time lies in friendly hours (R308). -/
def State.friendly (s : State) (bmin : Nat) : Bool :=
  (List.range 8).any (fun i => windowCovers (s.cfgOct (0x705301 + i)) bmin) ||
  (List.range 32).any (fun i => dateCovers (s.cfgOct (0x705401 + i)) bmin)

/-- The ledger record 0xC054:03 (R301). -/
def State.ledgerRecord (s : State) (h : Nat) : Bytes :=
  let l := s.ledger h
  let flags := bit l.ec + bit l.noticeSent * 2 + bit l.reconnect * 4 + bit l.disconnect * 8 +
    bit (s.friendly s.billingNow) * 16
  leBytes 1 (s.payMode h) ++ leBytes 1 l.st.code ++ leBytes 1 (s.cfgN 0xC05402 h) ++ leBytes 1 flags ++
  leBytes 4 l.eCarry ++ leBytes 8 (ofSigned 64 l.balance) ++ leBytes 8 (ofSigned 64 l.debt) ++
  leBytes 8 (ofSigned 64 l.credited) ++ leBytes 8 (ofSigned 64 l.charged) ++ leBytes 4 l.lastId.toNat ++
  time64 ((l.notice.getD 0).toNat) ++ leBytes 4 l.tCarry ++ [0, 0, 0, 0]

/-- A ledger's change goes to the partner (R310). -/
def State.mirrorLedger (s : State) (h : Nat) : State := s.mirror .ledgerDelta h (s.ledgerRecord h)

/-- Less than 0x7050:07 minutes have passed since the last main reset release (R307, reason 4). -/
def State.holdsOff (s : State) : Bool := decide (s.time.mono < s.pwr.releasedAt + s.cfgN 0x705007 * 60 * 32768)

/-- Why a disconnection may not be issued: the lowest reason code of R307. -/
def State.deferReason (s : State) (h : Nat) : Option Nat :=
  let now := s.billingNow
  if s.friendly now then some 1
  else if (List.range (s.cfgN 0x705006)).any (fun k => s.friendly (now + k + 1)) then some 2
  else if s.time.untrusted then some 3
  else if s.holdsOff then some 4
  else if s.isStandby ∨ (s.pair.role ≠ .solo ∧ s.formed = false) then some 5
  else if (s.ledger h).noControl then some 6
  else none

/-- The meter is told its balance and state (R309). -/
def State.tellCredit (s : State) (h : Nat) : State :=
  s.tell h (.tellCredit (s.ledger h).balance (s.ledger h).st.code)

/-- The state that the balance and the emergency credit give (R305): the lowest code that holds. -/
def State.creditOf (s : State) (h : Nat) : Credit :=
  let l := s.ledger h
  let thr := s.cfgI 8 0x705001
  if s.payMode h = 0 then .off
  else if thr < l.balance then .credit
  else if 1 ≤ l.balance then .low
  else if l.ec ∧ -(s.cfgI 8 0x705002) < l.balance then .emergency
  else .exhausted

/-- Leave to a state of lower code: the notice and a pending disconnection go; a meter that was disconnected is to be
reconnected (R305, R309). -/
def Ledger.lower (l : Ledger) (c : Credit) : Ledger :=
  { l with
    st := c, notice := none, noticeSent := false, disconnect := false, reason := 0
    reconnect := l.reconnect || l.st == .disconnected }

/-- Emergency credit activated automatically (R306, mode 1). -/
def State.autoEc (s : State) (h : Nat) : State :=
  let l := s.ledger h
  if s.payMode h ≠ 0 ∧ s.cfgN 0x705003 = 1 ∧ l.ec = false ∧ l.ecSpent = false ∧ l.balance ≤ 0
  then s.setLedger h (fun x => { x with ec := true }) else s

/-- Entry into a state (R305, R309), recorded (R327). -/
def State.enterCredit (s : State) (h : Nat) (c : Credit) : State :=
  (match c with
  | .low => ((s.setLedger h (·.lower c)).raise 0x150 h).tellCredit h
  | .emergency => ((s.setLedger h (·.lower c)).raise 0x151 h).tellCredit h
  | .exhausted =>
    ((s.setLedger h (fun l => { l with
        st := .exhausted, noticeSent := true
        notice := some (s.line + (s.cfgN 0x705004 : Int) * 60000000000) })).raise 0x152 h).tellCredit h
  | _ => s.setLedger h (·.lower c)).recordPrepay h

/-- The state is re-evaluated (R305). -/
def State.evalCredit (s : State) (h : Nat) : State :=
  let s1 := s.autoEc h
  let c := s1.creditOf h
  let st := (s1.ledger h).st
  if c = st ∨ (c = .exhausted ∧ 4 ≤ st.code) then s1 else s1.enterCredit h c

/-- A change of a ledger: emergency credit may be activated again once the balance falls to the low-credit threshold
(R306); the state is re-evaluated and the record mirrored (R302, R310). -/
def State.changeLedger (s : State) (h : Nat) (f : Ledger → Ledger) : State :=
  let thr := s.cfgI 8 0x705001
  let b0 := (s.ledger h).balance
  let s1 := (s.usePage (0x5000 + h / 256) 3 2).setLedger h f
  let s2 := s1.setLedger h (fun l => { l with ecSpent := l.ecSpent && !(decide (thr < b0) && decide (l.balance ≤ thr)) })
  (s2.evalCredit h).mirrorLedger h

/-- Charge an amount in milli-units; a negative one credits, and lowers total charged (R302). Currency is a signed 64-bit integer
(R13). -/
def Ledger.charge (l : Ledger) (a : Int) : Ledger := 
  { l with balance := wrapS 64 (l.balance - a), charged := wrapS 64 (l.charged + a) }

/-- The energy not yet charged, at the price of each rate, with the carry (R302). -/
def State.chargeEnergy (s : State) (h : Nat) (l : Ledger) : Ledger :=
  let cost := l.due.zipIdx.foldl (fun n x => n + x.1 * (s.price h (x.2 + 1) : Int)) (l.eCarry : Int)
  { l.charge (cost / 1000000) with eCarry := (cost % 1000000).toNat, due := List.replicate 8 0 }

/-- The rate-register changes of a meter are charged, once only (R302); with prepayment off, and by a Standby (R383), nothing is
charged. The readings they came from are then held whole. -/
def State.chargeDue (s : State) (h : Nat) : State :=
  if (s.ledger h).due.all (· == 0) then s
  else if s.payMode h = 0 ∨ s.isStandby = true then (s.setLedger h (fun l => { l with due := List.replicate 8 0 })).settleEffects h
  else (s.changeLedger h (s.chargeEnergy h)).settleEffects h

/-- The meter's prepayment item that runs, or its first that waits (R206, R213). -/
def State.prepayItem (s : State) (h : Nat) : Option Item :=
  let l := (s.items (0xC2C + h % 16)).filter (fun x => x.key == h && x.work.isNone)
  (l.find? (fun x => match x.st with | .running _ _ => true | _ => false)).orElse (fun _ => l.head?)

/-- R302: a prepayment item charges a meter's ledger. While the item stands on its flow the charge is staged, and becomes visible
at its release (R213). -/
def execPrepayItem (handle : Handle) (s : State) : Result :=
  let h := handle.toNat
  .next (s.crossing 8 (.prepayItem handle) (match s.prepayItem h with
    | some it => s.setItem (0xC2C + h % 16) it.id (fun x => { x with work := some .charge })
    | none => s.chargeDue h))

/-- The results of the items released become visible, in the order of release (R213). -/
def State.showResults (s : State) : State :=
  s.cas.results.foldl (fun (t : State) (x : Nat × U64 × Work) => match x.2.2 with
    | .reading k g => (t.applyReading x.1 x.2.1 k g).settleEffects x.1
    | .charge => (t.chargeDue x.1).settleEffects x.1) { s with cas := { s.cas with results := [] } }

/-- The standing charge of a number of seconds (R302). -/
def State.chargeStanding (s : State) (h secs : Nat) (l : Ledger) : Ledger :=
  let cost := l.tCarry + s.price h 9 * secs
  { l.charge ((cost / 86400 : Nat) : Int) with tCarry := cost % 86400 }

/-- Daily debt recovery of a number of seconds (R304): only in CREDIT, and only down to the low-credit threshold. -/
def State.recoverDebt (s : State) (h secs : Nat) : State :=
  let l := s.ledger h
  let want : Int := (leNat (s.cfgBytes 0x705009 0) * secs / 86400 : Nat)
  let a := min (min want l.debt) (l.balance - s.cfgI 8 0x705001)
  if l.st = .credit ∧ 0 < a then
    s.changeLedger h (fun x => { x.charge a with debt := x.debt - a })
  else s

/-- The charges of time up to now, for every meter in prepayment (R302, R304); a Standby charges none (R383). -/
def State.timeCharges (s : State) : State :=
  let secs := match s.bill.app.chargedTo with
    | none => 0
    | some t0 => s.bill.app.paidSeconds t0 s.line
  let s1 := if s.isStandby then s
    else ((s.trust.meters.map (·.1)).filter (fun h => s.payMode h != 0)).foldl
      (fun t h => (t.changeLedger h (t.chargeStanding h secs)).recoverDebt h secs) s
  s1.setApp (fun a => { a with chargedTo := some s.line })

/-- A disconnection is sent, and output_state read (R309); the command is recorded (R327). -/
def State.sendDisconnect (s : State) (h : Nat) : State :=
  ((((s.recordPrepay h).tell h .disconnect).tell h .getOutput).setLedger h (fun l => { l with
    st := .exhausted, reason := 0, disconnect := true, cmd := some (l.cmd.getD 0) })).mirrorLedger h

/-- A disconnection that is due is issued, or deferred with its reason (R307). -/
def State.tryDisconnect (s : State) (h : Nat) : State :=
  let l := s.ledger h
  let due := (l.st = .exhausted ∨ l.st = .deferred) ∧ l.disconnect = false ∧
    (match l.notice with | none => false | some n => decide (n ≤ s.line)) = true
  if due then
    match s.deferReason h with
    | none => s.sendDisconnect h
    | some r =>
      let s1 := s.setLedger h (fun x => { x with st := .deferred, reason := r })
      (if l.st = .deferred then s1 else (s1.raise 0x153 r).recordPrepay h).mirrorLedger h
  else s

/-- Every deferred or due disconnection is tested again (R307). -/
def State.retest (s : State) : State := (s.bill.app.ledgers.map (·.1)).foldl (fun t h => t.tryDisconnect h) s

/-- R307: the notice end has passed. -/
def execNoticeEnd (handle : Handle) (s : State) : Result := .next (s.tryDisconnect handle.toNat)

/-- R309: a disconnection that is due and that nothing forbids is sent. -/
def execDisconnectIssue (handle : Handle) (s : State) : Result := .next (s.tryDisconnect handle.toNat)

/-- R307: 0x7050:07 minutes have passed since the last main reset release (`State.holdsOff` counts them). -/
def execRestorationHoldEnd (s : State) : Result := .next s.retest

/-- R307, R308: billing time enters or leaves friendly hours or their margin. -/
def execFriendlyHoursChange (s : State) : Result := .next s.retest

/-- R309: a disconnection has not been confirmed in 60 s, or 300 s after its last repeat: it counts as a failure, the
third raises PREPAY_CMD_FAIL, and it is repeated unless R307 forbids it now. -/
def execDisconnectConfirmTimeout (handle : Handle) (s : State) : Result :=
  let h := handle.toNat
  .next (match (s.ledger h).cmd, (s.ledger h).disconnect with
    | some n, true =>
      let s1 := s.setLedger h (fun l => { l with cmd := some (n + 1) })
      let s2 := if 3 ≤ n + 1 ∧ (s.ledger h).failRaised = false then
        (s1.setLedger h (fun l => { l with failRaised := true })).raise 0x156 h else s1
      match s2.deferReason h with
      | none => (s2.tell h .disconnect).tell h .getOutput
      | some _ => s2
    | _, _ => s)

/-- A reconnection is sent (R309) and recorded (R327). -/
def State.sendReconnect (s : State) (h : Nat) : State :=
  ((((s.recordPrepay h).tell h .reconnect).tell h .getOutput).setLedger h (fun l => { l with reconnect := true, recSent := true })).mirrorLedger h

/-- R309: the reconnection condition holds: the balance exceeds 0x7050:05 and EC_ACTIVE is clear, or the mode is 0. -/
def execReconnectIssue (handle : Handle) (s : State) : Result :=
  let h := handle.toNat
  let l := s.ledger h
  .next (if l.reconnect = true ∧ l.recSent = false ∧
      ((s.cfgI 8 0x705005 < l.balance ∧ l.ec = false) ∨ s.payMode h = 0) then s.sendReconnect h else s)

/-- output_state not connected (R309): it confirms a disconnection, whose cancelled command is followed at once by a
reconnection; or either state confirms a reconnection. After a fail-over a reconnection not acted on is sent again
(R310). -/
def State.outputOff (s : State) (h : Nat) : State :=
  let l := s.ledger h
  if l.cmd.isSome then
    let s1 := s.setLedger h (fun x => { x with cmd := none, failRaised := false, follow := false, disconnect := false })
    if l.disconnect then
      (((s1.setLedger h (fun x => { x with st := .disconnected, notice := none, noticeSent := false })).raise 0x154 h).recordPrepay h).mirrorLedger h
    else s1.sendReconnect h
  else if l.recSent then
    if l.follow then (s.setLedger h (fun x => { x with follow := false })).sendReconnect h
    else ((s.setLedger h (fun x => { x with reconnect := false, recSent := false })).raise 0x155 h).mirrorLedger h
  else s

/-- output_state connected (R309): it confirms a reconnection; a meter found connected in DISCONNECTED is disconnected
again subject to R307; after a fail-over a disconnection not acted on is sent again (R310). -/
def State.outputOn (s : State) (h : Nat) : State :=
  let l := s.ledger h
  if l.cmd.isSome then
    if l.follow ∧ l.disconnect = true ∧ s.deferReason h = none then
      (s.setLedger h (fun x => { x with follow := false })).sendDisconnect h
    else s
  else if l.recSent then
    ((s.setLedger h (fun x => { x with reconnect := false, recSent := false, follow := false })).raise 0x155 h).mirrorLedger h
  else if l.st = .disconnected then
    ((s.setLedger h (fun x => { x with st := .exhausted, notice := some s.line })).recordPrepay h).tryDisconnect h
  else s

/-- R307, R309: a meter's output_state, or that its association has no class 70 object. -/
def execOutputStateResponse (handle : Handle) (a : OutputAns) (s : State) : Result :=
  let h := handle.toNat
  .next (match a with
    | .absent =>
      (s.setLedger h (fun l => { l with noControl := true, cmd := none, disconnect := false, recSent := false })).tryDisconnect h
    | .disconnected => (s.setLedger h (fun l => { l with noControl := false })).outputOff h
    | .connected => ((s.setLedger h (fun l => { l with noControl := false })).outputOn h).tryDisconnect h)

/-- Meters that a command of the window acts on (R43): the one named, or every meter in use for the broadcast handle. -/
def State.targets (s : State) (h : Nat) : List Nat := if h = 0xFFFFF then s.trust.meters.map (·.1) else [h]

/-- What R303 finds in a transfer. -/
inductive TransferRes where
  | reject | duplicate | accept
deriving DecidableEq, Repr

/-- The identifier, amount and source of a transfer judged against a ledger (R303). -/
def judgeTransfer (l : Ledger) (arg : Bytes) : TransferRes :=
  let id := fieldAt arg 0 4
  let amount := toSigned 64 (fieldAt arg 4 8)
  let source := fieldAt arg 12 1
  let last := l.lastId.toNat
  if id = 0 ∨ source = 0 ∨ 3 < source ∨ amount < 1 ∨ 1000000000000 < amount then .reject
  else if id = last then .duplicate
  else if (last = 0xFFFFFFFF ∧ id = 1) ∨ (last ≠ 0xFFFFFFFF ∧ last < id) then .accept
  else .reject

/-- An accepted transfer (R303, R306): a share to debt, the rest to the balance; EC_ACTIVE clears at 0 or above; it is recorded (R327). -/
def State.applyTransfer (s : State) (h : Nat) (arg : Bytes) : State :=
  let a : Int := toSigned 64 (fieldAt arg 4 8)
  (s.recordPrepay h).changeLedger h (fun l =>
    let toDebt := min (a * (s.cfgN 0x705008 : Int) / 100) l.debt
    let b := wrapS 64 (l.balance + (a - toDebt))
    { l with
      debt := l.debt - toDebt, balance := b, credited := wrapS 64 (l.credited + a), lastId := BitVec.ofNat 32 (fieldAt arg 0 4)
      ec := l.ec && decide (b < 0), ecSpent := l.ecSpent || (l.ec && decide (0 ≤ b)) })

/-- R303: command 0xC054:10. -/
def execCreditTransfer (r : Req) (arg : Bytes) (s : State) : Result :=
  .next (s.command r 0xC05410 arg (fun i s =>
    let hs := s.targets i
    if hs.any (fun h => judgeTransfer (s.ledger h) arg == .reject) then .refuse .valueInvalid s
    else .done ((hs.filter (fun h => judgeTransfer (s.ledger h) arg == .accept)).foldl (fun t h => t.applyTransfer h arg) s)))

/-- A request for emergency credit is allowed (R306). -/
def State.ecAllowed (s : State) (h : Nat) : Bool :=
  let l := s.ledger h
  s.cfgN 0x705003 == 2 && s.payMode h != 0 && decide (l.balance ≤ s.cfgI 8 0x705001) && !l.ec && !l.ecSpent

/-- R306: command 0xC054:11. -/
def execRequestEmergencyCredit (r : Req) (arg : Bytes) (s : State) : Result :=
  .next (s.command r 0xC05411 arg (fun i s =>
    let hs := s.targets i
    if hs.all (fun h => s.ecAllowed h) then
      .done (hs.foldl (fun t h => t.changeLedger h (fun l => { l with ec := true })) s)
    else .refuse .valueInvalid s))

/-- R306: an EVENT-NOTIFICATION of a meter that carries an event code. -/
def execMeterEcRequest (handle : Handle) (code : U16) (s : State) : Result :=
  let h := handle.toNat
  .next (if s.cfgN 0x70500A ≠ 0 ∧ code.toNat = s.cfgN 0x70500A ∧ s.ecAllowed h = true then
    s.changeLedger h (fun l => { l with ec := true }) else s)

/-- R304: command 0xC054:12. -/
def execAdjustDebt (r : Req) (arg : Bytes) (s : State) : Result :=
  .next (s.command r 0xC05412 arg (fun i s =>
    let d := toSigned 64 (leNat arg)
    let hs := s.targets i
    if hs.any (fun h => decide ((s.ledger h).debt + d < 0)) then .refuse .valueInvalid s
    else if d = 0 then .done s
    else .done (hs.foldl (fun t h => t.changeLedger h (fun l => { l with debt := wrapS 64 (l.debt + d) })) s)))

end Sys2Proof.Machine
end

