-- ==== Sys2Proof/Machine/Loads.lean ====
section
/-! DEFINITION. Load groups and local relays (R312 to R316). -/

namespace Sys2Proof.Machine

/-- A load group. -/
def State.lgroup (s : State) (g : Nat) : LoadGroup := tblGet {} s.bill.groups g

/-- Change a load group. -/
def State.setLgroup (s : State) (g : Nat) (f : LoadGroup → LoadGroup) : State :=
  { s with bill := { s.bill with groups := tblUpd {} s.bill.groups g f } }

/-- A relay. -/
def State.relay (s : State) (r : Nat) : Relay := tblGet {} s.bill.relays r

/-- Change a relay. -/
def State.setRelay (s : State) (r : Nat) (f : Relay → Relay) : State :=
  { s with bill := { s.bill with relays := tblUpd {} s.bill.relays r f } }

/-- The group's meters, ascending (R312). -/
def State.groupMeters (s : State) (g : Nat) : List Nat := (s.trust.meters.map (·.1)).filter (fun h => s.cfgN 0xC05501 h == g)

/-- The group's relays (R312). -/
def State.groupRelays (s : State) (g : Nat) : List Nat := (List.range 8).filter (fun r => s.cfgN 0x707101 r == g)

/-- A relay's level changes now (R315, R319). -/
def Relay.move (x : Relay) (t : Bool) : Relay := { x with on := t, ops := x.ops + 1, due := none }

/-- The instant at which a relay's output changes for a crossing of its phase (R315): the first crossing, real or predicted,
at least 2 ms plus the operate time ahead, less the operate or release time. -/
def State.relayEdge (s : State) (r : Nat) (t : Bool) (last : Nat) : Nat :=
  let op := s.cfgN 0x707103 r * 1000
  let ph := s.cfgN 0x707102 r
  let off : Int := if ph = 2 ∨ ph = 3 then s.phaseOffset ph else 0
  let t0 : Int := (last : Int) + off
  let need : Int := (s.time.net : Int) + 2000000 + op
  let p : Int := max s.time.period 1
  let k : Int := if need ≤ t0 then 0 else (need - t0 + p - 1) / p
  (t0 + k * p - (if t then (op : Int) else ((s.cfgN 0x707104 r * 1000 : Nat) : Int))).toNat

/-- A relay is commanded (R315): at its edge, or at once without crossings. A Standby's relays stay de-energised. -/
def State.commandRelay (s : State) (r : Nat) (t : Bool) : State :=
  let x := s.relay r
  if s.isStandby then s
  else if x.on = t then s.setRelay r (fun y => { y with due := none })
  else
    match s.time.tracker, s.time.lastStamp with
    | .locked, some l => s.setRelay r (fun y => { y with due := some (t, s.relayEdge r t l) })
    | .holdover, some l => s.setRelay r (fun y => { y with due := some (t, s.relayEdge r t l) })
    | _, _ => s.setRelay r (fun y => { y.move t with unaligned := y.unaligned + 1 })

/-- R315: a relay's output changes at its edge. -/
def execRelaySwitch (r : Fin 8) (s : State) : Result :=
  .next (match (s.relay r.val).due with
    | none => s
    | some (t, _) => s.setRelay r.val (·.move t))

/-- A group is commanded (R312): its members in ascending order, its relays with it; switchings count changes. -/
def State.commandGroup (s : State) (g : Nat) (t : Bool) : State :=
  if s.cfgB 0x706101 g = false then s
  else
    let s1 := s.setLgroup g (fun x => { x with
      on := t, todo := s.groupMeters g, sent := []
      switchings := if x.on = t then x.switchings else x.switchings + 1 })
    (s.groupRelays g).foldl (fun u r => (u.setRelay r (fun x => { x with manual := none })).commandRelay r t) s1

/-- The schedule commands a group only where its state changes. -/
def State.scheduleGroup (s : State) (g : Nat) (t : Bool) : State := if (s.lgroup g).on = t then s else s.commandGroup g t

/-- A charge window as start, length and target (R314); an end at or before the start runs past midnight. -/
def State.windows (s : State) (g : Nat) : List (Nat × Nat × Nat) :=
  (List.range 4).filterMap (fun i =>
    let e := s.cfgOct (0x706201 + i) g
    let a := fieldAt e 0 2
    let b := fieldAt e 2 2
    if e = [0, 0, 0, 0, 0] then none else some (a, if a < b then b - a else b + 1440 - a, fieldAt e 4 1))

/-- A window covers a minute of the day. -/
def winCovers (m : Nat) (w : Nat × Nat × Nat) : Bool := decide ((m + 1440 - w.1 % 1440) % 1440 < w.2.1)

/-- Two windows overlap. -/
def winOverlap (a b : Nat × Nat × Nat) : Bool := winCovers (b.1 % 1440) a || winCovers (a.1 % 1440) b

/-- The windows joined, by overlap, to those that cover a minute (R314). -/
def joinWindows (all : List (Nat × Nat × Nat)) : Nat → List (Nat × Nat × Nat) → List (Nat × Nat × Nat)
  | 0, l => l
  | n + 1, l => joinWindows all n (all.filter (fun w => l.any (fun x => x == w || winOverlap x w)))

/-- Minutes in a row, from one on by a step (1 forward, 1439 backward), that joined windows cover, n of them looked at. -/
def minutesRun (l : List (Nat × Nat × Nat)) (step : Nat) : Nat → Nat → Nat → Nat
  | 0, _, k => k
  | n + 1, m, k => if l.any (winCovers (m % 1440)) then minutesRun l step n (m + step) (k + 1) else k

/-- The window a minute of billing time lies in (R314): start, minutes left, target in %. -/
def State.windowAt (s : State) (g bmin : Nat) : Option (Nat × Nat × Nat) :=
  let m := bmin % 1440
  let all := s.windows g
  match joinWindows all 4 (all.filter (winCovers m)) with
  | [] => none
  | l =>
    some ((m + 1441 - minutesRun l 1439 1440 m 0) % 1440, minutesRun l 1 1440 m 0, l.foldl (fun n w => max n w.2.2) 0)

/-- Time constant, charge rate per minute, and target of a group in binary64. -/
def State.lgTau (s : State) (g : Nat) : F64 := F64.ofInt (s.cfgN 0x706106 g)
def State.lgRate (s : State) (g : Nat) : F64 := F64.ofRatio (s.cfgN 0x706105 g) 60000

/-- e^(-m/tau) (R313). -/
def State.lgDecay (s : State) (g : Nat) (m : F64) : F64 := Config.expF64 (F64.neg (F64.div m (s.lgTau g)))

/-- Keep a value within 0 and 1. -/
def F64.unit (x : F64) : F64 := if F64.lt x 0 then 0 else if F64.lt F64.one x then F64.one else x

/-- The least m for which charging reaches the target with R minutes left (R314); R where none does. -/
def State.minutesNeeded (s : State) (g : Nat) (left : Nat) (target : F64) : Nat :=
  let h0 := F64.mul (s.lgroup g).h (s.lgDecay g (F64.ofInt (left : Int)))
  let a := F64.mul (s.lgRate g) (s.lgTau g)
  ((List.range (left + 1)).find? (fun (m : Nat) =>
    F64.le target (F64.add h0 (F64.mul a (F64.sub F64.one (s.lgDecay g (F64.ofInt (m : Int)))))))).getD left

/-- What the schedule wants of a group now, the window known (R314). -/
def State.wanted (s : State) (g : Nat) (w : Option (Nat × Nat × Nat)) : Bool :=
  let x := s.lgroup g
  match w with
  | some (_, left, t) =>
    let target := F64.ofRatio t 100
    if F64.le target x.h then false
    else if left ≤ s.minutesNeeded g left target + s.cfgN 0x706108 g then true
    else x.on
  | none =>
    let floor := s.cfgN 0x706107 g
    if floor = 0 then false
    else if F64.lt x.h (F64.ofRatio floor 100) then true
    else x.on && x.window.isNone && F64.lt x.h (F64.ofRatio (floor + 10 : Nat) 100)

/-- One minute of stored heat (R313). -/
def State.heatMinute (s : State) (g : Nat) : State :=
  s.setLgroup g (fun x => { x with
    h := F64.unit (F64.fma x.h (s.lgDecay g F64.one) (if x.on then s.lgRate g else 0)) })

/-- The schedule of one group (R312, R314, R316): a window that starts ends a manual override; a held group stays held
while it is wanted on, and one that becomes eligible while releases run joins them. -/
def State.scheduleMinute (s : State) (g : Nat) (releases : Bool) : State :=
  let w := s.windowAt g s.billingNow
  let x := s.lgroup g
  let start := w.isSome && (w.map (·.1)) != x.window
  let want := s.wanted g w
  let s1 := s.setLgroup g (fun y => { y with window := w.map (·.1), manual := if start then none else y.manual })
  if x.held then (if want then s1 else s1.setLgroup g (fun y => { y with held := false }))
  else if (s1.lgroup g).manual.isSome then s1
  else if want && !x.on && !x.freed && releases then s1.setLgroup g (fun y => { y with held := true })
  else s1.scheduleGroup g want

/-- Groups that are enabled. -/
def State.enabledGroups (s : State) : List Nat := (List.range 32).filter (fun g => s.cfgB 0x706101 g)

/-- Some group is held: releases are running (R316). -/
def State.releasing (s : State) : Bool := s.bill.groups.any (fun p => p.2.held)

/-- h stored in MRAM (R313). -/
def State.storeHeat (s : State) : State :=
  { s with bill := { s.bill with groups := s.bill.groups.map (fun p => (p.1, { p.2 with hMram := p.2.h })), hMinutes := 0 } }

/-- R313, R314: a minute of the monotonic tick: heat, every 10 minutes its copy, and the windows; only the acting unit
switches loads. -/
def execLoadgroupMinute (s : State) : Result :=
  let s1 := s.enabledGroups.foldl (fun t g => t.heatMinute g) s
  let s2 : State := { s1 with bill := { s1.bill with hMinutes := s1.bill.hMinutes + 1 } }
  let s3 := if 10 ≤ s2.bill.hMinutes then s2.storeHeat else s2
  .next (if s3.isStandby then s3
    else s3.enabledGroups.foldl (fun t g => t.scheduleMinute g s3.releasing) s3)

/-- The bodies of 0x7063:05 (R312): 1 on, 2 off, 3 back to schedule. -/
def manualBody (n : Nat) (g : Nat) (s : State) : CmdOut :=
  if n = 3 then
    .done (s.setLgroup g (fun x => { x with manual := none }))
  else if n = 1 ∨ n = 2 then
    .done ((s.setLgroup g (fun x => { x with manual := some (n == 1), held := false, freed := true })).commandGroup g (n == 1))
  else .refuse .valueInvalid s

/-- Command 0x7063:05 with its argument. -/
def State.manualCmd (s : State) (r : Req) (arg : Bytes) : State := s.command r 0x706305 arg (manualBody (leNat arg))

/-- R312: manual override 1. -/
def execManualOn (r : Req) (s : State) : Result := .next (s.manualCmd r [1])

/-- R312: manual override 2. -/
def execManualOff (r : Req) (s : State) : Result := .next (s.manualCmd r [2])

/-- R312: manual override 3. -/
def execBackToSchedule (r : Req) (s : State) : Result := .next (s.manualCmd r [3])

/-- One member is commanded (R312); a DISCONNECTED one is skipped. -/
def State.commandMember (s : State) (g : Nat) (h : Nat) : State :=
  let on := (s.lgroup g).on
  let id := s.cfgN (if on then 0x706103 else 0x706104) g
  (s.tell h (.script (s.cfgOct 0x706102 g) id)).setApp (fun a => { a with lgSent := tblPut a.lgSent h (if on then 1 else 2) })

/-- R312: members of a switched group are commanded, with one retry in the next period of those that the acknowledgements
leave out; a second miss is recorded in 0xC055:03. -/
def execGroupMemberCommand (group : Fin 32) (acked : List Handle) (s : State) : Result :=
  let g := group.val
  let x := s.lgroup g
  let ok := acked.map (·.toNat)
  let open_ := x.sent.filter (fun p => !ok.contains p.1)
  let lost := (open_.filter (·.2)).map (·.1)
  let again := (open_.filter (fun p => !p.2)).map (·.1)
  let limit := s.cfgN 0x706109 g
  let free := x.todo.filter (fun h => (s.ledger h).st != .disconnected)
  let fresh := free.take (limit - again.length)
  .next (if s.isStandby then s
    else
      let s1 := s.setLgroup g (fun y => { y with
        todo := free.drop (limit - again.length)
        sent := again.map (fun h => (h, true)) ++ fresh.map (fun h => (h, false)) })
      let s2 := s1.setApp (fun a => { a with lgUnacked := lost.foldl (fun t h => tblUpd 0 t h satInc) a.lgUnacked })
      (again ++ fresh).foldl (fun t h => t.commandMember g h) s2)

/-- A group at a main reset release (R316): commanded off, HELD where it is enabled, the off script going to its members where it
was on. -/
def LoadGroup.atRelease (x : LoadGroup) (enabled : Bool) (members : List Nat) : LoadGroup :=
  { x with
    on := false, held := enabled, freed := false, manual := none, window := none, sent := []
    todo := if x.on then members else [] }

/-- After a main reset release every group is HELD and commanded off (R316); relays are de-energised. -/
def State.holdGroups (s : State) : State :=
  { s with bill := { s.bill with
      groups := (List.range 32).foldl (fun (t : Tbl LoadGroup) (g : Nat) =>
        tblUpd {} t g (fun x => x.atRelease (s.cfgB 0x706101 g) (s.groupMeters g))) s.bill.groups
      relays := s.bill.relays.map (fun p => (p.1, { p.2 with on := false, due := none, manual := none })) } }

/-- The order of release: ascending h, ties to the lower group (R316). -/
def coldest (l : List (Nat × F64)) : Option Nat :=
  (l.foldl (fun (b : Option (Nat × F64)) x => match b with
    | none => some x
    | some y => if F64.lt x.2 y.2 then some x else b) none).map (·.1)

/-- R316: the next release: groups that the schedule would not command on go back to it, and the coldest eligible one is
commanded on. -/
def execLoadgroupRelease (s : State) : Result :=
  let held := s.enabledGroups.filter (fun g => (s.lgroup g).held)
  let ready := held.filter (fun g => s.wanted g (s.windowAt g s.billingNow))
  let s1 := (held.filter (fun g => !ready.contains g)).foldl (fun t g => t.setLgroup g (fun x => { x with held := false })) s
  .next (if s.isStandby then s
    else match coldest (ready.map (fun g => (g, (s.lgroup g).h))) with
      | none => s1
      | some g => ((s1.setLgroup g (fun x => { x with held := false, freed := true })).commandGroup g true).raise 0x158 g)

/-- Group state 0x7063:01 (R319). -/
def State.lgState (s : State) (g : Nat) : Nat :=
  let x := s.lgroup g
  if s.cfgB 0x706101 g = false then 0 else if x.held then 3 else if x.manual.isSome then 4 else if x.on then 2 else 1

/-- The argument of trigger action 3 is well formed (R315); its reserved bits [31:16] are ignored (R11). -/
def loadArgOk (arg : Nat) : Bool :=
  let t := arg % 256
  let c := arg / 256 % 256
  (decide (t < 32) || (decide (0x80 ≤ t) && decide (t ≤ 0x87))) && (c == 1 || c == 2)

/-- Trigger action 3 (R92, R315): a group, or a relay alone, on or off. -/
def State.loadTrigger (s : State) (arg : Nat) : State :=
  let t := arg % 256
  let on := arg / 256 % 256 == 1
  if !loadArgOk arg then s
  else if t < 32 then s.commandGroup t on
  else (s.setRelay (t - 0x80) (fun x => { x with manual := some on })).commandRelay (t - 0x80) on

/-- Relays follow their group, or go de-energised where they name none and have no manual command (R315), after a commit. -/
def State.relaysFollow (s : State) : State :=
  (List.range 8).foldl (fun t r =>
    let g := t.cfgN 0x707101 r
    let want := if g < 32 then (t.lgroup g).on else ((t.relay r).manual).getD false
    if (t.relay r).on = want ∨ ((t.relay r).manual.isSome ∧ g < 32) then t else t.commandRelay r want) s

/-- The application island drives the relay outputs again after a block-alone reset, during which they were high (R415): each
one switches to what it is commanded to, on a unit that is not a Standby (R315). -/
def State.relaysBack (s : State) : State :=
  if s.isStandby then s
  else (List.range 8).foldl (fun t r =>
    let g := t.cfgN 0x707101 r
    let want := ((t.relay r).manual).getD (decide (g < 32) && (t.lgroup g).on)
    if (t.relay r).on = want then t else t.commandRelay r want) s

/-- Relays of a unit that is or becomes a Standby are high (R315). -/
def State.relaysOff (s : State) : State :=
  { s with bill := { s.bill with relays := s.bill.relays.map (fun p => (p.1, { p.2 with on := false, due := none })) } }

end Sys2Proof.Machine
end

