-- ==== Sys2Proof/Machine/Outage.lean ====
section
/-! DEFINITION. Interval ends, clock adjustments and the restoration after an outage (R281, R286 to R291, R302). -/

namespace Sys2Proof.Machine

/-- R281, R302, R305: at a 15-minute boundary of billing time, which a legal time has reached, the open profile interval closes and
the next opens; the charges of time are taken, states re-evaluated and deferred disconnections tested again. An offset moves
the boundary with it (R107). -/
def State.intervalEnd (s : State) (legal : Int) : State :=
  match s.bill.app.openIval with
  | none => (s.openAt legal 0).timeCharges
  | some (_, i) =>
    if legal / 60000000000 < (i.start : Int) - i.offset + 15 then s
    else ((((s.closeIval s.line legal 0 true).openAt legal 0).timeCharges).retest)

/-- A closure where billing time has passed a boundary, then scheduled tables and the rates, at a place of the time line (R289). -/
def State.switchesAt (s : State) (at_ : Int) (bmin : Nat) (flags : U16) : State :=
  let s1 := s.closeScheduled at_ bmin flags
  let due := (List.range 16).filter (fun t => s1.tableScheduled t && decide (leNat (s1.stored 0x701101 t) ≤ bmin))
  (due.foldl (fun u t =>
    ({ u with dict := { u.dict with shadow := u.dict.shadow.filter (fun p => !tableShadow t p) } }).raise 0x142 t) s1).followRatesAt
      at_ bmin

/-- What has come due by a legal time, in the order of R289: interval end, closure, switches. Nothing is closed from an untrusted
calendar (R290). -/
def State.boundaryEvents (s : State) (legal : Int) : State :=
  if s.time.untrusted = true ∨ s.bill.warning.isSome = true then s
  else (s.intervalEnd legal).switchesAt s.line (s.billingOf legal) 0

/-- At the warning every open profile entry and demand interval closes through one outage record (R290), after what a boundary in
the same tick brings (R289). -/
def State.billWarning (s : State) : State :=
  let s0 := s.boundaryEvents s.time.calNs
  let s1 := s0.closeIval s0.line s.time.calNs 16 false
  { s1 with bill := { s1.bill with warning := some (s1.line, s1.time.cycle, s1.bill.app.shift) } }

/-- R281: a profile interval ends; nothing is closed from an untrusted calendar (R290). -/
def execProfileIntervalEnd (s : State) : Result :=
  .next (if s.time.untrusted = true ∨ s.bill.warning.isSome = true then s else s.intervalEnd s.time.calNs)

/-- An adjustment above the limit splits time (R287): the running entry, up to the old legal time, closes; after the closure and the
rates that follow, the next opens at the new legal time under the next shift count. -/
def State.splitTime (s : State) (a old new_ : Int) : State :=
  let close := fun t : State => if 0 < a ∧ s.time.untrusted = false then t.closeScheduled s.line (s.billingOf new_) 1 else t
  let s1 := (close ((s.closeIval s.line old 8 false).timeCharges)).setApp (fun x => { x with
    shift := if x.shift = 0xFFFF then 1 else x.shift + 1, splits := x.splits + 1 })
  ((s1.openAt new_ 8).followRatesAt s.line (s.billingOf new_)).raise 0x144 (max (-2147483648) (min 2147483647 (a / 1000000)))

/-- An adjustment within the limit is absorbed (R286): counted by its size; the closure and the rates follow billing time. -/
def State.absorb (s : State) (a new_ : Int) : State :=
  let s1 := s.setApp (fun x => { x with adjHist := listUpd x.adjHist (adjBin (a.natAbs / 1000000)) satInc })
  let s2 := if 0 < a ∧ s.time.untrusted = false then s1.closeScheduled s.line (s.billingOf new_) 0 else s1
  s2.followRatesAt s.line (s.billingOf new_)

/-- 32.768 kHz ticks in ns. -/
def tickSpan (n : Int) : Int := n * 1000000000 / 32768

/-- R286, R287, R288, R289: the oldest calendar adjustment on its way is absorbed, or splits time, after what a boundary at the old
time brings; a forward one across boundaries closes the period once. The calendar holds all the adjustments on their way. -/
def execClockAdj (s : State) : Result :=
  .next (match s.time.adjust with
    | [] => s
    | n :: rest =>
      let a := tickSpan n
      let new_ : Int := (s.time.calNs : Int) - tickSpan (rest.foldl (· + ·) 0)
      let old := new_ - a
      let s1 := ({ s with time := { s.time with adjust := rest } } : State).boundaryEvents old
      let s2 := s1.setApp (fun x => { x with adjLog := (s.line, a) :: x.adjLog })
      if (s.cfgN 0x700001 : Int) * 1000000000 < (a.natAbs : Int) then s2.splitTime a old new_ else s2.absorb a new_)

/-- One minute boundary within an outage (R289, R290): an interval wholly inside it, then a closure, then scheduled tables
and the rates, each stamped with its own instant and the offset in force there. -/
def State.restoreMinute (s : State) (upto at_ : Int) : State :=
  let legal := s.legalAt at_
  let b := s.billingOf legal
  let off := s.offsetAt legal
  let next := at_ + 900000000000
  let oc : U16 := if off = s.offsetAt (s.legalAt next - 1) then 0 else 512
  let s1 := if b % 15 = 0 ∧ next ≤ upto then
      s.setApp (fun a => { a with
        nextIval := a.nextIval + 1
        ivals := a.ivals ++ [(a.nextIval, { from_ := at_, gate := at_, to_ := some next, start := b, offset := off
                                            shift := a.shift, flags := 32 ||| oc })] })
    else s
  s1.switchesAt at_ b 0

/-- The minute boundaries of an outage in order, n of them. -/
def State.restoreMinutes (s : State) (upto at_ : Int) : Nat → State
  | 0 => s
  | n + 1 => if at_ ≤ upto then (s.restoreMinute upto at_).restoreMinutes upto (at_ + 60000000000) n else s

/-- The first minute boundary of legal time after a place. -/
def State.minuteAfter (s : State) (at_ : Int) : Int :=
  at_ + (60000000000 - s.legalAt at_ % 60000000000)

/-- The interval that contains the restoration opens, POWER_FAIL (R290). -/
def State.openRestored (s : State) (from_ : Int) : State :=
  let q : Int := s.line - (((s.time.calNs : Int) % 900000000000))
  let gate := if q ≤ from_ then s.line else q
  let s1 := s.openNow 16
  s1.setApp (fun a => match a.openIval with
    | none => a
    | some (k, i) => { a with ivals := tblPut a.ivals k { i with gate := gate } })

/-- Ledgers and load groups across an outage: notices extended (R310), stored heat decayed (R313). -/
def State.afterOutage (s : State) (w t1 : Int) : State :=
  let s1 := s.setApp (fun a => { a with
    outages := (w, t1) :: a.outages
    ledgers := a.ledgers.map (fun p => (p.1, { p.2 with notice := p.2.notice.map (fun n => if w < n then n + (t1 - w) else n) })) })
  let mins := F64.ofRatio (t1 - w) 60000000000
  { s1 with bill := { s1.bill with
      warning := none
      groups := s1.bill.groups.map (fun p => (p.1, { p.2 with h := F64.unit (F64.mul p.2.hMram (s1.lgDecay p.1 mins)) })) } }

/-- R290, R291: at restoration, what was scheduled within the outage is applied in order; nothing from an untrusted
calendar. The time line never runs back: where the calendar found lies before the warning, the outage has no length. -/
def execOutageRestoration (s : State) : Result :=
  .next (match s.bill.warning with
    | none => s
    | some (w, _, _) =>
      if s.time.untrusted then s
      else
        let sc := s.closeIval w (s.legalAt w) 16 false
        let s0 := if sc.line < w then sc.noteStep (sc.line - w) else sc
        let t1 := s0.line
        let s1 := s0.afterOutage w t1
        let s2 := s1.restoreMinutes t1 (s1.minuteAfter w) (((t1 - w) / 60000000000).toNat + 1)
        ((s2.openRestored w).timeCharges).retest)

end Sys2Proof.Machine
end

