-- ==== Sys2Proof/Machine/Tamper.lean ====
section
/-! DEFINITION. Tamper records (R293, R294, R299) and the service display's list (R295, R296). -/

namespace Sys2Proof.Machine

/-- The device runs on backup: nothing but the always-on island is supplied (R293, R405). -/
def State.onBackup (s : State) : Bool := s.pwr.railsLost

/-- The kind byte of a record (R293): edge 1 opened, 2 closed; input 1 cover, 2 terminal block, 3 supply loss. -/
def State.tamperKind (s : State) (edge input : Nat) : U8 :=
  BitVec.ofNat 8 (bit s.onBackup * 128 + bit s.time.osf * 64 + edge * 4 + input)

/-- A record made by the always-on island (R293): the first 4 and the last 4 are kept. On main power it carries the capture of its
input's edge (R94, R294): the last one that 0x3500+c:02 shows, which is the model's
choice (log entry 72). -/
def State.tamperRecord (s : State) (edge input : Nat) : State :=
  let x : TamperRec := {
    kind := s.tamperKind edge input, cal := s.time.cal, net := if s.onBackup ∨ input = 3 then 0 else (tblGet {} s.time.captures (input + 1)).last }
  let b := s.bill
  { s with bill := { b with
      tampFirst := if b.tampFirst.length < 4 then b.tampFirst ++ [x] else b.tampFirst
      tampLast := if b.tampFirst.length < 4 then b.tampLast else (b.tampLast ++ [x]).drop ((b.tampLast.length + 1) - 4)
      tampCount := listUpd b.tampCount (input - 1) satInc } }

/-- R293: a level of TAMP_COVER (0) or TAMP_TERM (1), open when high, has held for 328 ticks. -/
def execTamperEdge (input : Fin 2) (opened : Bool) (s : State) : Result :=
  .next (if s.bill.tampOpen.getD input.val false = opened then s
    else
      let s1 : State := { s with bill := { s.bill with tampOpen := listUpd s.bill.tampOpen input.val (fun _ => opened) } }
      s1.tamperRecord (if opened then 1 else 2) (input.val + 1))

/-- The 8-byte record (R293). -/
def TamperRec.bytes (x : TamperRec) : Bytes :=
  let c := x.cal
  x.kind :: [c.second, c.minute, c.hour, c.day, c.month, c.year % 100, c.year / 100].map (fun n => BitVec.ofNat 8 (toBcd n))

/-- A log entry (R294): the record and its network-time stamp. -/
def TamperRec.entry (x : TamperRec) : Bytes := x.bytes ++ time64 x.net

/-- One record goes to the log and its archive stream, latches an opened input and raises its event (R294, R326). -/
def State.copyTamper (s : State) (x : TamperRec) : State :=
  let input := x.kind.toNat % 4
  let opened := x.kind.toNat / 4 % 4 == 1
  let s1 : State := { s with bill := { s.bill with
      tampLog := (x.entry :: s.bill.tampLog).take 1024
      tampLatch := if opened then s.bill.tampLatch ||| BitVec.ofNat 8 (2 ^ (input - 1)) else s.bill.tampLatch } }
  (s1.archive 2 0 (subjectWord 3 0) s1.billingNow x.entry).raise (0x147 + input) x.kind.toNat

/-- R294: on main power every record is copied, and the island's buffer emptied. -/
def execTamperLogCopy (s : State) : Result :=
  .next (if s.onBackup ∨ s.pwr.inReset = true then s
    else
      let l := s.bill.tampFirst ++ s.bill.tampLast
      l.foldl (fun t x => t.copyTamper x) { s with bill := { s.bill with tampFirst := [], tampLast := [] } })

/-- R299: command 0x7040:05 clears the latches of a mask. -/
def execClearTamperLatches (r : Req) (arg : Bytes) (s : State) : Result :=
  .next (s.command r 0x704005 arg (fun _ s =>
    .done { s with bill := { s.bill with tampLatch := s.bill.tampLatch &&& ~~~(BitVec.ofNat 8 (leNat arg)) } }))

/-- The used items of the list shown (R296). -/
def State.dispItems (s : State) : List Bytes :=
  ((List.range 32).map (fun i => s.cfgOct ((if s.bill.dispAlt then 0x703101 else 0x703001) + i))).filter (fun b => b != [])

/-- The display moves to an item. -/
def State.showItem (s : State) (i : Nat) : State := { s with bill := { s.bill with dispItem := i, dispChanged := true } }

/-- The next item of the list, round to the first. -/
def State.nextItem (s : State) : State := s.showItem ((s.bill.dispItem + 1) % max s.dispItems.length 1)

/-- R296: the dwell is over; while scrolling is stopped the item stays. -/
def execDisplayDwellExpiry (s : State) : Result := .next (if s.bill.dispHold ∨ s.onBackup = true then s else s.nextItem)

/-- R296: BTN_NEXT pressed. -/
def execBtnNextPress (s : State) : Result := .next (if s.onBackup then s else s.nextItem)

/-- R296: BTN_NEXT held for 3 s switches between the lists. -/
def execBtnNextHold (s : State) : Result :=
  .next (if s.onBackup then s
    else ({ s with bill := { s.bill with dispAlt := !s.bill.dispAlt } }).showItem 0)

/-- R296: BTN_HOLD pressed stops scrolling, or lets it go on. -/
def execBtnHoldPress (s : State) : Result :=
  .next (if s.onBackup then s else { s with bill := { s.bill with dispHold := !s.bill.dispHold, dispChanged := true } })

/-- R296: the hold limit has passed. -/
def execHoldLimitExpiry (s : State) : Result :=
  .next (if s.bill.dispHold then { s with bill := { s.bill with dispHold := false, dispChanged := true } } else s)

end Sys2Proof.Machine
end

