-- ==== Sys2Proof/Machine/Checkpoint.lean ====
section
/-! DEFINITION. Checkpoints and the restore of the application state (R331 to R333, R192 to R194). -/

namespace Sys2Proof.Machine

/-- Sequences of the open entries that are decided and whose effects are held wholly (R35, R192, R331). -/
def State.retirable (s : State) : List U64 :=
  (s.acc.journal.filter (fun e => e.isOpen && e.effected && !s.acc.deciding.any (fun d => d.seq == e.seq))).map (·.seq)

/-- A checkpoint of the period that ends begins (R331): the state at the boundary and the entries it lets retire. One still
in progress delays it: the later checkpoint carries both periods. None begins while PFW_N has fallen (R333) or the
storage island is held (R194), before the restore, or without NAND. -/
def State.startCheckpoint (s : State) : State :=
  let mark := (s.time.net, s.cas.periods, s.retirable)
  if s.pwr.pfw ∨ s.isUp 4 = false ∨ s.arch.restored = false ∨ s.arch.usable = [] then s
  else match s.arch.ckpt with
  | none =>
    let s1 := (List.range 9).foldl (fun t c => t.padStream (c + 1)) s
    { s1 with
      arch := { s1.arch with ckpt := some mark }
      bill := { s1.bill with snapshot := some s1.bill.app } }
  | some (t0, _, _) =>
    ({ s with
      arch := { s.arch with ckptDue := some mark, late := s.arch.late + 1 }
      bill := { s.bill with snapDue := some s.bill.app } }).raise 0x185 ((s.time.net - t0) / 1000 : Nat)

/-- Logical data unit of a checkpoint's content in the log region. -/
def logUnit (seq : U64) (i : Nat) : Nat := seq.toNat % 2 ^ 24 * 2 ^ 16 + i

/-- Before an entry retires, its context's values are kept outside the context store (R183): a pinned one's in its
snapshot, a remote one's in the meter table. -/
def State.keepContext (s : State) (h : Nat) : State :=
  match s.ctxOf h with
  | none => s
  | some c =>
    if c.remote then { s with acc := { s.acc with ctxMem := tblPut s.acc.ctxMem h { c with dirty := false } } }
    else { s with acc := { s.acc with snaps := tblPut s.acc.snaps h c } }

/-- Entries of a retire range retire, and space is reclaimed (R35, R189, R331). -/
def State.retire (s : State) (l : List U64) : State :=
  let kept := (s.acc.journal.filter (fun (e : JEntry) => e.isOpen && l.contains e.seq)).foldl
    (fun (t : State) (e : JEntry) => t.keepContext e.handle) s
  let s1 := { kept with acc := { kept.acc with
    journal := reclaim (s.acc.journal.map (fun (e : JEntry) => if l.contains e.seq then { e with isOpen := false } else e)) } }
  s1.journalMarks

/-- The bytes of a data unit of a checkpoint (R330): its header, with open numbers of its records and restore start, then records,
whose patches the model holds whole in the application state (log entry 71). -/
def State.ckptUnit (s : State) (q : U64) (at_ : Nat) (period : U32) (len i : Nat) : Bytes :=
  let n := 41 + i
  if i = 0 then
    leBytes 4 0x54504B43 ++ leBytes 4 len ++ leBytes 8 q.toNat ++ leBytes 4 period.toNat ++ time64 at_ ++
      openBytes n 12 s.opens ++ leBytes 4 0 ++ openBytes n 4048 (s.opens + 12)
  else openBytes n 4096 s.opens

/-- The unit stands in for a Head-end unit in Station profile (R30). -/
def State.standsIn (s : State) : Bool := !s.pwr.headEnd && s.pwr.recHeadEnd == some true

/-- The part of a restored application state that is loaded (R332): where a Station profile stands in for a Head-end, of the tables by
meter only what lies in the image pages of direct partners, 64 meters to a page. -/
def State.loaded (s : State) (d : AppState) : AppState :=
  let near := fun (h : Nat) => !s.standsIn || s.trust.pins.any (fun p => p / 64 == h / 64)
  { d with
    applied := d.applied.filter (fun p => near p.1), profiled := d.profiled.filter (fun p => near p.1)
    meters := d.meters.filter (fun p => near p.1), ledgers := d.ledgers.filter (fun p => near p.1) }

/-- A checkpointed state with the image pages that were never loaded, untouched (R332). -/
def State.withUnloaded (s : State) (d new : AppState) : AppState :=
  if s.standsIn = false then new
  else { new with
    applied := d.applied.foldl (fun t p => if (tblFind? t p.1).isSome then t else tblPut t p.1 p.2) new.applied
    profiled := d.profiled.foldl (fun t p => if (tblFind? t p.1).isSome then t else tblPut t p.1 p.2) new.profiled
    meters := d.meters.foldl (fun t p => if (tblFind? t p.1).isSome then t else tblPut t p.1 p.2) new.meters
    ledgers := d.ledgers.foldl (fun t p => if (tblFind? t p.1).isSome then t else tblPut t p.1 p.2) new.ledgers }

/-- Checkpoints older than the image cycle are needed by no restore (R330): with the commit of a sequence their data units in the log no
longer count (log entry 71). -/
def State.reclaimLog (s : State) (q : U64) : State :=
  let w := s.cfgN 0x801001
  { s with arch := { s.arch with map := s.arch.map.filter (fun p =>
      !(p.1 / 2 ^ 40 == 2 && decide (w < (q.toNat % 2 ^ 24 + 2 ^ 24 - p.1 % 2 ^ 40 / 2 ^ 16) % 2 ^ 24))) } }

/-- R331: a checkpoint's data units are programmed and read back. Where read-back finds one uncorrectable the whole is
written again as the next sequence; otherwise it is recorded in MRAM and the entries of its retire ranges retire; then the
period that waited begins. -/
def execCheckpointCommit (units : U16) (readsBack : Bool) (s : State) : Result :=
  .next (match (if s.isUp 4 ∧ s.allows 5 3 then s.arch.ckpt else none) with
    | none => s
    | some (t0, n, seqs) =>
      let q := s.arch.nextSeq
      let s1 := (List.range units.toNat).foldl (fun t i =>
        t.program 2 (logUnit q i) 5 0 (t.ckptUnit q t0 n (units.toNat * 4096) i)) s
      let s2 : State := { s1 with arch := { s1.arch with nextSeq := q + 1 } }
      if readsBack = false then s2
      else
        let s3 : State := { s2 with
          arch := { s2.arch with
            committed := some q, commitUs := (s2.time.net - t0) / 1000, ckpt := s2.arch.ckptDue, ckptDue := none }
          bill := { s2.bill with
            durable := s2.withUnloaded s2.bill.durable (s2.bill.snapshot.getD s2.bill.durable), snapshot := s2.bill.snapDue, snapDue := none } }
        ((s3.retire seqs).reclaimLog q).retryAppends)

/-- Items of flows other than delivered frames. -/
def notFrames (fl : Tbl (List Item)) : Tbl (List Item) := fl.map (fun p => (p.1, p.2.filter (fun x => x.kind != 1)))

/-- Open entries to be replayed, in sequence order (R194): keep-alives and MAC commands are not delivered. -/
def State.replayable (s : State) : List JEntry := s.acc.journal.filter (fun e => e.isOpen && !e.keepalive && !e.macCmd)

/-- A meter flow holds an entry's item. -/
def State.onFlow (s : State) (e : JEntry) : Bool :=
  (s.items (e.handle % 3072)).any (fun x => x.kind == 1 && x.ref == e.seq.toNat)

/-- The item an entry is delivered with when it is replayed, with its arrival number: its age counts from its acceptance
decision (R224). -/
def State.replayItem (s : State) (id : Nat) (e : JEntry) : Item :=
  { mkItem s 2 1 e.handle e.seq.toNat (decide (s.cfgN (0x902200 + linkSource e.link) = 2)) false with id := id, born := e.born }

/-- All open entries are on their flows again in sequence order, ahead of anything else of the flow (R194): an entry whose
item still waits there keeps its place (R215), every other one comes before it. -/
def State.replay (s : State) : State :=
  let l := s.replayable
  let gone := l.filter (fun e => !s.onFlow e)
  let n := gone.length
  let back := s.cas.flows.map (fun (p : Nat × List Item) => (p.1, p.2.map (fun x => { x with id := n + x.id })))
  let put := fun (fl : Tbl (List Item)) (x : Nat × JEntry) =>
    let f := x.2.handle % 3072
    tblPut fl f (s.replayItem x.1 x.2 :: tblGet [] fl f)
  let used := s.cas.inUse + n
  let s1 : State := { s with
    cas := { s.cas with
      flows := ((gone.zipIdx.map (fun (x : JEntry × Nat) => (x.2, x.1))).reverse).foldl put back
      cores := [none, none, none, none], inUse := used, nextId := n + s.cas.nextId }
    acc := { s.acc with replayed := BitVec.ofNat 32 l.length } }
  let s2 := gone.foldl (fun (t : State) e =>
    let q := t.queueOf (e.handle % 3072)
    let d := t.depth q
    { t with cas := { t.cas with queues := tblUpd {} t.cas.queues q (fun x => { x with peak := max x.peak d }) } }) s1
  s2.schedule

/-- What open entries did since the last committed checkpoint is undone with the application state (R35, R194). -/
def State.effectsUndone (s : State) : State :=
  { s with acc := { s.acc with journal := s.acc.journal.map (fun e =>
      if e.isOpen then { e with effected := e.keepalive || e.macCmd || e.apdu == some false } else e) } }

/-- R332, R194: after a reset the application state comes back from the last committed checkpoint; erases recorded as
started are done again; the controller may be ready; the journal is replayed and delivery starts. -/
def execStateRestore (s : State) : Result :=
  .next (if s.arch.restored = true ∨ s.pwr.inReset = true then s
    else
      let s1 : State := { s with
        bill := { s.bill with
          app := s.bill.app.over (s.loaded s.bill.durable), snapshot := none, snapDue := none }
        arch := { s.arch with
          restored := true, ckpt := none, ckptDue := none, rdy := s.arch.ccEn
          restoreMs := (s.time.mono - s.arch.restoreFrom) * 1000 / 32768 } }
      (s1.arch.erasing.foldl (fun t k => t.eraseBlock k) s1.effectsUndone).replay)

/-- The verdict of R200 on the delivered frame that a core's item processes: whether it is discarded. -/
def State.judgeRun (s : State) (core : Nat) : Bool × State :=
  match s.onCore core with
  | none => (false, s)
  | some (_, it, _) => if it.kind = 1 then s.judgeApdu (BitVec.ofNat 64 it.ref) else (false, s)

/-- The enqueues that the billing item of an applied reading asks for (R34, R206): on the meter's prepayment flow when the
meter is on prepayment, and on its profile flow. -/
def State.followOn (s : State) (core : Nat) : List (Nat × Nat × Nat × Nat) :=
  match s.onCore core with
  | none => []
  | some (f, it, _) =>
    let q := BitVec.ofNat 64 it.ref
    let reading := (it.work.isSome || s.holds it.key q) && (s.entryOf q).any (fun e => !e.unsecured)
    if it.kind ≠ 1 ∨ 0xC00 ≤ f ∨ reading = false then []
    else
      (if s.cfgN 0xC05401 it.key = 0 then [] else [(0xC2C + it.key % 16, 1, it.key, it.ref)]) ++
      [(0xC3C + it.key % 16, 1, it.key, it.ref)]

/-- R209, R213: a DONE release status: the item is finished, with the enqueues it asks for on later flows (flow, kind, key,
reference), and releases in arrival order. A frame whose APDU R200 discards has no effect, so no enqueue. The billing item
of a reading asks for its follow-on items itself (R34). -/
def execDone (core : Fin 4) (wants : List (BitVec 12 × U8 × Handle × U64)) (s : State) : Result :=
  let l := wants.map (fun (x : BitVec 12 × U8 × Handle × U64) => (x.1.toNat, x.2.1.toNat, x.2.2.1.toNat, x.2.2.2.toNat))
  let j := s.judgeRun core.val
  let own := j.2.followOn core.val
  .next (j.2.endRun core.val (fun x => { x with st := .finished true, wants := if j.1 then [] else own ++ l.filter (fun x => !own.contains x) })).releaseDone.showResults

/-- R209, R213: a FAIL release status: the item releases in order with no results and raises no event of its own. -/
def execFail (core : Fin 4) (s : State) : Result :=
  .next (s.endRun core.val (fun x => { x with st := .finished false, wants := [], work := none })).releaseDone.showResults

end Sys2Proof.Machine
end

