-- ==== Sys2Proof/Machine/Crossing.lean ====
section
/-! DEFINITION. The zero-crossing tracker (R74 to R78, R150): crossings of ZC_A, ZC_B and ZC_C, predicted crossings and the
cycle epoch. -/

namespace Sys2Proof.Machine

/-- Half width of the prediction window: 150 us (R150). -/
def zcWindow : Nat := 150000

/-- 1/65 s in ns, below which an interval implies a frequency outside the range (R74). -/
def zcShortest : Nat := 15384616

/-- 1/45 s in ns, the longest interval of a frequency in the range (R74). -/
def zcLongest : Nat := 22222222

/-- Network time is LOCKED or legal time is trusted: elapsed time across an outage is known (R77). -/
def State.trustedTime (s : State) : Bool := s.time.sync == .locked || !s.time.untrusted

/-- Latches of triggers that fired on a time target take effect at the first crossing stamped at or after the firing, whose
number is recorded (R93); a ninth pending latch is refused (R243). -/
def State.latchAwaited (s : State) (num : Cycle) (stamp : Nat) : State :=
  (s.time.trigLatch.filter (fun x => decide (x.2.2 ≤ stamp))).foldl (fun (t : State) (x : Nat × U16 × Nat) =>
    let t1 := { t with time := { t.time with triggers := tblUpd {} t.time.triggers x.1 (fun y => { y with resolved := num }) } }
    if 8 ≤ t1.weir.latches.length then t1
    else t1.setWeir (fun w => { w with latches := w.latches ++ [{ id := x.2.1, target := num }] }))
    { s with time := { s.time with trigLatch := s.time.trigLatch.filter (fun x => decide (stamp < x.2.2)) } }

/-- A crossing takes its number: it is entered in the table, counted, handed to the check channels, and a snapshot is
written at every 65,536th (R77, R79). DESIGN CHOICE (log entry 64): the 65,536th crossings are those whose number is a
multiple of 65,536, so that a re-lock whose number jumps over a multiple writes none. -/
def State.enterCrossing (s : State) (num : Cycle) (stamp : Nat) (estimated predicted relock : Bool) : State :=
  let c : Crossing := { num := num, stamp := stamp, offB := none, offC := none, notTraceable := s.time.sync ≠ .locked
                        estimated := estimated, predicted := predicted, relock := relock }
  (({ s with time := { s.time with
      cycle := num
      lastStamp := some stamp
      epochNext := none
      table := (c :: s.time.table).take 2048
      snap := if num.toNat % 65536 = 0 then some { num := num, stamp := stamp, period := s.time.period } else s.time.snap } }
    ).latchAwaited num stamp).weirCrossing num stamp predicted

/-- The number of the first crossing after reset or an epoch set, whether it is ESTIMATED, and whether ZC_SLIP is raised
because no displacement can be known (R77, R78). -/
def State.firstNumber (s : State) (stamp : Nat) : Cycle × Bool × Bool :=
  match s.time.epochNext with
  | some e => (e, false, false)
  | none =>
    match s.time.snap with
    | none => (0, false, false)
    | some k =>
      if s.trustedTime then
        (k.num + BitVec.ofInt 40 (max 1 (roundDiv ((stamp : Int) - k.stamp) (max k.period 1))), true, false)
      else (k.num + 1, true, true)

/-- Re-lock to a real crossing (R76, R150): the nearest predicted number, never below the last plus one; ZC_SLIP when it
lies more than 150 us from the prediction of that number. -/
def State.relock (s : State) (last stamp : Nat) : State :=
  let k : Nat := (max 1 (roundDiv ((stamp : Int) - last) (max s.time.period 1))).toNat
  let disp : Int := (stamp : Int) - ((last + k * s.time.period : Nat) : Int)
  let n := s.time.cycle + BitVec.ofNat 40 k
  let s1 := ({ s with time := { s.time with
      tracker := .locked, predictedRun := 0, zcSeen := false
      slips := (n, disp) :: s.time.slips.filter (fun x => decide (n.toNat < x.1.toNat + 16)) } }).enterCrossing
    n stamp false false true
  if zcWindow < disp.natAbs then s1.raise 0x048 (roundDiv disp 1000) else s1

/-- A disturbance (R150) changes only what the tracker has seen: the predicted crossing that follows it enters HOLDOVER
(R80), and a displaced phase is not an absent one (log entry 53). -/
def State.disturbedA (s : State) : State := { s with time := { s.time with zcSeen := true } }

/-- A crossing of ZC_A by its compensated stamp, judged in the tracker's state (R74 to R77, R150). In SEARCH one that comes
too early is a disturbance and changes nothing, and one after more than 1/45 s is entered with the next number, measures no
period and leaves the tracker searching (log entry 53). -/
def State.crossingA (s : State) (stamp : Nat) : State :=
  match s.time.tracker, s.time.lastStamp with
  | .search, none =>
    let n := s.firstNumber stamp
    let s1 := s.enterCrossing n.1 stamp n.2.1 false false
    if n.2.2 then s1.raise 0x048 0 else s1
  | .search, some last =>
    let d := stamp - last
    if zcShortest ≤ d ∧ d ≤ zcLongest then
      ({ s with time := { s.time with tracker := .locked, predictedRun := 0, zcSeen := false, everLocked := true, period := d, measured := true } }).enterCrossing
        (s.time.cycle + 1) stamp false false false
    else if d < zcShortest then s
    else s.enterCrossing (s.time.cycle + 1) stamp false false false
  | .locked, some last =>
    let disp : Int := (stamp : Int) - ((last + s.time.period : Nat) : Int)
    if stamp - last < zcShortest ∨ zcWindow < disp.natAbs then s.disturbedA
    else
      ({ s with time := { s.time with zcSeen := false, period := stamp - last, measured := true } }).enterCrossing
        (s.time.cycle + 1) stamp false false false
  | .holdover, some last =>
    let disp : Int := (stamp : Int) - ((last + s.time.period : Nat) : Int)
    if disp.natAbs ≤ zcWindow then s.relock last stamp
    else if s.time.predictedRun = 5 ∧ zcShortest ≤ stamp - last then s.relock last stamp
    else s.disturbedA
  | .absent, some last => s.relock last stamp
  | _, none => s

/-- A crossing of ZC_B or ZC_C judged against its own prediction (R150): none kept where it is disturbed; the sixth
disturbed one, or one after more than five missing, is taken. -/
def judgePhase (period : Nat) (own : Option (Nat × Nat)) (stamp : Nat) : Option (Nat × Nat) × Bool :=
  match own with
  | none => (some (stamp, 0), true)
  | some (last, run) =>
    let k : Nat := (max 1 (roundDiv ((stamp : Int) - last) (max period 1))).toNat
    let disp : Int := (stamp : Int) - ((last + k * period : Nat) : Int)
    if (zcWindow < disp.natAbs ∨ stamp - last < zcShortest) ∧ run < 5 ∧ k ≤ 5 then (some (last, run + 1), false)
    else (some (stamp, 0), true)

/-- The offset of a phase entered with the newest crossing of the table (R79), where it has none yet. -/
def withOffset (ph stamp : Nat) : List Crossing → List Crossing
  | [] => []
  | c :: rest =>
    let off : Int := (stamp : Int) - (c.stamp : Int)
    (if ph = 1 then { c with offB := some (c.offB.getD off) } else { c with offC := some (c.offC.getD off) }) :: rest

/-- The offset of a phase from the newest ZC_A crossing, kept since reset as the reference-phase anchor falls back on it
(R141). -/
def State.keepOffset (s : State) (ph stamp : Nat) : State :=
  match s.time.table with
  | [] => s
  | c :: _ =>
    let off : Int := (stamp : Int) - (c.stamp : Int)
    { s with time := { s.time with
        lastB := if ph = 1 then some off else s.time.lastB
        lastC := if ph = 1 then s.time.lastC else some off } }

/-- A crossing of ZC_B (1) or ZC_C (2); neither affects the cycle number (R150). -/
def State.crossingPhase (s : State) (ph stamp : Nat) : State :=
  let j := judgePhase s.time.period (if ph = 1 then s.time.zcB else s.time.zcC) stamp
  let s1 := { s with time := { s.time with
      zcB := if ph = 1 then j.1 else s.time.zcB
      zcC := if ph = 1 then s.time.zcC else j.1 } }
  if j.2 then
    (({ s1 with time := { s1.time with table := withOffset ph stamp s1.time.table } }).keepOffset ph stamp).weirPhase ph stamp
  else s1

/-- R74, R150: an edge on ZC_A, ZC_B or ZC_C (0-2) with its stamp at the ball and the width of its pulse in us. A pulse
shorter than the minimum is a glitch; the input's delay compensation is taken off the stamp. -/
def execZcCrossing (input : Fin 3) (stamp width : Nat) (s : State) : Result :=
  let at_ := ((stamp : Int) - s.cfgI 4 (0x310001 + input.val)).toNat
  let s1 := s.atNet stamp
  .next (if s.pwr.inReset = true ∨ width < s.cfgN 0x310004 then s
    else if input = 0 then s1.crossingA at_ else s1.crossingPhase input.val at_)

/-- A predicted crossing takes the next number one period after the last (R75, R76). -/
def State.enterPredicted (s : State) (next : Tracker) (run last : Nat) : State :=
  let stamp := last + s.time.period
  ({ (s.atNet stamp) with time := { (s.atNet stamp).time with tracker := next, predictedRun := run } }).enterCrossing
    (s.time.cycle + 1) stamp false true false

/-- R75, R76, R80, R150: the expected crossing is missing one predicted period plus 150 us after the last one: a predicted
entry takes the next number, at most five in HOLDOVER. The sixth is awaited where disturbed crossings were seen, since the
tracker re-locks to a displaced phase; where it does not come, the tracker is ABSENT (log entry 53). -/
def execZcPredictedCrossing (s : State) : Result :=
  .next (if s.pwr.inReset = true then s else match s.time.tracker, s.time.lastStamp with
    | .search, _ => s
    | _, none => s
    | .locked, some last => s.enterPredicted .holdover 1 last
    | .holdover, some last =>
      if s.time.predictedRun < 5 then s.enterPredicted .holdover (s.time.predictedRun + 1) last
      else if s.time.zcSeen then
        { (s.atNet (last + s.time.period)) with time := { (s.atNet (last + s.time.period)).time with zcSeen := false } }
      else s.enterPredicted .absent 5 last
    | .absent, some last => s.enterPredicted .absent s.time.predictedRun last)

/-- The cycle epoch (R78): the next real crossing takes the number; the table is cleared and the tracker searches. -/
def State.setEpoch (s : State) (n : Cycle) : State :=
  ({ s with time := { s.time with
      epochNext := some n, slips := [], table := [], tracker := .search, lastStamp := none, predictedRun := 0, zcSeen := false } }).raise 0x049
    (n.toNat % 2 ^ 32)

/-- A trigger with a cycle target is armed (R78). -/
def State.cycleTriggerArmed (s : State) : Bool :=
  s.time.triggers.any (fun p => p.2.st == .armed && s.cfgN (0x330003 + 256 * p.1) == 2)

/-- Command 0x3100:0A (R78): the new epoch is mirrored before success is reported. -/
def State.setEpochCmd (s : State) (r : Req) (arg : Bytes) : State :=
  s.command r 0x31000A arg (fun _ s =>
    if 2 ^ 40 ≤ leNat arg then .refuse .valueInvalid s
    else if s.orderOut ∨ s.cycleTriggerArmed = true then .refuse .deviceBusy s
    else .done ((s.setEpoch (BitVec.ofNat 40 (leNat arg))).mirror .configuration 0x31000A arg))

/-- R78: command 0x3100:0A sets the cycle epoch. -/
def execSetCycleEpoch (r : Req) (arg : Bytes) (s : State) : Result := .next (s.setEpochCmd r arg)

end Sys2Proof.Machine
end

