-- ==== Sys2Proof/Machine/GroupRules.lean ====
section
/-! DEFINITION. When a set of values of a consistency group is consistent (R54, R58), group by group, and the checks a
single write must pass beside its type and range. -/

namespace Sys2Proof.Machine

/-- A prospective reading of the dictionary: the bytes an item would hold. -/
abbrev Reading := Nat → Nat → Bytes

/-- The reading that a commit of a group checks: pending values, and active values where none is pending (R54). -/
def State.prospective (s : State) : Reading := fun num inst =>
  (tblFind? s.dict.pend (storeKey num inst)).getD (s.stored num inst)

/-- A prospective number. -/
def rdN (rd : Reading) (num : Nat) (inst : Nat := 0) : Nat := leNat (rd num inst)

/-- R71: every CAN FD data rate at least the nominal rate. -/
def groupCan (rd : Reading) : Bool := decide (rdN rd 0x104002 ≤ rdN rd 0x104003)

/-- R108: used starts strictly ascending, and every unused entry after the last used one; k entries from number i. -/
def dstOrdered (rd : Reading) : Nat → Nat → Nat → Bool
  | 0, _, _ => true
  | k + 1, i, prev =>
    let st := rdN rd (0x340000 + i)
    if st = 0 then (List.range k).all (fun j => rdN rd (0x340000 + (i + 1 + j)) == 0)
    else decide (prev < st) && dstOrdered rd k (i + 1) st

/-- R221: shares of accounts 1 to 15 of one resource (subindex) sum to 1,024 or less. -/
def sharesOk (rd : Reading) (sub : Nat) : Bool :=
  decide ((List.range 15).foldl (fun a i => a + rdN rd ((0x9101 + i) * 256 + sub)) 0 ≤ 1024)

/-- R221: the set of group 0x1D. A queue whose target is zero is unbound; an account is named by every bound queue. -/
def groupSluice (rd : Reading) : Bool :=
  sharesOk rd 1 && sharesOk rd 2 && sharesOk rd 3 && sharesOk rd 4 &&
  decide (128 ≤ rdN rd 0x910102) &&
  (List.range 256).all (fun q =>
    decide (rdN rd 0x901103 q = 0 ↔ rdN rd 0x901101 q = 0) && decide (rdN rd 0x901104 q ≤ 49152)) &&
  decide ((List.range 256).foldl (fun a q => a + (if rdN rd 0x901105 q = 0 then 0 else rdN rd 0x901104 q)) 0 ≤ 40960)

/-- Two frequency bands in Hz do not overlap. -/
def bandsApart (lo hi lo' hi' : Nat) : Bool := decide (hi < lo') || decide (hi' < lo)

/-- Band of an OFDM generation in Hz (R137, R138); PRIME channels by the standard's spacing (log entry 14). -/
def ofdmBand (gen channel : Nat) : Nat × Nat :=
  if gen = 1 then (35900, 90600)
  else if gen = 3 then (41992 + 54688 * (channel - 1), 88867 + 54688 * (channel - 1))
  else (154700, 487500)

/-- R138, R155: the set of a power-line port: tone spacing, bands that do not overlap, backoff exponents in order, and the
keys that the selected generation needs. -/
def groupPl (rd : Reading) (p : Nat) : Bool :=
  let n := fun blk sub => rdN rd ((0x4000 + 16 * p + blk) * 256 + sub)
  let mark := n 0 1
  let space := n 0 2
  let gen := n 1 1
  let b := ofdmBand gen (n 5 2)
  decide (mark + 2000 ≤ space) && decide (space ≤ mark + 20000) &&
  (n 1 2 == 0 || gen == 0 || bandsApart (min mark space - 5000) (max mark space + 5000) b.1 b.2) &&
  decide (n 6 6 ≤ n 6 7) && decide (n 6 7 ≤ n 6 8) &&
  !((gen == 1 || gen == 2) && n 4 3 == 0) && !(gen == 3 && n 5 4 == 0) && !(gen == 4 && n 6 9 == 0)

/-- The items of a transceiver script (R158): bytes transferred, transfers, microseconds waited; none where its form is
wrong. n bounds the items. -/
def scriptRun : Nat → Bytes → Option (Nat × Nat × Nat)
  | _, [] => some (0, 0, 0)
  | 0, _ => none
  | k + 1, c :: rest =>
    let n := fieldAt rest 0 1
    if c = 2 then
      if n = 0 then none else (scriptRun k (rest.drop 1)).map (fun x => (x.1, x.2.1, x.2.2 + n))
    else if c = 1 ∨ c = 3 ∨ c = 4 then
      if n = 0 ∨ 32 < n ∨ (c = 3 ∧ n < 2) ∨ rest.length < 1 + n then none
      else (scriptRun k (rest.drop (1 + n))).map (fun x => (x.1 + n, x.2.1 + 1, x.2.2))
    else none

/-- R158, R159, R161, R178: the set of a radio port: scripts, transmit script within its lead, latencies, mode set, backoff
exponents, rate and keys. -/
def groupRf (rd : Reading) (q : Nat) : Bool :=
  let num := fun blk sub => (0x4100 + 16 * q + blk) * 256 + sub
  let n := fun blk sub => rdN rd (num blk sub)
  let script := fun k => (rd (num 2 k) 0).drop 2
  let gen := n 0 1
  let modes := n 4 1
  (List.range 5).all (fun i => (scriptRun 64 (script (i + 1))).isSome) &&
  (match scriptRun 64 (script 3) with
   | none => false
   | some x => script 3 == [] || decide (x.1 * 8000000000 / max (n 1 1) 1 + x.2.2 * 1000 + x.2.1 * 500 + 2000 ≤ n 1 4 * 1000)) &&
  decide (n 1 2 + n 1 3 + n 1 4 ≤ 100) &&
  (gen != 1 || modes == 1 || modes == 2 || modes == 4 || modes == 8 || modes == 6) &&
  decide (n 5 3 ≤ n 5 2) && decide (n 6 4 ≤ n 6 5) && decide (n 6 5 ≤ n 6 6) &&
  !((gen == 2 || gen == 3) && n 3 2 == 0) && !(gen == 2 && n 5 5 == 0) && !(gen == 3 && n 6 3 == 0)

/-- R204: the high-water mark lies below the admission limit. -/
def groupJournal (rd : Reading) : Bool := decide (rdN rd 0x501002 < rdN rd 0x501001)

end Sys2Proof.Machine
end

