-- ==== Sys2Proof/Machine/Consistency.lean ====
section
/-! DEFINITION. Consistency of the groups whose rule looks at several items: Ethernet and serial ports (R443), check channels
and feeders (R230, R238), segments (R251, R252, R269), tariff tables (R108, R278), prepayment (R318), load groups (R319) and
the NAND's regions (R326); and the rule of each group by number (R56). -/

namespace Sys2Proof.Machine

/-- Items of an object that hold a pending or a stored value, each once. -/
def State.itemsOf (s : State) (num : Nat) : List Nat :=
  (((s.dict.pend ++ s.dict.vals).filter (fun (p : Nat × Bytes) => p.1 / 2 ^ 64 == num)).map
    (fun (p : Nat × Bytes) => p.1 % 2 ^ 64)).eraseDups

/-- R443: a 1000BASE-X port negotiates or runs at 1,000 Mbit/s. -/
def groupEth (rd : Reading) : Bool :=
  (List.range 4).all (fun (e : Nat) =>
    rdN rd ((0x4200 + 16 * e) * 256 + 2) != 2 ||
    [0, 3].contains (rdN rd ((0x4200 + 16 * e) * 256 + 3)))

/-- R443: a meter on a local-network port has an HDLC address. -/
def State.groupSerial (s : State) (rd : Reading) : Bool :=
  (s.itemsOf 0xC02201).all (fun (h : Nat) =>
    let p := rdN rd 0xC02201 h
    !(decide (8 ≤ p) && decide (p ≤ 15)) || rdN rd 0xC02202 h != 0)

/-- Largest permitted rated input of a range code in mV rms (R230). -/
def ratedLimit (range : Nat) : Nat := 480 / 2 ^ range

/-- R230, R249: the rated input of a channel in use, rated primary value over ratio, lies within the limit of its range, and it
carries a phase. -/
def channelOk (rd : Reading) (c : Nat) : Bool :=
  let q := F64.ratio (BitVec.ofNat 64 (rdN rd 0x601104 c))
  rdN rd 0x601101 c == 0 || rdN rd 0x601109 c != 0 && decide (((rdN rd 0x601105 c * q.2 : Nat) : Int) ≤ q.1 * ((ratedLimit (rdN rd 0x601103 c) : Nat) : Int))

/-- The places of a feeder type: subindex of 0x6021, the channel type it takes, the phase it carries, and whether it may
stay empty (R238). -/
def feederPlaces (type : Nat) : List (Nat × Nat × Nat × Bool) :=
  if type = 1 then [(2, 1, 0, false), (5, 2, 0, false)]
  else if type = 2 then [(2, 1, 0, false), (4, 1, 0, false), (5, 2, 0, false), (7, 2, 0, false)]
  else if type = 3 then
    [(2, 1, 1, false), (3, 1, 2, false), (4, 1, 3, false), (5, 2, 1, false), (6, 2, 2, false), (7, 2, 3, false),
     (8, 2, 4, true)]
  else []

/-- R238: one feeder set. The two channels of a type 1 feeder carry one phase, A, B or C. -/
def feederOk (rd : Reading) (f : Nat) : Bool :=
  let type := rdN rd 0x602101 f
  let places := feederPlaces type
  type == 0 ||
  ((List.range 7).all (fun (i : Nat) =>
    let c := rdN rd (0x602102 + i) f
    match places.find? (fun (x : Nat × Nat × Nat × Bool) => x.1 == i + 2) with
    | none => c == 255
    | some x =>
      if c = 255 then x.2.2.2
      else rdN rd 0x601101 c == x.2.1 && (x.2.2.1 == 0 || rdN rd 0x601109 c == x.2.2.1)) &&
   (type != 1 ||
    (rdN rd 0x601109 (rdN rd 0x602102 f) == rdN rd 0x601109 (rdN rd 0x602105 f) &&
     rdN rd 0x601109 (rdN rd 0x602102 f) != 4)))

/-- The current channels a feeder in use names. -/
def feederCurrents (rd : Reading) (f : Nat) : List Nat :=
  if rdN rd 0x602101 f = 0 then []
  else ((List.range 4).map (fun (i : Nat) => rdN rd (0x602105 + i) f)).filter (fun (c : Nat) => c != 255)

/-- No value occurs twice. -/
def allApart : List Nat → Bool
  | [] => true
  | x :: xs => !xs.contains x && allApart xs

/-- R230, R238: the set of group 0x1E. -/
def groupChannels (rd : Reading) : Bool :=
  (List.range 128).all (channelOk rd) && (List.range 64).all (feederOk rd) &&
  allApart ((List.range 64).flatMap (feederCurrents rd))

/-- What a segment asks of its feeder (R252), against the active set of group 0x1E. -/
def State.segFeederOk (s : State) (rd : Reading) (g : Nat) : Bool :=
  let kind := rdN rd 0x611101 g
  let f := rdN rd 0x611102 g
  let type := s.cfgN 0x602101 f
  if kind = 1 then type != 0
  else if kind = 2 then rdN rd 0x611103 g != 0 && (type == 3 || (type == 1 && s.cfgN 0x601109 (s.cfgN 0x602102 f) == rdN rd 0x611103 g))
  else true

/-- Two segments share a feeder as R252 allows: neither names one, they name different ones, or each serves a phase of its
own. -/
def feedersApart (rd : Reading) (g h : Nat) : Bool :=
  let kg := rdN rd 0x611101 g
  let kh := rdN rd 0x611101 h
  !([1, 2].contains kg && [1, 2].contains kh) || rdN rd 0x611102 g != rdN rd 0x611102 h ||
  (kg == 2 && kh == 2 && rdN rd 0x611103 g != rdN rd 0x611103 h)

/-- The check meter that a kind 3 segment names. -/
def checkOf (rd : Reading) (g : Nat) : Option Nat := if rdN rd 0x611101 g = 3 then some (rdN rd 0x611104 g) else none

/-- R251: a pending value of a suspended segment, or of a membership that is or would become one of it. -/
def State.touchesSuspended (s : State) : Bool :=
  s.dict.pend.any (fun (p : Nat × Bytes) =>
    let num := p.1 / 2 ^ 64
    let i := p.1 % 2 ^ 64
    let seg := fun (n : Nat) => decide (s.segCapacity ≤ n) && n != 0xFFFF
    (decide (0x611101 ≤ num) && decide (num ≤ 0x611107) && decide (s.segCapacity ≤ i)) ||
    (num == 0xC04001 && (seg (leNat p.2) || seg (leNat (s.stored num i)))))

/-- R251, R252, R269: the set of group 0x1F. -/
def State.groupSegments (s : State) (rd : Reading) : Bool :=
  let segs := (s.itemsOf 0x611101).filter (fun (g : Nat) => rdN rd 0x611101 g != 0)
  let members := (s.itemsOf 0xC04001).filter (fun (h : Nat) => s.inUse h && rdN rd 0xC04001 h != 0xFFFF)
  let checks := segs.filterMap (checkOf rd)
  !s.touchesSuspended &&
  members.all (fun (h : Nat) => rdN rd 0x611101 (rdN rd 0xC04001 h) != 0) &&
  segs.all (fun (g : Nat) =>
    decide ((members.filter (fun (h : Nat) => rdN rd 0xC04001 h == g)).length ≤ 256) && s.segFeederOk rd g &&
    segs.all (fun (k : Nat) => k == g || feedersApart rd g k)) &&
  allApart checks && checks.all (fun (h : Nat) => !members.contains h) &&
  decide (rdN rd 0x610003 < rdN rd 0x610002) && decide (rdN rd 0x610004 < rdN rd 0x610002) &&
  decide (rdN rd 0x610005 < rdN rd 0x610004)

/-- Content of an OCTETS value in a prospective set. -/
def rdOct (rd : Reading) (num inst : Nat) : Bytes := (rd num inst).drop 2

/-- Days of a month; 29 February is a day (R277). -/
def monthLength (m : Nat) : Nat := if m = 2 then 29 else if [4, 6, 9, 11].contains m then 30 else 31

/-- R278: seasons from one on: valid dates, strictly ascending, none after an unused one, each naming a used week profile. -/
def seasonsOk (rd : Reading) (t : Nat) : Nat → Nat → Nat → Bool → Bool
  | 0, _, _, _ => true
  | k + 1, i, prev, gap =>
    let e := rdOct rd (0x701201 + i) t
    if e = [0, 0, 0] then seasonsOk rd t k (i + 1) prev true
    else
      let m := fieldAt e 0 1
      let d := fieldAt e 1 1
      let w := fieldAt e 2 1
      !gap && decide (1 ≤ m) && decide (m ≤ 12) && decide (1 ≤ d) && decide (d ≤ monthLength m) &&
      decide (prev < m * 100 + d) && decide (1 ≤ w) && decide (w ≤ 8) &&
      (rdOct rd (0x701300 + w) t).any (fun (b : Byte) => b != 0) && seasonsOk rd t k (i + 1) (m * 100 + d) false

/-- R278: a used week profile names used day profiles. -/
def weekOk (rd : Reading) (t w : Nat) : Bool :=
  let e := rdOct rd (0x701301 + w) t
  !e.any (fun (b : Byte) => b != 0) ||
  e.all (fun (b : Byte) => decide (1 ≤ b.toNat) && decide (b.toNat ≤ 32) && rdOct rd (0x701400 + b.toNat) t != [])

/-- R278: the switching points of a used day profile from one on. -/
def pointsOk : Nat → Bytes → Option Nat → Bool
  | _, [], _ => true
  | 0, _, _ => false
  | n + 1, b, prev =>
    let m := fieldAt b 0 2
    let r := fieldAt b 2 1
    decide (3 ≤ b.length) && (match prev with | none => m == 0 | some p => decide (p < m)) && decide (m ≤ 1439) &&
    decide (1 ≤ r) && decide (r ≤ 8) && pointsOk n (b.drop 3) (some m)

/-- The dates of a table's used special days, as one number each (R278). -/
def specialDates (rd : Reading) (t : Nat) : List Nat :=
  (List.range 256).filterMap (fun (i : Nat) =>
    let e := rdOct rd (if i < 128 then 0x701501 + i else 0x701601 + (i - 128)) t
    if fieldAt e 4 1 = 0 then none else some (fieldAt e 0 4))

/-- R278: one tariff table. -/
def tableOk (rd : Reading) (t : Nat) : Bool :=
  seasonsOk rd t 12 0 0 false && (List.range 8).all (weekOk rd t) &&
  (List.range 32).all (fun (d : Nat) => pointsOk 16 (rdOct rd (0x701401 + d) t) none) && allApart (specialDates rd t)

/-- R108, R278: the set of group 0x20. -/
def State.groupTariff (s : State) (rd : Reading) : Bool :=
  let named := (List.range 64).map (fun (f : Nat) => rdN rd 0x702101 f) ++
    (s.itemsOf 0xC05001).map (fun (h : Nat) => rdN rd 0xC05001 h)
  dstOrdered rd 64 1 0 && (List.range 16).all (tableOk rd) &&
  (List.range 16).all (fun (t : Nat) =>
    !named.contains t || (List.range 12).any (fun (i : Nat) => rdOct rd (0x701201 + i) t != [0, 0, 0]))

/-- R318: three amounts are each 0 or above. -/
def groupPrepay (rd : Reading) : Bool := [0x705001, 0x705002, 0x705005].all (fun (n : Nat) => decide (rdN rd n < 2 ^ 63))

/-- R319: an enabled load group has a script table and both script identifiers. -/
def groupLoads (rd : Reading) : Bool :=
  (List.range 32).all (fun (g : Nat) =>
    rdN rd 0x706101 g == 0 ||
    ((rdOct rd 0x706102 g).any (fun (b : Byte) => b != 0) && rdN rd 0x706103 g != 0 && rdN rd 0x706104 g != 0))

/-- Bytes the money classes hold: classes 1 to 6 (R327, R329). -/
def State.moneyBytes (s : State) : Nat := ((List.range 6).map (fun (c : Nat) => s.heldBytes (c + 1))).foldl (· + ·) 0

/-- R326: the set of group 0x23. Sizes are compared in bytes; a page holds 16,384 of them. -/
def State.groupRegions (s : State) (rd : Reading) : Bool :=
  let mib := 1048576
  let block := s.arch.geo.pages * 16384
  let arch := rdN rd 0x800201
  let log := rdN rd 0x800202
  let hv := rdN rd 0x800203
  decide ((arch + log) * mib + hv * 1024 * mib * 107 / 100 + s.arch.reserve * block ≤ s.arch.poolBlocks * block) &&
  decide ((if s.pwr.headEnd then 4096 else 2048) ≤ log) && decide (archiveFloor s.pwr.headEnd s.pwr.ctxGib ≤ arch) &&
  (s.pwr.headEnd || (decide (arch ≤ 65536) && decide (hv ≤ 64))) && decide (hv ≤ 512) &&
  !(hv != s.cfgN 0x800203 && s.cfgB 0x804001 && rdN rd 0x804001 != 0) && decide (s.moneyBytes ≤ arch * mib)

/-- Whether the values a group would have are consistent (R54, R56, R58). -/
def State.groupOk (s : State) (g : Nat) : Bool :=
  let rd := s.prospective
  if g = 0 then groupCan rd
  else if g ≤ 0x0C then groupPl rd (g - 1)
  else if g ≤ 0x18 then groupRf rd (g - 0x0D)
  else if g = 0x19 then groupEth rd
  else if g = 0x1A then s.groupSerial rd
  else if g = 0x1D then groupSluice rd
  else if g = 0x1E then groupChannels rd
  else if g = 0x1F then s.groupSegments rd
  else if g = 0x20 then s.groupTariff rd
  else if g = 0x21 then groupPrepay rd
  else if g = 0x22 then groupLoads rd
  else if g = 0x23 then s.groupRegions rd
  else if g = 0x24 then groupJournal rd
  else true

end Sys2Proof.Machine
end

