-- ==== Sys2Proof/Machine/Nvme.lean ====
section
/-! DEFINITION. The Host Volume, an NVMe 1.4 controller (R341 to R344), and the storage keys (R337). Status codes are those
of the named standard, status code type x 256 + status code (log entry 23). -/

namespace Sys2Proof.Machine

/-- Complete an NVMe command (R341). -/
def State.nvDone (s : State) (c : NvCmd) (status : Nat) (data : Bytes := []) : State := s.emit (.nvme c.queue c.cid status data)

/-- LBAs of the Host Volume in force (R341, R347). -/
def State.hvBlocks (s : State) : Nat := s.cfgN 0x800203 * 262144

/-- The namespace is presented (R341): enabled, of some size, and the link trained. -/
def State.hvPresent (s : State) : Bool := s.cfgB 0x804001 && s.link.pcie && s.hvBlocks != 0

/-- Map pages of the Host Volume: 4,096 entries each (R330). -/
def State.hvPages (s : State) : Nat := (s.hvBlocks + 4095) / 4096

/-- One storage key (R337): the KDF of R113 under slot 1 with a label and extra fixed input. -/
def State.storageSlot (s : State) (n usage : Nat) (label : String) (extra : Bytes) : State :=
  match s.slotKey 1 with
  | none => s
  | some st => s.setSlot n ⟨mkAttr usage 2 1 (s.slot n).gen (s.slot 1).gen 1 false,
      Config.kdf384 st (s.rootInput label ++ extra) 256⟩

/-- The Host Volume keys of the generation in force (R337). -/
def State.hostKeys (s : State) : State :=
  let g := beBytes 4 s.arch.keyGen.toNat
  (s.storageSlot 18 4 "AN7128 HX1" g).storageSlot 19 4 "AN7128 HX2" g

/-- The storage keys of a start-up (R337). -/
def State.storageKeys (s : State) : State :=
  let d := s.draw
  (((s.storageSlot 16 4 "AN7128 AX1" []).storageSlot 17 4 "AN7128 AX2" []).hostKeys).storageSlot 20 1 "AN7128 HMB"
    (leBytes 16 d.1.toNat) |> fun t => { t with dict := { t.dict with draws := d.2.dict.draws } }

/-- Data units the write buffer holds (R342): 16 KiB x planes x targets, at most 256 KiB, in 4 KiB units. -/
def State.stripe (s : State) : Nat := min 64 (4 * s.arch.geo.planes * s.arch.usable.length)

/-- The write buffer is programmed, oldest first (R342): later data of an LBA wins. -/
def State.programBuffer (s : State) : State :=
  let s1 := s.arch.wbuf.foldl (fun t w =>
    let t1 := t.program 4 w.lba 12 0 w.data
    { t1 with arch := { t1.arch with hvData := tblPut t1.arch.hvData w.lba w.data } }) s
  { s1 with arch := { s1.arch with wbuf := [] } }.checkPool

/-- R342: the buffer is programmed at a full stripe or 1 ms after its oldest data arrived, by a storage island that runs (R25) and
with NAND balance of HOSTVOL (R219). -/
def execWriteBufferProgram (s : State) : Result := .next (if s.isUp 4 ∧ s.allows 12 3 then s.programBuffer else s)

/-- An I/O command cannot run (R341): its status, or none. -/
def State.ioRefuses (s : State) (c : NvCmd) : Option Nat :=
  if s.hvPresent = false ∨ c.nsid ≠ 1 then some 0x0B
  else if s.arch.restored = false then some 0x82
  else none

/-- The controller fetches from a queue: it is ready, and the queue exists (R341). -/
def State.fetches (s : State) (c : NvCmd) : Bool := s.arch.rdy && (c.queue == 0 || (tblFind? s.arch.sqs c.queue).isSome)

/-- A fetched command waits for the storage island (R25). -/
def State.nvHold (s : State) (i : Instr) : State := { s with arch := { s.arch with nvWait := s.arch.nvWait ++ [i] } }

/-- A command of the host is fetched and carried out; while the storage island is held (R25, R341) or HOSTVOL has no NAND balance
(R219), it waits, and those behind it (R342). -/
def State.nvRun (s : State) (c : NvCmd) (i : Instr) (t : State) : State :=
  if !s.fetches c then s
  else if s.isUp 4 = false ∨ s.allows 12 3 = false ∨ s.arch.nvWait ≠ [] then s.nvHold i
  else t

/-- What an LBA reads as: the write buffer's newest data, the data stored, or, unmapped, open bytes (R342, R343). -/
def State.readLba (s : State) (lba : Nat) : Bytes × State :=
  match s.arch.wbuf.reverse.find? (fun w => w.lba == lba) with
  | some w => (w.data, s)
  | none =>
    match tblFind? s.arch.hvData lba with
    | some d =>
      let k := tblGet 0 s.arch.map (mapKey 4 lba) / 2 ^ 14
      let s1 := s.charge 12 3 1
      (d, { s1 with arch := { s1.arch with blocks := tblUpd {} s1.arch.blocks k (fun b => { b with reads := b.reads + 1 }) } })
    | none => (openBytes 40 4096 s.opens, { s with opens := s.opens + 4096 })

/-- R341, R343: Read returns data through the map; a data unit found uncorrectable ends it with Unrecovered Read Error
(R323). -/
def execNvmeRead (c : NvCmd) (lba : Nat) (count : U16) (uncorrectable : Bool) (s : State) : Result :=
  .next (s.nvRun c (.nvmeRead c lba count uncorrectable) (
    match s.ioRefuses c with
    | some st => s.nvDone c st
    | none =>
      let n := count.toNat
      if s.hvBlocks < lba + n then s.nvDone c 0x80
      else if uncorrectable then s.nvDone c 0x281
      else
        let r := (List.range n).foldl (fun (acc : Bytes × State) i =>
          let x := acc.2.readLba (lba + i)
          (acc.1 ++ x.1, x.2)) (([] : Bytes), s)
        r.2.nvDone c 0 r.1))

/-- Data enters the write buffer, which is programmed once it holds a full stripe (R342). -/
def State.bufferWrite (s : State) (lba : Nat) (data : Bytes) : State :=
  let s1 : State := { s with arch := { s.arch with wbuf := s.arch.wbuf ++ [{ lba := lba, data := data, born := s.time.mono }] } }
  if s.stripe ≤ s1.arch.wbuf.length then s1.programBuffer else s1

/-- R342: Write completes once its data is in the buffer, with FUA after it has been programmed; a read-only volume takes
none (R340). -/
def execNvmeWrite (c : NvCmd) (lba : Nat) (data : List Bytes) (fua : Bool) (s : State) : Result :=
  .next (s.nvRun c (.nvmeWrite c lba data fua) (
    match s.ioRefuses c with
    | some st => s.nvDone c st
    | none =>
      if s.hvBlocks < lba + data.length then s.nvDone c 0x80
      else if s.arch.readOnly then s.nvDone c 0x20
      else
        let s1 := data.zipIdx.foldl (fun t x => t.bufferWrite (lba + x.2) x.1) s
        (if fua then s1.programBuffer else s1).nvDone c 0))

/-- R342: Flush programs the write buffer. -/
def execNvmeFlush (c : NvCmd) (s : State) : Result :=
  .next (s.nvRun c (.nvmeFlush c) (
    match s.ioRefuses c with
    | some st => s.nvDone c st
    | none => s.programBuffer.nvDone c 0))

/-- An LBA is unmapped (R343). -/
def State.unmapLba (s : State) (lba : Nat) : State :=
  { s with arch := { s.arch with
      hvData := tblDel s.arch.hvData lba
      map := tblDel s.arch.map (mapKey 4 lba)
      wbuf := s.arch.wbuf.filter (fun w => w.lba != lba) } }

/-- R343: Dataset Management with the deallocate attribute unmaps its ranges; other attributes, and a range of length
zero (R18), are ignored. -/
def execNvmeDatasetManagement (c : NvCmd) (deallocate : Bool) (ranges : List (Nat × Nat)) (s : State) : Result :=
  .next (s.nvRun c (.nvmeDatasetManagement c deallocate ranges) (
    match s.ioRefuses c with
    | some st => s.nvDone c st
    | none =>
      if ranges.any (fun r => r.2 != 0 && decide (s.hvBlocks < r.1 + r.2)) then s.nvDone c 0x80
      else
        let inside := fun (a : Nat) => ranges.any (fun r => decide (r.1 ≤ a) && decide (a < r.1 + r.2))
        let gone := ((s.arch.hvData.map (·.1)) ++ s.arch.wbuf.map (·.lba)).filter inside
        (if deallocate then gone.foldl (fun t l => t.unmapLba l) s else s).nvDone c 0))

/-- Every LBA is unmapped and the key generation moves on (R337, R341). -/
def State.eraseVolume (s : State) : State :=
  ({ s with arch := { s.arch with
      keyGen := s.arch.keyGen + 1, hvData := [], wbuf := []
      map := s.arch.map.filter (fun p => !(decide (mapKey 4 0 ≤ p.1) && decide (p.1 < mapKey 5 0))) } }).hostKeys

/-- R341: Format NVM with SES 2, cryptographic erase, only. -/
def execNvmeFormat (c : NvCmd) (ses : Nat) (s : State) : Result :=
  .next (s.nvRun c (.nvmeFormat c ses) (
    if s.hvPresent = false ∨ c.nsid ≠ 1 then s.nvDone c 0x0B
    else if ses ≠ 2 then s.nvDone c 0x02
    else s.eraseVolume.nvDone c 0))

/-- R341: Identify, CNS 00h to 02h. -/
def execNvmeIdentify (c : NvCmd) (cns : Nat) (s : State) : Result :=
  let mapMib := (s.hvPages * 16384 + 1048575) / 1048576
  .next (s.nvRun c (.nvmeIdentify c cns) (
    if cns = 0 then (if c.nsid ≠ 1 then s.nvDone c 0x0B else s.nvDone c 0 (Config.nvmeData 0 [s.hvBlocks]))
    else if cns = 1 then s.nvDone c 0 (Config.nvmeData 1 [1, 4, mapMib, 64, 1])
    else if cns = 2 then s.nvDone c 0 (Config.nvmeData 2 [bit s.hvPresent])
    else s.nvDone c 0x02))

/-- Percentage used of the SMART log: the highest erase count by the rating, at most 255 (R341). -/
def State.percentUsed (s : State) : Nat := min 255 (s.arch.highest * 100 / max (s.cfgN 0x800101) 1)

/-- R341: Get Log Page 01h to 03h; reading it lets its event be reported again. -/
def execNvmeGetLogPage (c : NvCmd) (lid : Nat) (s : State) : Result :=
  let s1 : State := { s with arch := { s.arch with maskedEv := s.arch.maskedEv.filter (· != lid) } }
  .next (s.nvRun c (.nvmeGetLogPage c lid) (
    if lid = 1 ∨ lid = 3 then s1.nvDone c 0 (Config.nvmeData (16 + lid) [])
    else if lid = 2 then s1.nvDone c 0 (Config.nvmeData 18
      [bit s.arch.readOnly * 8, s.percentUsed, min s.arch.freeBlocks s.arch.reserve * 100 / max s.arch.reserve 1])
    else s.nvDone c 0x109))

/-- Features supported (R341). -/
def nvFeatures : List Nat := [1, 6, 7, 0x0B, 0x0D]

/-- The Host Memory Buffer granted or taken back (R344): without 64 MiB it is not used; with the whole map every page
resides there. -/
def State.grantHmb (s : State) (enable : Bool) (mib : Nat) : State :=
  let used := enable && decide (64 ≤ mib)
  let whole := decide (s.hvPages * 16384 ≤ mib * 1048576)
  { s with arch := { s.arch with
      hmbMib := if used then mib else 0
      resident := if used && whole then List.range s.hvPages else [] } }

/-- R341, R344: Set Features; the Host Memory Buffer's value is its enable in bit 0 and its size in MiB above. -/
def execNvmeSetFeatures (c : NvCmd) (fid value : Nat) (s : State) : Result :=
  .next (s.nvRun c (.nvmeSetFeatures c fid value) (
    if !nvFeatures.contains fid then s.nvDone c 0x02
    else
      let s1 : State := { s with arch := { s.arch with feats := tblPut s.arch.feats fid value } }
      (if fid = 0x0D then s1.grantHmb (value % 2 == 1) (value / 2) else s1).nvDone c 0))

/-- R341: Get Features. -/
def execNvmeGetFeatures (c : NvCmd) (fid : Nat) (s : State) : Result :=
  .next (s.nvRun c (.nvmeGetFeatures c fid) (
    if !nvFeatures.contains fid then s.nvDone c 0x02
    else s.nvDone c 0 (Config.nvmeData (32 + fid) [tblGet 0 s.arch.feats fid])))

/-- R341: an I/O completion or submission queue is created: up to 8 pairs of up to 1,024 entries. -/
def execNvmeCreateIoQueue (c : NvCmd) (completion : Bool) (id size cq : Nat) (s : State) : Result :=
  .next (s.nvRun c (.nvmeCreateIoQueue c completion id size cq) (
    if id = 0 ∨ 8 < id ∨ (tblFind? (if completion then s.arch.cqs else s.arch.sqs) id).isSome = true then s.nvDone c 0x101
    else if size = 0 ∨ 1024 < size then s.nvDone c 0x102
    else if completion then
      { s with arch := { s.arch with cqs := tblPut s.arch.cqs id { cq := id, size := size } } }.nvDone c 0
    else if (tblFind? s.arch.cqs cq).isNone then s.nvDone c 0x100
    else { s with arch := { s.arch with sqs := tblPut s.arch.sqs id { cq := cq, size := size } } }.nvDone c 0))

/-- R341: an I/O queue is deleted; a completion queue only when no submission queue posts to it. -/
def execNvmeDeleteIoQueue (c : NvCmd) (completion : Bool) (id : Nat) (s : State) : Result :=
  .next (s.nvRun c (.nvmeDeleteIoQueue c completion id) (
    if completion then
      if (tblFind? s.arch.cqs id).isNone then s.nvDone c 0x101
      else if s.arch.sqs.any (fun p => p.2.cq == id) then s.nvDone c 0x10C
      else { s with arch := { s.arch with cqs := tblDel s.arch.cqs id } }.nvDone c 0
    else if (tblFind? s.arch.sqs id).isNone then s.nvDone c 0x101
    else { s with arch := { s.arch with sqs := tblDel s.arch.sqs id } }.nvDone c 0))

/-- R341: Abort: a held Asynchronous Event Request ends with Command Abort Requested; nothing else is outstanding. The data
carries whether the command was aborted. -/
def execNvmeAbort (c : NvCmd) (queue cid : Nat) (s : State) : Result :=
  .next (s.nvRun c (.nvmeAbort c queue cid) (
    if queue = 0 ∧ s.arch.aers.contains cid = true then
      (({ s with arch := { s.arch with aers := s.arch.aers.erase cid } }).emit (.nvme 0 cid 0x07 [])).nvDone c 0 [0]
    else s.nvDone c 0 [1]))

/-- Report an asynchronous event (R341): it completes a held request, or waits for one; a log page's event is reported once
until the page is read. -/
def State.nvEvent (s : State) (info logPage : Nat) : State :=
  if s.arch.rdy = false ∨ s.arch.maskedEv.contains logPage = true then s
  else
    let s1 : State := { s with arch := { s.arch with maskedEv := logPage :: s.arch.maskedEv } }
    match s1.arch.aers with
    | [] => { s1 with arch := { s1.arch with events := s1.arch.events ++ [info] } }
    | a :: rest => ({ s1 with arch := { s1.arch with aers := rest } }).emit (.nvme 0 a 0 (leBytes 4 info))

/-- R341: an Asynchronous Event Request is held until an event completes it. -/
def execAsynchronousEventRequest (c : NvCmd) (s : State) : Result :=
  .next (s.nvRun c (.asynchronousEventRequest c) (
    match s.arch.events with
    | [] => { s with arch := { s.arch with aers := s.arch.aers ++ [c.cid] } }
    | e :: rest => ({ s with arch := { s.arch with events := rest } }).nvDone c 0 (leBytes 4 e)))

/-- R341: any command not supported completes with Invalid Command Opcode. -/
def execNvmeInvalidOpcode (c : NvCmd) (s : State) : Result := .next (s.nvRun c (.nvmeInvalidOpcode c) (s.nvDone c 0x01))

/-- R341: a write of CC.EN: set, the controller is ready once the state has been restored; cleared, it is reset: queues,
features, requests and the buffer grant go. -/
def execNvmeControllerEnable (en : Bool) (s : State) : Result :=
  .next (if s.hvPresent = false then s
    else if en then { s with arch := { s.arch with ccEn := true, rdy := s.arch.restored, nsUp := true } }
    else { s with arch := { s.arch with
        ccEn := false, rdy := false, nvWait := [], cqs := [], sqs := [], feats := [], aers := [], events := [], maskedEv := []
        hmbMib := 0, resident := [] } })

/-- The Host Volume is withdrawn or presented as a commit or the link decides (R341): turned off, it is erased and the host
is told of a namespace attribute change. -/
def State.hostVolume (s : State) (erase : Bool) : State :=
  let up := s.hvPresent
  let s1 := if erase then s.eraseVolume else s
  let s2 : State := { s1 with arch := { s1.arch with nsUp := up } }
  if s.arch.nsUp ≠ up then s2.nvEvent 0x040002 4 else s2

/-- Entries of a map page as bytes (R338). -/
def State.mapPage (s : State) (k : Nat) : Bytes :=
  (List.range 4096).flatMap (fun i => leBytes 4 (tblGet 0xFFFFFFFF s.arch.map (mapKey 4 (k * 4096 + i))))

/-- R344: a map page is fetched from the Host Memory Buffer and its tag checked under slot 20; on a mismatch it is read from
NAND, the copy replaced and HMB_INTEGRITY raised. A page not resident is read from NAND and becomes the most recently
used. Without a grant 32 map pages are cached on chip. A storage island that is held fetches nothing (R25). -/
def execHmbMapFetch (page : U16) (content : Bytes) (s : State) : Result :=
  let k := page.toNat
  let key := (s.slotKey 20).getD []
  let room := s.arch.hmbMib * 64
  let touched : State := { s with arch := { s.arch with resident := (k :: s.arch.resident.filter (· != k)).take room } }
  let chip : State := { s with arch := { s.arch with mapChip := (k :: s.arch.mapChip.filter (· != k)).take 32 } }
  .next (if s.isUp 4 = false then s
    else if s.arch.hmbMib < 64 then (if s.arch.mapChip.contains k then chip else chip.charge 12 3 1)
    else if !s.arch.resident.contains k then touched.charge 12 3 1
    else if (Config.cmac key content).take 8 = (Config.cmac key (s.mapPage k)).take 8 then touched
    else
      let s1 := touched.charge 12 3 1
      ({ s1 with arch := { s1.arch with hmbBad := s1.arch.hmbBad + 1 } }).raise 0x186 k)

/-- Host Volume state 0x8040:02 (R347). -/
def State.hvState (s : State) : Nat :=
  if s.cfgB 0x804001 = false ∨ s.hvBlocks = 0 then 0
  else if !s.link.pcie then 1
  else if s.arch.restored = false then 2
  else if s.arch.readOnly then 4 else 3

end Sys2Proof.Machine
end

