-- ==== Sys2Proof/Machine/Pair.lean ====
section
/-! DEFINITION. The pair: claim rounds, line faults, health, giving up control, roles, heartbeats, take-over and hand-over
(15_pairing, R368 to R389). What the mirror stream carries is in Mirror; resets are in Reset. -/

namespace Sys2Proof.Machine

/-- Role state codes (R377). -/
def pairCode : PairRole → Nat
  | .solo => 0 | .starting => 1 | .active => 2 | .syncing => 3 | .standby => 4 | .failed => 5

def State.setPair (s : State) (f : PairState → PairState) : State := { s with pair := f s.pair }

/-- The configured priority of a unit's position (R370, R389). -/
def State.priority (s : State) : Nat := s.cfgN (if s.pwr.strapPos = 0 then 0xB00002 else 0xB00003)

/-- The role lets the unit take part in the rounds (R377); a unit that has sent RELEASED in a hand-over, and one that found
equal positions, does not (R371, R386). -/
def State.claims (s : State) : Bool :=
  !s.pair.equalPos && !s.pair.released && s.pair.lease &&
  match s.pair.role with
  | .starting => s.pwr.acceptReady
  | .active => true
  | .standby => true
  | _ => false

/-- The claim a unit drives (R370). -/
def State.drives (s : State) : Nat :=
  if s.claims = false ∨ s.pair.health = 0 then 0
  else (if s.pair.won then 3 else s.priority) * 64 + s.pair.health

/-- The ticks of the last block-alone reset of an island fall within the last 10 s (R374). -/
def State.resetLately (s : State) (island : Nat) : Bool :=
  (tblGet [] s.pwr.blockTimes island).any (fun t => decide (s.time.mono < t + 327680))

/-- Health conditions in force (R374). -/
def State.conditions (s : State) : Nat :=
  let up := fun (e : Nat) => (tblGet {} s.link.eth e).link != 0
  let ready := match s.pair.role with
    | .starting => s.pwr.acceptReady
    | .syncing => false
    | .failed => false
    | _ => true
  bit (s.pair.lineFault && !s.pair.won) * 0x8000 +
  bit (match s.arch.uncorrAt with | some t => decide (s.time.mono < t + 60 * 32768) | none => false) * 0x4000 +
  bit (s.time.sync == .free || s.time.sync == .holdover) * 0x2000 +
  bit (!up 0 && !up 1) * 0x1000 +
  bit (decide (64 < (s.pair.ecc.filter (fun t => decide (s.time.mono < t + 32768))).length)) * 0x800 +
  bit (decide (16 ≤ (s.cas.overrunHist.filter id).length)) * 0x400 +
  bit s.pwr.overtemp * 0x200 +
  bit (s.resetLately 8 || s.resetLately 4) * 0x100 +
  bit (!ready) * 0x80 +
  bit ((s.pair.mismatch.isSome && s.pair.role != .active) || s.pair.equalPos) * 0x40 +
  bit (s.trust.lc = .retired) * 0x20 +
  bit s.pwr.pfw * 0x10 +
  s.pair.faults.toNat % 16

/-- The health score of a set of conditions (R374): 0 when one is forced, else 63 less the deductions. -/
def scoreOf (c : Nat) : Nat :=
  if c % 256 ≠ 0 ∨ c.testBit 15 then 0
  else 63 - (16 * (bit (c.testBit 8) + bit (c.testBit 9) + bit (c.testBit 10)) + 8 * (bit (c.testBit 11) + bit (c.testBit 12)) +
    2 * bit (c.testBit 13) + 4 * bit (c.testBit 14))

/-- This unit's heartbeat (R380). -/
def State.heartbeat (s : State) : Heartbeat :=
  { role := s.pair.role, pos := s.pwr.strapPos, claim := BitVec.ofNat 8 s.drives, winner := s.pair.winner, health := s.pair.health
    released := s.pair.released, ocb := s.pwr.ocb, headEnd := s.pwr.headEnd, digest := s.configDigest.take 8, lastSeq := s.pair.rxSeq }

/-- A hand-over in progress ends with its unit's control; its command fails as at the time-out (R386). -/
def State.dropHandover (s : State) : State :=
  let s1 := match s.pair.handover with
    | some (some r) => s.endCommand 0xB00201 0 (some r) (some .deviceBusy)
    | _ => s
  s1.setPair (fun x => { x with handover := none, yielding := false })

/-- Give up control (R375): claim and CLAIM_WON released, outputs inactive, a heartbeat marked RELEASED, role FAILED; its
events are flushed (R376), its service addresses no longer answered and its DTLS associations ended (R428). -/
def State.giveUp (s : State) : State :=
  if s.pair.role = .solo ∨ s.pair.won = false then s
  else
    let s0 := s.dropHandover
    let s1 := ({ s0 with
      pair := { s0.pair with won := false, wins := 0, freeWins := 0, claim := 0, released := true, role := .failed
                             gapStart := s0.time.net }
      link := { s0.link with service := false, assoc := [], remote := [], remoteWait := [], heConn := [] }
      dict := { s0.dict with sessions := s0.dict.sessions.filter (fun (p : Nat × Session) => p.1 / 2 ^ 32 != 2) }
      ev := s0.ev.flush }).relaysOff
    s1.emit (.heartbeat s1.heartbeat)

/-- Conditions, score and claim as the Grotto writes them (R374, R375): a holder whose score is 0 gives up control. -/
def State.evalHealth (s : State) : State :=
  let c := s.conditions
  let s1 := s.setPair (fun x => { x with cond := BitVec.ofNat 32 c, health := scoreOf c, lease := true })
  let s2 := if s1.pair.health = 0 then s1.giveUp else s1
  s2.setPair (fun x => { x with claim := BitVec.ofNat 8 s2.drives })

/-- R374: every 100 us. -/
def execHealthEvaluation (s : State) : Result := .next s.evalHealth

/-- A forced condition found outside the Grotto (R375): the claim is released at once and a holder gives up control. -/
def State.forceZero (s : State) (fault : U32) : State :=
  let s1 := s.setPair (fun x => { x with faults := x.faults ||| fault, health := 0, claim := 0 })
  let s2 := s1.giveUp
  s2.setPair (fun x => { x with cond := BitVec.ofNat 32 s2.conditions })

/-- R375: 120 us without a lease write. -/
def execLeaseExpiry (s : State) : Result := .next ((s.setPair (fun x => { x with lease := false })).forceZero 1)

/-- A line fault begins (R373): counted and raised once per episode. -/
def State.enterLineFault (s : State) : State :=
  if s.pair.lineFault then s.setPair (fun x => { x with clean := 0 })
  else (s.setPair (fun x => { x with lineFault := true, clean := 0, lineFaults := x.lineFaults + 1 })).raise 0x241 0

/-- R373: the line has been low for more than 20 us: the round is void. -/
def execClaimLineStuck (s : State) : Result :=
  .next (if s.pair.role = .solo then s
    else s.enterLineFault.setPair (fun x => { x with winner := none, wins := 0, freeWins := 0 }))

/-- The highest sequence in the journal or the contexts (R193). -/
def State.highestSeq (s : State) : Nat :=
  (s.acc.ctx ++ s.acc.ctxMem).foldl (fun m p => max m p.2.jseq.toNat) (s.acc.journal.foldl (fun m e => max m e.seq.toNat) 0)

/-- R310: after a fail-over each command not yet confirmed is followed up by a read of output_state. -/
def State.followLedgers (s : State) : State :=
  s.bill.app.ledgers.foldl (fun (t : State) p =>
    if p.2.cmd.isSome || p.2.recSent then (t.setLedger p.1 (fun l => { l with follow := true })).tell p.1 .getOutput else t) s

/-- The unit takes CLAIM_WON and becomes ACTIVE (R378, R428). -/
def State.becomeActive (s : State) : State :=
  { s with
    pair := { s.pair with role := .active, won := true, released := false }
    link := { s.link with service := true, garpDue := 3 } }

/-- R385: a Standby takes over, with the cause code of 0xB001:0C; load groups go on without staggering (R316). -/
def State.takeOver (s : State) (cause : Nat) : State :=
  let s1 := s.becomeActive
  let s2 : State := { s1 with
    acc := { s1.acc with nextSeq := BitVec.ofNat 64 (s1.highestSeq + 1) }
    pwr := { s1.pwr with quiet := false }
    bill := { s1.bill with groups := s1.bill.groups.map (fun (p : Nat × LoadGroup) => (p.1, { p.2 with held := false, freed := true })) }
    pair := { s1.pair with failovers := s1.pair.failovers + 1, lastFailover := s1.time.net, failCause := BitVec.ofNat 8 cause } }
  ((s2.followLedgers.campaignsResume).raise 0x244 cause).retest

/-- Enter SYNCING (R387): the unit's own journal entries and contexts are discarded. -/
def State.enterSyncing (s : State) : State :=
  { s with
    pair := { s.pair with role := .syncing, syncSince := s.time.mono, progress := 0, wins := 0, freeWins := 0 }
    acc := { s.acc with journal := [], ctx := [], ctxMem := [], snaps := [], cache := [], deciding := [] }
    cas := { s.cas with flows := notFrames s.cas.flows } }

/-- Claim, position and tie bits as one number: the greater wins the round (R371). -/
def claimRank (claim pos tie : Nat) : Nat := (claim * 2 + pos) * 256 + tie

/-- What a hand-over and a release show a Standby that takes over (R386, R389): a partner FAILED or silent, or one that
hands over, below its yield threshold where one is set. -/
def State.takeCause (s : State) (fresh : Bool) : Nat :=
  match s.pair.hb with
  | some h =>
    if h.released ∧ h.role = .active then (if h.health < s.cfgN 0xB00005 then 4 else 3)
    else if h.released then 1 else if fresh then 1 else 2
  | none => 2

/-- Role changes that a won or lost round brings (R372, R378). -/
def State.roundRole (s : State) (won : Bool) (partnerClaim : Nat) (fresh : Bool) : State :=
  let partnerHolds := decide (0xC0 ≤ partnerClaim) || ((s.pair.hb.map (·.role)) == some .active && fresh)
  match s.pair.role with
  | .starting =>
    if won then
      let seen := fresh && (match s.pair.hb with
        | some h => h.role == .starting || h.role == .syncing || h.role == .standby
        | none => false)
      if 2 ≤ s.pair.wins ∧ partnerHolds = false ∧ (seen = true ∨ s.pair.windowOver = true) then s.becomeActive else s
    else if partnerHolds then s.enterSyncing else s
  | .standby => if won ∧ 2 ≤ s.pair.freeWins then s.takeOver (s.takeCause fresh) else s
  | .active => if won ∧ 2 ≤ s.pair.wins then s.setPair (fun x => { x with won := true }) else s
  | _ => s

/-- R371 to R373, R378: one round: the partner's claim, position and tie bits on the line, none where it takes no part, and
whether a heartbeat of its has arrived in the last 50 us. -/
def execClaimRound (partner : Option (U8 × Bool × U8)) (fresh : Bool) (s : State) : Result :=
  .next (if s.pair.role = .solo then s
    else
      let own := s.drives
      let d := s.draw
      let tie := d.1.toNat % 256
      let s0 := if own = 0 then s else d.2
      let me := claimRank own s.pwr.strapPos tie
      let p : Nat × Nat × Nat := match partner with | none => (0, 0, 0) | some x => (x.1.toNat, bit x.2.1, x.2.2.toNat)
      let they := claimRank p.1 p.2.1 p.2.2
      let ownIn := own != 0
      let theyIn := p.1 != 0
      let won := ownIn && (!theyIn || decide (they ≤ me))
      let tied := ownIn && theyIn && own == p.1 && s.pwr.strapPos == p.2.1 && decide (me < they)
      let win : Option Nat := if won then some s.pwr.strapPos else if theyIn then some p.2.1 else none
      let free := won && !s.pair.lineFault &&
        ((match s.pair.hb with | some h => h.released | none => true) || !fresh)
      let clean := s0.pair.clean + 1
      let s1 := s0.setPair (fun x => { x with
        winner := win, partnerClaim := BitVec.ofNat 8 p.1, claim := BitVec.ofNat 8 own
        wins := if won then x.wins + 1 else 0
        freeWins := if free then x.freeWins + 1 else 0
        clean := clean
        lineFault := x.lineFault && decide (clean < 8) })
      let s2 := if tied then
          ((s1.setPair (fun x => { x with equalPos := true, mismatch := some 4, health := 0, claim := 0 })).raise 0x240 4).giveUp
        else s1
      let s3 := if ownIn && !won && !s2.pair.lineFault then s2.setPair (fun x => { x with won := false }) else s2
      s3.roundRole won p.1 fresh)

/-- R378: no heartbeat during the pair start window. -/
def execPairStartWindowExpiry (s : State) : Result :=
  .next (if s.pair.role = .starting then s.setPair (fun x => { x with windowOver := true }) else s)

/-- R380: every 25 us over PAIR; a hand-over's RELEASED goes out once the frames admitted are decided (R386). -/
def State.sendHeartbeat (s : State) : State :=
  let s1 := if s.pair.handover.isSome ∧ s.acc.deciding = [] ∧ s.pair.released = false then
      s.setPair (fun x => { x with released := true, won := false, claim := 0 })
    else s
  s1.emit (.heartbeat s1.heartbeat)

def execHeartbeatTx (s : State) : Result := .next (if s.pair.role = .solo then s else s.sendHeartbeat)

/-- What differs between the units (R39, R387): personality, profile, digest, position. -/
def State.differs (s : State) (h : Heartbeat) : Option Nat :=
  if h.ocb ≠ s.pwr.ocb then some 1 else if h.headEnd ≠ s.pwr.headEnd then some 2
  else if h.digest ≠ s.configDigest.take 8 then some 3 else if h.pos = s.pwr.strapPos then some 4 else none

/-- R39, R371, R374, R387: a unit that has lost to an Active partner compares itself with it; the Active unit notes the
difference too, but keeps running. -/
def State.checkPartner (s : State) (h : Heartbeat) : State :=
  let joins := (s.pair.role == .starting && h.role == .active) || s.pair.role == .syncing
  let runs := s.pair.role == .active && (h.role == .starting || h.role == .syncing)
  if joins || runs then
    let d := s.differs h
    let s1 := s.setPair (fun x => { x with mismatch := if x.equalPos then x.mismatch else d })
    match d with
    | some k => if joins ∧ s.pair.mismatch ≠ d then s1.raise 0x240 k else s1
    | none => s1
  else s

/-- R373: two rounds in a row in which the units saw different winners are a split line. -/
def State.checkSplit (s : State) (h : Heartbeat) : State :=
  match s.pair.winner, h.winner with
  | some a, some b =>
    if a = b then s.setPair (fun x => { x with splitRun := 0 })
    else
      let s1 := s.setPair (fun x => { x with splitRun := x.splitRun + 1 })
      if 2 ≤ s1.pair.splitRun then s1.enterLineFault else s1
  | _, _ => s.setPair (fun x => { x with splitRun := 0 })

/-- R386: the partner has become ACTIVE: the hand-over is complete; the old Active's dictionary sessions end (R385). -/
def State.handedOver (s : State) (who : Option Req) : State :=
  let s1 : State := { s with
    pair := { s.pair with role := .standby, handover := none, yielding := false, released := false, wins := 0, freeWins := 0 }
    link := { s.link with service := false, assoc := [], remote := [], remoteWait := [], heConn := [] } }
  let s2 := (match who with | some r => s1.endCommand 0xB00201 0 (some r) none | none => s1).relaysOff
  { s2 with dict := { s2.dict with sessions := [] } }

/-- Where a pair has formed since, disconnections that waited for it are tested again (R307, reason 5). -/
def State.retestFormed (s before : State) : State := if s.formed = true ∧ before.formed = false then s.retest else s

/-- R39, R373, R378, R380, R386, R387: a partner's heartbeat: it ends a pair start window, acknowledges messages, and shows
roles, winners and differences. -/
def execHeartbeatRx (h : Heartbeat) (s : State) : Result :=
  .next (if s.pair.role = .solo then s
    else
      let before := s.pair.hb.map (·.role)
      let s1 := s.setPair (fun x => { x with
        hb := some h, link := true, windowOver := false
        rxSeq := if h.role = .starting then 0 else x.rxSeq
        unacked := x.unacked.filter (fun m => decide (h.lastSeq < m.1))
        syncSince := if x.role = .active ∧ h.role = .syncing ∧ before ≠ some .syncing then s.time.mono else x.syncSince })
      let s2 := (s1.checkPartner h).checkSplit h
      let s3 := if s2.pair.role = .active ∧ h.role = .standby ∧ before = some .syncing then
          s2.raise 0x243 (((s2.time.mono - s2.pair.syncSince) / 32768 : Nat) : Int)
        else s2
      let s4 := if s3.pair.role = .starting ∧ h.role = .active ∧ s3.pwr.acceptReady = true ∧ s3.pair.health = 0 then s3.enterSyncing else s3
      let s5 : State := match s4.pair.handover with
        | some who => if h.role = .active then s4.handedOver who else s4
        | none => s4
      s5.retestFormed s)

/-- What lets a hand-over begin (R386). -/
def State.mayHandOver (s : State) : Bool :=
  s.pair.link && !s.pair.lineFault &&
    (match s.pair.hb with | some h => h.role == .standby && decide (0 < h.health) | none => false)

/-- R386: command 0xB002:01. -/
def State.handOverCmd (s : State) (r : Req) (arg : Bytes) : State :=
  s.command r 0xB00201 arg (fun _ s =>
    if s.pair.role ≠ .active then .refuse .inStandby s
    else if s.mayHandOver = false ∨ s.pair.handover.isSome = true then .refuse .deviceBusy s
    else .running (s.setPair (fun x => { x with handover := some (some r) })).sendHeartbeat)

def execHandOver (r : Req) (arg : Bytes) (s : State) : Result := .next (s.handOverCmd r arg)

/-- R386: the partner has not taken CLAIM_WON within 1 ms: the unit goes on as ACTIVE with its claim. -/
def execHandoverTimeout (s : State) : Result :=
  .next (match s.pair.handover with
    | none => s
    | some who =>
      let s1 := (s.setPair (fun x => { x with handover := none, yielding := false, released := false, won := true })).raise 0x245 0
      match who with
      | some r => s1.endCommand 0xB00201 0 (some r) (some .deviceBusy)
      | none => s1)

/-- R386: the score has stayed below the yield threshold for 1 s while the Standby is at least 16 points healthier. -/
def execPairYield (s : State) : Result :=
  .next (match s.pair.hb with
    | none => s
    | some h =>
      if s.pair.role = .active ∧ s.pair.health < s.cfgN 0xB00005 ∧ s.mayHandOver = true ∧ s.pair.health + 16 ≤ h.health ∧
          s.pair.handover = none then
        ((s.setPair (fun x => { x with handover := some none, yielding := true })).raise 0x246 s.pair.health).sendHeartbeat
      else s)

/-- R379: 1 ms without a valid message: an Active unit goes on without waiting; a Standby enters SYNCING. -/
def execPairLost (s : State) : Result :=
  .next (if s.pair.role = .solo ∨ s.pair.link = false then s
    else
      let s1 := s.setPair (fun x => { x with link := false, unacked := [] })
      match s1.pair.role with
      | .active =>
        let n := s1.acc.deciding.length
        let s2 := (s1.acc.deciding.map (·.seq)).foldl (fun t q => t.confirm q) s1
        (s2.setPair (fun x => { x with noConfirm := x.noConfirm + BitVec.ofNat 32 n })).raise 0x242 0
      | .standby => (s1.setPair (fun x => { x with gapStart := s1.time.net })).enterSyncing
      | _ => s1)

/-- R379: messages unacknowledged after 10 us are sent again, oldest first. -/
def execMirrorRetransmit (s : State) : Result :=
  .next (if s.pair.link then s.pair.unacked.foldl (fun (t : State) m => t.emit (.mirror m.1 m.2.1 m.2.2.1 m.2.2.2)) s else s)

/-- R428: the announcements at 0, 100 and 200 ms after CLAIM_WON is taken. -/
def execGratuitousArp (s : State) : Result :=
  .next (if s.link.garpDue = 0 then s
    else ({ s with link := { s.link with garpDue := s.link.garpDue - 1 } }).emit .announce)

end Sys2Proof.Machine
end

