-- ==== Sys2Proof/Machine/Triggers.lean ====
section
/-! DEFINITION. The thirty-two triggers (R92, R93): arming, disarming and firing. -/

namespace Sys2Proof.Machine

/-- Members of trigger n: action, argument, target kind, target time (ns), target cycle (R92). -/
def State.trigAction (s : State) (n : Nat) : Nat := s.cfgN (0x330001 + 256 * n)
def State.trigArg (s : State) (n : Nat) : Nat := s.cfgN (0x330002 + 256 * n)
def State.trigKind (s : State) (n : Nat) : Nat := s.cfgN (0x330003 + 256 * n)
def State.trigTime (s : State) (n : Nat) : Nat := ofTime64 (s.cfgBytes (0x330004 + 256 * n) 0)
def State.trigCycle (s : State) (n : Nat) : Cycle := BitVec.ofNat 40 (s.cfgN (0x330005 + 256 * n))

/-- The status members of trigger n (R92). -/
def State.trig (s : State) (n : Nat) : Trigger := tblGet {} s.time.triggers n

def State.setTrig (s : State) (n : Nat) (f : Trigger → Trigger) : State :=
  { s with time := { s.time with triggers := tblUpd {} s.time.triggers n f } }

/-- Trigger n can be armed (R93, R253, R315): an action, a target far enough ahead, an argument its action allows. -/
def State.mayArm (s : State) (n : Nat) : Bool :=
  let d := (s.trigCycle n - s.time.cycle).toNat
  let arg := s.trigArg n
  s.trigAction n != 0 &&
    (if s.trigKind n = 2 then decide (2 ≤ d) && decide (d < 2 ^ 39) else decide (s.time.net + 1000000 ≤ s.trigTime n)) &&
    (s.trigAction n != 2 || arg == 0 || (decide (250 ≤ arg) && decide (arg ≤ 30000))) &&
    (s.trigAction n != 3 || loadArgOk arg)

/-- Command 0x3300+n:06 (R92). DESIGN CHOICE (log entry 64): a new arming sets the results :08 and :09 back to 0; the spec
states only that it starts a new arming. -/
def State.armCmd (s : State) (r : Req) (n : Nat) (arg : Bytes) : State :=
  s.command r (0x330006 + 256 * n) arg (fun _ s =>
    if leNat arg = 2 then
      .done (if (s.trig n).st = .armed then s.setTrig n (fun x => { x with st := .idle }) else s)
    else if (s.trig n).st = .armed then .refuse .deviceBusy s
    else if s.mayArm n = false then .refuse .valueInvalid s
    else .done (s.setTrig n (fun _ => { st := .armed })))

/-- R93: arm command 1 of trigger n. -/
def execArm (r : Req) (n : Fin 32) (s : State) : Result := .next (s.armCmd r n.val [1])

/-- R92: arm command 2 of trigger n. -/
def execDisarm (r : Req) (n : Fin 32) (s : State) : Result := .next (s.armCmd r n.val [2])

/-- A check-channel latch by trigger n (R93, R243): at a cycle target it is the crossing's own; on a time target the next
crossing's. -/
def State.latchByTrigger (s : State) (n : Nat) : State :=
  let id := BitVec.ofNat 16 (s.trigArg n)
  if s.trigKind n = 2 then
    let s1 := s.setTrig n (fun x => { x with resolved := s.trigCycle n })
    if 8 ≤ s.weir.latches.length then s1
    else s1.setWeir (fun w => { w with latches := w.latches ++
      [{ id := id, target := s.trigCycle n, missed := w.st ≠ 2
         sA := (s.time.table.find? (fun c => c.num == s.trigCycle n)).map (fun (c : Crossing) => c.stamp) }] })
  else { s with time := { s.time with trigLatch := s.time.trigLatch ++ [(n, id, (s.trig n).firedAt)] } }

/-- Trigger n fires once, at a network time, and starts its action (R92, R93). A Standby performs actions 1 and 4
alone (R380). -/
def State.fire (s : State) (n at_ : Nat) (late : Bool) : State :=
  let s1 := s.setTrig n (fun x => { x with st := if late then TrigSt.firedLate else TrigSt.fired, firedAt := at_ })
  match s.trigAction n with
  | 1 => s1.latchByTrigger n
  | 2 =>
    if s.acting then
      let lead := if s.trigArg n = 0 then s.cfgN 0x610003 else s.trigArg n
      let t := s.time.cycle + BitVec.ofNat 40 lead
      (s1.setTrig n (fun x => { x with resolved := t })).orderOrSkip t
    else s1
  | 3 => if s.acting then s1.loadTrigger (s.trigArg n) else s1
  | 4 => s1.raise 0x04C (s.trigArg n)
  | _ => s1

/-- R93: trigger n reaches its target. A time target fires on a fabric cycle of the network island less than 6.4 ns after
the target, at the network time given, whose phase is not fixed; a cycle target fires at its crossing's stamp. -/
def execTriggerFire (n : Fin 32) (at_ : Nat) (s : State) : Result :=
  let k := n.val
  .next (if (s.trig k).st ≠ .armed then s
    else if s.trigKind k = 2 then
      match s.time.table.find? (fun c => c.num == s.trigCycle k) with
      | none => s
      | some c => s.fire k c.stamp false
    else if s.trigTime k ≤ at_ ∧ at_ ≤ s.trigTime k + 6 then (s.atNet at_).fire k at_ false
    else s)

/-- A forward step of network time to an instant fires the armed time triggers whose target it crosses, with state 3 (R93). -/
def State.fireCrossed (s : State) (to_ : Nat) : State :=
  (List.range 32).foldl (fun (t : State) (n : Nat) =>
    if (t.trig n).st = .armed ∧ t.trigKind n ≠ 2 ∧ t.trigTime n ≤ to_ then t.fire n to_ true else t) s

end Sys2Proof.Machine
end

