-- ==== Sys2Proof/Machine/Sync.lean ====
section
/-! DEFINITION. Network time (R82 to R89): PTP, PPS_IN, the acquisition and correction of network time and its steps; and the
calendar set at its tick (R98). -/

namespace Sys2Proof.Machine

def State.setTime (s : State) (f : TimeState → TimeState) : State := { s with time := f s.time }

/-- An instant of network time after a step. -/
def stepped (off : Int) (t : Nat) : Nat := ((t : Int) + off).toNat

/-- A step of network time (R76, R89, R93, R176, R234): it is counted and raised with its size; the tracker's prediction,
the sample grid and the radio grid move with it; a forward step fires the time triggers it crosses. The boundary of the
budget period does not move (R217). The crossing table, the cycle number, the legal calendar and the billing time line stay. -/
def State.stepTime (s : State) (off : Int) : State :=
  let to_ := stepped off s.time.net
  let s1 := s.setTime (fun t => { t with
    net := to_
    lastStamp := t.lastStamp.map (stepped off)
    zcB := t.zcB.map (fun (x : Nat × Nat) => (stepped off x.1, x.2))
    zcC := t.zcC.map (fun (x : Nat × Nat) => (stepped off x.1, x.2))
    lastPps := t.lastPps.map (stepped off)
    trigLatch := t.trigLatch.map (fun (x : Nat × U16 × Nat) => (x.1, x.2.1, stepped off x.2.2))
    steps := t.steps + 1 })
  let s2 := s1.weirStep off
  let s3 : State := { s2 with
    cas := { s2.cas with periodStart := stepped off s2.cas.periodStart }
    bill := (s2.noteStep off).bill
    field := { s2.field with
      skipTo := to_ + 35000000
      ports := s2.field.ports.map (fun (x : Nat × FieldPort) => (x.1, { x.2 with
        muteTo := stepped off x.2.muteTo
        sending := x.2.sending.map (fun y => (y.1, stepped off y.2))
        duty := x.2.duty.map (fun y => (stepped off (y.1 * 1000000000) / 1000000000, y.2)) })) } }
  let s4 := if 1000000 < off.natAbs then
      (List.range 12).foldl (fun (t : State) (q : Nat) =>
        let p := q + 12
        if t.isNative p ∧ (t.fport p).began = true then
          t.setFport p (fun x => { x with startSf := some (s3.time.net / 1000000000 / 2 ^ s3.pcfg p 6 2 + 1) })
        else t) s3
    else s3
  let s5 := if 0 < off then s4.fireCrossed to_ else s4
  s5.raise 0x04B off

/-- The slew limit in 10^-12 about the learned oscillator rate (R87). -/
def State.slewRate (s : State) (off : Int) : Int :=
  s.time.learned + clampTo (s.cfgN 0x311004 * 1000000) (roundDiv (off * 1000) 16)

/-- The proportional-integral servo's rate in 10^-12, its integral starting from the rate at the last change of mode (R88). -/
def State.servoRate (s : State) (off sum : Int) : Int :=
  clampTo 2147483647 (s.time.rateBase +
    roundDiv (((s.cfgN 0x311007 : Nat) * off + (s.cfgN 0x311008 : Nat) * sum) * 1000) 65536)

/-- Correct network time by an offset measured while LOCKED (R87, R88). -/
def State.correct (s : State) (off : Int) : State :=
  if s.cfgN 0x311002 = 2 then
    let far := s.cfgN 0x311006 < off.natAbs
    let sum := s.time.integral + off
    let n := if far then s.time.badOffsets + 1 else 0
    let s1 := s.setTime (fun t => { t with integral := sum, rate := s.servoRate off sum, badOffsets := if 4 ≤ n then 0 else n })
    if 4 ≤ n then s1.stepTime off else s1
  else
    let thr := s.cfgN 0x311005 * 1000000
    if thr ≠ 0 ∧ thr < off.natAbs then s.stepTime off
    else s.setTime (fun t => { t with rate := s.slewRate off })

/-- Leave ACQUIRING with the measured offset (R86 to R88): one step, in servo mode only beyond its step threshold. The
learned oscillator rate is open (log entry 6). -/
def State.acquire (s : State) (off : Int) : State :=
  let o := s.openVal 87
  let s1 := o.2.setTime (fun t => { t with sync := .locked, holdSince := none, learned := o.1, badOffsets := 0 })
  let skip := off = 0 ∨ (s.cfgN 0x311002 = 2 ∧ off.natAbs ≤ s.cfgN 0x311006)
  if skip then s1 else s1.stepTime off

/-- An offset of network time measured from a qualifying source (R86): in FREE it counts toward acquisition, in ACQUIRING it
ends it, in HOLDOVER the source has returned. -/
def State.measureOffset (s : State) (off : Int) (need : Nat) : State :=
  let s1 := s.setTime (fun t => { t with lastOffset := wrapS 64 off })
  match s.time.sync with
  | .free =>
    let n := s.time.acq + 1
    s1.setTime (fun t => { t with acq := n, sync := if need ≤ n then Sync.acquiring else Sync.free })
  | .acquiring => s1.acquire off
  | .locked => s1.correct off
  | .holdover => (s1.setTime (fun t => { t with sync := .locked, holdSince := none })).correct off

/-- The source stops qualifying (R86): ACQUIRING falls back to FREE and discards its offsets; LOCKED enters HOLDOVER with
PTP_LOST. -/
def State.sourceLost (s : State) (measure : Int) : State :=
  match s.time.sync with
  | .free => s.setTime (fun t => { t with acq := 0 })
  | .acquiring => s.setTime (fun t => { t with acq := 0, sync := .free })
  | .locked => (s.setTime (fun t => { t with sync := .holdover, acq := 0, holdSince := some t.mono })).raise 0x04A measure
  | .holdover => s

/-- The ranking of a clock by the default best master clock algorithm (R83); the lower wins. -/
def ptpRank (prio1 cls accuracy variance prio2 gm steps : Nat) : Nat :=
  (((((prio1 * 256 + cls) * 256 + accuracy) * 65536 + variance) * 256 + prio2) * 2 ^ 64 + gm) * 65536 + steps

/-- The device's own ranking (R83): clockClass 6 while PPS_IN is the qualified source, else 248; its accuracy, variance and
identity are open (log entry 6). -/
def State.ownRank (s : State) : Nat :=
  ptpRank (s.cfgN 0x311102) (if s.ppsQualified then 6 else 248)
    ((Config.openInt 84 0).toNat % 256) ((Config.openInt 85 0).toNat % 65536) (s.cfgN 0x311103) ((Config.openInt 86 0).toNat % 2 ^ 64) 0

/-- A port runs PTP (R83, R443). -/
def State.ptpOn (s : State) (p : Nat) : Bool := s.cfgB (0x420203 + 0x1000 * p) && s.cfgB (0x420001 + 0x1000 * p)

/-- The slave port: the one that hears the best grandmaster, unless the device may be master and ranks better (R83, R84). -/
def State.bestPort (s : State) : Option Nat :=
  let best := (List.range 4).foldl (fun (b : Option (Nat × Nat)) (p : Nat) =>
    match (tblGet {} s.time.ptp p).announce, s.ptpOn p with
    | some (r, _), true => (match b with
      | some (r', _) => if r < r' then some (r, p) else b
      | none => some (r, p))
    | _, _ => b) none
  match best with
  | none => none
  | some (r, p) => if s.cfgB 0x311104 = false ∧ s.ownRank < r then none else some p

def State.setPtp (s : State) (p : Nat) (f : PtpPort → PtpPort) : State :=
  s.setTime (fun t => { t with ptp := tblUpd {} t.ptp p f })

/-- A PTP message received on a port that runs PTP (R82 to R88, R429). -/
def State.ptpRx (s : State) (p : Nat) (m : PtpMsg) : State :=
  match m with
  | .announce a =>
    let r := ptpRank a.prio1.toNat a.cls.toNat a.accuracy.toNat a.variance.toNat a.prio2.toNat a.gm.toNat a.steps.toNat
    let s1 := s.setPtp p (fun x => { x with announce := some (r, a.gm.toNat), parent := some a, missedAnnounce := 0 })
    let s2 := s1.setTime (fun t => { t with slave := s1.bestPort })
    if s2.time.slave = some p then s2.setTime (fun t => { t with utcOffset := a.utc }) else s2
  | .sync origin rx =>
    match (tblGet {} s.time.ptp p).pathDelay with
    | none => s
    | some d =>
      if s.time.slave = some p ∧ s.cfgN 0x311003 = 1 then
        let own : Int := (rx : Int) - s.cfgN (0x420202 + 0x1000 * p)
        s.measureOffset ((origin : Int) + d - own) 4
      else s
  | .pdelayResp turn residence =>
    let phy := s.cfgN (0x420201 + 0x1000 * p) + s.cfgN (0x420202 + 0x1000 * p)
    s.setPtp p (fun x => { x with pathDelay := some (((turn : Int) - residence - phy) / 2) })
  | .other => s

/-- R86: a PTP message arrives on a port, at a network time. One of another domain, or on a port without PTP, is not taken. -/
def execPtpMessageRx (port : Fin 4) (domain : U8) (m : PtpMsg) (at_ : Nat) (s : State) : Result :=
  .next (if s.ptpOn port.val = false ∨ domain.toNat ≠ s.cfgN 0x311101 then s else (s.atNet at_).ptpRx port.val m)

/-- R84, R86: three announce intervals, or three sync intervals, pass without a message on the slave port. On lost announces
the role moves to another port that hears the same grandmaster, without HOLDOVER; else the source is lost. -/
def execPtpAnnounceTimeout (sync : Bool) (s : State) : Result :=
  .next (match s.time.slave with
    | none => s
    | some p =>
      let lost := fun (x : State) => if x.cfgN 0x311003 = 1 then x.sourceLost p else x
      if sync then lost s
      else
        let gm := ((tblGet {} s.time.ptp p).announce).map (·.2)
        let s1 := s.setPtp p (fun x => { x with announce := none, parent := none })
        let next := s1.bestPort
        let s2 := s1.setTime (fun t => { t with slave := next })
        let same := (next.bind (fun q => (tblGet {} s1.time.ptp q).announce)).map (·.2) = gm
        if next.isSome ∧ same then s2 else lost s2)

/-- R86: a PPS_IN pulse, stamped at the ball. Three pulses each 1 s within 100 us of the one before qualify the source; the
pulse marks a second of network time. -/
def execPpsInEdge (stamp : Nat) (s : State) : Result :=
  let s1 := (s.atNet stamp).setTime (fun t => { t with lastPps := some stamp })
  let near := match s.time.lastPps with
    | none => false
    | some l => decide (((stamp : Int) - l - 1000000000).natAbs ≤ 100000)
  let off : Int := roundDiv stamp 1000000000 * 1000000000 - stamp
  .next (if s.cfgN 0x311003 ≠ 2 then s1
    else if near = true then s1.measureOffset off 3
    else if s.time.sync = .free then (s1.setTime (fun t => { t with acq := 0 })).measureOffset off 3
    else s1)

/-- R86: two expected PPS_IN pulses are missing. PTP_LOST carries a slave port, which PPS_IN has none of: its measure is
open (log entry 6). -/
def execPpsInMissed (s : State) : Result :=
  let o := s.openVal 88
  .next (if s.cfgN 0x311003 = 2 then o.2.sourceLost o.1 else s)

/-- A set takes effect at its tick (R98, R287): the time written, sub-second count 0, its flags cleared, any hold cancelled;
the billing engine gets new minus old time; a set by a Utility or the OCB view is answered and mirrored (R380). That a
discipline set still waiting for its second boundary is dropped by it is the model's choice (log entry 72). -/
def State.applySet (s : State) (c : CalTime) (who : Option (Req × Bool)) : State :=
  let d : Int := ((c.secs : Int) - s.time.cal.secs) * 32768 - s.time.sub.toNat
  let s1 := s.setTime (fun t => { t with
    cal := c, sub := 0, osf := false, calWrap := false, setErr := false, diverged := false, untrusted := false
    hold := none, pendSet := none, discSet := none, adjust := t.adjust ++ [d] })
  let s2 := (s1.setTime (fun t => { t with dst := s1.dstNow })).retest
  let arg : Bytes := [c.second, c.minute, c.hour, c.day, c.month, c.year % 100, c.year / 100].map (fun n => BitVec.ofNat 8 (toBcd n))
  match who with
  | none => s2
  | some (r, true) => (s2.mirror .configuration 0x320100 arg).endCommand 0x320100 0 (some r) none
  | some (r, false) => (s2.mirror .configuration 0x320100 arg).respond r (.ok [])

/-- A sub-second shift that found the oscillator stopped takes effect at the tick that comes in time (R99). -/
def State.shiftTick (s : State) : State :=
  match s.time.pendShift with
  | none => s
  | some (n, who) =>
    let s1 := (s.setTime (fun t => { t with pendShift := none })).shift n
    match who with
    | none => s1
    | some r => (s1.mirror .configuration 0x320200 (leBytes 2 (n % 65536).toNat)).endCommand 0x320200 0 (some r) none

/-- The first 32.768 kHz tick after a set reached the always-on island (R98), or the second boundary of a set of calendar
discipline (R100); a waiting shift takes effect at the tick too (R99). -/
def execCalendarSetTick (s : State) : Result :=
  .next (if s.time.oscStopped then s else
    (match s.time.pendSet, s.time.discSet with
      | some (c, who), _ => s.applySet c who
      | none, some c => s.applySet c none
      | none, none => s).shiftTick)

end Sys2Proof.Machine
end

