-- ==== Sys2Proof/Machine/Power.lean ====
section
/-! DEFINITION. The power-fail warning and its sequence, the backup supply, faults of islands and block-alone resets, the
start of every main reset, and the commands of 0x3011 (R403 to R425). The release of a main reset is in Reset. -/

namespace Sys2Proof.Machine

/-- A main reset is asserted (R403, R413): an Active unit of a formed pair gives up control before it; every island but the
always-on one is held, and every port and service with it. A reset in progress keeps its cause. -/
def State.enterReset (s : State) (cause : U8) : State :=
  if s.pwr.inReset then s
  else
    let s1 := ((if s.formed then s.giveUp else s).relaysOff).setPwr (fun p => { p with
      inReset := true, nextCause := some cause, atPeriod := none, acceptReady := false
      islands := IslandSt.running :: List.replicate 9 IslandSt.held })
    { s1 with
      dict := { s1.dict with available := false }
      link := { s1.link with service := false }
      weir := { s1.weir with st := 0 } }

/-- A main reset that the device itself performs waits for the flush of its events (R396). -/
def State.deviceReset (s : State) (cause : U8) : State := if s.pwr.inReset then s else ({ s with ev := s.ev.flush }).enterReset cause

/-- The calendar lockout comes into force at the first tick; a set that has reached the island by then is applied (R103). A set
of calendar discipline that still waits for its second boundary (R100) has not reached it and is refused. -/
def State.lockout (s : State) : State :=
  let s1 := match s.time.pendSet with
    | some (c, who) => if s.time.oscStopped then s else s.applySet c who
    | none => s
  s1.setTime (fun t => { t with lockout := true, discSet := none })

/-- The outage that a warning opens (R290, R407): one record, written once the billing engine has resumed; before that the
always-on island stamps the tick, unless an outage is open already. -/
def State.warnBilling (s : State) : State :=
  if s.pwr.outageOpen then s
  else if s.pwr.acceptReady then (s.billWarning).setPwr (fun p => { p with outageOpen := true, outageRec := some s.time.cal })
  else s.setPwr (fun p => { p with outageOpen := true, warnTick := some s.time.cal })

/-- The power-fail sequence (R405): the claim is released, the calendar locked; cycle snapshot, event buffer,
check-channel registers, outage record, stored heat and the Host Volume's write buffer become durable. -/
def State.powerFail (s : State) : State :=
  let s1 := s.setPwr (fun p => { p with pfw := true, seqDone := false })
  let s2 := if s1.pair.role = .solo then s1 else s1.forceZero 0
  let s3 := s2.lockout
  let s4 := match s3.time.lastStamp with
    | some t => s3.setTime (fun x => { x with snap := some { num := x.cycle, stamp := t, period := x.period } })
    | none => s3
  let s5 := (s4.weirPowerFail).warnBilling
  let s6 := (s5.storeHeat).programBuffer
  { s6 with ev := { s6.ev.flush with writeThrough := true } }

/-- R405: PFW_N has been low for 1 us. A block-alone reset in progress holds its island (R418). -/
def execPowerFailWarning (s : State) : Result :=
  .next (if s.pwr.pfw = true ∨ s.pwr.inReset = true then s
    else (s.powerFail).setPwr (fun p => { p with
      islands := p.islands.map (fun i => if i = IslandSt.quiescing ∨ i = IslandSt.resetting then IslandSt.held else i) }))

/-- R405, R415, R422: the sequence is complete; the outputs are at their reset levels. After a thermal trip the main reset
follows. -/
def execPowerFailSequenceDone (s : State) : Result :=
  .next (if s.pwr.pfw = false ∨ s.pwr.inReset = true then s
    else
      let s1 := (s.relaysOff).setPwr (fun p => { p with seqDone := true })
      if s1.pwr.nextCause = some 6 then s1.enterReset 6 else s1)

/-- R406: PFW_N has been high for 1 ms, and the sequence is complete: a main reset with cause 2. -/
def execWarningRecovered (s : State) : Result :=
  .next (if s.pwr.pfw = true ∧ s.pwr.seqDone = true ∧ s.pwr.inReset = false then s.enterReset 2 else s)

/-- R408: the main rails fall out of regulation: only the backup domain runs. -/
def execMainSupplyLoss (s : State) : Result :=
  let s1 := (s.enterReset 1).setPwr (fun p => { p with railsLost := true, nextCause := some 1, outageOpen := true })
  .next s1

/-- R412: RESET_N has been low for 1 us. -/
def execResetNAsserted (s : State) : Result := .next (s.enterReset 3)

/-- R412: the Grotto's watchdog has expired. -/
def execWatchdogExpiry (s : State) : Result := .next (s.deviceReset 4)

/-- Islands that can be reset alone (R417): crypto, storage, measurement, protocol, application, balance. -/
def resetAlone (i : Nat) : Bool := [2, 4, 5, 6, 8, 9].contains i

def State.setIsland (s : State) (i : Nat) (x : IslandSt) : State :=
  s.setPwr (fun p => { p with islands := listUpd p.islands i (fun _ => x) })

/-- A block-alone reset begins (R396, R417): counted, raised, flushed before it; the island is asked to go idle.
The relay outputs, which the application island drives, are high until its release (R315, R415). -/
def State.beginBlockReset (s : State) (i : Nat) : State :=
  let s1 := (s.setPwr (fun p => { p with
    blockResets := listUpd p.blockResets i satInc
    blockTimes := tblUpd [] p.blockTimes i (fun l => s.time.mono :: l) })).raise 0x042 i
  let s2 := if i = 5 then s1.weirPowerFail else if i = 8 then s1.relaysOff else s1
  ({ s2 with ev := s2.ev.flush }).setIsland i .quiescing

/-- R417, R418, R374: a fault in an island (row of R23). -/
def execIslandFault (island : Fin 10) (s : State) : Result :=
  let i := island.val
  let near := (tblGet [] s.pwr.blockTimes i).filter (fun t => decide (s.time.mono < t + 60 * 32768))
  let st := s.pwr.islands.getD i .held
  .next (if s.pwr.inReset = true ∨ st = .held then s
    else if !resetAlone i then s.deviceReset 5
    else if i = 6 ∧ s.formed = true then s.forceZero 8
    else if st ≠ .running ∨ 4 ≤ near.length then s.deviceReset 5
    else s.beginBlockReset i)

/-- R417: the island has not gone idle within 0x3010:01, and is reset regardless. -/
def execQuiesceTimeout (island : Fin 10) (s : State) : Result :=
  .next (if s.pwr.islands.getD island.val .held = .quiescing then s.setIsland island.val .resetting else s)

/-- A frame whose acknowledgement or decision a reset of the protocol island loses (R194): acknowledgements due and held
frames go, the partners retry. -/
def State.protocolLost (s : State) : State :=
  { s with field := { s.field with ports := s.field.ports.map (fun p => (p.1, { p.2 with acks := [] })) } }

/-- The storage island is back (R194, R333): its unfinished checkpoint is abandoned, completed Host Volume writes are
programmed, and the appends that waited are made (R25). -/
def State.storageBack (s : State) : State :=
  ({ s with
    arch := { s.arch with ckpt := none, ckptDue := none }
    bill := { s.bill with snapshot := none, snapDue := none } }).programBuffer.retryAppends

/-- Items that were running or held finished return to their places (R215), and open entries are delivered again (R194). -/
def State.appBack (s : State) : State :=
  let back := fun (x : Item) => if x.st = .waiting then x else { x with st := ItemSt.waiting, resumed := false, wants := [], work := none }
  ({ s with cas := { s.cas with
      flows := s.cas.flows.map (fun (p : Nat × List Item) => (p.1, p.2.map back))
      cores := [none, none, none, none], stalled := [] } }).replay

/-- R416: the next start-up stage is released: 3 memory, with the first period (R217), and storage with the trusted firmware,
which ends the calendar lockout (R103, R409); 4 measurement with the profile fixed; 5 protocol and network, the former with valid microcode;
6 application and balance, the former with valid application firmware (R354). -/
def execIslandStageRelease (s : State) : Result :=
  let n := s.pwr.stage + 1
  let up := fun (t : State) (l : List Nat) => l.foldl (fun (u : State) i => u.setIsland i .running) (t.setPwr (fun p => { p with stage := n }))
  .next (if s.pwr.inReset = true ∨ s.pwr.pfw = true ∨ s.upd.down.contains 1 = true then s
    else match n with
    | 3 => ((up s [3, 4]).setTime (fun t => { t with lockout := t.lockout && !s.pwr.aonAccepted })).startPeriods.retryAppends
    | 4 => ((up s [5]).reachPhase 2).weirRelease
    | 5 => ((up s (if s.upd.down.contains 3 then [7] else [6, 7])).reachPhase 3).radiosUp
    | 6 =>
      let s1 := up s (if s.upd.down.contains 2 then [9] else [8, 9])
      ({ s1 with arch := { s1.arch with restoreFrom := s1.time.mono } } : State).restoreModels
    | _ => s)

/-- R422, R468: the junction temperature in 0.1 degC: OVERTEMP above 115, a power-fail sequence and a thermal reset above 125. -/
def execJunctionTemperatureSample (temp : BitVec 16) (s : State) : Result :=
  let t := temp.toInt
  let s1 := s.setPwr (fun p => { p with tj := t, overtemp := decide (1150 < t) })
  .next (if s.pwr.inReset then s1
    else if 1250 < t ∧ s.pwr.pfw = false then s1.powerFail.setPwr (fun p => { p with nextCause := some 6 })
    else s1)

/-- Command 0x3011:01 (R423): success, and the reset at the next period boundary. -/
def State.mainResetCmd (s : State) (r : Req) (arg : Bytes) : State :=
  s.command r 0x301101 arg (fun _ s =>
    if leNat arg ≠ 0x52535421 then .refuse .valueInvalid s
    else .done (s.setPwr (fun p => { p with atPeriod := some 9 })))

def execMainResetCommand (r : Req) (arg : Bytes) (s : State) : Result := .next (s.mainResetCmd r arg)

/-- R414: command 0x3011:02. -/
def execClearRstcntInvalid (r : Req) (arg : Bytes) (s : State) : Result :=
  .next (s.command r 0x301102 arg (fun _ s => .done (s.setPwr (fun p => { p with rstcntInvalid := false }))))

/-- R409: VDD_AON has stayed in range for 1 ms. The source changes only under the lockout (R103). -/
def execVddAonAccept (s : State) : Result := .next (s.setPwr (fun p => { p with aonAccepted := true }))

/-- R408, R409: VDD_AON falls below 2.9 V: it is dropped, under the lockout, and the tick is stamped. -/
def execVddAonDrop (s : State) : Result :=
  .next ((s.setPwr (fun p => { p with aonAccepted := false, switchTick := some s.time.cal })).setTime (fun t => { t with lockout := true }))

/-- R410: VBK has fallen below VRET. -/
def execRetTrip (s : State) : Result := .next (s.setPwr (fun p => { p with retTrip := true }))

/-- R425: the hourly measurement of VBAT and VBK in mV on main power. -/
def execVbatMeasure (vbat vbk : U16) (s : State) : Result :=
  .next (s.setPwr (fun p => { p with vbat := vbat, vbk := vbk, batLow := decide (vbat.toNat < 2400), batAbsent := decide (vbat.toNat < 1000) }))

/-- R374: a memory error. Corrected ones count toward ECC_STORM; an uncorrectable one in the context store, the journal or
the key register forces the score to 0, the claim being released at once (R375). -/
def execMemoryEccError (place : EccPlace) (corrected : Bool) (s : State) : Result :=
  let critical := place = .contextStore ∨ place = .journal ∨ place = .keyRegister
  .next (if corrected then s.setPair (fun x => { x with ecc := (s.time.mono :: x.ecc).filter (fun t => decide (s.time.mono < t + 32768)) })
    else if critical then s.forceZero 4
    else s)

/-- R374, R375: the 25 MHz reference is lost, or an island clock lies outside 1 % of nominal. -/
def execClockLoss (s : State) : Result := .next (s.forceZero 2)

/-- R376: 100 ms after giving up, a FAILED unit resets, unless it has used the automatic resets of the last hour. -/
def execFailedRestart (s : State) : Result :=
  let lately := s.pair.restarts.filter (fun t => decide (s.time.mono < t + 3600 * 32768))
  .next (if s.pair.role ≠ .failed ∨ s.cfgN 0xB00006 ≤ lately.length then s
    else (s.setPair (fun x => { x with restarts := s.time.mono :: lately })).deviceReset 8)

/-- Command 0xB002:02 (R387): on a unit whose configuration digest alone differs from that of its ACTIVE partner, the
committed configuration that the partner sends is taken over, and a main reset follows. -/
def State.adoptCmd (s : State) (r : Req) (arg : Bytes) (values : List (ObjKey × Nat × Bytes)) : State :=
  s.command r 0xB00202 arg (fun _ s =>
    if s.pair.mismatch ≠ some 3 ∨ (s.pair.hb.map (·.role)) ≠ some .active then .refuse .valueInvalid s
    else
      let kept := s.dict.vals.filter (fun p => (groupOf (p.1 / 2 ^ 64)).isNone)
      let all := values.foldl (fun (t : Tbl Bytes) v => tblPut t (storeKey (ObjKey.num v.1) v.2.1) v.2.2) kept
      .done ({ s with dict := { s.dict with vals := all, pend := [], committed := [], shadow := [] } }.deviceReset 9))

def execAdoptPartnerConfiguration (r : Req) (arg : Bytes) (values : List (ObjKey × Nat × Bytes)) (s : State) : Result :=
  .next (s.adoptCmd r arg values)

/-- R352: the first period boundary at or after the activation instant: a main reset into the trial set; an activation
whose images can no longer be activated is dropped. -/
def State.activationReset (s : State) : State :=
  match s.upd.activation with
  | none => s
  | some (mask, at_) =>
    if s.time.net < at_ then s
    else if (maskKinds mask).all (fun k => s.activable k) then (s.beginTrial mask).deviceReset 7
    else { s with upd := { s.upd with activation := none } }

def execActivationReset (s : State) : Result := .next s.activationReset

end Sys2Proof.Machine
end

