-- ==== Sys2Proof/Machine/Links.lean ====
section
/-! DEFINITION. Ethernet ports and PRP (R426, R427), downlink to remote meters (R431), the PCIe link and reading delivery
(R432 to R435), wired meters (R437 to R439), and the UARTs (R441). -/

namespace Sys2Proof.Machine

def State.setLink (s : State) (f : LinkState → LinkState) : State := { s with link := f s.link }

/-- Change an Ethernet port. -/
def State.setEth (s : State) (e : Nat) (f : EthPort → EthPort) : State := s.setLink (fun l => { l with eth := tblUpd {} l.eth e f })

/-- Be0:01 of an Ethernet port (R443). -/
def State.ethOn (s : State) (e : Nat) : Bool := !s.pwr.inReset && s.cfgB (0x420001 + 0x1000 * e)

/-- Be3:01 of ETH0 (R427). -/
def State.prpOn (s : State) : Bool := s.cfgB 0x420301

/-- Entries of the discard table that are still kept: 400 ms (R427). -/
def prpKept (now : Nat) (l : List ((Nat × Nat) × Nat)) : List ((Nat × Nat) × Nat) := l.filter (fun x => decide (now * 5 ≤ x.2 * 5 + 65536))

/-- The redundancy control trailer of a frame judged (R427): a duplicate, or a new entry of 4,096. -/
def State.prpJudge (s : State) (e : Nat) (key : Nat × Nat) : State :=
  let kept := prpKept s.time.mono s.link.prp
  if kept.any (fun x => x.1 == key) then (s.setLink (fun l => { l with prp := kept })).setEth e (fun p => { p with dup := p.dup + 1 })
  else s.setLink (fun l => { l with prp := ((key, s.time.mono) :: kept).take 4096 })

/-- R426, R427, R443: a frame is received on an enabled port and counted. What a frame that passes carries reaches the
device as its own command. -/
def execEthFrameRx (port : Fin 4) (f : EthFrame) (s : State) : Result :=
  let e := port.val
  .next (if s.ethOn e = false then s
    else if f.fcsOk = false then s.setEth e (fun p => { p with fcs := p.fcs + 1 })
    else if 1536 < f.size then s
    else if f.noBuf then s.setEth e (fun p => { p with noBuf := p.noBuf + 1 })
    else
      let s1 := s.setEth e (fun p => { p with rx := p.rx + 1 })
      match f.prp with
      | none => s1
      | some q => if e < 2 ∧ s.prpOn = true ∧ f.ptp = false then s1.prpJudge e (f.source.toNat, q.toNat) else s1)

/-- R426, R443: the link state of a port, 0 down, 1 10, 2 100, 3 1,000 Mbit/s. -/
def execEthLinkChange (port : Fin 4) (speed : Fin 4) (s : State) : Result :=
  .next (if s.pwr.inReset then s
    else s.setEth port.val (fun p => { p with link := if s.ethOn port.val then BitVec.ofNat 8 speed.val else 0 }))

/-- R427: every 2 s on both ports. -/
def execPrpSupervisionTx (s : State) : Result :=
  .next (if s.prpOn = false ∨ s.ethOn 0 = false ∨ s.ethOn 1 = false then s
    else
      let s1 := (s.setEth 0 (fun p => { p with tx := p.tx + 1 })).setEth 1 (fun p => { p with tx := p.tx + 1 })
      (s1.setLink (fun l => { l with prpSeq := l.prpSeq + 1 })).emit (.prpSupervision s.link.prpSeq))

/-- A record of a /t request (R431). -/
def RdRec.bytes (x : RdRec) : Bytes :=
  leBytes 2 (16 + x.frame.length) ++ leBytes 1 x.gen ++ leBytes 1 (bit x.wantsReply) ++ leBytes 4 x.meter ++ leBytes 4 x.tag.toNat ++
    leBytes 4 x.expiry ++ x.frame

/-- A request to /t leaves, or leaves again. -/
def State.sendRemote (s : State) (q : RdReq) : State := s.emit (.remote q.assoc q.token (q.recs.map (·.bytes)))

/-- The waiting records that an association may carry, in order (R431): those of meters whose last accepted record it
delivered. -/
def State.remoteFor (s : State) (assoc : Nat) : List RdRec :=
  (s.link.remoteWait.filter (fun x => tblFind? s.link.assoc x.meter == some assoc)).take 64

/-- R431: the device sends up to 64 waiting records over an association. Each record names the generation of the link that
its meter's last record came by. -/
def execRemoteDownlinkTx (assoc : Nat) (s : State) : Result :=
  let take := s.remoteFor assoc
  let recs := take.map (fun (x : RdRec) => { x with gen := (((s.ctxOf x.meter).map (fun c => c.link.toNat % 256)).getD x.gen) })
  .next (if take = [] ∨ s.acting = false ∨ s.pwr.inReset = true then s
    else
      let q : RdReq := { assoc := assoc, token := ((take.head?).map (fun (x : RdRec) => x.tag.toNat)).getD 0, sends := 0, recs := recs }
      (s.setLink (fun l => { l with
        remote := l.remote ++ [q]
        remoteWait := l.remoteWait.filter (fun x => !take.contains x) })).sendRemote q)

/-- The results of a request's records are noted (R431). -/
def State.remoteResults (s : State) (token : Nat) (res : List (U32 × Nat)) : State :=
  s.setLink (fun l => { l with remote := l.remote.filter (fun q => q.token != token), results := res.reverse ++ l.results })

/-- R431: the forwarder's answer: one result per record, in record order. -/
def execRemoteDownlinkResult (token : Nat) (results : List (U32 × U8)) (s : State) : Result :=
  .next (if s.link.remote.any (fun q => q.token == token) then
      s.remoteResults token (results.map (fun (x : U32 × U8) => (x.1, x.2.toNat)))
    else s)

/-- R431: ACK_TIMEOUT has run out: sent again up to four times, then result 3 for every record. -/
def execRemoteDownlinkRetransmit (token : Nat) (s : State) : Result :=
  .next (match s.link.remote.find? (fun q => q.token == token) with
    | none => s
    | some q =>
      if q.sends < 4 then
        (s.setLink (fun l => { l with remote := l.remote.map (fun x => if x.token = token then { x with sends := x.sends + 1 } else x) })).sendRemote q
      else s.remoteResults token (q.recs.map (fun (x : RdRec) => (x.tag, 3))))

/-- R431: a record that waits for an association reaches its expiry. -/
def execRemoteDownlinkExpiry (tag : U32) (s : State) : Result :=
  .next (s.setLink (fun l => { l with remoteWait := l.remoteWait.filter (fun x => x.tag != tag || x.expiry == 0) }))

/-- Change the delivery engine. -/
def State.setDlv (s : State) (f : Delivery → Delivery) : State := s.setLink (fun l => { l with dlv := f l.dlv })

/-- DLV_ENTRIES and DLV_BASE name a ring (R433). -/
def Delivery.ringOk (d : Delivery) : Bool :=
  d.base != 0 && d.base.toNat % 4096 == 0 && [16, 32, 64, 128, 256, 512, 1024, 2048, 4096, 8192, 16384, 32768, 65536].contains d.entries.toNat

/-- Delivery is on (R433). -/
def Delivery.on (d : Delivery) : Bool := d.enabled && d.ringOk

/-- Bytes in the delivery buffer (R435). -/
def Delivery.held (d : Delivery) : Nat := d.waiting.foldl (fun n x => n + x.2.length) 0

/-- Size of the delivery buffer (R435). -/
def State.dlvRoom (s : State) : Nat := if s.pwr.headEnd then 67108864 else 262144

/-- Bytes in the host buffer being filled. -/
def Delivery.used_ (d : Delivery) : Nat := d.filling.foldl (fun n x => n + x.length) 0

/-- Waiting records go into the current host buffer while they fit (R434). -/
def fillBuffer (len : Nat) : Nat → List (Nat × Bytes) → List Bytes × List (Nat × Bytes)
  | _, [] => ([], [])
  | used, x :: xs =>
    if used + x.2.length ≤ len then
      let r := fillBuffer len (used + x.2.length) xs
      (x.2 :: r.1, r.2)
    else ([], x :: xs)

/-- The device fills the buffer at the head of the ring (R434). -/
def Delivery.fill (d : Delivery) : Delivery :=
  match d.ring with
  | [] => d
  | b :: _ =>
    if d.on = false ∨ d.stopped = true then d
    else
      let r := fillBuffer b.2 d.used_ d.waiting
      { d with filling := d.filling ++ r.1, waiting := r.2 }

/-- Records not returned go back to the delivery buffer, in order (R434). -/
def Delivery.unfill (d : Delivery) : Delivery :=
  { d with filling := [], waiting := d.filling.map (fun (b : Bytes) => (fieldAt b 8 8, b)) ++ d.waiting }

/-- Vector 1 of function 0, at most once a period (R434). -/
def State.raiseDelivery (s : State) : State :=
  if s.link.dlv.raised then s.setDlv (fun d => { d with owed := true })
  else s.setLink (fun l => { l with msix := (0, 1) :: l.msix, dlv := { l.dlv with raised := true, owed := false } })

/-- A period boundary for the vector (R434). -/
def State.deliveryPeriod (s : State) : State :=
  let s1 := s.setDlv (fun d => { d with raised := false })
  if s1.link.dlv.owed then s1.raiseDelivery else s1

/-- R434: DLV_CTRL[0] set: STOPPED cleared, DLV_SKIPPED counted anew, and delivery goes on with the first record not yet
returned. After a stop the descriptors not filled are forgotten, and the host gives them again (log entry 24). -/
def execDeliveryEnable (s : State) : Result :=
  .next (if s.link.pcie = false ∨ s.link.dlv.enabled = true then s
    else s.setDlv (fun d =>
      let e : Delivery := { d with enabled := true, stopped := false, skipped := 0 }
      ((if d.stopped then { e with ring := [], avail := d.used } else e).unfill).fill))

/-- R434: DLV_CTRL[0] cleared. -/
def execDeliveryDisable (s : State) : Result :=
  .next (if s.link.pcie = false then s else s.setDlv (fun d => { d with enabled := false }))

/-- A descriptor is valid (R434). -/
def descOk (x : Nat × Nat) : Bool :=
  x.1 != 0 && x.1 % 4096 == 0 && decide (4096 ≤ x.2) && decide (x.2 ≤ 1048576) && x.2 % 4096 == 0

/-- R433, R434: the host gives the descriptors up to an index; `descs` is what the ring in its memory holds there. An
invalid one stops delivery. -/
def execDlvAvailWrite (avail : U32) (descs : List (Nat × Nat)) (s : State) : Result :=
  let n := (avail - s.link.dlv.avail).toNat
  let given := descs.take n
  let good := given.takeWhile descOk
  .next (if s.link.pcie = false then s
    else s.setDlv (fun d =>
      if d.on = false ∨ d.stopped = true then { d with avail := avail }
      else ({ d with avail := avail, ring := d.ring ++ good, stopped := good.length != given.length }).fill))

/-- Undelivered records are discarded, and the first record after them is a gap record that covers them (R435). -/
def Delivery.discard (d : Delivery) : Delivery :=
  let lost := d.unfill.waiting
  let gap := match d.gap, lost with
    | some g, l => some (g.1, g.2 + l.length)
    | none, [] => none
    | none, x :: l => some (x.1, l.length + 1)
  { d with filling := [], waiting := [], gap := gap }

/-- R433, R435: the host writes DLV_BASE and DLV_ENTRIES: a change of the base discards undelivered records. -/
def execDlvBaseWrite (base : U64) (entries : U32) (s : State) : Result :=
  .next (if s.link.pcie = false then s
    else s.setDlv (fun d =>
      if d.base = base then { d with entries := entries }
      else { d.discard with base := base, entries := entries, ring := [], avail := d.used }))

/-- R434: the current buffer is returned: the next record does not fit, or a period boundary has come since its first
record. -/
def execDeliveryBufferReturn (s : State) : Result :=
  .next (match s.link.dlv.filling, s.link.dlv.ring with
    | [], _ => s
    | _, [] => s
    | l, _ :: rest =>
      if s.link.dlv.on = false ∨ s.link.dlv.stopped = true then s
      else
        let s1 := s.setDlv (fun d => ({ d with filling := [], ring := rest, used := d.used + 1, returned := l :: d.returned }).fill)
        s1.raiseDelivery)

/-- The gap record (R435). -/
def gapRecord (first n : Nat) : Bytes :=
  ({ seq := BitVec.ofNat 64 first, isOpen := true, withheld := false, keepalive := false, remote := false, latch := false
     unsecured := false, erasures := false, mirrored := false, macCmd := false, handle := 0xFFFFF, link := 0
     counter := BitVec.ofNat 32 n, digest := List.replicate 8 0, at_ := 0, cycle := 0, ackFlags := 0, ackOffset := 0
     keyVersion := 0, payload := [], effected := true, born := 0 } : JEntry).bytes

/-- R435: the journal entry of a released reading is delivered as it stood at acceptance, after a gap record where one is
due; with the delivery buffer full it is skipped. -/
def execReadingDelivery (seq : U64) (s : State) : Result :=
  .next (match s.entryOf seq with
    | none => s
    | some e =>
      if s.link.dlv.on = false ∨ e.keepalive = true ∨ e.macCmd = true then s
      else
        let b := ({ e with isOpen := true } : JEntry).bytes
        s.setDlv (fun d =>
          let g : List (Nat × Bytes) := match d.gap with
            | none => []
            | some x => [(x.1, gapRecord x.1 x.2)]
          let l := g ++ [(seq.toNat, b)]
          if d.held + l.foldl (fun n (x : Nat × Bytes) => n + x.2.length) 0 ≤ s.dlvRoom then
            ({ d with waiting := d.waiting ++ l, gap := none }).fill
          else
            { d with
              skipped := d.skipped + 1
              gap := some (match d.gap with | none => (seq.toNat, 1) | some x => (x.1, x.2 + 1)) }))

/-- R40, R432: the PCIe link trains: function 0 is there, and the namespace where the Host Volume is enabled. -/
def execPcieLinkTrained (s : State) : Result :=
  .next (if s.pwr.inReset then s else (s.setLink (fun l => { l with pcie := true })).hostVolume false)

/-- R432: the presence of function 1 changes. -/
def State.updateFn1 (s : State) : State := s.setLink (fun l => { l with fn1 := s.cfgB 0x804001 })

/-- R432: a hot reset of the PCIe link. -/
def execPcieHotReset (s : State) : Result := .next (if s.link.pcie = false then s else s.updateFn1)

/-- Base of a serial port's block, 0-7 MB, 8-15 LN (R443), and an object Bs0:sub of it. -/
def serBase (p : Nat) : Nat := if p < 8 then 0x4300 + 16 * p else 0x4380 + 16 * (p - 8)
def State.serCfg (s : State) (p sub : Nat) : Nat := s.cfgN (serBase p * 256 + sub)

/-- A serial port, and a change of it. -/
def State.serial (s : State) (p : Nat) : SerialPort := tblGet {} s.link.serial p
def State.setSerial (s : State) (p : Nat) (f : SerialPort → SerialPort) : State :=
  s.setLink (fun l => { l with serial := tblUpd {} l.serial p f })

/-- Meters on a serial port, ascending (0xC022:01). -/
def State.metersOn (s : State) (p : Nat) : List Nat := (s.trust.meters.map (·.1)).filter (fun h => s.serialOf h == some p)

/-- The serial ports are this unit's to drive (R38, R439). -/
def State.serialOurs (s : State) : Bool := s.acting && (s.pair.role == .solo || s.pair.won)

/-- A request to a meter leaves (R437, R439); a unit that issues no polls ends the exchange (R38). -/
def State.ask (s : State) (p h tries : Nat) : State :=
  if s.serialOurs = false then s.setSerial p (fun x => { x with asking := none })
  else (s.setSerial p (fun x => { x with sent := x.sent + 1, asking := some (h, tries) })).emit (.serial p h (tblGet false (s.serial p).fcb h))

/-- The port's queue is full, or no descriptor is left (R208, R216). -/
def State.serialFull (s : State) (p : Nat) : Bool :=
  let q := s.queueOf (0xC18 + p)
  decide (s.cfgN 0x901104 q ≤ s.depth q) || decide (49152 ≤ s.poolTaken)

/-- The sequencer number of the serial engine (R206, log entry 9). -/
def serialEngine : Nat := 24

/-- An item is a port's work: it stands on the port's flow, or on another flow and names a meter of the port (R206, R209). -/
def State.portWork (s : State) (p : Nat) (x : Nat × Item) : Bool :=
  if 0xC18 ≤ x.1 ∧ x.1 < 0xC2C then x.1 == 0xC18 + p else s.serialOf x.2.key == some p

/-- The next item of the port that the serial engine takes from the queues that name it (R206, R209): the meter it is for. -/
def State.takeSerialItem (s : State) (p : Nat) : Option (Nat × State) :=
  ((s.seqItems serialEngine).find? (s.portWork p)).map (fun x => (x.2.key, (s.seqTake x.1 x.2).showResults))

/-- The idle port's next request (R439): its queue's oldest work, else the next meter of the round, none while the queue is
full. -/
def State.serialNext (s : State) (p : Nat) : State :=
  if (s.serial p).asking.isSome ∨ s.serialOurs = false ∨ s.serCfg p 1 = 0 ∨ s.isUp 6 = false then s
  else
    let full := s.serialFull p
    match s.takeSerialItem p, (s.serial p).round with
    | some it, _ =>
      let s1 := it.2.ask p it.1 0
      if full then s1.setSerial p (fun x => { x with deferred := if x.round = [] then x.deferred else x.deferred + 1 }) else s1
    | none, [] => s
    | none, h :: rest =>
      if full then s.setSerial p (fun x => { x with deferred := x.deferred + 1 })
      else (s.setSerial p (fun x => { x with round := rest })).ask p h 0

/-- R439: every Bs0:06 seconds. -/
def execSerialPoll (port : Fin 16) (s : State) : Result :=
  let p := port.val
  .next (if s.serialOurs = false ∨ s.serCfg p 1 = 0 ∨ s.isUp 6 = false then s
    else (s.setSerial p (fun x => { x with round := if x.round = [] then s.metersOn p else x.round })).serialNext p)

/-- The exchange with a meter is over. -/
def State.serialDone (s : State) (p : Nat) : State := (s.setSerial p (fun x => { x with asking := none })).serialNext p

/-- R437, R439, R187: a reply to the request outstanding. One with a wrong checksum or stop bit counts as a collision and
repeats the request; one without ciphering (`mode` 0) is accepted only where Bs0:07 allows it. -/
def execSerialReplyRx (port : Fin 16) (good : Bool) (f : StdFrame) (rx : Rx) (s : State) : Result :=
  let p := port.val
  .next (match (s.serial p).asking with
    | none => s
    | some (h, n) =>
      if s.isUp 6 = false then s
      else if good = false then
        let s1 := s.setSerial p (fun x => { x with collisions := x.collisions + 1 })
        if n < s.serCfg p 5 then s1.ask p h (n + 1) else s1.serialDone p
      else if f.handle.toNat ≠ h then s
      else
        let s1 := (s.setSerial p (fun x => { x with replies := x.replies + 1, fcb := tblUpd false x.fcb h (!·) })).setLink
          (fun l => { l with consec := tblPut l.consec h 0 })
        let s2 :=
          if f.mode = 0 ∧ s.serCfg p 7 = 0 then s1.setSerial p (fun x => { x with unsecured := x.unsecured + 1 })
          else if s1.pathRuns then s1.serialAccept p f rx
          else s1.holdFrame (25 + p) (if p < 8 then 9 else 10) p f rx
        s2.serialDone p)

/-- R439: no answer within the response timeout: counted, and asked again up to Bs0:05 times. -/
def execSerialResponseTimeout (port : Fin 16) (s : State) : Result :=
  let p := port.val
  .next (match (s.serial p).asking with
    | none => s
    | some (h, n) =>
      let s1 := (s.setSerial p (fun x => { x with timeouts := x.timeouts + 1 })).setLink
        (fun l => { l with consec := tblUpd 0 l.consec h satInc })
      if n < s.serCfg p 5 then s1.ask p h (n + 1) else s1.serialDone p)

/-- R441: a byte is received on UA0 or UA1: in the FIFO of 256 and as a coalescing item of the port's flow, or lost. The FIFO
is emptied when application firmware releases that item. The account of the item is open (log entry 60). -/
def execUartByteRx (port : Fin 2) (b : Byte) (s : State) : Result :=
  let u := port.val
  let fifo := tblGet [] s.link.uart u
  .next (if s.cfgB (0x443001 + 0x800 * u) = false ∨ s.isUp 6 = false then s
    else if 256 ≤ fifo.length then s.setLink (fun l => { l with uartLost := tblUpd 0 l.uartLost u (· + 1) })
    else
      let a := (s.setLink (fun l => { l with uart := tblPut l.uart u (fifo ++ [b]) })).producer
      (a.2.produce a.1 (0xC2A + u) 4 u 1 true).schedule)

end Sys2Proof.Machine
end

