-- ==== Sys2Proof/Machine/Settle.lean ====
section
/-! DEFINITION. How a set of values comes into force: while a new value is stored and the block still acts on the old one,
the old one stands in for it in the shadow table (R54, R58, R279). -/

namespace Sys2Proof.Machine

/-- Store a value under its key; the value acted on so far stands in for it. -/
def State.storeActing (s : State) (key : Nat) (v : Bytes) : State :=
  let num := key / 2 ^ 64
  let inst := key % 2 ^ 64
  let s1 :=
    if (tblFind? s.dict.shadow key).isSome then s
    else { s with dict := { s.dict with shadow := tblPut s.dict.shadow key (s.stored num inst) } }
  s1.storeVal num inst v

/-- The committed values of a group are stored (R54). -/
def State.storeCommitted (s : State) (g : Nat) : State :=
  let set := groupEntries g s.dict.committed
  let s1 := set.foldl (fun (t : State) (p : Nat × Bytes) => t.storeActing p.1 p.2) s
  { s1 with dict := { s1.dict with committed := groupOthers g s1.dict.committed } }

/-- A stand-in whose stored value differs: what a switch of the group changes, with the value acted on before. -/
def State.changes (s : State) (g : Nat) : Tbl Bytes :=
  (groupEntries g s.dict.shadow).filter (fun (p : Nat × Bytes) => p.2 != s.stored (p.1 / 2 ^ 64) (p.1 % 2 ^ 64))

/-- A stand-in of a tariff table whose stored version lies ahead stays (R279); an untrusted calendar tells of no version
that it has been reached. -/
def State.versionAhead (s : State) (p : Nat × Bytes) : Bool :=
  let from_ := leNat (s.stored 0x701101 (p.1 % 2 ^ 64))
  isTariffObj (p.1 / 2 ^ 64) && from_ != 0 && (s.time.untrusted || decide (s.billingNow < from_))

/-- Tables of the tariff objects among the keys of a table of values. -/
def tariffTables (t : Tbl Bytes) : List Nat :=
  ((t.filter (fun (p : Nat × Bytes) => isTariffObj (p.1 / 2 ^ 64))).map (fun (p : Nat × Bytes) => p.1 % 2 ^ 64)).eraseDups

/-- The group's stand-ins go: its stored values are in force (R54, R58), but for a tariff version scheduled (R279). -/
def State.dropStandIns (s : State) (g : Nat) : State :=
  let ts := tariffTables (groupEntries g s.dict.shadow)
  { s with dict := { s.dict with
      shadow := s.dict.shadow.filter (fun (p : Nat × Bytes) => groupOf (p.1 / 2 ^ 64) != some g || s.versionAhead p)
      tables := s.dict.tables ++ ts.filter (fun (t : Nat) => !s.dict.tables.contains t) } }

/-- The group has switched: IDLE, counted and stamped, and no mismatch open (R54, R57, R58). -/
def State.groupSettled (s : State) (g : Nat) : State :=
  s.setGroup g (fun (x : Group) => { x with
    st := .idle, lastApplied := s.time.net, applyCount := x.applyCount + 1, mismatchSince := 0, mismatchRaised := false })

end Sys2Proof.Machine
end

