-- ==== Sys2Proof/Machine/Reset.lean ====
section
/-! DEFINITION. The release of a main reset (R403, R410, R411, R413, R414, R416), acceptance ready (R183, R419), the
dictionary available (R68), and the period boundary as a whole (R218). -/

namespace Sys2Proof.Machine

/-- One step of the CRC-8 of the reset counter: polynomial 0x07 (R414). -/
def crc8Bit (c : U8) : U8 := if c.getLsbD 7 then (c <<< 1) ^^^ 0x07 else c <<< 1

def crc8Byte (c b : U8) : U8 := crc8Bit (crc8Bit (crc8Bit (crc8Bit (crc8Bit (crc8Bit (crc8Bit (crc8Bit (c ^^^ b))))))))

/-- The reset counter's word 0x3000:02 (R414). -/
def counterWord (n : BitVec 24) : U32 :=
  let b := leBytes 3 n.toNat
  BitVec.ofNat 32 ((b.foldl crc8Byte 0).toNat * 2 ^ 24 + n.toNat)

/-- Backup state as R411 leaves it when retention is lost; else DIVERGED only is cleared. -/
def State.judgeRetention (s : State) (lost : Bool) : State :=
  if !lost then s.setTime (fun t => { t with diverged := false })
  else
    let s1 := s.setTime (fun t => { t with
      osf := true, untrusted := true, cal := {}, sub := 0, calWrap := false, setErr := false, diverged := false, hold := none
      trim := t.trimMram, trimAcc := 0 })
    let s2 := s1.setPwr (fun p => { p with resetCount := 0, rstcntInvalid := true, retTrip := false })
    { s2 with bill := { s2.bill with tampFirst := [], tampLast := [], tampCount := [0, 0, 0] } }

/-- The value of a stored object is lost at every main reset: its change is volatile (R19). -/
def isVolatile (num : Nat) : Bool := match findRow num with | some o => o.eff == .volatile | none => false

/-- A value acted on in place of the stored one stays so over a main reset where its group has no consistent set (R19, R58); every other one is in force with the release. -/
def standInStays (p : Nat × Bytes) : Bool :=
  match findRow (p.1 / 2 ^ 64) with | some o => o.group != 0xFF | none => false

/-- Committed sets are in force at a release (R54); a set that is inconsistent in OCB personality is not (R58). -/
def State.settleAll (s : State) : State :=
  (List.range 0x27).foldl (fun (t : State) (g : Nat) =>
    if (s.group g).st = .mismatch ∨ (s.pwr.ocb = true ∧ s.changes g ≠ [] ∧ s.groupOk g = false) then t else (t.storeCommitted g).dropStandIns g) s

/-- What a release changes in the groups whose blocks act on a switch beyond the values themselves (R140, R248, R258, R329, R341):
the values acted on before. -/
def State.resetChanges (s : State) : List (Nat × Tbl Bytes) :=
  ((List.range 0x0C).map (· + 1) ++ [0x1E, 0x1F, 0x23]).filterMap (fun (g : Nat) =>
    if (s.group g).st = GroupSt.mismatch ∨ (s.pwr.ocb = true ∧ s.changes g ≠ [] ∧ s.groupOk g = false) then none
    else some (g, (s.storeCommitted g).changes g))

/-- The dictionary at a release (R51, R52, R54, R413): committed sets are in force, pending values, sessions and commands in
progress are gone, a requested restore of defaults is made, and every group is IDLE. -/
def State.restartDict (s : State) : State :=
  let s1 := s.settleAll
  let d := s1.dict
  let kept := if d.restore then d.vals.filter (fun p => decide (0xA00000 ≤ p.1 / 2 ^ 64) && decide (p.1 / 2 ^ 64 ≤ 0xBFFFFF)) else d.vals
  { s1 with dict := { d with
      vals := kept.filter (fun p => !isVolatile (p.1 / 2 ^ 64))
      pend := [], committed := [], sessions := [], wrong := [], locked := [], cmd := [], available := false, restore := false
      shadow := if d.restore then [] else d.shadow.filter standInStays
      tables := if d.restore then [] else d.tables
      groups := [] } }

/-- In OCB personality a group whose stored set the block does not act on is again found inconsistent (R58). -/
def State.reopenMismatch (s : State) : State :=
  if !s.pwr.ocb then s
  else (List.range 0x27).foldl (fun (t : State) (g : Nat) =>
    if (t.changes g).all t.versionAhead then t
    else t.setGroup g (fun (x : Group) => { x with st := .mismatch, mismatchSince := s.time.net })) s

/-- The personality (R444). -/
def State.personality (s : State) (ocbLow : Bool) : Bool :=
  if s.trust.persLock = 1 ∨ s.trust.persLock = 3 then false
  else if s.trust.persLock = 2 then true
  else if s.cfgN 0x100800 = 1 then false
  else if s.cfgN 0x100800 = 2 then true
  else ocbLow

/-- Length of the open outage in s, -1 where its start cannot be stamped (R411, R423). -/
def State.outageSecs (s : State) : Int :=
  if !s.pwr.outageOpen then 0
  else if s.pwr.retentionLost then -1
  else match s.outageStart with
    | none => -1
    | some c => (s.time.cal.secs : Int) - c.secs

/-- Profile, personality, flags, counter and stages at a release (R29, R30, R414, R416, R423, R424, R444). Where more context
memory raises the recorded capacity, the recorded profile becomes Head-end with it (log entry 64). -/
def State.restartPower (s : State) (x : StartUp) (cause : U8) (lost : Bool) : State :=
  let head := decide (2 ≤ x.ctxGib)
  let n0 := if x.crcOk then s.pwr.resetCount else 0
  let s1 := s.setPwr (fun p => { p with
    headEnd := head, ctxGib := x.ctxGib, strapOcb := x.ocbLow, strapPos := x.pos.val, ocb := s.personality x.ocbLow
    cause := cause, retTrip := false
    resetCount := if n0 = 0xFFFFFF then n0 else n0 + 1
    rstcntInvalid := p.rstcntInvalid || !x.crcOk
    powerShort := cause == 1 && !p.seqDone, warningSeen := p.pfw, eventsDiscarded := false, retentionLost := lost
    osfAtStart := s.time.osf
    pfw := false, seqDone := false, railsLost := false, inReset := false, nextCause := none, atPeriod := none
    islands := [.running, .running, .running, .held, .held, .held, .held, .held, .held, .held]
    stage := 2, phase := 1, timeline := [some 0, none, none, none, none, none], quiet := true, acceptReady := false
    blockTimes := [], blockResets := List.replicate 10 0, crossings := [] })
  let s2 := s1.setPwr (fun p => { p with
    ctxFault := (p.recHeadEnd == some true && !head) || (head && p.recCapacity == 1048575 && decide (x.ctxGib < 4))
    recHeadEnd := p.recHeadEnd.map (fun h => h || (head && decide (p.recCapacity < s1.capacityMeters)))
    recCapacity := if p.recHeadEnd.isSome then max p.recCapacity s1.capacityMeters else p.recCapacity })
  s2.setPwr (fun p => { p with outageLen := s2.outageSecs })

/-- Time at a release (R75, R77, R86, R92, R107): network time from the legal calendar, everything else afresh. A negative
shift in progress, HOLD, goes on (log entry 64). -/
def State.restartTime (s : State) : State :=
  let t0 := s.time
  let net : Int := (t0.calNs : Int) + (epoch2000 : Int) * 1000000000 + s.cfgI 2 0x31100E * 1000000000 - s.cfgI 2 0x31100F * 60000000000
  let s1 := s.setTime (fun _ =>
    { mono := t0.mono, net := net.toNat, period := 1000000000 / max (s.cfgN 0x310005) 1, snap := t0.snap
      cycle := (t0.snap.map (·.num)).getD 0
      cal := t0.cal, sub := t0.sub, osf := t0.osf, calWrap := t0.calWrap, setErr := t0.setErr, diverged := t0.diverged
      hold := t0.hold, lockout := t0.lockout, untrusted := t0.untrusted, oscStopped := t0.oscStopped, temp := t0.temp
      trim := t0.trim, trimMram := t0.trimMram, trimAcc := t0.trimAcc })
  (s1.setTime (fun t => { t with dst := s1.dstNow })).setPwr (fun p => { p with release := s1.time.net, releasedAt := s1.time.mono })

/-- A summary at a release (R391, R392): its bucket is full and the next occurrence has no interval. -/
def EvSummary.restarted (x : EvSummary) : EvSummary := { x with missing := 0, prevSec := none }

/-- The recorder at a release (R393, R396): what a failed CRC discards, the flush of what is left, and one more power cycle
after cause 1, which leaves nothing of the SRAM. The log goes on at the number its control part in MRAM gives (R397), so the
numbers of discarded entries are taken again. -/
def State.restartEvents (s : State) (x : StartUp) (cause : U8) : State :=
  let e := s.ev
  let cold := cause == 1
  let bufLost := (cold || !x.bufferOk) && e.buf != []
  let sumsLost := (cold || !x.sumsOk) && e.sums != e.sumsMram
  let e1 : EvState := { e with
    buf := if bufLost then [] else e.buf
    sums := (if sumsLost then e.sumsMram else e.sums).map (fun p => (p.1, p.2.restarted))
    nextNum := if bufLost then e.nextNum - BitVec.ofNat 32 e.buf.length else e.nextNum
    discarded := if bufLost then (match x.count with | some n => BitVec.ofNat 32 n | none => 0xFFFFFFFF) else 0
    powerCycles := if cold && e.powerCycles != 0xFFFFFF then e.powerCycles + 1 else e.powerCycles
    restart := true, writeThrough := false, flushes := 0 }
  ({ s with ev := e1.copyOut } : State).setPwr (fun p => { p with eventsDiscarded := bufLost || sumsLost })

/-- What a release reports (R30, R111, R112, R131, R293, R411, R412). -/
def State.reportRelease (s : State) (lost : Bool) : State :=
  let s1 := s.raise 0x041 s.pwr.cause.toNat
  let s2 := if lost then (s1.raise 0x043 0).tamperRecord 1 3 else s1
  let s3 := if s2.pwr.ctxFault then s2.raise 0x003 s2.pwr.ctxGib else s2
  let f := s3.trust.lcFuse
  let s4 := if f = 0 ∨ f = 1 ∨ f = 3 ∨ f = 7 then s3 else s3.raise 0x200 0
  let s5 := if s4.trust.persLock = 3 then s4.raise 0x200 4 else s4
  let s6 := if svnGap s5.trust.tfwSvn then s5.raise 0x200 (svnField 1) else s5
  let s7 := if svnGap s6.trust.afwSvn then s6.raise 0x200 (svnField 2) else s6
  if svnGap s7.trust.ucodeSvn then s7.raise 0x200 (svnField 3) else s7

/-- The Cistern at a release (R113, R117, R121, R337): keys of sealed slots from their copies, the others gone with their GEN
kept, roots and storage keys derived anew; the destructions that RETIRED requires (R115), and an unfinished sweep, made
whole. -/
def State.restartTrust (s : State) : State :=
  let old := s.trust.slots.map (fun (p : Nat × KeySlot) => (p.1, ({ attr := BitVec.ofNat 32 (p.2.gen * 64), key := [] } : KeySlot)))
  let slots := s.trust.sealedCopies.foldl (fun (t : Tbl KeySlot) p => tblPut t p.1 p.2) old
  let s1 : State := { s with trust := { s.trust with
      slots := slots, meterSlot := [], lru := [], attNonce := none, statement := [], sweep := none } }
  let s2 := s1.deriveRoots.storageKeys
  let l := if s2.trust.lc = .retired then s2.lifeDestroy .retired else (0, s2)
  let done := ((s.trust.sweep.map (·.zeroized)).getD 0) + l.1
  if s.trust.sweep.isNone ∧ l.1 = 0 then l.2
  else
    let d := l.2.sweepOrphans
    d.2.raise 0x202 ((done + d.1 : Nat) : Int)

/-- Scheduler, ports, links and acceptance at a release (R153, R164, R190, R215, R435). -/
def State.restartWork (s : State) (x : StartUp) : State :=
  let torn := (s.acc.journal.filter (fun e => x.torn.contains e.seq)).length
  let s1 : State := { s with
    cas := { nextId := s.cas.nextId, credit := s.cfgN 0x902002 }
    field := { s.field with
      ports := s.field.ports.map (fun (p : Nat × FieldPort) =>
        (p.1, ({ duty := p.2.duty, rekey := p.2.rekey, keyIndex := p.2.keyIndex, groupKey := p.2.groupKey } : FieldPort)))
      partners := s.field.partners.map (fun (p : Nat × Partner) =>
        (p.1, { p.2 with queue := [], flight := none, unacked := 0, hintDue := false, assignDue := false, noPath := 0
                         inHome := false, homeSf := none, draining := false }))
      links := [], mac := [], joinDue := [], joinPaths := [], acked := [], skipTo := 0 }
    late := []
    link :=
      { dlv := { gap := s.link.dlv.discard.gap }, nextTag := s.link.nextTag, prpSeq := s.link.prpSeq
        fn1 := s.cfgB 0x804001, service := s.cfgN 0xB00001 != 2 }
    acc := { s.acc with
      journal := s.acc.journal.filter (fun e => !x.torn.contains e.seq)
      ctx := [], cache := [], cnt := List.replicate 12 0, deciding := [], fwd := [], ext := [], align := [], inputs := []
      replayed := 0, closed := false, highRaised := false, stuckRaised := false, torn := torn } }
  if torn = 0 then s1 else s1.raise 0x0C4 torn

/-- The records of a class whose stream ends in data units never programmed are lost (R328, R332); the journal replays what
they came from. -/
def ArchState.dropTail (a : ArchState) (cls : Nat) : ArchState :=
  let d := tblGet 0 a.done cls * 4096
  let l := (tblGet [] a.recs cls).filter (fun r => decide (r.pos + r.len ≤ d))
  { a with recs := if l = [] then tblDel a.recs cls else tblPut a.recs cls l, pos := tblPut a.pos cls d }

/-- Archive and Host Volume at a release (R322, R332, R341, R342): targets judged, what was not programmed is gone, the
controller is reset. -/
def State.restartArchive (s : State) : State :=
  let u := usableTargets s.arch.fitted
  let a := (List.range 10).foldl (fun (x : ArchState) (c : Nat) => if tblGet 0 x.pos c = tblGet 0 x.done c * 4096 then x else x.dropTail c) s.arch
  let s1 : State := { s with arch := { a with
    usable := u.1, waiting := [], nvWait := [], ckpt := none, ckptDue := none, restored := false, wbuf := [], ccEn := false, rdy := false
    nsUp := false, cqs := [], sqs := [], feats := [], aers := [], events := [], maskedEv := [], hmbMib := 0, resident := []
    onChip := [], scratchSeg := none, mapChip := []
    uncorr := 0, relocated := 0, commitUs := 0, late := 0, restoreMs := 0, hmbBad := 0 } }
  u.2.foldl (fun (t : State) (k : Nat) => t.raise 0x180 (k : Int)) s1

/-- The application state at a release (R290, R293, R296, R313, R316, R332): what the checkpoints hold, the outage on the
billing time line, loads held. -/
def State.restartBilling (s : State) : State :=
  let s1 : State := { s with bill := { s.bill with
    app := { s.bill.app with splits := 0, lgSent := [], lgUnacked := [] }.over s.bill.durable
    snapshot := none, snapDue := none, dispAlt := false, dispItem := 0, dispHold := false, dispChanged := true
    hMinutes := 0, changed := [], gets := []
    groups := s.bill.groups.map (fun p => (p.1, { p.2 with h := p.2.hMram, switchings := 0 }))
    relays := s.bill.relays.map (fun p => (p.1, { p.2 with ops := 0, unaligned := 0 })) } }
  let s2 := s1.holdGroups
  if s2.pwr.outageOpen = false ∨ s2.bill.warning.isSome = true then s2
  else
    let line := s2.line
    let w := match s2.outageStart, s2.pwr.retentionLost with
      | some c, false => line - ((s2.time.calNs : Int) - (c.secs : Int) * 1000000000)
      | _, _ => max line (((s2.bill.app.openIval).map (fun p => p.2.from_)).getD line)
    { s2 with bill := { s2.bill with warning := some (w, s2.time.cycle, s2.bill.app.shift) } }

/-- Balance, updates and the pair at a release (R253, R363, R377): orders go on, with their arms and answers (R257); counters, members'
records and the records shown are at their defaults (R51). -/
def State.restartRest (s : State) : State :=
  let s1 : State := { s with
    bal := { applied := s.bal.applied, lastId := s.bal.lastId, orders := s.bal.orders
             segs := s.bal.segs.map (fun (p : Nat × Segment) => (p.1, { p.2 with records := [] })) }
    upd := { s.upd with
      dl := none, dlKind := none, dlState := 0, lastFrame := [], stdSent := [], camps := s.upd.camps.map (fun (p : Nat × Campaign) => (p.1, { p.2 with unicasts := 0 })) }
    pair := { restarts := s.pair.restarts, gapStart := s.pair.gapStart, gapEnd := s.pair.gapEnd
              role := if s.cfgN 0xB00001 = 2 then .starting else .solo } }
  s1.campaignsResume

/-- A context as its snapshot restores it (R183): what the 48 bytes do not hold is zero. -/
def Ctx.restored (c : Ctx) : Ctx :=
  { pinned := true, counterValid := c.counterValid, seqValid := c.seqValid, counter := c.counter, keyVersion := c.keyVersion
    digest := c.digest, jseq := c.jseq, invoc := c.invoc, lastSeq := c.lastSeq, access := c.access
    ack := (leBytes 4 c.counter.toNat ++ slice c.ack 4 3 ++ List.replicate 16 0).take 16 }

/-- A context raised to an unretired entry of its meter (R183, R187). -/
def Ctx.raised (c : Ctx) (e : JEntry) : Ctx :=
  if e.unsecured ∨ (c.counterValid ∧ e.seq < c.jseq) then c
  else { c with
    counter := e.counter, counterValid := true, digest := e.digest, jseq := e.seq, lastAt := e.at_, link := e.link
    keyVersion := e.keyVersion
    access := if e.link.toNat % 256 = 6 then e.counter.setWidth 8 else c.access
    ack := (leBytes 4 e.counter.toNat ++ [e.ackFlags] ++ leBytes 2 e.ackOffset.toNat ++ List.replicate 16 0).take 16 }

/-- Meters whose contexts are pinned (R181): partners, and in Station profile every meter in use. -/
def State.pinnedMeters (s : State) : List Nat :=
  s.trust.pins ++ (if s.keepsRemote then [] else (s.trust.meters.map (·.1)).filter (fun h => !s.trust.pins.contains h))

/-- Pinned contexts restored from their snapshots, and every context raised to the open entries (R183). -/
def State.restoreContexts (s : State) : State :=
  let ctx := s.pinnedMeters.foldl (fun (t : Tbl Ctx) h => tblPut t h (((tblFind? s.acc.snaps h).getD {}).restored)) s.acc.ctx
  let opened := s.acc.journal.filter (·.isOpen)
  let raised := opened.foldl (fun (t : Tbl Ctx × Tbl Ctx) e =>
    match tblFind? t.1 e.handle with
    | some c => (tblPut t.1 e.handle (c.raised e), t.2)
    | none => match tblFind? t.2 e.handle with
      | some c => (t.1, tblPut t.2 e.handle (c.raised e))
      | none => t) (ctx, s.acc.ctxMem)
  { s with acc := { s.acc with ctx := raised.1, ctxMem := raised.2 } }

/-- A pinned partner's key back in a slot, pinned, and its handle in its context (R125). -/
def State.reloadPin (s : State) (h : Nat) : State :=
  let k := s.loadKey h
  match k.1 with
  | none => k.2
  | some n =>
    let s1 := k.2.setSlot n { (k.2.slot n) with attr := (k.2.slot n).attr ||| 1 }
    s1.setCtx h (fun c => { c with keyHandle := BitVec.ofNat 32 (s1.handleFor n) })

/-- R183, R419: contexts restored and the journal scanned; POWER_OUTAGE reports an outage that start-up has found. -/
def execAcceptanceReady (s : State) : Result :=
  .next (if s.pwr.inReset = true ∨ s.pwr.pfw = true ∨ s.pwr.acceptReady = true ∨ s.pwr.stage < 5 then s
    else
      let s1 := s.trust.pins.foldl (fun t h => t.reloadPin h) s.restoreContexts
      let s2 := (s1.journalMarks.setPwr (fun p => { p with acceptReady := true })).reachPhase 4
      if s2.pwr.outageOpen then
        (s2.raise 0x040 s2.outageSecs).setPwr (fun p => { p with
          outageOpen := false, outageRec := none, warnTick := none, outageLen := s2.outageSecs })
      else s2)

/-- R68: the dictionary is available; without valid application firmware it never is, and the Grotto serves its part (R354). -/
def execDictionaryAvailable (s : State) : Result :=
  .next (if s.pwr.inReset = true ∨ s.pwr.stage < 6 then s
    else if s.upd.down.contains 2 then s
    else ({ s with dict := { s.dict with available := true } } : State).reopenMismatch.reachPhase 5)

/-- An erase recorded as started has ended by the end of the period (R333, log entry 41). -/
def State.erasesEnded (s : State) : State := { s with arch := { s.arch with erasing := [] } }

/-- Objects that take effect at the next period are in force (R19). -/
def State.periodValues (s : State) : State :=
  { s with dict := { s.dict with
      shadow := s.dict.shadow.filter (fun p => match findRow (p.1 / 2 ^ 64) with | some o => o.eff != .nextPeriod | none => true) } }

/-- What paces itself by the period (R140, R154, R175): joins and re-authentications. -/
def State.pacedAfresh (s : State) : State :=
  { s with field := { s.field with ports := s.field.ports.map (fun (p : Nat × FieldPort) => (p.1, { p.2 with joins := 0, reauths := 0 })) } }

end Sys2Proof.Machine
end

