-- ==== Sys2Proof/Machine/Groups.lean ====
section
/-! DEFINITION. Consistency groups (R52 to R58): the commit, the discard, the switch at the safe point and what each block
does at its own, the mismatch of OCB personality, and the restore of defaults (R51). -/

namespace Sys2Proof.Machine

/-- A member of a table of values has an object number within bounds. -/
def touches (ch : Tbl Bytes) (lo hi : Nat) : Bool :=
  ch.any (fun (p : Nat × Bytes) => decide (lo ≤ p.1 / 2 ^ 64) && decide (p.1 / 2 ^ 64 ≤ hi))

/-- R140: the group master key of a power-line port that runs G3-PLC has changed: every joined partner is to
re-authenticate, and the port sends under the old key meanwhile. -/
def State.startRekey (s : State) (p : Nat) (ch : Tbl Bytes) : State :=
  match tblFind? ch (storeKey ((0x4004 + 16 * p) * 256 + 3) 0) with
  | none => s
  | some old =>
    let gen := s.pcfg p 1 1
    if gen ≠ 1 ∧ gen ≠ 2 then s
    else
      let s1 := s.setFport p (fun x => { x with
        rekey := some { old := leNat old, index := x.keyIndex, start := s.time.net } })
      { s1 with field := { s1.field with
          partners := s1.field.partners.map (fun x => (x.1, if x.2.port = p ∧ x.2.joined = true then { x.2 with rekeyed := false } else x.2)) } }

/-- R88: a change of mode starts the servo's integral from the rate in use. -/
def State.timeApplied (s : State) (ch : Tbl Bytes) : State :=
  if touches ch 0x311002 0x311002 then { s with time := { s.time with rateBase := s.time.rate, integral := 0 } } else s

/-- R248: coefficients of a channel that is on have changed. -/
def State.weirApplied (s : State) (ch : Tbl Bytes) : State :=
  if ch.any (fun (p : Nat × Bytes) =>
    [0x601102, 0x601103, 0x601104, 0x601106, 0x601107, 0x601108].contains (p.1 / 2 ^ 64) && s.chanOn (p.1 % 2 ^ 64))
  then s.weirCalApplied else s

/-- Segments that changed values of group 0x1F touch: their own objects, and those a meter leaves and enters (R258). The schedule
and engine objects touch none. -/
def State.touchedSegments (s : State) (ch : Tbl Bytes) : List Nat :=
  ((ch.flatMap (fun (p : Nat × Bytes) =>
    if p.1 / 2 ^ 64 = 0xC04001 then [leNat p.2, s.cfgN 0xC04001 (p.1 % 2 ^ 64)]
    else if p.1 / 2 ^ 64 / 256 = 0x6111 then [p.1 % 2 ^ 64]
    else [])).eraseDups).filter (fun (g : Nat) => decide (g < s.segCapacity))

/-- Meters whose segment changed: their score and state start afresh in the new one (R271). -/
def State.membersMoved (s : State) (ch : Tbl Bytes) : State :=
  (ch.filter (fun (p : Nat × Bytes) => p.1 / 2 ^ 64 == 0xC04001)).foldl (fun (t : State) (p : Nat × Bytes) =>
    t.setMember (p.1 % 2 ^ 64) (fun m => { phase := m.phase, cand := m.cand, votes := m.votes })) s

/-- R258: every touched segment has its baseline reset; a change of its check source re-initialises its model. A change to
the loss coefficients or the forgetting factor keeps the model. The members of a segment whose phase is now another are judged
(R267). -/
def State.segmentsApplied (s : State) (ch : Tbl Bytes) : State :=
  (s.touchedSegments ch).foldl (fun (t : State) (g : Nat) =>
    (t.membersOf g).foldl (fun (u : State) (h : Nat) => u.judgeMember h)
      (t.touchSegment g ([0x611101, 0x611102, 0x611103, 0x611104].any (fun (n : Nat) => (tblFind? ch (storeKey n g)).isSome))))
    (s.membersMoved ch)

/-- R329, R341: a shrunk archive drops lossy data; a Host Volume turned off is erased. -/
def State.archiveApplied (s : State) (ch : Tbl Bytes) : State :=
  let s1 := if touches ch 0x800201 0x800201 then s.makeRoom 0 ((s.recsOf 7).length + (s.recsOf 8).length + (s.recsOf 9).length) else s
  if touches ch 0x804001 0x804001 ∨ touches ch 0x800203 0x800203 then s1.hostVolume (touches ch 0x804001 0x804001 && !s.cfgB 0x804001) else s1

/-- R107: legal time's offset follows the table at once, and the rates follow billing time; a meter's table before the switch was in
force up to now (R273, R277). -/
def State.offsetApplied (s : State) (ch : Tbl Bytes) : State :=
  let s1 := (ch.filter (fun (p : Nat × Bytes) => p.1 / 2 ^ 64 == 0xC05001)).foldl (fun (t : State) (p : Nat × Bytes) =>
    t.setMbill (p.1 % 2 ^ 64) (fun m => { m with tables := (t.line, leNat p.2) :: m.tables })) s
  ({ s1 with time := { s1.time with dst := s1.dstNow } } : State).followRates

/-- Meters whose prepayment is off have nothing to charge (R301, R302); states and deferred disconnections follow the new values
(R305, R307). -/
def State.prepayApplied (s : State) : State :=
  ((s.bill.app.ledgers.map (fun p => p.1)).foldl (fun (t : State) (h : Nat) =>
    (if t.payMode h = 0 then t.setLedger h (fun l => { l with due := List.replicate 8 0 }) else t).evalCredit h) s).retest

/-- A session with a transfer in progress acts on the values of group 0x00 before the switch until the end of that request (R55). -/
def State.keepOlder (s : State) (ch : Tbl Bytes) : State :=
  { s with dict := { s.dict with sessions := s.dict.sessions.map (fun (p : Nat × Session) =>
      (p.1, if p.2.xfer.isSome then { p.2 with older := ch.foldl (fun (t : Tbl Bytes) (x : Nat × Bytes) =>
        if (tblFind? t x.1).isSome then t else tblPut t x.1 x.2) p.2.older } else p.2)) } }

/-- What the block of a group does at the switch, by the values that changed (with the ones acted on before). -/
def State.applied (s : State) (g : Nat) (ch : Tbl Bytes) : State :=
  if g = 0 then s.keepOlder ch
  else if 1 ≤ g ∧ g ≤ 0x0C then s.startRekey (g - 1) ch
  else if 0x0D ≤ g ∧ g ≤ 0x18 then s.radioApplied (g - 1)
  else if g = 0x19 then
    -- R453: the port closes with the protocol
    if s.cfgB 0x27000A then s else { s with link := { s.link with heConn := [] } }
  else if g = 0x1C then s.timeApplied ch
  else if g = 0x1D then s.releaseDone.showResults
  else if g = 0x24 then s.journalMarks
  else if g = 0x1E then s.weirApplied ch
  else if g = 0x1F then s.segmentsApplied ch
  else if g = 0x20 then s.offsetApplied ch
  else if g = 0x21 then s.prepayApplied
  else if g = 0x22 then s.relaysFollow
  else if g = 0x23 then s.archiveApplied ch
  else s

/-- The group's stored values come into force together (R54, R58). -/
def State.switchGroup (s : State) (g : Nat) : State :=
  let ch := s.changes g
  ((s.dropStandIns g).applied g ch).groupSettled g

/-- R55: what State holds of a safe point: a field port has no acknowledgement outstanding, its own or a partner's, a serial port no
exchange in progress (log entry 47), and the latch boundary of groups 0x1E and 0x1F waits for every latch order. A transport
session changes at the end of its own request (`State.keepOlder`). The rest of it, a frame on the line or the start of a period, is
the event's. -/
def State.atSafePoint (s : State) (g : Nat) : Bool :=
  if g = 0 then true
  else if g ≤ 0x18 then (s.fport (g - 1)).acks == [] && s.field.partners.all (fun (p : Nat × Partner) => p.2.port != g - 1 || p.2.flight.isNone)
  else if g = 0x1A then s.link.serial.all (fun (p : Nat × SerialPort) => p.2.asking.isNone)
  else if g = 0x1E ∨ g = 0x1F then !s.orderOut && s.weir.latches == []
  else true

/-- In OCB personality a block that acts on values written since checks its group (R58): a consistent set is in force from
then on, and mirrored; an inconsistent one opens or continues an episode. -/
def State.checkGroup (s : State) (g : Nat) : State :=
  if s.changes g = [] ∧ (s.group g).st ≠ .mismatch then s
  else if s.groupOk g then
    let set := (s.changes g).map (fun (p : Nat × Bytes) => (p.1, s.stored (p.1 / 2 ^ 64) (p.1 % 2 ^ 64)))
    (s.mirror .configuration g (committedBytes set)).switchGroup g
  else if (s.group g).st = .mismatch then s
  else s.setGroup g (fun (x : Group) => { x with st := .mismatch, mismatchSince := s.time.net })

/-- R54: at the block's safe point all members of a committed group switch together. In OCB personality this is the moment
at which the block next acts on the group's values, and checks those written since (R58, log entry 47). -/
def execGroupSafePointApply (group : Fin 39) (s : State) : Result :=
  let g := group.val
  .next (
    if (s.group g).st = .applying then (if s.atSafePoint g then (s.storeCommitted g).switchGroup g else s)
    else if s.pwr.ocb = true ∧ s.atSafePoint g = true then s.checkGroup g
    else s)

/-- R58: a group that is still inconsistent after 500 ms raises CFG_MISMATCH once for the episode. -/
def execCfgMismatchTimeout (group : Fin 39) (s : State) : Result :=
  let g := group.val
  let x := s.group g
  .next (
    if x.st = .mismatch ∧ x.mismatchRaised = false ∧ x.mismatchSince + 500000000 ≤ s.time.net ∧ s.groupOk g = false then
      (s.setGroup g (fun (y : Group) => { y with mismatchRaised := true })).raise 0x002 g
    else s)

/-- The body of the commit subindex (R54, R57). -/
def commitBody (r : Req) (g count : Nat) (s : State) : CmdOut :=
  let set := groupEntries g s.dict.pend
  if (s.group g).st = .applying then .refuse .groupBusy s
  else if count ≠ 0 ∧ count ≠ set.length then .refuse .groupInconsistent s
  else if set = [] then .done s
  else if !s.groupOk g then .failed .groupInconsistent s
  else if !r.storeOk then .failed .cannotStore s
  else .done ((s.commitSet g set).mirror .configuration g (committedBytes set))

/-- R54: a write to 0x1F00+g:03. -/
def State.commitCmd (s : State) (r : Req) (g : Nat) (arg : Bytes) : State :=
  s.command r ((0x1F00 + g) * 256 + 3) arg (fun _ t => commitBody r g (leNat arg) t)

def execCommit (r : Req) (group : Fin 39) (arg : Bytes) (s : State) : Result := .next (s.commitCmd r group.val arg)

/-- The body of the discard subindex (R57). -/
def discardBody (g n : Nat) (s : State) : CmdOut :=
  if n ≠ 0 then .refuse .valueInvalid s
  else if (s.group g).st = .applying then .refuse .groupBusy s
  else .done (({ s with dict := { s.dict with pend := groupOthers g s.dict.pend } }).setGroup g
    (fun (x : Group) => if x.st = GroupSt.pending then { x with st := .idle } else x))

/-- R57: a write to 0x1F00+g:04. -/
def State.discardCmd (s : State) (r : Req) (g : Nat) (arg : Bytes) : State :=
  s.command r ((0x1F00 + g) * 256 + 4) arg (fun _ t => discardBody g (leNat arg) t)

def execDiscard (r : Req) (group : Fin 39) (arg : Bytes) (s : State) : Result := .next (s.discardCmd r group.val arg)

/-- R51: command 0x1011:01 restores the defaults of every persistent object outside 0xA000-0xBFFF from the next reset. -/
def State.restoreCmd (s : State) (r : Req) (arg : Bytes) : State :=
  s.command r 0x101101 arg (fun _ t =>
    if leNat arg ≠ 0x64616F6C then .refuse .valueInvalid t
    else .done { t with dict := { t.dict with restore := true } })

def execRestoreDefaults (r : Req) (arg : Bytes) (s : State) : Result := .next (s.restoreCmd r arg)

end Sys2Proof.Machine
end

