-- ==== Sys2Proof/Machine/Sessions.lean ====
section
/-! DEFINITION. Dictionary sessions (R47, R48, R50): the challenge and its response, the lockout and the idle timeout. -/

namespace Sys2Proof.Machine

/-- Draw a fresh challenge for a session (R48). -/
def State.redrawAuth (s : State) (i : SessId) : State :=
  (s.draw.2).setSess i (fun x => { x with challenge := some s.draw.1 })

/-- R48: a read of 0x1020:00 draws and returns the session's challenge. -/
def State.challengeRead (s : State) (r : Req) : State :=
  match s.readGuard r 0x102000 with
  | .error a => s.respond r (.abort a)
  | .ok _ => (s.redrawAuth r.sess).respond r (.ok (octets (drawBytes s.draw.1)))

def execAuthenticationChallengeRead (r : Req) (s : State) : Result := .next (s.challengeRead r)

/-- The role of a code from 1 to 4 (R48). -/
def roleOfCode (n : Nat) : Role :=
  if n = 4 then .utility else if n = 3 then .installer else if n = 2 then .operator else .observer

/-- The slot of a role's key, 8 to 11, where it may be used (R48, R117, R119). -/
def State.roleSlot (s : State) (code : Nat) : Option Nat :=
  match s.keyCheck ((s.slot (7 + code)).gen * 2 ^ 15 + 7 + code) .hmac true with
  | .ok n => some n
  | .error _ => none

/-- The HMAC of a response holds (R48): over the challenge, the role code and the transport code. -/
def State.responseOk (s : State) (i : SessId) (transport : Nat) (v : Bytes) : Bool :=
  let code := fieldAt v 0 1
  match s.roleSlot code, (s.sess i).challenge with
  | some n, some c =>
    slice v 1 32 == Config.hmac (s.slot n).key (drawBytes c ++ [BitVec.ofNat 8 code, BitVec.ofNat 8 transport])
  | _, _ => false

/-- A wrong response (R48): counted on its transport; the fifth in a row locks the transport and raises AUTH_FAIL. -/
def State.wrongResponse (s : State) (tr : Transport) (transport : Nat) : State :=
  let n := tblGet 0 s.dict.wrong transport + 1
  let s1 : State := { s with dict := { s.dict with wrong := tblPut s.dict.wrong transport n } }
  if n < 5 then s1
  else ({ s1 with dict := { s1.dict with locked := tr :: s1.dict.locked.erase tr } } : State).raise 0x001 transport

/-- The HMAC over a session's challenge uses the role's key, whatever it gives (R119, R120). -/
def State.useRoleKey (s : State) (i : SessId) (code : Nat) : State :=
  match s.roleSlot code, (s.sess i).challenge with
  | some n, some _ => s.usedSlot n
  | _, _ => s

/-- The checks of a response in the order of R48: the abort, or none, and what the check leaves. -/
def State.judgeResponse (s : State) (i : SessId) (v : Bytes) : Option Abort × State :=
  let code := fieldAt v 0 1
  match Transport.authCode i.tr with
  | none => (some .unsupportedAccess, s)
  | some t =>
    if s.dict.locked.contains i.tr then (some .accessDenied, s)
    else if code = 0 ∨ 4 < code then (some .valueInvalid, s)
    else if i.tr = Transport.probe ∧ s.cfgN 0x106002 < code then (some .accessDenied, s)
    else
    let s1 := s.useRoleKey i code
    if s.responseOk i t v then
      (none, { s1 with dict := { s1.dict with wrong := tblDel s1.dict.wrong t } }.setSess i (fun x =>
        { x with role := roleOfCode code, vendorLimit := 0 }))
    else (some .accessDenied, s1.wrongResponse i.tr t)

/-- R48: a write to 0x1021:00. Every response draws a new challenge. -/
def State.authResponse (s : State) (r : Req) (v : Bytes) : State :=
  match s.locate r 0x102100 with
  | .error a => s.respond r (.abort a)
  | .ok o =>
    match s.accessRefuses r 0x102100 o .write with
    | some a => s.respond r (.abort a)
    | none => match o.checkValue v with
      | some a => s.respond r (.abort a)
      | none =>
        let x := s.judgeResponse r.sess (v.drop 2)
        (x.2.redrawAuth r.sess).respond r (match x.1 with | some a => .abort a | none => .ok [])

def execAuthenticationResponse (r : Req) (v : Bytes) (s : State) : Result := .next (s.authResponse r v)

/-- R48: 60 s after the fifth wrong response a transport is accepted again. -/
def execAuthLockoutExpiry (tr : Transport) (s : State) : Result :=
  .next (if s.dict.locked.contains tr then
      { s with dict := { s.dict with
          locked := s.dict.locked.erase tr, wrong := tblDel s.dict.wrong ((Transport.authCode tr).getD 0) } }
    else s)

/-- A session falls back to Observer (R48). -/
def State.toObserver (s : State) (i : SessId) : State := s.setSess i (fun x => { x with role := .observer, vendorLimit := 0 })

/-- R48: a session without a request for 0x1023:00 seconds. -/
def execSessionIdleTimeout (i : SessId) (s : State) : Result := .next (s.toObserver i)

end Sys2Proof.Machine
end

