-- ==== Sys2Proof/Machine/Ocb.lean ====
section
/-! DEFINITION. The OCB view's mapping (R446, R448), its access codes, legal time and event table (R447, R449, R455), and the
OCB-24 head-end protocol (R453). -/

namespace Sys2Proof.Machine

/-- An index of the view that is mapped onto native objects (R448), with its highest subindex; 0 where the object is not a
RECORD. -/
def ocbIndex (ix : Nat) : Option Nat :=
  if 0x2200 ≤ ix ∧ ix ≤ 0x220B then some 6
  else [(0x2210, 1), (0x2211, 1), (0x2301, 8), (0x2302, 0), (0x2600, 4), (0x2601, 0)].lookup ix

/-- The native object behind an object of the view (R448). -/
def ocbTarget (num : Nat) : Option Nat :=
  let ix := num / 256
  let sub := num % 256
  if 0x2200 ≤ ix ∧ ix ≤ 0x220B then
    let b := 0x4000 + 16 * (ix - 0x2200)
    if 1 ≤ sub ∧ sub ≤ 4 then some (b * 256 + sub)
    else if sub = 5 ∨ sub = 6 then some ((b + 1) * 256 + sub - 3)
    else none
  else if ix = 0x2301 then
    if 1 ≤ sub ∧ sub ≤ 6 then some (0xC05002 + sub)
    else if sub = 7 then some 0xC05001
    else if sub = 8 then some 0xC02001
    else none
  else [(0x221001, 0x104001), (0x221101, 0x104004), (0x230200, 0xC01001), (0x260001, 0x700302), (0x260002, 0x700303),
    (0x260003, 0x700304), (0x260004, 0x700305), (0x260100, 0x301101)].lookup num

/-- What the view shows of a native value (R448): whole Wh modulo 2^32, the low 16 bits of the period number, or the value. -/
def ocbShown (num : Nat) (v : Bytes) : Bytes :=
  if 0x230101 ≤ num ∧ num ≤ 0x230106 then leBytes 4 ((toSigned 64 (leNat v) / 1000) % 2 ^ 32).toNat
  else if num = 0x260003 then v.take 2
  else v

/-- The request as it reaches the native object: the meter is the one under the session's OCB selector (R446). -/
def State.viewReq (s : State) (r : Req) : Req :=
  { r with view := true, handle := some (BitVec.ofNat 20 (s.sessVal r.sess 0x230000)) }

/-- An object of the view that the mapping does not name (R42, R446): the RECORD's subindex 0, or none. -/
def State.viewGap (s : State) (r : Req) (num : Nat) : Except Abort Bytes :=
  if !s.dict.available then .error .notReady
  else if r.sess.tr = .sdo ∧ s.isStandby then .error .deviceBusy
  else if s.trust.lc = .retired ∨ (s.trust.lc = .blank ∧ (s.sess r.sess).role ≠ .vendor) then .error .lifeCycle
  else match ocbIndex (num / 256) with
    | some (k + 1) => if num % 256 = 0 then .ok [BitVec.ofNat 8 (k + 1)] else .error .noSubindex
    | _ => .error .noSubindex

/-- Digest under which an access code is kept (R449). -/
def State.codeDigest (s : State) (v : Bytes) : Bytes := Config.sha256 (v ++ s.serialBytes)

/-- R449: a write to 0x2002: only the digest is stored; code 0 leaves the role without a code. -/
def State.codeWrite (s : State) (r : Req) (num : Nat) (v : Bytes) : State :=
  match s.locate r num with
  | .error a => s.respond r (.abort a)
  | .ok o =>
    match s.accessRefuses r num o .write with
    | some a => s.respond r (.abort a)
    | none => match o.checkValue v with
      | some a => s.respond r (.abort a)
      | none =>
        if !r.storeOk then s.respond r (.abort .cannotStore)
        else (s.storeVal num 0 (if leNat v = 0 then v else s.codeDigest v)).respond r (.ok [])

/-- The highest role whose stored code matches (R449). -/
def State.codeRole (s : State) (v : Bytes) : Option Nat :=
  [4, 3, 2, 1].find? (fun (k : Nat) => s.stored (0x200200 + k) 0 == s.codeDigest v)

/-- The body of an access code entry (R449): logoff always succeeds; the fifth wrong code in a row locks entry. -/
def State.enterCode (s : State) (i : SessId) (v : Bytes) : Option Abort × State :=
  if leNat v = 0 then (none, s.toObserver i)
  else if s.link.codeLocked then (some .accessDenied, s)
  else match s.codeRole v with
    | some k => (none, { s with link := { s.link with codeWrong := 0 } }.setSess i (fun x => { x with role := roleOfCode k }))
    | none =>
      let n := s.link.codeWrong + 1
      let s1 : State := { s with link := { s.link with codeWrong := n, codeLocked := decide (5 ≤ n) } }
      (some .accessDenied, if n < 5 then s1 else s1.raise 0x001 5)

/-- R449: a write to 0x2001:00, over classic SDO alone. -/
def State.codeEntry (s : State) (r : Req) (v : Bytes) : State :=
  match s.locate r 0x200100 with
  | .error a => s.respond r (.abort a)
  | .ok o =>
    if r.sess.tr ≠ .sdo then s.respond r (.abort .unsupportedAccess)
    else match s.accessRefuses r 0x200100 o .write with
    | some a => s.respond r (.abort a)
    | none => match o.checkValue v with
      | some a => s.respond r (.abort a)
      | none =>
        let x := s.enterCode r.sess v
        x.2.respond r (match x.1 with | some a => .abort a | none => .ok [])

def execAccessCodeEntry (r : Req) (v : Bytes) (s : State) : Result := .next (s.codeEntry r v)

/-- R449: 60 s after the fifth wrong code. -/
def execAccessCodeLockoutExpiry (s : State) : Result :=
  .next (if s.link.codeLocked then { s with link := { s.link with codeLocked := false, codeWrong := 0 } } else s)

/-- R447: a write to 0x2100:00, YY MM DD hh mm ss, is a calendar set with century 20. -/
def State.legalTimeWrite (s : State) (r : Req) (v : Bytes) : State :=
  match s.locate r 0x210000 with
  | .error a => s.respond r (.abort a)
  | .ok o =>
    match s.accessRefuses r 0x210000 o .write with
    | some a => s.respond r (.abort a)
    | none => match o.checkValue v with
      | some a => s.respond r (.abort a)
      | none =>
        let arg : Bytes := (v.drop 2).reverse ++ [0x20]
        if !setArgOk arg then
          (({ s with time := { s.time with setErr := true } } : State).raise 0x051 0).respond r (.abort .valueInvalid)
        else if s.time.lockout then s.respond r (.abort .notReady)
        else if s.time.pendSet.isSome then s.respond r (.abort .deviceBusy)
        else { s with time := { s.time with pendSet := some (CalTime.ofBcd7 arg, some (r, false)) } }

def execOcbLegalTimeWrite (r : Req) (v : Bytes) (s : State) : Result := .next (s.legalTimeWrite r v)

/-- R455: command 0x2400:03 empties the table and nothing else. -/
def State.clearOcbCmd (s : State) (r : Req) (arg : Bytes) : State :=
  s.command r 0x240003 arg (fun _ t =>
    if leNat arg ≠ 0 then .refuse .valueInvalid t
    else .done (({ t with ev := { t.ev with ocb := [] } } : State).raise 0x260 (0x80 * 2 ^ 32)))

def execClearOcbEventTable (r : Req) (arg : Bytes) (s : State) : Result := .next (s.clearOcbCmd r arg)

/-- The head-end port is open, and the concentrator is listed (R453). -/
def State.headEndOpen (s : State) (addr : U32) : Bool :=
  s.acting && s.pwr.ocb && s.cfgB 0x27000A && decide (s.link.heConn.length < 8) && addr != 0 &&
  (List.range 8).any (fun (i : Nat) => s.cfgOct (0x270002 + i) == beBytes 4 addr.toNat)

/-- R453: a TCP connection to the head-end port. -/
def execOcbHeadendConnect (conn : Nat) (addr : U32) (s : State) : Result :=
  .next (if (tblFind? s.link.heConn conn).isSome then s
    else if s.headEndOpen addr then { s with link := { s.link with heConn := tblPut s.link.heConn conn addr } }
    else s.emit (.tcpReset addr))

/-- A connection is closed. -/
def State.closeHeadEnd (s : State) (conn : Nat) : State := { s with link := { s.link with heConn := tblDel s.link.heConn conn } }

/-- R453, R198: a delivered LPDU taken as a record of generation 5 from source 77. -/
def State.headEndRecord (s : State) (conn number handle : Nat) (lpdu : Bytes) (stamp : Nat) : State :=
  let unconfirmed := fun (t : State) => ({ t with link := { t.link with heUnconf := t.link.heUnconf + 1 } } : State)
  let x : FwdRecord :=
    { gen := 5, handle := BitVec.ofNat 20 handle, tag := 0, frame := { handle := BitVec.ofNat 20 handle, counter := 0, bytes := lpdu } }
  if !s.takesFrames then unconfirmed s.turnedAway
  else match fwdOffer 77 (BitVec.ofNat 16 (3 * 2 ^ 14 + 32 * 256 + 5)) x stamp with
    | none => unconfirmed s
    | some o =>
      let a := s.accept o
      if a.1 = .accepted ∨ a.1 = .duplicate then
        let c := (a.2.ctxOf o.handle).getD {}
        if a.2.acc.deciding.any (fun d => d.seq == c.jseq) then
          let w : FwdWait := { req := { sess := ⟨.internal, conn⟩ }, he := some (conn, number), results := [([], some c.jseq)] }
          { a.2 with acc := { a.2.acc with fwd := a.2.acc.fwd ++ [w] } }
        else a.2.emit (.headEnd conn 2 number)
      else unconfirmed a.2

/-- R453: a message on an open connection: a malformed one closes it, a delivery is accepted as a record, any other type
asks for nothing. -/
def execOcbHeadendDelivery (conn : Nat) (msg : Bytes) (stamp : Nat) (s : State) : Result :=
  .next (s.orWait 77 (.ocbHeadendDelivery conn msg stamp) (if (tblFind? s.link.heConn conn).isNone then s
    else
      let len := beNat (slice msg 0 2)
      let type := fieldAt msg 2 1
      if len < 10 ∨ 252 < len ∨ len ≠ msg.length ∨ type = 0 then s.closeHeadEnd conn
      else if type = 1 then (s.atNet stamp).headEndRecord conn (beNat (slice msg 4 4)) (beNat (slice msg 8 2)) (msg.drop 10) stamp
      else s))

/-- R453: 30 s without traffic. -/
def execOcbHeadendKeepaliveTx (conn : Nat) (s : State) : Result :=
  .next (if (tblFind? s.link.heConn conn).isSome then s.emit (.headEnd conn 3 0) else s)

/-- R453: 120 s without a message. -/
def execOcbHeadendIdleClose (conn : Nat) (s : State) : Result := .next (s.closeHeadEnd conn)

end Sys2Proof.Machine
end

