-- ==== Sys2Proof/Machine/Flags.lean ====
section
/-! DEFINITION. The status words, bit by bit: the device's status (R72), the calendar's (R105), the reset flags (R424), the
supply status (R425) and the OCB status (R447). -/

namespace Sys2Proof.Machine

/-- The number whose bits, from bit 0 up, a list gives. -/
def bitsNat : List Bool → Nat
  | [] => 0
  | b :: bs => bit b + 2 * bitsNat bs

/-- Some group is in a state. -/
def State.anyGroup (s : State) (p : GroupSt → Bool) : Bool := s.dict.groups.any (fun (x : Nat × Group) => p x.2.st)

/-- CFG_MISMATCH (R72): some group is in MISMATCH. -/
def State.cfgMismatch (s : State) : Bool := s.anyGroup (· == .mismatch)

/-- PAIR_ROLE (R72): 0 Solo, 1 Active, 2 Standby; a paired unit that is not ACTIVE answers as a Standby does (R38). -/
def State.pairRole (s : State) : Nat := if s.pair.role = .solo then 0 else if s.acting then 1 else 2

/-- The status word 0x1002:00 (R72). -/
def State.statusWord (s : State) : Nat :=
  (if s.pwr.ocb then 2 else 1) + bit (s.trust.persLock != 0) * 4 + bit s.pwr.headEnd * 8 + bit s.time.untrusted * 256 +
  bit s.pwr.quiet * 512 + s.pairRole * 1024 + bit s.pair.mismatch.isSome * 4096 + bit s.pwr.ctxFault * 8192 +
  bit (s.anyGroup (fun g => g == .pending || g == .applying)) * 16384 + bit s.cfgMismatch * 32768

/-- The calendar status 0x3200:0A (R105). -/
def State.calendarStatus (s : State) : Nat :=
  bitsNat [s.time.osf, s.time.calWrap, s.time.setErr, s.time.diverged,
    (tblGet {} s.time.trim (trimBin s.time.temp)).valid, s.time.hold.isSome, !s.pwr.aonAccepted, s.time.lockout]

/-- The reset flags 0x3000:03 (R424). -/
def State.resetFlags (s : State) : Nat :=
  bitsNat [s.pwr.osfAtStart, s.pwr.rstcntInvalid, s.pwr.retentionLost, s.pwr.eventsDiscarded, s.pwr.warningSeen,
    s.pwr.powerShort]

/-- The supply status 0x3001:01 (R425). -/
def State.supplyStatus (s : State) : Nat :=
  bitsNat [false, s.pwr.overtemp, s.pwr.batAbsent, s.pwr.batLow, s.pwr.aonAccepted, s.pwr.pfw, s.pwr.seqDone]

/-- The OCB status 0x2003:00 (R447). -/
def State.ocbStatus (s : State) : Nat :=
  bitsNat [s.cfgMismatch, s.time.untrusted, s.isStandby, s.pwr.quiet, s.time.cal.year / 100 != 20]

end Sys2Proof.Machine
end

