-- ==== Sys2Proof/Machine/Views.lean ====
section
/-! DEFINITION. What the read-only objects of 02 to 10 show: one function per chapter from the object's number and the item it
addresses to its value in the encoding of R44. None means that the chapter does not list the object as read only, or that
no record is held under the selector. -/

namespace Sys2Proof.Machine

/-- A string value: VSTRING. -/
def vstring (b : Bytes) : Bytes := leBytes 1 b.length ++ b

/-- An I64 value. -/
def i64 (v : Int) : Bytes := leBytes 8 (ofSigned 64 v)

/-- A CYCLENO value. -/
def cyc (c : Cycle) : Bytes := leBytes 8 c.toNat

/-- A value of 32 bits that saturates where the model's own count has no width. -/
def u32 (n : Nat) : Bytes := leBytes 4 (min n 0xFFFFFFFF)

/-- The version text of the image that runs of a kind (R71, R349). -/
def State.versionText (s : State) (kind : Nat) : Bytes :=
  let runs := match s.upd.trial with | some t => t.started | none => false
  let x := s.fw kind (if runs then s.startSlot kind else s.activeSlot kind)
  let h := if x.header = [] then (Config.factoryImage kind).take 512 else x.header
  vstring ((slice h 24 32).takeWhile (· != 0))

/-- The safe point kind of a group (R55, R56). -/
def safePoint (g : Nat) : Nat :=
  if g = 0 then 4 else if g ≤ 0x1B then 1 else if g = 0x1E ∨ g = 0x1F then 3 else 2

/-- State codes of a group (R57). -/
def GroupSt.code : GroupSt → Nat
  | .idle => 0 | .pending => 1 | .applying => 2 | .mismatch => 3

/-- Group records and identity (R57, R71). -/
def State.viewIdent (s : State) (r : Req) (num : Nat) : Option Bytes :=
  let g := num / 256 - 0x1F00
  let x := s.group g
  if 0x1F00 ≤ num / 256 ∧ num / 256 ≤ 0x1F26 then
    match num % 256 with
    | 0 => some [8]
    | 1 => some (leBytes 1 x.st.code)
    | 2 => some (leBytes 2 (s.pendingCount g))
    | 5 => some (time64 x.lastApplied)
    | 6 => some (leBytes 4 x.applyCount.toNat)
    | 7 => some (leBytes 1 (safePoint g))
    | 8 => some (time64 x.mismatchSince)
    | _ => none
  else match num with
    | 0x100000 => some (leBytes 4 0x71128)
    | 0x100200 => some (leBytes 4 s.statusWord)
    | 0x100900 => some (vstring (ascii "B0"))
    | 0x100A00 => some (s.versionText 2)
    | 0x100B00 => some (s.versionText 1)
    | 0x100C00 => some (s.versionText 3)
    | 0x101800 => some [4]
    | 0x101801 => some (leBytes 4 0x58C)
    | 0x101802 => some (leBytes 4 0x7128)
    | 0x101803 => some (leBytes 4 0xB0)
    | 0x101804 => some (leBytes 4 s.trust.serial.toNat)
    | 0x102200 => some (leBytes 1 (s.sess r.sess).role.code)
    | 0x107000 => some (octets s.configDigest)
    | 0x107100 => some (leBytes 4 s.dict.generation.toNat)
    | _ => none

/-- States of a trigger (R92). -/
def TrigSt.code : TrigSt → Nat
  | .idle => 0 | .armed => 1 | .fired => 2 | .firedLate => 3

/-- A ZC_B or ZC_C offset of a crossing: 0x80000000 where none was seen (R79). -/
def zcOffset (o : Option Int) : Bytes := leBytes 4 (match o with | none => 0x80000000 | some v => ofSigned 32 v)

/-- A crossing table entry, 32 bytes (R79). -/
def Crossing.bytes (c : Crossing) : Bytes :=
  cyc c.num ++ time64 c.stamp ++ zcOffset c.offB ++ zcOffset c.offC ++
  leBytes 2 (bitsNat [false, c.relock, c.predicted, c.estimated, c.notTraceable]) ++ [0, 0]

/-- The calendar's members :01 to :08 (R104). -/
def CalTime.members (c : CalTime) : Bytes :=
  [c.second, c.minute, c.hour].map (fun (n : Nat) => BitVec.ofNat 8 (toBcd n)) ++ leBytes 1 (dayOfWeek (daysOf c)) ++
  [c.day, c.month, c.year % 100, c.year / 100].map (fun (n : Nat) => BitVec.ofNat 8 (toBcd n))

/-- Time (R81, R91, R92, R94, R104, R108). -/
def State.viewTime (s : State) (r : Req) (num : Nat) : Option Bytes :=
  let t := s.time
  let ix := num / 256
  let sub := num % 256
  if 0x3300 ≤ ix ∧ ix < 0x3320 then
    let x := tblGet ({} : Trigger) t.triggers (ix - 0x3300)
    match sub with
    | 0 => some [9]
    | 7 => some (leBytes 1 x.st.code)
    | 8 => some (time64 x.firedAt)
    | 9 => some (cyc x.resolved)
    | _ => none
  else if 0x3500 ≤ ix ∧ ix < 0x3506 then
    let x := tblGet ({} : Capture) t.captures (ix - 0x3500)
    match sub with
    | 2 => some (time64 x.last)
    | 3 => some (leBytes 4 x.count.toNat)
    | _ => none
  else if ix = 0x3200 ∧ 1 ≤ sub ∧ sub ≤ 8 then some (slice t.cal.members (sub - 1) 1)
  else match num with
    | 0x310000 => some [10]
    | 0x310006 => some (leBytes 1 t.tracker.code)
    | 0x310007 => some (leBytes 4 (if t.measured then (roundDiv 1000000000000 (max t.period 1)).toNat else 0))
    | 0x310008 => some (cyc t.cycle)
    | 0x310102 =>
      (t.table.find? (fun (c : Crossing) => c.num.toNat == s.sessVal r.sess 0x310101)).map (fun c => octets c.bytes)
    | 0x310103 => some (cyc ((t.table.getLast?.map (fun (c : Crossing) => c.num)).getD 0))
    | 0x310104 => some (cyc ((t.table.head?.map (fun (c : Crossing) => c.num)).getD 0))
    | 0x311001 => some (time64 t.net)
    | 0x311009 => some (leBytes 1 t.sync.code)
    | 0x31100A => some (i64 t.lastOffset)
    | 0x31100B => some (leBytes 4 (ofSigned 32 t.rate))
    | 0x31100C => some (leBytes 4 t.steps.toNat)
    | 0x31100D => some (u32 ((t.holdSince.map (fun (h : Nat) => (t.mono - h) / 32768)).getD 0))
    | 0x320000 => some [11]
    | 0x320009 => some (leBytes 2 t.sub.toNat)
    | 0x32000A => some (leBytes 2 s.calendarStatus)
    | 0x32000B => some (octets (t.cal.members ++ leBytes 2 t.sub.toNat))
    | 0x320401 => some (leBytes 4 (ofSigned 32 t.trimInUse))
    | 0x320402 => some (leBytes 2 (ofSigned 16 t.temp))
    | 0x320403 => some (leBytes 2 (bitsNat ((List.range 16).map (fun (k : Nat) => (tblGet {} t.trim k).valid))))
    | 0x340000 => some [64]
    | 0x340100 => some [64]
    | 0x340300 => some (leBytes 2 (ofSigned 16 t.dst))
    | _ => none

/-- Trust (R132). That 0xA055:05 reads 0xFFFFF while a run has done no handle yet is the model's choice (log entry 72). -/
def State.viewTrust (s : State) (r : Req) (num i : Nat) : Option Bytes :=
  match num with
  | 0xA00000 => some (leBytes 1 s.trust.lc.code)
  | 0xA00100 => some (leBytes 1 (bit s.trust.dbgOff))
  | 0xA00200 => some (octets s.identityPub)
  | 0xA00500 => some (octets (if (s.slot 4).valid then Config.pubKey (s.slot 4).key else []))
  | 0xA01301 => some (leBytes 1 (svnValue s.trust.tfwSvn))
  | 0xA01302 => some (leBytes 1 (svnValue s.trust.afwSvn))
  | 0xA01303 => some (leBytes 1 (svnValue s.trust.ucodeSvn))
  | 0xA03002 => some (octets s.trust.statement)
  | 0xA05502 => some (leBytes 4 (s.slot (s.sessVal r.sess 0xA05501)).attr.toNat)
  | 0xA05503 => some (leBytes 2 s.trust.pins.length)
  | 0xA05504 => some (leBytes 2 s.trust.lru.length)
  | 0xA05505 => some (leBytes 4 ((s.trust.rewrap.bind id).getD 0xFFFFF))
  | 0xC01002 => some (leBytes 4 (s.keyVersionOf i))
  | _ => none

/-- A generation of a port waits for the first LOCKED, or a native radio one for time (R141, R153, R175, R178). -/
def State.genWaits (s : State) (p gen : Nat) : Bool :=
  if gen == 4 || gen == 8 then !(s.fport p).began else gen == 5 && !s.time.everLocked

/-- Generations that a power-line port runs: its OFDM one and S-FSK (R137). -/
def State.lineGens (s : State) (p : Nat) : List Nat :=
  (if s.pcfg p 1 1 = 0 then [] else [s.pcfg p 1 1]) ++ (if s.pcfg p 1 2 = 0 then [] else [5])

/-- Port state Bp8:01 or Bq8:01: off, waiting while no generation of the port has started, running, Standby listening (R155,
R178). That an enabled port with no generation selected shows 1 is the model's choice (log entry 72). -/
def State.portState (s : State) (p : Nat) : Nat :=
  if s.pcfg p (if isRf p then 0 else 1) (if isRf p then 2 else 3) = 0 ∨ s.pathRuns = false then 0
  else if s.isStandby then 3
  else if isRf p then (if s.isNative p ∧ s.genWaits p 8 = true then 1 else 2)
  else if (s.lineGens p).any (fun g => !s.genWaits p g) then 2
  else 1

/-- The receive gain of a power-line port in dB, Bp8:02 (R133): 0 while it transmits and is muted, the fixed gain, or the
automatic one. -/
def State.gainNow (s : State) (p : Nat) : Nat :=
  if s.time.net < (s.fport p).muteTo then 0
  else if s.pcfg p 2 2 = 0 then (s.fport p).gain
  else (s.pcfg p 2 2 - 1) * 3

/-- Partners joined on a port. -/
def State.joinedOn (s : State) (p : Nat) : List Partner :=
  (s.field.partners.filter (fun (x : Nat × Partner) => x.2.port == p && x.2.joined)).map (fun (x : Nat × Partner) => x.2)

/-- A path as two relay handles of three bytes, 0xFFFFF where unused (R156). -/
def pathBytes (l : List Nat) : Bytes := leBytes 3 (l.getD 0 0xFFFFF) ++ leBytes 3 (l.getD 1 0xFFFFF)

/-- Duty used in per mille of the last 3,600 s (R178). -/
def State.dutyUsed (s : State) (p : Nat) : Nat := dutySum (dutyPrune (s.time.net / 1000000000) (s.fport p).duty) / 3600000

/-- Field ports (R155, R178). -/
def State.viewPort (s : State) (num : Nat) : Option Bytes :=
  let ix := num / 256
  let p := if ix < 0x4100 then (ix - 0x4000) / 16 else 12 + (ix - 0x4100) / 16
  let x := s.fport p
  let sub := num % 256
  if ix % 16 = 7 ∧ 1 ≤ sub ∧ sub ≤ 12 then some (leBytes 4 (x.cnt.getD (sub - 1) 0).toNat)
  else if ix % 16 ≠ 8 then none
  else match isRf p, sub with
    | _, 1 => some (leBytes 1 (s.portState p))
    | false, 2 => some (leBytes 1 (s.gainNow p))
    | false, 3 => some (leBytes 2 x.rms)
    | false, 4 => some (octets x.noise)
    | false, 5 => some (leBytes 2 (s.joinedOn p).length)
    | true, 2 => some (leBytes 2 (s.dutyUsed p))
    | true, 3 => some (leBytes 2 (s.joinedOn p).length)
    | true, 4 => some (leBytes 2 ((s.joinedOn p).filter (fun (q : Partner) => q.sync == 2)).length)
    | true, 5 => some (leBytes 2 (ofSigned 16 x.rssi))
    | _, _ => none

/-- A meter's power-line and radio records (R156, R179). -/
def State.viewPartner (s : State) (num h : Nat) : Option Bytes :=
  let q := s.partner h
  let pl := q.filter (fun (x : Partner) => !isRf x.port)
  let rf := q.filter (fun (x : Partner) => isRf x.port)
  match num with
  | 0xC02001 => some (leBytes 1 ((pl.map (fun (x : Partner) => x.port)).getD 255))
  | 0xC02002 => some (leBytes 1 ((pl.map (fun (x : Partner) => if x.joined then x.gen else 0)).getD 0))
  | 0xC02003 => some (octets (pathBytes ((pl.map (fun (x : Partner) => x.path)).getD [])))
  | 0xC02004 => some (leBytes 1 ((pl.map (fun (x : Partner) => x.cost)).getD 255))
  | 0xC02005 => some (leBytes 1 ((pl.map (fun (x : Partner) => x.phase)).getD 0))
  | 0xC02006 => some (leBytes 4 (ofSigned 32 ((pl.map (fun (x : Partner) => x.offset)).getD 0)))
  | 0xC02101 => some (leBytes 1 ((rf.map (fun (x : Partner) => x.port - 12)).getD 255))
  | 0xC02102 => some (leBytes 1 ((rf.map (fun (x : Partner) => if x.joined then x.gen else 0)).getD 0))
  | 0xC02103 =>
    some (octets (match rf.bind (fun (x : Partner) => x.slot) with
      | none => [0, 0, 0, 0]
      | some (k, sl, p, phi) => leBytes 1 k ++ leBytes 1 sl ++ leBytes 1 p ++ leBytes 1 phi))
  | 0xC02104 => some (leBytes 1 ((rf.map (fun (x : Partner) => x.sync)).getD 0))
  | 0xC02105 => some (leBytes 4 (ofSigned 32 ((rf.map (fun (x : Partner) => x.err)).getD 0)))
  | 0xC02106 => some (leBytes 2 ((rf.map (fun (x : Partner) => x.drift)).getD 50))
  | 0xC02107 => some (leBytes 1 ((rf.map (fun (x : Partner) => x.conf)).getD 0))
  | 0xC02108 => some (leBytes 1 ((rf.map (fun (x : Partner) => x.queue.length)).getD 0))
  | 0xC02109 => some (leBytes 1 (min 255 ((rf.map (fun (x : Partner) => x.unacked)).getD 0)))
  | _ => none

/-- Where a meter's context is held (R205). -/
def State.ctxPlace (s : State) (h : Nat) : Nat :=
  match s.ctxOf h with
  | some c => if c.pinned then 1 else 2
  | none => if (tblFind? s.acc.ctxMem h).isSome then 3 else 0

/-- Acceptance (R204, R205). -/
def State.viewAccept (s : State) (num h : Nat) : Option Bytes :=
  let a := s.acc
  let opens := a.journal.filter (fun (e : JEntry) => e.isOpen)
  let c : Ctx := ((s.ctxOf h).orElse (fun _ => tblFind? a.ctxMem h)).getD {}
  let al := tblGet ((0, 0x80000000, 0, 0, 0) : U8 × U32 × U16 × U8 × Cycle) a.align h
  if num / 256 = 0x5000 then some (leBytes 4 (a.cnt.getD (num % 256 - 1) 0).toNat)
  else match num with
    | 0x501101 => some (leBytes 4 a.fill)
    | 0x501102 => some (leBytes 4 opens.length)
    | 0x501103 => some (leBytes 8 ((opens.head?.map (fun (e : JEntry) => e.seq.toNat)).getD 0))
    | 0x501104 => some (leBytes 8 a.nextSeq.toNat)
    | 0x501105 => some (u32 ((opens.head?.map (fun (e : JEntry) => (s.time.mono - e.born) * 1000 / 32768)).getD 0))
    | 0x501106 => some (leBytes 4 a.replayed.toNat)
    | 0x501107 => some (leBytes 1 (bit !a.closed))
    | 0xC03001 => some (leBytes 1 (s.ctxPlace h))
    | 0xC03002 => some (leBytes 4 c.counter.toNat)
    | 0xC03003 => some (leBytes 1 (bit c.counterValid))
    | 0xC03004 => some (octets c.digest)
    | 0xC03005 => some (time64 c.lastAt)
    | 0xC03006 => some (leBytes 2 c.dups.toNat)
    | 0xC03007 => some (leBytes 2 c.replays.toNat)
    | 0xC03008 => some (leBytes 2 c.lowers.toNat)
    | 0xC03009 => some (leBytes 8 c.jseq.toNat)
    | 0xC0300A => some (leBytes 4 c.invoc.toNat)
    | 0xC0300B => some (leBytes 2 c.invReplays.toNat)
    | 0xC03101 => some (leBytes 1 (bit (tblGet false a.ext h)))
    | 0xC03102 => some (leBytes 1 al.1.toNat)
    | 0xC03103 => some (leBytes 4 al.2.1.toNat)
    | 0xC03104 => some (leBytes 2 al.2.2.1.toNat)
    | 0xC03105 => some (leBytes 1 al.2.2.2.1.toNat)
    | 0xC03106 => some (cyc al.2.2.2.2)
    | _ => none

/-- Load of a core over the last second in per mille (R227). -/
def State.secondLoad (s : State) (core : Nat) : Nat :=
  let l := lastSecond s.cas.loadHist 0
  l.foldl (fun n x => n + x.1.getD core 0 * x.2) 0 / max (l.foldl (fun n x => n + x.2) 0) 1

/-- Microseconds that the oldest item waiting in a queue has waited (R227). -/
def State.oldestWait (s : State) (q : Nat) : Nat :=
  let waits := (s.cas.flows.filter (fun (p : Nat × List Item) => s.queueOf p.1 == q)).flatMap (fun (p : Nat × List Item) =>
    (p.2.filter (fun (x : Item) => x.st == .waiting)).map (fun (x : Item) => (s.time.mono - x.since) * 1000000 / 32768))
  waits.foldl max 0

/-- State of an account (R229): available, exhausted, borrowing. -/
def Acct.code (a : Acct) : Nat := if a.borrowed then 2 else if a.exhausted then 1 else 0

/-- Cascade, Sluice and admission (R227 to R229). -/
def State.viewCascade (s : State) (num i : Nat) : Option Bytes :=
  let c := s.cas
  let ix := num / 256
  let sub := num % 256
  let q := tblGet ({} : QueueStat) c.queues i
  if ix = 0x9001 then
    some (leBytes 2 (if sub ≤ 4 then c.load.getD (sub - 1) 0 else s.secondLoad (sub - 5)))
  else if ix = 0x9024 then some (leBytes 4 (tblGet 0 c.refusals sub).toNat)
  else if 0x9100 ≤ ix ∧ ix < 0x9110 then
    let a := s.acct (ix - 0x9100)
    match sub with
    | 1 | 2 | 3 | 4 => some (leBytes 2 (s.share 0 (sub - 1)))
    | 8 => some (leBytes 1 (if ix = 0x9100 then bit a.exhausted else a.code))
    | 9 => some (leBytes 4 a.periodsExh.toNat)
    | 10 => some (leBytes 4 a.periodsBor.toNat)
    | 11 => some (u32 (-(a.bal.getD 0 0)).toNat)
    | 12 => some (leBytes 4 a.overruns.toNat)
    | 13 => some (leBytes 1 (s.window (ix - 0x9100)))
    | _ => none
  else match num with
    | 0x900001 => some (leBytes 4 c.inUse)
    | 0x900002 => some (leBytes 4 c.poolEmpty.toNat)
    | 0x900003 => some (leBytes 8 c.dispatches.toNat)
    | 0x900004 => some (leBytes 4 c.preempts.toNat)
    | 0x901201 => some (leBytes 4 (s.depth i))
    | 0x901202 => some (leBytes 4 q.peak)
    | 0x901203 => some (u32 (s.oldestWait i))
    | 0x901204 => some (leBytes 4 q.full.toNat)
    | 0x901205 => some (octets (q.hist.flatMap (fun (x : U16) => leBytes 2 x.toNat)))
    | 0x901404 => some (leBytes 2 (s.items i).length)
    | 0x902004 => some (leBytes 4 c.credit)
    | 0x902005 => some (u32 s.sojourn)
    | 0x902006 => some (leBytes 1 (bit c.overload))
    | 0x902007 => some (leBytes 4 c.shaping.toNat)
    | 0x918001 => some (leBytes 1 (if c.mains then 1 else 2))
    | 0x918002 => some (leBytes 4 c.periodLen)
    | 0x918003 => some (leBytes 4 c.periods.toNat)
    | 0x918004 => some (time64 c.periodStart)
    | _ => none

/-- Check channels of a feeder (R250), and its latch record under the session's selector. -/
def State.viewFeeder (s : State) (r : Req) (num f : Nat) : Option Bytes :=
  let x := s.feeder f
  let sub := num % 256
  if num / 256 = 0x6022 then
    match sub with
    | 1 => some (i64 (mwh x.totI))
    | 2 => some (i64 (mwh x.totE))
    | 9 => some (i64 (mwh x.reactI))
    | 10 => some (i64 (mwh x.reactE))
    | 11 => some (i64 (mwh x.app))
    | 12 => some (i64 x.demand)
    | 13 => some (leBytes 2 x.lastFlags.toNat)
    | 14 => some (i64 x.maxD)
    | 15 => some (time64 x.maxAt)
    | _ => if sub ≤ 5 then some (i64 (mwh (x.imp.getD (sub - 3) 0))) else some (i64 (mwh (x.exp.getD (sub - 6) 0)))
  else match num with
    | 0x602301 => some (leBytes 4 x.freq)
    | 0x602302 => some (leBytes 8 (x.volts.getD 0 0).toNat)
    | 0x602303 => some (leBytes 8 (x.volts.getD 1 0).toNat)
    | 0x602304 => some (leBytes 8 (x.volts.getD 2 0).toNat)
    | 0x602305 => some (leBytes 2 x.unbal)
    | 0x602306 => some (leBytes 2 x.thd)
    | 0x602307 => some (leBytes 2 x.aggFlags.toNat)
    | 0x602308 => some (leBytes 4 x.dips.toNat)
    | 0x602309 => some (leBytes 4 x.swells.toNat)
    | 0x60230A => some (leBytes 8 x.residual.toNat)
    | 0x603002 =>
      some (octets ((tblGet [] s.weir.records (s.sessVal r.sess 0x602001)).getD (s.sessVal r.sess 0x603001) (List.replicate 128 0)))
    | _ => none

/-- The Weir (R249, R250). -/
def State.viewWeir (s : State) (r : Req) (num i : Nat) : Option Bytes :=
  let w := s.weir
  match num with
  | 0x600002 => some (leBytes 1 w.st)
  | 0x600003 => some (leBytes 2 (ofSigned 16 w.temp))
  | 0x600004 => some (leBytes 4 w.diverge)
  | 0x600005 => some (leBytes 4 w.calApplies.toNat)
  | 0x600006 => some (time64 w.calAt)
  | 0x600007 => some (leBytes 1 (bit w.factoryOk))
  | 0x600008 => some (leBytes 4 (Config.groupDelay (s.cfgN 0x600001)).toNat)
  | 0x600009 => some [0, 0]
  | 0x60000B => some (leBytes 1 w.latches.length)
  | 0x60000C => some (leBytes 4 w.missed.toNat)
  | 0x60000D => some (leBytes 4 w.lost.toNat)
  | 0x601201 => some (leBytes 8 (if s.chanOn i then (tblGet 0 w.rms i).toNat else 0))
  | 0x601202 => some (leBytes 4 (tblGet 0 w.overs i).toNat)
  | 0x604002 => some (leBytes 8 w.measured.toNat)
  | 0x604003 => some (leBytes 8 w.proposed.toNat)
  | 0x605009 => some (leBytes 1 w.capSt)
  | 0x60500A => some (leBytes 4 w.capDone.toNat)
  | 0x60500B => some (leBytes 4 w.capIgnored.toNat)
  | 0x60500C => some (leBytes 8 w.capRef.toNat)
  | _ => s.viewFeeder r num i

/-- A member's registration coefficient, 0 where it is none (R271). -/
def State.memberTheta (s : State) (h : Nat) : F64 :=
  let m := (s.seg (s.cfgN 0xC04001 h)).model
  match m.members.findIdx? (· == h) with
  | none => 0
  | some k => m.theta.getD k 0

/-- The balance engine (R269 to R271). -/
def State.viewBalance (s : State) (r : Req) (num i : Nat) : Option Bytes :=
  let b := s.bal
  let g := s.seg i
  let m := s.member i
  match num with
  | 0x610008 => some (leBytes 8 (if s.cfgB 0x610001 then s.nextTarget else 0))
  | 0x610009 => some (leBytes 2 b.shownId.toNat)
  | 0x61000A => some (leBytes 4 b.issued.toNat)
  | 0x61000B => some (leBytes 4 b.skipped.toNat)
  | 0x610201 => some (leBytes 2 s.segments.length)
  | 0x610202 => some (leBytes 2 b.updated)
  | 0x610203 => some (leBytes 2 (b.segs.foldl (fun n (p : Nat × Segment) => n + p.2.queue.length) 0))
  | 0x610204 => some (leBytes 4 b.resets.toNat)
  | 0x611201 => some (leBytes 2 (s.membersOf i).length)
  | 0x611202 => some (leBytes 1 g.st)
  | 0x611203 => some (leBytes 4 g.model.updates.toNat)
  | 0x611204 => some (leBytes 2 (min g.incomplete 0xFFFF))
  | 0x611205 => some (leBytes 8 (g.model.theta.getLast?.getD 0).toNat)
  | 0x611206 => some (leBytes 8 g.zu.toNat)
  | 0x611207 => some (leBytes 8 g.model.s.toNat)
  | 0x611402 =>
    some (octets ((s.seg (s.sessVal r.sess 0x611001)).records.getD (s.sessVal r.sess 0x611401) (List.replicate 64 0)))
  | 0xC04002 => some (leBytes 8 (s.memberTheta i).toNat)
  | 0xC04003 => some (leBytes 8 m.z.toNat)
  | 0xC04004 => some (leBytes 1 (if s.cfgN 0xC04001 i = 0xFFFF then 0
      else if s.segCapacity ≤ s.cfgN 0xC04001 i then 1 else max 1 m.st))
  | 0xC04005 => some (leBytes 1 m.phase)
  | 0xC04006 => some (leBytes 1 m.votes)
  | 0xC04007 => some (leBytes 1 (m.smeared.filter id).length)
  | 0xC04008 => some (leBytes 2 m.noAnswer.toNat)
  | _ => none

end Sys2Proof.Machine
end

