-- ==== Sys2Proof/Machine/Views2.lean ====
section
/-! DEFINITION. What the read-only objects of 11 to 19 show, in the same form as Views, and the one reading of every
read-only object. -/

namespace Sys2Proof.Machine

/-- Eight I64 values of which a subindex, counted from first, picks one. -/
def pickI64 (l : List Int) (sub first : Nat) : Bytes := i64 (l.getD (sub - first) 0)

/-- The profile entry under the session's selector: that of the interval in an open day block with the selected start and
shift count (R281, R300). -/
def State.profileEntry (s : State) (r : Req) (h : Nat) : Option Bytes :=
  let sel := ((tblFind? (s.sess r.sess).vals 0xC05201).getD (s.dflt 0xC05201 0)).drop 2
  (s.bill.app.ivals.find? (fun (p : Nat × Ival) =>
      p.2.start == fieldAt sel 0 4 && p.2.shift.toNat == fieldAt sel 4 2)).map
    (fun (p : Nat × Ival) => octets (s.entryBytes h p.1 p.2 (tblGet {} (s.mbill h).block p.1)))

/-- Feeder register sets (R299). -/
def State.viewFeederBill (s : State) (sub f : Nat) : Option Bytes :=
  let x := tblGet ({} : FeederBill) s.bill.app.feeders f
  if 2 ≤ sub ∧ sub ≤ 9 then some (pickI64 (x.imp.map mwh) sub 2)
  else if 10 ≤ sub ∧ sub ≤ 17 then some (pickI64 (x.exp.map mwh) sub 10)
  else if 18 ≤ sub ∧ sub ≤ 25 then some (pickI64 x.md sub 18)
  else none

/-- A meter's register set (R300). -/
def State.viewMeterBill (s : State) (sub h : Nat) : Option Bytes :=
  let m := s.mbill h
  if 5 ≤ sub ∧ sub ≤ 12 then some (pickI64 m.imp sub 5)
  else if 13 ≤ sub ∧ sub ≤ 20 then some (pickI64 m.exp sub 13)
  else match sub with
    | 3 => some (i64 m.totI)
    | 4 => some (i64 m.totE)
    | 21 => some (i64 m.outage)
    | 22 => some (i64 m.unattrSum)
    | 23 => some (time64 ((m.last.map (fun (l : Int) => (l + s.bill.app.stepSum).toNat)).getD 0))
    | 24 => some (leBytes 4 m.notApplied.toNat)
    | 25 => some (leBytes 4 (ofSigned 32 m.dev))
    | 26 => some (leBytes 1 (s.rateNow (s.tableOf h)))
    | _ => none

/-- Billing (R298 to R300). -/
def State.viewBilling (s : State) (r : Req) (num i : Nat) : Option Bytes :=
  let b := s.bill
  let a := b.app
  let sub := num % 256
  if num / 256 = 0x7021 then s.viewFeederBill sub i
  else if num / 256 = 0xC050 then s.viewMeterBill sub i
  else if num / 256 = 0xC051 then
    if sub ≤ 8 then some (i64 (((s.mbill i).md.getD (sub - 1) (0, 0)).1))
    else some (time64 (((s.mbill i).md.getD (sub - 9) (0, 0)).2))
  else match num with
    | 0x700002 => some (leBytes 2 a.shift.toNat)
    | 0x700003 => some (octets (a.adjHist.flatMap (fun (x : U16) => leBytes 2 x.toNat)))
    | 0x700004 => some (leBytes 4 a.splits.toNat)
    | 0x700005 => some (i64 a.stepSum)
    | 0x700304 => some (leBytes 4 a.period.toNat)
    | 0x700306 => some (time64 a.closedAt)
    | 0x700307 => some (leBytes 4 a.closedBound)
    | 0x701103 => some (leBytes 1 (s.tableState i))
    | 0x704002 => some (leBytes 1 b.tampLatch.toNat)
    | 0x704003 => some (octets (b.tampLog.getD (s.sessVal r.sess 0x704001) (List.replicate 20 0)))
    | 0x704004 => some (octets (b.tampCount.flatMap (fun (x : U16) => leBytes 2 x.toNat)))
    | 0xC05202 => s.profileEntry r i
    | 0xC05302 =>
      some (octets ((((s.mbill i).hist[s.sessVal r.sess 0xC05301]?).map Hist.bytes).getD (List.replicate 336 0)))
    | _ => none

/-- Prepayment and load groups (R318 to R320). -/
def State.viewPrepay (s : State) (num i : Nat) : Option Bytes :=
  match num with
  | 0x706301 => some (leBytes 1 (s.lgState i))
  | 0x706302 => some (leBytes 2 (F64.toInt (F64.mul (s.lgroup i).h (F64.ofInt 10000))).toNat)
  | 0x706303 => some (leBytes 4 (s.lgroup i).switchings.toNat)
  | 0x706304 => some (leBytes 2 (s.groupMeters i).length)
  | 0x707105 => some (leBytes 1 (bit (s.relay i).on))
  | 0x707106 => some (leBytes 4 (s.relay i).ops.toNat)
  | 0x707107 => some (leBytes 4 (s.relay i).unaligned.toNat)
  | 0xC05403 => some (octets (s.ledgerRecord i))
  | 0xC05404 => some (i64 (s.ledger i).balance)
  | 0xC05405 => some (i64 (s.ledger i).debt)
  | 0xC05406 => some (leBytes 1 (s.ledger i).st.code)
  | 0xC05502 => some (leBytes 1 (tblGet 0 s.bill.app.lgSent i))
  | 0xC05503 => some (leBytes 2 (tblGet 0 s.bill.app.lgUnacked i).toNat)
  | _ => none

/-- The archive and the Host Volume (R346, R347). -/
def State.viewArchive (s : State) (num i : Nat) : Option Bytes :=
  let a := s.arch
  match num with
  | 0x800001 => some (leBytes 1 a.usable.length)
  | 0x800002 => some (leBytes 4 (a.usable.foldl (fun n (p : Nat × Geometry) => n + p.2.blocks * p.2.pages * 16384) 0 / 1048576))
  | 0x800003 => some (leBytes 2 (if a.usable = [] then 0 else a.geo.pages))
  | 0x800004 => some (leBytes 4 a.factoryBad.toNat)
  | 0x800005 => some (leBytes 4 a.grown.toNat)
  | 0x800102 => some (leBytes 4 a.highest)
  | 0x800103 => some (leBytes 4 a.mean)
  | 0x800104 => some (leBytes 4 a.freeBlocks)
  | 0x800303 => some (leBytes 4 a.uncorr.toNat)
  | 0x800304 => some (leBytes 4 a.relocated.toNat)
  | 0x801002 => some (leBytes 8 (a.committed.getD 0).toNat)
  | 0x801003 => some (u32 a.commitUs)
  | 0x801004 => some (leBytes 4 a.late.toNat)
  | 0x801005 => some (u32 a.restoreMs)
  | 0x802104 => some (leBytes 8 (s.heldBytes i))
  | 0x802105 => some (leBytes 4 (((s.recsOf i).head?.map (fun (x : ArchRec) => x.stamp)).getD 0))
  | 0x804002 => some (leBytes 1 s.hvState)
  | 0x804003 => some (leBytes 4 a.hmbMib)
  | 0x804004 => some (leBytes 4 a.resident.length)
  | 0x804005 => some (leBytes 4 a.hmbBad.toNat)
  | 0x804006 => some (leBytes 4 a.keyGen.toNat)
  | _ => none

/-- Updates and campaigns (R365 to R367). -/
def State.viewUpdate (s : State) (r : Req) (num i : Nat) : Option Bytes :=
  let u := s.upd
  let sub := num % 256
  let c := s.sessVal r.sess 0xA08001
  let t := tblGet ({ st := 0 } : Target) (s.camp c).targets i
  if num / 256 = 0xA062 then some (leBytes 1 (s.activeSlot sub))
  else if num / 256 = 0xA063 then some (leBytes 1 (s.fw ((sub + 1) / 2) ((sub - 1) % 2)).st.code)
  else match num with
    | 0xA06004 =>
      some (leBytes 4 ((u.dlKind.map (fun (k : Nat) => (s.fw k (s.otherSlot k)).blocks.length)).getD 0))
    | 0xA06005 => some (leBytes 1 u.dlState)
    | 0xA06401 => some (leBytes 1 (bit u.trial.isSome))
    | 0xA06402 => some (u32 s.windowLeft)
    | 0xA06403 => some (leBytes 1 u.outcome)
    | 0xA06404 => some (leBytes 2 u.discarded.toNat)
    | 0xA06405 => some (leBytes 2 u.schema)
    | 0xA08203 => some (leBytes 1 (s.camp c).st)
    | 0xA08401 => some (leBytes 4 (s.camp c).targets.length)
    | 0xA08402 => some (octets (s.targetsByState c))
    | 0xA08403 => some (leBytes 1 (s.camp c).passes)
    | 0xA08404 => some (leBytes 4 (s.camp c).unicasts.toNat)
    | 0xC06001 => some (leBytes 1 t.st)
    | 0xC06002 => some (leBytes 1 t.reason)
    | 0xC06003 => some (leBytes 4 t.held)
    | 0xC06004 => some (leBytes 1 t.attempts)
    | 0xC06005 => some (time64 t.last)
    | _ => none

/-- The pair (R389). -/
def State.viewPair (s : State) (num : Nat) : Option Bytes :=
  let p := s.pair
  match num with
  | 0xB00101 => some (leBytes 1 (pairCode p.role))
  | 0xB00102 => some (leBytes 1 s.pwr.strapPos)
  | 0xB00103 => some (leBytes 1 p.claim.toNat)
  | 0xB00104 => some (leBytes 1 p.partnerClaim.toNat)
  | 0xB00105 => some (leBytes 1 p.health)
  | 0xB00106 => some (leBytes 4 p.cond.toNat)
  | 0xB00107 => some (leBytes 1 ((p.hb.map (fun (h : Heartbeat) => pairCode h.role)).getD 0))
  | 0xB00108 => some (leBytes 1 (bit p.link))
  | 0xB00109 => some (leBytes 1 p.progress)
  | 0xB0010A => some (leBytes 4 p.failovers.toNat)
  | 0xB0010B => some (time64 p.lastFailover)
  | 0xB0010C => some (leBytes 1 p.failCause.toNat)
  | 0xB0010D => some (leBytes 8 p.mirrored.toNat)
  | 0xB0010E => some (leBytes 4 p.noConfirm.toNat)
  | 0xB0010F => some (leBytes 4 p.diverge.toNat)
  | 0xB00110 => some (leBytes 4 p.suspicions.toNat)
  | 0xB00111 => some (leBytes 4 p.lineFaults.toNat)
  | 0xB00112 => some (time64 p.gapStart)
  | 0xB00113 => some (time64 p.gapEnd)
  | _ => none

/-- A summary record, 112 bytes (R397). -/
def EvSummary.bytes (x : EvSummary) (code kind depth : Nat) : Bytes :=
  leBytes 2 code ++ leBytes 1 (bit (kind == 2) + bit (depth != 0 && decide (depth ≤ x.missing)) * 2) ++ [0] ++
  leBytes 4 x.count.toNat ++ leBytes 4 x.suppressed.toNat ++ leBytes 4 x.pendingSup.toNat ++ i64 x.last ++ i64 x.min ++
  leBytes 8 x.minStamp.toNat ++ i64 x.max ++ leBytes 8 x.maxStamp.toNat ++ leBytes 8 x.first.toNat ++
  leBytes 8 x.lastStamp.toNat ++ x.hist.flatMap (fun (h : U16) => leBytes 2 h.toNat) ++ List.replicate 8 0

/-- A log entry's bytes but its CRC (R397). -/
def EvEntry.body (e : EvEntry) : Bytes :=
  leBytes 8 e.stamp.toNat ++ leBytes 2 e.code ++ leBytes 1 (bit e.restart) ++ [0] ++ leBytes 4 e.supBefore.toNat ++
  i64 e.measure ++ [0, 0, 0, 0]

/-- A log entry, 32 bytes; one that a clear removed reads zero except its stamp (R397, R399). -/
def EvEntry.bytes (e : EvEntry) : Bytes :=
  if e.code = 0 then leBytes 8 e.stamp.toNat ++ List.replicate 24 0 else e.body ++ leBytes 4 (Config.crc32c e.body)

/-- Log entries held, newest first. -/
def EvState.entries (e : EvState) : List EvEntry := (e.buf ++ e.log).take 28672

/-- Events (R402). -/
def State.viewEvent (s : State) (r : Req) (num i : Nat) : Option Bytes :=
  let e := s.ev
  let x := tblGet ({} : EvSummary) e.sums i
  let n := e.entries.length
  match num with
  | 0xB10101 => some (octets (x.bytes i (s.cfgN 0xB10203 i) (s.cfgN 0xB10201 i)))
  | 0xB10102 => some (leBytes 4 x.count.toNat)
  | 0xB10103 => some (leBytes 4 x.suppressed.toNat)
  | 0xB11002 =>
    (e.entries.find? (fun (y : EvEntry) => y.num.toNat == s.sessVal r.sess 0xB11001)).map (fun y => octets y.bytes)
  | 0xB11003 => some (leBytes 4 (e.nextNum - BitVec.ofNat 32 n).toNat)
  | 0xB11004 => some (leBytes 4 (e.nextNum - 1).toNat)
  | 0xB13001 => some (leBytes 4 e.flushes.toNat)
  | 0xB13003 => some (octets (leBytes 8 s.stampNow.1.toNat))
  | 0xB13004 => some (leBytes 4 e.discarded.toNat)
  | _ => none

/-- Power and reset (R423). -/
def State.viewPower (s : State) (num : Nat) : Option Bytes :=
  let p := s.pwr
  match num with
  | 0x300001 => some (leBytes 1 p.cause.toNat)
  | 0x300002 => some (leBytes 4 (counterWord p.resetCount).toNat)
  | 0x300003 => some (leBytes 2 s.resetFlags)
  | 0x300004 => some (time64 p.release)
  | 0x300005 => some (leBytes 4 (ofSigned 32 p.outageLen))
  | 0x300101 => some (leBytes 2 s.supplyStatus)
  | 0x300102 => some (leBytes 2 p.vbat.toNat)
  | 0x300103 => some (leBytes 2 p.vbk.toNat)
  | 0x300104 => some (leBytes 2 (ofSigned 16 p.tj))
  | 0x301002 => some (octets (p.blockResets.flatMap (fun (x : U16) => leBytes 2 x.toNat)))
  | 0x302001 => some (leBytes 1 p.phase)
  | 0x302002 =>
    some (octets (p.timeline.flatMap (fun (x : Option Nat) => match x with | none => leBytes 4 0xFFFFFFFF | some n => u32 n)))
  | _ => none

/-- Ethernet ports (R443). -/
def State.viewEth (s : State) (ix sub : Nat) : Option Bytes :=
  let e := (ix - 0x4200) / 16
  let x := tblGet ({} : EthPort) s.link.eth e
  match ix % 16, sub with
  | 7, 1 => some (leBytes 4 x.rx.toNat)
  | 7, 2 => some (leBytes 4 x.tx.toNat)
  | 7, 3 => some (leBytes 4 x.fcs.toNat)
  | 7, 4 => some (leBytes 4 x.dup.toNat)
  | 7, 5 => some (leBytes 4 x.noBuf.toNat)
  | 8, 1 => some (leBytes 1 x.link.toNat)
  | 8, 2 => some (octets (leBytes 6 (Config.macAddress e s.trust.serial).toNat))
  | _, _ => none

/-- Serial ports MB0 to MB7 and LN0 to LN7 (R443). -/
def State.viewSerial (s : State) (ix sub : Nat) : Option Bytes :=
  let p := (ix - 0x4300) / 16
  let x := s.serial p
  match ix % 16, sub with
  | 7, 1 => some (leBytes 4 x.sent.toNat)
  | 7, 2 => some (leBytes 4 x.replies.toNat)
  | 7, 3 => some (leBytes 4 x.timeouts.toNat)
  | 7, 4 => some (leBytes 4 x.collisions.toNat)
  | 7, 5 => some (leBytes 4 x.unsecured.toNat)
  | 7, 6 => some (leBytes 4 x.deferred.toNat)
  | 8, 1 => some (leBytes 2 (s.metersOn p).length)
  | _, _ => none

/-- Controller state of a CAN port (R443): off while the port is, else error active unless it has come to another state. -/
def State.canState (s : State) (p : Nat) : Nat :=
  if !s.cfgB ((0x4400 + 16 * p) * 256 + 1) then 0 else max 1 (tblGet ({} : CanPort) s.link.can p).st.toNat

/-- CAN ports, probe ports and UARTs, and a meter's serial record (R443). -/
def State.viewLink (s : State) (num i : Nat) : Option Bytes :=
  let ix := num / 256
  let sub := num % 256
  let c := tblGet ({} : CanPort) s.link.can ((ix - 0x4400) / 16)
  if ix < 0x4300 then s.viewEth ix sub
  else if ix < 0x4400 then s.viewSerial ix sub
  else match num with
    | 0x442701 => some (leBytes 4 (tblGet 0 s.link.probeSessions 0).toNat)
    | 0x442F01 => some (leBytes 4 (tblGet 0 s.link.probeSessions 1).toNat)
    | 0x443701 => some (leBytes 4 (tblGet 0 s.link.uartLost 0).toNat)
    | 0x443F01 => some (leBytes 4 (tblGet 0 s.link.uartLost 1).toNat)
    | 0xC02204 => some (leBytes 2 (tblGet 0 s.link.consec i).toNat)
    | _ =>
      match ix % 16, sub with
      | 7, 1 => some (leBytes 4 c.rx.toNat)
      | 7, 2 => some (leBytes 4 c.errors.toNat)
      | 7, 3 => some (leBytes 4 c.busOff.toNat)
      | 8, 1 => some (leBytes 1 (s.canState ((ix - 0x4400) / 16)))
      | _, _ => none

/-- The OCB event table entry under a selector, 10 bytes (R455). -/
def OcbEntry.bytes (e : OcbEntry) : Bytes := leBytes 2 e.num.toNat ++ e.stamp ++ leBytes 2 e.measure.toNat

/-- The OCB view's own objects (R447, R454, R455). -/
def State.viewOcb (s : State) (r : Req) (num : Nat) : Option Bytes :=
  match num with
  | 0x200000 => some (vstring (ascii "OCB-24/AN7128"))
  | 0x200300 => some (leBytes 2 s.ocbStatus)
  | 0x270001 => none
  | 0x27000B => some (leBytes 4 s.link.heUnconf.toNat)
  | 0x240002 =>
    some (octets (((s.ev.ocb[s.sessVal r.sess 0x240001]?).map OcbEntry.bytes).getD (List.replicate 10 0)))
  | 0x240004 => some (leBytes 2 s.ev.ocb.length)
  | _ => none

/-- What a read-only object shows, by the chapter that lists it; i is the item it addresses. -/
def State.view (s : State) (r : Req) (num i : Nat) : Option Bytes :=
  let ix := num / 256
  if ix < 0x2000 then s.viewIdent r num
  else if ix < 0x3000 then s.viewOcb r num
  else if ix < 0x3100 then s.viewPower num
  else if ix < 0x4000 then s.viewTime r num
  else if ix < 0x4200 then s.viewPort num
  else if ix < 0x5000 then s.viewLink num i
  else if ix < 0x6000 then s.viewAccept num i
  else if ix < 0x6100 then s.viewWeir r num i
  else if ix < 0x7000 then s.viewBalance r num i
  else if ix < 0x7050 then s.viewBilling r num i
  else if ix < 0x8000 then s.viewPrepay num i
  else if ix < 0x9000 then s.viewArchive num i
  else if ix < 0xA000 then s.viewCascade num i
  else if ix < 0xA060 then s.viewTrust r num i
  else if ix < 0xB000 then s.viewUpdate r num i
  else if ix < 0xB100 then s.viewPair num
  else if ix < 0xC000 then s.viewEvent r num i
  else if ix < 0xC020 then s.viewTrust r num i
  else if ix < 0xC022 then s.viewPartner num i
  else if ix < 0xC030 then s.viewLink num i
  else if ix < 0xC040 then s.viewAccept num i
  else if ix < 0xC050 then s.viewBalance r num i
  else if ix < 0xC054 then s.viewBilling r num i
  else if ix < 0xC060 then s.viewPrepay num i
  else s.viewUpdate r num i

end Sys2Proof.Machine
end

