-- ==== Sys2Proof/Machine/Dictionary.lean ====
section
/-! DEFINITION. The dictionary service: reading an object (R45, R53), writing one (R51, R52, R58), and starting a command
(R45), whatever its transport; each of the objects with a rule of its own is handed to it. -/

namespace Sys2Proof.Machine

/-- The staged-read record of an object (R53): group state, active value, and, unless IDLE, the pending value or the active
one again. -/
def State.stagedRecord (s : State) (num i : Nat) : Bytes :=
  let st := match groupOf num with | some g => (s.group g).st | none => .idle
  let active := s.stored num i
  match st with
  | .pending => [1] ++ active ++ (tblFind? s.dict.pend (storeKey num i)).getD active
  | .applying => [2] ++ active ++ (tblFind? s.dict.committed (storeKey num i)).getD active
  | _ => [0] ++ active

/-- The value an RW object shows: a session's own copy, the calendar of 0x2100:00 (R447), or the stored value. -/
def State.rwValue (s : State) (r : Req) (num i : Nat) (o : ObjRow) : Bytes :=
  if o.inst = .session then (tblFind? (s.sess r.sess).vals num).getD (s.dflt num 0)
  else if num = 0x210000 then octets s.time.cal.ocbStamp
  else if 0x330002 ≤ num ∧ num ≤ 0x331F02 ∧ num % 256 = 2 ∧ (leNat (s.stored (num - 1) i) = 1 ∨ leNat (s.stored (num - 1) i) = 3) then
    -- [31:16] of the argument of actions 1 and 3 are reserved (R243, R315)
    leBytes 4 (leNat (s.stored num i) % 65536)
  else s.stored num i

/-- What a read of an object returns (R45). -/
def State.readValue (s : State) (r : Req) (num : Nat) : Except Abort Bytes :=
  match s.readGuard r num with
  | .error a => .error a
  | .ok o =>
    let i := s.itemOf r o
    match o.acc with
    | .cmd => .ok (leBytes 1 (s.cmdSt num i).1 ++ leBytes 4 (s.cmdSt num i).2.toNat)
    | .rws => .ok (if s.pwr.ocb then s.stored num i else s.stagedRecord num i)
    | .rw => .ok (s.rwValue r num i o)
    | .wo => .error .readOfWriteOnly
    | .ro => if (findRow num).isNone then .ok o.dfltBytes else match s.view r num i with | some v => .ok v | none => .error .noObject

/-- An answer to a read. -/
def answerOf : Except Abort Bytes → Answer
  | .ok v => .ok v
  | .error a => .abort a

/-- A read of a challenge draws it for the session (R48, R129, R399). -/
def State.drawChallenge (s : State) (r : Req) (num : Nat) : Except Abort Bytes × State :=
  match s.readGuard r num with
  | .error a => (.error a, s)
  | .ok _ =>
    (.ok (octets (drawBytes s.draw.1)),
      (s.draw.2).setSess r.sess (fun x =>
        if num = 0x102000 then { x with challenge := some s.draw.1 }
        else if num = 0xA02000 then { x with vendorChallenge := some s.draw.1 }
        else { x with clearChallenge := some s.draw.1 }))

/-- What a read request returns, in the view too, and the state it leaves. -/
def State.fetch (s : State) (r : Req) (num : Nat) : Except Abort Bytes × State :=
  if num = 0x102000 ∨ num = 0xA02000 ∨ num = 0xB12001 then s.drawChallenge r num
  else if s.pwr.ocb ∧ (ocbIndex (num / 256)).isSome = true then
    match ocbTarget num with
    | some n => ((s.readValue (s.viewReq r) n).map (ocbShown num), s)
    | none => (s.viewGap r num, s)
  else (s.readValue r num, s)

/-- A read request. -/
def State.get (s : State) (r : Req) (num : Nat) : State :=
  let x := s.fetch r num
  x.2.respond r (answerOf x.1)

/-- Bits set in a byte string. -/
def onesIn (v : Bytes) : Nat := v.foldl (fun (n : Nat) (b : Byte) => n + (List.range 8).foldl (fun (m i : Nat) => m + bit (b.getLsbD i)) 0) 0

/-- The value a staged write leaves a member with, whether still pending or in force. -/
def State.nextN (s : State) (num i : Nat) : Nat := leNat (s.prospective num i)

/-- Membership writes of group 0x1F that are pending (R252). -/
def State.membershipsPending (s : State) : Nat := (s.dict.pend.filter (fun (p : Nat × Bytes) => p.1 / 2 ^ 64 == 0xC04001)).length

/-- What an object's own rule refuses of a value that its type and range allow: the personality under its fuse (R71, R444),
selectors and numbers (R43, R251), members of an armed trigger or capture (R92, R250), the histogram kind of a device code
(R402), PRP off ETH0 (R443), lossless money classes (R329), the nominal value of class 7 (R346), campaigns outside Draft (R357),
and the limit of pending memberships (R252). -/
def State.ownRule (s : State) (num i : Nat) (v : Bytes) : Option Abort :=
  let n := leNat v
  let ix := num / 256
  let sub := num % 256
  if num = 0x100800 then
    (if s.trust.persLock ≠ 0 ∧ n ≠ 0 ∧ n ≠ (if s.trust.persLock = 2 then 2 else 1) then some .fuseLocked else none)
  else if num = 0x109000 then (if 0xFFFFF < n then some .valueInvalid else none)
  else if num = 0x611001 then (if s.segCapacity ≤ n then some .valueInvalid else none)
  else if num = 0xC04001 then
    (if n ≠ 0xFFFF ∧ s.segCapacity ≤ n then some .valueInvalid
     else if s.pwr.ocb = false ∧ 8192 ≤ s.membershipsPending ∧ (tblFind? s.dict.pend (storeKey num i)).isNone = true then some .deviceBusy
     else none)
  else if 0x3300 ≤ ix ∧ ix ≤ 0x331F then (if sub ≤ 5 ∧ (s.trig (ix - 0x3300)).st = .armed then some .deviceBusy else none)
  else if ix = 0x6050 then
    (if s.weir.capSt ≠ 0 then some .deviceBusy else if sub = 1 ∧ 16 < onesIn (v.drop 2) then some .valueInvalid else none)
  else if num = 0xB10203 then (if i < 0x300 then some .writeToReadOnly else none)
  else if num = 0x421301 ∨ num = 0x422301 ∨ num = 0x423301 then (if n ≠ 0 then some .valueInvalid else none)
  else if num = 0x802102 then (if n = 0 ∧ i = 7 then some .valueInvalid else none)
  else if num = 0x802101 then (if n ≠ 0 ∧ i ≤ 6 then some .valueInvalid else none)
  else if ix = 0xA081 then (if (s.camp i).st = 1 then none else some .deviceBusy)
  else none

/-- A checked value of a grouped object in OCB personality (R58): stored and readable at once, while its block acts on the
value before until it next acts on its group. -/
def State.writeAtOnce (s : State) (num i : Nat) (v : Bytes) : State := s.storeActing (storeKey num i) v

/-- The write of a checked value (R51, R52, R58): the abort, or the state after it. -/
def State.writeChecked (s : State) (r : Req) (num i : Nat) (o : ObjRow) (v : Bytes) : Except Abort State :=
  if o.acc = .rws ∧ s.pwr.ocb = false then s.stage num i v
  else if o.eff ≠ .volatile ∧ r.storeOk = false then .error .cannotStore
  else if o.acc = .rws then .ok (s.writeAtOnce num i v)
  else .ok (s.storeObj r num o v)

/-- A write to an object without a rule that replaces this one (R44, R45, R51, R52, R58). -/
def State.write (s : State) (r : Req) (num : Nat) (v : Bytes) : State :=
  match s.locate r num with
  | .error a => s.respond r (.abort a)
  | .ok o =>
    match s.accessRefuses r num o .write with
    | some a => s.respond r (.abort a)
    | none => match o.checkValue v with
      | some a => s.respond r (.abort a)
      | none =>
        let i := s.itemOf r o
        match s.ownRule num i (o.stored v) with
        | some a => s.respond r (.abort a)
        | none => match s.writeChecked r num i o (reservedZero num (o.stored v)) with
          | .error a => s.respond r (.abort a)
          | .ok t => t.respond r (.ok [])

/-- A write request that reaches a native object. -/
def State.putNative (s : State) (r : Req) (num : Nat) (v : Bytes) : State :=
  if num = 0x102100 then s.authResponse r v
  else if num = 0xC01001 then s.keyRecordWrite r v
  else if 0xA04001 ≤ num ∧ num ≤ 0xA04020 then s.peerWrite r num v
  else if num = 0xA08101 then s.kindWrite r v
  else if num = 0x200100 then s.codeEntry r v
  else if 0x200201 ≤ num ∧ num ≤ 0x200204 then s.codeWrite r num v
  else if num = 0x210000 then s.legalTimeWrite r v
  else s.write r num v

/-- A write request, in the view too (R446). -/
def State.put (s : State) (r : Req) (num : Nat) (v : Bytes) : State :=
  if s.pwr.ocb ∧ (ocbIndex (num / 256)).isSome = true then
    match ocbTarget num with
    | some n => s.putNative (s.viewReq r) n v
    | none => s.respond r (.abort (match s.viewGap r num with | .ok _ => .writeToReadOnly | .error a => a))
  else s.putNative r num v

/-- The state a meaning leads to. -/
def State.after (s : State) : Result → State
  | .next t => t
  | _ => s

/-- A command of the life cycle, keys, updates, campaigns or the pair (04_trust_keys, 14_updates, 15_pairing). -/
def State.postTrust (s : State) (r : Req) (num : Nat) (arg : Bytes) (f : Found) : State :=
  match num with
  | 0xA01001 => s.lifeCycleCmd r arg f.stuck
  | 0xA01100 => s.closeDebugCmd r arg f.readsBack
  | 0xA01200 => s.lockPersCmd r arg f.readsBack
  | 0xA02104 => s.verifyTokenCmd r arg
  | 0xA03001 => s.attestCmd r arg
  | 0xA05000 => s.importFleetCmd r arg
  | 0xA05100 => s.importKeyCmd r arg
  | 0xA05200 => s.deriveKeyCmd r arg
  | 0xA05300 => s.invalidateCmd r arg
  | 0xA05400 => s.destroyCmd r arg
  | 0xA05600 => s.changeFleetCmd r arg
  | 0xA06001 => s.beginDownload r arg
  | 0xA06002 => s.imageBlock r arg
  | 0xA06003 => s.finishDownload r arg
  | 0xA06006 => s.abandonDownload r arg
  | 0xA06101 => s.activateCmd r arg
  | 0xA06103 => s.confirmHealth r arg f.fuses
  | 0xA08201 => s.contentCmd r arg
  | 0xA08202 => s.controlCmd r arg
  | 0xA08301 => s.targetsCmd r 0xA08301 arg
  | 0xA08302 => s.targetsCmd r 0xA08302 arg
  | 0xB00201 => s.handOverCmd r arg
  | 0xB00202 => s.adoptCmd r arg f.values
  | 0xB12002 => s.after (execClearEvents r arg s)
  | 0xB13002 => s.after (execRaiseApplicationEvent r arg s)
  | _ => s.command r num arg (fun _ t => .done t)

/-- Any other command. -/
def State.postNative (s : State) (r : Req) (num : Nat) (arg : Bytes) (f : Found) : State :=
  let ix := num / 256
  if 0x1F00 ≤ ix ∧ ix ≤ 0x1F26 ∧ num % 256 = 3 then s.commitCmd r (ix - 0x1F00) arg
  else if 0x1F00 ≤ ix ∧ ix ≤ 0x1F26 ∧ num % 256 = 4 then s.discardCmd r (ix - 0x1F00) arg
  else if 0x3300 ≤ ix ∧ ix ≤ 0x331F ∧ num % 256 = 6 then s.armCmd r (ix - 0x3300) arg
  else match num with
  | 0x101101 => s.restoreCmd r arg
  | 0x240003 => s.clearOcbCmd r arg
  | 0x301101 => s.mainResetCmd r arg
  | 0x301102 => s.after (execClearRstcntInvalid r arg s)
  | 0x31000A => s.setEpochCmd r arg
  | 0x320100 => s.after (execSetCalendar r arg s)
  | 0x320200 => s.after (execSubSecondShift r arg s)
  | 0x320404 => s.after (execRelearnTrim r arg s)
  | 0x60000A => s.armLatchCmd r arg
  | 0x602210 => s.resetMaxCmd r arg
  | 0x604001 => s.calibrateCmd r arg
  | 0x605008 => s.captureCmd r arg
  | 0x610007 => s.latchNowCmd r arg
  | 0x611301 => s.resetModelCmd r arg
  | 0x700305 => s.closeNowCmd r arg
  | 0x704005 => s.after (execClearTamperLatches r arg s)
  | 0x706305 => s.manualCmd r arg
  | 0xC05410 => s.after (execCreditTransfer r arg s)
  | 0xC05411 => s.after (execRequestEmergencyCredit r arg s)
  | 0xC05412 => s.after (execAdjustDebt r arg s)
  | _ => s.postTrust r num arg f

/-- A command request, in the view too (R446). -/
def State.post (s : State) (r : Req) (num : Nat) (arg : Bytes) (f : Found) : State :=
  if s.pwr.ocb ∧ (ocbIndex (num / 256)).isSome = true then
    match ocbTarget num with
    | some n => s.postNative (s.viewReq r) n arg f
    | none => s.respond r (.abort (match s.viewGap r num with | .ok _ => .writeToReadOnly | .error a => a))
  else s.postNative r num arg f

/-- The object is a command object: a service that does not tell a write from a command starts it (R45). -/
def State.isCommand (s : State) (num : Nat) : Bool :=
  let n := if s.pwr.ocb then (ocbTarget num).getD num else num
  match findRow n with | some o => o.acc == .cmd | none => false

/-- A request that carries bytes to an object over a service that does not tell a write from a command (R61). -/
def State.send (s : State) (r : Req) (num : Nat) (v : Bytes) (f : Found) : State :=
  if s.isCommand num then s.post r num v f else s.put r num v

/-- R51: a write to an RW or WO object. -/
def execObjectWrite (r : Req) (k : ObjKey) (v : Bytes) (s : State) : Result := .next (s.put r (ObjKey.num k) v)

/-- R52: a write to a staged object in native personality. -/
def execStagedWrite (r : Req) (k : ObjKey) (v : Bytes) (s : State) : Result :=
  .next (if s.pwr.ocb = false ∧ ((findRow (ObjKey.num k)).map (fun (o : ObjRow) => o.acc)) = some .rws then s.put r (ObjKey.num k) v else s)

/-- R58: a write to a grouped object in OCB personality, through either view. -/
def execOcbImmediateWrite (r : Req) (k : ObjKey) (v : Bytes) (s : State) : Result :=
  let n := (ocbTarget (ObjKey.num k)).getD (ObjKey.num k)
  .next (if s.pwr.ocb = true ∧ (groupOf n).isSome = true then s.put r (ObjKey.num k) v else s)

end Sys2Proof.Machine
end

