-- ==== Sys2Proof/Machine/Display.lean ====
section
/-! DEFINITION. The service display's frame (R295, R296). -/

namespace Sys2Proof.Machine

/-- Decimal digits of a number, at most n of them from the right, without leading zeros but for the last. -/
def decDigits : Nat → Nat → Bytes
  | 0, _ => []
  | n + 1, v => (if v < 10 then [] else decDigits n (v / 10)) ++ [BitVec.ofNat 8 (0x30 + v % 10)]

/-- A count of units of 10^-d as text, with its sign and d decimals. -/
def decText (v : Int) (d : Nat) : Bytes :=
  let a := v.natAbs
  (if v < 0 then [0x2D] else []) ++ decDigits 400 (a / 10 ^ d) ++
  (if d = 0 then [] else 0x2E :: (List.range d).map (fun (i : Nat) => BitVec.ofNat 8 (0x30 + a / 10 ^ (d - 1 - i) % 10)))

/-- The exact quotient, or the display's own rounding of it (log entry 6). -/
def shownQuotient (num : Int) (den : Nat) : Int := if num % (den : Int) = 0 then num / (den : Int) else Config.roundShown num den

/-- A value of a numeric type as an exact ratio; none for a type that is no number. -/
def shownRatio (t : OType) (v : Bytes) : Option (Int × Nat) :=
  match t with
  | .bool | .u _ | .i _ | .bcd | .cyc => some (t.toInt v, 1)
  | .f64 =>
    match F64.val (BitVec.ofNat 64 (leNat v)) with
    | .fin neg m e =>
      let r := ratioAt m 1 e
      some (if neg then -(r.1 : Int) else r.1, r.2)
    | _ => none
  | _ => none

/-- Two digits of a number below 100. -/
def twoDigits (n : Nat) : Bytes := [BitVec.ofNat 8 (0x30 + n / 10 % 10), BitVec.ofNat 8 (0x30 + n % 10)]

/-- A date YY-MM-DD and a time hh:mm:ss of the calendar (R296). -/
def dateText (c : CalTime) : Bytes := twoDigits (c.year % 100) ++ [0x2D] ++ twoDigits c.month ++ [0x2D] ++ twoDigits c.day
def timeText (c : CalTime) : Bytes := twoDigits c.hour ++ [0x3A] ++ twoDigits c.minute ++ [0x3A] ++ twoDigits c.second

/-- An object's value as the display reads it, with the Observer role; of a staged object the active value. -/
def State.shownValue (s : State) (num : Nat) (handle : Nat) : Option (OType × Bytes) :=
  let r : Req := { sess := ⟨.internal, 0⟩, handle := if handle = 0xFFFFFFFF then none else some (BitVec.ofNat 20 handle) }
  let n := if s.pwr.ocb then (ocbTarget num).getD num else num
  if handle ≠ 0xFFFFFFFF ∧ 0xFFFFF ≤ handle then none
  else match rowOf n with
    | none => none
    | some o =>
      if s.lifeRefuses r n o .read ∨ (s.meterRefuses r n o .read).isSome = true ∨ o.acc = .wo ∨ o.acc = .cmd then none
      else if o.acc = .rws then some (o.ty, s.stored n (s.itemOf r o))
      else match (s.fetch r num).1 with | .ok v => some (o.ty, v) | .error _ => none

/-- The value's text by the item's format byte (R296); none where it cannot be shown. -/
def State.shownText (s : State) (num handle format : Nat) : Option Bytes :=
  let d := format / 16
  let k := format % 16
  if k = 3 then (if num = 0x32000B then some (dateText s.time.cal) else none)
  else if k = 4 then (if num = 0x32000B then some (timeText s.time.cal) else none)
  else if 4 < k ∨ 9 < d then none
  else match s.shownValue num handle with
    | none => none
    | some x =>
      match x.1 with
      | .vstr _ => some (x.2.drop 1)
      | t =>
        match shownRatio t x.2 with
        | none => none
        | some q => some (decText (shownQuotient (q.1 * 10 ^ d) (q.2 * 10 ^ (3 * k))) d)

/-- The 16 bytes of text of an item and whether its value is unavailable (R295, R296). -/
def displayText (label : Bytes) (value : Option Bytes) : Bytes × Bool :=
  let ok := match value with | some t => decide (t.length ≤ 11) | none => false
  let body := if ok then value.getD [] else List.replicate 11 (0x2D : Byte)
  (label ++ [0x20] ++ List.replicate (11 - body.length) (0x20 : Byte) ++ body, !ok)

/-- The 24-byte frame of the item shown (R295). An empty list shows the calendar time. -/
def State.displayFrame (s : State) : Bytes :=
  let items := s.dispItems
  let i := if s.bill.dispItem < items.length then s.bill.dispItem else 0
  let x := match items[i]? with
    | none => displayText (leBytes 4 Config.clockLabel.toNat) (some (timeText s.time.cal))
    | some b =>
      displayText (slice b 8 4) (s.shownText (fieldAt b 0 2 * 256 + fieldAt b 2 1) (fieldAt b 4 4) (fieldAt b 3 1))
  let attr := bit s.bill.dispHold + 2 * bit s.bill.dispAlt + 4 * bit x.2
  let body : Bytes := [1, BitVec.ofNat 8 i, BitVec.ofNat 8 attr, 0] ++ x.1
  body ++ leBytes 4 (Config.crc32c body)

/-- Reading the item shown is charged to account DICT (R296); its amount is open (log entry 6). -/
def State.chargeShown (s : State) : State := if s.dispItems.isEmpty then s else s.chargeOpen 108 9 0

/-- R295: the item shown has changed, or a second has passed. The display is not driven on backup supply (R296). -/
def execDisplayFrameTx (s : State) : Result :=
  .next (if s.onBackup ∨ s.pwr.inReset = true then s
    else
      let t := s.emit (.display s.displayFrame)
      ({ t with bill := { t.bill with dispChanged := false } }).chargeShown)

end Sys2Proof.Machine
end

