-- ==== Sys2Proof/Machine/Downlinks.lean ====
section
/-! DEFINITION. The downlink frames of the field ports (R148, R166, R173, R209). -/

namespace Sys2Proof.Machine

/-- R166, R148: the next downlink frame of a partner leaves its port; `content` is what the staging region holds for the item
of the port's flow that the sequencer takes first. S-FSK sends not before the tracker has been LOCKED (R141). -/
def execDownlinkFrameTx (port : Fin 24) (handle : Handle) (content : Bytes) (s0 : State) : Result :=
  let p := port.val
  let h := handle.toNat
  .next (if s0.mayTransmit p = false then s0
    else
      let s := (s0.takePortItem p content).showResults
      match s.partner h with
      | none => s
      | some x =>
        if x.port ≠ p then s
        else match x.queue with
        | [] => s
        | d :: rest =>
          if s.isNative p then
            match s.routeTo p h with
            | none => s
            | some (path, span) =>
              if (s.fport p).began = false ∨ x.sync = 2 ∨ x.unreachable ∨ s.slotOpen p span (some x) = false then s
              else s.sendHead p h path x d
          else if x.gen = 5 ∧ s.time.everLocked = false then s
          else s.sendStd p h x d rest)

end Sys2Proof.Machine
end

