-- ==== Sys2Proof/Machine/Mirror.lean ====
section
/-! DEFINITION. What the mirror stream brings a joining or Standby unit, what a confirmation brings the Active unit, the
billing deltas, and the end of a resynchronisation (15_pairing, R379 to R383, R387; R40, R253). -/

namespace Sys2Proof.Machine

/-- A message of the mirror stream is taken in sequence (R379): a Standby takes the next one only, so that a gap waits for
retransmission; a joining unit or an Active one any later one. -/
def State.takesMessage (s : State) (m : U64) : Bool :=
  s.pair.role != .solo && (if s.pair.role = .standby then m == s.pair.rxSeq + 1 else decide (s.pair.rxSeq < m))

/-- Take a message: note its sequence, then act where the role receives the stream (R377). -/
def State.onStream (s : State) (m : U64) (f : State → State) : State :=
  if s.takesMessage m = false then s
  else
    let s1 := s.setPair (fun x => { x with rxSeq := m, link := true })
    if s.pair.role = .standby ∨ s.pair.role = .syncing then f s1 else s1

/-- The context that an Entry message leaves (R380, R381). -/
def Ctx.mirrored (c : Ctx) (e : JEntry) (b : Bytes) : Ctx :=
  { c with
    counter := BitVec.ofNat 32 (fieldAt b 0 4), digest := slice b 4 8, ack := slice b 12 16
    keyVersion := BitVec.ofNat 32 (fieldAt b 28 4), lastSeq := BitVec.ofNat 8 (fieldAt b 32 1), access := BitVec.ofNat 8 (fieldAt b 33 1)
    jseq := e.seq, lastAt := e.at_, link := e.link, counterValid := true }

/-- A journal entry as the unit that receives it holds it (R189, R192, R381): flagged MIRRORED, born now; a keep-alive and a MAC
command have no effect to wait for. -/
def JEntry.received (b : Bytes) (born : Nat) : JEntry :=
  let e := JEntry.parse b born
  { e with mirrored := true, effected := e.keepalive || e.macCmd }

/-- A partner of the Active unit on a field port is kept as one by the unit that receives the stream (R380, R385), under the port and
the generation of its link word (R180, R196); its key slot counts as pinned (R125). It has no path yet: routes are built afresh. -/
def State.mirrorPartner (s : State) (h : Nat) (link : U16) : State :=
  let g := link.toNat % 256
  if 2 ≤ link.toNat / 2 ^ 14 ∨ g = 0 then s
  else
    let rf := link.toNat / 2 ^ 14 == 1
    let p := link.toNat / 256 % 64 + (if rf then 12 else 0)
    let pins := if s.trust.pins.contains h ∨ 12288 ≤ s.trust.pins.length then s.trust.pins else s.trust.pins ++ [h]
    let new : Partner := { port := p, gen := if rf then g - 5 else g, joined := true, sync := 1 }
    let partners := if (s.partner h).isSome then s.field.partners else tblPut s.field.partners h new
    { s with trust := { s.trust with pins := pins, lru := s.trust.lru.erase h }, field := { s.field with partners := partners } }

/-- R381: a mirrored entry is written at the same sequence, flagged MIRRORED, and read back; its context is updated; its
content goes to the unit's own flows; a STANDBY confirms it. Without room it withholds all of it (R191). -/
def State.takeEntry (s : State) (b cb : Bytes) : State :=
  let e := JEntry.received b s.time.mono
  if 4194304 < s.acc.fill + e.len ∨ (s.entryOf e.seq).isSome = true then s
  else
    let c := ((s.ctxOf e.handle).orElse (fun _ => tblFind? s.acc.ctxMem e.handle)).getD { remote := e.remote, pinned := !e.remote }
    let c1 := if e.unsecured then { c with lastAt := e.at_ } else c.mirrored e cb
    let s1 := s.journalAppend e
    let s2 : State := { s1 with
      acc := { s1.acc with
        nextSeq := if s1.acc.nextSeq ≤ e.seq then e.seq + 1 else s1.acc.nextSeq
        ctx := if c1.remote ∧ (s.ctxOf e.handle).isNone then s1.acc.ctx else tblPut s1.acc.ctx e.handle c1
        ctxMem := if c1.remote ∧ (s.ctxOf e.handle).isNone then tblPut s1.acc.ctxMem e.handle c1 else s1.acc.ctxMem }
      pair := { s1.pair with mirrored := s1.pair.mirrored + 1 } }
    let s2' := if c1.pinned then s2.mirrorPartner e.handle e.link else s2
    let s3 := if e.keepalive ∨ e.macCmd then s2' else s2'.deliver (linkSource e.link) e
    if s3.pair.role = .standby then s3.sendPair .confirmation e.seq.toNat [] else s3

def execEntry (m : U64) (bytes context : Bytes) (s : State) : Result := .next (s.onStream m (fun t => t.takeEntry bytes context))

/-- R33, R381: the Standby's confirmation; `late` is whether it comes after the latest decision that yields an
acknowledgement, which is then withheld. -/
def execConfirmation (m : U64) (seq : U64) (late : Bool) (s : State) : Result :=
  .next (if s.takesMessage m = false then s
    else
      let s1 := s.setPair (fun x => { x with rxSeq := m, link := true })
      match s1.acc.deciding.find? (fun d => d.seq == seq) with
      | none => s1
      | some d =>
        let s2 := if late ∧ d.made = false then
            match d.port with
            | some p =>
              (s1.setFport p (fun x => { x with acks := x.acks.filter (fun (a : AckDue) => a.dup || a.wait != some seq.toNat) })).decideLate p seq
            | none => (s1.setEntry seq (fun e => { e with withheld := true })).bumpAcc 9
          else s1
        (s2.confirm seq).setPair (fun x => { x with mirrored := x.mirrored + 1 }))

/-- R380: a mirrored context image replaces the unit's own, pinned in the context store or, for a remote meter, in the
meter table; a pinned one may tell of a partner; an image without a context removes it, a partner as R181 says. -/
def State.takeContext (s : State) (h : Nat) (image : Bytes) : State :=
  let c := Ctx.ofImage image
  if fieldAt image 0 4 < 2 ^ 31 then
    if (s.partner h).isSome then s.removePartner h
    else { s with acc := { s.acc with ctx := tblDel s.acc.ctx h, ctxMem := tblDel s.acc.ctxMem h, snaps := tblDel s.acc.snaps h, cache := s.acc.cache.erase h } }
  else if c.pinned then ((({ s with acc := { s.acc with ctx := tblPut s.acc.ctx h c, ctxMem := tblDel s.acc.ctxMem h } }).snapshot h).mirrorPartner h c.link)
  else if (s.ctxOf h).isSome then { s with acc := { s.acc with ctx := tblPut s.acc.ctx h c } }
  else { s with acc := { s.acc with ctxMem := tblPut s.acc.ctxMem h c } }

def execContextChange (m : U64) (handle : Handle) (image : Bytes) (s : State) : Result :=
  .next (s.onStream m (fun t => t.takeContext handle.toNat image))

/-- R380: once per second the register sets of the meters that changed, with their journal sequences, and the device billing
state. -/
def execBillingDeltaTx (s : State) : Result :=
  .next (if s.streaming = false then { s with bill := { s.bill with changed := [] } }
    else
      let a := s.bill.app
      let body := leBytes 4 a.period.toNat ++ leBytes 2 a.shift.toNat ++ leBytes 4 a.closedBound ++
        s.bill.changed.flatMap (fun h => leBytes 4 h ++ leBytes 8 ((tblFind? a.applied h).map (·.toNat) |>.getD 0) ++ (s.mbill h).setBytes)
      let t := s.sendPair .billingDelta s.bill.changed.length body
      { t with bill := { t.bill with changed := [] } })

/-- The register set that a billing delta carries (R272, R380). -/
def MeterBill.ofSet (x : MeterBill) (b : Bytes) : MeterBill :=
  let i := fun (o : Nat) => toSigned 64 (fieldAt b o 8)
  { x with
    totI := i 0, totE := i 8
    imp := (List.range 8).map (fun (k : Nat) => i (16 + 8 * k))
    exp := (List.range 8).map (fun (k : Nat) => i (80 + 8 * k))
    md := (List.range 8).map (fun (k : Nat) => (i (144 + 8 * k), ofTime64 (slice b (208 + 12 * k) 12)))
    outage := i 304, unattr := i 312, unattrE := 0 }

/-- R383: one meter of a billing delta: a set that differs takes the Active unit's values and is counted. A set that the
unit has already carried further stands. -/
def State.reconcile (s : State) (h : Nat) (seq : U64) (set : Bytes) : State :=
  let own := (tblFind? s.bill.app.applied h).map (·.toNat) |>.getD 0
  if seq.toNat < own ∨ (s.mbill h).setBytes = set then s
  else
    let s1 := (s.setMbill h (fun x => x.ofSet set)).setApp (fun a => { a with applied := tblPut a.applied h seq })
    (s1.setPair (fun x => { x with diverge := x.diverge + 1 })).raise 0x247 h

def execBillingDelta (m : U64) (meters : List (Handle × U64 × Bytes)) (period : U32) (shift : U16) (closed : Nat) (s : State) : Result :=
  .next (s.onStream m (fun t =>
    (meters.foldl (fun u x => u.reconcile x.1.toNat x.2.1 x.2.2) t).setApp (fun a =>
      { a with period := period, shift := shift, closedBound := closed })))

/-- Credit state of a code (R305). -/
def creditOfCode (n : Nat) : Credit :=
  ([Credit.off, .credit, .low, .emergency, .exhausted, .deferred, .disconnected].find? (fun c => c.code == n)).getD .off

/-- The ledger that a record spells (R301); its notice state is part of it (R310). -/
def Ledger.ofRecord (l : Ledger) (b : Bytes) : Ledger :=
  let f := fieldAt b 3 1
  let i := fun (o : Nat) => toSigned 64 (fieldAt b o 8)
  let n := ofTime64 (slice b 44 12)
  { l with
    st := creditOfCode (fieldAt b 1 1), ec := f.testBit 0, noticeSent := f.testBit 1, reconnect := f.testBit 2, disconnect := f.testBit 3
    eCarry := fieldAt b 4 4, balance := i 8, debt := i 16, credited := i 24, charged := i 32
    lastId := BitVec.ofNat 32 (fieldAt b 40 4), notice := if n = 0 then none else some n, tCarry := fieldAt b 56 4 }

/-- R380, R383: a mirrored ledger record replaces the unit's own. -/
def execLedgerDelta (m : U64) (handle : Handle) (record : Bytes) (s : State) : Result :=
  .next (s.onStream m (fun t => t.setLedger handle.toNat (fun l => l.ofRecord record)))

/-- The requester of a command that comes by the mirror stream. -/
def mirrorReq (h : Handle) : Req := { sess := ⟨.internal, 1⟩, handle := some h }

/-- R380: the same key command runs on the unit's own Cistern. -/
def State.keyOperation (s : State) (num : Nat) (h : Handle) (arg : Bytes) : State :=
  if num = 0xC01001 then s.keyRecordWrite (mirrorReq h) (octets arg)
  else if num = 0xA05100 then s.importKeyCmd (mirrorReq h) arg
  else if num = 0xA05200 then s.deriveKeyCmd (mirrorReq h) arg
  else if num = 0xA05300 then s.invalidateCmd (mirrorReq h) arg
  else if num = 0xA05400 then s.destroyCmd (mirrorReq h) arg
  else if num = 0xA05600 then s.changeFleetCmd (mirrorReq h) arg
  else s

def execKeyOperation (m : U64) (k : ObjKey) (handle : Handle) (arg : Bytes) (s : State) : Result :=
  .next (s.onStream m (fun t => t.keyOperation (ObjKey.num k) handle arg))

/-- A mirrored campaign's definition, content and targets (R357, R387). -/
def State.takeCampaign (s : State) (c : CampCopy) : State :=
  let n := c.number
  let vals := (List.range 12).zip c.defs
  let s1 := vals.foldl (fun (t : State) v => t.storeVal (0xA08101 + v.1) n v.2) s
  s1.setCamp n (fun x => { x with
    st := c.st
    content := (List.range ((c.content.length + 4095) / 4096)).foldl (fun (m : Tbl Bytes) (i : Nat) =>
      let b := slice c.content (i * 4096) 4096
      tblPut m i (b ++ List.replicate (4096 - b.length) 0)) []
    targets := if c.targets = [] then x.targets
      else c.targets.foldl (fun (m : Tbl Target) h => if (tblFind? m h.toNat).isSome then m else tblPut m h.toNat { st := 2 }) [] })

/-- R380: a mirrored set is applied at the unit's own safe point; a calendar set at its own tick; a campaign command at once. -/
def State.takeConfig (s : State) : MirrorCfg → State
  | .commit g vals =>
    s.commitSet g (vals.foldl (fun (t : Tbl Bytes) v => tblPut t (storeKey (ObjKey.num v.1) v.2.1) v.2.2) [])
  | .calendarSet arg => if setArgOk arg ∧ s.time.lockout = false then { s with time := { s.time with pendSet := some (CalTime.ofBcd7 arg, none) } } else s
  | .calendarShift arg =>
    let n := toSigned 16 (leNat arg)
    if s.time.lockout ∨ s.time.hold.isSome then s
    else if s.time.oscStopped then { s with time := { s.time with pendShift := some (n, none) } }
    else s.shift n
  | .epoch arg => s.setEpoch (BitVec.ofNat 40 (leNat arg))
  | .campaign c => s.takeCampaign c
  | .targets c add arg =>
    match targetRanges arg with
    | none => s
    | some l =>
      let hs := (s.trust.meters.map (·.1)).filter (inRanges l)
      let put := fun (m : Tbl Target) h => if (tblFind? m h).isSome then m else tblPut m h { st := 2 }
      if add then s.setCamp c (fun x => { x with targets := hs.foldl put x.targets })
      else s.setCamp c (fun x => { x with targets := x.targets.filter (fun (p : Nat × Target) => !inRanges l p.1) })

def execConfiguration (m : U64) (c : MirrorCfg) (s : State) : Result := .next (s.onStream m (fun t => t.takeConfig c))

/-- R40: the Active unit's cycle number for the crossing of a stamp; on disagreement it is adopted, the crossing table is
renumbered by the same difference, and latches and triggers keep their targets. -/
def State.adoptCycle (s : State) (cycle : Cycle) (stamp : Nat) : State :=
  let own : Int := match s.time.lastStamp with
    | none => s.time.cycle.toNat
    | some t => (s.time.cycle.toNat : Int) + roundDiv ((stamp : Int) - t) (max s.time.period 1)
  let d : Int := (cycle - BitVec.ofInt 40 own).toInt
  if d = 0 then s
  else
    let add := fun (c : Cycle) => BitVec.ofInt 40 ((c.toNat : Int) + d)
    ({ s with time := { s.time with
        cycle := add s.time.cycle
        slips := s.time.slips.map (fun (x : Cycle × Int) => (add x.1, x.2))
        table := s.time.table.map (fun (x : Crossing) => { x with num := add x.num }) } }).raise 0x048 (d * s.time.period / 1000)

def execTimeState (m : U64) (cycle : Cycle) (stamp : Nat) (s : State) : Result :=
  .next (s.onStream m (fun t => t.adoptCycle cycle stamp))

/-- R253, R380: a mirrored latch order arms the unit's own check latch. -/
def execLatchOrder (m : U64) (id : U16) (target : Cycle) (s : State) : Result :=
  .next (s.onStream m (fun t =>
    let u := match t.armLatch id target with | .ok u => u | .error _ => t
    u.holdOrder id target (target - t.time.cycle).toNat))

/-- A meter record of a bulk copy, where the live stream has not brought a newer one (R387). -/
def State.takeMeter (s : State) (x : MeterCopy) : State :=
  let h := x.handle.toNat
  let own := (tblFind? s.bill.app.applied h).map (·.toNat) |>.getD 0
  if x.seq.toNat < own then s
  else
    let es := x.entries.foldl (fun (m : Tbl PEntry) e => tblPut m e.1 e.2) []
    let s1 := (s.setMbill h (fun y => { (y.ofSet x.set) with entries := es, block := es })).setApp
      (fun a => { a with applied := tblPut a.applied h x.seq, profiled := tblPut a.profiled h x.seq })
    s1.setLedger h (fun l => l.ofRecord x.ledger)

/-- The entries that a number of free bytes of the ring holds (R191). -/
def roomFor (room : Nat) : List JEntry → List JEntry
  | [] => []
  | e :: es => if e.len ≤ room then e :: roomFor (room - e.len) es else roomFor room es

/-- R387 step 4: what the bulk copy brings; each item gives way to a newer one of the live stream. -/
def State.takeBulk (s : State) (b : BulkCopy) : State :=
  let s1 := b.contexts.foldl (fun (t : State) x =>
    let h := x.1.toNat
    let own := ((t.ctxOf h).orElse (fun _ => tblFind? t.acc.ctxMem h)).map (·.jseq.toNat)
    if (own.getD 0) ≤ (Ctx.ofImage x.2).jseq.toNat then t.takeContext h x.2 else t) s
  let s2 := b.keys.foldl (fun (t : State) x =>
    if t.keyVersionOf x.1.toNat < fieldAt x.2 44 4 ∨ t.inUse x.1.toNat = false then t.storeKeyRecord x.1.toNat x.2 else t) s1
  let s3 := b.meters.foldl (fun (t : State) x => t.takeMeter x) s2
  let s4 := s3.setApp (fun a => { a with
    period := b.period, shift := b.shift, closedBound := b.closed
    ivals := b.ivals.foldl (fun (m : Tbl Ival) x => tblPut m x.1 x.2) a.ivals
    nextIval := max a.nextIval (b.ivals.foldl (fun n x => max n (x.1 + 1)) 0) })
  let s5 := b.campaigns.foldl (fun (t : State) x => t.takeCampaign x) s4
  let es := roomFor (4194304 - s5.acc.fill) ((b.entries.map (fun e => JEntry.received e s.time.mono)).filter (fun (e : JEntry) => (s5.entryOf e.seq).isNone))
  let s6 : State := ({ s5 with acc := { s5.acc with
    journal := es ++ s5.acc.journal
    nextSeq := es.foldl (fun n (e : JEntry) => if n ≤ e.seq then e.seq + 1 else n) s5.acc.nextSeq } }).journalMarks
  es.foldl (fun (t : State) e => if e.keepalive ∨ e.macCmd then t else t.deliver (linkSource e.link) e) s6

/-- R387, R388: the bulk copy has ended with no gap in the live stream: the unit becomes STANDBY. -/
def execResyncComplete (b : BulkCopy) (s : State) : Result :=
  .next (if s.pair.role ≠ .syncing ∨ s.pair.link = false ∨ s.pair.mismatch.isSome then s
    else
      let s1 := s.takeBulk b
      (s1.setPair (fun x => { x with role := .standby, progress := 0, gapEnd := s.time.net })).raise 0x243
        (((s.time.mono - s.pair.syncSince) / 32768 : Nat) : Int))

end Sys2Proof.Machine
end

