-- ==== Sys2Proof/Machine/Release.lean ====
section
/-! DEFINITION. The release of an island after a block-alone reset (R25, R194, R417): what waited at its boundary is delivered in
its original order. -/

namespace Sys2Proof.Machine

/-- The state a meaning goes on to; a meaning that stops leaves the state. -/
def State.follow (s : State) (r : Result) : State := match r with | .next t => t | _ => s

/-- R403: all release conditions hold; the Grotto verifies the factory calibration record (R236); blocks
act on the values that committed sets have changed (R54). -/
def execMainResetRelease (x : StartUp) (s : State) : Result :=
  let cause : U8 := if s.pwr.railsLost then 1 else s.pwr.nextCause.getD 1
  let lost := s.pwr.retTrip || !x.canaryOk
  let warned := s.pwr.pfw
  .next (if s.pwr.inReset = false ∨ s.pwr.aonAccepted = false ∨ 1100 ≤ s.pwr.tj then s
    else
      let s1 := ((s.judgeRetention lost).restartDict).restartPower x cause lost
      let s2 := (s1.restartTime).restartEvents x cause
      let s3 := (s2.reportRelease lost).restartTrust
      let s4 := s3.startImages x.badImages warned
      let s5 := ((((s4.restartWork x).restartArchive).restartBilling).restartRest).setWeir (fun w => { w with factoryOk := x.factoryOk, calApplies := 0, calAt := 0 })
      s.resetChanges.foldl (fun (t : State) (p : Nat × Tbl Bytes) => if p.2 = [] then t else t.applied p.1 p.2) s5)

/-- A request that waited for an island is delivered (R25). -/
def State.runRequest (s : State) (c : Instr) : State :=
  match c with
  | .g3LbpJoin p h => s.follow (execG3LbpJoin p h s)
  | .primeRegistration p h => s.follow (execPrimeRegistration p h s)
  | .sfskDiscovery p h => s.follow (execSfskDiscovery p h s)
  | .wmbusInstallRequest p h => s.follow (execWmbusInstallRequest p h s)
  | .sunAssociation p h => s.follow (execSunAssociation p h s)
  | .forwardingRequest r peer l stamp => s.follow (execForwardingRequest r peer l stamp s)
  | .ocbHeadendDelivery conn msg stamp => s.follow (execOcbHeadendDelivery conn msg stamp s)
  | .downlinkAckRx p a => s.follow (execDownlinkAckRx p a s)
  | .keyUse k op => s.follow (execKeyUse k op s)
  | .readingApply h q k regs => s.follow (execReadingApply h q k regs s)
  | .prepayItem h => s.follow (execPrepayItem h s)
  | _ => s

/-- One entry that waited at its source runs, or waits on where the path has closed again (R25, R219). -/
def State.runInput (s : State) (x : Held) : State :=
  if s.pathRuns = false then { s with acc := { s.acc with inputs := s.acc.inputs ++ [x] } }
  else match x.what with
    | .frame gen p f rx => s.runHeld gen p f rx
    | .request c => s.runRequest c

/-- What waited at the sources runs, in its order, once the islands of the path run again and ACCEPT has crypto time (R25, R219). -/
def State.runInputs (s : State) : State :=
  s.acc.inputs.foldl State.runInput { s with acc := { s.acc with inputs := [] } }

/-- A command of the host that waited for storage is carried out (R25, R341). -/
def State.runHostCmd (s : State) (i : Instr) : State :=
  match i with
  | .nvmeRead c lba count unc => s.follow (execNvmeRead c lba count unc s)
  | .nvmeWrite c lba data fua => s.follow (execNvmeWrite c lba data fua s)
  | .nvmeFlush c => s.follow (execNvmeFlush c s)
  | .nvmeDatasetManagement c d l => s.follow (execNvmeDatasetManagement c d l s)
  | .nvmeFormat c ses => s.follow (execNvmeFormat c ses s)
  | .nvmeIdentify c cns => s.follow (execNvmeIdentify c cns s)
  | .nvmeGetLogPage c lid => s.follow (execNvmeGetLogPage c lid s)
  | .nvmeSetFeatures c fid v => s.follow (execNvmeSetFeatures c fid v s)
  | .nvmeGetFeatures c fid => s.follow (execNvmeGetFeatures c fid s)
  | .nvmeCreateIoQueue c k id size cq => s.follow (execNvmeCreateIoQueue c k id size cq s)
  | .nvmeDeleteIoQueue c k id => s.follow (execNvmeDeleteIoQueue c k id s)
  | .nvmeAbort c q cid => s.follow (execNvmeAbort c q cid s)
  | .asynchronousEventRequest c => s.follow (execAsynchronousEventRequest c s)
  | .nvmeInvalidOpcode c => s.follow (execNvmeInvalidOpcode c s)
  | _ => s

/-- The host's commands that waited run, in their order. -/
def State.runHost (s : State) : State :=
  s.arch.nvWait.foldl (fun (t : State) i => t.runHostCmd i) { s with arch := { s.arch with nvWait := [] } }

/-- Crossings that were held at an island's boundary are delivered in their order (R25). -/
def State.runCrossings (s : State) (i : Nat) : State :=
  (s.pwr.crossings.filter (fun c => c.1 == i)).foldl (fun (t : State) c => t.runRequest c.2)
    (s.setPwr (fun p => { p with crossings := p.crossings.filter (fun c => c.1 != i) }))

/-- R217, R218: a period boundary, where one is due while the memory island runs: accounts, provisional check-channel boundary,
delivery, pacing, checkpoint, the cycle number to the Standby (R380), the responses that waited for DICT (R60), the rewrap of
the meter keys (R127), erases that have ended (R333), and what waits for a boundary (R219, R352, R353, R423). A crossing that would end a period too early is no
boundary. -/
def execBudgetPeriodBoundary (s : State) : Result :=
  .next (match (if s.pwr.inReset = true ∨ s.isUp 3 = false then none else s.boundaryDue) with
    | none => s
    | some at_ =>
      let s1 := (((s.periodValues).sluiceBoundary at_).weirFallback at_).answerLate.rewrapRun.releaseDone.showResults
      let s2 := ((s1.deliveryPeriod).pacedAfresh.erasesEnded).startCheckpoint
      let s3 := match s2.time.lastStamp with
        | some t => s2.mirror .timeState 0 (leBytes 5 s2.time.cycle.toNat ++ time64 t ++ leBytes 1 s2.time.tracker.code ++ leBytes 1 s2.time.sync.code)
        | none => s2
      let s4 := s3.runInputs.runHost.activationReset
      match s4.pwr.atPeriod with
      | some c => s4.deviceReset c
      | none => s4)

/-- R417, R194: the reloaded island is released; held crossings are delivered in their order (R25) and its open work is
replayed. -/
def execBlockResetRelease (island : Fin 10) (s : State) : Result :=
  let i := island.val
  let st := s.pwr.islands.getD i .held
  .next (if s.pwr.inReset = true ∨ s.pwr.pfw = true ∨ (st ≠ .quiescing ∧ st ≠ .resetting) then s
    else
      let s1 := s.setIsland i .running
      if i = 8 then (s1.appBack.runCrossings 8).relaysBack
      else if i = 6 then s1.protocolLost.runInputs
      else if i = 2 then s1.runInputs.runCrossings 2
      else if i = 4 then s1.storageBack.runHost
      else if i = 5 then s1.weirRelease
      else s1)

end Sys2Proof.Machine
end

