-- ==== Sys2Proof/Machine/Transport.lean ====
section
/-! DEFINITION. The dictionary's transports (R61 to R67): CoAP with block-wise transfer, SDO and USDO with segments, the
optical probe, the PCIe mailbox; and the CAN node (R436). -/

namespace Sys2Proof.Machine

def State.setLinks (s : State) (f : LinkState → LinkState) : State := { s with link := f s.link }

/-- Set the transfer in progress of a session (R59); at the end of one the session acts on the values in force (R55). -/
def State.setXfer (s : State) (i : SessId) (x : Option Xfer) : State :=
  s.setSess i (fun y => { y with xfer := x, older := if x.isSome then y.older else [] })

/-! CoAP -/

/-- A resource of the per-meter window exists for the window's indexes alone (R64). -/
def meterPathOk (r : Req) (k : ObjKey) : Bool := r.handle.isNone || (decide (0xC000 ≤ k.index.toNat) && decide (k.index.toNat ≤ 0xEFFF))

/-- Send one block of a value that is read (RFC 7959); the rest stays for the blocks that follow (R59). -/
def State.sendBlock (s : State) (r : Req) (k : ObjKey) (v : Bytes) (b : CoapBlock) : State :=
  let part := slice v (b.num * b.size) b.size
  let more := decide ((b.num + 1) * b.size < v.length)
  (s.setXfer r.sess (if more then some ⟨false, k, v, false, none⟩ else none)).serve (.coap r 205 0 part)

/-- GET (R64): a value longer than the block asked for, or than 1,024 bytes, leaves block by block from one reading. -/
def State.coapGet (s : State) (r : Req) (k : ObjKey) (b : Option CoapBlock) : State :=
  let blk := b.getD ⟨0, false, 1024⟩
  if blk.num ≠ 0 then
    match (s.sess r.sess).xfer with
    | some x => if !x.download && x.key == k then s.sendBlock r k x.buf blk else s.serve (.coap r 408 0 [])
    | none => s.serve (.coap r 408 0 [])
  else
    let x := s.fetch r (ObjKey.num k)
    match x.1 with
    | .error a => x.2.respond r (.abort a)
    | .ok v => if v.length ≤ blk.size then x.2.respond r (.ok v) else x.2.sendBlock r k v blk

/-- PUT and POST once the whole value is there (R64). -/
def State.coapStore (s : State) (r : Req) (m : CoapMethod) (k : ObjKey) (v : Bytes) (f : Found) : State :=
  if m = .put then s.put r (ObjKey.num k) v else s.post r (ObjKey.num k) v f

/-- PUT and POST, block by block: nothing is stored until the last block arrives (R59). -/
def State.coapSend (s : State) (r : Req) (m : CoapMethod) (k : ObjKey) (b : Option CoapBlock) (v : Bytes) (f : Found) : State :=
  match b with
  | none => s.coapStore r m k v f
  | some blk =>
    let held : Option Bytes := if blk.num = 0 then some [] else match (s.sess r.sess).xfer with
      | some x => if x.download && x.key == k && x.buf.length == blk.num * blk.size then some x.buf else none
      | none => none
    match held with
    | none => (s.setXfer r.sess none).serve (.coap r 408 0 [])
    | some h =>
      if blk.more then (s.setXfer r.sess (some ⟨true, k, h ++ v, false, none⟩)).serve (.coap r 231 0 [])
      else (s.setXfer r.sess none).coapStore r m k (h ++ v) f

/-- A request on its association (R61, R64, R69): before the dictionary is available it is answered 5.03 (R68); another content format is answered 4.15, another method 4.05. -/
def State.coap (s : State) (r : Req) (m : CoapMethod) (k : ObjKey) (format : Option Nat) (b : Option CoapBlock) (v : Bytes)
    (f : Found) : State :=
  if s.dict.available = false then s.respond r (.abort .notReady)
  else if format ≠ none ∧ format ≠ some 42 then s.serve (.coap r 415 0 [])
  else if m = .other then s.respond r (.abort .specifierInvalid)
  else if !meterPathOk r k then s.respond r (.abort .noObject)
  else if m = .get then s.coapGet r k b
  else s.coapSend r m k b v f

/-- R64: a CoAP request of the peer of a DTLS association, to the UDP port 0x1030:01 (R61). Without a session for it, to another
port, and while 0x1030:02 is 0, the dictionary does not answer. -/
def execCoapRequest (r : Req) (peer : Bytes) (m : CoapMethod) (k : ObjKey) (format : Option Nat) (block : Option CoapBlock)
    (v : Bytes) (f : Found) (s : State) : Result :=
  .next (if r.sess.tr ≠ .coap ∨ s.cfgN 0x103002 = 0 ∨ r.dest ≠ s.transN r.sess 0x103001 then s
    else match s.association r.sess peer with
      | none => s
      | some t => t.coap r m k format block v f)

/-- R69: an incomplete block-wise transfer. -/
def execCoapBlockwiseTimeout (r : Req) (s : State) : Result :=
  .next (if r.sess.tr ≠ .coap ∨ (s.sess r.sess).xfer.isNone then s
    else (s.setXfer r.sess none).respond r (.abort .timeout))

/-! CANopen FD USDO and classic SDO -/

/-- Port of a CAN session. -/
def canPortOf (i : SessId) : Nat := i.id / 128

/-- A CAN request reaches the dictionary (R61, R62): its port is on, it is addressed to the device's node-ID, a classic SDO by the
identifier 0x600 + node-ID, and classic SDO is answered on CAN0 in OCB personality alone. -/
def State.canReaches (s : State) (r : Req) : Bool :=
  let i := r.sess
  decide (canPortOf i < 2) && s.canState (canPortOf i) != 0 &&
  ((i.tr == .canFd && r.dest == s.nodeId i) ||
    (i.tr == .sdo && s.pwr.ocb && canPortOf i == 0 && r.dest == 0x600 + s.nodeId i))

/-- A frame received on a CAN port (R443). -/
def State.canFrame (s : State) (p : Nat) : State :=
  s.setLinks (fun l => { l with can := tblUpd {} l.can p (fun (c : CanPort) => { c with rx := c.rx + 1 }) })

/-- The transfer of a session is aborted (R63). -/
def State.abortXfer (s : State) (r : Req) (a : Abort) : State := (s.setXfer r.sess none).respond r (.abort a)

/-- An initiate of an upload (R61): the value itself where the response has room for it, else its size, and segments follow. -/
def State.sdoUpload (s : State) (r : Req) (k : ObjKey) (room : Nat) : State :=
  let x := s.fetch r (ObjKey.num k)
  match x.1 with
  | .error a => x.2.respond r (.abort a)
  | .ok v =>
    if v.length ≤ room then x.2.respond r (.ok v)
    else (x.2.setXfer r.sess (some ⟨false, k, v, true, none⟩)).serve (.sdo r.sess (s.canAnswer r.sess) none (leBytes 4 v.length))

/-- An initiate of a segmented download; an object that the request cannot reach is refused at once (R42, R68). -/
def State.sdoDownload (s : State) (r : Req) (k : ObjKey) (size : Option Nat) : State :=
  let num := ObjKey.num k
  let found : Except Abort ObjRow :=
    if s.pwr.ocb ∧ (ocbIndex k.index.toNat).isSome = true then
      match ocbTarget num with
      | some n => s.locate (s.viewReq r) n
      | none => .error (match s.viewGap r num with | .ok _ => .writeToReadOnly | .error a => a)
    else s.locate r num
  match found with
  | .error a => s.respond r (.abort a)
  | .ok _ => (s.setXfer r.sess (some ⟨true, k, [], true, size⟩)).serve (.sdo r.sess (s.canAnswer r.sess) none [])

/-- R61, R450: an initiate; one that arrives during a transfer abandons it without an abort. A broadcast is not answered. -/
def State.sdoInitiate (s : State) (r : Req) (k : ObjKey) (what : SdoInit) (f : Found) : State :=
  let s1 := s.setXfer r.sess none
  if s.serving r = false ∧ what ≠ .broadcast then s.respond r (.abort .notReady)
  else match what with
  | .upload room => s1.sdoUpload r k room
  | .expedited v => s1.send r (ObjKey.num k) v f
  | .segmented size => s1.sdoDownload r k size
  | .bulk => s1.respond r (.abort .specifierInvalid)
  | .broadcast => s

def execSdoInitiate (r : Req) (k : ObjKey) (what : SdoInit) (f : Found) (s : State) : Result :=
  .next (if s.canReaches r then (s.canFrame (canPortOf r.sess)).sdoInitiate r k what f else s)

/-- The last segment of a download (R59, R450): its size is checked, then it is written. -/
def State.sdoFinish (s : State) (r : Req) (x : Xfer) (v : Bytes) (f : Found) : State :=
  if x.size ≠ none ∧ x.size ≠ some v.length then s.abortXfer r .lengthInvalid
  else (s.setXfer r.sess none).send r (ObjKey.num x.key) v f

/-- R63: a segment, with its toggle bit, its bytes and whether it is the last, or with the room of the response for an
upload. -/
def State.sdoSegment (s : State) (r : Req) (toggle : Bool) (v : Bytes) (last : Bool) (room : Nat) (f : Found) : State :=
  match (s.sess r.sess).xfer with
  | none => s.respond r (.abort (if s.serving r then .specifierInvalid else .notReady))
  | some x =>
    if toggle = x.toggle then s.abortXfer r .toggleError
    else if x.download then
      if last then s.sdoFinish r x (x.buf ++ v) f
      else (s.setXfer r.sess (some { x with buf := x.buf ++ v, toggle := toggle })).serve (.sdo r.sess (s.canAnswer r.sess) none [])
    else
      let rest := x.buf.drop room
      (s.setXfer r.sess (if rest = [] then none else some { x with buf := rest, toggle := toggle })).serve
        (.sdo r.sess (s.canAnswer r.sess) none (x.buf.take room))

def execSdoSegment (r : Req) (toggle : Bool) (v : Bytes) (last : Bool) (room : Nat) (f : Found) (s : State) : Result :=
  .next (if s.canReaches r then (s.canFrame (canPortOf r.sess)).sdoSegment r toggle v last room f else s)

/-- R63: the next segment has not come within 0x1040:04. -/
def execSdoSegmentTimeout (r : Req) (s : State) : Result :=
  .next (if s.canReaches r ∧ (s.sess r.sess).xfer.isSome = true then s.abortXfer r .timeout else s)

/-- R436: an NMT reset command on a CAN port: its sessions fall back to Observer, and nothing else changes. -/
def execNmtReset (port : Fin 2) (s : State) : Result :=
  .next (if s.canState port.val = 0 then s
    else
      let t := s.canFrame port.val
      { t with dict := { t.dict with
          sessions := t.dict.sessions.map (fun (p : Nat × Session) =>
            (p.1, if p.1 / 2 ^ 32 ≤ 1 ∧ p.1 % 2 ^ 32 / 128 = port.val then { p.2 with role := .observer, vendorLimit := 0 } else p.2)) } })

/-- R436: the heartbeat time has passed. -/
def execCanHeartbeat (port : Fin 2) (s : State) : Result :=
  let p := port.val
  .next (if s.canState p = 0 ∨ s.canState p = 3 ∨ s.cfgN ((0x4400 + 16 * p) * 256 + 2) = 0 ∨
      (tblGet ({} : CanPort) s.link.can p).nmtStopped = true then s
    else s.emit (.canHeartbeat p))

/-- R436: a bus-off has passed: 128 occurrences of 11 recessive bits have been seen, and the port is error active again. The
table has no row for the bus-off itself: it is counted here. -/
def execCanBusOffRecovery (port : Fin 2) (s : State) : Result :=
  .next (if s.canState port.val = 0 then s
    else s.setLinks (fun l => { l with
      can := tblUpd {} l.can port.val (fun (c : CanPort) => { c with st := 1, busOff := c.busOff + 1 }) }))

/-! Optical probe -/

/-- A probe port is on (R443). -/
def State.probeOn (s : State) (p : Nat) : Bool := s.cfgB ((0x4420 + 8 * p) * 256 + 1)

/-- R61, R68: a sign-on opens a session as Observer; before the dictionary is available it is answered with an error data
set. -/
def execProbeSignOn (port : Fin 2) (s : State) : Result :=
  let r : Req := { sess := ⟨.probe, port.val⟩ }
  .next (if !s.probeOn port.val then s
    else if !s.dict.available then s.respond r (.abort .notReady)
    else ((s.setSess r.sess (fun _ => { isOpen := true })).setLinks (fun l => { l with
        probeSessions := tblUpd 0 l.probeSessions port.val (· + 1) })).respond r (.ok []))

/-- R67: values up to 64 bytes are carried. -/
def State.probeRead (s : State) (r : Req) (num : Nat) : State :=
  let x := s.fetch r num
  match x.1 with
  | .error a => x.2.respond r (.abort a)
  | .ok v => if 64 < v.length then s.respond r (.abort .unsupportedAccess) else x.2.respond r (.ok v)

/-- R67: a request on an open probe session. -/
def execProbeRequest (r : Req) (op : ProbeOp) (f : Found) (s : State) : Result :=
  .next (if r.sess.tr ≠ .probe ∨ (s.sess r.sess).isOpen = false then s
    else match op with
      | .read k => s.probeRead r (ObjKey.num k)
      | .write k v => if 64 < v.length then s.respond r (.abort .unsupportedAccess) else s.send r (ObjKey.num k) v f
      | .password v => s.authResponse r v)

/-- The session of a probe port ends (R47). -/
def State.probeEnd (s : State) (p : Nat) : State :=
  if (s.sess ⟨.probe, p⟩).isOpen then s.setSess ⟨.probe, p⟩ (fun _ => {}) else s

/-- R47: sign-off. -/
def execProbeSignOff (port : Fin 2) (s : State) : Result := .next (s.probeEnd port.val)

/-- R440: no character for Bo0:02 seconds. -/
def execProbeBreak (port : Fin 2) (s : State) : Result := .next (s.probeEnd port.val)

/-! PCIe mailbox -/

/-- A doorbell is ignored (R433). -/
def State.doorbellIgnored (s : State) (slot : Nat) : Bool :=
  !s.link.mbxOn || decide (s.cfgN 0x105001 ≤ slot) || s.link.mbxOut.contains slot || s.link.mbxDone.getLsbD slot

/-- R433: a host write of a slot number, with what the host has put into the slot. -/
def execMailboxDoorbell (slot : U32) (content : Bytes) (s : State) : Result :=
  let n := slot.toNat
  .next (if !s.link.pcie then s
    else if s.doorbellIgnored n then s.setLinks (fun l => { l with mbxErr := l.mbxErr + 1 })
    else s.setLinks (fun l => { l with mbxOut := l.mbxOut ++ [n], mbxSlot := tblPut l.mbxSlot n content }))

/-- The request in a slot as the dictionary takes it (R66). -/
def State.mailbox (s : State) (slot : Nat) (storeOk : Bool) (f : Found) : State :=
  let b := tblGet [] s.link.mbxSlot slot
  let handle : Option Handle := if fieldAt b 3 1 % 2 = 1 then some (BitVec.ofNat 20 (fieldAt b 8 4)) else none
  let r : Req := { sess := ⟨.mailbox, 0⟩, token := slot, handle := handle, storeOk := storeOk }
  let num := fieldAt b 4 2 * 256 + fieldAt b 6 1
  let len := fieldAt b 12 4
  let op := fieldAt b 2 1
  if s.serving r = false then s.respond r (.abort .notReady)
  else if op = 0 ∨ 3 < op then s.respond r (.abort .specifierInvalid)
  else if op = 1 then s.get r num
  else if 65520 < len then s.respond r (.abort .lengthInvalid)
  else if op = 2 then s.put r num (slice b 16 len)
  else s.post r num (slice b 16 len) f

/-- The mailbox's queue of responses that wait is full (R60, R216). -/
def State.mailboxFull (s : State) : Bool :=
  decide (Config.sessionDepth < (s.late.filter (fun l => match l with | .answer q _ => q.sess.tr == .mailbox | .part _ => false)).length)

/-- R66: an outstanding slot's request is fetched and carried out; while its queue is full or no descriptor is left, none is
fetched (R216). -/
def execMailboxRequest (slot : Fin 32) (storeOk : Bool) (f : Found) (s : State) : Result :=
  let n := slot.val
  .next (if s.link.mbxOut.contains n = false ∨ s.link.mbxRun.contains n = true ∨ 49152 ≤ s.poolTaken ∨ s.mailboxFull = true then s
    else (s.setLinks (fun l => { l with mbxRun := n :: l.mbxRun })).mailbox n storeOk f)

/-- R433: a host write of ones to MBX_DONE. -/
def execMbxDoneClear (bits : U32) (s : State) : Result := .next (s.setLinks (fun l => { l with mbxDone := l.mbxDone &&& ~~~bits }))

/-- R433: MBX_CTRL[0] is set: a session starts. -/
def execMailboxEnable (s : State) : Result :=
  .next (if s.link.pcie = false ∨ s.link.mbxOn = true then s
    else (s.setLinks (fun l => { l with mbxOn := true })).setSess ⟨.mailbox, 0⟩ (fun _ => { isOpen := true }))

/-- R433: MBX_CTRL[0] is cleared: the session ends, and slots not yet answered are given up. -/
def execMailboxDisable (s : State) : Result :=
  .next (if !s.link.mbxOn then s
    else (s.setLinks (fun l => { l with mbxOn := false, mbxOut := [], mbxRun := [] })).setSess ⟨.mailbox, 0⟩ (fun _ => {}))

end Sys2Proof.Machine
end

