-- ==== Sys2Proof/Machine/Dispatch.lean ====
section
/-! DEFINITION. One arm for each command: the meaning it is given. -/

namespace Sys2Proof.Machine

/-- A command's effect on everything but the queue. -/
def exec (i : Instr) (s : State) : Host.Outcome State Fault Refusal :=
  match i with
  | .objectWrite r k v => Sys2Proof.Machine.execObjectWrite r k v s
  | .stagedWrite r k v => Sys2Proof.Machine.execStagedWrite r k v s
  | .ocbImmediateWrite r k v => Sys2Proof.Machine.execOcbImmediateWrite r k v s
  | .cfgMismatchTimeout group => Sys2Proof.Machine.execCfgMismatchTimeout group s
  | .commit r group arg => Sys2Proof.Machine.execCommit r group arg s
  | .discard r group arg => Sys2Proof.Machine.execDiscard r group arg s
  | .groupSafePointApply group => Sys2Proof.Machine.execGroupSafePointApply group s
  | .restoreDefaults r arg => Sys2Proof.Machine.execRestoreDefaults r arg s
  | .authenticationChallengeRead r => Sys2Proof.Machine.execAuthenticationChallengeRead r s
  | .authenticationResponse r v => Sys2Proof.Machine.execAuthenticationResponse r v s
  | .authLockoutExpiry tr => Sys2Proof.Machine.execAuthLockoutExpiry tr s
  | .sessionIdleTimeout sess => Sys2Proof.Machine.execSessionIdleTimeout sess s
  | .vendorChallengeRead r => Sys2Proof.Machine.execVendorChallengeRead r s
  | .verifyVendorToken r arg => Sys2Proof.Machine.execVerifyVendorToken r arg s
  | .vendorSessionExpiry sess => Sys2Proof.Machine.execVendorSessionExpiry sess s
  | .meterKeyRecordWrite r v => Sys2Proof.Machine.execMeterKeyRecordWrite r v s
  | .coapRequest r peer m k format block v f => Sys2Proof.Machine.execCoapRequest r peer m k format block v f s
  | .sdoInitiate r k what f => Sys2Proof.Machine.execSdoInitiate r k what f s
  | .sdoSegment r toggle v last room f => Sys2Proof.Machine.execSdoSegment r toggle v last room f s
  | .sdoSegmentTimeout r => Sys2Proof.Machine.execSdoSegmentTimeout r s
  | .coapBlockwiseTimeout r => Sys2Proof.Machine.execCoapBlockwiseTimeout r s
  | .probeSignOn port => Sys2Proof.Machine.execProbeSignOn port s
  | .probeRequest r op f => Sys2Proof.Machine.execProbeRequest r op f s
  | .probeSignOff port => Sys2Proof.Machine.execProbeSignOff port s
  | .probeBreak port => Sys2Proof.Machine.execProbeBreak port s
  | .mailboxDoorbell slot content => Sys2Proof.Machine.execMailboxDoorbell slot content s
  | .mailboxRequest slot storeOk f => Sys2Proof.Machine.execMailboxRequest slot storeOk f s
  | .mbxDoneClear bits => Sys2Proof.Machine.execMbxDoneClear bits s
  | .mailboxEnable => Sys2Proof.Machine.execMailboxEnable s
  | .mailboxDisable => Sys2Proof.Machine.execMailboxDisable s
  | .nmtReset port => Sys2Proof.Machine.execNmtReset port s
  | .canHeartbeat port => Sys2Proof.Machine.execCanHeartbeat port s
  | .canBusOffRecovery port => Sys2Proof.Machine.execCanBusOffRecovery port s
  | .dictionaryAvailable => Sys2Proof.Machine.execDictionaryAvailable s
  | .zcCrossing input stamp width => Sys2Proof.Machine.execZcCrossing input stamp width s
  | .zcPredictedCrossing => Sys2Proof.Machine.execZcPredictedCrossing s
  | .setCycleEpoch r arg => Sys2Proof.Machine.execSetCycleEpoch r arg s
  | .ptpMessageRx port domain m at_ => Sys2Proof.Machine.execPtpMessageRx port domain m at_ s
  | .ptpMessageTx port kind residence => Sys2Proof.Machine.execPtpMessageTx port kind residence s
  | .ptpAnnounceTimeout sync => Sys2Proof.Machine.execPtpAnnounceTimeout sync s
  | .ppsInEdge stamp => Sys2Proof.Machine.execPpsInEdge stamp s
  | .ppsInMissed => Sys2Proof.Machine.execPpsInMissed s
  | .ppsOutPulse => Sys2Proof.Machine.execPpsOutPulse s
  | .arm r n => Sys2Proof.Machine.execArm r n s
  | .disarm r n => Sys2Proof.Machine.execDisarm r n s
  | .triggerFire n at_ => Sys2Proof.Machine.execTriggerFire n at_ s
  | .captureEdge c rising stamp => Sys2Proof.Machine.execCaptureEdge c rising stamp s
  | .calWrap => Sys2Proof.Machine.execCalWrap s
  | .setCalendar r arg => Sys2Proof.Machine.execSetCalendar r arg s
  | .calendarSetTick => Sys2Proof.Machine.execCalendarSetTick s
  | .calendarSetNoTick => Sys2Proof.Machine.execCalendarSetNoTick s
  | .subSecondShift r arg => Sys2Proof.Machine.execSubSecondShift r arg s
  | .holdEnd => Sys2Proof.Machine.execHoldEnd s
  | .calendarDiscipline => Sys2Proof.Machine.execCalendarDiscipline s
  | .temperatureBinSample temp => Sys2Proof.Machine.execTemperatureBinSample temp s
  | .trimWindowEnd mean elapsed => Sys2Proof.Machine.execTrimWindowEnd mean elapsed s
  | .relearnTrim r arg => Sys2Proof.Machine.execRelearnTrim r arg s
  | .oscStop => Sys2Proof.Machine.execOscStop s
  | .dstOffsetChange => Sys2Proof.Machine.execDstOffsetChange s
  | .dstTableLow => Sys2Proof.Machine.execDstTableLow s
  | .lifeCycleTransition r arg stuck => Sys2Proof.Machine.execLifeCycleTransition r arg stuck s
  | .closeDebugPort r arg readsBack => Sys2Proof.Machine.execCloseDebugPort r arg readsBack s
  | .lockPersonality r arg readsBack => Sys2Proof.Machine.execLockPersonality r arg readsBack s
  | .importFleetWrapKey r arg => Sys2Proof.Machine.execImportFleetWrapKey r arg s
  | .importKey r arg => Sys2Proof.Machine.execImportKey r arg s
  | .deriveKey r arg => Sys2Proof.Machine.execDeriveKey r arg s
  | .invalidate r arg => Sys2Proof.Machine.execInvalidate r arg s
  | .destroy r arg => Sys2Proof.Machine.execDestroy r arg s
  | .orphanSweepEnd => Sys2Proof.Machine.execOrphanSweepEnd s
  | .changeFleetWrapKey r arg => Sys2Proof.Machine.execChangeFleetWrapKey r arg s
  | .rewrapComplete => Sys2Proof.Machine.execRewrapComplete s
  | .keyUse handle op => Sys2Proof.Machine.execKeyUse handle op s
  | .remoteContextFetch h => Sys2Proof.Machine.execRemoteContextFetch h s
  | .attestationRequest r arg => Sys2Proof.Machine.execAttestationRequest r arg s
  | .attestationDone => Sys2Proof.Machine.execAttestationDone s
  | .peerDigestWrite r entry v => Sys2Proof.Machine.execPeerDigestWrite r entry v s
  | .nativeFrameRx port bytes rx => Sys2Proof.Machine.execNativeFrameRx port bytes rx s
  | .nativePlcAckTx port => Sys2Proof.Machine.execNativePlcAckTx port s
  | .nativeRadioAckTx port => Sys2Proof.Machine.execNativeRadioAckTx port s
  | .joinRequest port bytes rx => Sys2Proof.Machine.execJoinRequest port bytes rx s
  | .joinResponse port => Sys2Proof.Machine.execJoinResponse port s
  | .neighbourReport port => Sys2Proof.Machine.execNeighbourReport port s
  | .phaseReport port => Sys2Proof.Machine.execPhaseReport port s
  | .resynchronised port => Sys2Proof.Machine.execResynchronised port s
  | .unknownCommand port => Sys2Proof.Machine.execUnknownCommand port s
  | .slotAssignmentTx port => Sys2Proof.Machine.execSlotAssignmentTx port s
  | .timingHintTx port => Sys2Proof.Machine.execTimingHintTx port s
  | .plcBeaconTx port => Sys2Proof.Machine.execPlcBeaconTx port s
  | .pathSelection port due => Sys2Proof.Machine.execPathSelection port due s
  | .downlinkFrameTx port handle content => Sys2Proof.Machine.execDownlinkFrameTx port handle content s
  | .downlinkAckRx port f => Sys2Proof.Machine.execDownlinkAckRx port f s
  | .downlinkAckTimeout port handle => Sys2Proof.Machine.execDownlinkAckTimeout port handle s
  | .linkAgeing => Sys2Proof.Machine.execLinkAgeing s
  | .blankingReseed port rms => Sys2Proof.Machine.execBlankingReseed port rms s
  | .g3FrameRx port f rx => Sys2Proof.Machine.execG3FrameRx port f rx s
  | .primeFrameRx port f rx => Sys2Proof.Machine.execPrimeFrameRx port f rx s
  | .standardAckTx port => Sys2Proof.Machine.execStandardAckTx port s
  | .g3LbpJoin port handle => Sys2Proof.Machine.execG3LbpJoin port handle s
  | .g3RekeySwitch port => Sys2Proof.Machine.execG3RekeySwitch port s
  | .primeRegistration port handle => Sys2Proof.Machine.execPrimeRegistration port handle s
  | .sfskDiscovery port handle => Sys2Proof.Machine.execSfskDiscovery port handle s
  | .ocbLpduRx port bytes rx => Sys2Proof.Machine.execOcbLpduRx port bytes rx s
  | .ocbAckTx port => Sys2Proof.Machine.execOcbAckTx port s
  | .setCycleBroadcast port => Sys2Proof.Machine.execSetCycleBroadcast port s
  | .nativeBeaconStart port => Sys2Proof.Machine.execNativeBeaconStart port s
  | .radioBeaconStart port => Sys2Proof.Machine.execRadioBeaconStart port s
  | .radioBeaconTx port => Sys2Proof.Machine.execRadioBeaconTx port s
  | .wmbusFrameRx port f link rx => Sys2Proof.Machine.execWmbusFrameRx port f link rx s
  | .wmbusInstallRequest port f => Sys2Proof.Machine.execWmbusInstallRequest port f s
  | .sunFrameRx port f rx => Sys2Proof.Machine.execSunFrameRx port f rx s
  | .sunAssociation port handle => Sys2Proof.Machine.execSunAssociation port handle s
  | .activeBeaconMissed port => Sys2Proof.Machine.execActiveBeaconMissed port s
  | .quietStartEnd => Sys2Proof.Machine.execQuietStartEnd s
  | .forwardingRequest r peer records stamp => Sys2Proof.Machine.execForwardingRequest r peer records stamp s
  | .journalStuck => Sys2Proof.Machine.execJournalStuck s
  | .enqueue flow kind telemetry key ref delay => Sys2Proof.Machine.execEnqueue flow kind telemetry key ref delay s
  | .dispatchRead core => Sys2Proof.Machine.execDispatchRead core s
  | .done core wants => Sys2Proof.Machine.execDone core wants s
  | .retry core => Sys2Proof.Machine.execRetry core s
  | .fail core => Sys2Proof.Machine.execFail core s
  | .delayDue list => Sys2Proof.Machine.execDelayDue list s
  | .budgetOverrun core => Sys2Proof.Machine.execBudgetOverrun core s
  | .accountExhausted a res => Sys2Proof.Machine.execAccountExhausted a res s
  | .budgetPeriodBoundary => Sys2Proof.Machine.execBudgetPeriodBoundary s
  | .inputDeadlineDiscard src => Sys2Proof.Machine.execInputDeadlineDiscard src s
  | .refCheck ppb temp => Sys2Proof.Machine.execRefCheck ppb temp s
  | .feederDemandIntervalEnd feeder => Sys2Proof.Machine.execFeederDemandIntervalEnd feeder s
  | .resetMaximumDemand r arg => Sys2Proof.Machine.execResetMaximumDemand r arg s
  | .pqBlockEnd b => Sys2Proof.Machine.execPqBlockEnd b s
  | .pqAggregate tenMinute freq => Sys2Proof.Machine.execPqAggregate tenMinute freq s
  | .pqEventDetect chan level => Sys2Proof.Machine.execPqEventDetect chan level s
  | .armLatch r arg => Sys2Proof.Machine.execArmLatch r arg s
  | .latchRecordComplete target => Sys2Proof.Machine.execLatchRecordComplete target s
  | .captureArm r => Sys2Proof.Machine.execCaptureArm r s
  | .captureTriggerNow r => Sys2Proof.Machine.execCaptureTriggerNow r s
  | .captureDisarm r => Sys2Proof.Machine.execCaptureDisarm r s
  | .captureTrigger feeder => Sys2Proof.Machine.execCaptureTrigger feeder s
  | .captureDone => Sys2Proof.Machine.execCaptureDone s
  | .calibrateChannel r arg => Sys2Proof.Machine.execCalibrateChannel r arg s
  | .calibrationMeasured meas => Sys2Proof.Machine.execCalibrationMeasured meas s
  | .measurementSettled => Sys2Proof.Machine.execMeasurementSettled s
  | .latchOrderIssue => Sys2Proof.Machine.execLatchOrderIssue s
  | .latchNow r arg => Sys2Proof.Machine.execLatchNow r arg s
  | .armAbandon => Sys2Proof.Machine.execArmAbandon s
  | .setCycleUnicast handle => Sys2Proof.Machine.execSetCycleUnicast handle s
  | .latchAnswer handle seq align a => Sys2Proof.Machine.execLatchAnswer handle seq align a s
  | .latchReportWait => Sys2Proof.Machine.execLatchReportWait s
  | .latchDeadline => Sys2Proof.Machine.execLatchDeadline s
  | .segmentUpdate segment => Sys2Proof.Machine.execSegmentUpdate segment s
  | .resetModel r arg => Sys2Proof.Machine.execResetModel r arg s
  | .readingApply handle seq kind regs => Sys2Proof.Machine.execReadingApply handle seq kind regs s
  | .meterClockRead handle answer => Sys2Proof.Machine.execMeterClockRead handle answer s
  | .rateSwitch => Sys2Proof.Machine.execRateSwitch s
  | .tariffActive table => Sys2Proof.Machine.execTariffActive table s
  | .profileIntervalEnd => Sys2Proof.Machine.execProfileIntervalEnd s
  | .dayBlockClose date => Sys2Proof.Machine.execDayBlockClose date s
  | .billingClose => Sys2Proof.Machine.execBillingClose s
  | .closePeriodNow r arg => Sys2Proof.Machine.execClosePeriodNow r arg s
  | .periodGraceExpiry => Sys2Proof.Machine.execPeriodGraceExpiry s
  | .clockAdj => Sys2Proof.Machine.execClockAdj s
  | .outageRestoration => Sys2Proof.Machine.execOutageRestoration s
  | .tamperEdge input opened => Sys2Proof.Machine.execTamperEdge input opened s
  | .tamperLogCopy => Sys2Proof.Machine.execTamperLogCopy s
  | .clearTamperLatches r arg => Sys2Proof.Machine.execClearTamperLatches r arg s
  | .displayFrameTx => Sys2Proof.Machine.execDisplayFrameTx s
  | .displayDwellExpiry => Sys2Proof.Machine.execDisplayDwellExpiry s
  | .btnNextPress => Sys2Proof.Machine.execBtnNextPress s
  | .btnNextHold => Sys2Proof.Machine.execBtnNextHold s
  | .btnHoldPress => Sys2Proof.Machine.execBtnHoldPress s
  | .holdLimitExpiry => Sys2Proof.Machine.execHoldLimitExpiry s
  | .prepayItem handle => Sys2Proof.Machine.execPrepayItem handle s
  | .creditTransfer r arg => Sys2Proof.Machine.execCreditTransfer r arg s
  | .requestEmergencyCredit r arg => Sys2Proof.Machine.execRequestEmergencyCredit r arg s
  | .meterEcRequest handle code => Sys2Proof.Machine.execMeterEcRequest handle code s
  | .adjustDebt r arg => Sys2Proof.Machine.execAdjustDebt r arg s
  | .noticeEnd handle => Sys2Proof.Machine.execNoticeEnd handle s
  | .disconnectIssue handle => Sys2Proof.Machine.execDisconnectIssue handle s
  | .disconnectConfirmTimeout handle => Sys2Proof.Machine.execDisconnectConfirmTimeout handle s
  | .outputStateResponse handle a => Sys2Proof.Machine.execOutputStateResponse handle a s
  | .reconnectIssue handle => Sys2Proof.Machine.execReconnectIssue handle s
  | .loadgroupMinute => Sys2Proof.Machine.execLoadgroupMinute s
  | .manualOn r => Sys2Proof.Machine.execManualOn r s
  | .manualOff r => Sys2Proof.Machine.execManualOff r s
  | .backToSchedule r => Sys2Proof.Machine.execBackToSchedule r s
  | .groupMemberCommand group acked => Sys2Proof.Machine.execGroupMemberCommand group acked s
  | .relaySwitch r => Sys2Proof.Machine.execRelaySwitch r s
  | .loadgroupRelease => Sys2Proof.Machine.execLoadgroupRelease s
  | .checkpointCommit units readsBack => Sys2Proof.Machine.execCheckpointCommit units readsBack s
  | .nandOperationFail block unit what => Sys2Proof.Machine.execNandOperationFail block unit what s
  | .garbageCollection => Sys2Proof.Machine.execGarbageCollection s
  | .readScrub block weak => Sys2Proof.Machine.execReadScrub block weak s
  | .readDisturbRelocate block => Sys2Proof.Machine.execReadDisturbRelocate block s
  | .archiveRetentionSweep => Sys2Proof.Machine.execArchiveRetentionSweep s
  | .archiveAppend cls coding subject stamp body => Sys2Proof.Machine.execArchiveAppend cls coding subject stamp body s
  | .stateRestore => Sys2Proof.Machine.execStateRestore s
  | .nvmeRead c lba count uncorrectable => Sys2Proof.Machine.execNvmeRead c lba count uncorrectable s
  | .nvmeWrite c lba data fua => Sys2Proof.Machine.execNvmeWrite c lba data fua s
  | .nvmeFlush c => Sys2Proof.Machine.execNvmeFlush c s
  | .nvmeDatasetManagement c deallocate ranges => Sys2Proof.Machine.execNvmeDatasetManagement c deallocate ranges s
  | .nvmeFormat c ses => Sys2Proof.Machine.execNvmeFormat c ses s
  | .nvmeIdentify c cns => Sys2Proof.Machine.execNvmeIdentify c cns s
  | .nvmeGetLogPage c lid => Sys2Proof.Machine.execNvmeGetLogPage c lid s
  | .nvmeSetFeatures c fid value => Sys2Proof.Machine.execNvmeSetFeatures c fid value s
  | .nvmeGetFeatures c fid => Sys2Proof.Machine.execNvmeGetFeatures c fid s
  | .nvmeCreateIoQueue c completion id size cq => Sys2Proof.Machine.execNvmeCreateIoQueue c completion id size cq s
  | .nvmeDeleteIoQueue c completion id => Sys2Proof.Machine.execNvmeDeleteIoQueue c completion id s
  | .nvmeAbort c queue cid => Sys2Proof.Machine.execNvmeAbort c queue cid s
  | .asynchronousEventRequest c => Sys2Proof.Machine.execAsynchronousEventRequest c s
  | .nvmeInvalidOpcode c => Sys2Proof.Machine.execNvmeInvalidOpcode c s
  | .writeBufferProgram => Sys2Proof.Machine.execWriteBufferProgram s
  | .hmbMapFetch page content => Sys2Proof.Machine.execHmbMapFetch page content s
  | .beginDownload r arg => Sys2Proof.Machine.execBeginDownload r arg s
  | .imageBlock r arg => Sys2Proof.Machine.execImageBlock r arg s
  | .finishDownload r arg => Sys2Proof.Machine.execFinishDownload r arg s
  | .abandonDownload r arg => Sys2Proof.Machine.execAbandonDownload r arg s
  | .activate r arg => Sys2Proof.Machine.execActivate r arg s
  | .activationReset => Sys2Proof.Machine.execActivationReset s
  | .confirmHealth r arg stuck => Sys2Proof.Machine.execConfirmHealth r arg stuck s
  | .healthWindowExpiry => Sys2Proof.Machine.execHealthWindowExpiry s
  | .configurationMigration values ok => Sys2Proof.Machine.execConfigurationMigration values ok s
  | .campaignKindWrite r v => Sys2Proof.Machine.execCampaignKindWrite r v s
  | .contentBlock r arg => Sys2Proof.Machine.execContentBlock r arg s
  | .verify r => Sys2Proof.Machine.execVerify r s
  | .start r => Sys2Proof.Machine.execStart r s
  | .pause r => Sys2Proof.Machine.execPause r s
  | .resume r => Sys2Proof.Machine.execResume r s
  | .cancel r => Sys2Proof.Machine.execCancel r s
  | .delete r => Sys2Proof.Machine.execDelete r s
  | .addTargets r arg => Sys2Proof.Machine.execAddTargets r arg s
  | .removeTargets r arg => Sys2Proof.Machine.execRemoveTargets r arg s
  | .campaignMulticastTx campaign port => Sys2Proof.Machine.execCampaignMulticastTx campaign port s
  | .campaignUnicastStep campaign handle => Sys2Proof.Machine.execCampaignUnicastStep campaign handle s
  | .campaignResponse campaign handle a => Sys2Proof.Machine.execCampaignResponse campaign handle a s
  | .campaignAttemptTimeout campaign handle => Sys2Proof.Machine.execCampaignAttemptTimeout campaign handle s
  | .campaignActivationTime campaign => Sys2Proof.Machine.execCampaignActivationTime campaign s
  | .claimRound partner fresh => Sys2Proof.Machine.execClaimRound partner fresh s
  | .claimLineStuck => Sys2Proof.Machine.execClaimLineStuck s
  | .healthEvaluation => Sys2Proof.Machine.execHealthEvaluation s
  | .leaseExpiry => Sys2Proof.Machine.execLeaseExpiry s
  | .failedRestart => Sys2Proof.Machine.execFailedRestart s
  | .pairStartWindowExpiry => Sys2Proof.Machine.execPairStartWindowExpiry s
  | .heartbeatTx => Sys2Proof.Machine.execHeartbeatTx s
  | .heartbeatRx h => Sys2Proof.Machine.execHeartbeatRx h s
  | .entry m bytes context => Sys2Proof.Machine.execEntry m bytes context s
  | .confirmation m seq late => Sys2Proof.Machine.execConfirmation m seq late s
  | .contextChange m handle image => Sys2Proof.Machine.execContextChange m handle image s
  | .billingDeltaTx => Sys2Proof.Machine.execBillingDeltaTx s
  | .billingDelta m meters period shift closed => Sys2Proof.Machine.execBillingDelta m meters period shift closed s
  | .ledgerDelta m handle record => Sys2Proof.Machine.execLedgerDelta m handle record s
  | .keyOperation m k handle arg => Sys2Proof.Machine.execKeyOperation m k handle arg s
  | .configuration m c => Sys2Proof.Machine.execConfiguration m c s
  | .timeState m cycle stamp => Sys2Proof.Machine.execTimeState m cycle stamp s
  | .latchOrder m id target => Sys2Proof.Machine.execLatchOrder m id target s
  | .mirrorRetransmit => Sys2Proof.Machine.execMirrorRetransmit s
  | .pairLost => Sys2Proof.Machine.execPairLost s
  | .handOver r arg => Sys2Proof.Machine.execHandOver r arg s
  | .handoverTimeout => Sys2Proof.Machine.execHandoverTimeout s
  | .pairYield => Sys2Proof.Machine.execPairYield s
  | .adoptPartnerConfiguration r arg values => Sys2Proof.Machine.execAdoptPartnerConfiguration r arg values s
  | .resyncComplete b => Sys2Proof.Machine.execResyncComplete b s
  | .gratuitousArp => Sys2Proof.Machine.execGratuitousArp s
  | .eventRaise code measure => Sys2Proof.Machine.execEventRaise code measure s
  | .eventTokenRefill code => Sys2Proof.Machine.execEventTokenRefill code s
  | .eventFlush => Sys2Proof.Machine.execEventFlush s
  | .clearChallengeRead r => Sys2Proof.Machine.execClearChallengeRead r s
  | .clearEvents r arg => Sys2Proof.Machine.execClearEvents r arg s
  | .raiseApplicationEvent r arg => Sys2Proof.Machine.execRaiseApplicationEvent r arg s
  | .powerFailWarning => Sys2Proof.Machine.execPowerFailWarning s
  | .powerFailSequenceDone => Sys2Proof.Machine.execPowerFailSequenceDone s
  | .warningRecovered => Sys2Proof.Machine.execWarningRecovered s
  | .mainResetRelease x => Sys2Proof.Machine.execMainResetRelease x s
  | .islandStageRelease => Sys2Proof.Machine.execIslandStageRelease s
  | .acceptanceReady => Sys2Proof.Machine.execAcceptanceReady s
  | .resetNAsserted => Sys2Proof.Machine.execResetNAsserted s
  | .watchdogExpiry => Sys2Proof.Machine.execWatchdogExpiry s
  | .islandFault island => Sys2Proof.Machine.execIslandFault island s
  | .quiesceTimeout island => Sys2Proof.Machine.execQuiesceTimeout island s
  | .blockResetRelease island => Sys2Proof.Machine.execBlockResetRelease island s
  | .junctionTemperatureSample temp => Sys2Proof.Machine.execJunctionTemperatureSample temp s
  | .mainResetCommand r arg => Sys2Proof.Machine.execMainResetCommand r arg s
  | .clearRstcntInvalid r arg => Sys2Proof.Machine.execClearRstcntInvalid r arg s
  | .vddAonAccept => Sys2Proof.Machine.execVddAonAccept s
  | .vddAonDrop => Sys2Proof.Machine.execVddAonDrop s
  | .retTrip => Sys2Proof.Machine.execRetTrip s
  | .vbatMeasure vbat vbk => Sys2Proof.Machine.execVbatMeasure vbat vbk s
  | .ethFrameRx port f => Sys2Proof.Machine.execEthFrameRx port f s
  | .ethLinkChange port speed => Sys2Proof.Machine.execEthLinkChange port speed s
  | .prpSupervisionTx => Sys2Proof.Machine.execPrpSupervisionTx s
  | .remoteDownlinkTx assoc => Sys2Proof.Machine.execRemoteDownlinkTx assoc s
  | .remoteDownlinkResult token results => Sys2Proof.Machine.execRemoteDownlinkResult token results s
  | .remoteDownlinkRetransmit token => Sys2Proof.Machine.execRemoteDownlinkRetransmit token s
  | .remoteDownlinkExpiry tag => Sys2Proof.Machine.execRemoteDownlinkExpiry tag s
  | .deliveryEnable => Sys2Proof.Machine.execDeliveryEnable s
  | .deliveryDisable => Sys2Proof.Machine.execDeliveryDisable s
  | .dlvAvailWrite avail descs => Sys2Proof.Machine.execDlvAvailWrite avail descs s
  | .dlvBaseWrite base entries => Sys2Proof.Machine.execDlvBaseWrite base entries s
  | .deliveryBufferReturn => Sys2Proof.Machine.execDeliveryBufferReturn s
  | .readingDelivery seq => Sys2Proof.Machine.execReadingDelivery seq s
  | .pcieLinkTrained => Sys2Proof.Machine.execPcieLinkTrained s
  | .pcieHotReset => Sys2Proof.Machine.execPcieHotReset s
  | .serialPoll port => Sys2Proof.Machine.execSerialPoll port s
  | .serialReplyRx port good f rx => Sys2Proof.Machine.execSerialReplyRx port good f rx s
  | .serialResponseTimeout port => Sys2Proof.Machine.execSerialResponseTimeout port s
  | .uartByteRx port b => Sys2Proof.Machine.execUartByteRx port b s
  | .accessCodeEntry r v => Sys2Proof.Machine.execAccessCodeEntry r v s
  | .accessCodeLockoutExpiry => Sys2Proof.Machine.execAccessCodeLockoutExpiry s
  | .ocbLegalTimeWrite r v => Sys2Proof.Machine.execOcbLegalTimeWrite r v s
  | .ocbHeadendConnect conn addr => Sys2Proof.Machine.execOcbHeadendConnect conn addr s
  | .ocbHeadendDelivery conn msg stamp => Sys2Proof.Machine.execOcbHeadendDelivery conn msg stamp s
  | .ocbHeadendKeepaliveTx conn => Sys2Proof.Machine.execOcbHeadendKeepaliveTx conn s
  | .ocbHeadendIdleClose conn => Sys2Proof.Machine.execOcbHeadendIdleClose conn s
  | .clearOcbEventTable r arg => Sys2Proof.Machine.execClearOcbEventTable r arg s
  | .checkChannelSample at_ raw => Sys2Proof.Machine.execCheckChannelSample at_ raw s
  | .oscillatorResume => Sys2Proof.Machine.execOscillatorResume s
  | .memoryEccError place corrected => Sys2Proof.Machine.execMemoryEccError place corrected s
  | .clockLoss => Sys2Proof.Machine.execClockLoss s
  | .mainSupplyLoss => Sys2Proof.Machine.execMainSupplyLoss s
  | .restorationHoldEnd => Sys2Proof.Machine.execRestorationHoldEnd s
  | .friendlyHoursChange => Sys2Proof.Machine.execFriendlyHoursChange s
  | .sunBeaconTx port => Sys2Proof.Machine.execSunBeaconTx port s
  | .nvmeControllerEnable en => Sys2Proof.Machine.execNvmeControllerEnable en s
  | .partnerRemoval handle => Sys2Proof.Machine.execPartnerRemoval handle s

end Sys2Proof.Machine
end

