-- ==== Sys2Proof/Safety.lean ====
section
/-! DEFINITION. The terms in which claims about runs are made: when a dictionary request is carried out, how a command object
answers, and what no command may undo: the fuses, and the queue behind the command that runs. -/

namespace Sys2Proof.Machine

/-- Nothing refuses a request to a command object before the command's own rule is asked (R42 to R50, R68, R484): the object
is found, the access is admitted, the argument fits, and the command does not run already. -/
def State.starts (s : State) (r : Req) (num : Nat) (arg : Bytes) (o : ObjRow) : Prop :=
  s.locate r num = .ok o ∧ s.accessRefuses r num o .command = none ∧ o.checkArg arg = none ∧
    (s.cmdSt num (s.itemOf r o)).1 ≠ 1

/-- Nothing refuses a write before the object's own rule is asked (R42 to R51): the object is found, the access is admitted,
and the value is one that its type and range allow. -/
def State.writes (s : State) (r : Req) (num : Nat) (v : Bytes) (o : ObjRow) : Prop :=
  s.locate r num = .ok o ∧ s.accessRefuses r num o .write = none ∧ o.checkValue v = none

/-- A command that is done: its status, and success for the request (R45, R484). -/
def State.succeeds (t : State) (r : Req) (num inst : Nat) : State :=
  (t.setCmd num inst 2 (t.cmdSt num inst).2).respond r (.ok [])

/-- A command that has started and answers when it ends (R484). -/
def State.begins (t : State) (num inst : Nat) : State := t.setCmd num inst 1 (t.cmdSt num inst).2

/-- A command that has started and failed (R45, R69, R484). -/
def State.fails (t : State) (r : Req) (num inst : Nat) (a : Abort) : State :=
  (t.setCmd num inst 3 (BitVec.ofNat 32 a.code)).respond r (.abort a)

/-- Objects whose write has a command of its own: the authentication response, key records, peer digests, campaign kinds,
access codes and legal time. -/
def hasOwnWrite (num : Nat) : Bool :=
  [0x102100, 0xC01001, 0xA08101, 0x200100, 0x210000].contains num || (decide (0xA04001 ≤ num) && decide (num ≤ 0xA04020)) ||
  (decide (0x200201 ≤ num) && decide (num ≤ 0x200204))

/-- Every fuse of R111. -/
structure Fuses where
  lc : BitVec 3
  dbgOff : Bool
  persLock : BitVec 2
  rootLock : Bool
  vk0Revoked : Bool
  serial : U32
  root : BitVec 256
  vkh0 : BitVec 256
  vkh1 : BitVec 256
  tfwSvn : BitVec 64
  afwSvn : BitVec 128
  ucodeSvn : BitVec 64
deriving DecidableEq, Repr

/-- The fuses as they stand. -/
def TrustState.fuses (t : TrustState) : Fuses :=
  ⟨t.lcFuse, t.dbgOff, t.persLock, t.rootLock, t.vk0Revoked, t.serial, t.root, t.vkh0, t.vkh1, t.tfwSvn, t.afwSvn, t.ucodeSvn⟩

/-- Every bit blown in one set of fuses is blown in another (R112). -/
def Fuses.within (a b : Fuses) : Prop :=
  a.lc &&& b.lc = a.lc ∧ (a.dbgOff = true → b.dbgOff = true) ∧ a.persLock &&& b.persLock = a.persLock ∧
  (a.rootLock = true → b.rootLock = true) ∧ (a.vk0Revoked = true → b.vk0Revoked = true) ∧
  a.serial &&& b.serial = a.serial ∧ a.root &&& b.root = a.root ∧ a.vkh0 &&& b.vkh0 = a.vkh0 ∧ a.vkh1 &&& b.vkh1 = a.vkh1 ∧
  a.tfwSvn &&& b.tfwSvn = a.tfwSvn ∧ a.afwSvn &&& b.afwSvn = a.afwSvn ∧ a.ucodeSvn &&& b.ucodeSvn = a.ucodeSvn

/-- What a command leaves as it is unless it blows a fuse: the queue of waiting commands, and the fuses. -/
def State.kept (s : State) : List Instr × Fuses := (s.pending, s.trust.fuses)

/-- The k-th parent of a slot (R118). -/
def State.ancestor (s : State) : Nat → Nat → Nat
  | 0, n => n
  | k + 1, n => s.ancestor k (s.slot n).parent

/-- The state with a command at the front of its queue. -/
def State.withFront (s : State) (c : Instr) : State := { s with pending := c :: s.pending }

end Sys2Proof.Machine
end

