-- ==== Sys2Proof/Certificates/Slice0/Obligations.lean ====
section
/-! DEFINITION. The statements for the provers: every command's effect by family, the rules of the spec about the whole
machine, and the invariants that every step keeps. -/

section

open Sys2Proof Sys2Proof.Machine

/-- A plain write stores its value, answers success, and touches no other object. OBJECT_WRITE in native personality to
an RW object without a rule of its own, that nothing refuses, that takes effect at once and that the MRAM takes: the
next state answers success, the object's item holds the value written (its reserved bits as zeros, R11), every other
item of every object holds what it held, and apart from the stored values and the counter of writes during a trial
(R355) nothing changes. Rests on: 02_dictionary.md, R51. -/
def Obligations.PlainWritesAreStoredAndReadBack : Prop :=
  ∀ (s : State) (r : Req) (k : ObjKey) (v : Bytes) (o : ObjRow),
    s.pwr.ocb = false → hasOwnWrite (ObjKey.num k) = false → s.writes r (ObjKey.num k) v o → o.acc = .rw →
    o.inst ≠ .session → isSessionObj (ObjKey.num k) o = false → o.eff.later = false →
    s.ownRule (ObjKey.num k) (s.itemOf r o) (o.stored v) = none → (o.eff = .volatile ∨ r.storeOk = true) →
    ∃ t : State, exec (.objectWrite r k v) s = .next (t.respond r (.ok [])) ∧
      t.stored (ObjKey.num k) (s.itemOf r o) = reservedZero (ObjKey.num k) (o.stored v) ∧
      (∀ n i, storeKey n i ≠ storeKey (ObjKey.num k) (s.itemOf r o) → t.stored n i = s.stored n i) ∧
      t = { s with dict := { s.dict with vals := t.dict.vals }, upd := { s.upd with trialWrites := t.upd.trialWrites } }

/-- A write to a staged object becomes its pending value and leaves the value in force. STAGED_WRITE in native
personality that nothing refuses, to a group that is not APPLYING: the value becomes the pending value of the item
(reserved bits as zeros, R11), the group is PENDING, success is answered, and every value in force is what it was.
Rests on: 02_dictionary.md, R52. -/
def Obligations.StagedWritesWaitForTheirCommit : Prop :=
  ∀ (s : State) (r : Req) (k : ObjKey) (v : Bytes) (o : ObjRow) (g : Nat),
    s.pwr.ocb = false → hasOwnWrite (ObjKey.num k) = false → s.writes r (ObjKey.num k) v o →
    findRow (ObjKey.num k) = some o → o.acc = .rws → groupOf (ObjKey.num k) = some g → (s.group g).st ≠ .applying →
    s.ownRule (ObjKey.num k) (s.itemOf r o) (o.stored v) = none →
    ∃ t : State, exec (.stagedWrite r k v) s = .next (t.respond r (.ok [])) ∧
      tblFind? t.dict.pend (storeKey (ObjKey.num k) (s.itemOf r o)) = some (reservedZero (ObjKey.num k) (o.stored v)) ∧
      (∀ j, j ≠ storeKey (ObjKey.num k) (s.itemOf r o) → tblFind? t.dict.pend j = tblFind? s.dict.pend j) ∧
      (t.group g).st = .pending ∧ (∀ n i, t.cfgBytes n i = s.cfgBytes n i) ∧
      t = { s with dict := { s.dict with pend := t.dict.pend, groups := t.dict.groups } }

/-- In OCB personality a grouped write is stored at once, and its group checked when its block next acts on it.
OCB_IMMEDIATE_WRITE to a native grouped object that nothing refuses stores the value, readable at once, while the
block still acts on the value it acted on; the states of the groups stay. In OCB personality GROUP_SAFE_POINT_APPLY
is the moment at which the block next acts (a choice of the model, log entry 47): with written values and an
inconsistent set the group enters MISMATCH, stamped with network time; in MISMATCH and still inconsistent nothing
changes; with a consistent set the block acts on the stored values (a tariff table scheduled ahead apart, R279), the
group is IDLE, its mismatch stamp is 0 and its count is one higher; with nothing written and no mismatch nothing
changes. Rests on: 02_dictionary.md, R58. -/
def Obligations.OcbWritesStoreAtOnceAndCheckTheirGroup : Prop :=
  (∀ (s : State) (r : Req) (k : ObjKey) (v : Bytes) (o : ObjRow) (g : Nat),
    s.pwr.ocb = true → ocbIndex k.index.toNat = none → hasOwnWrite (ObjKey.num k) = false →
    s.writes r (ObjKey.num k) v o → o.acc = .rws → r.storeOk = true → groupOf (ObjKey.num k) = some g →
    s.ownRule (ObjKey.num k) (s.itemOf r o) (o.stored v) = none → s.itemOf r o < 2 ^ 64 →
    ∃ t : State, exec (.ocbImmediateWrite r k v) s = .next (t.respond r (.ok [])) ∧
      t.stored (ObjKey.num k) (s.itemOf r o) = reservedZero (ObjKey.num k) (o.stored v) ∧
      t.cfgBytes (ObjKey.num k) (s.itemOf r o) = s.cfgBytes (ObjKey.num k) (s.itemOf r o) ∧
      t = { s with dict := { s.dict with vals := t.dict.vals, shadow := t.dict.shadow }, upd := { s.upd with trialWrites := t.upd.trialWrites } }) ∧
  (∀ (s : State) (g : Fin 39), s.pwr.ocb = true → (s.group g.val).st ≠ .applying → s.atSafePoint g.val = true →
    (s.changes g.val = [] → (s.group g.val).st ≠ .mismatch → exec (.groupSafePointApply g) s = .next s) ∧
    (s.changes g.val ≠ [] → (s.group g.val).st ≠ .mismatch → s.groupOk g.val = false → exec (.groupSafePointApply g) s =
      .next (s.setGroup g.val (fun (x : Group) => { x with st := .mismatch, mismatchSince := s.time.net }))) ∧
    ((s.group g.val).st = .mismatch → s.groupOk g.val = false → exec (.groupSafePointApply g) s = .next s) ∧
    ((s.changes g.val ≠ [] ∨ (s.group g.val).st = .mismatch) → s.groupOk g.val = true →
      ∃ t : State, exec (.groupSafePointApply g) s = .next t ∧ (t.group g.val).st = .idle ∧ (t.group g.val).mismatchSince = 0 ∧
        (t.group g.val).applyCount = (s.group g.val).applyCount + 1 ∧
        ∀ n i, groupOf n = some g.val → isTariffObj n = false → i < 2 ^ 64 → t.cfgBytes n i = t.stored n i))

/-- Commit, discard, the safe point, the mismatch timer and the restore of defaults. COMMIT of a set that the block
takes and the MRAM stores moves the pending set to the committed one, leaves the group APPLYING, is mirrored and
succeeds; of an inconsistent set it fails with "group inconsistent" and changes nothing; with nothing pending it
succeeds without effect; while the group is APPLYING it is refused "group busy". DISCARD drops the pending values of
its group, makes a PENDING group IDLE and succeeds. GROUP_SAFE_POINT_APPLY on an APPLYING group at its safe point
stores the committed set, which is then empty, switches the group and leaves it IDLE, stamped with network time,
with its count one higher and no mismatch open. CFG_MISMATCH_TIMEOUT marks the episode and raises CFG_MISMATCH with
the group once 500 ms have passed and the set is still inconsistent, and does nothing before, again or of a set that
is consistent by then. RESTORE_DEFAULTS with its key asks for the restore at the next reset and succeeds; with
another it is refused. Rests on: 02_dictionary.md, R51, R54, R57, R58. -/
def Obligations.CommitsApplyAtTheSafePointAndDiscardsForget : Prop :=
  (∀ (s : State) (r : Req) (g : Fin 39) (arg : Bytes) (o : ObjRow), s.starts r ((0x1F00 + g.val) * 256 + 3) arg o →
    ((s.group g.val).st = .applying → exec (.commit r g arg) s = .next (s.respond r (.abort .groupBusy))) ∧
    ((s.group g.val).st ≠ .applying → (leNat arg = 0 ∨ leNat arg = (groupEntries g.val s.dict.pend).length) →
      (groupEntries g.val s.dict.pend = [] →
        exec (.commit r g arg) s = .next (s.succeeds r ((0x1F00 + g.val) * 256 + 3) (s.itemOf r o))) ∧
      (groupEntries g.val s.dict.pend ≠ [] → s.groupOk g.val = false →
        exec (.commit r g arg) s = .next (s.fails r ((0x1F00 + g.val) * 256 + 3) (s.itemOf r o) .groupInconsistent)) ∧
      (groupEntries g.val s.dict.pend ≠ [] → s.groupOk g.val = true → r.storeOk = true →
        exec (.commit r g arg) s = .next (((s.commitSet g.val (groupEntries g.val s.dict.pend)).mirror .configuration g.val
          (committedBytes (groupEntries g.val s.dict.pend))).succeeds r ((0x1F00 + g.val) * 256 + 3) (s.itemOf r o)) ∧
        ((s.commitSet g.val (groupEntries g.val s.dict.pend)).group g.val).st = .applying ∧
        groupEntries g.val (s.commitSet g.val (groupEntries g.val s.dict.pend)).dict.pend = [] ∧
        (((groupEntries g.val s.dict.pend).map (fun p => p.1)).Nodup → ∀ p ∈ groupEntries g.val s.dict.pend,
          tblFind? (s.commitSet g.val (groupEntries g.val s.dict.pend)).dict.committed p.1 = some p.2)))) ∧
  (∀ (s : State) (r : Req) (g : Fin 39) (arg : Bytes) (o : ObjRow),
    s.starts r ((0x1F00 + g.val) * 256 + 4) arg o → leNat arg = 0 → (s.group g.val).st ≠ .applying →
    ∃ t : State, exec (.discard r g arg) s = .next (t.succeeds r ((0x1F00 + g.val) * 256 + 4) (s.itemOf r o)) ∧
      groupEntries g.val t.dict.pend = [] ∧ groupOthers g.val t.dict.pend = groupOthers g.val s.dict.pend ∧
      ((s.group g.val).st = .pending → (t.group g.val).st = .idle) ∧
      t = { s with dict := { s.dict with pend := t.dict.pend, groups := t.dict.groups } }) ∧
  (∀ (s : State) (g : Fin 39), (s.group g.val).st = .applying →
    (s.atSafePoint g.val = false → exec (.groupSafePointApply g) s = .next s) ∧
    (s.atSafePoint g.val = true → ∃ t u : State, exec (.groupSafePointApply g) s = .next (t.groupSettled g.val) ∧
      t = (u.dropStandIns g.val).applied g.val (u.changes g.val) ∧ u = s.storeCommitted g.val ∧
      groupEntries g.val u.dict.committed = [] ∧ ((t.groupSettled g.val).group g.val).st = .idle ∧
      ((t.groupSettled g.val).group g.val).lastApplied = t.time.net ∧
      ((t.groupSettled g.val).group g.val).applyCount = (s.group g.val).applyCount + 1 ∧
      ((t.groupSettled g.val).group g.val).mismatchSince = 0)) ∧
  (∀ (s : State) (g : Fin 39),
    (((s.group g.val).st ≠ .mismatch ∨ (s.group g.val).mismatchRaised = true ∨ s.time.net < (s.group g.val).mismatchSince + 500000000 ∨
        s.groupOk g.val = true) → exec (.cfgMismatchTimeout g) s = .next s) ∧
    ((s.group g.val).st = .mismatch → (s.group g.val).mismatchRaised = false →
      (s.group g.val).mismatchSince + 500000000 ≤ s.time.net → s.groupOk g.val = false → exec (.cfgMismatchTimeout g) s =
        .next ((s.setGroup g.val (fun (x : Group) => { x with mismatchRaised := true })).raise 0x002 g.val))) ∧
  (∀ (s : State) (r : Req) (arg : Bytes) (o : ObjRow), s.starts r 0x101101 arg o →
    (leNat arg ≠ 0x64616F6C → exec (.restoreDefaults r arg) s = .next (s.respond r (.abort .valueInvalid))) ∧
    (leNat arg = 0x64616F6C → exec (.restoreDefaults r arg) s =
      .next (({ s with dict := { s.dict with restore := true } }).succeeds r 0x101101 (s.itemOf r o))))

/-- Challenges, responses, vendor tokens, lockout and expiry of roles. Reading 0x1020:00 or 0xA020:00 draws a fresh
challenge, keeps it for the session and returns it; a response whose HMAC holds gives the session the role of its
code, draws a new challenge and clears the transport's count of wrong responses; a wrong response is denied and
counted, the role's key used where a challenge stood, and the fifth in a row locks the transport and raises
AUTH_FAIL; the lockout's end admits the transport again; an idle session, and a Vendor session whose limit has
elapsed, fall back to Observer; a vendor token that passes every check gives the Vendor role for its limit. Rests
on: 02_dictionary.md, 04_trust_keys.md, R48, R129. -/
def Obligations.SessionsGainAndLoseTheirRoles : Prop :=
  (∀ (s : State) (r : Req) (o : ObjRow), s.readGuard r 0x102000 = .ok o →
    exec (.authenticationChallengeRead r) s = .next (({ s with dict := { s.dict with draws := s.dict.draws + 1 } }.setSess r.sess
      (fun x => { x with challenge := some (Config.random s.dict.draws) })).respond r
        (.ok (octets (drawBytes (Config.random s.dict.draws)))))) ∧
  (∀ (s : State) (r : Req) (o : ObjRow), s.readGuard r 0xA02000 = .ok o →
    exec (.vendorChallengeRead r) s = .next (({ s with dict := { s.dict with draws := s.dict.draws + 1 } }.setSess r.sess
      (fun x => { x with vendorChallenge := some (Config.random s.dict.draws) })).respond r
        (.ok (octets (drawBytes (Config.random s.dict.draws)))))) ∧
  (∀ (s : State) (r : Req) (v : Bytes) (o : ObjRow) (tc n : Nat),
    s.writes r 0x102100 v o → Transport.authCode r.sess.tr = some tc → s.dict.locked.contains r.sess.tr = false →
    1 ≤ fieldAt (v.drop 2) 0 1 → fieldAt (v.drop 2) 0 1 ≤ 4 → r.sess.tr ≠ .probe →
    s.roleSlot (fieldAt (v.drop 2) 0 1) = some n → s.responseOk r.sess tc (v.drop 2) = true →
    ∃ t : State, exec (.authenticationResponse r v) s = .next (t.respond r (.ok [])) ∧
      (t.sess r.sess).role = roleOfCode (fieldAt (v.drop 2) 0 1) ∧ tblFind? t.dict.wrong tc = none ∧
      (t.sess r.sess).challenge ≠ none) ∧
  (∀ (s : State) (r : Req) (v : Bytes) (o : ObjRow) (tc : Nat),
    s.writes r 0x102100 v o → Transport.authCode r.sess.tr = some tc → s.dict.locked.contains r.sess.tr = false →
    1 ≤ fieldAt (v.drop 2) 0 1 → fieldAt (v.drop 2) 0 1 ≤ 4 → r.sess.tr ≠ .probe →
    s.responseOk r.sess tc (v.drop 2) = false →
    ∃ t : State, exec (.authenticationResponse r v) s = .next (t.respond r (.abort .accessDenied)) ∧
      (t.sess r.sess).role = (s.sess r.sess).role ∧
      tblGet 0 t.dict.wrong tc = tblGet 0 s.dict.wrong tc + 1 ∧
      (t.dict.locked.contains r.sess.tr = true ↔ 5 ≤ tblGet 0 s.dict.wrong tc + 1) ∧
      t = ((s.useRoleKey r.sess (fieldAt (v.drop 2) 0 1)).wrongResponse r.sess.tr tc).redrawAuth r.sess) ∧
  (∀ (s : State) (tr : Transport) (tc : Nat), 5 ≤ tblGet 0 s.dict.wrong tc + 1 → ∃ u : State, s.wrongResponse tr tc = u.raise 0x001 tc ∧
    u = { s with dict := u.dict }) ∧
  (∀ (s : State) (tr : Transport), s.dict.locked.contains tr = true →
    exec (.authLockoutExpiry tr) s = .next { s with dict := { s.dict with
      locked := s.dict.locked.erase tr, wrong := tblDel s.dict.wrong ((Transport.authCode tr).getD 0) } }) ∧
  (∀ (s : State) (i : SessId), exec (.sessionIdleTimeout i) s =
    .next (s.setSess i (fun x => { x with role := .observer, vendorLimit := 0 }))) ∧
  (∀ (s : State) (i : SessId), (s.sess i).role = .vendor → exec (.vendorSessionExpiry i) s =
    .next (s.setSess i (fun x => { x with role := .observer, vendorLimit := 0 }))) ∧
  (∀ (s : State) (r : Req) (arg : Bytes) (o : ObjRow), s.starts r 0xA02104 arg o → s.dict.available = true →
    s.tokenOk r.sess = true →
    ∃ t : State, exec (.verifyVendorToken r arg) s = .next t ∧ (t.sess r.sess).role = .vendor ∧
      (t.sess r.sess).vendorLimit = fieldAt (s.tokenOf r.sess) 56 4 ∧ (t.sess r.sess).vendorChallenge = none)

/-- CoAP, SDO, probe and mailbox carry requests, transfers and their time-outs. While the dictionary is available a CoAP
GET to the service port, without blocks, on an open association is answered with a value of at most 1,024 bytes; an
expired block-wise transfer is dropped and answered 4.08; an SDO upload addressed to the node, whose value fits, is
answered at once; a download segment that is not the last is kept with its toggle bit; a segment time-out aborts the
transfer; a probe sign-on opens a session as Observer and is counted; a probe read of at most 64 bytes is answered;
sign-off and break end the session; a doorbell for a free slot makes it outstanding; an outstanding mailbox read is
carried out while a descriptor is left and the mailbox queue has room; clearing MBX_DONE clears its bits; enabling
opens the session and disabling gives up every slot. Rests on: 02_dictionary.md, 18_host_links.md, R47, R59, R61,
R63, R64, R66, R67. -/
def Obligations.TransportsCarryRequests : Prop :=
  (∀ (s : State) (r : Req) (peer v x : Bytes) (k : ObjKey) (f : Found),
    r.sess.tr = .coap → s.cfgN 0x103002 ≠ 0 → r.dest = s.transN r.sess 0x103001 → s.dict.available = true → (s.sess r.sess).isOpen = true → (s.sess r.sess).peer = peer →
    meterPathOk r k = true → (s.fetch r (ObjKey.num k)).1 = .ok x → x.length ≤ 1024 →
    exec (.coapRequest r peer .get k none none v f) s = .next ((s.fetch r (ObjKey.num k)).2.respond r (.ok x))) ∧
  (∀ (s : State) (r : Req), r.sess.tr = .coap → (s.sess r.sess).xfer ≠ none →
    exec (.coapBlockwiseTimeout r) s = .next ((s.setXfer r.sess none).respond r (.abort .timeout))) ∧
  Abort.timeout.coap = 408 ∧
  (∀ (s : State) (r : Req) (k : ObjKey) (room : Nat) (f : Found) (x : Bytes), s.canReaches r = true → s.dict.available = true →
    (((s.canFrame (canPortOf r.sess)).setXfer r.sess none).fetch r (ObjKey.num k)).1 = .ok x → x.length ≤ room →
    exec (.sdoInitiate r k (.upload room) f) s =
      .next ((((s.canFrame (canPortOf r.sess)).setXfer r.sess none).fetch r (ObjKey.num k)).2.respond r (.ok x))) ∧
  (∀ (s : State) (r : Req) (tog : Bool) (v : Bytes) (room : Nat) (f : Found) (x : Xfer), s.canReaches r = true →
    (s.sess r.sess).xfer = some x → x.download = true → tog ≠ x.toggle →
    exec (.sdoSegment r tog v false room f) s = .next (((s.canFrame (canPortOf r.sess)).setXfer r.sess
      (some { x with buf := x.buf ++ v, toggle := tog })).serve (.sdo r.sess (s.canAnswer r.sess) none []))) ∧
  (∀ (s : State) (r : Req), s.canReaches r = true → (s.sess r.sess).xfer ≠ none →
    exec (.sdoSegmentTimeout r) s = .next ((s.setXfer r.sess none).respond r (.abort .timeout))) ∧
  (∀ (s : State) (p : Fin 2), s.probeOn p.val = true → s.dict.available = true →
    ∃ t : State, exec (.probeSignOn p) s = .next (t.respond { sess := ⟨.probe, p.val⟩ } (.ok [])) ∧ t.sess ⟨.probe, p.val⟩ = { isOpen := true } ∧
      tblGet 0 t.link.probeSessions p.val = tblGet 0 s.link.probeSessions p.val + 1) ∧
  (∀ (s : State) (r : Req) (k : ObjKey) (f : Found) (x : Bytes), r.sess.tr = .probe → (s.sess r.sess).isOpen = true →
    (s.fetch r (ObjKey.num k)).1 = .ok x → x.length ≤ 64 →
    exec (.probeRequest r (.read k) f) s = .next ((s.fetch r (ObjKey.num k)).2.respond r (.ok x))) ∧
  (∀ (s : State) (p : Fin 2), (s.sess ⟨.probe, p.val⟩).isOpen = true →
    exec (.probeSignOff p) s = .next (s.setSess ⟨.probe, p.val⟩ (fun _ => {})) ∧
    exec (.probeBreak p) s = .next (s.setSess ⟨.probe, p.val⟩ (fun _ => {}))) ∧
  (∀ (s : State) (slot : U32) (content : Bytes), s.link.pcie = true → s.doorbellIgnored slot.toNat = false →
    exec (.mailboxDoorbell slot content) s = .next (s.setLinks (fun l => { l with
      mbxOut := l.mbxOut ++ [slot.toNat], mbxSlot := tblPut l.mbxSlot slot.toNat content }))) ∧
  (∀ (s : State) (slot : Fin 32) (st : Bool) (f : Found), s.link.mbxOut.contains slot.val = true →
    s.link.mbxRun.contains slot.val = false → s.poolTaken < 49152 → s.mailboxFull = false → s.dict.available = true → fieldAt (tblGet [] s.link.mbxSlot slot.val) 2 1 = 1 →
    ∃ r : Req, r.sess = ⟨.mailbox, 0⟩ ∧ r.token = slot.val ∧ r.storeOk = st ∧ r.handle =
      (if fieldAt (tblGet [] s.link.mbxSlot slot.val) 3 1 % 2 = 1 then
        some (BitVec.ofNat 20 (fieldAt (tblGet [] s.link.mbxSlot slot.val) 8 4)) else none) ∧ exec (.mailboxRequest slot st f) s =
      .next ((s.setLinks (fun l => { l with mbxRun := slot.val :: l.mbxRun })).get r
        (fieldAt (tblGet [] s.link.mbxSlot slot.val) 4 2 * 256 + fieldAt (tblGet [] s.link.mbxSlot slot.val) 6 1))) ∧
  (∀ (s : State) (b : U32), exec (.mbxDoneClear b) s = .next (s.setLinks (fun l => { l with mbxDone := l.mbxDone &&& ~~~b }))) ∧
  (∀ s : State, s.link.pcie = true → s.link.mbxOn = false → exec .mailboxEnable s =
    .next ((s.setLinks (fun l => { l with mbxOn := true })).setSess ⟨.mailbox, 0⟩ (fun _ => { isOpen := true }))) ∧
  (∀ s : State, s.link.mbxOn = true → exec .mailboxDisable s =
    .next ((s.setLinks (fun l => { l with mbxOn := false, mbxOut := [], mbxRun := [] })).setSess ⟨.mailbox, 0⟩ (fun _ => {})))

/-- NMT reset, CANopen heartbeat, bus-off recovery and the dictionary's availability. NMT_RESET on a port that is on
makes every session of the port an Observer; CAN_HEARTBEAT leaves a port that is error active or passive, sends
heartbeats and was not stopped; CAN_BUS_OFF_RECOVERY leaves the port error active and counts the bus-off;
DICTIONARY_AVAILABLE, once the last island is released, makes the dictionary answer; without application firmware it
does not, and the Grotto then serves its own objects over the mailbox and CAN FD. Rests on: 02_dictionary.md,
14_updates.md, 18_host_links.md, R68, R354, R436. -/
def Obligations.CanNodeAndDictionaryAvailability : Prop :=
  (∀ (s : State) (p : Fin 2), s.canState p.val ≠ 0 →
    ∃ t : State, exec (.nmtReset p) s = .next t ∧
      (∀ x ∈ t.dict.sessions, x.1 / 2 ^ 32 ≤ 1 → x.1 % 2 ^ 32 / 128 = p.val → x.2.role = .observer) ∧
      t = { s with dict := { s.dict with sessions := t.dict.sessions }, link := { s.link with can := t.link.can } }) ∧
  (∀ (s : State) (p : Fin 2), s.canState p.val ≠ 0 → s.canState p.val ≠ 3 →
    s.cfgN ((0x4400 + 16 * p.val) * 256 + 2) ≠ 0 → (tblGet ({} : CanPort) s.link.can p.val).nmtStopped = false →
    exec (.canHeartbeat p) s = .next (s.emit (.canHeartbeat p.val))) ∧
  (∀ (s : State) (p : Fin 2), s.canState p.val ≠ 0 →
    ∃ t : State, exec (.canBusOffRecovery p) s = .next t ∧ (tblGet ({} : CanPort) t.link.can p.val).st = 1 ∧
      (tblGet ({} : CanPort) t.link.can p.val).busOff = (tblGet ({} : CanPort) s.link.can p.val).busOff + 1 ∧
      t = { s with link := { s.link with can := t.link.can } }) ∧
  (∀ s : State, s.upd.down.contains 2 = true → exec .dictionaryAvailable s = .next s) ∧
  (∀ (s : State) (r : Req) (n : Nat), s.dict.available = false → s.upd.down.contains 2 = true → r.sess.tr = .mailbox →
    (grottoIndex (n / 256) = false → s.locate r n = .error .notReady) ∧
    (grottoIndex (n / 256) = true → 6 ≤ s.pwr.stage → s.pwr.inReset = false →
      s.locate r n = ({ s with dict := { s.dict with available := true } } : State).locate r n)) ∧
  (∀ s : State, s.pwr.inReset = false → 6 ≤ s.pwr.stage → s.upd.down.contains 2 = false → ∃ t : State, exec .dictionaryAvailable s = .next t ∧ t.dict.available = true ∧
      t = { s with dict := t.dict, pwr := t.pwr })

/-- Real, disturbed and predicted crossings, and the cycle epoch. ZC_CROSSING on ZC_A: while LOCKED, a crossing within
150 us of its prediction takes the next cycle number, is the last stamp and gives the period, and the tracker stays
LOCKED; one outside the window changes nothing but network time and the note that a disturbed crossing was seen (the
model's own, log entry 53); the first crossing after a reset without a snapshot is number 0, and in SEARCH one 1/65
to 1/45 s after the last takes the next number, gives the period and locks; a pulse shorter than the minimum changes
nothing. ZC_PREDICTED_CROSSING while LOCKED takes the next number at one period after the last and enters HOLDOVER;
up to the fifth leaves it HOLDOVER; the next makes the tracker ABSENT where no disturbed crossing was seen, and
where one was it enters nothing and awaits the sixth crossing; that crossing, displaced but not too soon, re-locks
the tracker with the nearest predicted number. SET_CYCLE_EPOCH with no order out and no cycle trigger armed: the
next crossing takes the number, the table is empty, and the tracker searches. Rests on: 03_time.md, R74, R75, R76,
R78, R150. -/
def Obligations.CrossingsTakeTheNextCycleNumber : Prop :=
  (∀ (s : State) (stamp width last a : Nat), s.pwr.inReset = false → s.cfgN 0x310004 ≤ width →
    a = ((stamp : Int) - s.cfgI 4 0x310001).toNat → s.time.tracker = .locked → s.time.lastStamp = some last →
    15384616 ≤ a - last → ((a : Int) - ((last + s.time.period : Nat) : Int)).natAbs ≤ 150000 →
    ∃ t : State, exec (.zcCrossing 0 stamp width) s = .next t ∧ t.time.cycle = s.time.cycle + 1 ∧ t.time.period = a - last ∧
      t.time.lastStamp = some a ∧ t.time.tracker = .locked) ∧
  (∀ (s : State) (stamp width last a : Nat), s.pwr.inReset = false → s.cfgN 0x310004 ≤ width →
    a = ((stamp : Int) - s.cfgI 4 0x310001).toNat → s.time.tracker = .locked → s.time.lastStamp = some last →
    150000 < ((a : Int) - ((last + s.time.period : Nat) : Int)).natAbs →
    exec (.zcCrossing 0 stamp width) s =
      .next { (s.atNet stamp) with time := { (s.atNet stamp).time with zcSeen := true } }) ∧
  (∀ (s : State) (stamp width a : Nat), s.pwr.inReset = false → s.cfgN 0x310004 ≤ width →
    a = ((stamp : Int) - s.cfgI 4 0x310001).toNat → s.time.tracker = .search → s.time.lastStamp = none →
    s.time.epochNext = none → s.time.snap = none →
    ∃ t : State, exec (.zcCrossing 0 stamp width) s = .next t ∧ t.time.cycle = 0 ∧ t.time.lastStamp = some a) ∧
  (∀ (s : State) (stamp width last a : Nat), s.pwr.inReset = false → s.cfgN 0x310004 ≤ width →
    a = ((stamp : Int) - s.cfgI 4 0x310001).toNat → s.time.tracker = .search → s.time.lastStamp = some last →
    15384616 ≤ a - last → a - last ≤ 22222222 →
    ∃ t : State, exec (.zcCrossing 0 stamp width) s = .next t ∧ t.time.cycle = s.time.cycle + 1 ∧ t.time.period = a - last ∧
      t.time.lastStamp = some a ∧ t.time.tracker = .locked) ∧
  (∀ (s : State) (i : Fin 3) (stamp width : Nat), width < s.cfgN 0x310004 →
    exec (.zcCrossing i stamp width) s = .next s) ∧
  (∀ (s : State) (last : Nat), s.pwr.inReset = false → s.time.tracker = .locked → s.time.lastStamp = some last →
    ∃ t : State, exec .zcPredictedCrossing s = .next t ∧ t.time.cycle = s.time.cycle + 1 ∧ t.time.tracker = .holdover ∧
      t.time.predictedRun = 1 ∧ t.time.lastStamp = some (last + s.time.period)) ∧
  (∀ (s : State) (last : Nat), s.pwr.inReset = false → s.time.tracker = .holdover → s.time.lastStamp = some last →
    (s.time.predictedRun < 5 ∨ s.time.zcSeen = false) →
    ∃ t : State, exec .zcPredictedCrossing s = .next t ∧ t.time.cycle = s.time.cycle + 1 ∧
      t.time.tracker = (if s.time.predictedRun < 5 then .holdover else .absent)) ∧
  (∀ (s : State) (last : Nat), s.pwr.inReset = false → s.time.tracker = .holdover → s.time.lastStamp = some last →
    5 ≤ s.time.predictedRun → s.time.zcSeen = true →
    ∃ t : State, exec .zcPredictedCrossing s = .next t ∧ t.time.cycle = s.time.cycle ∧ t.time.tracker = .holdover ∧
      t.time.lastStamp = some last ∧ t.time.zcSeen = false) ∧
  (∀ (s : State) (stamp width last a : Nat), s.pwr.inReset = false → s.cfgN 0x310004 ≤ width →
    a = ((stamp : Int) - s.cfgI 4 0x310001).toNat → s.time.tracker = .holdover → s.time.lastStamp = some last →
    s.time.predictedRun = 5 → 15384616 ≤ a - last →
    150000 < ((a : Int) - ((last + s.time.period : Nat) : Int)).natAbs →
    ∃ t : State, exec (.zcCrossing 0 stamp width) s = .next t ∧ t.time.tracker = .locked ∧ t.time.lastStamp = some a ∧
      t.time.cycle = s.time.cycle + BitVec.ofNat 40 (max 1 (roundDiv ((a : Int) - last) (max s.time.period 1))).toNat) ∧
  (∀ (s : State) (r : Req) (arg : Bytes) (o : ObjRow), s.starts r 0x31000A arg o → leNat arg < 2 ^ 40 →
    s.orderOut = false → s.cycleTriggerArmed = false →
    ∃ t : State, exec (.setCycleEpoch r arg) s = .next (t.succeeds r 0x31000A (s.itemOf r o)) ∧
      t.time.epochNext = some (BitVec.ofNat 40 (leNat arg)) ∧ t.time.table = [] ∧ t.time.tracker = .search ∧
      t.time.lastStamp = none ∧ t.time.cycle = s.time.cycle)

/-- PTP and PPS messages, the loss of the source, and the PPS output. A Sync on the slave port of a LOCKED device in
slew mode, within the step threshold, keeps network time and sets the rate from the offset measured with the path
delay and the port's receive delay; a message of another domain, or on a port without PTP, changes nothing;
PTP_MESSAGE_TX from a port that runs PTP counts the message at the port and sends it with network time plus the
port's transmit delay, a peer delay response with the residence time and both delays of its port, an Announce with
what the device announces (R83); three missing sync intervals take a device LOCKED to PTP to HOLDOVER with PTP_LOST,
and under another source change nothing; two missing pulses do the same when PPS_IN is the source; a PPS_IN edge is
noted at its stamp; PPS_OUT sends a pulse of its width, of width 0 none. Rests on: 03_time.md, R83, R84, R85, R86,
R87, R90. -/
def Obligations.NetworkTimeFollowsItsSource : Prop :=
  (∀ (s : State) (p : Fin 4) (d : U8) (origin rx at_ : Nat) (delay off : Int), s.ptpOn p.val = true →
    d.toNat = s.cfgN 0x311101 → s.time.slave = some p.val → s.cfgN 0x311003 = 1 → s.cfgN 0x311002 = 1 →
    (tblGet {} s.time.ptp p.val).pathDelay = some delay → s.time.sync = .locked →
    off = (origin : Int) + delay - ((rx : Int) - s.cfgN (0x420202 + 0x1000 * p.val)) →
    (s.cfgN 0x311005 = 0 ∨ off.natAbs ≤ s.cfgN 0x311005 * 1000000) →
    ∃ t : State, exec (.ptpMessageRx p d (.sync origin rx) at_) s = .next t ∧ t.time.net = max s.time.net at_ ∧
      t.time.rate = s.time.learned + clampTo (s.cfgN 0x311004 * 1000000) (roundDiv (off * 1000) 16) ∧
      t.time.sync = .locked ∧ t.time.steps = s.time.steps) ∧
  (∀ (s : State) (p : Fin 4) (d : U8) (m : PtpMsg) (at_ : Nat), (s.ptpOn p.val = false ∨ d.toNat ≠ s.cfgN 0x311101) →
    exec (.ptpMessageRx p d m at_) s = .next s) ∧
  (∀ (s : State) (p kind : Fin 4) (residence : Nat), s.ptpOn p.val = true →
    (2 ≤ kind.val ∨ (s.time.slave ≠ some p.val ∧ s.ptpPassive p.val = false ∧ s.cfgB 0x311104 = false)) →
    ∃ t : State, exec (.ptpMessageTx p kind residence) s = .next (t.emit (if kind = 1 then s.announce p.val else
        .ptp p.val (kind.val + 1) (if kind = 3 then residence + s.cfgN (0x420201 + 0x1000 * p.val) + s.cfgN (0x420202 + 0x1000 * p.val)
          else s.time.net + s.cfgN (0x420201 + 0x1000 * p.val)))) ∧
      (tblGet {} t.time.ptp p.val).sent = (tblGet {} s.time.ptp p.val).sent + 1 ∧
      t = { s with time := { s.time with ptp := t.time.ptp }, link := { s.link with eth := t.link.eth } }) ∧
  (∀ (s : State) (p : Nat), s.time.slave = some p → s.cfgN 0x311003 = 1 → s.time.sync = .locked →
    ∃ u : State, exec (.ptpAnnounceTimeout true) s = .next (u.raise 0x04A p) ∧
      u = { s with time := { s.time with sync := .holdover, acq := 0, holdSince := some s.time.mono } }) ∧
  (∀ s : State, s.cfgN 0x311003 ≠ 1 → exec (.ptpAnnounceTimeout true) s = .next s) ∧
  (∀ s : State, s.cfgN 0x311003 = 2 → s.time.sync = .locked →
    ∃ u : State, exec .ppsInMissed s = .next (u.raise 0x04A (Config.openInt 88 s.opens)) ∧
      u = { s with opens := s.opens + 1, time := { s.time with sync := .holdover, acq := 0, holdSince := some s.time.mono } }) ∧
  (∀ (s : State) (stamp : Nat), s.cfgN 0x311003 ≠ 2 →
    ∃ t : State, exec (.ppsInEdge stamp) s = .next t ∧ t.time.lastPps = some stamp ∧ t.time.net = max s.time.net stamp) ∧
  (∀ (s : State) (stamp : Nat), s.cfgN 0x311003 = 2 → s.time.sync = .free → s.time.lastPps = none →
    ∃ t : State, exec (.ppsInEdge stamp) s = .next t ∧ t.time.lastPps = some stamp ∧ t.time.acq = 1 ∧ t.time.sync = .free) ∧
  (∀ s : State, s.cfgN 0x311201 = 0 → exec .ppsOutPulse s = .next s) ∧
  (∀ s : State, s.cfgN 0x311201 ≠ 0 → exec .ppsOutPulse s =
    .next (({ s with time := { s.time with ppsOut := s.time.ppsOut + 1 } }).emit (.pps (s.cfgN 0x311201))))

/-- Arming, disarming and firing of triggers, and edges on the capture inputs. ARM of a trigger that is not armed and
may be armed leaves it armed with its results at 0 (a choice of the model, log entry 64); one that is armed is
answered device busy, one that may not be armed value invalid; DISARM of an armed trigger leaves it idle;
TRIGGER_FIRE of an armed trigger with action 4 within 6 ns after its time target leaves it FIRED at the time given
and raises the event of action 4 with its argument; a trigger not armed does not fire; a CAPTURE_EDGE on main power
that the input's selection takes is stamped and counted (on a button not within the 20 ms after an edge), one with
the selection off is not, and without main power none. Rests on: 03_time.md, R92, R93, R94. -/
def Obligations.TriggersArmFireAndCapturesStamp : Prop :=
  (∀ (s : State) (r : Req) (n : Fin 32) (o : ObjRow), s.starts r (0x330006 + 256 * n.val) [1] o →
    (s.trig n.val).st ≠ .armed → s.mayArm n.val = true →
    ∃ t : State, exec (.arm r n) s = .next (t.succeeds r (0x330006 + 256 * n.val) (s.itemOf r o)) ∧
      t.trig n.val = { st := .armed } ∧ t = { s with time := { s.time with triggers := t.time.triggers } }) ∧
  (∀ (s : State) (r : Req) (n : Fin 32) (o : ObjRow), s.starts r (0x330006 + 256 * n.val) [1] o →
    ((s.trig n.val).st = .armed → exec (.arm r n) s = .next (s.respond r (.abort .deviceBusy))) ∧
    ((s.trig n.val).st ≠ .armed → s.mayArm n.val = false → exec (.arm r n) s = .next (s.respond r (.abort .valueInvalid)))) ∧
  (∀ (s : State) (r : Req) (n : Fin 32) (o : ObjRow), s.starts r (0x330006 + 256 * n.val) [2] o →
    (s.trig n.val).st = .armed →
    ∃ t : State, exec (.disarm r n) s = .next (t.succeeds r (0x330006 + 256 * n.val) (s.itemOf r o)) ∧
      (t.trig n.val).st = .idle ∧ t = { s with time := { s.time with triggers := t.time.triggers } }) ∧
  (∀ (s : State) (n : Fin 32) (at_ : Nat), (s.trig n.val).st = .armed → s.trigKind n.val ≠ 2 → s.trigAction n.val = 4 →
    s.trigTime n.val ≤ at_ → at_ ≤ s.trigTime n.val + 6 →
    ∃ t : State, exec (.triggerFire n at_) s = .next (t.raise 0x04C (s.trigArg n.val)) ∧ (t.trig n.val).st = .fired ∧
      (t.trig n.val).firedAt = at_) ∧
  (∀ (s : State) (n : Fin 32) (at_ : Nat), (s.trig n.val).st ≠ .armed → exec (.triggerFire n at_) s = .next s) ∧
  (∀ (s : State) (c : Fin 6) (rising : Bool) (stamp : Nat), s.pwr.inReset = true →
    exec (.captureEdge c rising stamp) s = .next s) ∧
  (∀ (s : State) (c : Fin 6) (rising : Bool) (stamp : Nat), s.pwr.inReset = false →
    (c.val < 4 ∨ (tblGet {} s.time.captures c.val).quietTo ≤ stamp) →
    (s.cfgN (0x350001 + c.val * 256) = 3 ∨ (s.cfgN (0x350001 + c.val * 256) = 1 ∧ rising = true) ∨
      (s.cfgN (0x350001 + c.val * 256) = 2 ∧ rising = false)) →
    ∃ t : State, exec (.captureEdge c rising stamp) s = .next t ∧ (tblGet {} t.time.captures c.val).last = stamp ∧
      (tblGet {} t.time.captures c.val).count = (tblGet {} s.time.captures c.val).count + 1) ∧
  (∀ (s : State) (c : Fin 6) (rising : Bool) (stamp : Nat), s.cfgN (0x350001 + c.val * 256) = 0 →
    ∃ t : State, exec (.captureEdge c rising stamp) s = .next t ∧
      (tblGet {} t.time.captures c.val).last = (tblGet {} s.time.captures c.val).last ∧
      (tblGet {} t.time.captures c.val).count = (tblGet {} s.time.captures c.val).count)

/-- The legal calendar: set, tick, shift, hold, wrap, discipline, trim, oscillator, offset table. SET_CALENDAR with a
valid time outside the lockout waits for the tick; an invalid one sets RTC_SET_ERR, raises its event and is refused;
CALENDAR_SET_TICK of a pending set, or else of one of the calendar discipline, writes the time with sub-second count
0, clears the flags and any hold and leaves no set pending, and the tick applies a shift that waited for it;
CALENDAR_SET_NO_TICK forgets a pending set and a pending shift; SUB_SECOND_SHIFT forward that does not pass a second
moves the count and is mirrored; HOLD_END lets it run; CAL_WRAP at the last second gives 2000-01-01 with CAL_WRAP;
discipline with the mode off changes nothing; a temperature sample is kept; the window's end learns nothing unless
LOCKED; RELEARN_TRIM empties the table; OSC_STOP stops the oscillator, sets OSF and TIME_UNTRUSTED and raises; it
resumes; the offset in force is taken at its start; DST_TABLE_LOW raises with the days left. Rests on: 03_time.md,
R96, R97, R98, R99, R100, R101, R102, R106, R107, R108. -/
def Obligations.CalendarSetsShiftsAndTrims : Prop :=
  (∀ (s : State) (r : Req) (arg : Bytes) (o : ObjRow), s.starts r 0x320100 arg o → setArgOk arg = true →
    s.time.lockout = false → exec (.setCalendar r arg) s =
      .next (({ s with time := { s.time with pendSet := some (CalTime.ofBcd7 arg, some (r, true)) } }).begins 0x320100
        (s.itemOf r o))) ∧
  (∀ (s : State) (r : Req) (arg : Bytes) (o : ObjRow), s.starts r 0x320100 arg o → setArgOk arg = false →
    exec (.setCalendar r arg) s =
      .next ((({ s with time := { s.time with setErr := true } }).raise 0x051 0).respond r (.abort .valueInvalid))) ∧
  (∀ (s : State) (c : CalTime), ((∃ who, s.time.pendSet = some (c, who)) ∨ (s.time.pendSet = none ∧ s.time.discSet = some c)) →
    s.time.oscStopped = false → s.time.pendShift = none →
    ∃ t : State, exec .calendarSetTick s = .next t ∧ t.time.cal = c ∧ t.time.sub = 0 ∧ t.time.osf = false ∧ t.time.untrusted = false ∧
      t.time.setErr = false ∧ t.time.hold = none ∧ t.time.pendSet = none ∧ t.time.discSet = none) ∧
  (∀ (s : State) (n : Int) (who : Option Req), s.time.pendSet = none → s.time.discSet = none → s.time.oscStopped = false →
    s.time.pendShift = some (n, who) → 0 ≤ n → (s.time.sub.toNat : Int) + n < 32768 →
    ∃ t : State, exec .calendarSetTick s = .next t ∧ t.time.pendShift = none ∧ t.time.cal = s.time.cal ∧
      t.time.sub = BitVec.ofNat 15 (s.time.sub.toNat + n.toNat) ∧ t.time.adjust = s.time.adjust ++ [n]) ∧
  (∀ s : State, ∃ t : State, exec .calendarSetNoTick s = .next t ∧ t.time = { s.time with pendSet := none, pendShift := none }) ∧
  (∀ (s : State) (r : Req) (arg : Bytes) (o : ObjRow) (n : Int), s.starts r 0x320200 arg o → n = toSigned 16 (leNat arg) →
    0 < n → s.time.lockout = false → s.time.hold = none → s.time.oscStopped = false → (s.time.sub.toNat : Int) + n < 32768 →
    ∃ t : State, exec (.subSecondShift r arg) s = .next ((t.mirror .configuration 0x320200 arg).succeeds r 0x320200 (s.itemOf r o)) ∧
      t = { s with time := { s.time with sub := BitVec.ofNat 15 (s.time.sub.toNat + n.toNat),
                                         adjust := s.time.adjust ++ [n] } }) ∧
  (∀ s : State, exec .holdEnd s = .next { s with time := { s.time with hold := none } }) ∧
  (∀ s : State, s.time.cal = calLast → ∃ t : State, exec .calWrap s = .next (t.raise 0x050 0) ∧ t.time.calWrap = true ∧
      t.time.sub = 0 ∧ t.time.cal.year = 2000 ∧ t.time.cal.month = 1 ∧ t.time.cal.day = 1 ∧ t.time.cal.secs = 0) ∧
  (∀ s : State, s.cfgN 0x320300 = 0 → exec .calendarDiscipline s = .next s) ∧
  (∀ s : State, s.cfgN 0x320300 = 1 → s.time.sync = .locked → s.time.lockout = false → s.time.oscStopped = false →
    (1000000000 : Int) ≤ ((s.legalNs - s.time.calNs).natAbs : Int) → s.time.diverged = false →
    exec .calendarDiscipline s = .next (({ s with time := { s.time with diverged := true } }).raise 0x052
      ((s.legalNs - s.time.calNs) / 1000000))) ∧
  (∀ (s : State) (x : BitVec 16), exec (.temperatureBinSample x) s = .next { s with time := { s.time with temp := x.toInt } }) ∧
  (∀ (s : State) (x : BitVec 16) (e : Nat), s.time.sync ≠ .locked →
    exec (.trimWindowEnd x e) s = .next { s with time := { s.time with trimMram := s.time.trim, trimFed := [] } }) ∧
  (∀ (s : State) (r : Req) (arg : Bytes) (o : ObjRow), s.starts r 0x320404 arg o → s.time.lockout = false →
    exec (.relearnTrim r arg) s = .next (({ s with time := { s.time with trim := [] } }).succeeds r 0x320404 (s.itemOf r o))) ∧
  (∀ s : State, exec .oscStop s =
    .next (({ s with time := { s.time with oscStopped := true, osf := true, untrusted := true } }).raise 0x053 0)) ∧
  (∀ s : State, exec .oscillatorResume s = .next { s with time := { s.time with oscStopped := false } }) ∧
  (∀ s : State, exec .dstOffsetChange s = .next { s with time := { s.time with dst := s.dstNow } }) ∧
  (∀ s : State, dstLast s ≠ 0 → (dstLast s : Int) - (s.time.cal.secs / 60 : Nat) < 366 * 1440 →
    exec .dstTableLow s = .next (s.raise 0x054 (((dstLast s : Int) - (s.time.cal.secs / 60 : Nat)) / 1440)))

/-- A life-cycle transition blows its fuses and destroys its keys; the fuse commands of the debug port and the
personality. LIFE_CYCLE_TRANSITION to a listed target whose preconditions hold, by a role that may make it, with
every fuse bit reading back: the command runs, the life cycle is the target, DBG_OFF is blown on entering FIELDED or
RETIRED, on entering RETIRED no slot of the key register stays valid, and on none does a key whose lifetime ends
with the life-cycle state; where the preconditions fail it is refused "life cycle" and nothing changes.
CLOSE_DEBUG_PORT in PROVISIONED by Utility or Vendor blows DBG_OFF, and fails with "cannot store" and FUSE_FAULT
with argument 3 where the fuse does not read back. LOCK_PERSONALITY blows the PERS_LOCK bit of the running
personality. Rests on: 04_trust_keys.md, R112, R114, R115, R116. -/
def Obligations.FusesAndLifeCycleCommands : Prop :=
  (∀ (s : State) (r : Req) (arg : Bytes) (o : ObjRow) (g : LifeCycle),
    s.starts r 0xA01001 arg o → lcTarget (leNat arg) = some g → s.lcPre g = some true → s.lcRole r g = true →
    ∃ t : State, exec (.lifeCycleTransition r arg 0) s = .next (t.begins 0xA01001 (s.itemOf r o)) ∧ t.trust.lc = g ∧
      t.trust.sweep ≠ none ∧ (t.trust.dbgOff = (s.trust.dbgOff || g != .provisioned)) ∧
      (g = .retired → ∀ n, (t.slot n).valid = false) ∧ (∀ n, (t.slot n).valid = true → (t.slot n).lifetime ≠ 3)) ∧
  (∀ (s : State) (r : Req) (arg : Bytes) (o : ObjRow) (g : LifeCycle) (stuck : BitVec 4),
    s.starts r 0xA01001 arg o → lcTarget (leNat arg) = some g → s.lcPre g = some false →
    exec (.lifeCycleTransition r arg stuck) s = .next (s.respond r (.abort .lifeCycle))) ∧
  (∀ (s : State) (r : Req) (arg : Bytes) (o : ObjRow),
    s.starts r 0xA01100 arg o → s.trust.lc = .provisioned → 4 ≤ s.roleOf r → leNat arg = 0x4442474F →
    exec (.closeDebugPort r arg true) s =
      .next (({ s with trust := { s.trust with dbgOff := true } }).succeeds r 0xA01100 (s.itemOf r o)) ∧
    exec (.closeDebugPort r arg false) s =
      .next ((s.raise 0x200 3).fails r 0xA01100 (s.itemOf r o) .cannotStore)) ∧
  (∀ (s : State) (r : Req) (arg : Bytes) (o : ObjRow),
    s.starts r 0xA01200 arg o → (s.trust.lc = .provisioned ∨ s.trust.lc = .fielded) → leNat arg = 0x504C434B →
    exec (.lockPersonality r arg true) s = .next (({ s with trust := { s.trust with
        persLock := s.trust.persLock ||| (if s.pwr.ocb then 2 else 1) } }).succeeds r 0xA01200 (s.itemOf r o)) ∧
    exec (.lockPersonality r arg false) s =
      .next ((s.raise 0x200 4).fails r 0xA01200 (s.itemOf r o) .cannotStore))

/-- Imports, derivations, uses of a key, peer digests and meter key records. IMPORT_FLEET_WRAP_KEY outside BLANK with
slot 2 empty and an argument that unwraps leaves the key in slot 2, usage wrap, depth 2, parent 3; IMPORT_KEY and
DERIVE_KEY with a parent handle that passes its checks, a permitted target that is empty, and depth at most 6, put
the key into the target below its parent, use the parent once, and are mirrored; KEY_USE of a handle that passes
runs the operation, uses the slot once and charges the producing account crypto time, of one that does not fails and
changes nothing but the trace, and while the crypto island is in a block reset waits at its crossing (R25); a peer
digest is stored unless another entry holds it; METER_KEY_RECORD_WRITE outside BLANK that nothing refuses stores the
record, is mirrored and answers success. Rests on: 04_trust_keys.md, R118, R119, R120, R124. -/
def Obligations.KeysAreImportedDerivedAndUsed : Prop :=
  (∀ (s : State) (r : Req) (arg : Bytes) (o : ObjRow) (k : Bytes),
    s.starts r 0xA05000 arg o → s.trust.lc ≠ .blank → (s.slot 2).valid = false → s.fleetKey arg = some k →
    exec (.importFleetWrapKey r arg) s = .next ((s.setSlot 2 ⟨mkAttr 3 2 3 (s.slot 2).gen (s.slot 3).gen 0 false, k⟩).succeeds r
      0xA05000 (s.itemOf r o))) ∧
  (∀ (s : State) (r : Req) (arg : Bytes) (o : ObjRow),
    s.starts r 0xA05000 arg o → s.trust.lc ≠ .blank → (s.slot 2).valid = false → s.fleetKey arg = none →
    exec (.importFleetWrapKey r arg) s = .next ((s.raise 0x201 2).fails r 0xA05000 (s.itemOf r o) .valueInvalid)) ∧
  (∀ (s : State) (r : Req) (arg : Bytes) (o : ObjRow) (p : Nat) (k : Bytes),
    s.starts r 0xA05100 arg o → s.trust.lc ≠ .blank → s.keyCheck (fieldAt arg 0 4) .wrap true = .ok p →
    targetOk (fieldAt arg 4 2) (fieldAt arg 6 1) (fieldAt arg 7 1) = true → (s.slot (fieldAt arg 4 2)).valid = false →
    (s.slot p).depth < 6 →
    Config.unwrap (s.slot p).key ([0xA6, 0xA6, 0xA6, 0xA6] ++ beBytes 4 (0x80000000 + fieldAt arg 4 2)) (slice arg 8 40) = some k →
    exec (.importKey r arg) s = .next (((s.placeKey p (fieldAt arg 4 2) (fieldAt arg 6 1) (fieldAt arg 7 1) k).mirror .keyOperation
      0xA05100 arg).succeeds r 0xA05100 (s.itemOf r o))) ∧
  (∀ (s : State) (r : Req) (arg : Bytes) (o : ObjRow) (p : Nat),
    s.starts r 0xA05200 arg o → s.trust.lc ≠ .blank → 1 ≤ fieldAt arg 8 1 → fieldAt arg 8 1 ≤ 32 → fieldAt arg 9 1 ≤ 32 →
    arg.length = 10 + fieldAt arg 8 1 + fieldAt arg 9 1 → s.keyCheck (fieldAt arg 0 4) .derive true = .ok p →
    targetOk (fieldAt arg 4 2) (fieldAt arg 6 1) (fieldAt arg 7 1) = true → (s.slot (fieldAt arg 4 2)).valid = false →
    (s.slot p).depth < 6 →
    exec (.deriveKey r arg) s = .next (((s.placeKey p (fieldAt arg 4 2) (fieldAt arg 6 1) (fieldAt arg 7 1)
      (Config.kdf256 (s.slot p).key (slice arg 10 (fieldAt arg 8 1) ++ [0] ++ slice arg (10 + fieldAt arg 8 1) (fieldAt arg 9 1) ++
        beBytes 2 (fieldAt arg 4 2) ++ beBytes 1 (fieldAt arg 6 1)))).mirror .keyOperation 0xA05200 arg).succeeds r
      0xA05200 (s.itemOf r o))) ∧
  (∀ (s : State) (h : U32) (op : KeyOp) (n : Nat), s.keyCheck h.toNat op false = .ok n → s.isUp 2 = true →
    exec (.keyUse h op) s = .next (((s.producer.2.usedSlot n).chargeOpen 103 s.producer.1 1).emit (.keyUse h none)) ∧ 16 ≤ n ∧ (s.slot n).valid = true ∧
    handleGen h.toNat = (s.slot n).gen ∧ usagePermits (s.slot n).usage op = true) ∧
  (∀ (s : State) (h : U32) (op : KeyOp) (e : KeyErr), s.keyCheck h.toNat op false = .error e → s.isUp 2 = true →
    ∃ x : Option Nat, x ≠ none ∧ exec (.keyUse h op) s = .next (s.emit (.keyUse h x))) ∧
  (∀ (s : State) (h : U32) (op : KeyOp), (s.pwr.islands.getD 2 .held = .quiescing ∨ s.pwr.islands.getD 2 .held = .resetting) →
    exec (.keyUse h op) s = .next { s with pwr := { s.pwr with crossings := s.pwr.crossings ++ [(2, .keyUse h op)] } }) ∧
  (∀ (s : State) (r : Req) (e : Fin 32) (v : Bytes) (o : ObjRow), s.writes r (0xA04001 + e.val) v o →
    s.peerHeld (0xA04001 + e.val) (o.stored v) = false → r.storeOk = true →
    exec (.peerDigestWrite r e v) s = .next ((s.storeObj r (0xA04001 + e.val) o (o.stored v)).respond r (.ok []))) ∧
  (∀ (s : State) (r : Req) (e : Fin 32) (v : Bytes) (o : ObjRow), s.writes r (0xA04001 + e.val) v o →
    s.peerHeld (0xA04001 + e.val) (o.stored v) = true →
    exec (.peerDigestWrite r e v) s = .next (s.respond r (.abort .valueInvalid))) ∧
  (∀ (s : State) (r : Req) (v : Bytes) (o : ObjRow), s.writes r 0xC01001 v o → s.trust.lc ≠ .blank →
    s.keyRecordRefuses (s.handleOf r) (v.drop 2) = none → r.storeOk = true →
    exec (.meterKeyRecordWrite r v) s = .next (((s.storeKeyRecord (s.handleOf r) (v.drop 2)).mirror .keyOperation
      (0xC01001 * 2 ^ 20 + s.handleOf r) (v.drop 2)).respond r (.ok [])) ∧
    tblFind? (s.storeKeyRecord (s.handleOf r) (v.drop 2)).trust.meters (s.handleOf r) = some (v.drop 2))

/-- Invalidation, destruction, the orphan sweep, the change of the fleet wrap key and the fetch of a remote context.
INVALIDATE of a handle that nothing refuses raises the generation of its slot, keeps its key, and runs with the slot
in the sweep; DESTROY zeroizes the slot; the end of the sweep zeroizes every orphan, ends the sweep, raises
KEY_SWEEP with the number zeroized and answers the commands it served; CHANGE_FLEET_WRAP_KEY with an argument that
unwraps answers with the new key in slot 5 and the rewrap running; its end makes slot 5's key slot 2's and empties
slot 5; a remote meter's context that is on chip is fetched no second time, and one that is not is put into the
store, with the handle its key then has. Rests on: 04_trust_keys.md, R121, R122, R125, R127, R181. -/
def Obligations.KeysAreInvalidatedDestroyedAndSwept : Prop :=
  (∀ (s : State) (r : Req) (arg : Bytes) (o : ObjRow), s.starts r 0xA05300 arg o → s.killRefuses (leNat arg) = none →
    ∃ t : State, exec (.invalidate r arg) s = .next ((t.mirror .keyOperation 0xA05300 arg).begins 0xA05300 (s.itemOf r o)) ∧
      t.slot (handleSlot (leNat arg)) = (s.slot (handleSlot (leNat arg))).bumped ∧
      (t.slot (handleSlot (leNat arg))).key = (s.slot (handleSlot (leNat arg))).key ∧
      (∀ n, n ≠ handleSlot (leNat arg) → t.slot n = s.slot n) ∧
      (∃ w, t.trust.sweep = some w ∧ handleSlot (leNat arg) ∈ w.slots ∧ (0xA05300, r) ∈ w.who)) ∧
  (∀ (s : State) (r : Req) (arg : Bytes) (o : ObjRow), s.starts r 0xA05400 arg o → s.killRefuses (leNat arg) = none →
    ∃ t : State, exec (.destroy r arg) s = .next ((t.mirror .keyOperation 0xA05400 arg).begins 0xA05400 (s.itemOf r o)) ∧
      t.slot (handleSlot (leNat arg)) = (s.slot (handleSlot (leNat arg))).zeroized ∧
      (t.slot (handleSlot (leNat arg))).valid = false ∧
      (∀ n, n ≠ handleSlot (leNat arg) → t.slot n = s.slot n) ∧
      (∃ w, t.trust.sweep = some w ∧ handleSlot (leNat arg) ∈ w.slots ∧ (0xA05400, r) ∈ w.who)) ∧
  (∀ (s : State) (w : Sweep), s.trust.sweep = some w →
    ∃ t : State, exec .orphanSweepEnd s = .next (w.who.foldl (fun (u : State) x => u.endCommand x.1 0 (some x.2) none)
        (t.raise 0x202 ((w.zeroized + s.orphans.length : Nat) : Int))) ∧
      t.trust.sweep = none ∧ (∀ n ∈ s.orphans, (t.slot n).valid = false) ∧ (∀ n, n ∉ s.orphans → t.slot n = s.slot n)) ∧
  (∀ s : State, s.trust.sweep = none → exec .orphanSweepEnd s = .next s) ∧
  (∀ (s : State) (r : Req) (arg : Bytes) (o : ObjRow) (k : Bytes), s.starts r 0xA05600 arg o → s.trust.lc ≠ .blank →
    s.fleetKey arg = some k →
    ∃ t : State, exec (.changeFleetWrapKey r arg) s =
        .next (((t.mirror .keyOperation 0xA05600 arg).begins 0xA05600 (s.itemOf r o)).respond r (.ok [])) ∧
      (t.slot 5).key = k ∧ t.trust.rewrap = some none ∧ t.slot 2 = s.slot 2) ∧
  (∀ (s : State) (d : Option Nat), s.trust.rewrap = some d → (s.slot 5).valid = true → (s.slot 3).valid = true → (s.slot 3).parent = rootParent →
    ∃ t : State, exec .rewrapComplete s = .next t ∧ t.trust.rewrap = none ∧ t.trust.fleetEpoch = (s.trust.fleetEpoch + 1) % 65536 ∧ (t.slot 2).key = (s.slot 5).key ∧
      (t.slot 2).valid = true ∧ (t.slot 5).valid = false ∧ (t.cmdSt 0xA05600 0).1 = 2) ∧
  (∀ (s : State) (h : Handle), (s.ctxOf h.toNat).isSome = true → exec (.remoteContextFetch h) s = .next s) ∧
  (∀ (s : State) (h : Handle) (c : Ctx), s.remoteServed h.toNat = true → s.allows 1 2 = true → s.ctxOf h.toNat = none →
    tblFind? s.acc.ctxMem h.toNat = some c → s.acc.ctx.length < 16384 →
    ∃ t : State, exec (.remoteContextFetch h) s = .next t ∧
      (∃ d, t.ctxOf h.toNat = some d ∧ d = { c with keyHandle := d.keyHandle }) ∧
      t.acc.cache = h.toNat :: s.acc.cache ∧ t.acc.journal = s.acc.journal)

/-- A nonce starts a statement, and the finished statement is signed over the payload. ATTESTATION_REQUEST with a nonce
is answered at once, the command runs, and the nonce is kept; when the statement is done it is the COSE_Sign1
statement over the payload of that nonce, the command is done and no nonce is kept; with no nonce kept nothing
changes. Rests on: 04_trust_keys.md, R130. -/
def Obligations.AttestationProducesAStatement : Prop :=
  (∀ (s : State) (r : Req) (arg : Bytes) (o : ObjRow), s.starts r 0xA03001 arg o →
    exec (.attestationRequest r arg) s = .next ((({ s with trust := { s.trust with attNonce := some arg } }).begins 0xA03001
      (s.itemOf r o)).respond r (.ok []))) ∧
  (∀ (s : State) (n : Bytes), s.trust.attNonce = some n →
    ∃ t : State, exec .attestationDone s = .next t ∧ t.trust.statement = s.attStatement n ∧ t.trust.attNonce = none ∧
      (t.cmdSt 0xA03001 0).1 = 2 ∧ t = { s with trust := { s.trust with statement := t.trust.statement, attNonce := none },
                                                dict := { s.dict with cmd := t.dict.cmd } }) ∧
  (∀ s : State, s.trust.attNonce = none → exec .attestationDone s = .next s)

/-- A frame is accepted at most once: an accepted frame is journalled once, its counter is higher than any accepted
before, and nothing else is journalled. Over every state and offer: acceptance that answers accepted leaves in the
journal what it held, but for the moments from which ages count, and one open entry of the frame's meter and digest
under the next sequence, which then goes up by one; with every other answer the journal and the next sequence are as
before. A frame accepted by its counter from a meter whose context is on chip and holds a valid counter has a higher
counter, and the context then holds that counter and the frame's digest. Where no power-fail warning holds,
admission is open, the context is on chip and not remote, the key and the check hold, the key version is not older,
the counter is fresh and the journal takes entries, the frame is accepted. Rests on: 07_acceptance.md, R183, R184,
R186, R189. -/
def Obligations.AcceptanceJournalsEachFrameOnce : Prop :=
  (∀ (s : State) (o : Offer), (s.accept o).1 = .accepted →
    (∃ e : JEntry, (s.accept o).2.acc.journal.map (fun x => { x with born := 0 }) =
        s.acc.journal.map (fun x => { x with born := 0 }) ++ [e] ∧ e.seq = s.acc.nextSeq ∧ e.handle = o.handle ∧
      e.digest = o.digest ∧ e.isOpen = true) ∧
    (s.accept o).2.acc.nextSeq = s.acc.nextSeq + 1) ∧
  (∀ (s : State) (o : Offer), (s.accept o).1 ≠ .accepted →
    (s.accept o).2.acc.journal = s.acc.journal ∧ (s.accept o).2.acc.nextSeq = s.acc.nextSeq) ∧
  (∀ (s : State) (o : Offer) (n : U32) (c : Ctx), o.rule = .counter n → s.ctxOf o.handle = some c → c.counterValid = true →
    (s.accept o).1 = .accepted → c.counter < n) ∧
  (∀ (s : State) (o : Offer) (n : U32) (c : Ctx), o.rule = .counter n → s.ctxOf o.handle = some c →
    (s.accept o).1 = .accepted →
    ∃ d : Ctx, (s.accept o).2.ctxOf o.handle = some d ∧ d.counter = n ∧ d.counterValid = true ∧ d.digest = o.digest) ∧
  (∀ (s u v w : State) (o : Offer) (c : Ctx) (key body : Bytes) (n : U32), s.pwr.pfw = false → s.admitInput o.src = (true, u) →
    u.ctxOf o.handle = some c → c.remote = false → o.rule ≠ .unsecured → u.offerKey o = (some key, v) →
    w = v.chargeOpen 93 1 1 → o.verify key = some body → c.keyVersion.toNat ≤ w.keyVersionOf o.handle →
    w.judge c o.digest o.rule = .fresh n → w.acc.closed = false → s.accept o = (.accepted, w.acceptFresh o c key n body))

/-- The invocation counter of a ciphered APDU is judged once against its meter's context. The frame of a journal entry
already judged keeps its verdict (the model's choice, log entry 55). One without a ciphered APDU, an unsecured one,
and one of wired M-Bus or RS-485 is not discarded and changes nothing. Otherwise a counter that does not exceed the
context's discards it, counts an invocation replay, raises INVOCATION_REPLAY with the meter handle and leaves the
entry without further effect; a higher one is taken into the context and nothing else in it changes. Rests on:
07_acceptance.md, R187, R199, R200. -/
def Obligations.InvocationCountersJudgeApdus : Prop :=
  (∀ (s : State) (q : U64) (e : JEntry) (ok : Bool), s.entryOf q = some e → e.apdu = some ok → s.judgeApdu q = (!ok, s)) ∧
  (∀ (s : State) (q : U64), s.entryOf q = none → s.judgeApdu q = (false, s)) ∧
  (∀ (s : State) (q : U64) (e : JEntry), s.entryOf q = some e → e.apdu = none →
    (e.unsecured = true ∨ countsApdus e.link = true) → s.judgeApdu q = (false, s)) ∧
  (∀ (s : State) (q : U64) (e : JEntry) (c : Ctx), s.entryOf q = some e → e.apdu = none → e.unsecured = false →
    countsApdus e.link = false → s.ctxOf e.handle = some c → c.remote = false →
    s.judgeApdu q = (match Config.apduCounter e.payload with
      | none => (false, s)
      | some n => s.apduVerdict e c n)) ∧
  (∀ (s : State) (e : JEntry) (c : Ctx) (n : U32), s.entryOf e.seq = some e → s.ctxOf e.handle = some c → c.remote = false → n ≤ c.invoc →
    ∃ u : State, s.apduVerdict e c n = (true, u.raise 0x0C3 e.handle) ∧ u.entryOf e.seq = some { e with apdu := some false, effected := true } ∧
      u.ctxOf e.handle = some { c with invReplays := satInc c.invReplays } ∧
      u = { s with acc := { s.acc with journal := u.acc.journal, ctx := u.acc.ctx } }) ∧
  (∀ (s : State) (e : JEntry) (c : Ctx) (n : U32), s.entryOf e.seq = some e → s.ctxOf e.handle = some c → c.remote = false → c.invoc < n →
    ∃ u : State, s.apduVerdict e c n = (false, u) ∧ u.entryOf e.seq = some { e with apdu := some true } ∧
      u.ctxOf e.handle = some { c with invoc := n } ∧
      u = { s with acc := { s.acc with journal := u.acc.journal, ctx := u.acc.ctx } })

/-- Native frames reach acceptance, joins are paced and answered, and acknowledgements leave once. NATIVE_FRAME_RX on a
port that runs the native generation, that is not muted, of a frame other than a beacon or an acknowledgement that
passes the port's checks under the partner's key on a unit that takes frames, and that acceptance accepts in time,
leaves its acknowledgement waiting at the port; while an island of the path is held a native frame or join request
waits at its source; a port without the native generation, or muted while it transmits, leaves all as it is.
JOIN_REQUEST under the network key within the pacing is acknowledged, counted against the pacing and its response is
due, and acceptance is not touched; the response without a valid key record is status 1 under the network key,
leaves when its frame can start and stays due when it cannot. An acknowledgement that waits for no decision is
driven, sent, counted and taken out of its queue where the unit's transmitter on the port is its own, on a native
power-line or S-FSK port once the tracker has been LOCKED since reset and on a native radio port once it beacons; a
native power-line one before that, or where the transmitter is not the unit's own, is dropped (log entry 58); with
none due nothing changes. Rests on: 05_powerline.md, 06_radio.md, 07_acceptance.md, R25, R33, R38, R141, R144, R170,
R175, R184, R485. -/
def Obligations.NativeFramesAreTakenAndAcknowledged : Prop :=
  (∀ (s u : State) (p : Fin 24) (b : Bytes) (rx : Rx) (f : NFrame), s.pathRuns = true → s.isNative p.val = true →
    s.deaf p.val rx = false → fieldAt b 0 1 / 32 ≠ 1 → fieldAt b 0 1 / 32 ≠ 2 → s.screenNative p.val b rx = (some f, u) →
    u.takesFrames = true → f.keyIndex ≠ 1 → (u.accept (nativeOffer p.val f rx (u.erasures p.val rx))).1 = .accepted → rx.late = false →
    ∃ t a, exec (.nativeFrameRx p b rx) s = .next (t.ackDue p.val a) ∧ a.handle = f.handle ∧ a.gen = nativeGen p.val ∧
      t = (u.accept (nativeOffer p.val f rx (u.erasures p.val rx))).2.learnDrift p.val f.handle rx) ∧
  (∀ (s : State) (p : Fin 24) (b : Bytes) (rx : Rx), s.pathRuns = false →
    exec (.nativeFrameRx p b rx) s =
      .next (s.holdFrame (p.val + 1) (nativeGen p.val) p.val { handle := 0, counter := 0, bytes := b } rx) ∧
    exec (.joinRequest p b rx) s =
      .next (s.holdFrame (p.val + 1) (nativeGen p.val) p.val { handle := 0, counter := 0, bytes := b } rx)) ∧
  (∀ (s : State) (p : Fin 24) (b : Bytes) (rx : Rx), s.pathRuns = true → (s.isNative p.val = false ∨ s.deaf p.val rx = true) →
    exec (.nativeFrameRx p b rx) s = .next s ∧ exec (.joinRequest p b rx) s = .next s) ∧
  (∀ (s u : State) (p : Fin 24) (b : Bytes) (rx : Rx) (f : NFrame) (n : Nat) (body rest : Bytes), s.pathRuns = true →
    s.isNative p.val = true → s.deaf p.val rx = false → fieldAt b 0 1 / 32 ≠ 1 → fieldAt b 0 1 / 32 ≠ 2 →
    s.screenNative p.val b rx = (some f, u) → u.takesFrames = true → f.keyIndex = 1 → f.type = 3 →
    (u.fport p.val).joins < u.joinLimit p.val → u.isUp 2 = true → u.keyCheck (u.netKey p.val) .ccm false = .ok n →
    f.content (u.slot n).key = some body → nativeMac f body = some (1, rest) → rx.late = false →
    ∃ t : State, exec (.joinRequest p b rx) s = .next t ∧ (t.fport p.val).joins = (u.fport p.val).joins + 1 ∧
      (t.fport p.val).acks.length = (u.fport p.val).acks.length + 1 ∧
      t.field.joinDue = u.field.joinDue ++ [(p.val, f.handle, fieldAt rest 0 1)] ∧ t.acc = u.acc) ∧
  (∀ (s u : State) (p : Fin 24) (h wake : Nat), s.field.joinDue.find? (fun x => x.1 == p.val) = some (p.val, h, wake) →
    s.keyVersionOf h = 0 → u = { s with field := { s.field with joinDue := s.field.joinDue.erase (p.val, h, wake) } } →
    (∀ t, u.sendCommand p.val h 2 [1] true = some t → exec (.joinResponse p) s = .next t) ∧
    (u.sendCommand p.val h 2 [1] true = none → exec (.joinResponse p) s = .next (s.commandWaits p.val h 2))) ∧
  (∀ (s : State) (p : Fin 24), s.field.joinDue.find? (fun x => x.1 == p.val) = none → exec (.joinResponse p) s = .next s) ∧
  (∀ (s : State) (p : Fin 12) (a : AckDue), (s.fport p.val).acks.find? (fun a => a.gen == 4) = some a → a.wait = none →
    s.time.everLocked = true → s.lineOurs p.val = true →
    exec (.nativePlcAckTx p) s = .next (((((s.setFport p.val (fun x => { x with acks := x.acks.erase a })).drive p.val 4).emit
      (.field p.val a.bytes)).bumpPort p.val 3).bumpPort p.val 9)) ∧
  (∀ (s : State) (p : Fin 12) (a : AckDue), (s.fport (p.val + 12)).acks.find? (fun a => a.gen == 8) = some a → a.wait = none →
    (s.fport (p.val + 12)).began = true → s.lineOurs (p.val + 12) = true →
    exec (.nativeRadioAckTx p) s = .next ((((((s.setFport (p.val + 12) (fun x => { x with acks := x.acks.erase a })).drive
      (p.val + 12) 8).emit (.field (p.val + 12) a.bytes)).countAir (p.val + 12)
        (airtime (s.pcfg (p.val + 12) 3 2) a.bytes.length)).bumpPort (p.val + 12) 3).bumpPort (p.val + 12) 9)) ∧
  (∀ (s : State) (p : Fin 12), (s.fport p.val).acks = [] → exec (.nativePlcAckTx p) s = .next s ∧
    exec (.ocbAckTx p) s = .next s) ∧
  (∀ (s : State) (p : Fin 24) (a : AckDue),
    (s.fport p.val).acks.find? (fun a => a.gen != 4 && a.gen != 8 && a.gen != 5) = some a → a.wait = none →
    s.lineOurs p.val = true →
    exec (.standardAckTx p) s = .next (((((s.setFport p.val (fun x => { x with acks := x.acks.erase a })).drive p.val
      a.gen).emitStdAck p.val a).bumpPort p.val 3).bumpPort p.val 9)) ∧
  (∀ (s : State) (p : Fin 12) (a : AckDue), (s.fport p.val).acks.find? (fun a => a.gen == 5) = some a → a.wait = none →
    s.time.everLocked = true → s.lineOurs p.val = true →
    exec (.ocbAckTx p) s = .next (((((s.setFport p.val (fun x => { x with acks := x.acks.erase a })).drive p.val 5).emit
      (.stdAck p.val 5 a.handle a.link)).bumpPort p.val 3).bumpPort p.val 9)) ∧
  (∀ (s : State) (p : Fin 12) (a : AckDue), (s.fport p.val).acks.find? (fun a => a.gen == 4) = some a → a.wait = none →
    (s.time.everLocked = false ∨ s.lineOurs p.val = false) →
    exec (.nativePlcAckTx p) s = .next (s.setFport p.val (fun x => { x with acks := x.acks.erase a })))

/-- Decided MAC commands, downlink frames and their acknowledgements, link ageing and the reseed after blanking. A
decided neighbour report of right form replaces the links it reports; one of wrong form is counted; a decided phase
report votes, with the offset from the slot offset of the last beacon sent, for the partner's and the member's
phase; a resynchronised partner is synchronised with no downlink unacknowledged and a timing hint due; an unknown
command is counted; a due slot assignment or timing hint that can be sent is sent and is no longer due; path
selection takes each due frame in turn; the head of a partner's queue leaves by its generation, a native one in a
slot that is open to it, one of S-FSK once the tracker has been LOCKED; an acknowledgement of right form for the
station updates the link it came over, and a downlink whose acknowledgement verifies under the partner's key leaves
the queue and is noted as acknowledged; the third timeout in a row (on radio of frames sent in the home slot) marks
the partner unsynchronised and raises 0x081; links not refreshed for 24 h go; a reseed on a port that blanks and
does not mute sets the running RMS and is counted. Rests on: 05_powerline.md, 06_radio.md, R119, R142, R146, R147,
R148, R149, R151, R166, R171, R173. -/
def Obligations.MacCommandsAndDownlinks : Prop :=
  (∀ (s u : State) (p : Fin 12) (m : MacCmd), s.takeMac p.val (· == 3) = (some m, u) → fieldAt m.body 0 1 ≤ 8 →
    m.body.length = 1 + 11 * fieldAt m.body 0 1 → exec (.neighbourReport p) s = .next (u.neighbours m.handle m.body)) ∧
  (∀ (s u : State) (p : Fin 12) (m : MacCmd), s.takeMac p.val (· == 3) = (some m, u) → 8 < fieldAt m.body 0 1 →
    exec (.neighbourReport p) s = .next (u.bumpPort p.val 0x0B)) ∧
  (∀ (s u : State) (p : Fin 12) (m : MacCmd) (c : Cycle) (o off : Int), s.takeMac p.val (· == 4) = (some m, u) →
    (s.fport p.val).lastBeacon = some (c, o) →
    off = (o - toSigned 32 (fieldAt m.body 0 4)) % max 1 ((s.time.period : Int) / 1000) →
    exec (.phaseReport p) s =
      .next ((u.votePhase p.val m.handle (some c) off).inferPhase m.handle (some c) off (s.pcfg p.val 6 0x0B))) ∧
  (∀ (s u : State) (p : Fin 24) (m : MacCmd) (x : Partner), s.takeMac p.val (· == 5) = (some m, u) → u.partner m.handle = some x →
    ∃ t : State, exec (.resynchronised p) s = .next t ∧
      t.partner m.handle = some { x with sync := 1, unacked := 0, hintDue := true, draining := !x.queue.isEmpty } ∧
      t = { u with field := { u.field with partners := t.field.partners } }) ∧
  (∀ (s u : State) (p : Fin 24) (m : MacCmd), s.takeMac p.val (fun c => !knownCode p.val c) = (some m, u) →
    exec (.unknownCommand p) s = .next (u.bumpPort p.val (fmtCounter p.val))) ∧
  (∀ (s t : State) (p : Fin 12) (h : Nat) (x : Partner) (a : Nat × Nat × Nat × Nat),
    s.field.partners.find? (fun x => x.2.port == p.val + 12 && x.2.assignDue) = some (h, x) → x.slot = some a →
    (s.setPartner h (fun y => { y with assignDue := false })).sendCommand (p.val + 12) h 6
      (leBytes 1 a.1 ++ leBytes 1 a.2.1 ++ leBytes 1 a.2.2.1 ++ leBytes 1 a.2.2.2) false = some t →
    exec (.slotAssignmentTx p) s = .next t) ∧
  (∀ (s t : State) (p : Fin 24) (h : Nat) (x : Partner),
    s.field.partners.find? (fun x => x.2.port == p.val && x.2.hintDue) = some (h, x) →
    (s.setPartner h (fun y => { y with hintDue := false })).sendCommand p.val h 7
      (leBytes 4 (ofSigned 32 x.err) ++ leBytes 2 (min 65535 (2 * x.drift)) ++ [1]) false = some t →
    exec (.timingHintTx p) s = .next t) ∧
  (∀ (s : State) (p : Fin 12) (h : Handle) (j : Fin 8) (step : Nat),
    exec (.pathSelection p [(h, j, step)]) s = .next (s.choosePath p.val h.toNat j.val step) ∧
    exec (.pathSelection p []) s = .next s) ∧
  (∀ (s u : State) (p : Fin 24) (h : Handle) (c : Bytes) (x : Partner) (d : Down) (rest : List Down),
    s.mayTransmit p.val = true → u = (s.takePortItem p.val c).showResults → u.partner h.toNat = some x → x.queue = d :: rest → x.port = p.val →
    (∀ (path : List Nat) (span : Nat), u.isNative p.val = true → u.routeTo p.val h.toNat = some (path, span) →
      (u.fport p.val).began = true → x.sync ≠ 2 → x.unreachable = false → u.slotOpen p.val span (some x) = true →
      exec (.downlinkFrameTx p h c) s = .next (u.sendHead p.val h.toNat path x d)) ∧
    (u.isNative p.val = false → (x.gen ≠ 5 ∨ u.time.everLocked = true) → exec (.downlinkFrameTx p h c) s =
      .next (u.sendStd p.val h.toNat x d rest))) ∧
  (∀ (s : State) (p : Fin 24) (h : Handle) (c : Bytes), s.mayTransmit p.val = false → exec (.downlinkFrameTx p h c) s = .next s) ∧
  (∀ (s u v : State) (p : Fin 24) (b : Bytes) (rx : Rx) (x : Partner) (c : Nat) (f key : Bytes), s.pathRuns = true →
    s.isNative p.val = true → s.takesFrames = true → s.deaf p.val rx = false → fieldAt b 0 1 / 32 = 1 →
    s.partner (fieldAt b 3 3 % 2 ^ 20) = some x → x.flight = some (c, f) → x.port = p.val →
    s.screenAck p.val b rx = (true, v) → fieldAt b (6 + 3 * (fieldAt b 0 1 / 4 % 4)) 4 = c →
    v.lineMeterKey none (fieldAt b 3 3 % 2 ^ 20) .cmac = (some key, u) →
    slice b (6 + 3 * (fieldAt b 0 1 / 4 % 4) + (if isRf p then 7 else 4)) 8 =
      ackMic key (s.station p.val) (fieldAt b 3 3 % 2 ^ 20)
        (slice b (6 + 3 * (fieldAt b 0 1 / 4 % 4)) (if isRf p then 7 else 4)) (f.drop (f.length - 16)) →
    exec (.downlinkAckRx p ⟨b, rx⟩) s = .next (u.downDone (fieldAt b 3 3 % 2 ^ 20))) ∧
  (∀ (s : State) (p : Fin 24) (b : Bytes) (rx : Rx), (isRf p.val = true ∨ s.impulseDrops p.val rx = false) →
    fieldAt b 1 2 ≠ 0 → fieldAt b 1 2 = s.station p.val → fieldAt b 0 1 / 4 % 4 ≠ 3 →
    b.length = 6 + 3 * (fieldAt b 0 1 / 4 % 4) + (if isRf p.val then 15 else 12) →
    (isRf p.val = true → fieldAt b 0 1 / 4 % 4 = 0) →
    s.screenAck p.val b rx = (true, (s.heard p.val rx).linkHeard p.val b (s.ackUp p.val b) rx)) ∧
  (∀ (s : State) (h : Nat) (x : Partner) (d : Down) (rest : List Down), s.partner h = some x → x.queue = d :: rest →
    (s.downDone h).partner h = some { x with
      queue := rest, flight := none, unacked := 0, draining := x.draining && !rest.isEmpty } ∧
    (s.downDone h).field.acked = (h, d.ref) :: s.field.acked) ∧
  (∀ (s : State) (p : Fin 24) (h : Handle) (x : Partner), s.partner h.toNat = some x → x.port = p.val → x.flight ≠ none →
    x.sync ≠ 2 → (isRf p.val = false ∨ x.inHome = true) →
    (x.unacked < 2 → exec (.downlinkAckTimeout p h) s =
      .next (s.setPartner h.toNat (fun y => { y with unacked := y.unacked + 1 }))) ∧
    (2 ≤ x.unacked → ∃ t : State, exec (.downlinkAckTimeout p h) s = .next (t.raise 0x081 h.toNat) ∧
      t.partner h.toNat = some { x with unacked := x.unacked + 1, sync := 2 })) ∧
  (∀ (s : State) (p : Fin 24) (h : Handle) (x : Partner), s.partner h.toNat = some x → isRf p.val = true → x.inHome = false →
    exec (.downlinkAckTimeout p h) s = .next s) ∧
  (∀ s : State, exec .linkAgeing s = .next { s with field := { s.field with
    links := s.field.links.filter (fun x => decide (s.time.net < x.2.fresh + 86400000000000)) } }) ∧
  (∀ (s : State) (p : Fin 12) (rms : U16), s.pcfg p.val 3 1 ≠ 0 → (s.fport p.val).muteTo ≤ s.time.net →
    ∃ t : State, exec (.blankingReseed p rms) s = .next (t.bumpPort p.val 8) ∧
    (t.fport p.val).rms = rms.toNat ∧ t = { s with field := { s.field with ports := t.field.ports } })

/-- Beacons start, are sent and are supervised; set_cycle broadcasts and the end of the quiet start. NATIVE_BEACON_START
on a native port of a unit that takes frames with the tracker LOCKED lets the port beacon, RADIO_BEACON_START where
network time is LOCKED or legal time trusted, with start beacons in its first superframe; on a port that may
transmit and beacons, the beacon commands send one beacon under the network key in a beacon cycle or second, and
count it, a radio port not in a slot that a step of time makes it skip and once a second at most; a Standby that
misses the third beacon in a row raises 0x082 and tells the partner its suspicion; SUN_BEACON_TX sends a beacon with
the PAN identifier, BO, SO and the pending address list, which announces those partners, and counts it; set_cycle
carries the cycle number with hops 0; QUIET_START_END ends the quiet start and reaches phase 6. Rests on:
05_powerline.md, 06_radio.md, R119, R145, R153, R160, R169, R174, R175, R176, R202, R420. -/
def Obligations.BeaconsAndStartUpOfFieldPorts : Prop :=
  (∀ (s : State) (p : Fin 12), s.isNative p.val = true → s.takesFrames = true → s.time.tracker = .locked →
    exec (.nativeBeaconStart p) s = .next (s.setFport p.val (fun x => { x with began := true }))) ∧
  (∀ (s : State) (p : Fin 12), s.time.tracker ≠ .locked → exec (.nativeBeaconStart p) s = .next s) ∧
  (∀ (s : State) (p : Fin 12), s.isNative (p.val + 12) = true → s.takesFrames = true →
    (s.time.sync = .locked ∨ s.time.untrusted = false) → (s.fport (p.val + 12)).began = false →
    exec (.radioBeaconStart p) s = .next (s.setFport (p.val + 12) (fun x => { x with
      began := true
      startSf := some ((s.time.net + 999999999) / 1000000000 / 2 ^ s.pcfg (p.val + 12) 6 2)
      firstSf := some ((s.time.net + 999999999) / 1000000000 / 2 ^ s.pcfg (p.val + 12) 6 2) }))) ∧
  (∀ (s : State) (p : Fin 12) (n : Nat), s.isNative p.val = true → s.mayTransmit p.val = true → (s.fport p.val).began = true →
    s.time.cycle.toNat % 2 ^ s.pcfg p.val 6 2 = 0 → s.isUp 2 = true →
    s.keyCheck (s.netKey p.val) .ccm false = .ok n →
    exec (.plcBeaconTx p) s = .next ((((s.usedSlot n).chargeKey none).transmit p.val (s.plcBeacon p.val (s.slot n).key)).setFport p.val (fun x =>
      { x with beacons := x.beacons + 1, lastBeacon := some (s.time.cycle, s.slotOffset p.val) }))) ∧
  (∀ (s : State) (p : Fin 12), s.time.cycle.toNat % 2 ^ s.pcfg p.val 6 2 ≠ 0 → exec (.plcBeaconTx p) s = .next s) ∧
  (∀ (s : State) (p : Fin 12) (n : Nat), s.isNative (p.val + 12) = true → s.mayTransmit (p.val + 12) = true →
    (s.fport (p.val + 12)).began = true →
    (s.time.net / 1000000000 % 2 ^ s.pcfg (p.val + 12) 6 2 = 0 ∨ (s.fport (p.val + 12)).startSf = some (s.superframe (p.val + 12)) ∨
      (s.fport (p.val + 12)).firstSf = some (s.superframe (p.val + 12))) →
    s.slotKept = true → (s.fport (p.val + 12)).beaconSecs.contains (s.time.net / 1000000000) = false →
    s.isUp 2 = true → s.keyCheck (s.netKey (p.val + 12)) .ccm false = .ok n →
    exec (.radioBeaconTx p) s = .next ((((s.usedSlot n).chargeKey none).transmit (p.val + 12)
      (s.radioBeacon (p.val + 12) (s.slot n).key)).setFport (p.val + 12)
      (fun x => { x with beacons := x.beacons + 1, beaconSecs := s.time.net / 1000000000 :: x.beaconSecs }))) ∧
  (∀ (s : State) (p : Fin 12), (s.fport (p.val + 12)).beaconSecs.contains (s.time.net / 1000000000) = true →
    exec (.radioBeaconTx p) s = .next s) ∧
  (∀ (s : State) (p : Fin 12), s.pcfg (p.val + 12) 0 1 = 2 → s.mayTransmit (p.val + 12) = true →
    ∃ t : State, exec (.sunBeaconTx p) s = .next t ∧ (t.fport (p.val + 12)).beacons = (s.fport (p.val + 12)).beacons + 1 ∧
      t.out.head? = some (.sunBeacon (p.val + 12) (s.pcfg (p.val + 12) 5 1) (s.pcfg (p.val + 12) 5 2)
        (s.pcfg (p.val + 12) 5 3) (s.sunPending (p.val + 12))) ∧
      ∀ h ∈ s.sunPending (p.val + 12), ∃ x, t.partner h = some x ∧ x.announced = true) ∧
  (∀ (s : State) (p : Fin 12), (s.pcfg p.val 1 1 = 1 ∨ s.pcfg p.val 1 1 = 2 ∨ s.pcfg p.val 1 1 = 3) → s.mayTransmit p.val = true →
    (s.time.tracker = .locked ∨ s.time.tracker = .holdover) →
    exec (.setCycleBroadcast p) s =
      .next ((((s.drive p.val (s.pcfg p.val 1 1)).emit (.setCycle p.val s.time.cycle 0)).bumpPort p.val 9).setFport p.val
        (fun x => { x with lastSet := some s.time.cycle }))) ∧
  (∀ (s : State) (p : Fin 24), s.isStandby = true → s.isNative p.val = true →
    ((s.fport p.val).missed + 1 ≠ 3 → exec (.activeBeaconMissed p) s =
      .next (s.setFport p.val (fun x => { x with missed := (s.fport p.val).missed + 1 }))) ∧
    ((s.fport p.val).missed = 2 → ∃ t u : State, exec (.activeBeaconMissed p) s = .next t ∧
      t = { (u.raise 0x082 ((if isRf p.val then p.val - 12 else p.val : Nat) : Int)) with
            pair := { s.pair with suspicions := s.pair.suspicions + 1 } } ∧
      (u.fport p.val).missed = 3 ∧ u.pair = s.pair)) ∧
  (∀ (s : State) (p : Fin 24), s.isStandby = false → exec (.activeBeaconMissed p) s = .next s) ∧
  (∀ s : State, ∃ t : State, exec .quietStartEnd s = .next t ∧ t.pwr.quiet = false ∧ t.pwr.phase = max s.pwr.phase 6 ∧
    t = { s with pwr := t.pwr })

/-- Frames of the standard generations, paced joins, group re-keying, held inputs, a stuck journal, forwarding and
removal. While the path runs, a G3-PLC, PRIME, Wireless M-Bus, SUN FSK or OCB frame on a port that runs its
generation, and its profile, link mode or security level, goes to acceptance under the key and the counter rule of
its standard; an accepted one leaves its acknowledgement due. While the path does not run the frame waits at its
source. Joins on a unit that takes frames are paced: beyond the limit of the period they are only counted, within it
they join the partner and are answered, a G3-PLC one with the newest group key under the partner's own key, a
Wireless M-Bus one by the acceptance of its frame, a SUN FSK one by a response queued for indirect sending. The end
of a group key change sends under the new key index. The oldest input held at a field port is discarded at its
deadline and counted; no other source discards by a deadline. An entry older than the stuck age raises JOURNAL_STUCK
once per episode. A forwarding request is answered with one result per record once none waits. A removed partner is
a partner no more, and has neither context nor key slot. Rests on: 05_powerline.md, 06_radio.md, 07_acceptance.md,
R25, R140, R154, R161, R162, R163, R175, R197, R452. -/
def Obligations.StandardGenerationsJoinsAndForwarding : Prop :=
  (∀ (s : State) (p : Fin 12) (f : StdFrame) (l : WMode) (rx : Rx) (k : Nat), s.pathRuns = true →
    ((s.pcfg p.val 1 1 = 1 ∨ s.pcfg p.val 1 1 = 2) → s.stdPortOk p.val (s.pcfg p.val 1 1) = true → s.deaf p.val rx = false →
      s.g3Key p.val f.mode = some k →
      exec (.g3FrameRx p f rx) s = .next (s.acceptStd p.val (s.pcfg p.val 1 1) (some k) (.counter f.counter) true f rx)) ∧
    (s.stdPortOk p.val 3 = true → s.deaf p.val rx = false → f.mode = s.pcfg p.val 5 3 → exec (.primeFrameRx p f rx) s =
      .next (s.acceptStd p.val 3 (some (s.pcfg p.val 5 4)) (.counter f.counter) true f rx)) ∧
    (s.stdPortOk (p.val + 12) 6 = true → s.pcfg (p.val + 12) 4 1 / 2 ^ l.bit % 2 = 1 → f.mode = 7 →
      exec (.wmbusFrameRx p f l rx) s = .next ((s.setPartner f.handle.toNat (fun x => { x with
        bidi := l.bidi, link := some l })).acceptStd
        (p.val + 12) 6 none (.counter f.counter) (l.bidi && s.pcfg (p.val + 12) 4 5 == 1) (inMode f l) rx)) ∧
    (s.stdPortOk (p.val + 12) 6 = true → s.pcfg (p.val + 12) 4 1 / 2 ^ l.bit % 2 = 0 →
      exec (.wmbusFrameRx p f l rx) s = .next s) ∧
    (s.stdPortOk (p.val + 12) 7 = true → f.mode = s.pcfg (p.val + 12) 5 6 → exec (.sunFrameRx p f rx) s =
      .next (s.acceptStd (p.val + 12) 7 (some (s.pcfg (p.val + 12) 5 5)) (.counter f.counter) true f rx)) ∧
    (∀ b : Bytes, exec (.ocbLpduRx p b rx) s = .next (s.ocbRx p.val b rx))) ∧
  (∀ (s : State) (p gen : Nat) (key : Option Nat) (rule : CountRule) (f : StdFrame) (rx : Rx),
    (isRf p = true ∨ s.impulseDrops p rx = false) → (s.heard p rx).takesFrames = true → rx.late = false →
    ((s.heard p rx).accept (stdOffer p gen key rule f rx ((s.heard p rx).erasures p rx))).1 = .accepted →
    ∃ a : AckDue, s.acceptStd p gen key rule true f rx =
      ((s.heard p rx).accept (stdOffer p gen key rule f rx ((s.heard p rx).erasures p rx))).2.ackDue p a ∧ a.handle = f.handle.toNat ∧ a.gen = gen) ∧
  (∀ (s : State) (p : Fin 12) (f : StdFrame) (l : WMode) (rx : Rx), s.pathRuns = false →
    exec (.g3FrameRx p f rx) s = .next (s.holdFrame (p.val + 1) (s.pcfg p.val 1 1) p.val f rx) ∧
    exec (.primeFrameRx p f rx) s = .next (s.holdFrame (p.val + 1) 3 p.val f rx) ∧
    exec (.wmbusFrameRx p f l rx) s = .next (s.holdFrame (p.val + 12 + 1) 6 (p.val + 12) (inMode f l) rx) ∧
    exec (.sunFrameRx p f rx) s = .next (s.holdFrame (p.val + 12 + 1) 7 (p.val + 12) f rx)) ∧
  (∀ (s t : State) (p : Fin 12) (h : Handle), s.pathRuns = true → s.takesFrames = true → s.mayTransmit p.val = true →
    (s.pcfg p.val 1 1 = 3 → s.joinLimit p.val ≤ (s.fport p.val).joins →
      exec (.primeRegistration p h) s = .next ((s.bumpPort p.val 1).bumpPort p.val 7)) ∧
    (s.pcfg p.val 1 1 = 3 → (s.fport p.val).joins < s.joinLimit p.val →
      ((s.bumpPort p.val 1).setFport p.val (fun x => { x with joins := x.joins + 1 })).joinPartner p.val h.toNat 3 = some t →
      exec (.primeRegistration p h) s = .next (((t.drive p.val 3).emit (.stdAck p.val 3 h.toNat none)).bumpPort p.val 9)) ∧
    (s.pcfg p.val 1 2 = 1 → (s.fport p.val).joins < s.joinLimit p.val →
      ((s.bumpPort p.val 1).setFport p.val (fun x => { x with joins := x.joins + 1 })).joinPartner p.val h.toNat 5 = some t →
      t.time.everLocked = true →
      exec (.sfskDiscovery p h) s = .next (((t.drive p.val 5).emit (.stdAck p.val 5 h.toNat none)).bumpPort p.val 9)) ∧
    (∀ u : State, (s.pcfg p.val 1 1 = 1 ∨ s.pcfg p.val 1 1 = 2) → s.partner h.toNat = none → (s.fport p.val).joins < s.joinLimit p.val →
      ((s.bumpPort p.val 1).setFport p.val (fun x => { x with joins := x.joins + 1 })).joinPartner p.val h.toNat (s.pcfg p.val 1 1) = some t →
      t.giveGroupKey p.val h.toNat (s.fport p.val).newIndex = some u →
      exec (.g3LbpJoin p h) s = .next (u.bumpPort p.val 9))) ∧
  (∀ (s t : State) (p : Fin 12) (h : Handle) (f : StdHeard), s.pathRuns = true → s.takesFrames = true →
    s.mayTransmit (p.val + 12) = true → (s.fport (p.val + 12)).joins < s.joinLimit (p.val + 12) →
    (s.stdPortOk (p.val + 12) 6 = true → s.pcfg (p.val + 12) 4 1 / 2 ^ f.frame.link.bit % 2 = 1 →
      (s.setFport (p.val + 12) (fun x => { x with joins := x.joins + 1 })).joinPartner (p.val + 12) f.frame.handle.toNat 1 = some t →
      exec (.wmbusInstallRequest p f) s = .next (t.wmbusRx (p.val + 12) f.frame f.rx)) ∧
    (s.pcfg (p.val + 12) 0 1 = 2 →
      ((s.bumpPort (p.val + 12) 1).setFport (p.val + 12) (fun x => { x with joins := x.joins + 1 })).joinPartner (p.val + 12)
        h.toNat 2 = some t →
      exec (.sunAssociation p h) s = .next (t.queueDown h.toNat ⟨some 2, [], false, 0⟩).2)) ∧
  (∀ (s : State) (p : Fin 12) (k : Rekey), (s.fport p.val).rekey = some k → k.start + 600000000000 ≤ s.time.net →
    exec (.g3RekeySwitch p) s = .next (s.setFport p.val (fun x =>
      { x with rekey := none, keyIndex := 1 - k.index, groupKey := s.pcfg p.val 4 3 }))) ∧
  (∀ (s : State) (e : JEntry), s.acc.journal.find? (·.isOpen) = some e → s.cfgN 0x501003 * 32768 < s.time.mono - e.born →
    (s.acc.stuckRaised = false → exec .journalStuck s =
      .next (({ s with acc := { s.acc with stuckRaised := true } }).raise 0x0C7 ((s.time.mono - e.born) / 32768 : Nat))) ∧
    (s.acc.stuckRaised = true → exec .journalStuck s = .next s)) ∧
  (∀ s : State, s.acc.journalOld (s.cfgN 0x501003) s.time.mono = false →
    exec .journalStuck s = .next { s with acc := { s.acc with stuckRaised := false } }) ∧
  (∀ (s : State) (src : Nat) (x : Held), src ≤ 24 → s.acc.inputs.find? (fun x => x.src == src) = some x →
    ∃ t : State, exec (.inputDeadlineDiscard src) s = .next t ∧ t.acc.inputs = s.acc.inputs.erase x ∧
      tblGet 0 t.cas.refusals src = tblGet 0 s.cas.refusals src + 1 ∧ t.acc.journal = s.acc.journal) ∧
  (∀ (s : State) (src : Nat), 24 < src → exec (.inputDeadlineDiscard src) s = .next s) ∧
  (∀ (s t : State) (r : Req) (peer : Bytes) (l : List FwdRecord) (stamp : Nat), s.association r.sess peer = some t →
    t.pathRuns = true → t.acting = true → t.pwr.acceptReady = true → t.cfgB 0x502001 = true → t.cfgN 0x502003 ≤ t.roleOf r →
    l.length ≤ t.cfgN 0x502002 → l.any (·.zeroLen) = false → l ≠ [] →
    (((t.atNet stamp).forwardAll r.sess.id (45 + r.sess.id % 32) stamp l).1.all (fun x => x.2.isNone)) = true →
    ∃ u : State, exec (.forwardingRequest r peer l stamp) s =
        .next (u.emit (.fwd r 204 (((t.atNet stamp).forwardAll r.sess.id (45 + r.sess.id % 32) stamp l).1.map (·.1)))) ∧
      u = ((t.atNet stamp).forwardAll r.sess.id (45 + r.sess.id % 32) stamp l).2 ∧
      ((t.atNet stamp).forwardAll r.sess.id (45 + r.sess.id % 32) stamp l).1.length = l.length) ∧
  (∀ (s t : State) (r : Req) (peer : Bytes) (l : List FwdRecord) (stamp : Nat), s.association r.sess peer = some t →
    t.pathRuns = true → t.acting = false → exec (.forwardingRequest r peer l stamp) s = .next t) ∧
  (∀ (s : State) (h : Handle) (x : Partner), s.partner h.toNat = some x →
    ∃ t : State, exec (.partnerRemoval h) s = .next t ∧ t.partner h.toNat = none ∧ t.ctxOf h.toNat = none ∧
      tblFind? t.trust.meterSlot h.toNat = none)

/-- Enqueues, dispatch reads, release statuses and delay lists of the cascade. ENQUEUE of a descriptor of kind 1 to 3
that its bound queue and the pool have room for gives it the next number and puts it at the tail of its flow with
status OK; at a full queue it returns FULL, is counted there, and queues nothing; an unknown kind is INVALID; a
delayed one with its due value ahead, within 32 bits on the lists of a tick and on the cycle list a cycle number,
goes into its list. The account is that of the items that run, and where none runs or several do an open choice (log
entry 60). DISPATCH_READ of a free core, while items are dispatched, gives it the item Cascade picks, whose
descriptor it returns and which runs there from now; with nothing picked the read stalls; a busy core reads nothing.
RETRY puts the running item back as a waiting one, DONE and FAIL finish it and release in arrival order, then the
results of the items released show, DONE with its own and the asked enqueues, or without any where R200 discards the
APDU of its frame; the core is free after each, and what is ready is then dispatched. DELAY_DUE takes the items
whose due value has come out of its list, and each joins the tail of its flow as a new arrival. Rests on:
08_cascade_sluice.md, R206, R207, R208, R209, R210, R211, R213, R214. -/
def Obligations.FlowsQueuesAndCores : Prop :=
  (∀ (s : State) (f : BitVec 12) (k : U8) (tel : Bool) (key : Handle) (ref : U64), 1 ≤ k.toNat → k.toNat ≤ 3 →
    s.queueAcct (s.queueOf f.toNat) ≠ 0 → s.depth (s.queueOf f.toNat) < s.cfgN 0x901104 (s.queueOf f.toNat) → s.poolTaken < 49152 →
    ∃ t : State, exec (.enqueue f k tel key ref none) s = .next t.schedule ∧ t.cas.lastStatus = 0 ∧
      t.items f.toNat = s.items f.toNat ++ [mkItem s s.producer.1 k.toNat key.toNat ref.toNat tel false] ∧ t.cas.inUse = s.cas.inUse + 1 ∧
      t.cas.nextId = s.cas.nextId + 1 ∧ t = { s with cas := t.cas, opens := t.opens }) ∧
  (∀ (s : State) (f : BitVec 12) (k : U8) (tel : Bool) (key : Handle) (ref : U64), 1 ≤ k.toNat → k.toNat ≤ 3 →
    s.queueAcct (s.queueOf f.toNat) ≠ 0 → s.cfgN 0x901104 (s.queueOf f.toNat) ≤ s.depth (s.queueOf f.toNat) →
    ∃ t : State, exec (.enqueue f k tel key ref none) s = .next t.schedule ∧ t.cas.lastStatus = 1 ∧
      t.cas.flows = s.cas.flows ∧ t.cas.inUse = s.cas.inUse ∧
      (tblGet {} t.cas.queues (s.queueOf f.toNat)).full = (tblGet {} s.cas.queues (s.queueOf f.toNat)).full + 1) ∧
  (∀ (s : State) (f : BitVec 12) (k : U8) (tel : Bool) (key : Handle) (ref : U64), (k = 0 ∨ 4 < k.toNat) →
    ∃ t : State, exec (.enqueue f k tel key ref none) s = .next t.schedule ∧ t.cas.lastStatus = 2 ∧
      t = { s with cas := { s.cas with lastStatus := 2 }, opens := t.opens }) ∧
  (∀ (s : State) (f : BitVec 12) (k : U8) (tel : Bool) (key : Handle) (ref : U64) (l : Fin 4) (due : Nat), 1 ≤ k.toNat →
    k.toNat ≤ 4 → (k.toNat = 4 → ref ≠ 0) → s.queueAcct (s.queueOf f.toNat) ≠ 0 → dueAhead l.val due (s.listTick l.val) = true →
    dueInRange l.val due (s.listTick l.val) = true → s.poolTaken < 49152 →
    ∃ t : State, exec (.enqueue f k tel key ref (some (l, due))) s = .next t ∧ t.cas.flows = s.cas.flows ∧
      t.cas.lastStatus = 0 ∧ tblGet [] t.cas.delay l.val = delayInsert l.val (s.listTick l.val)
        (due, f.toNat, mkItem s s.producer.1 k.toNat key.toNat ref.toNat tel true) (tblGet [] s.cas.delay l.val)) ∧
  (∀ (s : State) (c : Fin 4) (f : Nat) (it : Item), s.onCore c.val = none → s.dispatches = true → s.pick c.val = some (f, it) →
    ∃ t : State, exec (.dispatchRead c) s = .next t.schedule ∧ t.cas.dispatches = s.cas.dispatches + 1 ∧
      t.cas.cores = listUpd s.cas.cores c.val (fun _ => some (f, it.id)) ∧
      t.items f = (s.items f).map (fun x => if x.id = it.id then { x with st := .running c.val s.time.mono, sent := true } else x) ∧
      t.out = .dispatch c.val (it.descriptor f) :: s.out ∧ t = { s with cas := t.cas, out := t.out }) ∧
  (∀ (s : State) (c : Fin 4), s.onCore c.val = none → (s.dispatches = false ∨ s.pick c.val = none) →
    s.cas.stalled.contains c.val = false →
    exec (.dispatchRead c) s = .next { s with cas := { s.cas with stalled := s.cas.stalled ++ [c.val] } }) ∧
  (∀ (s : State) (c : Fin 4), (s.onCore c.val).isSome = true → exec (.dispatchRead c) s = .next s) ∧
  (∀ (s : State) (c : Fin 4) (f since : Nat) (it : Item), s.onCore c.val = some (f, it, since) →
    ∃ t : State, exec (.retry c) s = .next t.schedule ∧ t.onCore c.val = none ∧
      t.items f = (s.items f).map (fun x => if x.id = it.id then { x with st := .waiting, resumed := false, work := none } else x)) ∧
  (∀ (s u : State) (c : Fin 4) (f since : Nat) (it : Item) (d : Bool) (w : List (BitVec 12 × U8 × Handle × U64))
      (l : List (Nat × Nat × Nat × Nat)),
    s.onCore c.val = some (f, it, since) → s.judgeRun c.val = (d, u) →
    l = w.map (fun x => (x.1.toNat, x.2.1.toNat, x.2.2.1.toNat, x.2.2.2.toNat)) →
    (∃ t : State, exec (.done c w) s = .next t.releaseDone.showResults ∧ t.onCore c.val = none ∧
      t.items f = (s.items f).map (fun x => if x.id = it.id then { x with
        st := .finished true
        wants := if d then [] else u.followOn c.val ++ l.filter (fun y => !(u.followOn c.val).contains y) }
        else x)) ∧
    (∃ t : State, exec (.fail c) s = .next t.releaseDone.showResults ∧ t.onCore c.val = none ∧
      t.items f = (s.items f).map (fun x => if x.id = it.id then { x with st := .finished false, wants := [], work := none } else x))) ∧
  (∀ (s : State) (l : Fin 4) (ahead : List (Nat × Nat × Item)),
    splitDue l.val (s.listTick l.val) (tblGet [] s.cas.delay l.val) = ([], ahead) →
    ∃ t : State, exec (.delayDue l) s = .next t.schedule ∧ t.cas.flows = s.cas.flows ∧ tblGet [] t.cas.delay l.val = ahead) ∧
  (∀ (s : State) (l : Fin 4) (due f : Nat) (it : Item) (ahead : List (Nat × Nat × Item)),
    splitDue l.val (s.listTick l.val) (tblGet [] s.cas.delay l.val) = ([(due, f, it)], ahead) →
    ∃ t : State, exec (.delayDue l) s = .next t.schedule ∧ tblGet [] t.cas.delay l.val = ahead ∧
      t.items f = s.items f ++ [{ it with id := s.cas.nextId, born := s.time.mono, since := s.time.mono }] ∧
      t.cas.inUse = s.cas.inUse)

/-- Overruns, exhausted accounts and the period boundary. BUDGET_OVERRUN on a running core frees it, counts a pre-
emption and the overrun of the account its item runs under, and raises BUDGET_OVERRUN with that account, and what is
ready is then dispatched; on a core that runs nothing it changes nothing. ACCOUNT_EXHAUSTED of an account with
balance left changes nothing, and of one without marks it exhausted and leaves its balances and whether it borrowed.
BUDGET_PERIOD_BOUNDARY changes nothing while main reset is asserted, while the memory island does not run, and where
no boundary is due; where one is due, and no reset waits for it, it runs what the boundary does in this order: the
period's new values, the budgets at the boundary's instant, the check channels' fallback bound at that instant, the
waiting answers, the rewrap, releases and their results, delivery, pacing, the checkpoint, the cycle number to the
partner, the inputs and the transfers that waited, and an activation. At its core the period is counted, its count
of released items starts again, and every account is renewed. Rests on: 08_cascade_sluice.md, R217, R218, R219,
R220, R380. -/
def Obligations.AccountsAndPeriods : Prop :=
  (∀ (s : State) (c : Fin 4) (f since : Nat) (it : Item), s.onCore c.val = some (f, it, since) →
    ∃ t : State, exec (.budgetOverrun c) s = .next (t.raise 0x0E0 (s.itemAcct f it)).schedule ∧ t.onCore c.val = none ∧
      t.cas.preempts = s.cas.preempts + 1 ∧ t.cas.overrunNow = true ∧
      (t.acct (s.itemAcct f it)).overruns = (s.acct (s.itemAcct f it)).overruns + 1) ∧
  (∀ (s : State) (c : Fin 4), s.onCore c.val = none → exec (.budgetOverrun c) s = .next s) ∧
  (∀ (s : State) (a : Fin 16) (r : Fin 4), 0 < s.balance a.val r.val → exec (.accountExhausted a r) s = .next s) ∧
  (∀ (s : State) (a : Fin 16) (r : Fin 4), s.balance a.val r.val ≤ 0 →
    ∃ t : State, exec (.accountExhausted a r) s = .next t ∧ (t.acct a.val).exhausted = true ∧
      (t.acct a.val).borrowed = (s.acct a.val).borrowed ∧
      (t.acct a.val).bal = (s.acct a.val).bal ∧ t = { s with cas := { s.cas with accts := t.cas.accts } }) ∧
  (∀ s : State, (s.pwr.inReset = true ∨ s.isUp 3 = false ∨ s.boundaryDue = none) → exec .budgetPeriodBoundary s = .next s) ∧
  (∀ (s u v w : State) (n : Nat), s.pwr.inReset = false → s.isUp 3 = true → s.boundaryDue = some n →
    u = (((s.periodValues).sluiceBoundary n).weirFallback n).answerLate.rewrapRun.releaseDone.showResults →
    v = ((u.deliveryPeriod).pacedAfresh.erasesEnded).startCheckpoint →
    w = (v.time.lastStamp.elim v (fun x => v.mirror .timeState 0 (leBytes 5 v.time.cycle.toNat ++ time64 x ++
      leBytes 1 v.time.tracker.code ++ leBytes 1 v.time.sync.code))).runInputs.runHost.activationReset →
    w.pwr.atPeriod = none → exec .budgetPeriodBoundary s = .next w) ∧
  (∀ (s : State) (n : Nat), s.cas.firstPeriod = false →
    (s.sluiceBoundary n).cas.periods = s.chargeRunning.cas.periods + 1 ∧ (s.sluiceBoundary n).cas.released = 0 ∧
    (s.sluiceBoundary n).cas.periodStart = n ∧
    ∀ a < 16, (s.sluiceBoundary n).acct a = s.chargeRunning.renewAcct (s.sluiceBoundary n).cas.periodLen a)

/-- Samples, the reference check, demand intervals, power-quality blocks and events, and settling. A sample at an
instant of its grid becomes the newest and uses up a step of network time, and off the grid changes nothing; one
without a channel's value, while nothing accumulates and no capture is open, leaves the boundaries; REF_CHECK keeps
temperature and divergence, becomes suspect above 20 ppm and raises 0x102 once, and is suspect no longer below 15
ppm; the end of a demand interval of an enabled feeder keeps its maximum and starts afresh, and of a disabled one
does nothing; the reset of the maximum clears it and its stamp; a power-quality block joins the ring, losing the
oldest where it holds 16; the aggregation empties the ring; settling is noted while settling. Rests on: 09_weir.md,
R231, R236, R239, R240, R241, R242. -/
def Obligations.CheckChannelsMeasure : Prop :=
  (∀ (s : State) (at_ : Nat), at_ % s.sampleNs = 0 → s.weir.st ≠ 2 → s.weir.capSt = 3 →
    ∃ t : State, exec (.checkChannelSample at_ []) s = .next t ∧ t.weir.lastAt = some at_ ∧ t.weir.overNow = [] ∧
      t.weir.stepped = none ∧ t.weir.bounds = s.weir.bounds) ∧
  (∀ (s : State) (at_ : Nat) (raw : List (Fin 128 × BitVec 24)),
    (at_ % s.sampleNs = 0 → ∃ t : State, exec (.checkChannelSample at_ raw) s = .next t ∧
      t.weir.lastAt = some at_ ∧ t.weir.stepped = none) ∧
    (at_ % s.sampleNs ≠ 0 → exec (.checkChannelSample at_ raw) s = .next s)) ∧
  (∀ (s : State) (ppb : U32) (temp : BitVec 16), s.weir.suspect = false → 20000 < ppb.toNat →
    ∃ t : State, exec (.refCheck ppb temp) s = .next (t.raise 0x102 ppb.toNat) ∧ t.weir.suspect = true ∧ t.weir.diverge = ppb.toNat ∧
      t.weir.temp = temp.toInt) ∧
  (∀ (s : State) (ppb : U32) (temp : BitVec 16), ppb.toNat ≤ 20000 →
    ∃ t : State, exec (.refCheck ppb temp) s = .next t ∧
      t.weir.suspect = (if ppb.toNat < 15000 then false else s.weir.suspect) ∧ t.weir.diverge = ppb.toNat) ∧
  (∀ (s : State) (f : Fin 64), feederN s 1 f.val = 0 → exec (.feederDemandIntervalEnd f) s = .next s) ∧
  (∀ (s : State) (f : Fin 64), feederN s 1 f.val ≠ 0 → ∃ t : State, exec (.feederDemandIntervalEnd f) s = .next t ∧
    t = s.closeDemand f.val 0 ∧ (t.feeder f.val).dStart = (s.feeder f.val).netTotal ∧ (t.feeder f.val).dFlags = 0 ∧
    (t.feeder f.val).maxD = max (s.feeder f.val).maxD (t.feeder f.val).demand) ∧
  (∀ (s : State) (r : Req) (arg : Bytes) (o : ObjRow), s.starts r 0x602210 arg o →
    ∃ t : State, exec (.resetMaximumDemand r arg) s = .next (t.succeeds r 0x602210 (s.itemOf r o)) ∧
      (t.feeder (s.itemOf r o)).maxD = 0 ∧ (t.feeder (s.itemOf r o)).maxAt = 0 ∧
      t = { s with weir := { s.weir with feeders := t.weir.feeders } }) ∧
  (∀ (s : State) (b : PqBlock), b.feeders = [] →
    ∃ t : State, exec (.pqBlockEnd b) s = .next t ∧
      t.weir.ring = (if 16 ≤ s.weir.ring.length then s.weir.ring.drop 1 else s.weir.ring) ++ [b] ∧
      t.weir.lost = (if 16 ≤ s.weir.ring.length then s.weir.lost + 1 else s.weir.lost) ∧
      t.weir.feeders = s.weir.feeders ∧ t = { s with weir := t.weir }) ∧
  (∀ (s : State) (fr : List (Fin 64 × U32)), ∃ t : State, exec (.pqAggregate false fr) s = .next t ∧ t.weir.ring = []) ∧
  (∀ (s : State) (c : Fin 128) (lv : U16), s.feedersOn = [] → exec (.pqEventDetect c lv) s = .next s) ∧
  (∀ (s : State) (c : Fin 128) (lv : U16) (f : Nat) (code : Nat), s.feedersOn = [f] → feederN s 2 f = c.val →
    (pqStep (tblGet (0, 0) (s.feeder f).pq c.val).1 lv.toNat (feederN s 0x0A f) (feederN s 0x0B f) (feederN s 0x0C f)).2 = some code →
    ∃ t : State, exec (.pqEventDetect c lv) s = .next (t.raise code lv.toNat)) ∧
  (∀ s : State, ∃ t : State, exec .measurementSettled s = .next t ∧ t.weir.settled = (s.weir.settled || s.weir.st == 1) ∧
    t = { s with weir := { s.weir with settled := t.weir.settled } })

/-- Check latches, waveform captures and field calibration. ARM_LATCH at least two cycles ahead with fewer than eight
pending adds a pending latch; one nearer is refused "value invalid", a ninth "device busy". CAPTURE_ARM with 1 to 16
channels, enough buffer and a trigger source arms an idle capture; the trigger-now command triggers an armed one and
is counted, and ignored, while one is filled; disarm returns an armed one to idle; a capture trigger whose source is
not selected does nothing; a completed capture is coded, its buffer released, and CAPTURE_DONE raised.
CALIBRATE_CHANNEL with a valid argument and no measurement under way starts one; a measurement whose proposal is out
of range stages nothing and ends "value invalid". Rests on: 09_weir.md, R243, R244, R245, R248. -/
def Obligations.LatchesCapturesAndCalibration : Prop :=
  (∀ (s : State) (r : Req) (arg : Bytes) (o : ObjRow) (c : Cycle), s.starts r 0x60000A arg o → fieldAt arg 0 8 < 2 ^ 40 →
    c = BitVec.ofNat 40 (fieldAt arg 0 8) →
    (2 ≤ (c - s.time.cycle).toNat → (c - s.time.cycle).toNat < 2 ^ 39 → s.weir.latches.length < 8 →
      exec (.armLatch r arg) s = .next (({ s with weir := { s.weir with latches := s.weir.latches ++
        [({ id := BitVec.ofNat 16 (fieldAt arg 8 2), target := c } : Latch)] } }).succeeds r 0x60000A (s.itemOf r o))) ∧
    ((c - s.time.cycle).toNat < 2 → exec (.armLatch r arg) s = .next (s.respond r (.abort .valueInvalid))) ∧
    (2 ≤ (c - s.time.cycle).toNat → (c - s.time.cycle).toNat < 2 ^ 39 → 8 ≤ s.weir.latches.length →
      exec (.armLatch r arg) s = .next (s.respond r (.abort .deviceBusy)))) ∧
  (∀ (s : State) (r : Req) (o : ObjRow), s.starts r 0x605008 [1] o → 1 ≤ s.captureChans.length → s.captureChans.length ≤ 16 →
    s.captureChans.length * s.cfgN 0x605002 ≤ 131072 → s.cfgN 0x605004 ≠ 0 →
    (s.weir.capSt = 0 → exec (.captureArm r) s =
      .next (({ s with weir := { s.weir with capSt := 1 } }).succeeds r 0x605008 (s.itemOf r o))) ∧
    (s.weir.capSt ≠ 0 → exec (.captureArm r) s = .next (s.respond r (.abort .deviceBusy)))) ∧
  (∀ (s : State) (r : Req) (o : ObjRow), s.starts r 0x605008 [2] o →
    exec (.captureTriggerNow r) s = .next (s.captureTrigger.succeeds r 0x605008 (s.itemOf r o)) ∧
    (s.weir.capSt = 2 → s.captureTrigger = { s with weir := { s.weir with capIgnored := s.weir.capIgnored + 1 } }) ∧
    (s.weir.capSt = 1 → s.captureTrigger.weir.capSt = 2 ∨ s.captureTrigger.weir.capSt = 3)) ∧
  (∀ (s : State) (r : Req) (o : ObjRow), s.starts r 0x605008 [3] o → exec (.captureDisarm r) s =
    .next (({ s with weir := { s.weir with capSt := if s.weir.capSt = 1 then 0 else s.weir.capSt } }).succeeds r 0x605008
      (s.itemOf r o))) ∧
  (∀ (s : State) (f : Fin 64), s.cfgN 0x605004 = 2 → s.cfgN 0x605005 = f.val →
    exec (.captureTrigger (some f)) s = .next s.captureTrigger) ∧
  (∀ (s : State) (f : Option (Fin 64)), s.cfgN 0x605004 = 1 → exec (.captureTrigger f) s = .next s) ∧
  (∀ s : State, s.weir.capSt ≠ 3 → exec .captureDone s = .next s) ∧
  (∀ s : State, s.weir.capSt = 3 → ∃ t : State, exec .captureDone s = .next (t.raise 0x107 ((tblGet 0 s.arch.pos 9 : Nat) : Int)) ∧
    t.weir.capSt = 0 ∧ t.weir.capBuf = [] ∧ t.weir.capDone = s.weir.capDone + 1) ∧
  (∀ (s : State) (r : Req) (arg : Bytes) (o : ObjRow), s.starts r 0x604001 arg o → fieldAt arg 0 1 ≤ 127 →
    s.chanOn (fieldAt arg 0 1) = true → fieldAt arg 1 1 = 1 → F64.finite (BitVec.ofNat 64 (fieldAt arg 4 8)) = true →
    s.weir.calib = none →
    exec (.calibrateChannel r arg) s = .next ((({ s with weir := { s.weir with calib := some {
      chan := fieldAt arg 0 1, kind := 1, cycles := if fieldAt arg 2 2 = 0 then 250 else fieldAt arg 2 2,
      ref := BitVec.ofNat 64 (fieldAt arg 4 8) } } }).begins 0x604001 (s.itemOf r o)).respond r (.ok []))) ∧
  (∀ (s : State) (c : Calib) (m : U64), s.weir.calib = some c → s.proposal c m = none →
    ∃ t : State, exec (.calibrationMeasured m) s = .next t ∧ t.weir.calib = none ∧ t.weir.measured = m ∧ (t.cmdSt 0x604001 0).1 = 3 ∧
      t.dict.pend = s.dict.pend) ∧
  (∀ (s : State) (m : U64), s.weir.calib = none → exec (.calibrationMeasured m) s = .next s)

/-- Latch orders are issued or skipped, answered, and over at their deadline; latch records complete. A due scheduled
order that nothing blocks takes the next identifier, is counted and is carried by the beacons; one that is blocked
is counted as skipped and raises LATCH_SKIPPED; the command issues one outside the schedule or answers why not; with
no order within two cycles of its target nothing is abandoned, and an arm not acknowledged by then is read instead;
an answer in no open entry of the meter, in an unsecured one, of a sequence applied before, or in an APDU that R200
discards has no effect; a register answer is recorded in its order; a latched answer of the order's cycle is
recorded, one of another cycle is counted for the member; the deadline ends the orders past it; a complete check
latch leaves the pending ones. Rests on: 10_balance.md, R244, R193, R200, R253, R254, R255, R256, R257. -/
def Obligations.LatchOrdersAreIssuedAndAnswered : Prop :=
  (∀ (s t : State), s.acting = true → s.cfgB 0x610001 = true →
    s.isTarget (s.time.cycle + BitVec.ofNat 40 (s.cfgN 0x610003)) = true →
    s.orderBlocked = false → s.tryOrder (s.time.cycle + BitVec.ofNat 40 (s.cfgN 0x610003)) = .ok t →
    exec .latchOrderIssue s = .next t ∧ t.bal.lastId = nextOrderId s.bal.lastId ∧ t.bal.issued = s.bal.issued + 1 ∧
    t.field.latch = some (s.time.cycle + BitVec.ofNat 40 (s.cfgN 0x610003), (nextOrderId s.bal.lastId).toNat)) ∧
  (∀ (s : State), s.acting = true → s.cfgB 0x610001 = true →
    s.isTarget (s.time.cycle + BitVec.ofNat 40 (s.cfgN 0x610003)) = true →
    (s.orderBlocked = true ∨ ∃ a, s.tryOrder (s.time.cycle + BitVec.ofNat 40 (s.cfgN 0x610003)) = .error a) →
    exec .latchOrderIssue s = .next (({ s with bal := { s.bal with skipped := s.bal.skipped + 1 } }).raise 0x110
      ((s.time.cycle + BitVec.ofNat 40 (s.cfgN 0x610003)).toNat % 2 ^ 32 : Nat))) ∧
  (∀ s : State, (s.acting = false ∨ s.cfgB 0x610001 = false) → exec .latchOrderIssue s = .next s) ∧
  (∀ (s : State) (r : Req) (arg : Bytes) (o : ObjRow), s.starts r 0x610007 arg o → 1 ≤ leNat arg → leNat arg < 2 ^ 40 →
    (∀ t, s.tryOrder (BitVec.ofNat 40 (leNat arg)) = .ok t →
      exec (.latchNow r arg) s = .next (t.succeeds r 0x610007 (s.itemOf r o))) ∧
    (∀ a, s.tryOrder (BitVec.ofNat 40 (leNat arg)) = .error a →
      exec (.latchNow r arg) s = .next (s.respond r (.abort a)))) ∧
  (∀ s : State, s.bal.orders.filter (fun o => decide ((o.target - s.time.cycle).toNat ≤ 2)) = [] →
    exec .armAbandon s = .next s) ∧
  (∀ (s : State) (o : Order) (h : Nat), s.bal.orders.filter (fun o => decide ((o.target - s.time.cycle).toNat ≤ 2)) = [o] →
    o.unarmed = [h] → s.segments.any (fun g => s.checkMeter g == some h) = false →
    exec .armAbandon s = .next (s.readMember o.id h)) ∧
  (∀ (s : State) (h : Handle) (x : Partner), s.acting = true → tblFind? s.field.partners h.toNat = some x →
    isRf x.port = true → x.gen = 3 → tblFind? s.bal.setCycleAt h.toNat = none → tblGet false s.acc.ext h.toNat = true →
    (s.cfgN 0xC04001 h.toNat ≠ 0xFFFF ∨ s.segments.any (fun g => s.checkMeter g == some h.toNat) = true) →
    exec (.setCycleUnicast h) s = .next (({ s with bal := { s.bal with
      setCycleAt := tblPut s.bal.setCycleAt h.toNat s.monoSec } }).tell h.toNat (.setCycle s.time.cycle))) ∧
  (∀ (s : State) (h : Handle), s.cfgN 0xC04001 h.toNat = 0xFFFF →
    s.segments.any (fun g => s.checkMeter g == some h.toNat) = false → exec (.setCycleUnicast h) s = .next s) ∧
  (∀ (s : State) (c : BitVec 40), ∃ t : State, exec (.latchRecordComplete c) s = .next t ∧
    t.weir.latches = s.weir.latches.filter (fun l => !(l.target == c && l.ready))) ∧
  (∀ (s : State) (h : Handle) (q : U64) (al : Option LatchAlign) (a : LatchAns),
    (s.entryOf q = none ∨ (∃ e, s.entryOf q = some e ∧ (e.unsecured = true ∨ e.isOpen = false ∨ e.handle ≠ h.toNat)) ∨
      (∃ m, tblFind? s.bal.applied h.toNat = some m ∧ q ≤ m)) → exec (.latchAnswer h q al a) s = .next s) ∧
  (∀ (s u v : State) (h : Handle) (q : U64) (e : JEntry), s.entryOf q = some e → e.handle = h.toNat → e.isOpen = true →
    e.unsecured = false → tblFind? s.bal.applied h.toNat = none →
    (∀ al a, s.judgeApdu q = (true, u) → exec (.latchAnswer h q al a) s = .next u) ∧
    (s.judgeApdu q = (false, u) → v = u.setBal (fun b => { b with applied := tblPut b.applied h.toNat q }) →
      (∀ (regs : Regs) (al : Option LatchAlign) (o : Order), v.orderFor h.toNat none = some o →
        v.segments.any (fun g => v.checkMeter g == some h.toNat) = false →
        exec (.latchAnswer h q al (.read regs)) s = .next (v.recordAnswer h.toNat o (.read (regsNet regs)) none)) ∧
      (∀ (w : State) (id : U16) (c : Cycle) (regs : Regs) (al : Option LatchAlign) (o : Order),
        w = v.noteLatch h.toNat id 2 c al → w.orderFor h.toNat (some id) = some o →
        (w.segsOf h.toNat).any (fun g => segN w 1 g == 3) = false →
        (c = o.target → exec (.latchAnswer h q al (.latched id 2 c regs)) s =
          .next (w.recordAnswer h.toNat o (.latched (regsNet regs)) (some c))) ∧
        (c ≠ o.target → ∃ t : State, exec (.latchAnswer h q al (.latched id 2 c regs)) s = .next t ∧
          (t.member h.toNat).noAnswer = satInc (w.member h.toNat).noAnswer)))) ∧
  (∀ s : State, s.bal.orders.filter (fun o => s.pastTarget o (s.cfgN 0x610005)) = [] → exec .latchReportWait s = .next s) ∧
  (∀ (s : State) (o : Order) (p : Nat × Answer2), s.bal.orders.filter (fun o => s.pastTarget o (s.cfgN 0x610005)) = [o] →
    o.answers.filter (fun p => (p.2.net).isNone && !o.polled.contains p.1) = [p] →
    exec .latchReportWait s = .next ((s.tell p.1 .getLatch).setOrder o.id (fun x => { x with polled := p.1 :: x.polled }))) ∧
  (∀ (s : State) (o : Order), s.bal.orders.filter (fun o => s.pastTarget o (s.cfgN 0x610004)) = [o] →
    ∃ t : State, exec .latchDeadline s = .next t ∧ t.bal.orders = s.bal.orders.filter (fun x => x.id != o.id) ∧
      t.bal.updated = s.bal.updated ∧ t.time = s.time) ∧
  (∀ s : State, s.bal.orders.filter (fun o => s.pastTarget o (s.cfgN 0x610004)) = [] → exec .latchDeadline s = .next s)

/-- A queued latch advances its segment's baseline; the reset of a model. SEGMENT_UPDATE of a segment with no queued
latch, or while the balance island does not run or account BAL has no transfer left to bring the model in, changes
nothing; else the latch leaves the queue and becomes the baseline; the first only becomes the baseline, a later one
also adds a balance record to the last eight. RESET_MODEL of a segment within the capacity re-initialises it and is
counted, and beyond it is refused "value invalid". Rests on: 10_balance.md, R25, R258, R261, R262. -/
def Obligations.SegmentsUpdateTheirModels : Prop :=
  (∀ (s : State) (g : BitVec 12), (s.seg g.toNat).queue = [] → exec (.segmentUpdate g) s = .next s) ∧
  (∀ (s : State) (g : BitVec 12), (s.isUp 9 = false ∨ s.allows 6 (if s.pwr.headEnd then 2 else 3) = false) →
    exec (.segmentUpdate g) s = .next s) ∧
  (∀ (s : State) (g : BitVec 12) (k : SegLatch) (rest : List SegLatch), s.isUp 9 = true →
    s.allows 6 (if s.pwr.headEnd then 2 else 3) = true → (s.seg g.toNat).queue = k :: rest →
    ∃ t : State, exec (.segmentUpdate g) s = .next t ∧ (t.seg g.toNat).model.base = some k ∧ (t.seg g.toNat).queue = rest ∧
      ((s.seg g.toNat).model.base = none → (t.seg g.toNat).records = (s.seg g.toNat).records ∧
        t.arch = { s.arch with scratchSeg := some g.toNat }) ∧
      (∀ b, (s.seg g.toNat).model.base = some b →
        (t.seg g.toNat).records = ((s.interval g.toNat b k).record g.toNat b k :: (s.seg g.toNat).records).take 8)) ∧
  (∀ (s : State) (r : Req) (arg : Bytes) (o : ObjRow), s.starts r 0x611301 arg o →
    (s.itemOf r o < s.segCapacity → ∃ t : State, exec (.resetModel r arg) s = .next (t.succeeds r 0x611301 (s.itemOf r o)) ∧
      t.bal.resets = s.bal.resets + 1 ∧ (t.seg (s.itemOf r o)).model.base = none ∧ (t.seg (s.itemOf r o)).queue = [] ∧
      t = { s with bal := t.bal }) ∧
    (s.segCapacity ≤ s.itemOf r o → exec (.resetModel r arg) s = .next (s.respond r (.abort .valueInvalid))))

/-- An accepted reading enters the register set once; an unsecured one never does. READING_APPLY of an entry whose item
is in a flow of the cascade leaves its effect with the item, whose release shows it (R213); while the application
island is in a block reset it waits at its crossing; else it applies at once. Applying a sequence without a journal
entry, of another meter's entry, of one already applied or of a closed one changes nothing. One whose APDU R200
discards enters nothing. Otherwise the sequence is the meter's last applied one, and applying the same sequence
again, with whatever registers, changes nothing more. An unsecured reading leaves every meter's registers. The first
reading of a meter sets its totals, attributes no energy, and makes final the records of closures up to its capture.
METER_CLOCK_READ without an answer sends the request, with one it keeps the deviation. Rests on: 11_billing.md,
R187, R193, R273, R275. -/
def Obligations.ReadingsEnterRegistersOnce : Prop :=
  (∀ (s : State) (h : Handle) (q : U64) (k : ReadKind) (g : Regs),
    s.pwr.islands.getD 8 .held ≠ .quiescing → s.pwr.islands.getD 8 .held ≠ .resetting →
    (s.entryItem (h.toNat % 3072) h.toNat q.toNat = none → exec (.readingApply h q k g) s = .next (s.applyReading h.toNat q k g)) ∧
    (∀ it, s.entryItem (h.toNat % 3072) h.toNat q.toNat = some it → exec (.readingApply h q k g) s =
      .next (s.setItem (h.toNat % 3072) it.id (fun x => { x with work := some (.reading k g) })))) ∧
  (∀ (s : State) (h : Handle) (q : U64) (k : ReadKind) (g : Regs),
    (s.pwr.islands.getD 8 .held = .quiescing ∨ s.pwr.islands.getD 8 .held = .resetting) → exec (.readingApply h q k g) s =
      .next { s with pwr := { s.pwr with crossings := s.pwr.crossings ++ [(8, .readingApply h q k g)] } }) ∧
  (∀ (s : State) (h : Nat) (q : U64) (k : ReadKind) (g : Regs), s.entryOf q = none → s.applyReading h q k g = s) ∧
  (∀ (s : State) (h : Nat) (q last : U64) (k : ReadKind) (g : Regs), tblFind? s.bill.app.applied h = some last → q ≤ last →
    s.applyReading h q k g = s) ∧
  (∀ (s : State) (h : Nat) (q : U64) (k : ReadKind) (g : Regs) (e : JEntry), s.entryOf q = some e →
    (e.handle ≠ h ∨ e.isOpen = false) → s.applyReading h q k g = s) ∧
  (∀ (s : State) (h : Handle) (q : U64) (k : ReadKind) (g : Regs) (e : JEntry), s.entryOf q = some e → e.handle = h.toNat →
    e.isOpen = true → (∀ last, tblFind? s.bill.app.applied h.toNat = some last → last < q) → (s.judgeApdu q).1 = false →
    s.pwr.islands.getD 8 .held ≠ .quiescing → s.pwr.islands.getD 8 .held ≠ .resetting →
    s.entryItem (h.toNat % 3072) h.toNat q.toNat = none →
    ∃ t : State, exec (.readingApply h q k g) s = .next t ∧ tblFind? t.bill.app.applied h.toNat = some q ∧
      (∀ (k' : ReadKind) (g' : Regs), t.applyReading h.toNat q k' g' = t) ∧
      (e.unsecured = true → t.bill.app.meters = s.bill.app.meters ∧ t.bill.changed = s.bill.changed) ∧
      (e.unsecured = false → h.toNat ∈ t.bill.changed)) ∧
  (∀ (s : State) (h : Handle) (q : U64) (k : ReadKind) (g : Regs) (e : JEntry), s.entryOf q = some e → e.handle = h.toNat →
    e.isOpen = true → (∀ last, tblFind? s.bill.app.applied h.toNat = some last → last < q) → (s.judgeApdu q).1 = true →
    ∃ t : State, s.applyReading h.toNat q k g = t ∧ t.bill = s.bill) ∧
  (∀ (s : State) (h : Nat) (at_ i x : Int) (clock : Bool), (s.mbill h).last = none →
    ∃ k, s.applyRegs h at_ i x clock = (s.setMbill h (fun m => { m with
      last := some at_, first := at_, totI := i, totE := x, demandTo := k })).finalise h (fun y => decide (y.line ≤ at_)) 0) ∧
  (∀ (s : State) (h : Handle), exec (.meterClockRead h none) s = .next (s.tell h.toNat .getClock)) ∧
  (∀ (s : State) (h : Handle) (d : BitVec 32), ∃ t : State, exec (.meterClockRead h (some d)) s = .next t ∧
    (t.mbill h.toNat).dev = d.toInt ∧ t = { s with bill := { s.bill with app := { s.bill.app with meters := t.bill.app.meters } } })

/-- Rates follow billing time, scheduled tables take effect, intervals and day blocks close, periods close, calendar
adjustments and restoration. After RATE_SWITCH every tariff table is in the rate that billing time gives;
TARIFF_ACTIVE of a scheduled table whose valid-from billing time has reached, with a trusted calendar, makes it
active; from an untrusted calendar no interval, day block, boundary or restoration is processed; a closed day
block's intervals leave; a passed boundary closes the period once and is kept; the command closes at once; a grace's
expiry leaves no provisional record at or before its limit; the oldest calendar adjustment is taken, and splits time
only above the limit; restoration ends the warning. Rests on: 11_billing.md, R277, R279, R281, R283, R284, R285,
R286, R287, R290. -/
def Obligations.RatesIntervalsAndPeriodsClose : Prop :=
  (∀ s : State, ∃ t : State, exec .rateSwitch s = .next t ∧
    (∀ k < 16, (((tblGet [] t.bill.app.rates k).head?).map (·.2)).getD 1 = s.rateOf k s.billingNow) ∧
    t = { s with bill := { s.bill with app := { s.bill.app with rates := t.bill.app.rates } } }) ∧
  (∀ (s : State) (k : Fin 16), s.tableScheduled k.val = true → leNat (s.stored 0x701101 k.val) ≤ s.billingNow →
    s.time.untrusted = false → ∃ t : State, exec (.tariffActive k) s = .next t ∧ t = s.activateTable k.val ∧
      t.tableScheduled k.val = false) ∧
  (∀ (s : State) (k : Fin 16), (s.tableScheduled k.val = false ∨ s.time.untrusted = true) → exec (.tariffActive k) s = .next s) ∧
  (∀ s : State, s.time.untrusted = true → exec .profileIntervalEnd s = .next s ∧ exec .billingClose s = .next s ∧
    exec .outageRestoration s = .next s ∧ (∀ d, exec (.dayBlockClose d) s = .next s)) ∧
  (∀ s : State, s.time.untrusted = false → s.bill.warning = none → s.bill.app.openIval = none →
    exec .profileIntervalEnd s = .next (s.openAt s.time.calNs 0).timeCharges) ∧
  (∀ (s : State) (k : Nat) (i : Ival), s.time.untrusted = false → s.bill.warning = none → s.bill.app.openIval = some (k, i) →
    ((s.time.calNs : Int) / 60000000000 < (i.start : Int) - i.offset + 15 → exec .profileIntervalEnd s = .next s) ∧
    ((i.start : Int) - i.offset + 15 ≤ (s.time.calNs : Int) / 60000000000 → exec .profileIntervalEnd s =
      .next ((((s.closeIval s.line s.time.calNs 0 true).openAt s.time.calNs 0).timeCharges).retest))) ∧
  (∀ (s : State) (d : U16), s.billingNow < (d.toNat + 1) * 1440 + s.cfgN 0x700201 * 60 → exec (.dayBlockClose d) s = .next s) ∧
  (∀ (s : State) (d : U16), s.time.untrusted = false → (d.toNat + 1) * 1440 + s.cfgN 0x700201 * 60 ≤ s.billingNow →
    s.bill.app.ivals.filter (fun p => p.2.start / 1440 == d.toNat && p.2.to_.isSome) ≠ [] →
    ∃ t : State, exec (.dayBlockClose d) s = .next t ∧
      t.bill.app.ivals.filter (fun p => p.2.start / 1440 == d.toNat && p.2.to_.isSome) = [] ∧
      t.bill.app.period = s.bill.app.period) ∧
  (∀ (s : State) (n b : Nat), s.time.untrusted = false →
    s.boundariesTo s.billingNow 0xFFFF (s.bill.app.lastBound s.billingNow) 0 = (n, b) →
    (n = 0 → exec .billingClose s = .next s) ∧
    (n ≠ 0 → ∃ t : State, exec .billingClose s = .next t ∧ t.bill.app.period = s.bill.app.period + 1 ∧ t.bill.app.closedBound = b)) ∧
  (∀ (s : State) (r : Req) (arg : Bytes) (o : ObjRow), s.starts r 0x700305 arg o →
    exec (.closePeriodNow r arg) s = .next ((s.closePeriod s.line s.billingNow 0 2).succeeds r 0x700305 (s.itemOf r o)) ∧
    (s.closePeriod s.line s.billingNow 0 2).bill.app.period = s.bill.app.period + 1) ∧
  (∀ s : State, ∃ t : State, exec .periodGraceExpiry s = .next t ∧
    ∀ h, ∀ x ∈ (t.mbill h).hist, x.line ≤ s.line - (s.cfgN 0x700201 : Int) * 3600000000000 → x.provisional = false) ∧
  (∀ s : State, s.time.adjust = [] → exec .clockAdj s = .next s) ∧
  (∀ (s : State) (n : Int) (rest : List Int), s.time.adjust = n :: rest → ∃ t : State, exec .clockAdj s = .next t ∧ t.time.adjust = rest ∧
    t.bill.app.splits = (if (s.cfgN 0x700001 : Int) * 1000000000 < ((tickSpan n).natAbs : Int)
      then s.bill.app.splits + 1 else s.bill.app.splits)) ∧
  (∀ s : State, s.bill.warning = none → exec .outageRestoration s = .next s) ∧
  (∀ s : State, s.bill.warning ≠ none → s.time.untrusted = false →
    ∃ t : State, exec .outageRestoration s = .next t ∧ t.bill.warning = none)

/-- Tamper edges are recorded and copied, latches cleared; the display's frame, list and buttons. A tamper input that
changes level is recorded with its kind and, on main power, the stamp of the edge's capture (R94), one that does not
leaves all as it is; on main power the island's records go to the log and its buffer is emptied, on backup or in
reset they stay; CLEAR_TAMPER_LATCHES clears the latches of its mask; on main power a frame of the item shown leaves
for the display, and reading the item is charged to DICT; the dwell's end and BTN_NEXT show the next item, round to
the first; a held BTN_NEXT switches the list and shows its first item; BTN_HOLD toggles the hold and the hold limit
ends it; on backup the dwell and the buttons do nothing. Rests on: 11_billing.md, R293, R294, R295, R296, R299. -/
def Obligations.TamperRecordsAndTheDisplay : Prop :=
  (∀ (s : State) (i : Fin 2) (b : Bool), s.bill.tampOpen.getD i.val false = b → exec (.tamperEdge i b) s = .next s) ∧
  (∀ (s : State) (i : Fin 2) (b : Bool), s.bill.tampOpen.getD i.val false ≠ b →
    ∃ t : State, exec (.tamperEdge i b) s = .next t ∧ t.bill.tampCount = listUpd s.bill.tampCount i.val satInc ∧
      t.bill.tampOpen = listUpd s.bill.tampOpen i.val (fun _ => b) ∧
      (s.bill.tampFirst.length < 4 → t.bill.tampFirst = s.bill.tampFirst ++
        [({ kind := s.tamperKind (if b then 1 else 2) (i.val + 1), cal := s.time.cal,
            net := if s.onBackup then 0 else (tblGet {} s.time.captures (i.val + 2)).last } : TamperRec)])) ∧
  (∀ s : State, (s.onBackup = true ∨ s.pwr.inReset = true) → exec .tamperLogCopy s = .next s ∧ exec .displayFrameTx s = .next s) ∧
  (∀ s : State, s.onBackup = false → s.pwr.inReset = false → ∃ t : State, exec .tamperLogCopy s = .next t ∧ t.bill.tampFirst = [] ∧
    t.bill.tampLast = [] ∧ t.bill.tampCount = s.bill.tampCount ∧ t.bill.tampLog =
      (s.bill.tampFirst ++ s.bill.tampLast).foldl (fun (l : List Bytes) (x : TamperRec) => (x.entry :: l).take 1024) s.bill.tampLog) ∧
  (∀ (s : State) (r : Req) (arg : Bytes) (o : ObjRow), s.starts r 0x704005 arg o → exec (.clearTamperLatches r arg) s =
    .next (({ s with bill := { s.bill with tampLatch := s.bill.tampLatch &&& ~~~(BitVec.ofNat 8 (leNat arg)) } }).succeeds r 0x704005
      (s.itemOf r o))) ∧
  (∀ s : State, s.onBackup = false → s.pwr.inReset = false → exec .displayFrameTx s = .next (({ s with
    out := .display s.displayFrame :: s.out, bill := { s.bill with dispChanged := false } } : State).chargeShown)) ∧
  (∀ s : State, s.onBackup = false →
    (s.bill.dispHold = false → exec .displayDwellExpiry s = .next { s with bill := { s.bill with
      dispItem := (s.bill.dispItem + 1) % max s.dispItems.length 1, dispChanged := true } }) ∧
    (s.bill.dispHold = true → exec .displayDwellExpiry s = .next s) ∧
    exec .btnNextPress s = .next { s with bill := { s.bill with
      dispItem := (s.bill.dispItem + 1) % max s.dispItems.length 1, dispChanged := true } } ∧
    exec .btnNextHold s = .next { s with bill := { s.bill with dispAlt := !s.bill.dispAlt, dispItem := 0, dispChanged := true } } ∧
    exec .btnHoldPress s = .next { s with bill := { s.bill with dispHold := !s.bill.dispHold, dispChanged := true } }) ∧
  (∀ s : State, s.onBackup = true → exec .displayDwellExpiry s = .next s ∧ exec .btnNextPress s = .next s ∧
    exec .btnNextHold s = .next s ∧ exec .btnHoldPress s = .next s) ∧
  (∀ s : State, s.bill.dispHold = true → exec .holdLimitExpiry s =
    .next { s with bill := { s.bill with dispHold := false, dispChanged := true } }) ∧
  (∀ s : State, s.bill.dispHold = false → exec .holdLimitExpiry s = .next s)

/-- Energy charges with their carry, credit transfers with duplicates and wrap, emergency credit and debt.
PREPAYMENT_ITEM of a meter whose item is in a flow of the cascade leaves the charge with the item, whose release
shows it (R213); while the application island is in a block reset it waits at its crossing; else it charges the
energy not yet charged once: the whole milli-units leave the balance and enter total charged (signed 64-bit, R13),
the rest is the carry; with prepayment off, or on a Standby, nothing is charged. CREDIT_TRANSFER of the last
identifier succeeds with no effect; of an accepted one, it gives the capped share to debt, the rest to the balance,
and is the last identifier; after 0xFFFFFFFF only 1 is accepted; no source, an amount of 0 or less, or a lower
identifier is "value invalid". Emergency credit is set only where allowed. ADJUST_DEBT below 0 is refused, of 0 is a
no-op, else adds to the debt. Other meters' ledgers stay. A transfer or a request under the broadcast handle goes to
every meter in use, and is refused whole where one meter refuses it (a choice of the model, log entry 40). Rests on:
12_prepayment_loads.md, R301, R302, R303, R304, R305, R306, R310. -/
def Obligations.LedgersAreChargedAndCredited : Prop :=
  (∀ (s : State) (h : Handle), s.pwr.islands.getD 8 .held ≠ .quiescing → s.pwr.islands.getD 8 .held ≠ .resetting →
    (s.prepayItem h.toNat = none → exec (.prepayItem h) s = .next (s.chargeDue h.toNat)) ∧
    (∀ it, s.prepayItem h.toNat = some it → exec (.prepayItem h) s =
      .next (s.setItem (0xC2C + h.toNat % 16) it.id (fun x => { x with work := some .charge })))) ∧
  (∀ (s : State) (h : Handle), (s.pwr.islands.getD 8 .held = .quiescing ∨ s.pwr.islands.getD 8 .held = .resetting) →
    exec (.prepayItem h) s = .next { s with pwr := { s.pwr with crossings := s.pwr.crossings ++ [(8, .prepayItem h)] } }) ∧
  (∀ (s : State) (h : Nat), (s.ledger h).due.all (· == 0) = true → s.chargeDue h = s) ∧
  (∀ (s : State) (h : Handle) (cost : Int), (s.ledger h.toNat).due.all (· == 0) = false →
    cost = (s.ledger h.toNat).due.zipIdx.foldl (fun n x => n + x.1 * (s.price h.toNat (x.2 + 1) : Int)) ((s.ledger h.toNat).eCarry : Int) →
    s.pwr.islands.getD 8 .held ≠ .quiescing → s.pwr.islands.getD 8 .held ≠ .resetting → s.prepayItem h.toNat = none →
    ∃ t : State, exec (.prepayItem h) s = .next t ∧ t.chargeDue h.toNat = t ∧
      (∀ k, k ≠ h.toNat → t.ledger k = s.ledger k) ∧
      ((s.payMode h.toNat = 0 ∨ s.isStandby = true) → (t.ledger h.toNat).balance = (s.ledger h.toNat).balance ∧
        (t.ledger h.toNat).charged = (s.ledger h.toNat).charged) ∧
      (s.payMode h.toNat ≠ 0 → s.isStandby = false →
        (t.ledger h.toNat).balance = wrapS 64 ((s.ledger h.toNat).balance - cost / 1000000) ∧
        (t.ledger h.toNat).charged = wrapS 64 ((s.ledger h.toNat).charged + cost / 1000000) ∧
        (t.ledger h.toNat).eCarry = (cost % 1000000).toNat ∧ (t.ledger h.toNat).debt = (s.ledger h.toNat).debt)) ∧
  (∀ (s : State) (r : Req) (arg : Bytes) (o : ObjRow), s.starts r 0xC05410 arg o → s.itemOf r o ≠ 0xFFFFF →
    (judgeTransfer (s.ledger (s.itemOf r o)) arg = .reject →
      exec (.creditTransfer r arg) s = .next (s.respond r (.abort .valueInvalid))) ∧
    (judgeTransfer (s.ledger (s.itemOf r o)) arg = .duplicate →
      exec (.creditTransfer r arg) s = .next (s.succeeds r 0xC05410 (s.itemOf r o))) ∧
    (judgeTransfer (s.ledger (s.itemOf r o)) arg = .accept →
      exec (.creditTransfer r arg) s = .next ((s.applyTransfer (s.itemOf r o) arg).succeeds r 0xC05410 (s.itemOf r o)))) ∧
  (∀ (s : State) (h : Nat) (arg : Bytes) (a toDebt : Int), a = toSigned 64 (fieldAt arg 4 8) →
    toDebt = min (a * (s.cfgN 0x705008 : Int) / 100) (s.ledger h).debt →
    ((s.applyTransfer h arg).ledger h).debt = (s.ledger h).debt - toDebt ∧
    ((s.applyTransfer h arg).ledger h).balance = wrapS 64 ((s.ledger h).balance + (a - toDebt)) ∧
    ((s.applyTransfer h arg).ledger h).credited = wrapS 64 ((s.ledger h).credited + a) ∧
    ((s.applyTransfer h arg).ledger h).lastId = BitVec.ofNat 32 (fieldAt arg 0 4) ∧
    (∀ k, k ≠ h → (s.applyTransfer h arg).ledger k = s.ledger k)) ∧
  (∀ (l : Ledger) (arg : Bytes), (fieldAt arg 0 4 = 0 ∨ fieldAt arg 12 1 = 0 ∨ 3 < fieldAt arg 12 1 ∨
      toSigned 64 (fieldAt arg 4 8) < 1 ∨ 1000000000000 < toSigned 64 (fieldAt arg 4 8)) → judgeTransfer l arg = .reject) ∧
  (∀ (l : Ledger) (arg : Bytes), fieldAt arg 0 4 ≠ 0 → 1 ≤ fieldAt arg 12 1 → fieldAt arg 12 1 ≤ 3 →
    1 ≤ toSigned 64 (fieldAt arg 4 8) → toSigned 64 (fieldAt arg 4 8) ≤ 1000000000000 →
    (fieldAt arg 0 4 = l.lastId.toNat → judgeTransfer l arg = .duplicate) ∧
    (l.lastId.toNat = 0xFFFFFFFF → fieldAt arg 0 4 ≠ 0xFFFFFFFF →
      judgeTransfer l arg = (if fieldAt arg 0 4 = 1 then .accept else .reject)) ∧
    (l.lastId.toNat ≠ 0xFFFFFFFF → l.lastId.toNat < fieldAt arg 0 4 → judgeTransfer l arg = .accept) ∧
    (l.lastId.toNat ≠ 0xFFFFFFFF → fieldAt arg 0 4 < l.lastId.toNat → judgeTransfer l arg = .reject)) ∧
  (∀ (s : State) (r : Req) (arg : Bytes) (o : ObjRow), s.starts r 0xC05411 arg o → s.itemOf r o ≠ 0xFFFFF →
    (s.ecAllowed (s.itemOf r o) = true → exec (.requestEmergencyCredit r arg) s =
      .next ((s.changeLedger (s.itemOf r o) (fun l => { l with ec := true })).succeeds r 0xC05411 (s.itemOf r o)) ∧
      ((s.changeLedger (s.itemOf r o) (fun l => { l with ec := true })).ledger (s.itemOf r o)).ec = true ∧
      (∀ k, k ≠ s.itemOf r o → (s.changeLedger (s.itemOf r o) (fun l => { l with ec := true })).ledger k = s.ledger k)) ∧
    (s.ecAllowed (s.itemOf r o) = false → exec (.requestEmergencyCredit r arg) s = .next (s.respond r (.abort .valueInvalid)))) ∧
  (∀ (s : State) (h : Nat), (s.cfgI 8 0x705001 < (s.ledger h).balance ∨ (s.ledger h).ec = true ∨ s.cfgN 0x705003 ≠ 2) →
    s.ecAllowed h = false) ∧
  (∀ (s : State) (h : Handle) (c : U16), s.cfgN 0x70500A ≠ 0 → c.toNat = s.cfgN 0x70500A → s.ecAllowed h.toNat = true →
    exec (.meterEcRequest h c) s = .next (s.changeLedger h.toNat (fun l => { l with ec := true }))) ∧
  (∀ (s : State) (h : Handle) (c : U16), (s.cfgN 0x70500A = 0 ∨ c.toNat ≠ s.cfgN 0x70500A ∨ s.ecAllowed h.toNat = false) →
    exec (.meterEcRequest h c) s = .next s) ∧
  (∀ (s : State) (r : Req) (arg : Bytes) (o : ObjRow) (d : Int), s.starts r 0xC05412 arg o → s.itemOf r o ≠ 0xFFFFF →
    d = toSigned 64 (leNat arg) →
    ((s.ledger (s.itemOf r o)).debt + d < 0 → exec (.adjustDebt r arg) s = .next (s.respond r (.abort .valueInvalid))) ∧
    (0 ≤ (s.ledger (s.itemOf r o)).debt → d = 0 → exec (.adjustDebt r arg) s = .next (s.succeeds r 0xC05412 (s.itemOf r o))) ∧
    (0 ≤ (s.ledger (s.itemOf r o)).debt + d → d ≠ 0 → ∃ t : State, exec (.adjustDebt r arg) s = .next (t.succeeds r 0xC05412 (s.itemOf r o)) ∧
      (t.ledger (s.itemOf r o)).debt = wrapS 64 ((s.ledger (s.itemOf r o)).debt + d) ∧
      (t.ledger (s.itemOf r o)).balance = (s.ledger (s.itemOf r o)).balance ∧
      (∀ k, k ≠ s.itemOf r o → t.ledger k = s.ledger k))) ∧
  (∀ (s : State) (r : Req) (arg : Bytes) (o : ObjRow), s.starts r 0xC05410 arg o → s.itemOf r o = 0xFFFFF →
    ((∃ p ∈ s.trust.meters, judgeTransfer (s.ledger p.1) arg = .reject) →
      exec (.creditTransfer r arg) s = .next (s.respond r (.abort .valueInvalid))) ∧
    ((∀ p ∈ s.trust.meters, judgeTransfer (s.ledger p.1) arg ≠ .reject) → exec (.creditTransfer r arg) s = .next
      (((((s.trust.meters.map (fun p => p.1)).filter (fun h => judgeTransfer (s.ledger h) arg == .accept)).foldl
        (fun (t : State) h => t.applyTransfer h arg) s)).succeeds r 0xC05410 0xFFFFF))) ∧
  (∀ (s : State) (r : Req) (arg : Bytes) (o : ObjRow), s.starts r 0xC05411 arg o → s.itemOf r o = 0xFFFFF →
    ((∃ p ∈ s.trust.meters, s.ecAllowed p.1 = false) →
      exec (.requestEmergencyCredit r arg) s = .next (s.respond r (.abort .valueInvalid))) ∧
    ((∀ p ∈ s.trust.meters, s.ecAllowed p.1 = true) → exec (.requestEmergencyCredit r arg) s = .next
      (((s.trust.meters.map (fun p => p.1)).foldl (fun (t : State) h => t.changeLedger h (fun l => { l with ec := true })) s).succeeds r
        0xC05411 0xFFFFF)))

/-- A due disconnection is sent or deferred with its reason; confirmations, repeats and reconnections. NOTICE_END and
DISCONNECT_ISSUE of a meter whose disconnection is not due change nothing; of a due one they send it where R307
names no reason, and otherwise defer it with the lowest reason, telling of a new deferral by PREPAY_DEFERRED. The
restoration hold defers for its minutes after the release of main reset and no longer. Its end and a change of
friendly hours test every ledger again and touch no other. An unconfirmed disconnection counts a failure. An
output_state confirms: a meter found disconnected is DISCONNECTED, a cancelled command is followed by a
reconnection, and a reconnection is over. A reconnection is sent where its condition holds, else nothing changes.
Rests on: 12_prepayment_loads.md, R307, R308, R309, R310. -/
def Obligations.DisconnectionsAndReconnections : Prop :=
  (∀ (s : State) (h : Handle), ((s.ledger h.toNat).st ≠ .exhausted ∧ (s.ledger h.toNat).st ≠ .deferred ∨
      (s.ledger h.toNat).disconnect = true ∨ (s.ledger h.toNat).notice = none ∨
      ∃ n, (s.ledger h.toNat).notice = some n ∧ s.line < n) →
    exec (.noticeEnd h) s = .next s ∧ exec (.disconnectIssue h) s = .next s) ∧
  (∀ (s : State) (h : Handle) (n : Int), ((s.ledger h.toNat).st = .exhausted ∨ (s.ledger h.toNat).st = .deferred) →
    (s.ledger h.toNat).disconnect = false → (s.ledger h.toNat).notice = some n → n ≤ s.line → s.deferReason h.toNat = none →
    ∃ t : State, exec (.noticeEnd h) s = .next t ∧ exec (.disconnectIssue h) s = .next t ∧ (t.ledger h.toNat).disconnect = true ∧
      (t.ledger h.toNat).cmd ≠ none ∧ (∀ k, k ≠ h.toNat → t.ledger k = s.ledger k) ∧
      t = { s with out := t.out, opens := t.opens, link := t.link, pair := t.pair, cas := t.cas, arch := t.arch, bill := t.bill }) ∧
  (∀ (s : State) (h : Handle) (n : Int) (k : Nat), ((s.ledger h.toNat).st = .exhausted ∨ (s.ledger h.toNat).st = .deferred) →
    (s.ledger h.toNat).disconnect = false → (s.ledger h.toNat).notice = some n → n ≤ s.line → s.deferReason h.toNat = some k →
    ∃ t : State, exec (.noticeEnd h) s = .next t ∧ exec (.disconnectIssue h) s = .next t ∧
      t.ledger h.toNat = { s.ledger h.toNat with st := .deferred, reason := k } ∧
      (∀ j, j ≠ h.toNat → t.ledger j = s.ledger j) ∧ t.field = s.field ∧ t.trust = s.trust) ∧
  (∀ (s : State) (h : Nat), (s.friendly s.billingNow = true → s.deferReason h = some 1) ∧
    (s.deferReason h = none → s.friendly s.billingNow = false ∧ s.time.untrusted = false ∧ s.isStandby = false ∧
      (s.ledger h).noControl = false)) ∧
  (∀ (s : State) (h : Nat), s.pwr.releasedAt + s.cfgN 0x705007 * 60 * 32768 ≤ s.time.mono → s.deferReason h ≠ some 4) ∧
  (∀ s : State, ∃ t : State, exec .restorationHoldEnd s = .next t ∧ t.time = s.time ∧ t.pwr = s.pwr ∧
    (∀ h, (s.ledger h).st ≠ .exhausted → (s.ledger h).st ≠ .deferred → t.ledger h = s.ledger h)) ∧
  (∀ s : State, ∃ t : State, exec .friendlyHoursChange s = .next t ∧ t.time = s.time ∧ t.pwr = s.pwr ∧
    (∀ h, (s.ledger h).st ≠ .exhausted → (s.ledger h).st ≠ .deferred → t.ledger h = s.ledger h)) ∧
  (∀ (s : State) (h : Handle), ((s.ledger h.toNat).cmd = none ∨ (s.ledger h.toNat).disconnect = false) →
    exec (.disconnectConfirmTimeout h) s = .next s) ∧
  (∀ (s : State) (h : Handle) (n : Nat), (s.ledger h.toNat).cmd = some n → (s.ledger h.toNat).disconnect = true →
    ∃ t : State, exec (.disconnectConfirmTimeout h) s = .next t ∧ (t.ledger h.toNat).cmd = some (n + 1) ∧
      (t.ledger h.toNat).st = (s.ledger h.toNat).st ∧
      (t.ledger h.toNat).failRaised = ((s.ledger h.toNat).failRaised || decide (3 ≤ n + 1)) ∧
      ((n + 1 < 3 ∨ (s.ledger h.toNat).failRaised = true) → t.ev = s.ev)) ∧
  (∀ (s : State) (h : Handle), ∃ t : State, exec (.outputStateResponse h .absent) s = .next t ∧ (t.ledger h.toNat).noControl = true ∧
    (t.ledger h.toNat).cmd = none ∧ (t.ledger h.toNat).recSent = false) ∧
  (∀ (s : State) (h : Handle) (n : Nat), (s.ledger h.toNat).cmd = some n →
    ∃ t : State, exec (.outputStateResponse h .disconnected) s = .next t ∧ (t.ledger h.toNat).cmd = none ∧
      (∀ k, k ≠ h.toNat → t.ledger k = s.ledger k) ∧
      ((s.ledger h.toNat).disconnect = true → (t.ledger h.toNat).st = .disconnected ∧ (t.ledger h.toNat).notice = none) ∧
      ((s.ledger h.toNat).disconnect = false → (t.ledger h.toNat).recSent = true)) ∧
  (∀ (s : State) (h : Handle), (s.ledger h.toNat).cmd = none → (s.ledger h.toNat).recSent = true → (s.ledger h.toNat).follow = false →
    (∃ t : State, exec (.outputStateResponse h .disconnected) s = .next t ∧ (t.ledger h.toNat).recSent = false ∧
      (t.ledger h.toNat).reconnect = false) ∧
    ∃ t : State, exec (.outputStateResponse h .connected) s = .next t ∧ (t.ledger h.toNat).recSent = false ∧
      (t.ledger h.toNat).reconnect = false) ∧
  (∀ (s : State) (h : Handle), (s.ledger h.toNat).reconnect = true → (s.ledger h.toNat).recSent = false →
    ((s.cfgI 8 0x705005 < (s.ledger h.toNat).balance ∧ (s.ledger h.toNat).ec = false) ∨ s.payMode h.toNat = 0) →
    ∃ t : State, exec (.reconnectIssue h) s = .next t ∧
      t.ledger h.toNat = { s.ledger h.toNat with reconnect := true, recSent := true } ∧
      (∀ k, k ≠ h.toNat → t.ledger k = s.ledger k)) ∧
  (∀ (s : State) (h : Handle), ((s.ledger h.toNat).reconnect = false ∨ (s.ledger h.toNat).recSent = true ∨
      (s.payMode h.toNat ≠ 0 ∧ ((s.ledger h.toNat).balance ≤ s.cfgI 8 0x705005 ∨ (s.ledger h.toNat).ec = true))) →
    exec (.reconnectIssue h) s = .next s)

/-- Manual overrides, the pacing and the retry of members, relays at their edges, the heat estimate and the staggered
release. Overrides 1 and 2 of an enabled group command it on or off, hold the override and put its members to be
commanded; 3 clears the override. GROUP_MEMBER_COMMAND sends at most the group's pacing limit of first commands
beside the retries, keeps those not acknowledged for one retry, skips DISCONNECTED members, and does nothing on a
Standby. RELAY_SWITCH moves a due relay, counts the operation, and does nothing where none is due. Each minute
counts, and every tenth stores the heat estimate. A release frees the coldest group that is wanted, raises
LOADGROUP_RELEASE, and a group not wanted is no longer held. Rests on: 12_prepayment_loads.md, R312, R313, R314,
R315, R316. -/
def Obligations.LoadGroupsAndRelaysSwitch : Prop :=
  (∀ (s : State) (r : Req) (o : ObjRow), s.starts r 0x706305 [1] o → s.cfgB 0x706101 (s.itemOf r o) = true →
    ∃ t : State, exec (.manualOn r) s = .next (t.succeeds r 0x706305 (s.itemOf r o)) ∧ (t.lgroup (s.itemOf r o)).manual = some true ∧
      (t.lgroup (s.itemOf r o)).on = true ∧ (t.lgroup (s.itemOf r o)).todo = s.groupMeters (s.itemOf r o) ∧
      (∀ g, g ≠ s.itemOf r o → t.lgroup g = s.lgroup g) ∧ t = { s with bill := t.bill }) ∧
  (∀ (s : State) (r : Req) (o : ObjRow), s.starts r 0x706305 [2] o → s.cfgB 0x706101 (s.itemOf r o) = true →
    ∃ t : State, exec (.manualOff r) s = .next (t.succeeds r 0x706305 (s.itemOf r o)) ∧ (t.lgroup (s.itemOf r o)).manual = some false ∧
      (t.lgroup (s.itemOf r o)).on = false ∧ (t.lgroup (s.itemOf r o)).todo = s.groupMeters (s.itemOf r o) ∧
      (∀ g, g ≠ s.itemOf r o → t.lgroup g = s.lgroup g) ∧ t = { s with bill := t.bill }) ∧
  (∀ (s : State) (r : Req) (o : ObjRow), s.starts r 0x706305 [3] o → exec (.backToSchedule r) s =
    .next ((s.setLgroup (s.itemOf r o) (fun x => { x with manual := none })).succeeds r 0x706305 (s.itemOf r o))) ∧
  (∀ (s : State) (g : Fin 32) (acked : List Handle), s.isStandby = true → exec (.groupMemberCommand g acked) s = .next s) ∧
  (∀ (s : State) (g : Fin 32), s.isStandby = false → (s.lgroup g.val).sent = [] →
    ∃ t : State, exec (.groupMemberCommand g []) s = .next t ∧
      (t.lgroup g.val).sent = ((((s.lgroup g.val).todo.filter (fun h => (s.ledger h).st != .disconnected)).take
        (s.cfgN 0x706109 g.val)).map (fun h => (h, false))) ∧
      (t.lgroup g.val).todo = ((s.lgroup g.val).todo.filter (fun h => (s.ledger h).st != .disconnected)).drop (s.cfgN 0x706109 g.val) ∧
      (t.lgroup g.val).sent.length ≤ s.cfgN 0x706109 g.val ∧ (∀ k, k ≠ g.val → t.lgroup k = s.lgroup k) ∧
      t = { s with out := t.out, opens := t.opens, link := t.link, cas := t.cas, bill := t.bill }) ∧
  (∀ (s : State) (g : Fin 32) (acked : List Handle) (h : Nat), s.isStandby = false → (h, false) ∈ (s.lgroup g.val).sent →
    h ∉ acked.map (·.toNat) → ∃ t : State, exec (.groupMemberCommand g acked) s = .next t ∧ (h, true) ∈ (t.lgroup g.val).sent) ∧
  (∀ (s : State) (g : Fin 32) (h : Nat), s.isStandby = false → (s.lgroup g.val).sent = [(h, true)] →
    ∃ t : State, exec (.groupMemberCommand g []) s = .next t ∧
      tblGet 0 t.bill.app.lgUnacked h = satInc (tblGet 0 s.bill.app.lgUnacked h)) ∧
  (∀ (s : State) (r : Fin 8), (s.relay r.val).due = none → exec (.relaySwitch r) s = .next s) ∧
  (∀ (s : State) (r : Fin 8) (b : Bool) (e : Nat), (s.relay r.val).due = some (b, e) →
    ∃ t : State, exec (.relaySwitch r) s = .next t ∧ (t.relay r.val).on = b ∧ (t.relay r.val).due = none ∧
      (t.relay r.val).ops = (s.relay r.val).ops + 1 ∧ (∀ k, k ≠ r.val → t.relay k = s.relay k) ∧ t = { s with bill := t.bill }) ∧
  (∀ s : State, ∃ t : State, exec .loadgroupMinute s = .next t ∧ t = { s with bill := t.bill } ∧
    (t.bill.hMinutes = if 9 ≤ s.bill.hMinutes then 0 else s.bill.hMinutes + 1) ∧
    (∀ g, s.cfgB 0x706101 g = true → g < 32 → (t.lgroup g).h = F64.unit (F64.fma (s.lgroup g).h (s.lgDecay g F64.one)
      (if (s.lgroup g).on then s.lgRate g else 0)))) ∧
  (∀ s : State, s.enabledGroups.filter (fun g => (s.lgroup g).held) = [] → exec .loadgroupRelease s = .next s) ∧
  (∀ (s : State) (held ready : List Nat) (g : Nat), s.isStandby = false → held = s.enabledGroups.filter (fun g => (s.lgroup g).held) →
    ready = held.filter (fun g => s.wanted g (s.windowAt g s.billingNow)) → coldest (ready.map (fun g => (g, (s.lgroup g).h))) = some g →
    ∃ u : State, exec .loadgroupRelease s = .next (u.raise 0x158 g) ∧ (u.lgroup g).on = true ∧ (u.lgroup g).held = false ∧
      (u.lgroup g).todo = s.groupMeters g ∧ (∀ k ∈ held, k ∉ ready → (u.lgroup k).held = false) ∧
      (∀ k ∈ ready, k ≠ g → u.lgroup k = s.lgroup k) ∧ u = { s with bill := u.bill }) ∧
  (∀ (s : State) (g : Nat), s.isStandby = false → g < 32 → s.enabledGroups.filter (fun g => (s.lgroup g).held) = [g] →
    (s.wanted g (s.windowAt g s.billingNow) = true → ∃ t : State, exec .loadgroupRelease s = .next t ∧ (t.lgroup g).on = true ∧
      (t.lgroup g).held = false ∧ (t.lgroup g).todo = s.groupMeters g) ∧
    (s.wanted g (s.windowAt g s.billingNow) = false → exec .loadgroupRelease s =
      .next (s.setLgroup g (fun x => { x with held := false }))))

/-- Archive appends, retention, failed blocks, upkeep, checkpoints and the restore. ARCHIVE_APPEND of a record that fits
puts it at the end of its class; while PFW_N is low or the storage island is held, one waits; one that does not fit
beside lossy classes that are empty waits, and ARCHIVE_FULL is raised once. The sweep leaves each class what is
within its retention. A failed block is grown bad, counted, and an uncorrectable Host Volume data unit is lost.
Upkeep (garbage collection, scrub, relocation) waits while the storage island is held, account UPKEEP has no
programs left or PFW_N is low (a scrub then reads and relocates nothing); garbage collection does nothing above 2 %
free. A scrub counts the reads, and a weak block is relocated, as is one read too often: erased once more, and
counted. A checkpoint that reads back is committed, and its entries retire; one that does not is written as the next
sequence. STATE_RESTORE brings back the durable state, once; a Station profile that stands in for a Head-end loads
the pages of its partners alone and leaves the others as they are. Rests on: 13_archive.md, R323, R324, R327, R328,
R329, R331, R332, R339, R340. -/
def Obligations.TheArchiveKeepsItsRecords : Prop :=
  (∀ (s : State) (c : Fin 10) (k : Bool) (j p : U32) (b : Bytes), (c.val = 0 ∨ 65535 < 16 + b.length) →
    exec (.archiveAppend c k j p b) s = .next s) ∧
  (∀ (s : State) (c : Fin 10) (k : Bool) (j p : U32) (b : Bytes), c.val ≠ 0 → 16 + b.length ≤ 65535 → s.pwr.pfw = false → s.isUp 4 = true →
    s.lossyStopped c.val = false → s.archiveUsed + (16 + b.length) ≤ s.archiveQuota →
    ∃ t : State, exec (.archiveAppend c k j p b) s = .next t ∧ t.recsOf c.val = s.recsOf c.val ++
        [({ coding := bit (k && decide (7 ≤ c.val)), subject := j, stamp := p.toNat, body := b, pos := tblGet 0 s.arch.pos c.val } : ArchRec)] ∧
      tblGet 0 t.arch.pos c.val = tblGet 0 s.arch.pos c.val + (16 + b.length) ∧
      (∀ d, d ≠ c.val → t.recsOf d = s.recsOf d) ∧ t = { s with arch := t.arch, cas := t.cas, opens := t.opens }) ∧
  (∀ (s : State) (c : Fin 10) (k : Bool) (j p : U32) (b : Bytes), c.val ≠ 0 → 16 + b.length ≤ 65535 → (s.pwr.pfw = true ∨ s.isUp 4 = false) →
    exec (.archiveAppend c k j p b) s = .next { s with arch := { s.arch with waiting := s.arch.waiting ++ [(c.val,
      { coding := bit (k && decide (7 ≤ c.val)), subject := j, stamp := p.toNat, body := b, pos := 0 })] } }) ∧
  (∀ (s : State) (c : Fin 10) (k : Bool) (j p : U32) (b : Bytes), c.val ≠ 0 → 16 + b.length ≤ 65535 → s.pwr.pfw = false → s.isUp 4 = true →
    s.lossyStopped c.val = false → s.archiveQuota < s.archiveUsed + (16 + b.length) → s.recsOf 7 = [] → s.recsOf 8 = [] →
    s.recsOf 9 = [] → ∃ t : State, exec (.archiveAppend c k j p b) s = .next t ∧ t.arch.fullRaised = true ∧ t.arch.recs = s.arch.recs ∧
      t.arch.waiting.length = s.arch.waiting.length + 1 ∧ (s.arch.fullRaised = true → t.ev = s.ev)) ∧
  (∀ s : State, s.arch.waiting = [] → ∃ t : State, exec .archiveRetentionSweep s = .next t ∧
    ∀ c, 1 ≤ c → c ≤ 9 → t.recsOf c = s.withinRetention c) ∧
  (∀ (s : State) (b : BitVec 18) (u : BitVec 14) (w : NandFail), (s.arch.blk b.toNat).bad ≠ 0 →
    exec (.nandOperationFail b u w) s = .next s) ∧
  (∀ (s : State) (b : BitVec 18) (u : BitVec 14) (w : NandFail), (s.arch.blk b.toNat).bad = 0 →
    ∃ t : State, exec (.nandOperationFail b u w) s = .next t ∧ (t.arch.blk b.toNat).bad = 2 ∧ (t.arch.blk b.toNat).units = [] ∧
      t.arch.grown = s.arch.grown + 1 ∧ (w ≠ .uncorrectable → t.arch.uncorr = s.arch.uncorr ∧ t.arch.recs = s.arch.recs) ∧
      (w = .uncorrectable → t.arch.uncorr = s.arch.uncorr + 1 ∧ ∀ l, (s.arch.blk b.toNat).region = 4 →
        (s.arch.blk b.toNat).units[u.toNat]? = some l → tblFind? t.arch.hvData l = none)) ∧
  (∀ s : State, s.arch.poolBlocks ≤ 50 * s.arch.freeBlocks → exec .garbageCollection s = .next s) ∧
  (∀ s : State, (s.isUp 4 = false ∨ s.allows 15 3 = false) → exec .garbageCollection s = .next s ∧
    (∀ b w, exec (.readScrub b w) s = .next s) ∧ (∀ b, exec (.readDisturbRelocate b) s = .next s)) ∧
  (∀ s : State, s.pwr.pfw = true → exec .garbageCollection s = .next s ∧ (∀ b, exec (.readDisturbRelocate b) s = .next s) ∧
    (∀ b, exec (.readScrub b true) s = exec (.readScrub b false) s)) ∧
  (∀ s : State, s.isUp 4 = true → s.pwr.pfw = false → s.allows 15 3 = true → 50 * s.arch.freeBlocks < s.arch.poolBlocks → ∃ t : State, exec .garbageCollection s = .next t ∧
    t.arch.hvData = s.arch.hvData ∧ t.arch.recs = s.arch.recs ∧
    (t.arch.readOnly = true ↔ t.arch.usable ≠ [] ∧ t.arch.freeBlocks ≤ t.arch.reserve)) ∧
  (∀ (s : State) (b : BitVec 18) (w : Bool), ((s.arch.blk b.toNat).units = [] ∨ (s.arch.blk b.toNat).bad ≠ 0) →
    exec (.readScrub b w) s = .next s) ∧
  (∀ (s : State) (b : BitVec 18), s.isUp 4 = true → s.allows 15 3 = true →
    (s.arch.blk b.toNat).units ≠ [] → (s.arch.blk b.toNat).bad = 0 →
    (∃ t : State, exec (.readScrub b false) s = .next t ∧ (t.arch.blk b.toNat).reads =
      (s.arch.blk b.toNat).reads + (s.arch.blk b.toNat).units.length ∧ t.arch.relocated = s.arch.relocated) ∧
    (s.pwr.pfw = false → ∃ t : State, exec (.readScrub b true) s = .next t ∧ (t.arch.blk b.toNat).units = [] ∧
      (t.arch.blk b.toNat).erases = (s.arch.blk b.toNat).erases + 1 ∧ t.arch.relocated = s.arch.relocated + 1)) ∧
  (∀ (s : State) (b : BitVec 18), ((s.arch.blk b.toNat).region = 0 ∨ (s.arch.blk b.toNat).bad ≠ 0 ∨
      (s.arch.blk b.toNat).reads < s.cfgN 0x800302) → exec (.readDisturbRelocate b) s = .next s) ∧
  (∀ (s : State) (b : BitVec 18), (s.arch.blk b.toNat).region ≠ 0 → (s.arch.blk b.toNat).bad = 0 →
    s.cfgN 0x800302 ≤ (s.arch.blk b.toNat).reads → s.isUp 4 = true → s.pwr.pfw = false → s.allows 15 3 = true → ∃ t : State, exec (.readDisturbRelocate b) s = .next t ∧
      (t.arch.blk b.toNat).erases = (s.arch.blk b.toNat).erases + 1 ∧ (t.arch.blk b.toNat).reads = 0 ∧
      t.arch.relocated = s.arch.relocated + 1 ∧ t.arch.hvData = s.arch.hvData) ∧
  (∀ (s : State) (n : U16) (b : Bool), (s.arch.ckpt = none ∨ s.isUp 4 = false ∨ s.allows 5 3 = false) →
    exec (.checkpointCommit n b) s = .next s) ∧
  (∀ (s : State) (n : U16) (t0 : Nat) (p : U32) (l : List U64), s.arch.ckpt = some (t0, p, l) →
    s.isUp 4 = true → s.allows 5 3 = true →
    (∃ t : State, exec (.checkpointCommit n false) s = .next t ∧ t.arch.nextSeq = s.arch.nextSeq + 1 ∧
      t.arch.committed = s.arch.committed ∧ t.arch.ckpt = s.arch.ckpt ∧ t.acc = s.acc) ∧
    ∃ t : State, exec (.checkpointCommit n true) s = .next t ∧ t.arch.committed = some s.arch.nextSeq ∧
      t.arch.ckpt = s.arch.ckptDue ∧ t.arch.ckptDue = none ∧
      (s.standsIn = false → t.bill.durable = s.bill.snapshot.getD s.bill.durable) ∧
      (s.standsIn = true → ∀ h, (tblFind? s.bill.durable.meters h).isSome = true → (tblFind? t.bill.durable.meters h).isSome = true) ∧
      (∀ e ∈ t.acc.journal, e.seq ∈ l → e.isOpen = false) ∧ (∀ e ∈ s.acc.journal, e.isOpen = true → e.seq ∉ l → e ∈ t.acc.journal)) ∧
  (∀ s : State, (s.arch.restored = true ∨ s.pwr.inReset = true) → exec .stateRestore s = .next s) ∧
  (∀ s : State, s.arch.restored = false → s.pwr.inReset = false → ∃ t : State, exec .stateRestore s = .next t ∧ t.arch.restored = true ∧
    t.arch.rdy = s.arch.ccEn ∧ (s.standsIn = false → t.bill.app = { s.bill.durable with
      stepSum := s.bill.app.stepSum, stepLog := s.bill.app.stepLog, splits := s.bill.app.splits
      lgSent := s.bill.app.lgSent, lgUnacked := s.bill.app.lgUnacked }) ∧
    (s.standsIn = true → ∀ h, (∀ p ∈ s.trust.pins, p / 64 ≠ h / 64) → tblFind? t.bill.app.meters h = none) ∧
    exec .stateRestore t = .next t)

/-- NVMe commands: refusals, reads and writes through the buffer, deallocation, erase, queues, features, events. A
command of a queue that the controller does not fetch from changes nothing; one fetched while the storage island is
held, account HV has no programs left or an earlier one waits, waits; any other completes on its queue. An I/O
command to an absent namespace is refused; a range beyond the volume is out of range; a written LBA reads as the
data written; FUA, Flush and the buffer timer leave the buffer empty; a read-only volume takes no write.
Deallocation unmaps its ranges only; Format takes SES 2 only and erases. Features, queues, Abort, asynchronous
events, log pages, an unsupported opcode, CC.EN and fetches of a map page, buffered in host memory or else in 32
pages on chip, act by R341 and R344. Status codes are log entry 23, PRESUMED. Rests on: 13_archive.md, R323, R340,
R341, R342, R343, R344. -/
def Obligations.TheHostVolumeAnswers : Prop :=
  (∀ (s : State) (c : NvCmd), s.fetches c = false →
    (∀ l n u, exec (.nvmeRead c l n u) s = .next s) ∧ (∀ l d f, exec (.nvmeWrite c l d f) s = .next s) ∧
    exec (.nvmeFlush c) s = .next s ∧ (∀ d r, exec (.nvmeDatasetManagement c d r) s = .next s) ∧
    (∀ e, exec (.nvmeFormat c e) s = .next s) ∧ (∀ n, exec (.nvmeIdentify c n) s = .next s) ∧
    (∀ n, exec (.nvmeGetLogPage c n) s = .next s) ∧ (∀ n v, exec (.nvmeSetFeatures c n v) s = .next s) ∧
    (∀ n, exec (.nvmeGetFeatures c n) s = .next s) ∧ (∀ b i z q, exec (.nvmeCreateIoQueue c b i z q) s = .next s) ∧
    (∀ b i, exec (.nvmeDeleteIoQueue c b i) s = .next s) ∧ (∀ q i, exec (.nvmeAbort c q i) s = .next s) ∧
    exec (.asynchronousEventRequest c) s = .next s ∧ exec (.nvmeInvalidOpcode c) s = .next s) ∧
  (∀ (s : State) (c : NvCmd), s.fetches c = true → (s.isUp 4 = false ∨ s.allows 12 3 = false ∨ s.arch.nvWait ≠ []) →
    (∀ i, s.nvHold i = { s with arch := { s.arch with nvWait := s.arch.nvWait ++ [i] } }) ∧
    (∀ l n u, exec (.nvmeRead c l n u) s = .next (s.nvHold (.nvmeRead c l n u))) ∧
    (∀ l d f, exec (.nvmeWrite c l d f) s = .next (s.nvHold (.nvmeWrite c l d f))) ∧
    exec (.nvmeFlush c) s = .next (s.nvHold (.nvmeFlush c)) ∧
    (∀ d r, exec (.nvmeDatasetManagement c d r) s = .next (s.nvHold (.nvmeDatasetManagement c d r))) ∧
    (∀ e, exec (.nvmeFormat c e) s = .next (s.nvHold (.nvmeFormat c e))) ∧
    (∀ n, exec (.nvmeIdentify c n) s = .next (s.nvHold (.nvmeIdentify c n))) ∧
    (∀ n, exec (.nvmeGetLogPage c n) s = .next (s.nvHold (.nvmeGetLogPage c n))) ∧
    (∀ n v, exec (.nvmeSetFeatures c n v) s = .next (s.nvHold (.nvmeSetFeatures c n v))) ∧
    (∀ n, exec (.nvmeGetFeatures c n) s = .next (s.nvHold (.nvmeGetFeatures c n))) ∧
    (∀ b i z q, exec (.nvmeCreateIoQueue c b i z q) s = .next (s.nvHold (.nvmeCreateIoQueue c b i z q))) ∧
    (∀ b i, exec (.nvmeDeleteIoQueue c b i) s = .next (s.nvHold (.nvmeDeleteIoQueue c b i))) ∧
    (∀ q i, exec (.nvmeAbort c q i) s = .next (s.nvHold (.nvmeAbort c q i))) ∧
    exec (.asynchronousEventRequest c) s = .next (s.nvHold (.asynchronousEventRequest c)) ∧
    exec (.nvmeInvalidOpcode c) s = .next (s.nvHold (.nvmeInvalidOpcode c))) ∧
  (∀ (s : State) (c : NvCmd) (st : Nat), s.fetches c = true → s.isUp 4 = true → s.allows 12 3 = true →
    s.arch.nvWait = [] → s.ioRefuses c = some st →
    (∀ l n u, exec (.nvmeRead c l n u) s = .next (s.nvDone c st)) ∧ (∀ l d f, exec (.nvmeWrite c l d f) s = .next (s.nvDone c st)) ∧
    exec (.nvmeFlush c) s = .next (s.nvDone c st) ∧ (∀ d r, exec (.nvmeDatasetManagement c d r) s = .next (s.nvDone c st))) ∧
  (∀ (s : State) (c : NvCmd) (lba : Nat) (n : U16), s.fetches c = true → s.isUp 4 = true → s.allows 12 3 = true →
    s.arch.nvWait = [] → s.ioRefuses c = none →
    (s.hvBlocks < lba + n.toNat → ∀ u, exec (.nvmeRead c lba n u) s = .next (s.nvDone c 0x80)) ∧
    (lba + n.toNat ≤ s.hvBlocks → exec (.nvmeRead c lba n true) s = .next (s.nvDone c 0x281) ∧
      ∃ t : State, ∃ d : Bytes, exec (.nvmeRead c lba n false) s = .next (t.nvDone c 0 d) ∧ t.arch.hvData = s.arch.hvData ∧ t.arch.wbuf = s.arch.wbuf)) ∧
  (∀ (s : State) (c : NvCmd) (lba : Nat) (d : Bytes), s.fetches c = true → s.isUp 4 = true → s.allows 12 3 = true →
    s.arch.nvWait = [] → s.ioRefuses c = none → lba < s.hvBlocks → s.arch.readOnly = false →
    (s.arch.wbuf.length + 1 < s.stripe → exec (.nvmeWrite c lba [d] false) s = .next ((({ s with arch := { s.arch with
      wbuf := s.arch.wbuf ++ [{ lba := lba, data := d, born := s.time.mono }] } } : State)).nvDone c 0)) ∧
    (∃ t : State, exec (.nvmeWrite c lba [d] true) s = .next (t.nvDone c 0) ∧ t.arch.wbuf = [] ∧
      tblFind? t.arch.hvData lba = some d) ∧
    (∀ f, ∃ t : State, exec (.nvmeWrite c lba [d] f) s = .next (t.nvDone c 0) ∧ (t.readLba lba).1 = d)) ∧
  (∀ (s : State) (c : NvCmd) (lba : Nat) (d : List Bytes) (f : Bool), s.fetches c = true → s.isUp 4 = true → s.allows 12 3 = true →
    s.arch.nvWait = [] → s.ioRefuses c = none →
    (s.hvBlocks < lba + d.length → exec (.nvmeWrite c lba d f) s = .next (s.nvDone c 0x80)) ∧
    (lba + d.length ≤ s.hvBlocks → s.arch.readOnly = true → exec (.nvmeWrite c lba d f) s = .next (s.nvDone c 0x20))) ∧
  (∀ s : State, (s.isUp 4 = false ∨ s.allows 12 3 = false) → exec .writeBufferProgram s = .next s) ∧
  (∀ s : State, s.isUp 4 = true → s.allows 12 3 = true → ∃ t : State, exec .writeBufferProgram s = .next t ∧ t.arch.wbuf = [] ∧
    (∀ l, (∀ w ∈ s.arch.wbuf, w.lba ≠ l) → tblFind? t.arch.hvData l = tblFind? s.arch.hvData l) ∧
    (∀ c, s.fetches c = true → s.isUp 4 = true → s.allows 12 3 = true →
    s.arch.nvWait = [] → s.ioRefuses c = none → exec (.nvmeFlush c) s = .next (t.nvDone c 0))) ∧
  (∀ (s : State) (c : NvCmd) (r : List (Nat × Nat)), s.fetches c = true → s.isUp 4 = true → s.allows 12 3 = true →
    s.arch.nvWait = [] → s.ioRefuses c = none → (∀ x ∈ r, x.2 = 0 ∨ x.1 + x.2 ≤ s.hvBlocks) →
    exec (.nvmeDatasetManagement c false r) s = .next (s.nvDone c 0) ∧
    ∃ t : State, exec (.nvmeDatasetManagement c true r) s = .next (t.nvDone c 0) ∧
      ∀ l, ((∃ x ∈ r, x.1 ≤ l ∧ l < x.1 + x.2) → tblFind? t.arch.hvData l = none ∧ ∀ w ∈ t.arch.wbuf, w.lba ≠ l) ∧
        ((∀ x ∈ r, ¬(x.1 ≤ l ∧ l < x.1 + x.2)) → tblFind? t.arch.hvData l = tblFind? s.arch.hvData l)) ∧
  (∀ (s : State) (c : NvCmd) (e : Nat), s.fetches c = true → s.isUp 4 = true → s.allows 12 3 = true →
    s.arch.nvWait = [] → s.hvPresent = true → c.nsid = 1 →
    (e ≠ 2 → exec (.nvmeFormat c e) s = .next (s.nvDone c 0x02)) ∧
    (exec (.nvmeFormat c 2) s = .next (s.eraseVolume.nvDone c 0) ∧ s.eraseVolume.arch.hvData = [] ∧
      s.eraseVolume.arch.keyGen = s.arch.keyGen + 1)) ∧
  (∀ (s : State) (c : NvCmd), s.fetches c = true → s.isUp 4 = true → s.allows 12 3 = true →
    s.arch.nvWait = [] →
    (c.nsid = 1 → exec (.nvmeIdentify c 0) s = .next (s.nvDone c 0 (Config.nvmeData 0 [s.hvBlocks]))) ∧
    exec (.nvmeIdentify c 1) s = .next (s.nvDone c 0 (Config.nvmeData 1 [1, 4, (s.hvPages * 16384 + 1048575) / 1048576, 64, 1])) ∧
    (∀ n, 2 < n → exec (.nvmeIdentify c n) s = .next (s.nvDone c 0x02)) ∧
    exec (.nvmeGetLogPage c 2) s = .next (({ s with arch := { s.arch with maskedEv := s.arch.maskedEv.filter (· != 2) } }).nvDone c 0
      (Config.nvmeData 18 [bit s.arch.readOnly * 8, s.percentUsed, min s.arch.freeBlocks s.arch.reserve * 100 / max s.arch.reserve 1])) ∧
    (∀ n, (n = 0 ∨ 3 < n) → exec (.nvmeGetLogPage c n) s = .next (s.nvDone c 0x109)) ∧
    (∀ n v, n ∉ [1, 6, 7, 0x0B, 0x0D] → exec (.nvmeSetFeatures c n v) s = .next (s.nvDone c 0x02) ∧
      exec (.nvmeGetFeatures c n) s = .next (s.nvDone c 0x02)) ∧
    (∀ n v, n ∈ [1, 6, 7, 0x0B] → exec (.nvmeSetFeatures c n v) s =
        .next (({ s with arch := { s.arch with feats := tblPut s.arch.feats n v } }).nvDone c 0) ∧
      exec (.nvmeGetFeatures c n) s = .next (s.nvDone c 0 (Config.nvmeData (32 + n) [tblGet 0 s.arch.feats n]))) ∧
    (∀ v, v / 2 < 64 → ∃ t : State, exec (.nvmeSetFeatures c 0x0D v) s = .next (t.nvDone c 0) ∧ t.arch.hmbMib = 0 ∧ t.arch.resident = []) ∧
    exec (.nvmeInvalidOpcode c) s = .next (s.nvDone c 0x01)) ∧
  (∀ (s : State) (c : NvCmd) (i z q : Nat), s.fetches c = true → s.isUp 4 = true → s.allows 12 3 = true →
    s.arch.nvWait = [] →
    (1 ≤ i → i ≤ 8 → 1 ≤ z → z ≤ 1024 → tblFind? s.arch.cqs i = none → ∃ t : State, exec (.nvmeCreateIoQueue c true i z q) s = .next (t.nvDone c 0) ∧
      tblFind? t.arch.cqs i = some { cq := i, size := z } ∧ t = { s with arch := { s.arch with cqs := t.arch.cqs } }) ∧
    (1 ≤ i → i ≤ 8 → 1 ≤ z → z ≤ 1024 → tblFind? s.arch.sqs i = none → tblFind? s.arch.cqs q ≠ none →
      ∃ t : State, exec (.nvmeCreateIoQueue c false i z q) s = .next (t.nvDone c 0) ∧ tblFind? t.arch.sqs i = some { cq := q, size := z } ∧
        t = { s with arch := { s.arch with sqs := t.arch.sqs } }) ∧
    (∀ b, (i = 0 ∨ 8 < i) → exec (.nvmeCreateIoQueue c b i z q) s = .next (s.nvDone c 0x101)) ∧
    (tblFind? s.arch.cqs i ≠ none → s.arch.sqs.any (fun p => p.2.cq == i) = true →
      exec (.nvmeDeleteIoQueue c true i) s = .next (s.nvDone c 0x10C)) ∧
    (tblFind? s.arch.cqs i ≠ none → s.arch.sqs.any (fun p => p.2.cq == i) = false →
      ∃ t : State, exec (.nvmeDeleteIoQueue c true i) s = .next (t.nvDone c 0) ∧ tblFind? t.arch.cqs i = none) ∧
    (tblFind? s.arch.sqs i ≠ none → ∃ t : State, exec (.nvmeDeleteIoQueue c false i) s = .next (t.nvDone c 0) ∧ tblFind? t.arch.sqs i = none)) ∧
  (∀ (s : State) (c : NvCmd) (i : Nat), s.fetches c = true → s.isUp 4 = true → s.allows 12 3 = true →
    s.arch.nvWait = [] →
    (i ∈ s.arch.aers → exec (.nvmeAbort c 0 i) s =
      .next ((({ s with arch := { s.arch with aers := s.arch.aers.erase i } }).emit (.nvme 0 i 0x07 [])).nvDone c 0 [0])) ∧
    (∀ q, (q ≠ 0 ∨ i ∉ s.arch.aers) → exec (.nvmeAbort c q i) s = .next (s.nvDone c 0 [1])) ∧
    (s.arch.events = [] → exec (.asynchronousEventRequest c) s = .next { s with arch := { s.arch with aers := s.arch.aers ++ [c.cid] } }) ∧
    (∀ e rest, s.arch.events = e :: rest → exec (.asynchronousEventRequest c) s =
      .next (({ s with arch := { s.arch with events := rest } }).nvDone c 0 (leBytes 4 e)))) ∧
  (∀ (s : State) (b : Bool), s.hvPresent = false → exec (.nvmeControllerEnable b) s = .next s) ∧
  (∀ s : State, s.hvPresent = true →
    exec (.nvmeControllerEnable true) s = .next { s with arch := { s.arch with ccEn := true, rdy := s.arch.restored, nsUp := true } } ∧
    ∃ t : State, exec (.nvmeControllerEnable false) s = .next t ∧ t.arch.rdy = false ∧ t.arch.ccEn = false ∧ t.arch.sqs = [] ∧ t.arch.cqs = [] ∧
      t.arch.hvData = s.arch.hvData ∧ t.arch.wbuf = s.arch.wbuf ∧ t = { s with arch := t.arch }) ∧
  (∀ (s : State) (p : U16) (x : Bytes), s.isUp 4 = false → exec (.hmbMapFetch p x) s = .next s) ∧
  (∀ (s : State) (p : U16) (x : Bytes), s.isUp 4 = true → s.arch.hmbMib < 64 →
    ∃ t : State, exec (.hmbMapFetch p x) s = .next t ∧ t.arch.mapChip.head? = some p.toNat ∧ t.arch.mapChip.length ≤ 32 ∧
      t.arch.resident = s.arch.resident ∧ t.arch.hvData = s.arch.hvData) ∧
  (∀ (s : State) (p : U16) (x : Bytes), s.isUp 4 = true → 64 ≤ s.arch.hmbMib → s.arch.resident.contains p.toNat = false →
    ∃ t : State, exec (.hmbMapFetch p x) s = .next t ∧ t.arch.resident.head? = some p.toNat ∧ t.arch.hvData = s.arch.hvData) ∧
  (∀ (s : State) (p : U16) (x : Bytes), s.isUp 4 = true → 64 ≤ s.arch.hmbMib → s.arch.resident.contains p.toNat = true →
    ((Config.cmac ((s.slotKey 20).getD []) x).take 8 = (Config.cmac ((s.slotKey 20).getD []) (s.mapPage p.toNat)).take 8 →
      ∃ t : State, exec (.hmbMapFetch p x) s = .next t ∧ t.arch.resident.head? = some p.toNat ∧
        t = { s with arch := { s.arch with resident := t.arch.resident } }) ∧
    ((Config.cmac ((s.slotKey 20).getD []) x).take 8 ≠ (Config.cmac ((s.slotKey 20).getD []) (s.mapPage p.toNat)).take 8 →
      ∃ t : State, exec (.hmbMapFetch p x) s = .next t ∧ t.arch.hmbBad = s.arch.hmbBad + 1 ∧ t.arch.hvData = s.arch.hvData))

/-- Downloads, activations, trials, confirmation, fallback and migration of the device's own images. BEGIN_DOWNLOAD of a
header that passes, with no session and no trial, empties the slot that is not active and opens the session; a
header that passes is signed and not below its fuse counter. IMAGE_BLOCK of a sound block stores it, without a
session it is refused. FINISH with a digest that agrees stages the image, one that does not fails and ends the
session. ABANDON leaves the slot empty. ACTIVATE of a set that may be activated is scheduled; its reset comes with
cause 7 and the trial not yet started. CONFIRM_HEALTH ends a healthy trial with outcome 1; an expired window falls
back with outcome 2; a migration keeps the old bank. Rests on: 14_updates.md, R131, R349, R350, R351, R352, R353,
R355. -/
def Obligations.UpdatesRunFromDownloadToTrial : Prop :=
  (∀ (s : State) (r : Req) (arg : Bytes) (o : ObjRow), s.starts r 0xA06001 arg o →
    ((s.upd.dl ≠ none ∨ s.upd.trial ≠ none) → exec (.beginDownload r arg) s = .next (s.respond r (.abort .deviceBusy))) ∧
    (s.upd.dl = none → s.upd.trial = none → s.headerOk arg = false →
      exec (.beginDownload r arg) s = .next (s.respond r (.abort .valueInvalid))) ∧
    (s.upd.dl = none → s.upd.trial = none → s.headerOk arg = true →
      ∃ t : State, exec (.beginDownload r arg) s = .next (t.succeeds r 0xA06001 (s.itemOf r o)) ∧ t.upd.dl = some (fieldAt arg 4 1) ∧
        t.upd.dlState = 1 ∧ t.fw (fieldAt arg 4 1) (s.otherSlot (fieldAt arg 4 1)) = { st := .empty, header := arg } ∧
        t.fw (fieldAt arg 4 1) (s.activeSlot (fieldAt arg 4 1)) = s.fw (fieldAt arg 4 1) (s.activeSlot (fieldAt arg 4 1)) ∧
        t = { s with upd := t.upd })) ∧
  (∀ (s : State) (h : Bytes), s.headerOk h = true → s.signed h = true ∧ s.svnOf (fieldAt h 4 1) ≤ hdrSvn h ∧
    hdrLen h + 512 ≤ imageLimit (fieldAt h 4 1)) ∧
  (∀ (s : State) (r : Req) (arg : Bytes) (o : ObjRow), s.starts r 0xA06002 arg o →
    (s.upd.dl = none → exec (.imageBlock r arg) s = .next (s.respond r (.abort .valueInvalid))) ∧
    (∀ k, s.upd.dl = some k → blockOk arg (hdrLen (s.fw k (s.otherSlot k)).header) = true →
      ∃ t : State, exec (.imageBlock r arg) s = .next (t.succeeds r 0xA06002 (s.itemOf r o)) ∧
        tblFind? (t.fw k (s.otherSlot k)).blocks (fieldAt arg 0 4) = some (slice arg 4 4096) ∧
        t.fw k (s.activeSlot k) = s.fw k (s.activeSlot k) ∧ t = { s with upd := t.upd, cas := t.cas })) ∧
  (∀ (s : State) (r : Req) (arg : Bytes) (o : ObjRow) (k : Nat), s.starts r 0xA06003 arg o → s.upd.dl = some k →
    hdrBlocks (s.fw k (s.otherSlot k)).header ≤ (s.fw k (s.otherSlot k)).blocks.length →
    ((s.fw k (s.otherSlot k)).digestOk = true → ∃ t : State, exec (.finishDownload r arg) s = .next (t.succeeds r 0xA06003 (s.itemOf r o)) ∧
      (t.fw k (s.otherSlot k)).st = .staged ∧ t.upd.dl = none ∧ t.upd.dlState = 3 ∧ t = { s with upd := t.upd }) ∧
    ((s.fw k (s.otherSlot k)).digestOk = false → exec (.finishDownload r arg) s = .next (((({ s with
      upd := { s.upd with dl := none, dlState := 4 } } : State)).raise 0x210 k).fails r 0xA06003 (s.itemOf r o) .valueInvalid))) ∧
  (∀ (s : State) (r : Req) (arg : Bytes) (o : ObjRow), s.starts r 0xA06003 arg o → s.upd.dl = none →
    exec (.finishDownload r arg) s = .next (s.respond r (.abort .valueInvalid))) ∧
  (∀ (s : State) (r : Req) (arg : Bytes) (o : ObjRow), s.starts r 0xA06006 arg o →
    (s.upd.dl = none → exec (.abandonDownload r arg) s = .next (s.succeeds r 0xA06006 (s.itemOf r o))) ∧
    (∀ k, s.upd.dl = some k → ∃ t : State, exec (.abandonDownload r arg) s = .next (t.succeeds r 0xA06006 (s.itemOf r o)) ∧
      t.fw k (s.otherSlot k) = {} ∧ t.upd.dl = none ∧ t.upd.dlState = 0 ∧ t = { s with upd := t.upd })) ∧
  (∀ (s : State) (r : Req) (arg : Bytes) (o : ObjRow), s.starts r 0xA06101 arg o →
    (1000000000 ≤ fieldAt arg 9 4 → exec (.activate r arg) s = .next (s.respond r (.abort .valueInvalid))) ∧
    (fieldAt arg 9 4 < 1000000000 → fieldAt arg 0 1 = 0 → exec (.activate r arg) s = .next (s.succeeds r 0xA06101 (s.itemOf r o))) ∧
    (fieldAt arg 9 4 < 1000000000 → fieldAt arg 0 1 ≠ 0 → (s.upd.dl ≠ none ∨ s.upd.trial ≠ none) →
      exec (.activate r arg) s = .next (s.respond r (.abort .deviceBusy))) ∧
    (fieldAt arg 9 4 < 1000000000 → fieldAt arg 0 1 ≠ 0 → fieldAt arg 0 1 < 8 → s.upd.dl = none → s.upd.trial = none →
      (∀ k ∈ maskKinds (fieldAt arg 0 1), s.activable k = true) →
      ∃ t : State, exec (.activate r arg) s = .next (t.succeeds r 0xA06101 (s.itemOf r o)) ∧
        t.upd.activation = some (fieldAt arg 0 1, ofTime64 (slice arg 1 12)) ∧ t.upd.trial = none ∧ t.upd.slots = s.upd.slots)) ∧
  (∀ s : State, (s.upd.activation = none ∨ ∃ m a, s.upd.activation = some (m, a) ∧ s.time.net < a) →
    exec .activationReset s = .next s) ∧
  (∀ (s : State) (m a : Nat), s.upd.activation = some (m, a) → a ≤ s.time.net → s.pwr.inReset = false →
    (∀ k ∈ maskKinds m, s.activable k = true) → ∃ t : State, exec .activationReset s = .next t ∧ t.pwr.inReset = true ∧
      t.pwr.nextCause = some 7 ∧ t.upd.activation = none ∧ t.upd.active = s.upd.active ∧
      (∃ x, t.upd.trial = some x ∧ x.mask = m ∧ x.started = false ∧ x.window = s.cfgN 0xA06102)) ∧
  (∀ (s : State) (m a : Nat), s.upd.activation = some (m, a) → a ≤ s.time.net → (∃ k ∈ maskKinds m, s.activable k = false) →
    exec .activationReset s = .next { s with upd := { s.upd with activation := none } }) ∧
  (∀ (s : State) (r : Req) (arg : Bytes) (o : ObjRow) (b : List Nat), s.starts r 0xA06103 arg o →
    (s.upd.trial = none → exec (.confirmHealth r arg b) s = .next (s.respond r (.abort .deviceBusy))) ∧
    (∀ x, s.upd.trial = some x → (x.started = false ∨ x.migrated = false ∨ s.blockResetSince = true ∨ s.setRuns x.mask = false) →
      exec (.confirmHealth r arg b) s = .next (s.respond r (.abort .deviceBusy))) ∧
    (∀ x, s.upd.trial = some x → x.started = true → x.migrated = true → s.blockResetSince = false → s.setRuns x.mask = true →
      ∃ t : State, exec (.confirmHealth r arg b) s = .next t ∧ t.upd.trial = none ∧ t.upd.outcome = 1 ∧ t.upd.oldBank = [])) ∧
  (∀ s : State, s.upd.trial = none → exec .healthWindowExpiry s = .next s) ∧
  (∀ (s : State) (x : Trial), s.upd.trial = some x →
    ((x.started = false ∨ s.time.mono < x.since + x.window * 60 * 32768) → exec .healthWindowExpiry s = .next s) ∧
    (x.started = true → x.since + x.window * 60 * 32768 ≤ s.time.mono → ∃ t : State, exec .healthWindowExpiry s = .next t ∧
      t.upd.trial = none ∧ t.upd.outcome = 2 ∧ t.upd.schema = s.upd.oldSchema ∧ t.pwr.atPeriod = some 7)) ∧
  (∀ (s : State) (v : List (ObjKey × Nat × Bytes)) (b : Bool), (s.upd.trial = none ∨ ∃ x, s.upd.trial = some x ∧
      (x.started = false ∨ x.migrated = true)) → exec (.configurationMigration v b) s = .next s) ∧
  (∀ (s : State) (v : List (ObjKey × Nat × Bytes)) (x : Trial), s.upd.trial = some x → x.started = true → x.migrated = false →
    (∃ t : State, exec (.configurationMigration v true) s = .next t ∧ t.upd.trial = some { x with migrated := true } ∧
      t.upd.schema = s.setSchema x.mask ∧ t = { s with dict := { s.dict with vals := t.dict.vals }, upd := t.upd }) ∧
    ∃ t : State, exec (.configurationMigration v false) s = .next t ∧ t.upd.trial = none ∧ t.upd.outcome = 5)

/-- Campaign definitions, content, control, targets, multicast frames, unicast steps, answers and attempts. The kind of
a campaign that is unused or a draft is written and makes it a draft, of another is refused "device busy".
CONTENT_BLOCK of a sound block is stored in a draft only. Verify, start, pause, resume, cancel and delete move a
campaign between its states and are refused in any other; cancel leaves no target that has not ended; delete forgets
it. Added targets are the meters in the ranges, removed ones are gone. A multicast block leaves only in a running
campaign. A step is sent once and counted; answers advance a target or fail it with its reason; exhausted attempts
fail with reason 4; the activation time makes verified targets due. Rests on: 14_updates.md, R351, R357, R358, R359,
R361, R362, R363. -/
def Obligations.CampaignsReachTheirMeters : Prop :=
  (∀ (s : State) (r : Req) (v : Bytes) (o : ObjRow), s.writes r 0xA08101 v o →
    (1 < (s.camp (s.itemOf r o)).st → exec (.campaignKindWrite r v) s = .next (s.respond r (.abort .deviceBusy))) ∧
    ((s.camp (s.itemOf r o)).st ≤ 1 → r.storeOk = true → ∃ t : State, exec (.campaignKindWrite r v) s = .next t ∧
      (t.camp (s.itemOf r o)).st = (if leNat v = 0 then (s.camp (s.itemOf r o)).st else 1) ∧ (t.camp (s.itemOf r o)).content = (s.camp (s.itemOf r o)).content ∧
      (∀ c, c ≠ (s.itemOf r o) → t.camp c = s.camp c))) ∧
  (∀ (s : State) (r : Req) (arg : Bytes) (o : ObjRow), s.starts r 0xA08201 arg o →
    ((s.camp (s.itemOf r o)).st ≠ 1 → exec (.contentBlock r arg) s = .next (s.respond r (.abort .deviceBusy))) ∧
    ((s.camp (s.itemOf r o)).st = 1 → blockOk arg (s.cdef (s.itemOf r o) 3) = true → s.contentHeld < 65536 →
      exec (.contentBlock r arg) s = .next ((s.setCamp (s.itemOf r o) (fun x => { x with
        content := tblPut x.content (fieldAt arg 0 4) (slice arg 4 4096) })).succeeds r 0xA08201 (s.itemOf r o)))) ∧
  (∀ (s : State) (r : Req) (o : ObjRow), s.starts r 0xA08202 [1] o → (s.camp (s.itemOf r o)).st = 1 →
    (s.campaignOk (s.itemOf r o) = true → exec (.verify r) s = .next (((s.setCamp (s.itemOf r o) (fun x => { x with st := 2 })).mirror .configuration
      (0xA08202 * 2 ^ 20 + (s.itemOf r o)) (s.campaignBytes (s.itemOf r o))).succeeds r 0xA08202 (s.itemOf r o))) ∧
    (s.campaignOk (s.itemOf r o) = false → exec (.verify r) s = .next (s.fails r 0xA08202 (s.itemOf r o) .valueInvalid))) ∧
  (∀ (s : State) (r : Req) (o : ObjRow), s.starts r 0xA08202 [2] o → (s.camp (s.itemOf r o)).st = 2 →
    exec (.start r) s = .next (((s.setCamp (s.itemOf r o) (fun x => { x with st := 3 })).placeAll).succeeds r 0xA08202 (s.itemOf r o))) ∧
  (∀ (s : State) (r : Req) (o : ObjRow), s.starts r 0xA08202 [3] o → (s.camp (s.itemOf r o)).st = 3 →
    exec (.pause r) s = .next ((s.setCamp (s.itemOf r o) (fun x => { x with st := 4 })).succeeds r 0xA08202 (s.itemOf r o))) ∧
  (∀ (s : State) (r : Req) (o : ObjRow), s.starts r 0xA08202 [4] o → (s.camp (s.itemOf r o)).st = 4 →
    exec (.resume r) s = .next (((s.setCamp (s.itemOf r o) (fun x => { x with st := 3 })).placeAll).succeeds r 0xA08202 (s.itemOf r o))) ∧
  (∀ (s : State) (r : Req) (o : ObjRow), s.starts r 0xA08202 [5] o → 2 ≤ (s.camp (s.itemOf r o)).st → (s.camp (s.itemOf r o)).st ≤ 4 →
    ∃ t : State, exec (.cancel r) s = .next (t.succeeds r 0xA08202 (s.itemOf r o)) ∧ (t.camp (s.itemOf r o)).st = 7 ∧
      ∀ h x, tblFind? (t.camp (s.itemOf r o)).targets h = some x → x.final = true) ∧
  (∀ (s : State) (r : Req) (o : ObjRow), s.starts r 0xA08202 [6] o → (s.camp (s.itemOf r o)).st ∈ [1, 2, 6, 7] →
    exec (.delete r) s = .next ((s.forgetCampaign (s.itemOf r o)).succeeds r 0xA08202 (s.itemOf r o)) ∧ (s.forgetCampaign (s.itemOf r o)).camp (s.itemOf r o) = {} ∧
      ∀ c, c ≠ (s.itemOf r o) → (s.forgetCampaign (s.itemOf r o)).camp c = s.camp c) ∧
  (∀ (s : State) (r : Req) (o : ObjRow), s.starts r 0xA08202 [1] o → (s.camp (s.itemOf r o)).st ≠ 1 → exec (.verify r) s = .next (s.respond r (.abort .deviceBusy))) ∧
  (∀ (s : State) (r : Req) (o : ObjRow), s.starts r 0xA08202 [2] o → (s.camp (s.itemOf r o)).st ≠ 2 → exec (.start r) s = .next (s.respond r (.abort .deviceBusy))) ∧
  (∀ (s : State) (r : Req) (o : ObjRow), s.starts r 0xA08202 [3] o → (s.camp (s.itemOf r o)).st ≠ 3 → exec (.pause r) s = .next (s.respond r (.abort .deviceBusy))) ∧
  (∀ (s : State) (r : Req) (o : ObjRow), s.starts r 0xA08202 [4] o → (s.camp (s.itemOf r o)).st ≠ 4 → exec (.resume r) s = .next (s.respond r (.abort .deviceBusy))) ∧
  (∀ (s : State) (r : Req) (o : ObjRow), s.starts r 0xA08202 [5] o → ((s.camp (s.itemOf r o)).st < 2 ∨ 4 < (s.camp (s.itemOf r o)).st) → exec (.cancel r) s = .next (s.respond r (.abort .deviceBusy))) ∧
  (∀ (s : State) (r : Req) (o : ObjRow), s.starts r 0xA08202 [6] o → (s.camp (s.itemOf r o)).st ∉ [1, 2, 6, 7] → exec (.delete r) s = .next (s.respond r (.abort .deviceBusy))) ∧
  (∀ (s : State) (r : Req) (arg : Bytes) (o : ObjRow) (l : List (Nat × Nat)), s.starts r 0xA08301 arg o → targetRanges arg = some l → l ≠ [] →
    1 ≤ (s.camp (s.itemOf r o)).st → (s.camp (s.itemOf r o)).st ≤ 4 → ∃ t : State, exec (.addTargets r arg) s = .next (t.succeeds r 0xA08301 (s.itemOf r o)) ∧
      ∀ h, ((∃ v, (h, v) ∈ s.trust.meters) ∧ inRanges l h = true ∨ tblFind? (s.camp (s.itemOf r o)).targets h ≠ none) ↔
        tblFind? (t.camp (s.itemOf r o)).targets h ≠ none) ∧
  (∀ (s : State) (r : Req) (arg : Bytes) (o : ObjRow) (l : List (Nat × Nat)), s.starts r 0xA08302 arg o → targetRanges arg = some l → l ≠ [] →
    1 ≤ (s.camp (s.itemOf r o)).st → (s.camp (s.itemOf r o)).st ≤ 4 → ∃ t : State, exec (.removeTargets r arg) s = .next (t.succeeds r 0xA08302 (s.itemOf r o)) ∧
      ∀ h, inRanges l h = true → tblFind? (t.camp (s.itemOf r o)).targets h = none) ∧
  (∀ (s : State) (c : Fin 64) (p : Fin 24), ((s.camp c.val).st ≠ 3 ∨ s.mayTransmit p.val = false ∨ s.pwr.quiet = true ∨
      s.cdef c.val 9 ≤ (s.passOf c.val p.val).1) → exec (.campaignMulticastTx c p) s = .next s) ∧
  (∀ (s t : State) (c : Fin 64) (p : Fin 24) (b n : Nat) (l : List (Nat × Nat)), (s.camp c.val).st = 3 → s.mayTransmit p.val = true →
    s.pwr.quiet = false → (s.passOf c.val p.val).1 < s.cdef c.val 9 → s.billingWaits (0xC00 + p.val) = false →
    s.nextBlock c.val p.val (s.campBlocks c.val) (s.passOf c.val p.val).2.1 = some b → s.isNative p.val = false → isRf p.val = false →
    s.cdef c.val 6 ≠ 0 → s.isUp 2 = true → s.keyCheck (s.cdef c.val 6) .dlms false = .ok n →
    s.shareFits c.val p.val ((s.openVal 103).1.toNat % 600000) = true →
    l = (s.time.net, (s.openVal 103).1.toNat % 600000) :: s.lately c.val p.val →
    t = ((s.openVal 103).2.usedSlot n).chargeKey (some 8) → exec (.campaignMulticastTx c p) s =
      .next ((((({ t with upd := { t.upd with stdSent := tblPut t.upd.stdSent (p.val * 64 + c.val) l } }).drive p.val (s.pcfg p.val 1 1)).emit (.stdTx p.val (s.pcfg p.val 1 1) 0xFFFFF
        (s.stdParam p.val (s.pcfg p.val 1 1)) (Config.dlms (s.apduForm 0xFFFFF (s.requestOf (.campaign c.val 0 0 b))) 0xFFFFF 13
        [(c.val : Int), (b : Int)] ++ s.campBlock c.val b))).bumpPort p.val 9).passOn c.val p.val b 0)) ∧
  (∀ (s t u v : State) (c : Fin 64) (p : Fin 24) (b k : Nat) (key : Bytes), (s.camp c.val).st = 3 → s.mayTransmit p.val = true →
    s.pwr.quiet = false → (s.passOf c.val p.val).1 < s.cdef c.val 9 → s.billingWaits (0xC00 + p.val) = false →
    s.nextBlock c.val p.val (s.campBlocks c.val) (s.passOf c.val p.val).2.1 = some b → s.isNative p.val = true →
    k = (if b = (s.passOf c.val p.val).2.1 then (s.passOf c.val p.val).2.2 else 0) → s.campSlot c.val p.val = true →
    s.slotOpen p.val (1 + (s.openVal 104).1.toNat % 32) none = true → (s.fport p.val).began = true →
    (isRf p.val = true → s.pcfg p.val 6 2 ≠ 0 ∧
      s.dutyFits p.val (airtime (s.pcfg p.val 3 2) ((s.campFrame c.val p.val b k).length + 29)) = true) →
    (s.openVal 104).2.lineKey (some 8) (s.netKey p.val) .ccm = (some key, t) →
    u = t.transmit p.val (nativeFrame 3 (s.station p.val) 0xFFFFF [] (s.portClock p.val % 2 ^ 32) 1 key (s.campFrame c.val p.val b k)) →
    v = { u with upd := { u.upd with lastFrame := tblPut u.upd.lastFrame (p.val * 64 + c.val) (s.portClock p.val) } } →
    exec (.campaignMulticastTx c p) s = .next (v.passOn c.val p.val b k)) ∧
  (∀ (s : State) (c : Fin 64) (h : Handle), tblFind? (s.camp c.val).targets h.toNat = none →
    exec (.campaignUnicastStep c h) s = .next s ∧ exec (.campaignAttemptTimeout c h) s = .next s ∧
      ∀ a, exec (.campaignResponse c h a) s = .next s) ∧
  (∀ (s : State) (c : Fin 64) (h : Handle) (x : Target), tblFind? (s.camp c.val).targets h.toNat = some x →
    ((s.unicastOpen c.val h.toNat = false ∨ s.stepDue c.val h.toNat x = false ∨ (x.attempts ≠ 0 ∧ x.st ≠ 6)) →
      exec (.campaignUnicastStep c h) s = .next s) ∧
    (s.unicastOpen c.val h.toNat = true → s.stepDue c.val h.toNat x = true → x.attempts = 0 →
      ∃ t : State, exec (.campaignUnicastStep c h) s = .next t ∧ (t.camp c.val).unicasts = (s.camp c.val).unicasts + 1 ∧
        ∃ y, tblFind? (t.camp c.val).targets h.toNat = some y ∧ y.attempts = 1 ∧ y.last = s.time.net ∧
          y.st = (if x.st = 6 then 7 else x.st))) ∧
  (∀ (s : State) (c : Fin 64) (h : Handle) (x : Target), tblFind? (s.camp c.val).targets h.toNat = some x →
    (x.attempts = 0 → ∀ a, exec (.campaignResponse c h a) s = .next s) ∧
    (x.attempts ≠ 0 → (s.camp c.val).st = 3 →
      (x.st = 2 → x.phase = 0 → ∀ z, (∃ t : State, ∃ y : Target, exec (.campaignResponse c h (.attributes z false)) s = .next t ∧
          tblFind? (State.camp t c.val).targets h.toNat = some y ∧ y.st = 9 ∧ y.reason = 2) ∧
        (s.cdef c.val 2 ≤ z → exec (.campaignResponse c h (.attributes z true)) s =
          .next (s.setTarget c.val h.toNat (fun y => { y with phase := 1, attempts := 0 })))) ∧
      (x.st = 5 → x.phase = 1 → 0 < x.verifyFails → ∃ t : State, ∃ y : Target, exec (.campaignResponse c h (.status 4)) s = .next t ∧
        tblFind? (State.camp t c.val).targets h.toNat = some y ∧ y.st = 9 ∧ y.reason = 5) ∧
      (x.st = 7 → x.phase = 1 → ∃ t : State, ∃ y : Target, exec (.campaignResponse c h (.status 6)) s = .next t ∧
        tblFind? (State.camp t c.val).targets h.toNat = some y ∧ y.st = 8))) ∧
  (∀ (s : State) (c : Fin 64) (h : Handle) (x : Target), tblFind? (s.camp c.val).targets h.toNat = some x →
    ((x.attempts = 0 ∨ x.final = true ∨ (s.camp c.val).st ≠ 3 ∨ s.time.net < x.last + s.cdef c.val 12 * 1000000000) →
      exec (.campaignAttemptTimeout c h) s = .next s) ∧
    (x.attempts ≠ 0 → x.final = false → (s.camp c.val).st = 3 → x.last + s.cdef c.val 12 * 1000000000 ≤ s.time.net →
      s.cdef c.val 11 ≤ x.attempts → ∃ t : State, ∃ y : Target, exec (.campaignAttemptTimeout c h) s = .next t ∧
        tblFind? (State.camp t c.val).targets h.toNat = some y ∧ y.st = 9 ∧ y.reason = 4)) ∧
  (∀ (s : State) (c : Fin 64), ((s.camp c.val).st ≠ 3 ∨ s.time.net < ofTime64 (s.cfgBytes 0xA08107 c.val)) →
    exec (.campaignActivationTime c) s = .next s) ∧
  (∀ (s : State) (c : Fin 64), (s.camp c.val).st = 3 → ofTime64 (s.cfgBytes 0xA08107 c.val) ≤ s.time.net →
    exec (.campaignActivationTime c) s = .next (s.setCamp c.val (fun x => { x with targets := x.targets.map (fun p =>
      if p.2.st = 6 then (p.1, { p.2 with due := true }) else p) })))

/-- A claim round's winner and CLAIM_WON, the health score and its lease, faults that force it to 0, line faults and
restarts. A Solo unit's rounds change nothing. A unit that drives the higher claim wins, one that drives the lower
loses and lowers CLAIM_WON outside a line fault, one that drives 0 neither wins nor loses. A Standby whose partner
is silent becomes ACTIVE with its second free win. HEALTH_EVALUATION leaves the conditions and the score they give,
0 where one is forced; a missed lease, a lost clock and an uncorrectable error in a critical memory force it to 0,
release the claim and a holder's CLAIM_WON. A stuck line voids the round and counts one fault an episode. A FAILED
unit restarts within its limit. Rests on: 15_pairing.md, R371, R372, R373, R374, R375, R376, R378, R428. -/
def Obligations.ClaimsHealthAndLineFaults : Prop :=
  (∀ (s : State) (p : Option (U8 × Bool × U8)) (f : Bool), s.pair.role = .solo → exec (.claimRound p f) s = .next s) ∧
  (∀ (s : State) (c t : U8) (b f : Bool), s.pair.role ≠ .solo → c.toNat < s.drives →
    ∃ u : State, exec (.claimRound (some (c, b, t)) f) s = .next u ∧ u.pair.winner = some s.pwr.strapPos ∧ u.pair.partnerClaim = c ∧
      u.pair.wins = s.pair.wins + 1) ∧
  (∀ (s : State) (c t : U8) (b f : Bool), s.pair.role ≠ .solo → 0 < s.drives → s.drives < c.toNat → s.pwr.strapPos ≤ 1 →
    s.pair.lineFault = false → ∃ u : State, exec (.claimRound (some (c, b, t)) f) s = .next u ∧ u.pair.winner = some (bit b) ∧
      u.pair.wins = 0 ∧ u.pair.freeWins = 0 ∧ u.pair.won = false ∧ u.ev = s.ev) ∧
  (∀ (s : State) (p : Option (U8 × Bool × U8)) (f : Bool), s.pair.role ≠ .solo → s.drives = 0 →
    ∃ u : State, exec (.claimRound p f) s = .next u ∧ u.pair.won = s.pair.won ∧ u.pair.wins = 0 ∧ u.dict = s.dict ∧ u.ev = s.ev) ∧
  (∀ s : State, s.pair.role = .standby → 0 < s.drives → s.pair.lineFault = false → 1 ≤ s.pair.freeWins →
    ∃ u : State, exec (.claimRound none false) s = .next u ∧ u.pair.role = .active ∧ u.pair.won = true ∧
      u.pair.failovers = s.pair.failovers + 1 ∧ u.pair.lastFailover = s.time.net ∧ u.pwr.quiet = false) ∧
  (∀ s : State, ∃ t : State, exec .healthEvaluation s = .next t ∧ t.pair.cond = BitVec.ofNat 32 s.conditions ∧
    t.pair.health = scoreOf s.conditions ∧ t.pair.lease = true ∧ t.pair.claim = BitVec.ofNat 8 t.drives ∧
    (scoreOf s.conditions ≠ 0 → t.pair.role = s.pair.role ∧ t.pair.won = s.pair.won) ∧
    (scoreOf s.conditions = 0 → s.pair.role ≠ .solo → t.pair.won = false)) ∧
  (∀ c : Nat, (c % 256 ≠ 0 ∨ c.testBit 15 = true) → scoreOf c = 0) ∧
  (scoreOf 0 = 63 ∧ scoreOf 0x700 = 15 ∧ scoreOf 0x2000 = 61) ∧
  (∀ s : State, ∃ t : State, exec .leaseExpiry s = .next t ∧ t.pair.lease = false ∧ t.pair.health = 0 ∧ t.pair.claim = 0 ∧
    t.pair.faults = s.pair.faults ||| 1 ∧ (s.pair.role ≠ .solo → t.pair.won = false)) ∧
  (∀ s : State, ∃ t : State, exec .clockLoss s = .next t ∧ t.pair.health = 0 ∧ t.pair.claim = 0 ∧
    t.pair.faults = s.pair.faults ||| 2 ∧ (s.pair.role ≠ .solo → t.pair.won = false)) ∧
  (∀ (s : State) (p : EccPlace), (p = .contextStore ∨ p = .journal ∨ p = .keyRegister) →
    ∃ t : State, exec (.memoryEccError p false) s = .next t ∧ t.pair.health = 0 ∧ t.pair.claim = 0 ∧
      t.pair.faults = s.pair.faults ||| 4 ∧ (s.pair.role ≠ .solo → t.pair.won = false)) ∧
  (∀ (s : State) (p : EccPlace), ¬(p = .contextStore ∨ p = .journal ∨ p = .keyRegister) →
    exec (.memoryEccError p false) s = .next s) ∧
  (∀ (s : State) (p : EccPlace), exec (.memoryEccError p true) s = .next { s with pair := { s.pair with
    ecc := (s.time.mono :: s.pair.ecc).filter (fun t => decide (s.time.mono < t + 32768)) } }) ∧
  (∀ s : State, s.pair.role = .solo → exec .claimLineStuck s = .next s) ∧
  (∀ s : State, s.pair.role ≠ .solo → ∃ t : State, exec .claimLineStuck s = .next t ∧ t.pair.lineFault = true ∧ t.pair.winner = none ∧
    t.pair.won = s.pair.won ∧ t.pair.wins = 0 ∧
    t.pair.lineFaults = (if s.pair.lineFault = true then s.pair.lineFaults else s.pair.lineFaults + 1)) ∧
  (∀ s : State, (s.pair.role ≠ .failed ∨ s.cfgN 0xB00006 ≤
      (s.pair.restarts.filter (fun t => decide (s.time.mono < t + 3600 * 32768))).length) → exec .failedRestart s = .next s) ∧
  (∀ s : State, s.pair.role = .failed → s.pwr.inReset = false →
    (s.pair.restarts.filter (fun t => decide (s.time.mono < t + 3600 * 32768))).length < s.cfgN 0xB00006 →
    ∃ t : State, exec .failedRestart s = .next t ∧ t.pwr.inReset = true ∧ t.pwr.nextCause = some 8) ∧
  (∀ s : State, exec .pairStartWindowExpiry s = .next (if s.pair.role = .starting then
    { s with pair := { s.pair with windowOver := true } } else s))

/-- Heartbeats, the loss of PAIR, retransmission, hand-over and its timeout, yield, the partner's configuration,
announcements. A heartbeat leaves a paired unit and no other. One received is kept, marks PAIR up and acknowledges
what it names; the partner's ACTIVE completes a hand-over in progress. When PAIR is lost an Active unit stays ACTIVE
and keeps no message, a Standby enters SYNCING. HAND_OVER outside ACTIVE is "device in standby", with no healthy
Standby "device busy", and otherwise runs; its timeout gives the unit its claim back. A yield needs a partner 16
points healthier. A partner's configuration is taken over only where the digest alone differs. Unacknowledged
messages are sent again. Rests on: 15_pairing.md, R379, R380, R386, R387, R428. -/
def Obligations.HeartbeatsAndHandOver : Prop :=
  (∀ s : State, s.pair.role = .solo → exec .heartbeatTx s = .next s ∧ (∀ h, exec (.heartbeatRx h) s = .next s) ∧
    exec .pairLost s = .next s) ∧
  (∀ s : State, s.pair.role ≠ .solo → s.pair.handover = none → exec .heartbeatTx s = .next (s.emit (.heartbeat s.heartbeat))) ∧
  (∀ (s : State) (h : Heartbeat), s.pair.role ≠ .solo → ∃ t : State, exec (.heartbeatRx h) s = .next t ∧ t.pair.hb = some h ∧
    t.pair.link = true ∧ t.pair.windowOver = false ∧ (∀ m ∈ t.pair.unacked, m ∈ s.pair.unacked ∧ h.lastSeq < m.1) ∧
    (s.pair.handover ≠ none → h.role = .active → t.pair.role = .standby ∧ t.pair.handover = none ∧ t.link.service = false) ∧
    (s.pair.handover = none → s.pair.role ≠ .starting → t.pair.role = s.pair.role)) ∧
  (∀ s : State, s.pair.link = false → exec .pairLost s = .next s) ∧
  (∀ s : State, s.pair.link = true → s.pair.role = .active → ∃ t : State, exec .pairLost s = .next t ∧ t.pair.role = .active ∧
    t.pair.link = false ∧ t.pair.unacked = [] ∧ t.pair.noConfirm = s.pair.noConfirm + BitVec.ofNat 32 s.acc.deciding.length) ∧
  (∀ s : State, s.pair.link = true → s.pair.role = .standby → ∃ t : State, exec .pairLost s = .next t ∧ t.pair.role = .syncing ∧
    t.pair.link = false ∧ t.pair.gapStart = s.time.net ∧ t.acc.journal = [] ∧ t.acc.ctx = []) ∧
  (∀ s : State, s.pair.link = false → exec .mirrorRetransmit s = .next s) ∧
  (∀ s : State, s.pair.link = true → ∃ t : State, exec .mirrorRetransmit s = .next t ∧ t = { s with out := t.out } ∧
    t.out = (s.pair.unacked.map (fun m => Out.mirror m.1 m.2.1 m.2.2.1 m.2.2.2)).reverse ++ s.out) ∧
  (∀ (s : State) (r : Req) (arg : Bytes) (o : ObjRow), s.starts r 0xB00201 arg o →
    (s.pair.role ≠ .active → exec (.handOver r arg) s = .next (s.respond r (.abort .inStandby))) ∧
    (s.pair.role = .active → (s.mayHandOver = false ∨ s.pair.handover ≠ none) →
      exec (.handOver r arg) s = .next (s.respond r (.abort .deviceBusy))) ∧
    (s.pair.role = .active → s.mayHandOver = true → s.pair.handover = none →
      ∃ t : State, exec (.handOver r arg) s = .next (t.begins 0xB00201 (s.itemOf r o)) ∧ t.pair.handover = some (some r) ∧ t.pair.role = .active ∧
        t = { s with pair := t.pair, out := t.out })) ∧
  (∀ s : State, s.mayHandOver = true → s.pair.link = true ∧ s.pair.lineFault = false ∧
    ∃ h, s.pair.hb = some h ∧ h.role = .standby ∧ 0 < h.health) ∧
  (∀ s : State, s.pair.handover = none → exec .handoverTimeout s = .next s) ∧
  (∀ (s : State) (w : Option Req), s.pair.handover = some w → ∃ t : State, exec .handoverTimeout s = .next t ∧ t.pair.handover = none ∧
    t.pair.won = true ∧ t.pair.released = false ∧ t.pair.role = s.pair.role) ∧
  (∀ s : State, (s.pair.hb = none ∨ s.pair.role ≠ .active ∨ s.cfgN 0xB00005 ≤ s.pair.health ∨ s.mayHandOver = false ∨
      s.pair.handover ≠ none) → exec .pairYield s = .next s) ∧
  (∀ (s : State) (h : Heartbeat), s.pair.hb = some h → s.pair.role = .active → s.pair.health < s.cfgN 0xB00005 → s.mayHandOver = true →
    s.pair.handover = none →
    (h.health < s.pair.health + 16 → exec .pairYield s = .next s) ∧
    (s.pair.health + 16 ≤ h.health → ∃ t : State, exec .pairYield s = .next t ∧ t.pair.handover = some none ∧ t.pair.yielding = true)) ∧
  (∀ (s : State) (r : Req) (arg : Bytes) (o : ObjRow) (v : List (ObjKey × Nat × Bytes)), s.starts r 0xB00202 arg o →
    ((s.pair.mismatch ≠ some 3 ∨ (s.pair.hb.map (·.role)) ≠ some .active) →
      exec (.adoptPartnerConfiguration r arg v) s = .next (s.respond r (.abort .valueInvalid))) ∧
    (s.pair.mismatch = some 3 → (s.pair.hb.map (·.role)) = some .active → s.pwr.inReset = false →
      ∃ t : State, exec (.adoptPartnerConfiguration r arg v) s = .next (t.succeeds r 0xB00202 (s.itemOf r o)) ∧ t.dict.pend = [] ∧
        t.dict.committed = [] ∧ t.pwr.inReset = true ∧ t.pwr.nextCause = some 9)) ∧
  (∀ s : State, s.link.garpDue = 0 → exec .gratuitousArp s = .next s) ∧
  (∀ s : State, s.link.garpDue ≠ 0 → exec .gratuitousArp s =
    .next (({ s with link := { s.link with garpDue := s.link.garpDue - 1 } } : State).emit .announce))

/-- Messages of the mirror stream in sequence, entries and their confirmations, deltas, cycle numbers, and the end of a
resynchronisation. A message out of sequence changes nothing, and one that an Active or FAILED unit takes only moves
its sequence. A Standby journals an entry it has room for, flagged MIRRORED, at its sequence; it takes ledgers,
billing deltas, calendar sets, key commands and contexts; a latch order in reach arms its check latch and is held as
the order. A confirmation ends the decision that waits for it. The billing delta goes out while the stream runs, and
what changed is forgotten. The partner's cycle number of the last crossing is adopted. The end of a
resynchronisation makes a SYNCING unit with PAIR up and no mismatch STANDBY, and no other. Rests on: 15_pairing.md,
R40, R191, R253, R379, R380, R381, R383, R387. -/
def Obligations.TheMirrorStreamIsTaken : Prop :=
  (∀ (s : State) (m : U64), s.takesMessage m = false →
    (∀ a b, exec (.entry m a b) s = .next s) ∧ (∀ q l, exec (.confirmation m q l) s = .next s) ∧ (∀ h i, exec (.contextChange m h i) s = .next s) ∧
    (∀ a b c d, exec (.billingDelta m a b c d) s = .next s) ∧ (∀ h b, exec (.ledgerDelta m h b) s = .next s) ∧
    (∀ k h a, exec (.keyOperation m k h a) s = .next s) ∧ (∀ c, exec (.configuration m c) s = .next s) ∧
    (∀ c n, exec (.timeState m c n) s = .next s) ∧ (∀ i c, exec (.latchOrder m i c) s = .next s)) ∧
  (∀ (s : State) (m : U64), s.pair.role = .standby → (s.takesMessage m = true ↔ m = s.pair.rxSeq + 1)) ∧
  (∀ (s u : State) (m : U64), s.takesMessage m = true → s.pair.role ≠ .standby → s.pair.role ≠ .syncing →
    u = { s with pair := { s.pair with rxSeq := m, link := true } } →
    (∀ a b, exec (.entry m a b) s = .next u) ∧ (∀ h i, exec (.contextChange m h i) s = .next u) ∧
    (∀ a b c d, exec (.billingDelta m a b c d) s = .next u) ∧ (∀ h b, exec (.ledgerDelta m h b) s = .next u) ∧
    (∀ k h a, exec (.keyOperation m k h a) s = .next u) ∧ (∀ c, exec (.configuration m c) s = .next u) ∧
    (∀ c n, exec (.timeState m c n) s = .next u) ∧ (∀ i c, exec (.latchOrder m i c) s = .next u)) ∧
  (∀ (s u : State) (m : U64), s.takesMessage m = true → (s.pair.role = .standby ∨ s.pair.role = .syncing) →
    u = { s with pair := { s.pair with rxSeq := m, link := true } } →
    (∀ (a b : Bytes) (e : JEntry), e = JEntry.parse a s.time.mono → s.acc.fill + e.len ≤ 4194304 → s.entryOf e.seq = none →
      ∃ t : State, exec (.entry m a b) s = .next t ∧ (∃ x, t.entryOf e.seq = some x ∧ x.mirrored = true ∧ x.handle = e.handle) ∧
        t.pair.rxSeq = m ∧ t.pair.mirrored = s.pair.mirrored + 1 ∧ t.acc.journal.length = s.acc.journal.length + 1) ∧
    (∀ (a b : Bytes), (s.entryOf (JEntry.parse a s.time.mono).seq ≠ none ∨ 4194304 < s.acc.fill + (JEntry.parse a s.time.mono).len) →
      exec (.entry m a b) s = .next u) ∧
    (∀ (h : Handle) (i : Bytes), fieldAt i 0 4 < 2 ^ 31 → ∃ t : State, exec (.contextChange m h i) s = .next t ∧ t.ctxOf h.toNat = none) ∧
    (∀ (h : Handle) (i : Bytes), 2 ^ 31 ≤ fieldAt i 0 4 → (Ctx.ofImage i).pinned = true →
      ∃ t : State, exec (.contextChange m h i) s = .next t ∧ tblFind? t.acc.ctx h.toNat = some (Ctx.ofImage i)) ∧
    (∀ (p : U32) (d : U16) (n : Nat), ∃ t : State, exec (.billingDelta m [] p d n) s = .next t ∧ t.bill.app.period = p ∧ t.bill.app.shift = d ∧
      t.bill.app.closedBound = n ∧ t.bill.app.meters = s.bill.app.meters) ∧
    (∀ (h : Handle) (b : Bytes), exec (.ledgerDelta m h b) s = .next (u.setLedger h.toNat (fun l => l.ofRecord b))) ∧
    (∀ (k : ObjKey) (h : Handle) (a : Bytes), exec (.keyOperation m k h a) s = .next (u.keyOperation (ObjKey.num k) h a)) ∧
    (∀ a : Bytes, setArgOk a = true → s.time.lockout = false → exec (.configuration m (.calendarSet a)) s =
      .next { u with time := { u.time with pendSet := some (CalTime.ofBcd7 a, none) } }) ∧
    (∀ a : Bytes, (setArgOk a = false ∨ s.time.lockout = true) → exec (.configuration m (.calendarSet a)) s = .next u) ∧
    (∀ (c : Cycle) (n : Nat), s.time.lastStamp = some n → ∃ t : State, exec (.timeState m c n) s = .next t ∧ t.time.cycle = c ∧
      (c = s.time.cycle → t = u)) ∧
    (∀ (i : U16) (c : Cycle), 2 ≤ (c - s.time.cycle).toNat → (c - s.time.cycle).toNat < 2 ^ 39 → s.weir.latches.length < 8 →
      ∃ t : State, exec (.latchOrder m i c) s = .next t ∧ t.weir.latches = s.weir.latches ++ [({ id := i, target := c } : Latch)] ∧
        t.bal.lastId = i ∧ (∃ o ∈ t.bal.orders, o.id = i ∧ o.target = c ∧ o.lead = (c - s.time.cycle).toNat) ∧
        t = { u with weir := t.weir, bal := t.bal, field := { s.field with latch := some (c, i.toNat) } })) ∧
  (∀ (s : State) (m q : U64) (l : Bool), s.takesMessage m = true → (∀ d ∈ s.acc.deciding, d.seq ≠ q) →
    exec (.confirmation m q l) s = .next { s with pair := { s.pair with rxSeq := m, link := true } }) ∧
  (∀ (s : State) (m q : U64), s.takesMessage m = true → (∃ d ∈ s.acc.deciding, d.seq = q) →
    ∃ t : State, exec (.confirmation m q false) s = .next t ∧ (∀ d ∈ t.acc.deciding, d.seq ≠ q) ∧ t.pair.mirrored = s.pair.mirrored + 1) ∧
  (∀ s : State, s.streaming = false → exec .billingDeltaTx s = .next { s with bill := { s.bill with changed := [] } }) ∧
  (∀ s : State, s.streaming = true → ∃ t : State, exec .billingDeltaTx s = .next t ∧ t.bill.changed = [] ∧ t.bill.app = s.bill.app ∧
    t.pair.txSeq = s.pair.txSeq + 1) ∧
  (∀ (s : State) (b : BulkCopy), (s.pair.role ≠ .syncing ∨ s.pair.link = false ∨ s.pair.mismatch ≠ none) →
    exec (.resyncComplete b) s = .next s) ∧
  (∀ (s : State) (b : BulkCopy), s.pair.role = .syncing → s.pair.link = true → s.pair.mismatch = none →
    ∃ t : State, exec (.resyncComplete b) s = .next t ∧ t.pair.role = .standby ∧ t.pair.gapEnd = s.time.net)

/-- Occurrences update their summary and spend a token for a log entry; refills, flushes, clears and application raises.
EVENT_RAISE of code 0 or of a reserved code changes nothing, and of any other is recorded. An occurrence counts,
saturating, keeps the measure and the extremes of its own code and of no other; with a token it writes one log entry
of the next number, without one it only counts as suppressed; in Head-end profile the sequence rises. A refill gives
back one missing token, none to a full bucket. A flush empties the buffer into the log and copies the summaries. A
clear token that fails is "access denied" with AUTH_FAIL 4, one out of range "value invalid", and an accepted one,
the reserved bits of its scope ignored, clears, raises EVENT_CLEAR and flushes; the challenge is drawn anew each
time. Rests on: 16_events.md, R390, R391, R392, R394, R396, R399, R401. -/
def Obligations.EventsAreRecordedRefilledFlushedAndCleared : Prop :=
  (∀ (s : State) (c : BitVec 10) (m : U64), exec (.eventRaise c m) s = .next (if listedCode c.toNat = true then s.raise c.toNat m.toInt else s)) ∧
  (∀ (s : State) (c : Nat) (m : Int), let e := (s.raise c m).ev
    (tblGet {} e.sums c).count = satInc (tblGet {} s.ev.sums c).count ∧ (tblGet {} e.sums c).last = wrapS 64 m ∧
    (0 < (tblGet {} s.ev.sums c).count.toNat → (tblGet {} e.sums c).min = min (wrapS 64 m) (tblGet {} s.ev.sums c).min ∧
      (tblGet {} e.sums c).max = max (wrapS 64 m) (tblGet {} s.ev.sums c).max ∧
      (tblGet {} e.sums c).first = (tblGet {} s.ev.sums c).first) ∧
    (∀ k, k ≠ c → tblGet {} e.sums k = tblGet {} s.ev.sums k) ∧ e.sumsMram = (if s.ev.writeThrough = true then e.sums else s.ev.sumsMram) ∧
    s.raise c m = { s with ev := e, cas := (s.raise c m).cas }) ∧
  (∀ (s : State) (c : Nat) (m : Int), s.ev.writeThrough = false →
    ((s.cfgN 0xB10201 c = 0 ∨ (tblGet {} s.ev.sums c).missing < s.cfgN 0xB10201 c) →
      (s.raise c m).ev.nextNum = s.ev.nextNum + 1 ∧ (s.raise c m).ev.restart = false ∧
      (∃ x, (s.raise c m).ev.buf = x :: s.ev.buf ∧ x.num = s.ev.nextNum ∧ x.code = c ∧ x.measure = wrapS 64 m ∧
        x.restart = s.ev.restart ∧ x.supBefore = (tblGet {} s.ev.sums c).pendingSup) ∧
      (tblGet {} (s.raise c m).ev.sums c).pendingSup = 0) ∧
    (s.cfgN 0xB10201 c ≠ 0 → s.cfgN 0xB10201 c ≤ (tblGet {} s.ev.sums c).missing →
      (s.raise c m).ev.buf = s.ev.buf ∧ (s.raise c m).ev.nextNum = s.ev.nextNum ∧
      (tblGet {} (s.raise c m).ev.sums c).suppressed = satInc (tblGet {} s.ev.sums c).suppressed ∧
      (tblGet {} (s.raise c m).ev.sums c).pendingSup = (tblGet {} s.ev.sums c).pendingSup + 1)) ∧
  (∀ (s : State) (c : Nat) (m : Int), s.pwr.headEnd = true → s.ev.lastSeq < (s.raise c m).ev.lastSeq) ∧
  (∀ (s : State) (c : BitVec 10), (tblGet {} s.ev.sums c.toNat).missing = 0 → exec (.eventTokenRefill c) s = .next s) ∧
  (∀ (s : State) (c : BitVec 10), (tblGet {} s.ev.sums c.toNat).missing ≠ 0 → ∃ t : State, exec (.eventTokenRefill c) s = .next t ∧
    tblGet {} t.ev.sums c.toNat = { tblGet {} s.ev.sums c.toNat with missing := (tblGet {} s.ev.sums c.toNat).missing - 1 } ∧
    (∀ k, k ≠ c.toNat → tblGet {} t.ev.sums k = tblGet {} s.ev.sums k) ∧
    t = { s with ev := { s.ev with sums := t.ev.sums } }) ∧
  (∀ s : State, ∃ t : State, exec .eventFlush s = .next t ∧ t.ev.buf = [] ∧ t.ev.log = (s.ev.buf ++ s.ev.log).take 28672 ∧
    t.ev.sumsMram = s.ev.sums ∧ t.ev.sums = s.ev.sums ∧ t.ev.flushes = s.ev.flushes + 1 ∧ t = { s with ev := t.ev }) ∧
  (∀ (s : State) (r : Req) (o : ObjRow), s.readGuard r 0xB12001 = .ok o → exec (.clearChallengeRead r) s =
    .next ((s.redrawClear r.sess).respond r (.ok (octets (drawBytes s.draw.1)))) ∧
    ((s.redrawClear r.sess).sess r.sess).clearChallenge = some s.draw.1) ∧
  (∀ (s : State) (r : Req) (a : Abort), s.readGuard r 0xB12001 = .error a → exec (.clearChallengeRead r) s = .next (s.respond r (.abort a))) ∧
  (∀ (s : State) (r : Req) (arg : Bytes) (o : ObjRow), s.starts r 0xB12002 arg o → s.dict.available = true →
    (s.clearTokenOk r.sess arg = false →
      exec (.clearEvents r arg) s = .next (((s.clearKeyUsed.raise 0x001 4).respond r (.abort .accessDenied)).redrawClear r.sess)) ∧
    (s.clearTokenOk r.sess arg = true → 1 ≤ fieldAt arg 0 2 → fieldAt arg 0 2 ≤ fieldAt arg 2 2 → fieldAt arg 2 2 ≤ 0x3FF →
      fieldAt arg 4 1 % 4 ≠ 0 → ∃ t : State, exec (.clearEvents r arg) s = .next ((t.succeeds r 0xB12002 (s.itemOf r o)).redrawClear r.sess) ∧
        t.ev.buf = [] ∧ (fieldAt arg 4 1 % 2 = 1 → ∀ c, fieldAt arg 0 2 ≤ c → c ≤ fieldAt arg 2 2 → c ≠ 0x260 →
          tblGet {} t.ev.sums c = {})) ∧
    (s.clearTokenOk r.sess arg = true → (fieldAt arg 0 2 = 0 ∨ 0x3FF < fieldAt arg 2 2 ∨ fieldAt arg 2 2 < fieldAt arg 0 2 ∨
        fieldAt arg 4 1 % 4 = 0) →
      exec (.clearEvents r arg) s = .next ((s.clearKeyUsed.respond r (.abort .valueInvalid)).redrawClear r.sess))) ∧
  (∀ (s : State) (r : Req) (arg : Bytes) (o : ObjRow), s.starts r 0xB13002 arg o →
    ((fieldAt arg 0 2 < 0x300 ∨ 0x3FF < fieldAt arg 0 2) → exec (.raiseApplicationEvent r arg) s = .next (s.respond r (.abort .valueInvalid))) ∧
    (0x300 ≤ fieldAt arg 0 2 → fieldAt arg 0 2 ≤ 0x3FF → exec (.raiseApplicationEvent r arg) s =
      .next ((s.raise (fieldAt arg 0 2) (toSigned 64 (fieldAt arg 2 8))).succeeds r 0xB13002 (s.itemOf r o))))

/-- The power-fail warning and its end, the causes of main resets, block-alone resets, temperature, supply flags and
their commands. POWER_FAIL_WARNING leaves the events and the write buffer durable and a paired unit's claim
released; its sequence ends with SEQ_DONE, and a recovered warning with cause 2, never with a resumption. RESET_N,
the watchdog, supply loss and faults of islands not reset alone start a main reset with their causes; one in
progress keeps its cause. A first fault of an island that is reset alone counts it, quiesces, resets and releases
it. A sample above 125 degC runs the power-fail sequence for cause 6. The commands of 0x3011 and the supply events
set what their rules name and nothing else. Rests on: 17_power_reset.md, R405, R406, R408, R409, R410, R412, R417,
R418, R422, R423, R425. -/
def Obligations.WarningsFaultsAndBlockResets : Prop :=
  (∀ s : State, (s.pwr.pfw = true ∨ s.pwr.inReset = true) → exec .powerFailWarning s = .next s) ∧
  (∀ s : State, s.pwr.pfw = false → s.pwr.inReset = false → ∃ t : State, exec .powerFailWarning s = .next t ∧ t.pwr.pfw = true ∧
    t.pwr.seqDone = false ∧ t.ev.writeThrough = true ∧ t.ev.buf = [] ∧ t.ev.sumsMram = t.ev.sums ∧ t.arch.wbuf = [] ∧
    t.time.lockout = true ∧ (s.pair.role ≠ .solo → t.pair.health = 0 ∧ t.pair.claim = 0 ∧ t.pair.won = false) ∧ t.trust = s.trust) ∧
  (∀ s : State, (s.pwr.pfw = false ∨ s.pwr.inReset = true) → exec .powerFailSequenceDone s = .next s) ∧
  (∀ s : State, s.pwr.pfw = true → s.pwr.inReset = false → ∃ t : State, exec .powerFailSequenceDone s = .next t ∧ t.pwr.seqDone = true ∧
    (s.pwr.nextCause ≠ some 6 → t.pwr.inReset = false) ∧ (s.pwr.nextCause = some 6 → t.pwr.inReset = true)) ∧
  (∀ s : State, s.pwr.pfw = true → s.pwr.seqDone = true → s.pwr.inReset = false →
    ∃ t : State, exec .warningRecovered s = .next t ∧ t.pwr.inReset = true ∧ t.pwr.nextCause = some 2) ∧
  (∀ s : State, (s.pwr.pfw = false ∨ s.pwr.seqDone = false ∨ s.pwr.inReset = true) → exec .warningRecovered s = .next s) ∧
  (∀ s : State, ∃ t : State, exec .mainSupplyLoss s = .next t ∧ t.pwr.inReset = true ∧ t.pwr.railsLost = true ∧
    t.pwr.nextCause = some 1 ∧ t.pwr.outageOpen = true) ∧
  (∀ s : State, s.pwr.inReset = true → exec .resetNAsserted s = .next s ∧ exec .watchdogExpiry s = .next s) ∧
  (∀ s : State, s.pwr.inReset = false →
    (∃ t : State, exec .resetNAsserted s = .next t ∧ t.pwr.inReset = true ∧ t.pwr.nextCause = some 3 ∧ t.dict.available = false) ∧
    ∃ t : State, exec .watchdogExpiry s = .next t ∧ t.pwr.inReset = true ∧ t.pwr.nextCause = some 4 ∧ t.ev.buf = [] ∧
      t.ev.log = (s.ev.buf ++ s.ev.log).take 28672 ∧ t.pwr.islands = .running :: List.replicate 9 .held) ∧
  (∀ (s : State) (i : Fin 10), (s.pwr.inReset = true ∨ s.pwr.islands.getD i.val .held = .held) → exec (.islandFault i) s = .next s) ∧
  (∀ (s : State) (i : Fin 10), s.pwr.inReset = false → s.pwr.islands.getD i.val .held ≠ .held → i.val ∈ [0, 1, 3, 7] →
    ∃ t : State, exec (.islandFault i) s = .next t ∧ t.pwr.inReset = true ∧ t.pwr.nextCause = some 5) ∧
  (∀ (s : State) (i : Fin 10), s.pwr.inReset = false → s.pwr.islands.getD i.val .held ≠ .held → s.pwr.islands.getD i.val .held ≠ .running →
    i.val ∈ [2, 4, 5, 8, 9] → ∃ t : State, exec (.islandFault i) s = .next t ∧ t.pwr.inReset = true ∧ t.pwr.nextCause = some 5) ∧
  (∀ (s : State) (i : Fin 10), s.pwr.inReset = false → s.pwr.islands.getD i.val .held = .running → i.val ∈ [2, 4, 5, 8, 9] →
    ((tblGet [] s.pwr.blockTimes i.val).filter (fun t => decide (s.time.mono < t + 60 * 32768))).length < 4 →
    ∃ t : State, exec (.islandFault i) s = .next t ∧ t.pwr.inReset = false ∧ t.pwr.islands = listUpd s.pwr.islands i.val (fun _ => .quiescing) ∧
      t.pwr.blockResets = listUpd s.pwr.blockResets i.val satInc ∧ t.ev.buf = []) ∧
  (∀ s : State, s.pwr.inReset = false → s.pwr.islands.getD 6 .held ≠ .held → s.formed = true → s.pair.won = true →
    ∃ t : State, exec (.islandFault 6) s = .next t ∧ t.pair.role = .failed ∧ t.pair.won = false ∧ t.pwr.inReset = false) ∧
  (∀ (s : State) (i : Fin 10), s.pwr.islands.getD i.val .held = .quiescing →
    exec (.quiesceTimeout i) s = .next (s.setIsland i.val .resetting)) ∧
  (∀ (s : State) (i : Fin 10), s.pwr.islands.getD i.val .held ≠ .quiescing → exec (.quiesceTimeout i) s = .next s) ∧
  (∀ (s : State) (i : Fin 10), s.pwr.inReset = false → s.pwr.pfw = false → (s.pwr.islands.getD i.val .held = .quiescing ∨
      s.pwr.islands.getD i.val .held = .resetting) → ∃ t : State, exec (.blockResetRelease i) s = .next t ∧
      t.pwr.islands = listUpd s.pwr.islands i.val (fun _ => .running)) ∧
  (∀ (s : State) (i : Fin 10), (s.pwr.inReset = true ∨ s.pwr.pfw = true ∨ s.pwr.islands.getD i.val .held = .running ∨
      s.pwr.islands.getD i.val .held = .held) → exec (.blockResetRelease i) s = .next s) ∧
  (∀ (s : State) (x : BitVec 16), s.pwr.inReset = false → x.toInt ≤ 1250 → exec (.junctionTemperatureSample x) s =
    .next { s with pwr := { s.pwr with tj := x.toInt, overtemp := decide (1150 < x.toInt) } }) ∧
  (∀ (s : State) (x : BitVec 16), s.pwr.inReset = false → s.pwr.pfw = false → 1250 < x.toInt →
    ∃ t : State, exec (.junctionTemperatureSample x) s = .next t ∧ t.pwr.pfw = true ∧ t.pwr.nextCause = some 6 ∧ t.pwr.tj = x.toInt ∧
      t.pwr.overtemp = true ∧ t.arch.wbuf = []) ∧
  (∀ (s : State) (r : Req) (arg : Bytes) (o : ObjRow), s.starts r 0x301101 arg o →
    (leNat arg = 0x52535421 → exec (.mainResetCommand r arg) s = .next (({ s with pwr := { s.pwr with atPeriod := some 9 } } : State).succeeds r 0x301101 (s.itemOf r o))) ∧
    (leNat arg ≠ 0x52535421 → exec (.mainResetCommand r arg) s = .next (s.respond r (.abort .valueInvalid)))) ∧
  (∀ (s : State) (r : Req) (arg : Bytes) (o : ObjRow), s.starts r 0x301102 arg o →
    exec (.clearRstcntInvalid r arg) s = .next (({ s with pwr := { s.pwr with rstcntInvalid := false } } : State).succeeds r 0x301102 (s.itemOf r o))) ∧
  (∀ s : State, exec .vddAonAccept s = .next { s with pwr := { s.pwr with aonAccepted := true } } ∧ exec .retTrip s = .next { s with pwr := { s.pwr with retTrip := true } } ∧
    exec .vddAonDrop s = .next { ({ s with pwr := { s.pwr with aonAccepted := false, switchTick := some s.time.cal } } : State) with
      time := { s.time with lockout := true } }) ∧
  (∀ (s : State) (a b : U16), exec (.vbatMeasure a b) s =
    .next { s with pwr := { s.pwr with vbat := a, vbk := b, batLow := decide (a.toNat < 2400), batAbsent := decide (a.toNat < 1000) } })

/-- A main reset is released only under its conditions; what the release and the start-up stages leave.
MAIN_RESET_RELEASE with a release condition missing changes nothing. Otherwise the reset is over with its cause,
stage 2, phase 1, quiet start, no session, no pending value, nothing restored and acceptance not ready; the counter
counts the release; the fuses stay; lost retention leaves the calendar at 2000-01-01, untrusted, and count 1; the
personality follows the lock, then 0x1008, then the strap. ISLAND_STAGE_RELEASE takes the next stage, none in reset
or without trusted firmware. ACCEPTANCE_READY comes once, at stage 5 or later, and closes the outage that start-up
found. Rests on: 17_power_reset.md, R183, R354, R403, R411, R412, R413, R414, R416, R419, R444. -/
def Obligations.ReleaseAndStartUp : Prop :=
  (∀ (s : State) (x : StartUp), (s.pwr.inReset = false ∨ s.pwr.aonAccepted = false ∨ 1100 ≤ s.pwr.tj) →
    exec (.mainResetRelease x) s = .next s) ∧
  (∀ (s : State) (x : StartUp), s.pwr.inReset = true → s.pwr.aonAccepted = true → s.pwr.tj < 1100 →
    ∃ t : State, exec (.mainResetRelease x) s = .next t ∧ t.pwr.inReset = false ∧ t.pwr.stage = 2 ∧ t.pwr.phase = 1 ∧ t.pwr.quiet = true ∧
      t.pwr.acceptReady = false ∧ t.pwr.pfw = false ∧ t.pwr.seqDone = false ∧
      t.pwr.cause = (if s.pwr.railsLost = true then 1 else s.pwr.nextCause.getD 1) ∧
      t.dict.available = false ∧ t.dict.sessions = [] ∧ t.dict.pend = [] ∧ t.arch.restored = false ∧ t.arch.wbuf = [] ∧
      t.acc.ctx = [] ∧ t.field.links = [] ∧ t.trust.fuses = s.trust.fuses ∧ t.trust.sweep = none ∧
      t.pwr.headEnd = decide (2 ≤ x.ctxGib) ∧ t.pwr.strapPos = x.pos.val ∧ t.weir.factoryOk = x.factoryOk ∧
      (s.trust.persLock = 1 ∨ s.trust.persLock = 3 → t.pwr.ocb = false) ∧ (s.trust.persLock = 2 → t.pwr.ocb = true) ∧
      (s.trust.persLock = 0 → s.upd.trial = none → t.pwr.ocb =
        (if t.cfgN 0x100800 = 1 then false else if t.cfgN 0x100800 = 2 then true else x.ocbLow)) ∧
      ((s.pwr.retTrip = true ∨ x.canaryOk = false) → t.time.cal = {} ∧ t.time.untrusted = true ∧ t.time.osf = true ∧
        t.pwr.resetCount = 1 ∧ t.pwr.rstcntInvalid = true ∧ t.pwr.retentionLost = true) ∧
      (s.pwr.retTrip = false → x.canaryOk = true → t.time.cal = s.time.cal ∧ t.time.untrusted = s.time.untrusted ∧
        t.pwr.retentionLost = false ∧
        (x.crcOk = true → t.pwr.resetCount = (if s.pwr.resetCount = 0xFFFFFF then 0xFFFFFF else s.pwr.resetCount + 1) ∧
          t.pwr.rstcntInvalid = s.pwr.rstcntInvalid) ∧
        (x.crcOk = false → t.pwr.resetCount = 1 ∧ t.pwr.rstcntInvalid = true))) ∧
  (∀ s : State, (s.pwr.inReset = true ∨ s.pwr.pfw = true ∨ 1 ∈ s.upd.down ∨ 6 ≤ s.pwr.stage) → exec .islandStageRelease s = .next s) ∧
  (∀ s : State, s.pwr.inReset = false → s.pwr.pfw = false → 1 ∉ s.upd.down → s.pwr.islands.length = 10 →
    (s.pwr.stage = 2 → ∃ t : State, exec .islandStageRelease s = .next t ∧ t.pwr.stage = 3 ∧ t.isUp 3 = true ∧ t.isUp 4 = true ∧
      t.time.lockout = (s.time.lockout && !s.pwr.aonAccepted)) ∧
    (s.pwr.stage = 3 → ∃ t : State, exec .islandStageRelease s = .next t ∧ t.pwr.stage = 4 ∧ t.isUp 5 = true ∧ 2 ≤ t.pwr.phase) ∧
    (s.pwr.stage = 4 → ∃ t : State, exec .islandStageRelease s = .next t ∧ t.pwr.stage = 5 ∧ t.isUp 7 = true ∧
      (3 ∉ s.upd.down → t.isUp 6 = true) ∧ (3 ∈ s.upd.down → t.isUp 6 = s.isUp 6)) ∧
    (s.pwr.stage = 5 → ∃ t : State, exec .islandStageRelease s = .next t ∧ t.pwr.stage = 6 ∧ t.isUp 9 = true ∧
      (2 ∉ s.upd.down → t.isUp 8 = true) ∧ (2 ∈ s.upd.down → t.isUp 8 = s.isUp 8) ∧ t.arch.restoreFrom = s.time.mono)) ∧
  (∀ s : State, (s.pwr.inReset = true ∨ s.pwr.pfw = true ∨ s.pwr.acceptReady = true ∨ s.pwr.stage < 5) →
    exec .acceptanceReady s = .next s) ∧
  (∀ s : State, s.pwr.inReset = false → s.pwr.pfw = false → s.pwr.acceptReady = false → 5 ≤ s.pwr.stage →
    ∃ t : State, exec .acceptanceReady s = .next t ∧ t.pwr.acceptReady = true ∧ 4 ≤ t.pwr.phase ∧
      t.acc.journal = s.acc.journal ∧ (s.pwr.outageOpen = true → t.pwr.outageOpen = false ∧ t.pwr.outageRec = none ∧
        t.pwr.outageLen = s.outageSecs) ∧ exec .acceptanceReady t = .next t)

/-- Ethernet counters and PRP duplicates, downlink to remote meters, wired meters' polls, replies and timeouts, UART
bytes. A frame on a disabled port, or above 1,536 bytes, changes nothing; a bad FCS and a missing buffer are counted
and go no further; a second frame of one source and sequence on a PRP port within 400 ms counts as a duplicate.
Supervision leaves on both ports. Up to 64 waiting records leave in one request, which is repeated four times and
then ends with result 3 for each record; an answer ends it with its results; an expired record goes. A poll of a
port that the unit drives asks the first meter of a new round; a bad reply, and a timeout, repeat the request within
the retries; a reply of another meter is not taken; an unsecured one not allowed is counted and journals nothing. A
UART byte is kept, or lost and counted above 256. Rests on: 18_host_links.md, R426, R427, R431, R437, R439, R441,
R443. -/
def Obligations.BackhaulAndWiredLinks : Prop :=
  (∀ (s : State) (p : Fin 4) (f : EthFrame), (s.ethOn p.val = false ∨ (f.fcsOk = true ∧ 1536 < f.size)) →
    exec (.ethFrameRx p f) s = .next s) ∧
  (∀ (s : State) (p : Fin 4) (f : EthFrame), s.ethOn p.val = true →
    (f.fcsOk = false → exec (.ethFrameRx p f) s = .next (s.setEth p.val (fun x => { x with fcs := x.fcs + 1 }))) ∧
    (f.fcsOk = true → f.size ≤ 1536 → f.noBuf = true →
      exec (.ethFrameRx p f) s = .next (s.setEth p.val (fun x => { x with noBuf := x.noBuf + 1 }))) ∧
    (f.fcsOk = true → f.size ≤ 1536 → f.noBuf = false → (f.prp = none ∨ 2 ≤ p.val ∨ s.prpOn = false ∨ f.ptp = true) →
      exec (.ethFrameRx p f) s = .next (s.setEth p.val (fun x => { x with rx := x.rx + 1 }))) ∧
    (∀ q, f.fcsOk = true → f.size ≤ 1536 → f.noBuf = false → f.prp = some q → p.val < 2 → s.prpOn = true → f.ptp = false →
      ∃ t : State, exec (.ethFrameRx p f) s = .next t ∧ (tblGet {} t.link.eth p.val).rx = (tblGet {} s.link.eth p.val).rx + 1 ∧ t = { s with link := t.link } ∧
        ((∃ x ∈ s.link.prp, x.1 = (f.source.toNat, q.toNat) ∧ s.time.mono * 5 ≤ x.2 * 5 + 65536) → (tblGet {} t.link.eth p.val).dup = (tblGet {} s.link.eth p.val).dup + 1) ∧
        ((∀ x ∈ s.link.prp, x.1 ≠ (f.source.toNat, q.toNat)) → (tblGet {} t.link.eth p.val).dup = (tblGet {} s.link.eth p.val).dup ∧
          t.link.prp.head? = some ((f.source.toNat, q.toNat), s.time.mono) ∧ t.link.prp.length ≤ 4096))) ∧
  (∀ (s : State) (p v : Fin 4), s.pwr.inReset = true → exec (.ethLinkChange p v) s = .next s) ∧
  (∀ (s : State) (p v : Fin 4), s.pwr.inReset = false → exec (.ethLinkChange p v) s =
    .next (s.setEth p.val (fun x => { x with link := if s.ethOn p.val then BitVec.ofNat 8 v.val else 0 }))) ∧
  (∀ s : State, (s.prpOn = false ∨ s.ethOn 0 = false ∨ s.ethOn 1 = false) → exec .prpSupervisionTx s = .next s) ∧
  (∀ s : State, s.prpOn = true → s.ethOn 0 = true → s.ethOn 1 = true → ∃ t : State, exec .prpSupervisionTx s = .next t ∧
    (tblGet {} t.link.eth 0).tx = (tblGet {} s.link.eth 0).tx + 1 ∧ (tblGet {} t.link.eth 1).tx = (tblGet {} s.link.eth 1).tx + 1 ∧ t.link.prpSeq = s.link.prpSeq + 1 ∧
    t.out = .prpSupervision s.link.prpSeq :: s.out ∧ t = { s with link := t.link, out := t.out }) ∧
  (∀ (s : State) (a : Nat), (s.remoteFor a = [] ∨ s.acting = false ∨ s.pwr.inReset = true) → exec (.remoteDownlinkTx a) s = .next s) ∧
  (∀ (s : State) (a : Nat), s.remoteFor a ≠ [] → s.acting = true → s.pwr.inReset = false → ∃ t : State, ∃ q : RdReq,
    exec (.remoteDownlinkTx a) s = .next t ∧ t.link.remote = s.link.remote ++ [q] ∧ q.assoc = a ∧ q.sends = 0 ∧ 1 ≤ q.recs.length ∧
      q.recs.length ≤ 64 ∧ q.recs.map (·.tag) = (s.remoteFor a).map (·.tag) ∧ (∀ x ∈ s.remoteFor a, x ∉ t.link.remoteWait) ∧
      t = { s with link := t.link, out := t.out }) ∧
  (∀ (s : State) (k : Nat) (l : List (U32 × U8)), (∀ q ∈ s.link.remote, q.token ≠ k) → exec (.remoteDownlinkResult k l) s = .next s ∧
    exec (.remoteDownlinkRetransmit k) s = .next s) ∧
  (∀ (s : State) (k : Nat) (l : List (U32 × U8)), (∃ q ∈ s.link.remote, q.token = k) → ∃ t : State, exec (.remoteDownlinkResult k l) s = .next t ∧
    (∀ q ∈ t.link.remote, q ∈ s.link.remote ∧ q.token ≠ k) ∧ t.link.results = (l.map (fun x => (x.1, x.2.toNat))).reverse ++ s.link.results) ∧
  (∀ (s : State) (k : Nat) (q : RdReq), s.link.remote = [q] → q.token = k →
    (q.sends < 4 → ∃ t : State, exec (.remoteDownlinkRetransmit k) s = .next t ∧ t.link.remote = [{ q with sends := q.sends + 1 }] ∧
      t.out = .remote q.assoc q.token (q.recs.map (·.bytes)) :: s.out) ∧
    (4 ≤ q.sends → ∃ t : State, exec (.remoteDownlinkRetransmit k) s = .next t ∧ t.link.remote = [] ∧
      t.link.results = (q.recs.map (fun x => (x.tag, 3))).reverse ++ s.link.results)) ∧
  (∀ (s : State) (g : U32), exec (.remoteDownlinkExpiry g) s = .next { s with link := { s.link with
    remoteWait := s.link.remoteWait.filter (fun x => x.tag != g || x.expiry == 0) } }) ∧
  (∀ s : State, s.serialOurs = true ↔ s.acting = true ∧ (s.pair.role = .solo ∨ s.pair.won = true)) ∧
  (∀ (s : State) (p : Fin 16), (s.serialOurs = false ∨ s.serCfg p.val 1 = 0 ∨ s.isUp 6 = false) → exec (.serialPoll p) s = .next s) ∧
  (∀ (s : State) (p : Fin 16) (h : Nat) (l : List Nat), s.serialOurs = true → s.serCfg p.val 1 ≠ 0 → s.isUp 6 = true →
    (s.serial p.val).asking = none → (s.serial p.val).round = [] → s.metersOn p.val = h :: l → s.serialFull p.val = false →
    s.takeSerialItem p.val = none →
    ∃ t : State, exec (.serialPoll p) s = .next t ∧ (t.serial p.val).asking = some (h, 0) ∧ (t.serial p.val).round = l ∧
      (t.serial p.val).sent = (s.serial p.val).sent + 1 ∧ (∀ k, k ≠ p.val → t.serial k = s.serial k) ∧
      t = { s with link := t.link, out := t.out }) ∧
  (∀ (s : State) (p : Fin 16) (g : Bool) (f : StdFrame) (x : Rx), (s.serial p.val).asking = none →
    exec (.serialReplyRx p g f x) s = .next s ∧ exec (.serialResponseTimeout p) s = .next s) ∧
  (∀ (s : State) (p : Fin 16) (f : StdFrame) (x : Rx) (h n : Nat), (s.serial p.val).asking = some (h, n) → s.isUp 6 = true →
    (n < s.serCfg p.val 5 → s.serialOurs = true → ∃ t : State, exec (.serialReplyRx p false f x) s = .next t ∧ (t.serial p.val).asking = some (h, n + 1) ∧
      (t.serial p.val).collisions = (s.serial p.val).collisions + 1 ∧ t = { s with link := t.link, out := t.out }) ∧
    (f.handle.toNat ≠ h → exec (.serialReplyRx p true f x) s = .next s) ∧
    (f.handle.toNat = h → f.mode = 0 → s.serCfg p.val 7 = 0 → s.takeSerialItem p.val = none → ∃ t : State, exec (.serialReplyRx p true f x) s = .next t ∧
      (t.serial p.val).unsecured = (s.serial p.val).unsecured + 1 ∧ (t.serial p.val).replies = (s.serial p.val).replies + 1 ∧
      t.acc = s.acc) ∧
    (f.handle.toNat = h → f.mode ≠ 0 → ∃ t : State, exec (.serialReplyRx p true f x) s = .next t ∧
      (t.serial p.val).replies = (s.serial p.val).replies + 1 ∧ tblGet 0 t.link.consec h = 0)) ∧
  (∀ (s : State) (p : Fin 16) (h n : Nat), (s.serial p.val).asking = some (h, n) → ∃ t : State, exec (.serialResponseTimeout p) s = .next t ∧
    (t.serial p.val).timeouts = (s.serial p.val).timeouts + 1 ∧ tblGet 0 t.link.consec h = satInc (tblGet 0 s.link.consec h) ∧
    (n < s.serCfg p.val 5 → s.serialOurs = true → (t.serial p.val).asking = some (h, n + 1))) ∧
  (∀ (s : State) (p : Fin 2) (b : Byte), (s.cfgB (0x443001 + 0x800 * p.val) = false ∨ s.isUp 6 = false) →
    exec (.uartByteRx p b) s = .next s) ∧
  (∀ (s : State) (p : Fin 2) (b : Byte), s.cfgB (0x443001 + 0x800 * p.val) = true → s.isUp 6 = true →
    (256 ≤ (tblGet [] s.link.uart p.val).length → exec (.uartByteRx p b) s =
      .next { s with link := { s.link with uartLost := tblUpd 0 s.link.uartLost p.val (· + 1) } }) ∧
    ((tblGet [] s.link.uart p.val).length < 256 → ∃ t : State, exec (.uartByteRx p b) s = .next t ∧
      tblGet [] t.link.uart p.val = tblGet [] s.link.uart p.val ++ [b] ∧ t = { s with link := t.link, cas := t.cas, opens := t.opens, out := t.out }))

/-- The delivery engine keeps the order of its records over enable, descriptors, returns and discards, and covers what
it skips with a gap record. Enabling clears STOPPED and DLV_SKIPPED and keeps every record not yet returned in its
order; disabling keeps all. Descriptors are taken up to the first invalid one, which stops delivery. A changed
DLV_BASE discards the undelivered records and leaves a gap record that counts them. A returned buffer advances
DLV_USED and raises vector 1 once a period. A reading's entry joins the end of the records, or, with the buffer
full, is skipped and counted. Without the PCIe link nothing happens; the link's training and a hot reset set what
R432 says. Rests on: 18_host_links.md, R432, R433, R434, R435. -/
def Obligations.ReadingsAreDeliveredToTheHost : Prop :=
  (∀ (s : State) (a : U32) (l : List (Nat × Nat)) (b : U64) (e : U32), s.link.pcie = false →
    exec .deliveryEnable s = .next s ∧ exec .deliveryDisable s = .next s ∧ exec (.dlvAvailWrite a l) s = .next s ∧
    exec (.dlvBaseWrite b e) s = .next s ∧ exec .pcieHotReset s = .next s) ∧
  (∀ s : State, s.link.dlv.enabled = true → exec .deliveryEnable s = .next s) ∧
  (∀ s : State, s.link.pcie = true → s.link.dlv.enabled = false → ∃ t : State, exec .deliveryEnable s = .next t ∧ t.link.dlv.enabled = true ∧
    t.link.dlv.stopped = false ∧ t.link.dlv.skipped = 0 ∧ (t.link.dlv.filling ++ t.link.dlv.waiting.map (·.2)) = (s.link.dlv.filling ++ s.link.dlv.waiting.map (·.2)) ∧
    t = { s with link := { s.link with dlv := t.link.dlv } }) ∧
  (∀ s : State, s.link.pcie = true → exec .deliveryDisable s =
    .next { s with link := { s.link with dlv := { s.link.dlv with enabled := false } } }) ∧
  (∀ (s : State) (a : U32) (l : List (Nat × Nat)), s.link.pcie = true →
    ((s.link.dlv.on = false ∨ s.link.dlv.stopped = true) → exec (.dlvAvailWrite a l) s =
      .next { s with link := { s.link with dlv := { s.link.dlv with avail := a } } }) ∧
    (s.link.dlv.on = true → s.link.dlv.stopped = false → ∃ t : State, exec (.dlvAvailWrite a l) s = .next t ∧ t.link.dlv.avail = a ∧
      t.link.dlv.ring = s.link.dlv.ring ++ (l.take (a - s.link.dlv.avail).toNat).takeWhile descOk ∧ (t.link.dlv.filling ++ t.link.dlv.waiting.map (·.2)) = (s.link.dlv.filling ++ s.link.dlv.waiting.map (·.2)) ∧
      (t.link.dlv.stopped = false ↔ (l.take (a - s.link.dlv.avail).toNat).all descOk = true))) ∧
  (∀ (s : State) (b : U64) (e : U32), s.link.pcie = true →
    (s.link.dlv.base = b → exec (.dlvBaseWrite b e) s = .next { s with link := { s.link with dlv := { s.link.dlv with entries := e } } }) ∧
    (s.link.dlv.base ≠ b → ∃ t : State, exec (.dlvBaseWrite b e) s = .next t ∧ t.link.dlv.base = b ∧ t.link.dlv.entries = e ∧ (t.link.dlv.filling ++ t.link.dlv.waiting.map (·.2)) = [] ∧
      t.link.dlv.ring = [] ∧ (s.link.dlv.gap = none → (t.link.dlv.gap.map (·.2)).getD 0 = (s.link.dlv.filling ++ s.link.dlv.waiting.map (·.2)).length))) ∧
  (∀ s : State, (s.link.dlv.filling = [] ∨ s.link.dlv.ring = [] ∨ s.link.dlv.on = false ∨ s.link.dlv.stopped = true) → exec .deliveryBufferReturn s = .next s) ∧
  (∀ (s : State) (d : Nat × Nat) (l : List (Nat × Nat)), s.link.dlv.filling ≠ [] → s.link.dlv.ring = d :: l → s.link.dlv.on = true → s.link.dlv.stopped = false →
    ∃ t : State, exec .deliveryBufferReturn s = .next t ∧ t.link.dlv.used = s.link.dlv.used + 1 ∧ t.link.dlv.ring = l ∧
      t.link.dlv.returned = s.link.dlv.filling :: s.link.dlv.returned ∧ (t.link.dlv.filling ++ t.link.dlv.waiting.map (·.2)) = s.link.dlv.waiting.map (·.2) ∧ t.link.dlv.raised = true ∧
      t.link.msix = (if s.link.dlv.raised = true then s.link.msix else (0, 1) :: s.link.msix)) ∧
  (∀ (s : State) (q : U64), (s.entryOf q = none ∨ s.link.dlv.on = false) → exec (.readingDelivery q) s = .next s) ∧
  (∀ (s : State) (q : U64) (e : JEntry), s.entryOf q = some e → (e.keepalive = true ∨ e.macCmd = true) → exec (.readingDelivery q) s = .next s) ∧
  (∀ (s : State) (q : U64) (e : JEntry), s.entryOf q = some e → e.keepalive = false → e.macCmd = false → s.link.dlv.on = true →
    (s.link.dlv.gap = none → s.link.dlv.held + ({ e with isOpen := true } : JEntry).bytes.length ≤ s.dlvRoom → ∃ t : State, exec (.readingDelivery q) s = .next t ∧
      (t.link.dlv.filling ++ t.link.dlv.waiting.map (·.2)) = (s.link.dlv.filling ++ s.link.dlv.waiting.map (·.2)) ++ [({ e with isOpen := true } : JEntry).bytes] ∧ t.link.dlv.skipped = s.link.dlv.skipped) ∧
    (s.link.dlv.gap = none → s.dlvRoom < s.link.dlv.held + ({ e with isOpen := true } : JEntry).bytes.length → ∃ t : State, exec (.readingDelivery q) s = .next t ∧
      (t.link.dlv.filling ++ t.link.dlv.waiting.map (·.2)) = (s.link.dlv.filling ++ s.link.dlv.waiting.map (·.2)) ∧ t.link.dlv.skipped = s.link.dlv.skipped + 1 ∧ t.link.dlv.gap = some (q.toNat, 1)) ∧
    (∀ g, s.link.dlv.gap = some g → s.link.dlv.held + (gapRecord g.1 g.2).length + ({ e with isOpen := true } : JEntry).bytes.length ≤ s.dlvRoom →
      ∃ t : State, exec (.readingDelivery q) s = .next t ∧
        (t.link.dlv.filling ++ t.link.dlv.waiting.map (·.2)) = (s.link.dlv.filling ++ s.link.dlv.waiting.map (·.2)) ++ [gapRecord g.1 g.2, ({ e with isOpen := true } : JEntry).bytes] ∧ t.link.dlv.gap = none)) ∧
  (∀ s : State, s.pwr.inReset = true → exec .pcieLinkTrained s = .next s) ∧
  (∀ s : State, s.pwr.inReset = false → ∃ t : State, exec .pcieLinkTrained s = .next t ∧ t.link.pcie = true ∧ t.link.dlv = s.link.dlv ∧
    t.arch.nsUp = (s.cfgB 0x804001 && s.hvBlocks != 0)) ∧
  (∀ s : State, s.link.pcie = true → exec .pcieHotReset s = .next { s with link := { s.link with fn1 := s.cfgB 0x804001 } })

/-- Access codes and their lockout, legal time, the head-end connections and deliveries, and the OCB event table's
clear. An access code over any transport but classic SDO is "unsupported access". Over it, code 0 returns the
session to Observer even during the lockout; a code of a role gives the highest such role and forgets the wrong
ones; a wrong one is "access denied", and the fifth in a row locks entry and raises AUTH_FAIL 5; the lockout ends
it. A sound legal time waits as a calendar set with century 20, a malformed one is "value invalid" with RTC_SET_ERR.
A connection of a listed address is opened, of any other reset; a malformed message closes its connection, and one
that comes while the path is held waits; keep-alives leave open ones; the clear empties the table only. Rests on:
19_ocb_mode.md, R447, R449, R453, R455. -/
def Obligations.OcbCodesLegalTimeAndHeadEnd : Prop :=
  (∀ (s : State) (r : Req) (v : Bytes) (o : ObjRow), s.locate r 0x200100 = .ok o → r.sess.tr ≠ .sdo →
    exec (.accessCodeEntry r v) s = .next (s.respond r (.abort .unsupportedAccess))) ∧
  (∀ (s : State) (r : Req) (v : Bytes) (o : ObjRow), s.writes r 0x200100 v o → r.sess.tr = .sdo →
    (leNat v = 0 → exec (.accessCodeEntry r v) s = .next ((s.toObserver r.sess).respond r (.ok []))) ∧
    (leNat v ≠ 0 → s.link.codeLocked = true → exec (.accessCodeEntry r v) s = .next (s.respond r (.abort .accessDenied))) ∧
    (∀ k, leNat v ≠ 0 → s.link.codeLocked = false → s.codeRole v = some k → ∃ t : State, exec (.accessCodeEntry r v) s = .next (t.respond r (.ok [])) ∧
      (t.sess r.sess).role = roleOfCode k ∧ t.link.codeWrong = 0 ∧ t = { s with dict := t.dict, link := { s.link with codeWrong := 0 } }) ∧
    (leNat v ≠ 0 → s.link.codeLocked = false → s.codeRole v = none →
      ∃ t : State, exec (.accessCodeEntry r v) s = .next (t.respond r (.abort .accessDenied)) ∧ t.link.codeWrong = s.link.codeWrong + 1 ∧
        t.dict = s.dict ∧ (s.link.codeWrong < 4 → t.link.codeLocked = false ∧ t.ev = s.ev) ∧
        (4 ≤ s.link.codeWrong → t.link.codeLocked = true ∧ t.ev = (s.raise 0x001 5).ev))) ∧
  (∀ (s : State) (v : Bytes) (k : Nat), s.codeRole v = some k → 1 ≤ k ∧ k ≤ 4 ∧ s.stored (0x200200 + k) 0 = Config.sha256 (v ++ s.serialBytes) ∧
    ∀ j, k < j → j ≤ 4 → s.stored (0x200200 + j) 0 ≠ Config.sha256 (v ++ s.serialBytes)) ∧
  (∀ s : State, exec .accessCodeLockoutExpiry s = .next (if s.link.codeLocked then
    { s with link := { s.link with codeLocked := false, codeWrong := 0 } } else s)) ∧
  (∀ (s : State) (r : Req) (v a : Bytes) (o : ObjRow), s.writes r 0x210000 v o → a = (v.drop 2).reverse ++ [0x20] →
    (setArgOk a = false → exec (.ocbLegalTimeWrite r v) s = .next ((({ s with time := { s.time with setErr := true } } : State).raise
      0x051 0).respond r (.abort .valueInvalid))) ∧
    (setArgOk a = true → s.time.lockout = true → exec (.ocbLegalTimeWrite r v) s = .next (s.respond r (.abort .notReady))) ∧
    (setArgOk a = true → s.time.lockout = false → s.time.pendSet ≠ none → exec (.ocbLegalTimeWrite r v) s =
      .next (s.respond r (.abort .deviceBusy))) ∧
    (setArgOk a = true → s.time.lockout = false → s.time.pendSet = none → exec (.ocbLegalTimeWrite r v) s =
      .next { s with time := { s.time with pendSet := some (CalTime.ofBcd7 a, some (r, false)) } })) ∧
  (∀ (s : State) (n : Nat) (d : U32), tblFind? s.link.heConn n ≠ none → exec (.ocbHeadendConnect n d) s = .next s) ∧
  (∀ (s : State) (n : Nat) (d : U32), tblFind? s.link.heConn n = none → s.headEndOpen d = false →
    exec (.ocbHeadendConnect n d) s = .next (s.emit (.tcpReset d))) ∧
  (∀ (s : State) (n : Nat) (d : U32), tblFind? s.link.heConn n = none → s.headEndOpen d = true →
    exec (.ocbHeadendConnect n d) s = .next { s with link := { s.link with heConn := tblPut s.link.heConn n d } }) ∧
  (∀ (s : State) (d : U32), s.headEndOpen d = true → s.pwr.ocb = true ∧ s.acting = true ∧ s.link.heConn.length < 8 ∧
    ∃ i < 8, s.cfgOct (0x270002 + i) = beBytes 4 d.toNat) ∧
  (∀ (s : State) (n t : Nat) (m : Bytes), tblFind? s.link.heConn n = none → exec (.ocbHeadendKeepaliveTx n) s = .next s ∧
    ((s.pathRuns = true ∨ s.pwr.acceptReady = false) → exec (.ocbHeadendDelivery n m t) s = .next s)) ∧
  (∀ (s : State) (n t : Nat) (m : Bytes), s.pathRuns = false → s.pwr.acceptReady = true →
    exec (.ocbHeadendDelivery n m t) s = .next (s.holdInput 77 (.request (.ocbHeadendDelivery n m t)))) ∧
  (∀ (s : State) (n t : Nat) (m : Bytes), (s.pathRuns = true ∨ s.pwr.acceptReady = false) → tblFind? s.link.heConn n ≠ none → (beNat (slice m 0 2) < 10 ∨ 252 < beNat (slice m 0 2) ∨
      beNat (slice m 0 2) ≠ m.length ∨ fieldAt m 2 1 = 0) → exec (.ocbHeadendDelivery n m t) s = .next (s.closeHeadEnd n) ∧
    tblFind? (s.closeHeadEnd n).link.heConn n = none) ∧
  (∀ (s : State) (n t : Nat) (m : Bytes), (s.pathRuns = true ∨ s.pwr.acceptReady = false) → tblFind? s.link.heConn n ≠ none → 10 ≤ m.length → m.length ≤ 252 →
    beNat (slice m 0 2) = m.length →
    (2 ≤ fieldAt m 2 1 → exec (.ocbHeadendDelivery n m t) s = .next s) ∧
    (fieldAt m 2 1 = 1 → (s.atNet t).takesFrames = false → ∃ u : State, exec (.ocbHeadendDelivery n m t) s = .next u ∧
      u.link.heUnconf = s.link.heUnconf + 1 ∧ u.acc.journal = s.acc.journal) ∧
    (fieldAt m 2 1 = 1 → exec (.ocbHeadendDelivery n m t) s = .next ((s.atNet t).headEndRecord n (beNat (slice m 4 4))
      (beNat (slice m 8 2)) (m.drop 10) t))) ∧
  (∀ (s : State) (n : Nat), tblFind? s.link.heConn n ≠ none → exec (.ocbHeadendKeepaliveTx n) s = .next (s.emit (.headEnd n 3 0))) ∧
  (∀ (s : State) (n : Nat), exec (.ocbHeadendIdleClose n) s = .next { s with link := { s.link with heConn := tblDel s.link.heConn n } }) ∧
  (∀ (s : State) (r : Req) (arg : Bytes) (o : ObjRow), s.starts r 0x240003 arg o →
    (leNat arg ≠ 0 → exec (.clearOcbEventTable r arg) s = .next (s.respond r (.abort .valueInvalid))) ∧
    (leNat arg = 0 → exec (.clearOcbEventTable r arg) s = .next (((({ s with ev := { s.ev with ocb := [] } } : State)).raise 0x260
      (0x80 * 2 ^ 32)).succeeds r 0x240003 (s.itemOf r o))))

/-- A step runs the command at the front of the queue with the queue's rest; on an empty queue the clock ticks. With a
command at the front, a step is that command's effect on the state with the rest of the queue. On an empty queue one
tick of the 32.768 kHz clock passes, which is the model's choice (log entry 8): the monotonic tick goes up outside a
main reset and stands still in one, and neither the dictionary, the keys, the journal nor the queue changes. Rests
on: 01_architecture.md. -/
def Obligations.StepTakesTheFrontCommand : Prop :=
  (∀ (c : Instr) (s : State), step (s.withFront c) = exec c s) ∧
  (∀ (c : Instr) (rest : List Instr) (s : State), s.pending = c :: rest → step s = exec c { s with pending := rest }) ∧
  (∀ s : State, s.pending = [] → ∃ t : State, step s = .next t ∧ t.pending = [] ∧
    t.time.mono = (if s.pwr.inReset = true then s.time.mono else s.time.mono + 1) ∧
    t.dict = s.dict ∧ t.trust = s.trust ∧ t.acc = s.acc ∧ t.bill = s.bill ∧ t.pwr = s.pwr)

/-- The table gives no row any bits, so a word spells no command. For every length and word, decodeTableWord answers
none and withFetchWord leaves the state as it is. Rests on: 01_architecture.md. -/
def Obligations.NoWordSpellsACommand : Prop :=
  ∀ (s : State) (nbits w : Nat), decodeTableWord nbits w = none ∧ s.withFetchWord nbits w = s

/-- State.reset: empty queue, calendar at 2000-01-01 with OSF, every fuse unblown, sessions of Observer, nothing
accepted. Right after reset the queue and the trace are empty; the calendar reads 2000-01-01 00:00:00 with OSF and
the untrusted mark set; every fuse of the array is unblown (the factory's fuses too: log entry 2), so the life cycle
is BLANK; no slot of the key register is valid; every session has role Observer; journal, archive and orders are
empty; start-up stands at stage 2, with the dictionary not available. Rests on: 03_time.md, 04_trust_keys.md,
17_power_reset.md, R95, R105, R111, R423. -/
def Obligations.ResetLeavesTheStatedValues : Prop :=
  State.reset.pending = [] ∧ State.reset.out = [] ∧
  State.reset.time.cal = { year := 2000, month := 1, day := 1, hour := 0, minute := 0, second := 0 } ∧
  State.reset.time.osf = true ∧ State.reset.time.untrusted = true ∧ State.reset.time.sync = .free ∧
  (∀ f : Fuses, State.reset.trust.fuses.within f) ∧ State.reset.trust.lc = .blank ∧
  (∀ n, (State.reset.slot n).valid = false) ∧ (∀ i, (State.reset.sess i).role = .observer) ∧
  State.reset.acc.journal = [] ∧ State.reset.arch.recs = [] ∧ State.reset.bal.orders = [] ∧
  State.reset.pwr.stage = 2 ∧ State.reset.pwr.inReset = false ∧ State.reset.dict.available = false

/-- No step unblows a fuse: every fuse blown before it is blown after it. For every set of fuses f and every state whose
fuses include f, if a step answers a next state, the fuses of that state include f. Bits that did read back blown
stay blown (R112), over all 322 commands and the tick; and the fuses that no command of the device programs (root,
serial number, vendor key hashes) do not change at all. State.reset, with no fuse blown, meets it for the empty set
(ResetLeavesTheStatedValues). Rests on: 04_trust_keys.md, R111, R112. -/
def Obligations.FusesOnceBlownStayBlown : Prop :=
  ∀ (f : Fuses) (s t : State), f.within s.trust.fuses → step s = .next t →
    f.within t.trust.fuses ∧ t.trust.root = s.trust.root ∧ t.trust.serial = s.trust.serial ∧
    t.trust.vkh0 = s.trust.vkh0 ∧ t.trust.vkh1 = s.trust.vkh1 ∧ t.trust.rootLock = s.trust.rootLock

/-- A step never lowers the life cycle, whatever fuse bits fail to read back. For every bound n and every state whose
life cycle is at or above n, if a step answers a next state, its life cycle is at or above n; and a step that runs
no LIFE_CYCLE_TRANSITION leaves the life cycle as it is. A pattern that is no thermometer code counts as RETIRED
(R112), and no transition leaves RETIRED (R114). Rests on: 04_trust_keys.md, R112, R114. -/
def Obligations.TheLifeCycleNeverMovesBack : Prop :=
  (∀ (n : Nat) (s t : State), n ≤ s.trust.lc.code → step s = .next t → n ≤ t.trust.lc.code) ∧
  (∀ s t : State, step s = .next t → (∀ r arg stuck rest, s.pending ≠ .lifeCycleTransition r arg stuck :: rest) →
    t.trust.lc = s.trust.lc)

/-- Every step answers a next state, takes the front command alone, and puts none into the queue. For every state there
is a next state: no command and no operand ends the run in a fault or a refusal. The queue after the step is the
queue without its front, whatever the command did. Rests on: 01_architecture.md, 02_dictionary.md. -/
def Obligations.EveryStepGoesOnAndServesTheQueueInOrder : Prop :=
  ∀ s : State, ∃ t : State, step s = .next t ∧ t.pending = s.pending.tail

/-- The personality is fixed at a main reset by the fuse, the object or the strap, is reported, and stands till the
next. A release of a main reset takes the locked personality where PERS_LOCK is blown, 0b11 counting as native;
otherwise the one that 0x1008:00 names with 1 or 2; otherwise the strap's. 0x1002:00 [1:0] reports it as 1 or 2. No
step but the release of a main reset changes it. Rests on: R444. -/
def Obligations.ThePersonalityStandsUntilTheNextMainReset : Prop :=
  (∀ (s : State) (x : StartUp), s.pwr.inReset = true → s.pwr.aonAccepted = true → s.pwr.tj < 1100 →
    ∃ t : State, exec (.mainResetRelease x) s = .next t ∧ t.pwr.ocb =
      (if s.trust.persLock = 1 ∨ s.trust.persLock = 3 then false
       else if s.trust.persLock = 2 then true
       else if (s.judgeRetention (s.pwr.retTrip || !x.canaryOk)).restartDict.cfgN 0x100800 = 1 then false
       else if (s.judgeRetention (s.pwr.retTrip || !x.canaryOk)).restartDict.cfgN 0x100800 = 2 then true
       else x.ocbLow)) ∧
  (∀ s : State, s.statusWord % 4 = if s.pwr.ocb = true then 2 else 1) ∧
  (∀ s t : State, step s = .next t → (∀ x rest, s.pending ≠ .mainResetRelease x :: rest) → t.pwr.ocb = s.pwr.ocb)

/-- A main reset fixes the profile and the capacity from the context memory found; nothing changes them between two. A
release with 2 GiB or more of context memory runs in Head-end profile, with capacity 262,144 meters below 4 GiB and
1,048,575 from 4 GiB, and with less runs in Station profile with 12,288 meters; a recorded Head-end profile stays
recorded, and the recorded capacity is never lowered. No step but that release changes profile or capacity. Rests
on: 01_architecture.md, R29, R30. -/
def Obligations.TheProfileIsFixedAtAMainReset : Prop :=
  (∀ (s : State) (x : StartUp), s.pwr.inReset = true → s.pwr.aonAccepted = true → s.pwr.tj < 1100 →
    ∃ t : State, exec (.mainResetRelease x) s = .next t ∧ t.pwr.headEnd = decide (2 ≤ x.ctxGib) ∧
      t.capacityMeters = (if x.ctxGib < 2 then 12288 else if x.ctxGib < 4 then 262144 else 1048575) ∧
      (s.pwr.recHeadEnd = some true → t.pwr.recHeadEnd = some true) ∧ s.pwr.recCapacity ≤ t.pwr.recCapacity) ∧
  (∀ s t : State, step s = .next t → (∀ x rest, s.pending ≠ .mainResetRelease x :: rest) →
    t.pwr.headEnd = s.pwr.headEnd ∧ t.capacityMeters = s.capacityMeters)

/-- Leap years, the end of February, the 400-year cycle, the wrap after 2399 and the day of the week across it. A year
is a leap year when it is divisible by 4 and not by 100, or by 400; 2000 is one and 2100, 2200 and 2300 are not;
after 28 February of a common year comes 1 March. A valid time other than the range's last is followed by a valid
time one second later. After 2399-12-31 23:59:59 the calendar wraps to 2000-01-01 00:00:00, sets CAL_WRAP and raises
0x050. The cycle holds 146,097 days, 20,871 weeks; the day of the week runs on, and 2000-01-01 is code 6. Rests on:
R96. -/
def Obligations.TheCalendarFollowsTheGregorianRule : Prop :=
  (∀ y : Nat, leapYear y = true ↔ (y % 4 = 0 ∧ y % 100 ≠ 0) ∨ y % 400 = 0) ∧
  leapYear 2000 = true ∧ leapYear 2100 = false ∧ leapYear 2200 = false ∧ leapYear 2300 = false ∧
  (∀ y : Nat, leapYear y = false → ({ year := y, month := 2, day := 28, hour := 23, minute := 59, second := 59 } : CalTime).next =
    ({ year := y, month := 3, day := 1 }, false)) ∧
  (∀ c : CalTime, c.valid = true → c ≠ calLast → c.next.2 = false ∧ c.next.1.valid = true ∧ c.next.1.secs = c.secs + 1) ∧
  calLast.next = ({ year := 2000, month := 1, day := 1, hour := 0, minute := 0, second := 0 }, true) ∧
  (∀ s : State, s.time.cal = calLast → ∃ t : State, ∃ m : Int, exec .calWrap s = .next (t.raise 0x050 m) ∧ t.time.calWrap = true ∧
    t.time.cal = { year := 2000, month := 1, day := 1, hour := 0, minute := 0, second := 0 }) ∧
  daysOf calLast + 1 = 146097 ∧ 146097 = 7 * 20871 ∧ dayOfWeek 0 = 6 ∧
  (∀ d : Nat, dayOfWeek (d + 1) = dayOfWeek d % 7 + 1 ∧ dayOfWeek (d + 146097) = dayOfWeek d)

/-- A new generation of slot 2 orphans every key below it; INVALIDATE and DESTROY refuse slot 2, CHANGE_FLEET_WRAP_KEY
ends in it. Once the generation of slot 2 goes up, or the slot is zeroized, every key that was no orphan and has
slot 2 among its parents within six steps is an orphan: every meter slot, whose parent is slot 2, and every imported
system key. INVALIDATE and DESTROY of a handle of slot 2 are therefore aborted with "value invalid" and change
nothing; the rewrap that 0xA056 starts, at its end, does give slot 2 a new generation. Rests on: R126. -/
def Obligations.SlotTwoIsReplacedOnlyByItsRewrap : Prop :=
  (∀ (s : State) (n k : Nat) (v : KeySlot), v = (s.slot 2).bumped ∨ v = (s.slot 2).zeroized → k < 6 → s.ancestor (k + 1) n = 2 →
    (∀ j, j ≤ k → s.ancestor j n ≠ 2 ∧ (s.slot (s.ancestor j n)).parent ≠ rootParent) →
    s.orphan 7 n = false → (s.setSlot 2 v).orphan 7 n = true) ∧
  (∀ (s : State) (r : Req) (arg : Bytes) (o : ObjRow), s.starts r 0xA05300 arg o → handleSlot (leNat arg) = 2 →
    exec (.invalidate r arg) s = .next (s.respond r (.abort .valueInvalid))) ∧
  (∀ (s : State) (r : Req) (arg : Bytes) (o : ObjRow), s.starts r 0xA05400 arg o → handleSlot (leNat arg) = 2 →
    exec (.destroy r arg) s = .next (s.respond r (.abort .valueInvalid))) ∧
  (∀ (s : State) (d : Option Nat), s.trust.rewrap = some d → (s.slot 5).valid = true → (s.slot 3).valid = true →
    (s.slot 3).parent = rootParent → ∃ t : State, exec .rewrapComplete s = .next t ∧ (t.slot 2).gen = ((s.slot 2).gen + 1) % 8)

/-- An event's stamp has the form of the profile that runs, whatever profile is recorded, and records held keep theirs.
The stamp of an occurrence has its top bit set exactly in Head-end profile; a release of a main reset that finds
less than 2 GiB of context memory runs in Station profile although Head-end is recorded. A raise, of any code with
any measure, leaves each record held as it is or drops it, and a record it adds carries the stamp of the form that
runs; a flush adds none. Rests on: R395. -/
def Obligations.StampsFollowTheRunningProfile : Prop :=
  (∀ s : State, s.stampNow.1.getLsbD 63 = s.pwr.headEnd) ∧
  (∀ (s : State) (x : StartUp), s.pwr.inReset = true → s.pwr.aonAccepted = true → s.pwr.tj < 1100 → x.ctxGib < 2 →
    s.pwr.recHeadEnd = some true →
    ∃ t : State, exec (.mainResetRelease x) s = .next t ∧ t.pwr.recHeadEnd = some true ∧ t.stampNow.1.getLsbD 63 = false) ∧
  (∀ (s : State) (x : StartUp), s.pwr.inReset = true → s.pwr.aonAccepted = true → s.pwr.tj < 1100 → 2 ≤ x.ctxGib →
    ∃ t : State, exec (.mainResetRelease x) s = .next t ∧ t.stampNow.1.getLsbD 63 = true) ∧
  (∀ (s : State) (code : Nat) (m : Int), ∀ e ∈ (s.raise code m).ev.buf ++ (s.raise code m).ev.log,
    e ∈ s.ev.buf ++ s.ev.log ∨ (e.stamp = s.stampNow.1 ∧ e.code = code)) ∧
  (∀ s : State, ∃ t : State, exec .eventFlush s = .next t ∧ ∀ e ∈ t.ev.buf ++ t.ev.log, e ∈ s.ev.buf ++ s.ev.log)

/-- COMMIT, DISCARD, GROUP_SAFE_POINT_APPLY, RESTORE_DEFAULTS and CFG_MISMATCH_TIMEOUT each complete with their own
effect. A commit with a count that fits of a consistent set that is not empty leaves the group APPLYING with nothing
pending; a discard outside APPLYING leaves nothing pending; the safe point of a group APPLYING leaves it IDLE and
counts the switch; RESTORE_DEFAULTS with its key leaves the restore requested; 500 ms in MISMATCH with a set still
inconsistent leave the episode marked as raised. The conditions are on the state and the operands alone, and
CommitsApplyAtTheSafePointAndDiscardsForget gives what happens outside them. Rests on: 02_dictionary.md, R51, R54,
R57, R58. -/
def Obligations.GroupCommandsComplete : Prop :=
  (∀ (s : State) (r : Req) (g : Fin 39) (arg : Bytes) (o : ObjRow), s.starts r ((0x1F00 + g.val) * 256 + 3) arg o →
    (s.group g.val).st ≠ .applying → (leNat arg = 0 ∨ leNat arg = (groupEntries g.val s.dict.pend).length) →
    groupEntries g.val s.dict.pend ≠ [] → s.groupOk g.val = true → r.storeOk = true →
    ∃ t : State, exec (.commit r g arg) s = .next t ∧ (t.group g.val).st = .applying ∧ groupEntries g.val t.dict.pend = []) ∧
  (∀ (s : State) (r : Req) (g : Fin 39) (arg : Bytes) (o : ObjRow), s.starts r ((0x1F00 + g.val) * 256 + 4) arg o →
    leNat arg = 0 → (s.group g.val).st ≠ .applying →
    ∃ t : State, exec (.discard r g arg) s = .next t ∧ groupEntries g.val t.dict.pend = [] ∧ (t.group g.val).st ≠ .pending) ∧
  (∀ (s : State) (g : Fin 39), (s.group g.val).st = .applying → s.atSafePoint g.val = true →
    ∃ t : State, exec (.groupSafePointApply g) s = .next t ∧ (t.group g.val).st = .idle ∧
      (t.group g.val).applyCount = (s.group g.val).applyCount + 1) ∧
  (∀ (s : State) (r : Req) (arg : Bytes) (o : ObjRow), s.starts r 0x101101 arg o → leNat arg = 0x64616F6C →
    ∃ t : State, exec (.restoreDefaults r arg) s = .next t ∧ t.dict.restore = true) ∧
  (∀ (s : State) (g : Fin 39), (s.group g.val).st = .mismatch → (s.group g.val).mismatchRaised = false →
    (s.group g.val).mismatchSince + 500000000 ≤ s.time.net → s.groupOk g.val = false →
    ∃ t : State, exec (.cfgMismatchTimeout g) s = .next t ∧ (t.group g.val).mismatchRaised = true)

/-- Each of the 322 commands completes from every state, whatever its operands: exec answers a next state and leaves the
queue. For every command and every state, with no condition on either, exec answers a next state: no command of the
table ends in a fault or a refusal, for the block goes on after a request that it turns away, and it never touches
the queue of the commands that wait. What each command's own effect is, and where, the other statements say. Rests
on: 01_architecture.md, 02_dictionary.md. -/
def Obligations.EveryCommandCompletes : Prop :=
  ∀ (i : Instr) (s : State), ∃ t : State, exec i s = .next t ∧ t.pending = s.pending

/-- The 41 commands of the calendar, of the links and downlinks, and of the standard generations and joins each complete
with their own effect. For each of these commands: where the conditions hold, which are on the state and the
operands alone, exec answers a next state that has the command's own effect. Calendar: a set waits for its tick, is
applied by it and forgotten without it; a shift moves the count; a hold ends; the wrap, a discipline set, a
temperature, a learnt trim, the emptied table, the stopped and the running oscillator, the offset in force and the
table-low event. Links: a decided report, resynchronisation or unknown command is taken, a due assignment or hint is
sent, paths are chosen, a downlink leaves, is acknowledged or counted as late, old links go, the running RMS is set.
Standard generations: an accepted frame leaves its acknowledgement due, a join within the pacing makes a partner, a
key change ends, a stuck journal is raised, a held input discarded, a forwarding request answered, a partner
removed. Rests on: 03_time.md, 05_powerline.md, 06_radio.md, 07_acceptance.md, R98, R99, R100, R142, R149, R162,
R173, R197. -/
def Obligations.CalendarLinkAndJoinCommandsComplete : Prop :=
  (∀ (s : State) (r : Req) (arg : Bytes) (o : ObjRow), s.starts r 0x320100 arg o → setArgOk arg = true → s.time.lockout = false →
    ∃ t : State, exec (.setCalendar r arg) s = .next t ∧ t.time.pendSet = some (CalTime.ofBcd7 arg, some (r, true))) ∧
  (∀ (s : State) (c : CalTime) (who : Option (Req × Bool)), s.time.pendSet = some (c, who) → s.time.pendShift = none →
    s.time.oscStopped = false →
    ∃ t : State, exec .calendarSetTick s = .next t ∧ t.time.cal = c ∧ t.time.sub = 0 ∧ t.time.pendSet = none ∧ t.time.untrusted = false) ∧
  (∀ s : State, ∃ t : State, exec .calendarSetNoTick s = .next t ∧ t.time.pendSet = none ∧ t.time.pendShift = none ∧ t.time.cal = s.time.cal) ∧
  (∀ (s : State) (r : Req) (arg : Bytes) (o : ObjRow) (n : Int), s.starts r 0x320200 arg o → n = toSigned 16 (leNat arg) →
    0 < n → s.time.lockout = false → s.time.hold = none → s.time.oscStopped = false → (s.time.sub.toNat : Int) + n < 32768 →
    ∃ t : State, exec (.subSecondShift r arg) s = .next t ∧ t.time.sub = BitVec.ofNat 15 (s.time.sub.toNat + n.toNat)) ∧
  (∀ s : State, ∃ t : State, exec .holdEnd s = .next t ∧ t.time.hold = none ∧ t.time.cal = s.time.cal) ∧
  (∀ s : State, s.time.cal = calLast → ∃ t : State, exec .calWrap s = .next t ∧ t.time.calWrap = true ∧ t.time.sub = 0) ∧
  (∀ s : State, s.cfgN 0x320300 = 2 → s.time.sync = .locked → s.time.lockout = false → s.time.oscStopped = false →
    1000000000 ≤ (s.legalNs - s.time.calNs).natAbs → 0 ≤ s.legalNs / 1000000000 + 1 →
    s.legalNs / 1000000000 + 1 < 400 * 365 * 86400 + 97 * 86400 →
    ∃ t : State, exec .calendarDiscipline s = .next t ∧
      t.time.discSet = some (CalTime.ofSecs (s.legalNs / 1000000000 + 1).toNat)) ∧
  (∀ (s : State) (x : BitVec 16), ∃ t : State, exec (.temperatureBinSample x) s = .next t ∧ t.time.temp = x.toInt) ∧
  (∀ (s : State) (x : BitVec 16) (e : Nat), s.time.sync = .locked → s.time.lockout = false → s.time.trimFed = [] →
    ∃ t : State, exec (.trimWindowEnd x e) s = .next t ∧ t.time.trimMram = t.time.trim ∧
      (tblGet {} t.time.trim (trimBin x.toInt)).value = clampTo 200000 (s.time.trimInUse +
        roundDiv (((e : Int) - 1024000000000) * 1000000000) 1024000000000)) ∧
  (∀ (s : State) (r : Req) (arg : Bytes) (o : ObjRow), s.starts r 0x320404 arg o → s.time.lockout = false →
    ∃ t : State, exec (.relearnTrim r arg) s = .next t ∧ t.time.trim = []) ∧
  (∀ s : State, ∃ t : State, exec .oscStop s = .next t ∧ t.time.oscStopped = true ∧ t.time.osf = true ∧ t.time.untrusted = true) ∧
  (∀ s : State, ∃ t : State, exec .oscillatorResume s = .next t ∧ t.time.oscStopped = false ∧ t.time.osf = s.time.osf) ∧
  (∀ s : State, ∃ t : State, exec .dstOffsetChange s = .next t ∧ t.time.dst = s.dstNow) ∧
  (∀ (s : State) (d : Int), d = (dstLast s : Int) - (s.time.cal.secs / 60 : Nat) → dstLast s ≠ 0 → d < 366 * 1440 →
    ∃ t : State, exec .dstTableLow s = .next t ∧ t = s.raise 0x054 (d / 1440)) ∧
  (∀ (s : State) (p : Fin 12) (m : MacCmd), s.field.mac.find? (fun m => m.port == p.val && m.code == 3) = some m →
    fieldAt m.body 0 1 = 1 → m.body.length = 12 →
    ∃ t : State, exec (.neighbourReport p) s = .next t ∧ t.field.mac = s.field.mac.erase m ∧
      tblFind? t.field.links (linkKey m.handle (neighbourEntry m.body 0).1) = some ⟨(neighbourEntry m.body 0).2, s.time.net⟩) ∧
  (∀ (s : State) (p : Fin 12) (m : MacCmd), s.field.mac.find? (fun m => m.port == p.val && m.code == 4) = some m →
    ∃ t : State, exec (.phaseReport p) s = .next t ∧ t.field.mac = s.field.mac.erase m) ∧
  (∀ (s : State) (p : Fin 24) (m : MacCmd) (x : Partner), s.field.mac.find? (fun m => m.port == p.val && m.code == 5) = some m →
    s.partner m.handle = some x →
    ∃ t y, exec (.resynchronised p) s = .next t ∧ t.partner m.handle = some y ∧ y.sync = 1 ∧ y.unacked = 0 ∧ y.hintDue = true) ∧
  (∀ (s : State) (p : Fin 24) (m : MacCmd), s.field.mac.find? (fun m => m.port == p.val && !knownCode p.val m.code) = some m →
    ∃ t : State, exec (.unknownCommand p) s = .next t ∧ t.field.mac = s.field.mac.erase m) ∧
  (∀ (s u : State) (p : Fin 12) (h : Nat) (x : Partner) (a : Nat × Nat × Nat × Nat),
    s.field.partners.find? (fun x => x.2.port == p.val + 12 && x.2.assignDue) = some (h, x) → x.slot = some a →
    u = s.setPartner h (fun y => { y with assignDue := false }) → (u.lineMeterKey none h .ccm).1 ≠ none →
    u.sendCommand (p.val + 12) h 6 (leBytes 1 a.1 ++ leBytes 1 a.2.1 ++ leBytes 1 a.2.2.1 ++ leBytes 1 a.2.2.2) false ≠ none →
    ∃ (t : State) (b : Bytes), exec (.slotAssignmentTx p) s = .next t ∧ t.out.head? = some (.field (p.val + 12) b)) ∧
  (∀ (s u : State) (p : Fin 24) (h : Nat) (x : Partner),
    s.field.partners.find? (fun x => x.2.port == p.val && x.2.hintDue) = some (h, x) →
    u = s.setPartner h (fun y => { y with hintDue := false }) → (u.lineMeterKey none h .ccm).1 ≠ none →
    u.sendCommand p.val h 7 (leBytes 4 (ofSigned 32 x.err) ++ leBytes 2 (min 65535 (2 * x.drift)) ++ [1]) false ≠ none →
    ∃ (t : State) (b : Bytes), exec (.timingHintTx p) s = .next t ∧ t.out.head? = some (.field p.val b)) ∧
  (∀ (s : State) (p : Fin 12) (h : Handle) (j : Fin 8) (step cost : Nat) (l : List Nat) (x : Partner),
    s.partner h.toNat = some x → x.known = false → s.bestPath p.val h.toNat j.val step = some (cost, l) →
    ∃ t y, exec (.pathSelection p [(h, j, step)]) s = .next t ∧ t.partner h.toNat = some y ∧ y.path = l ∧ y.cost = cost ∧
      y.hasPath = true ∧ y.unreachable = false) ∧
  (∀ (s u v : State) (p : Fin 24) (h : Handle) (c b : Bytes) (x : Partner) (d : Down) (rest : List Down) (path : List Nat) (span : Nat),
    s.mayTransmit p.val = true → u = (s.takePortItem p.val c).showResults → u.partner h.toNat = some x → x.queue = d :: rest →
    x.port = p.val → u.isNative p.val = true → u.routeTo p.val h.toNat = some (path, span) → (u.fport p.val).began = true →
    x.sync ≠ 2 → x.unreachable = false → u.slotOpen p.val span (some x) = true → x.flight = none →
    d.body.length ≤ u.sendLimit p.val → u.downFrame p.val h.toNat path d = (some b, v) →
    u.dutyFits p.val (airtime (u.pcfg p.val 3 2) b.length) = true →
    ∃ t : State, exec (.downlinkFrameTx p h c) s = .next t ∧ t.out.head? = some (.field p.val b)) ∧
  (∀ (s u v : State) (p : Fin 24) (b : Bytes) (rx : Rx) (x y : Partner) (c : Nat) (f key : Bytes) (d : Down) (rest : List Down),
    s.pathRuns = true → s.isNative p.val = true → s.takesFrames = true → s.deaf p.val rx = false → fieldAt b 0 1 / 32 = 1 →
    s.partner (fieldAt b 3 3 % 2 ^ 20) = some x → x.flight = some (c, f) → x.port = p.val →
    s.screenAck p.val b rx = (true, v) → fieldAt b (6 + 3 * (fieldAt b 0 1 / 4 % 4)) 4 = c →
    v.lineMeterKey none (fieldAt b 3 3 % 2 ^ 20) .cmac = (some key, u) → u.partner (fieldAt b 3 3 % 2 ^ 20) = some y →
    y.queue = d :: rest → slice b (6 + 3 * (fieldAt b 0 1 / 4 % 4) + (if isRf p then 7 else 4)) 8 =
      ackMic key (s.station p.val) (fieldAt b 3 3 % 2 ^ 20)
        (slice b (6 + 3 * (fieldAt b 0 1 / 4 % 4)) (if isRf p then 7 else 4)) (f.drop (f.length - 16)) →
    ∃ t z, exec (.downlinkAckRx p ⟨b, rx⟩) s = .next t ∧ t.partner (fieldAt b 3 3 % 2 ^ 20) = some z ∧ z.queue = rest ∧
      z.flight = none ∧ z.unacked = 0) ∧
  (∀ (s : State) (p : Fin 24) (h : Handle) (x : Partner), s.partner h.toNat = some x → x.port = p.val → x.flight ≠ none →
    (isRf p.val = false ∨ x.inHome = true) →
    ∃ t y, exec (.downlinkAckTimeout p h) s = .next t ∧ t.partner h.toNat = some y ∧ y.unacked = x.unacked + 1) ∧
  (∀ s : State, ∃ t : State, exec .linkAgeing s = .next t ∧
    t.field.links = s.field.links.filter (fun x => decide (s.time.net < x.2.fresh + 86400000000000))) ∧
  (∀ (s : State) (p : Fin 12) (rms : U16), s.pcfg p.val 3 1 ≠ 0 → (s.fport p.val).muteTo ≤ s.time.net →
    ∃ t : State, exec (.blankingReseed p rms) s = .next t ∧ (t.fport p.val).rms = rms.toNat) ∧
  (∀ (s u : State) (p : Fin 12) (f : StdFrame) (rx : Rx) (k : Nat) (offer : Offer), s.pathRuns = true →
    (s.pcfg p.val 1 1 = 1 ∨ s.pcfg p.val 1 1 = 2) → s.stdPortOk p.val (s.pcfg p.val 1 1) = true → s.deaf p.val rx = false →
    s.g3Key p.val f.mode = some k → s.impulseDrops p.val rx = false → u = s.heard p.val rx → u.takesFrames = true → rx.late = false →
    offer = stdOffer p.val (s.pcfg p.val 1 1) (some k) (.counter f.counter) f rx (u.erasures p.val rx) → (u.accept offer).1 = .accepted →
    ∃ t a, exec (.g3FrameRx p f rx) s = .next t ∧ t = (u.accept offer).2.ackDue p.val a ∧ a.handle = f.handle.toNat) ∧
  (∀ (s u : State) (p : Fin 12) (f : StdFrame) (rx : Rx) (offer : Offer), s.pathRuns = true →
    s.stdPortOk p.val 3 = true → s.deaf p.val rx = false → f.mode = s.pcfg p.val 5 3 → s.impulseDrops p.val rx = false →
    u = s.heard p.val rx → u.takesFrames = true → rx.late = false →
    offer = stdOffer p.val 3 (some (s.pcfg p.val 5 4)) (.counter f.counter) f rx (u.erasures p.val rx) → (u.accept offer).1 = .accepted →
    ∃ t a, exec (.primeFrameRx p f rx) s = .next t ∧ t = (u.accept offer).2.ackDue p.val a ∧ a.handle = f.handle.toNat) ∧
  (∀ (s u : State) (p : Fin 12) (f : StdFrame) (l : WMode) (rx : Rx) (offer : Offer), s.pathRuns = true →
    s.stdPortOk (p.val + 12) 6 = true → s.pcfg (p.val + 12) 4 1 / 2 ^ l.bit % 2 = 1 → f.mode = 7 → l.bidi = true →
    s.pcfg (p.val + 12) 4 5 = 1 →
    u = (s.setPartner f.handle.toNat (fun x => { x with bidi := l.bidi, link := some l })).heard (p.val + 12) rx →
    u.takesFrames = true → rx.late = false →
    offer = stdOffer (p.val + 12) 6 none (.counter f.counter) (inMode f l) rx (u.erasures (p.val + 12) rx) →
    (u.accept offer).1 = .accepted →
    ∃ t a, exec (.wmbusFrameRx p f l rx) s = .next t ∧ t = (u.accept offer).2.ackDue (p.val + 12) a ∧ a.handle = f.handle.toNat) ∧
  (∀ (s u : State) (p : Fin 12) (f : StdFrame) (rx : Rx) (offer : Offer), s.pathRuns = true →
    s.stdPortOk (p.val + 12) 7 = true → f.mode = s.pcfg (p.val + 12) 5 6 → u = s.heard (p.val + 12) rx → u.takesFrames = true →
    rx.late = false →
    offer = stdOffer (p.val + 12) 7 (some (s.pcfg (p.val + 12) 5 5)) (.counter f.counter) f rx (u.erasures (p.val + 12) rx) →
    (u.accept offer).1 = .accepted →
    ∃ t a, exec (.sunFrameRx p f rx) s = .next t ∧ t = (u.accept offer).2.ackDue (p.val + 12) a ∧ a.handle = f.handle.toNat) ∧
  (∀ (s u : State) (p : Fin 12) (b : Bytes) (rx : Rx) (offer : Offer), s.pathRuns = true → s.stdPortOk p.val 5 = true →
    s.deaf p.val rx = false → s.impulseDrops p.val rx = false → fieldAt b 0 1 / 64 = 0 → fieldAt b 0 1 / 32 % 2 ≠ 0 →
    u = s.heard p.val rx → u.takesFrames = true → rx.late = false →
    offer = ocbOffer (p.val + 1) (beNat (slice b 2 2)) (linkWord p.val 5) (some p.val) b rx (u.erasures p.val rx) →
    (u.accept offer).1 = .accepted →
    ∃ t a, exec (.ocbLpduRx p b rx) s = .next t ∧ t = (u.accept offer).2.ackDue p.val a ∧ a.handle = beNat (slice b 2 2)) ∧
  (∀ (s u : State) (p : Fin 12) (h : Handle), s.pathRuns = true → s.takesFrames = true → s.mayTransmit p.val = true →
    (s.fport p.val).joins < s.joinLimit p.val →
    u = (s.bumpPort p.val 1).setFport p.val (fun x => { x with joins := x.joins + 1 }) →
    (s.pcfg p.val 1 1 = 3 → u.joinPartner p.val h.toNat 3 ≠ none →
      ∃ t x, exec (.primeRegistration p h) s = .next t ∧ t.partner h.toNat = some x ∧ x.joined = true ∧ x.gen = 3) ∧
    (s.pcfg p.val 1 2 = 1 → u.joinPartner p.val h.toNat 5 ≠ none →
      ∃ t x, exec (.sfskDiscovery p h) s = .next t ∧ t.partner h.toNat = some x ∧ x.joined = true ∧ x.gen = 5) ∧
    ((s.pcfg p.val 1 1 = 1 ∨ s.pcfg p.val 1 1 = 2) → s.partner h.toNat = none → u.joinPartner p.val h.toNat (s.pcfg p.val 1 1) ≠ none →
      ∃ t x, exec (.g3LbpJoin p h) s = .next t ∧ t.partner h.toNat = some x ∧ x.joined = true ∧ x.gen = s.pcfg p.val 1 1)) ∧
  (∀ (s u : State) (p : Fin 12) (f : StdHeard), s.pathRuns = true → s.takesFrames = true → s.mayTransmit (p.val + 12) = true →
    (s.fport (p.val + 12)).joins < s.joinLimit (p.val + 12) → s.stdPortOk (p.val + 12) 6 = true →
    s.pcfg (p.val + 12) 4 1 / 2 ^ f.frame.link.bit % 2 = 1 →
    u = s.setFport (p.val + 12) (fun x => { x with joins := x.joins + 1 }) →
    u.joinPartner (p.val + 12) f.frame.handle.toNat 1 ≠ none →
    ∃ t x, exec (.wmbusInstallRequest p f) s = .next (State.wmbusRx t (p.val + 12) f.frame f.rx) ∧
      t.partner f.frame.handle.toNat = some x ∧ x.joined = true ∧ x.gen = 1) ∧
  (∀ (s u : State) (p : Fin 12) (h : Handle), s.pathRuns = true → s.takesFrames = true → s.mayTransmit (p.val + 12) = true →
    (s.fport (p.val + 12)).joins < s.joinLimit (p.val + 12) → s.pcfg (p.val + 12) 0 1 = 2 →
    u = (s.bumpPort (p.val + 12) 1).setFport (p.val + 12) (fun x => { x with joins := x.joins + 1 }) →
    u.joinPartner (p.val + 12) h.toNat 2 ≠ none →
    ∃ t x, exec (.sunAssociation p h) s = .next t ∧ t.partner h.toNat = some x ∧ x.joined = true ∧ x.gen = 2) ∧
  (∀ (s : State) (p : Fin 12) (k : Rekey), (s.fport p.val).rekey = some k → k.start + 600000000000 ≤ s.time.net →
    ∃ t : State, exec (.g3RekeySwitch p) s = .next t ∧ (t.fport p.val).rekey = none ∧ (t.fport p.val).keyIndex = 1 - k.index) ∧
  (∀ (s : State) (e : JEntry), s.acc.journal.find? (·.isOpen) = some e → s.cfgN 0x501003 * 32768 < s.time.mono - e.born →
    ∃ t : State, exec .journalStuck s = .next t ∧ t.acc.stuckRaised = true) ∧
  (∀ (s : State) (src : Nat) (x : Held), src ≤ 24 → s.acc.inputs.find? (fun x => x.src == src) = some x →
    ∃ t : State, exec (.inputDeadlineDiscard src) s = .next t ∧ t.acc.inputs = s.acc.inputs.erase x) ∧
  (∀ (s t : State) (r : Req) (peer : Bytes) (l : List FwdRecord) (stamp : Nat) (a : List (Bytes × Option U64) × State),
    s.association r.sess peer = some t → t.pathRuns = true → t.acting = true → t.pwr.acceptReady = true → t.cfgB 0x502001 = true →
    t.cfgN 0x502003 ≤ t.roleOf r → l.length ≤ t.cfgN 0x502002 → l.any (·.zeroLen) = false → l ≠ [] →
    a = (t.atNet stamp).forwardAll r.sess.id (45 + r.sess.id % 32) stamp l → a.1.all (fun x => x.2.isNone) = true →
    ∃ u : State, exec (.forwardingRequest r peer l stamp) s = .next u ∧ u.out.head? = some (.fwd r 204 (a.1.map (·.1)))) ∧
  (∀ (s : State) (h : Handle) (x : Partner), s.partner h.toNat = some x →
    ∃ t : State, exec (.partnerRemoval h) s = .next t ∧ t.partner h.toNat = none)

end
end

