-- ==== Sys2Proof/Laws/Tables.lean ====
section
/-! SUPPORT. Reading a table after a change of one entry, and the canonical form that every change keeps. -/

namespace Sys2Proof.Machine

variable {α : Type}

/-- The entry just set is the one found. -/
@[simp] theorem tblFind?_put_same (t : Tbl α) (k : Nat) (v : α) : tblFind? (tblPut t k v) k = some v := by
  induction t with
  | nil => simp [tblPut, tblFind?]
  | cons p t ih =>
    obtain ⟨k', v'⟩ := p
    simp only [tblPut]
    split
    · simp [tblFind?]
    · split
      · simp [tblFind?]
      · rename_i h1 h2
        have : k' ≠ k := fun h => h2 h.symm
        simp [tblFind?, this, ih]

/-- Setting an entry leaves every other as it is. -/
theorem tblFind?_put_ne (t : Tbl α) {k j : Nat} (v : α) (h : j ≠ k) : tblFind? (tblPut t k v) j = tblFind? t j := by
  induction t with
  | nil => simp [tblPut, tblFind?, h.symm]
  | cons p t ih =>
    obtain ⟨k', v'⟩ := p
    simp only [tblPut]
    split
    · simp [tblFind?, h.symm]
    · split
      · rename_i h1 h2
        subst h2
        simp [tblFind?, h.symm]
      · simp [tblFind?, ih]

/-- A deleted entry is found no more. -/
@[simp] theorem tblFind?_del_same (t : Tbl α) (k : Nat) : tblFind? (tblDel t k) k = none := by
  induction t with
  | nil => rfl
  | cons p t ih =>
    obtain ⟨k', v'⟩ := p
    simp only [tblDel, List.filter_cons] at ih ⊢
    split
    · rename_i h
      have h' : k' ≠ k := by simpa using h
      simp [tblFind?, h', ih]
    · exact ih

/-- Deleting an entry leaves every other as it is. -/
theorem tblFind?_del_ne (t : Tbl α) {k j : Nat} (h : j ≠ k) : tblFind? (tblDel t k) j = tblFind? t j := by
  induction t with
  | nil => rfl
  | cons p t ih =>
    obtain ⟨k', v'⟩ := p
    simp only [tblDel, List.filter_cons] at ih ⊢
    split
    · simp only [tblFind?, ih]
    · rename_i hk
      have h' : k' ≠ j := by
        have : k' = k := by simpa using hk
        omega
      simp [tblFind?, h', ih]

@[simp] theorem tblGet_put_same (d : α) (t : Tbl α) (k : Nat) (v : α) : tblGet d (tblPut t k v) k = v := by
  simp [tblGet]

theorem tblGet_put_ne (d : α) (t : Tbl α) {k j : Nat} (v : α) (h : j ≠ k) : tblGet d (tblPut t k v) j = tblGet d t j := by
  simp [tblGet, tblFind?_put_ne t v h]

@[simp] theorem tblGet_upd_same (d : α) (t : Tbl α) (k : Nat) (f : α → α) : tblGet d (tblUpd d t k f) k = f (tblGet d t k) := by
  simp [tblUpd]

theorem tblGet_upd_ne (d : α) (t : Tbl α) {k j : Nat} (f : α → α) (h : j ≠ k) :
    tblGet d (tblUpd d t k f) j = tblGet d t j := by
  simp [tblUpd, tblGet_put_ne d t _ h]

theorem tblSortedFrom_mono {b c : Nat} (h : b ≤ c) (t : Tbl α) (hs : tblSortedFrom c t = true) : tblSortedFrom b t = true := by
  cases t with
  | nil => rfl
  | cons p t =>
    obtain ⟨k, v⟩ := p
    simp only [tblSortedFrom, Bool.and_eq_true, decide_eq_true_eq] at hs ⊢
    exact ⟨Nat.le_trans h hs.1, hs.2⟩

theorem tblSortedFrom_put (t : Tbl α) (k b : Nat) (v : α) (hb : b ≤ k) (hs : tblSortedFrom b t = true) :
    tblSortedFrom b (tblPut t k v) = true := by
  induction t generalizing b with
  | nil => simp [tblPut, tblSortedFrom, hb]
  | cons p t ih =>
    obtain ⟨k', v'⟩ := p
    simp only [tblSortedFrom, Bool.and_eq_true, decide_eq_true_eq] at hs
    simp only [tblPut]
    split
    · rename_i h
      simp only [tblSortedFrom, Bool.and_eq_true, decide_eq_true_eq]
      exact ⟨hb, h, hs.2⟩
    · split
      · rename_i _ h
        simp only [tblSortedFrom, Bool.and_eq_true, decide_eq_true_eq]
        exact ⟨hb, h ▸ hs.2⟩
      · rename_i h1 h2
        simp only [tblSortedFrom, Bool.and_eq_true, decide_eq_true_eq]
        exact ⟨hs.1, ih (k' + 1) (by omega) hs.2⟩

/-- Setting an entry keeps the keys in strictly rising order. -/
theorem tblSorted_put (t : Tbl α) (k : Nat) (v : α) (hs : tblSorted t = true) : tblSorted (tblPut t k v) = true :=
  tblSortedFrom_put t k 0 v (Nat.zero_le k) hs

theorem tblSortedFrom_filter (q : Nat × α → Bool) (t : Tbl α) (b : Nat) (hs : tblSortedFrom b t = true) :
    tblSortedFrom b (t.filter q) = true := by
  induction t generalizing b with
  | nil => rfl
  | cons p t ih =>
    obtain ⟨k, v⟩ := p
    simp only [tblSortedFrom, Bool.and_eq_true, decide_eq_true_eq] at hs
    have hr := ih (k + 1) hs.2
    simp only [List.filter_cons]
    split
    · simp [tblSortedFrom, hs.1, hr]
    · exact tblSortedFrom_mono (by omega) _ hr

/-- Deleting an entry, and any other choice among the entries, keeps the order. -/
theorem tblSorted_del (t : Tbl α) (k : Nat) (hs : tblSorted t = true) : tblSorted (tblDel t k) = true :=
  tblSortedFrom_filter _ t 0 hs

end Sys2Proof.Machine
end

