-- ==== Sys2Proof/Laws/Commands.lean ====
section
/-! SUPPORT. What a request to a command object, a write, and a read come to, by what the object's own rule answers: said once,
so that no proof unfolds the access checks. -/

namespace Sys2Proof.Machine

variable {s t : State} {r : Req} {num : Nat} {arg v : Bytes} {o : ObjRow} {a : Abort} {body : Nat → State → CmdOut}

theorem command_done (h : s.starts r num arg o) (hb : body (s.itemOf r o) s = .done t) :
    s.command r num arg body = t.succeeds r num (s.itemOf r o) := by
  obtain ⟨h1, h2, h3, h4⟩ := h
  simp [State.command, h1, h2, h3, h4, hb, State.succeeds]

theorem command_running (h : s.starts r num arg o) (hb : body (s.itemOf r o) s = .running t) :
    s.command r num arg body = t.begins num (s.itemOf r o) := by
  obtain ⟨h1, h2, h3, h4⟩ := h
  simp [State.command, h1, h2, h3, h4, hb, State.begins]

theorem command_started (h : s.starts r num arg o) (hb : body (s.itemOf r o) s = .started t) :
    s.command r num arg body = (t.begins num (s.itemOf r o)).respond r (.ok []) := by
  obtain ⟨h1, h2, h3, h4⟩ := h
  simp [State.command, h1, h2, h3, h4, hb, State.begins]

theorem command_failed (h : s.starts r num arg o) (hb : body (s.itemOf r o) s = .failed a t) :
    s.command r num arg body = t.fails r num (s.itemOf r o) a := by
  obtain ⟨h1, h2, h3, h4⟩ := h
  simp [State.command, h1, h2, h3, h4, hb, State.fails]

theorem command_refused (h : s.starts r num arg o) (hb : body (s.itemOf r o) s = .refuse a t) :
    s.command r num arg body = t.respond r (.abort a) := by
  obtain ⟨h1, h2, h3, h4⟩ := h
  simp [State.command, h1, h2, h3, h4, hb]

/-- A command that runs already is answered "device busy" (R484). -/
theorem command_busy (h1 : s.locate r num = .ok o) (h2 : s.accessRefuses r num o .command = none) (h3 : o.checkArg arg = none)
    (h4 : (s.cmdSt num (s.itemOf r o)).1 = 1) : s.command r num arg body = s.respond r (.abort .deviceBusy) := by
  simp [State.command, h1, h2, h3, h4]

/-- A write that its own rule admits and that can be stored. -/
theorem write_stored {pre : Nat → Bytes → Option Abort} {post : Nat → State → State} (h : s.writes r num v o)
    (hp : pre (s.itemOf r o) (o.stored v) = none) (hs : o.eff = .volatile ∨ r.storeOk = true) :
    s.writeThen r num v pre post = (post (s.itemOf r o) (s.storeObj r num o (o.stored v))).respond r (.ok []) := by
  obtain ⟨h1, h2, h3⟩ := h
  rcases hs with hs | hs <;> simp [State.writeThen, h1, h2, h3, hp, hs]

end Sys2Proof.Machine
end

