-- ==== Sys2Proof/Laws/State.lean ====
section
/-! SUPPORT. One lemma for each part of State that a named update leaves as it is. -/

namespace Sys2Proof.Machine

@[simp] theorem State.emit_pending (s : State) (x1 : Out) : (State.emit s x1).pending = s.pending := rfl
@[simp] theorem State.emit_late (s : State) (x1 : Out) : (State.emit s x1).late = s.late := rfl
@[simp] theorem State.emit_opens (s : State) (x1 : Out) : (State.emit s x1).opens = s.opens := rfl
@[simp] theorem State.emit_dict (s : State) (x1 : Out) : (State.emit s x1).dict = s.dict := rfl
@[simp] theorem State.emit_ev (s : State) (x1 : Out) : (State.emit s x1).ev = s.ev := rfl
@[simp] theorem State.emit_time (s : State) (x1 : Out) : (State.emit s x1).time = s.time := rfl
@[simp] theorem State.emit_pwr (s : State) (x1 : Out) : (State.emit s x1).pwr = s.pwr := rfl
@[simp] theorem State.emit_link (s : State) (x1 : Out) : (State.emit s x1).link = s.link := rfl
@[simp] theorem State.emit_pair (s : State) (x1 : Out) : (State.emit s x1).pair = s.pair := rfl
@[simp] theorem State.emit_trust (s : State) (x1 : Out) : (State.emit s x1).trust = s.trust := rfl
@[simp] theorem State.emit_cas (s : State) (x1 : Out) : (State.emit s x1).cas = s.cas := rfl
@[simp] theorem State.emit_field (s : State) (x1 : Out) : (State.emit s x1).field = s.field := rfl
@[simp] theorem State.emit_acc (s : State) (x1 : Out) : (State.emit s x1).acc = s.acc := rfl
@[simp] theorem State.emit_arch (s : State) (x1 : Out) : (State.emit s x1).arch = s.arch := rfl
@[simp] theorem State.emit_bill (s : State) (x1 : Out) : (State.emit s x1).bill = s.bill := rfl
@[simp] theorem State.emit_weir (s : State) (x1 : Out) : (State.emit s x1).weir = s.weir := rfl
@[simp] theorem State.emit_bal (s : State) (x1 : Out) : (State.emit s x1).bal = s.bal := rfl
@[simp] theorem State.emit_upd (s : State) (x1 : Out) : (State.emit s x1).upd = s.upd := rfl
@[simp] theorem State.setSess_pending (s : State) (x1 : SessId) (x2 : Session → Session) : (State.setSess s x1 x2).pending = s.pending := rfl
@[simp] theorem State.setSess_late (s : State) (x1 : SessId) (x2 : Session → Session) : (State.setSess s x1 x2).late = s.late := rfl
@[simp] theorem State.setSess_out (s : State) (x1 : SessId) (x2 : Session → Session) : (State.setSess s x1 x2).out = s.out := rfl
@[simp] theorem State.setSess_opens (s : State) (x1 : SessId) (x2 : Session → Session) : (State.setSess s x1 x2).opens = s.opens := rfl
@[simp] theorem State.setSess_ev (s : State) (x1 : SessId) (x2 : Session → Session) : (State.setSess s x1 x2).ev = s.ev := rfl
@[simp] theorem State.setSess_time (s : State) (x1 : SessId) (x2 : Session → Session) : (State.setSess s x1 x2).time = s.time := rfl
@[simp] theorem State.setSess_pwr (s : State) (x1 : SessId) (x2 : Session → Session) : (State.setSess s x1 x2).pwr = s.pwr := rfl
@[simp] theorem State.setSess_link (s : State) (x1 : SessId) (x2 : Session → Session) : (State.setSess s x1 x2).link = s.link := rfl
@[simp] theorem State.setSess_pair (s : State) (x1 : SessId) (x2 : Session → Session) : (State.setSess s x1 x2).pair = s.pair := rfl
@[simp] theorem State.setSess_trust (s : State) (x1 : SessId) (x2 : Session → Session) : (State.setSess s x1 x2).trust = s.trust := rfl
@[simp] theorem State.setSess_cas (s : State) (x1 : SessId) (x2 : Session → Session) : (State.setSess s x1 x2).cas = s.cas := rfl
@[simp] theorem State.setSess_field (s : State) (x1 : SessId) (x2 : Session → Session) : (State.setSess s x1 x2).field = s.field := rfl
@[simp] theorem State.setSess_acc (s : State) (x1 : SessId) (x2 : Session → Session) : (State.setSess s x1 x2).acc = s.acc := rfl
@[simp] theorem State.setSess_arch (s : State) (x1 : SessId) (x2 : Session → Session) : (State.setSess s x1 x2).arch = s.arch := rfl
@[simp] theorem State.setSess_bill (s : State) (x1 : SessId) (x2 : Session → Session) : (State.setSess s x1 x2).bill = s.bill := rfl
@[simp] theorem State.setSess_weir (s : State) (x1 : SessId) (x2 : Session → Session) : (State.setSess s x1 x2).weir = s.weir := rfl
@[simp] theorem State.setSess_bal (s : State) (x1 : SessId) (x2 : Session → Session) : (State.setSess s x1 x2).bal = s.bal := rfl
@[simp] theorem State.setSess_upd (s : State) (x1 : SessId) (x2 : Session → Session) : (State.setSess s x1 x2).upd = s.upd := rfl
@[simp] theorem State.setCmd_pending (s : State) (x1 : Nat) (x2 : Nat) (x3 : Nat) (x4 : U32) : (State.setCmd s x1 x2 x3 x4).pending = s.pending := rfl
@[simp] theorem State.setCmd_late (s : State) (x1 : Nat) (x2 : Nat) (x3 : Nat) (x4 : U32) : (State.setCmd s x1 x2 x3 x4).late = s.late := rfl
@[simp] theorem State.setCmd_out (s : State) (x1 : Nat) (x2 : Nat) (x3 : Nat) (x4 : U32) : (State.setCmd s x1 x2 x3 x4).out = s.out := rfl
@[simp] theorem State.setCmd_opens (s : State) (x1 : Nat) (x2 : Nat) (x3 : Nat) (x4 : U32) : (State.setCmd s x1 x2 x3 x4).opens = s.opens := rfl
@[simp] theorem State.setCmd_ev (s : State) (x1 : Nat) (x2 : Nat) (x3 : Nat) (x4 : U32) : (State.setCmd s x1 x2 x3 x4).ev = s.ev := rfl
@[simp] theorem State.setCmd_time (s : State) (x1 : Nat) (x2 : Nat) (x3 : Nat) (x4 : U32) : (State.setCmd s x1 x2 x3 x4).time = s.time := rfl
@[simp] theorem State.setCmd_pwr (s : State) (x1 : Nat) (x2 : Nat) (x3 : Nat) (x4 : U32) : (State.setCmd s x1 x2 x3 x4).pwr = s.pwr := rfl
@[simp] theorem State.setCmd_link (s : State) (x1 : Nat) (x2 : Nat) (x3 : Nat) (x4 : U32) : (State.setCmd s x1 x2 x3 x4).link = s.link := rfl
@[simp] theorem State.setCmd_pair (s : State) (x1 : Nat) (x2 : Nat) (x3 : Nat) (x4 : U32) : (State.setCmd s x1 x2 x3 x4).pair = s.pair := rfl
@[simp] theorem State.setCmd_trust (s : State) (x1 : Nat) (x2 : Nat) (x3 : Nat) (x4 : U32) : (State.setCmd s x1 x2 x3 x4).trust = s.trust := rfl
@[simp] theorem State.setCmd_cas (s : State) (x1 : Nat) (x2 : Nat) (x3 : Nat) (x4 : U32) : (State.setCmd s x1 x2 x3 x4).cas = s.cas := rfl
@[simp] theorem State.setCmd_field (s : State) (x1 : Nat) (x2 : Nat) (x3 : Nat) (x4 : U32) : (State.setCmd s x1 x2 x3 x4).field = s.field := rfl
@[simp] theorem State.setCmd_acc (s : State) (x1 : Nat) (x2 : Nat) (x3 : Nat) (x4 : U32) : (State.setCmd s x1 x2 x3 x4).acc = s.acc := rfl
@[simp] theorem State.setCmd_arch (s : State) (x1 : Nat) (x2 : Nat) (x3 : Nat) (x4 : U32) : (State.setCmd s x1 x2 x3 x4).arch = s.arch := rfl
@[simp] theorem State.setCmd_bill (s : State) (x1 : Nat) (x2 : Nat) (x3 : Nat) (x4 : U32) : (State.setCmd s x1 x2 x3 x4).bill = s.bill := rfl
@[simp] theorem State.setCmd_weir (s : State) (x1 : Nat) (x2 : Nat) (x3 : Nat) (x4 : U32) : (State.setCmd s x1 x2 x3 x4).weir = s.weir := rfl
@[simp] theorem State.setCmd_bal (s : State) (x1 : Nat) (x2 : Nat) (x3 : Nat) (x4 : U32) : (State.setCmd s x1 x2 x3 x4).bal = s.bal := rfl
@[simp] theorem State.setCmd_upd (s : State) (x1 : Nat) (x2 : Nat) (x3 : Nat) (x4 : U32) : (State.setCmd s x1 x2 x3 x4).upd = s.upd := rfl
@[simp] theorem State.setGroup_pending (s : State) (x1 : Nat) (x2 : Group → Group) : (State.setGroup s x1 x2).pending = s.pending := rfl
@[simp] theorem State.setGroup_late (s : State) (x1 : Nat) (x2 : Group → Group) : (State.setGroup s x1 x2).late = s.late := rfl
@[simp] theorem State.setGroup_out (s : State) (x1 : Nat) (x2 : Group → Group) : (State.setGroup s x1 x2).out = s.out := rfl
@[simp] theorem State.setGroup_opens (s : State) (x1 : Nat) (x2 : Group → Group) : (State.setGroup s x1 x2).opens = s.opens := rfl
@[simp] theorem State.setGroup_ev (s : State) (x1 : Nat) (x2 : Group → Group) : (State.setGroup s x1 x2).ev = s.ev := rfl
@[simp] theorem State.setGroup_time (s : State) (x1 : Nat) (x2 : Group → Group) : (State.setGroup s x1 x2).time = s.time := rfl
@[simp] theorem State.setGroup_pwr (s : State) (x1 : Nat) (x2 : Group → Group) : (State.setGroup s x1 x2).pwr = s.pwr := rfl
@[simp] theorem State.setGroup_link (s : State) (x1 : Nat) (x2 : Group → Group) : (State.setGroup s x1 x2).link = s.link := rfl
@[simp] theorem State.setGroup_pair (s : State) (x1 : Nat) (x2 : Group → Group) : (State.setGroup s x1 x2).pair = s.pair := rfl
@[simp] theorem State.setGroup_trust (s : State) (x1 : Nat) (x2 : Group → Group) : (State.setGroup s x1 x2).trust = s.trust := rfl
@[simp] theorem State.setGroup_cas (s : State) (x1 : Nat) (x2 : Group → Group) : (State.setGroup s x1 x2).cas = s.cas := rfl
@[simp] theorem State.setGroup_field (s : State) (x1 : Nat) (x2 : Group → Group) : (State.setGroup s x1 x2).field = s.field := rfl
@[simp] theorem State.setGroup_acc (s : State) (x1 : Nat) (x2 : Group → Group) : (State.setGroup s x1 x2).acc = s.acc := rfl
@[simp] theorem State.setGroup_arch (s : State) (x1 : Nat) (x2 : Group → Group) : (State.setGroup s x1 x2).arch = s.arch := rfl
@[simp] theorem State.setGroup_bill (s : State) (x1 : Nat) (x2 : Group → Group) : (State.setGroup s x1 x2).bill = s.bill := rfl
@[simp] theorem State.setGroup_weir (s : State) (x1 : Nat) (x2 : Group → Group) : (State.setGroup s x1 x2).weir = s.weir := rfl
@[simp] theorem State.setGroup_bal (s : State) (x1 : Nat) (x2 : Group → Group) : (State.setGroup s x1 x2).bal = s.bal := rfl
@[simp] theorem State.setGroup_upd (s : State) (x1 : Nat) (x2 : Group → Group) : (State.setGroup s x1 x2).upd = s.upd := rfl
@[simp] theorem State.setPwr_pending (s : State) (x1 : PowerState → PowerState) : (State.setPwr s x1).pending = s.pending := rfl
@[simp] theorem State.setPwr_late (s : State) (x1 : PowerState → PowerState) : (State.setPwr s x1).late = s.late := rfl
@[simp] theorem State.setPwr_out (s : State) (x1 : PowerState → PowerState) : (State.setPwr s x1).out = s.out := rfl
@[simp] theorem State.setPwr_opens (s : State) (x1 : PowerState → PowerState) : (State.setPwr s x1).opens = s.opens := rfl
@[simp] theorem State.setPwr_dict (s : State) (x1 : PowerState → PowerState) : (State.setPwr s x1).dict = s.dict := rfl
@[simp] theorem State.setPwr_ev (s : State) (x1 : PowerState → PowerState) : (State.setPwr s x1).ev = s.ev := rfl
@[simp] theorem State.setPwr_time (s : State) (x1 : PowerState → PowerState) : (State.setPwr s x1).time = s.time := rfl
@[simp] theorem State.setPwr_link (s : State) (x1 : PowerState → PowerState) : (State.setPwr s x1).link = s.link := rfl
@[simp] theorem State.setPwr_pair (s : State) (x1 : PowerState → PowerState) : (State.setPwr s x1).pair = s.pair := rfl
@[simp] theorem State.setPwr_trust (s : State) (x1 : PowerState → PowerState) : (State.setPwr s x1).trust = s.trust := rfl
@[simp] theorem State.setPwr_cas (s : State) (x1 : PowerState → PowerState) : (State.setPwr s x1).cas = s.cas := rfl
@[simp] theorem State.setPwr_field (s : State) (x1 : PowerState → PowerState) : (State.setPwr s x1).field = s.field := rfl
@[simp] theorem State.setPwr_acc (s : State) (x1 : PowerState → PowerState) : (State.setPwr s x1).acc = s.acc := rfl
@[simp] theorem State.setPwr_arch (s : State) (x1 : PowerState → PowerState) : (State.setPwr s x1).arch = s.arch := rfl
@[simp] theorem State.setPwr_bill (s : State) (x1 : PowerState → PowerState) : (State.setPwr s x1).bill = s.bill := rfl
@[simp] theorem State.setPwr_weir (s : State) (x1 : PowerState → PowerState) : (State.setPwr s x1).weir = s.weir := rfl
@[simp] theorem State.setPwr_bal (s : State) (x1 : PowerState → PowerState) : (State.setPwr s x1).bal = s.bal := rfl
@[simp] theorem State.setPwr_upd (s : State) (x1 : PowerState → PowerState) : (State.setPwr s x1).upd = s.upd := rfl
@[simp] theorem State.setLinks_pending (s : State) (x1 : LinkState → LinkState) : (State.setLinks s x1).pending = s.pending := rfl
@[simp] theorem State.setLinks_late (s : State) (x1 : LinkState → LinkState) : (State.setLinks s x1).late = s.late := rfl
@[simp] theorem State.setLinks_out (s : State) (x1 : LinkState → LinkState) : (State.setLinks s x1).out = s.out := rfl
@[simp] theorem State.setLinks_opens (s : State) (x1 : LinkState → LinkState) : (State.setLinks s x1).opens = s.opens := rfl
@[simp] theorem State.setLinks_dict (s : State) (x1 : LinkState → LinkState) : (State.setLinks s x1).dict = s.dict := rfl
@[simp] theorem State.setLinks_ev (s : State) (x1 : LinkState → LinkState) : (State.setLinks s x1).ev = s.ev := rfl
@[simp] theorem State.setLinks_time (s : State) (x1 : LinkState → LinkState) : (State.setLinks s x1).time = s.time := rfl
@[simp] theorem State.setLinks_pwr (s : State) (x1 : LinkState → LinkState) : (State.setLinks s x1).pwr = s.pwr := rfl
@[simp] theorem State.setLinks_pair (s : State) (x1 : LinkState → LinkState) : (State.setLinks s x1).pair = s.pair := rfl
@[simp] theorem State.setLinks_trust (s : State) (x1 : LinkState → LinkState) : (State.setLinks s x1).trust = s.trust := rfl
@[simp] theorem State.setLinks_cas (s : State) (x1 : LinkState → LinkState) : (State.setLinks s x1).cas = s.cas := rfl
@[simp] theorem State.setLinks_field (s : State) (x1 : LinkState → LinkState) : (State.setLinks s x1).field = s.field := rfl
@[simp] theorem State.setLinks_acc (s : State) (x1 : LinkState → LinkState) : (State.setLinks s x1).acc = s.acc := rfl
@[simp] theorem State.setLinks_arch (s : State) (x1 : LinkState → LinkState) : (State.setLinks s x1).arch = s.arch := rfl
@[simp] theorem State.setLinks_bill (s : State) (x1 : LinkState → LinkState) : (State.setLinks s x1).bill = s.bill := rfl
@[simp] theorem State.setLinks_weir (s : State) (x1 : LinkState → LinkState) : (State.setLinks s x1).weir = s.weir := rfl
@[simp] theorem State.setLinks_bal (s : State) (x1 : LinkState → LinkState) : (State.setLinks s x1).bal = s.bal := rfl
@[simp] theorem State.setLinks_upd (s : State) (x1 : LinkState → LinkState) : (State.setLinks s x1).upd = s.upd := rfl
@[simp] theorem State.setLink_pending (s : State) (x1 : LinkState → LinkState) : (State.setLink s x1).pending = s.pending := rfl
@[simp] theorem State.setLink_late (s : State) (x1 : LinkState → LinkState) : (State.setLink s x1).late = s.late := rfl
@[simp] theorem State.setLink_out (s : State) (x1 : LinkState → LinkState) : (State.setLink s x1).out = s.out := rfl
@[simp] theorem State.setLink_opens (s : State) (x1 : LinkState → LinkState) : (State.setLink s x1).opens = s.opens := rfl
@[simp] theorem State.setLink_dict (s : State) (x1 : LinkState → LinkState) : (State.setLink s x1).dict = s.dict := rfl
@[simp] theorem State.setLink_ev (s : State) (x1 : LinkState → LinkState) : (State.setLink s x1).ev = s.ev := rfl
@[simp] theorem State.setLink_time (s : State) (x1 : LinkState → LinkState) : (State.setLink s x1).time = s.time := rfl
@[simp] theorem State.setLink_pwr (s : State) (x1 : LinkState → LinkState) : (State.setLink s x1).pwr = s.pwr := rfl
@[simp] theorem State.setLink_pair (s : State) (x1 : LinkState → LinkState) : (State.setLink s x1).pair = s.pair := rfl
@[simp] theorem State.setLink_trust (s : State) (x1 : LinkState → LinkState) : (State.setLink s x1).trust = s.trust := rfl
@[simp] theorem State.setLink_cas (s : State) (x1 : LinkState → LinkState) : (State.setLink s x1).cas = s.cas := rfl
@[simp] theorem State.setLink_field (s : State) (x1 : LinkState → LinkState) : (State.setLink s x1).field = s.field := rfl
@[simp] theorem State.setLink_acc (s : State) (x1 : LinkState → LinkState) : (State.setLink s x1).acc = s.acc := rfl
@[simp] theorem State.setLink_arch (s : State) (x1 : LinkState → LinkState) : (State.setLink s x1).arch = s.arch := rfl
@[simp] theorem State.setLink_bill (s : State) (x1 : LinkState → LinkState) : (State.setLink s x1).bill = s.bill := rfl
@[simp] theorem State.setLink_weir (s : State) (x1 : LinkState → LinkState) : (State.setLink s x1).weir = s.weir := rfl
@[simp] theorem State.setLink_bal (s : State) (x1 : LinkState → LinkState) : (State.setLink s x1).bal = s.bal := rfl
@[simp] theorem State.setLink_upd (s : State) (x1 : LinkState → LinkState) : (State.setLink s x1).upd = s.upd := rfl
@[simp] theorem State.setXfer_pending (s : State) (x1 : SessId) (x2 : Option Xfer) : (State.setXfer s x1 x2).pending = s.pending := rfl
@[simp] theorem State.setXfer_late (s : State) (x1 : SessId) (x2 : Option Xfer) : (State.setXfer s x1 x2).late = s.late := rfl
@[simp] theorem State.setXfer_out (s : State) (x1 : SessId) (x2 : Option Xfer) : (State.setXfer s x1 x2).out = s.out := rfl
@[simp] theorem State.setXfer_opens (s : State) (x1 : SessId) (x2 : Option Xfer) : (State.setXfer s x1 x2).opens = s.opens := rfl
@[simp] theorem State.setXfer_ev (s : State) (x1 : SessId) (x2 : Option Xfer) : (State.setXfer s x1 x2).ev = s.ev := rfl
@[simp] theorem State.setXfer_time (s : State) (x1 : SessId) (x2 : Option Xfer) : (State.setXfer s x1 x2).time = s.time := rfl
@[simp] theorem State.setXfer_pwr (s : State) (x1 : SessId) (x2 : Option Xfer) : (State.setXfer s x1 x2).pwr = s.pwr := rfl
@[simp] theorem State.setXfer_link (s : State) (x1 : SessId) (x2 : Option Xfer) : (State.setXfer s x1 x2).link = s.link := rfl
@[simp] theorem State.setXfer_pair (s : State) (x1 : SessId) (x2 : Option Xfer) : (State.setXfer s x1 x2).pair = s.pair := rfl
@[simp] theorem State.setXfer_trust (s : State) (x1 : SessId) (x2 : Option Xfer) : (State.setXfer s x1 x2).trust = s.trust := rfl
@[simp] theorem State.setXfer_cas (s : State) (x1 : SessId) (x2 : Option Xfer) : (State.setXfer s x1 x2).cas = s.cas := rfl
@[simp] theorem State.setXfer_field (s : State) (x1 : SessId) (x2 : Option Xfer) : (State.setXfer s x1 x2).field = s.field := rfl
@[simp] theorem State.setXfer_acc (s : State) (x1 : SessId) (x2 : Option Xfer) : (State.setXfer s x1 x2).acc = s.acc := rfl
@[simp] theorem State.setXfer_arch (s : State) (x1 : SessId) (x2 : Option Xfer) : (State.setXfer s x1 x2).arch = s.arch := rfl
@[simp] theorem State.setXfer_bill (s : State) (x1 : SessId) (x2 : Option Xfer) : (State.setXfer s x1 x2).bill = s.bill := rfl
@[simp] theorem State.setXfer_weir (s : State) (x1 : SessId) (x2 : Option Xfer) : (State.setXfer s x1 x2).weir = s.weir := rfl
@[simp] theorem State.setXfer_bal (s : State) (x1 : SessId) (x2 : Option Xfer) : (State.setXfer s x1 x2).bal = s.bal := rfl
@[simp] theorem State.setXfer_upd (s : State) (x1 : SessId) (x2 : Option Xfer) : (State.setXfer s x1 x2).upd = s.upd := rfl
@[simp] theorem State.storeVal_pending (s : State) (x1 : Nat) (x2 : Nat) (x3 : Bytes) : (State.storeVal s x1 x2 x3).pending = s.pending := rfl
@[simp] theorem State.storeVal_late (s : State) (x1 : Nat) (x2 : Nat) (x3 : Bytes) : (State.storeVal s x1 x2 x3).late = s.late := rfl
@[simp] theorem State.storeVal_out (s : State) (x1 : Nat) (x2 : Nat) (x3 : Bytes) : (State.storeVal s x1 x2 x3).out = s.out := rfl
@[simp] theorem State.storeVal_opens (s : State) (x1 : Nat) (x2 : Nat) (x3 : Bytes) : (State.storeVal s x1 x2 x3).opens = s.opens := rfl
@[simp] theorem State.storeVal_ev (s : State) (x1 : Nat) (x2 : Nat) (x3 : Bytes) : (State.storeVal s x1 x2 x3).ev = s.ev := rfl
@[simp] theorem State.storeVal_time (s : State) (x1 : Nat) (x2 : Nat) (x3 : Bytes) : (State.storeVal s x1 x2 x3).time = s.time := rfl
@[simp] theorem State.storeVal_pwr (s : State) (x1 : Nat) (x2 : Nat) (x3 : Bytes) : (State.storeVal s x1 x2 x3).pwr = s.pwr := rfl
@[simp] theorem State.storeVal_link (s : State) (x1 : Nat) (x2 : Nat) (x3 : Bytes) : (State.storeVal s x1 x2 x3).link = s.link := rfl
@[simp] theorem State.storeVal_pair (s : State) (x1 : Nat) (x2 : Nat) (x3 : Bytes) : (State.storeVal s x1 x2 x3).pair = s.pair := rfl
@[simp] theorem State.storeVal_trust (s : State) (x1 : Nat) (x2 : Nat) (x3 : Bytes) : (State.storeVal s x1 x2 x3).trust = s.trust := rfl
@[simp] theorem State.storeVal_cas (s : State) (x1 : Nat) (x2 : Nat) (x3 : Bytes) : (State.storeVal s x1 x2 x3).cas = s.cas := rfl
@[simp] theorem State.storeVal_field (s : State) (x1 : Nat) (x2 : Nat) (x3 : Bytes) : (State.storeVal s x1 x2 x3).field = s.field := rfl
@[simp] theorem State.storeVal_acc (s : State) (x1 : Nat) (x2 : Nat) (x3 : Bytes) : (State.storeVal s x1 x2 x3).acc = s.acc := rfl
@[simp] theorem State.storeVal_arch (s : State) (x1 : Nat) (x2 : Nat) (x3 : Bytes) : (State.storeVal s x1 x2 x3).arch = s.arch := rfl
@[simp] theorem State.storeVal_bill (s : State) (x1 : Nat) (x2 : Nat) (x3 : Bytes) : (State.storeVal s x1 x2 x3).bill = s.bill := rfl
@[simp] theorem State.storeVal_weir (s : State) (x1 : Nat) (x2 : Nat) (x3 : Bytes) : (State.storeVal s x1 x2 x3).weir = s.weir := rfl
@[simp] theorem State.storeVal_bal (s : State) (x1 : Nat) (x2 : Nat) (x3 : Bytes) : (State.storeVal s x1 x2 x3).bal = s.bal := rfl
@[simp] theorem State.setTime_pending (s : State) (x1 : TimeState → TimeState) : (State.setTime s x1).pending = s.pending := rfl
@[simp] theorem State.setTime_late (s : State) (x1 : TimeState → TimeState) : (State.setTime s x1).late = s.late := rfl
@[simp] theorem State.setTime_out (s : State) (x1 : TimeState → TimeState) : (State.setTime s x1).out = s.out := rfl
@[simp] theorem State.setTime_opens (s : State) (x1 : TimeState → TimeState) : (State.setTime s x1).opens = s.opens := rfl
@[simp] theorem State.setTime_dict (s : State) (x1 : TimeState → TimeState) : (State.setTime s x1).dict = s.dict := rfl
@[simp] theorem State.setTime_ev (s : State) (x1 : TimeState → TimeState) : (State.setTime s x1).ev = s.ev := rfl
@[simp] theorem State.setTime_pwr (s : State) (x1 : TimeState → TimeState) : (State.setTime s x1).pwr = s.pwr := rfl
@[simp] theorem State.setTime_link (s : State) (x1 : TimeState → TimeState) : (State.setTime s x1).link = s.link := rfl
@[simp] theorem State.setTime_pair (s : State) (x1 : TimeState → TimeState) : (State.setTime s x1).pair = s.pair := rfl
@[simp] theorem State.setTime_trust (s : State) (x1 : TimeState → TimeState) : (State.setTime s x1).trust = s.trust := rfl
@[simp] theorem State.setTime_cas (s : State) (x1 : TimeState → TimeState) : (State.setTime s x1).cas = s.cas := rfl
@[simp] theorem State.setTime_field (s : State) (x1 : TimeState → TimeState) : (State.setTime s x1).field = s.field := rfl
@[simp] theorem State.setTime_acc (s : State) (x1 : TimeState → TimeState) : (State.setTime s x1).acc = s.acc := rfl
@[simp] theorem State.setTime_arch (s : State) (x1 : TimeState → TimeState) : (State.setTime s x1).arch = s.arch := rfl
@[simp] theorem State.setTime_bill (s : State) (x1 : TimeState → TimeState) : (State.setTime s x1).bill = s.bill := rfl
@[simp] theorem State.setTime_weir (s : State) (x1 : TimeState → TimeState) : (State.setTime s x1).weir = s.weir := rfl
@[simp] theorem State.setTime_bal (s : State) (x1 : TimeState → TimeState) : (State.setTime s x1).bal = s.bal := rfl
@[simp] theorem State.setTime_upd (s : State) (x1 : TimeState → TimeState) : (State.setTime s x1).upd = s.upd := rfl
@[simp] theorem State.setTrig_pending (s : State) (x1 : Nat) (x2 : Trigger → Trigger) : (State.setTrig s x1 x2).pending = s.pending := rfl
@[simp] theorem State.setTrig_late (s : State) (x1 : Nat) (x2 : Trigger → Trigger) : (State.setTrig s x1 x2).late = s.late := rfl
@[simp] theorem State.setTrig_out (s : State) (x1 : Nat) (x2 : Trigger → Trigger) : (State.setTrig s x1 x2).out = s.out := rfl
@[simp] theorem State.setTrig_opens (s : State) (x1 : Nat) (x2 : Trigger → Trigger) : (State.setTrig s x1 x2).opens = s.opens := rfl
@[simp] theorem State.setTrig_dict (s : State) (x1 : Nat) (x2 : Trigger → Trigger) : (State.setTrig s x1 x2).dict = s.dict := rfl
@[simp] theorem State.setTrig_ev (s : State) (x1 : Nat) (x2 : Trigger → Trigger) : (State.setTrig s x1 x2).ev = s.ev := rfl
@[simp] theorem State.setTrig_pwr (s : State) (x1 : Nat) (x2 : Trigger → Trigger) : (State.setTrig s x1 x2).pwr = s.pwr := rfl
@[simp] theorem State.setTrig_link (s : State) (x1 : Nat) (x2 : Trigger → Trigger) : (State.setTrig s x1 x2).link = s.link := rfl
@[simp] theorem State.setTrig_pair (s : State) (x1 : Nat) (x2 : Trigger → Trigger) : (State.setTrig s x1 x2).pair = s.pair := rfl
@[simp] theorem State.setTrig_trust (s : State) (x1 : Nat) (x2 : Trigger → Trigger) : (State.setTrig s x1 x2).trust = s.trust := rfl
@[simp] theorem State.setTrig_cas (s : State) (x1 : Nat) (x2 : Trigger → Trigger) : (State.setTrig s x1 x2).cas = s.cas := rfl
@[simp] theorem State.setTrig_field (s : State) (x1 : Nat) (x2 : Trigger → Trigger) : (State.setTrig s x1 x2).field = s.field := rfl
@[simp] theorem State.setTrig_acc (s : State) (x1 : Nat) (x2 : Trigger → Trigger) : (State.setTrig s x1 x2).acc = s.acc := rfl
@[simp] theorem State.setTrig_arch (s : State) (x1 : Nat) (x2 : Trigger → Trigger) : (State.setTrig s x1 x2).arch = s.arch := rfl
@[simp] theorem State.setTrig_bill (s : State) (x1 : Nat) (x2 : Trigger → Trigger) : (State.setTrig s x1 x2).bill = s.bill := rfl
@[simp] theorem State.setTrig_weir (s : State) (x1 : Nat) (x2 : Trigger → Trigger) : (State.setTrig s x1 x2).weir = s.weir := rfl
@[simp] theorem State.setTrig_bal (s : State) (x1 : Nat) (x2 : Trigger → Trigger) : (State.setTrig s x1 x2).bal = s.bal := rfl
@[simp] theorem State.setTrig_upd (s : State) (x1 : Nat) (x2 : Trigger → Trigger) : (State.setTrig s x1 x2).upd = s.upd := rfl
@[simp] theorem State.setWeir_pending (s : State) (x1 : WeirState → WeirState) : (State.setWeir s x1).pending = s.pending := rfl
@[simp] theorem State.setWeir_late (s : State) (x1 : WeirState → WeirState) : (State.setWeir s x1).late = s.late := rfl
@[simp] theorem State.setWeir_out (s : State) (x1 : WeirState → WeirState) : (State.setWeir s x1).out = s.out := rfl
@[simp] theorem State.setWeir_opens (s : State) (x1 : WeirState → WeirState) : (State.setWeir s x1).opens = s.opens := rfl
@[simp] theorem State.setWeir_dict (s : State) (x1 : WeirState → WeirState) : (State.setWeir s x1).dict = s.dict := rfl
@[simp] theorem State.setWeir_ev (s : State) (x1 : WeirState → WeirState) : (State.setWeir s x1).ev = s.ev := rfl
@[simp] theorem State.setWeir_time (s : State) (x1 : WeirState → WeirState) : (State.setWeir s x1).time = s.time := rfl
@[simp] theorem State.setWeir_pwr (s : State) (x1 : WeirState → WeirState) : (State.setWeir s x1).pwr = s.pwr := rfl
@[simp] theorem State.setWeir_link (s : State) (x1 : WeirState → WeirState) : (State.setWeir s x1).link = s.link := rfl
@[simp] theorem State.setWeir_pair (s : State) (x1 : WeirState → WeirState) : (State.setWeir s x1).pair = s.pair := rfl
@[simp] theorem State.setWeir_trust (s : State) (x1 : WeirState → WeirState) : (State.setWeir s x1).trust = s.trust := rfl
@[simp] theorem State.setWeir_cas (s : State) (x1 : WeirState → WeirState) : (State.setWeir s x1).cas = s.cas := rfl
@[simp] theorem State.setWeir_field (s : State) (x1 : WeirState → WeirState) : (State.setWeir s x1).field = s.field := rfl
@[simp] theorem State.setWeir_acc (s : State) (x1 : WeirState → WeirState) : (State.setWeir s x1).acc = s.acc := rfl
@[simp] theorem State.setWeir_arch (s : State) (x1 : WeirState → WeirState) : (State.setWeir s x1).arch = s.arch := rfl
@[simp] theorem State.setWeir_bill (s : State) (x1 : WeirState → WeirState) : (State.setWeir s x1).bill = s.bill := rfl
@[simp] theorem State.setWeir_bal (s : State) (x1 : WeirState → WeirState) : (State.setWeir s x1).bal = s.bal := rfl
@[simp] theorem State.setWeir_upd (s : State) (x1 : WeirState → WeirState) : (State.setWeir s x1).upd = s.upd := rfl
@[simp] theorem State.setFeeder_pending (s : State) (x1 : Nat) (x2 : Feeder → Feeder) : (State.setFeeder s x1 x2).pending = s.pending := rfl
@[simp] theorem State.setFeeder_late (s : State) (x1 : Nat) (x2 : Feeder → Feeder) : (State.setFeeder s x1 x2).late = s.late := rfl
@[simp] theorem State.setFeeder_out (s : State) (x1 : Nat) (x2 : Feeder → Feeder) : (State.setFeeder s x1 x2).out = s.out := rfl
@[simp] theorem State.setFeeder_opens (s : State) (x1 : Nat) (x2 : Feeder → Feeder) : (State.setFeeder s x1 x2).opens = s.opens := rfl
@[simp] theorem State.setFeeder_dict (s : State) (x1 : Nat) (x2 : Feeder → Feeder) : (State.setFeeder s x1 x2).dict = s.dict := rfl
@[simp] theorem State.setFeeder_ev (s : State) (x1 : Nat) (x2 : Feeder → Feeder) : (State.setFeeder s x1 x2).ev = s.ev := rfl
@[simp] theorem State.setFeeder_time (s : State) (x1 : Nat) (x2 : Feeder → Feeder) : (State.setFeeder s x1 x2).time = s.time := rfl
@[simp] theorem State.setFeeder_pwr (s : State) (x1 : Nat) (x2 : Feeder → Feeder) : (State.setFeeder s x1 x2).pwr = s.pwr := rfl
@[simp] theorem State.setFeeder_link (s : State) (x1 : Nat) (x2 : Feeder → Feeder) : (State.setFeeder s x1 x2).link = s.link := rfl
@[simp] theorem State.setFeeder_pair (s : State) (x1 : Nat) (x2 : Feeder → Feeder) : (State.setFeeder s x1 x2).pair = s.pair := rfl
@[simp] theorem State.setFeeder_trust (s : State) (x1 : Nat) (x2 : Feeder → Feeder) : (State.setFeeder s x1 x2).trust = s.trust := rfl
@[simp] theorem State.setFeeder_cas (s : State) (x1 : Nat) (x2 : Feeder → Feeder) : (State.setFeeder s x1 x2).cas = s.cas := rfl
@[simp] theorem State.setFeeder_field (s : State) (x1 : Nat) (x2 : Feeder → Feeder) : (State.setFeeder s x1 x2).field = s.field := rfl
@[simp] theorem State.setFeeder_acc (s : State) (x1 : Nat) (x2 : Feeder → Feeder) : (State.setFeeder s x1 x2).acc = s.acc := rfl
@[simp] theorem State.setFeeder_arch (s : State) (x1 : Nat) (x2 : Feeder → Feeder) : (State.setFeeder s x1 x2).arch = s.arch := rfl
@[simp] theorem State.setFeeder_bill (s : State) (x1 : Nat) (x2 : Feeder → Feeder) : (State.setFeeder s x1 x2).bill = s.bill := rfl
@[simp] theorem State.setFeeder_bal (s : State) (x1 : Nat) (x2 : Feeder → Feeder) : (State.setFeeder s x1 x2).bal = s.bal := rfl
@[simp] theorem State.setFeeder_upd (s : State) (x1 : Nat) (x2 : Feeder → Feeder) : (State.setFeeder s x1 x2).upd = s.upd := rfl
@[simp] theorem State.setBal_pending (s : State) (x1 : BalState → BalState) : (State.setBal s x1).pending = s.pending := rfl
@[simp] theorem State.setBal_late (s : State) (x1 : BalState → BalState) : (State.setBal s x1).late = s.late := rfl
@[simp] theorem State.setBal_out (s : State) (x1 : BalState → BalState) : (State.setBal s x1).out = s.out := rfl
@[simp] theorem State.setBal_opens (s : State) (x1 : BalState → BalState) : (State.setBal s x1).opens = s.opens := rfl
@[simp] theorem State.setBal_dict (s : State) (x1 : BalState → BalState) : (State.setBal s x1).dict = s.dict := rfl
@[simp] theorem State.setBal_ev (s : State) (x1 : BalState → BalState) : (State.setBal s x1).ev = s.ev := rfl
@[simp] theorem State.setBal_time (s : State) (x1 : BalState → BalState) : (State.setBal s x1).time = s.time := rfl
@[simp] theorem State.setBal_pwr (s : State) (x1 : BalState → BalState) : (State.setBal s x1).pwr = s.pwr := rfl
@[simp] theorem State.setBal_link (s : State) (x1 : BalState → BalState) : (State.setBal s x1).link = s.link := rfl
@[simp] theorem State.setBal_pair (s : State) (x1 : BalState → BalState) : (State.setBal s x1).pair = s.pair := rfl
@[simp] theorem State.setBal_trust (s : State) (x1 : BalState → BalState) : (State.setBal s x1).trust = s.trust := rfl
@[simp] theorem State.setBal_cas (s : State) (x1 : BalState → BalState) : (State.setBal s x1).cas = s.cas := rfl
@[simp] theorem State.setBal_field (s : State) (x1 : BalState → BalState) : (State.setBal s x1).field = s.field := rfl
@[simp] theorem State.setBal_acc (s : State) (x1 : BalState → BalState) : (State.setBal s x1).acc = s.acc := rfl
@[simp] theorem State.setBal_arch (s : State) (x1 : BalState → BalState) : (State.setBal s x1).arch = s.arch := rfl
@[simp] theorem State.setBal_bill (s : State) (x1 : BalState → BalState) : (State.setBal s x1).bill = s.bill := rfl
@[simp] theorem State.setBal_weir (s : State) (x1 : BalState → BalState) : (State.setBal s x1).weir = s.weir := rfl
@[simp] theorem State.setBal_upd (s : State) (x1 : BalState → BalState) : (State.setBal s x1).upd = s.upd := rfl
@[simp] theorem State.setSeg_pending (s : State) (x1 : Nat) (x2 : Segment → Segment) : (State.setSeg s x1 x2).pending = s.pending := rfl
@[simp] theorem State.setSeg_late (s : State) (x1 : Nat) (x2 : Segment → Segment) : (State.setSeg s x1 x2).late = s.late := rfl
@[simp] theorem State.setSeg_out (s : State) (x1 : Nat) (x2 : Segment → Segment) : (State.setSeg s x1 x2).out = s.out := rfl
@[simp] theorem State.setSeg_opens (s : State) (x1 : Nat) (x2 : Segment → Segment) : (State.setSeg s x1 x2).opens = s.opens := rfl
@[simp] theorem State.setSeg_dict (s : State) (x1 : Nat) (x2 : Segment → Segment) : (State.setSeg s x1 x2).dict = s.dict := rfl
@[simp] theorem State.setSeg_ev (s : State) (x1 : Nat) (x2 : Segment → Segment) : (State.setSeg s x1 x2).ev = s.ev := rfl
@[simp] theorem State.setSeg_time (s : State) (x1 : Nat) (x2 : Segment → Segment) : (State.setSeg s x1 x2).time = s.time := rfl
@[simp] theorem State.setSeg_pwr (s : State) (x1 : Nat) (x2 : Segment → Segment) : (State.setSeg s x1 x2).pwr = s.pwr := rfl
@[simp] theorem State.setSeg_link (s : State) (x1 : Nat) (x2 : Segment → Segment) : (State.setSeg s x1 x2).link = s.link := rfl
@[simp] theorem State.setSeg_pair (s : State) (x1 : Nat) (x2 : Segment → Segment) : (State.setSeg s x1 x2).pair = s.pair := rfl
@[simp] theorem State.setSeg_trust (s : State) (x1 : Nat) (x2 : Segment → Segment) : (State.setSeg s x1 x2).trust = s.trust := rfl
@[simp] theorem State.setSeg_cas (s : State) (x1 : Nat) (x2 : Segment → Segment) : (State.setSeg s x1 x2).cas = s.cas := rfl
@[simp] theorem State.setSeg_field (s : State) (x1 : Nat) (x2 : Segment → Segment) : (State.setSeg s x1 x2).field = s.field := rfl
@[simp] theorem State.setSeg_acc (s : State) (x1 : Nat) (x2 : Segment → Segment) : (State.setSeg s x1 x2).acc = s.acc := rfl
@[simp] theorem State.setSeg_arch (s : State) (x1 : Nat) (x2 : Segment → Segment) : (State.setSeg s x1 x2).arch = s.arch := rfl
@[simp] theorem State.setSeg_bill (s : State) (x1 : Nat) (x2 : Segment → Segment) : (State.setSeg s x1 x2).bill = s.bill := rfl
@[simp] theorem State.setSeg_weir (s : State) (x1 : Nat) (x2 : Segment → Segment) : (State.setSeg s x1 x2).weir = s.weir := rfl
@[simp] theorem State.setSeg_upd (s : State) (x1 : Nat) (x2 : Segment → Segment) : (State.setSeg s x1 x2).upd = s.upd := rfl
@[simp] theorem State.setApp_pending (s : State) (x1 : AppState → AppState) : (State.setApp s x1).pending = s.pending := rfl
@[simp] theorem State.setApp_late (s : State) (x1 : AppState → AppState) : (State.setApp s x1).late = s.late := rfl
@[simp] theorem State.setApp_out (s : State) (x1 : AppState → AppState) : (State.setApp s x1).out = s.out := rfl
@[simp] theorem State.setApp_opens (s : State) (x1 : AppState → AppState) : (State.setApp s x1).opens = s.opens := rfl
@[simp] theorem State.setApp_dict (s : State) (x1 : AppState → AppState) : (State.setApp s x1).dict = s.dict := rfl
@[simp] theorem State.setApp_ev (s : State) (x1 : AppState → AppState) : (State.setApp s x1).ev = s.ev := rfl
@[simp] theorem State.setApp_time (s : State) (x1 : AppState → AppState) : (State.setApp s x1).time = s.time := rfl
@[simp] theorem State.setApp_pwr (s : State) (x1 : AppState → AppState) : (State.setApp s x1).pwr = s.pwr := rfl
@[simp] theorem State.setApp_link (s : State) (x1 : AppState → AppState) : (State.setApp s x1).link = s.link := rfl
@[simp] theorem State.setApp_pair (s : State) (x1 : AppState → AppState) : (State.setApp s x1).pair = s.pair := rfl
@[simp] theorem State.setApp_trust (s : State) (x1 : AppState → AppState) : (State.setApp s x1).trust = s.trust := rfl
@[simp] theorem State.setApp_cas (s : State) (x1 : AppState → AppState) : (State.setApp s x1).cas = s.cas := rfl
@[simp] theorem State.setApp_field (s : State) (x1 : AppState → AppState) : (State.setApp s x1).field = s.field := rfl
@[simp] theorem State.setApp_acc (s : State) (x1 : AppState → AppState) : (State.setApp s x1).acc = s.acc := rfl
@[simp] theorem State.setApp_arch (s : State) (x1 : AppState → AppState) : (State.setApp s x1).arch = s.arch := rfl
@[simp] theorem State.setApp_weir (s : State) (x1 : AppState → AppState) : (State.setApp s x1).weir = s.weir := rfl
@[simp] theorem State.setApp_bal (s : State) (x1 : AppState → AppState) : (State.setApp s x1).bal = s.bal := rfl
@[simp] theorem State.setApp_upd (s : State) (x1 : AppState → AppState) : (State.setApp s x1).upd = s.upd := rfl
@[simp] theorem State.setFport_pending (s : State) (x1 : Nat) (x2 : FieldPort → FieldPort) : (State.setFport s x1 x2).pending = s.pending := rfl
@[simp] theorem State.setFport_late (s : State) (x1 : Nat) (x2 : FieldPort → FieldPort) : (State.setFport s x1 x2).late = s.late := rfl
@[simp] theorem State.setFport_out (s : State) (x1 : Nat) (x2 : FieldPort → FieldPort) : (State.setFport s x1 x2).out = s.out := rfl
@[simp] theorem State.setFport_opens (s : State) (x1 : Nat) (x2 : FieldPort → FieldPort) : (State.setFport s x1 x2).opens = s.opens := rfl
@[simp] theorem State.setFport_dict (s : State) (x1 : Nat) (x2 : FieldPort → FieldPort) : (State.setFport s x1 x2).dict = s.dict := rfl
@[simp] theorem State.setFport_ev (s : State) (x1 : Nat) (x2 : FieldPort → FieldPort) : (State.setFport s x1 x2).ev = s.ev := rfl
@[simp] theorem State.setFport_time (s : State) (x1 : Nat) (x2 : FieldPort → FieldPort) : (State.setFport s x1 x2).time = s.time := rfl
@[simp] theorem State.setFport_pwr (s : State) (x1 : Nat) (x2 : FieldPort → FieldPort) : (State.setFport s x1 x2).pwr = s.pwr := rfl
@[simp] theorem State.setFport_link (s : State) (x1 : Nat) (x2 : FieldPort → FieldPort) : (State.setFport s x1 x2).link = s.link := rfl
@[simp] theorem State.setFport_pair (s : State) (x1 : Nat) (x2 : FieldPort → FieldPort) : (State.setFport s x1 x2).pair = s.pair := rfl
@[simp] theorem State.setFport_trust (s : State) (x1 : Nat) (x2 : FieldPort → FieldPort) : (State.setFport s x1 x2).trust = s.trust := rfl
@[simp] theorem State.setFport_cas (s : State) (x1 : Nat) (x2 : FieldPort → FieldPort) : (State.setFport s x1 x2).cas = s.cas := rfl
@[simp] theorem State.setFport_acc (s : State) (x1 : Nat) (x2 : FieldPort → FieldPort) : (State.setFport s x1 x2).acc = s.acc := rfl
@[simp] theorem State.setFport_arch (s : State) (x1 : Nat) (x2 : FieldPort → FieldPort) : (State.setFport s x1 x2).arch = s.arch := rfl
@[simp] theorem State.setFport_bill (s : State) (x1 : Nat) (x2 : FieldPort → FieldPort) : (State.setFport s x1 x2).bill = s.bill := rfl
@[simp] theorem State.setFport_weir (s : State) (x1 : Nat) (x2 : FieldPort → FieldPort) : (State.setFport s x1 x2).weir = s.weir := rfl
@[simp] theorem State.setFport_bal (s : State) (x1 : Nat) (x2 : FieldPort → FieldPort) : (State.setFport s x1 x2).bal = s.bal := rfl
@[simp] theorem State.setFport_upd (s : State) (x1 : Nat) (x2 : FieldPort → FieldPort) : (State.setFport s x1 x2).upd = s.upd := rfl
@[simp] theorem State.setSlot_pending (s : State) (x1 : Nat) (x2 : KeySlot) : (State.setSlot s x1 x2).pending = s.pending := rfl
@[simp] theorem State.setSlot_late (s : State) (x1 : Nat) (x2 : KeySlot) : (State.setSlot s x1 x2).late = s.late := rfl
@[simp] theorem State.setSlot_out (s : State) (x1 : Nat) (x2 : KeySlot) : (State.setSlot s x1 x2).out = s.out := rfl
@[simp] theorem State.setSlot_opens (s : State) (x1 : Nat) (x2 : KeySlot) : (State.setSlot s x1 x2).opens = s.opens := rfl
@[simp] theorem State.setSlot_dict (s : State) (x1 : Nat) (x2 : KeySlot) : (State.setSlot s x1 x2).dict = s.dict := rfl
@[simp] theorem State.setSlot_ev (s : State) (x1 : Nat) (x2 : KeySlot) : (State.setSlot s x1 x2).ev = s.ev := rfl
@[simp] theorem State.setSlot_time (s : State) (x1 : Nat) (x2 : KeySlot) : (State.setSlot s x1 x2).time = s.time := rfl
@[simp] theorem State.setSlot_pwr (s : State) (x1 : Nat) (x2 : KeySlot) : (State.setSlot s x1 x2).pwr = s.pwr := rfl
@[simp] theorem State.setSlot_link (s : State) (x1 : Nat) (x2 : KeySlot) : (State.setSlot s x1 x2).link = s.link := rfl
@[simp] theorem State.setSlot_pair (s : State) (x1 : Nat) (x2 : KeySlot) : (State.setSlot s x1 x2).pair = s.pair := rfl
@[simp] theorem State.setSlot_cas (s : State) (x1 : Nat) (x2 : KeySlot) : (State.setSlot s x1 x2).cas = s.cas := rfl
@[simp] theorem State.setSlot_field (s : State) (x1 : Nat) (x2 : KeySlot) : (State.setSlot s x1 x2).field = s.field := rfl
@[simp] theorem State.setSlot_acc (s : State) (x1 : Nat) (x2 : KeySlot) : (State.setSlot s x1 x2).acc = s.acc := rfl
@[simp] theorem State.setSlot_arch (s : State) (x1 : Nat) (x2 : KeySlot) : (State.setSlot s x1 x2).arch = s.arch := rfl
@[simp] theorem State.setSlot_bill (s : State) (x1 : Nat) (x2 : KeySlot) : (State.setSlot s x1 x2).bill = s.bill := rfl
@[simp] theorem State.setSlot_weir (s : State) (x1 : Nat) (x2 : KeySlot) : (State.setSlot s x1 x2).weir = s.weir := rfl
@[simp] theorem State.setSlot_bal (s : State) (x1 : Nat) (x2 : KeySlot) : (State.setSlot s x1 x2).bal = s.bal := rfl
@[simp] theorem State.setSlot_upd (s : State) (x1 : Nat) (x2 : KeySlot) : (State.setSlot s x1 x2).upd = s.upd := rfl
@[simp] theorem State.setFw_pending (s : State) (x1 : Nat) (x2 : Nat) (x3 : FwSlot → FwSlot) : (State.setFw s x1 x2 x3).pending = s.pending := rfl
@[simp] theorem State.setFw_late (s : State) (x1 : Nat) (x2 : Nat) (x3 : FwSlot → FwSlot) : (State.setFw s x1 x2 x3).late = s.late := rfl
@[simp] theorem State.setFw_out (s : State) (x1 : Nat) (x2 : Nat) (x3 : FwSlot → FwSlot) : (State.setFw s x1 x2 x3).out = s.out := rfl
@[simp] theorem State.setFw_opens (s : State) (x1 : Nat) (x2 : Nat) (x3 : FwSlot → FwSlot) : (State.setFw s x1 x2 x3).opens = s.opens := rfl
@[simp] theorem State.setFw_dict (s : State) (x1 : Nat) (x2 : Nat) (x3 : FwSlot → FwSlot) : (State.setFw s x1 x2 x3).dict = s.dict := rfl
@[simp] theorem State.setFw_ev (s : State) (x1 : Nat) (x2 : Nat) (x3 : FwSlot → FwSlot) : (State.setFw s x1 x2 x3).ev = s.ev := rfl
@[simp] theorem State.setFw_time (s : State) (x1 : Nat) (x2 : Nat) (x3 : FwSlot → FwSlot) : (State.setFw s x1 x2 x3).time = s.time := rfl
@[simp] theorem State.setFw_pwr (s : State) (x1 : Nat) (x2 : Nat) (x3 : FwSlot → FwSlot) : (State.setFw s x1 x2 x3).pwr = s.pwr := rfl
@[simp] theorem State.setFw_link (s : State) (x1 : Nat) (x2 : Nat) (x3 : FwSlot → FwSlot) : (State.setFw s x1 x2 x3).link = s.link := rfl
@[simp] theorem State.setFw_pair (s : State) (x1 : Nat) (x2 : Nat) (x3 : FwSlot → FwSlot) : (State.setFw s x1 x2 x3).pair = s.pair := rfl
@[simp] theorem State.setFw_trust (s : State) (x1 : Nat) (x2 : Nat) (x3 : FwSlot → FwSlot) : (State.setFw s x1 x2 x3).trust = s.trust := rfl
@[simp] theorem State.setFw_cas (s : State) (x1 : Nat) (x2 : Nat) (x3 : FwSlot → FwSlot) : (State.setFw s x1 x2 x3).cas = s.cas := rfl
@[simp] theorem State.setFw_field (s : State) (x1 : Nat) (x2 : Nat) (x3 : FwSlot → FwSlot) : (State.setFw s x1 x2 x3).field = s.field := rfl
@[simp] theorem State.setFw_acc (s : State) (x1 : Nat) (x2 : Nat) (x3 : FwSlot → FwSlot) : (State.setFw s x1 x2 x3).acc = s.acc := rfl
@[simp] theorem State.setFw_arch (s : State) (x1 : Nat) (x2 : Nat) (x3 : FwSlot → FwSlot) : (State.setFw s x1 x2 x3).arch = s.arch := rfl
@[simp] theorem State.setFw_bill (s : State) (x1 : Nat) (x2 : Nat) (x3 : FwSlot → FwSlot) : (State.setFw s x1 x2 x3).bill = s.bill := rfl
@[simp] theorem State.setFw_weir (s : State) (x1 : Nat) (x2 : Nat) (x3 : FwSlot → FwSlot) : (State.setFw s x1 x2 x3).weir = s.weir := rfl
@[simp] theorem State.setFw_bal (s : State) (x1 : Nat) (x2 : Nat) (x3 : FwSlot → FwSlot) : (State.setFw s x1 x2 x3).bal = s.bal := rfl
@[simp] theorem State.setCamp_pending (s : State) (x1 : Nat) (x2 : Campaign → Campaign) : (State.setCamp s x1 x2).pending = s.pending := rfl
@[simp] theorem State.setCamp_late (s : State) (x1 : Nat) (x2 : Campaign → Campaign) : (State.setCamp s x1 x2).late = s.late := rfl
@[simp] theorem State.setCamp_out (s : State) (x1 : Nat) (x2 : Campaign → Campaign) : (State.setCamp s x1 x2).out = s.out := rfl
@[simp] theorem State.setCamp_opens (s : State) (x1 : Nat) (x2 : Campaign → Campaign) : (State.setCamp s x1 x2).opens = s.opens := rfl
@[simp] theorem State.setCamp_dict (s : State) (x1 : Nat) (x2 : Campaign → Campaign) : (State.setCamp s x1 x2).dict = s.dict := rfl
@[simp] theorem State.setCamp_ev (s : State) (x1 : Nat) (x2 : Campaign → Campaign) : (State.setCamp s x1 x2).ev = s.ev := rfl
@[simp] theorem State.setCamp_time (s : State) (x1 : Nat) (x2 : Campaign → Campaign) : (State.setCamp s x1 x2).time = s.time := rfl
@[simp] theorem State.setCamp_pwr (s : State) (x1 : Nat) (x2 : Campaign → Campaign) : (State.setCamp s x1 x2).pwr = s.pwr := rfl
@[simp] theorem State.setCamp_link (s : State) (x1 : Nat) (x2 : Campaign → Campaign) : (State.setCamp s x1 x2).link = s.link := rfl
@[simp] theorem State.setCamp_pair (s : State) (x1 : Nat) (x2 : Campaign → Campaign) : (State.setCamp s x1 x2).pair = s.pair := rfl
@[simp] theorem State.setCamp_trust (s : State) (x1 : Nat) (x2 : Campaign → Campaign) : (State.setCamp s x1 x2).trust = s.trust := rfl
@[simp] theorem State.setCamp_cas (s : State) (x1 : Nat) (x2 : Campaign → Campaign) : (State.setCamp s x1 x2).cas = s.cas := rfl
@[simp] theorem State.setCamp_field (s : State) (x1 : Nat) (x2 : Campaign → Campaign) : (State.setCamp s x1 x2).field = s.field := rfl
@[simp] theorem State.setCamp_acc (s : State) (x1 : Nat) (x2 : Campaign → Campaign) : (State.setCamp s x1 x2).acc = s.acc := rfl
@[simp] theorem State.setCamp_arch (s : State) (x1 : Nat) (x2 : Campaign → Campaign) : (State.setCamp s x1 x2).arch = s.arch := rfl
@[simp] theorem State.setCamp_bill (s : State) (x1 : Nat) (x2 : Campaign → Campaign) : (State.setCamp s x1 x2).bill = s.bill := rfl
@[simp] theorem State.setCamp_weir (s : State) (x1 : Nat) (x2 : Campaign → Campaign) : (State.setCamp s x1 x2).weir = s.weir := rfl
@[simp] theorem State.setCamp_bal (s : State) (x1 : Nat) (x2 : Campaign → Campaign) : (State.setCamp s x1 x2).bal = s.bal := rfl
@[simp] theorem State.setPair_pending (s : State) (x1 : PairState → PairState) : (State.setPair s x1).pending = s.pending := rfl
@[simp] theorem State.setPair_late (s : State) (x1 : PairState → PairState) : (State.setPair s x1).late = s.late := rfl
@[simp] theorem State.setPair_out (s : State) (x1 : PairState → PairState) : (State.setPair s x1).out = s.out := rfl
@[simp] theorem State.setPair_opens (s : State) (x1 : PairState → PairState) : (State.setPair s x1).opens = s.opens := rfl
@[simp] theorem State.setPair_dict (s : State) (x1 : PairState → PairState) : (State.setPair s x1).dict = s.dict := rfl
@[simp] theorem State.setPair_ev (s : State) (x1 : PairState → PairState) : (State.setPair s x1).ev = s.ev := rfl
@[simp] theorem State.setPair_time (s : State) (x1 : PairState → PairState) : (State.setPair s x1).time = s.time := rfl
@[simp] theorem State.setPair_pwr (s : State) (x1 : PairState → PairState) : (State.setPair s x1).pwr = s.pwr := rfl
@[simp] theorem State.setPair_link (s : State) (x1 : PairState → PairState) : (State.setPair s x1).link = s.link := rfl
@[simp] theorem State.setPair_trust (s : State) (x1 : PairState → PairState) : (State.setPair s x1).trust = s.trust := rfl
@[simp] theorem State.setPair_cas (s : State) (x1 : PairState → PairState) : (State.setPair s x1).cas = s.cas := rfl
@[simp] theorem State.setPair_field (s : State) (x1 : PairState → PairState) : (State.setPair s x1).field = s.field := rfl
@[simp] theorem State.setPair_acc (s : State) (x1 : PairState → PairState) : (State.setPair s x1).acc = s.acc := rfl
@[simp] theorem State.setPair_arch (s : State) (x1 : PairState → PairState) : (State.setPair s x1).arch = s.arch := rfl
@[simp] theorem State.setPair_bill (s : State) (x1 : PairState → PairState) : (State.setPair s x1).bill = s.bill := rfl
@[simp] theorem State.setPair_weir (s : State) (x1 : PairState → PairState) : (State.setPair s x1).weir = s.weir := rfl
@[simp] theorem State.setPair_bal (s : State) (x1 : PairState → PairState) : (State.setPair s x1).bal = s.bal := rfl
@[simp] theorem State.setPair_upd (s : State) (x1 : PairState → PairState) : (State.setPair s x1).upd = s.upd := rfl
@[simp] theorem State.setEth_pending (s : State) (x1 : Nat) (x2 : EthPort → EthPort) : (State.setEth s x1 x2).pending = s.pending := rfl
@[simp] theorem State.setEth_late (s : State) (x1 : Nat) (x2 : EthPort → EthPort) : (State.setEth s x1 x2).late = s.late := rfl
@[simp] theorem State.setEth_out (s : State) (x1 : Nat) (x2 : EthPort → EthPort) : (State.setEth s x1 x2).out = s.out := rfl
@[simp] theorem State.setEth_opens (s : State) (x1 : Nat) (x2 : EthPort → EthPort) : (State.setEth s x1 x2).opens = s.opens := rfl
@[simp] theorem State.setEth_dict (s : State) (x1 : Nat) (x2 : EthPort → EthPort) : (State.setEth s x1 x2).dict = s.dict := rfl
@[simp] theorem State.setEth_ev (s : State) (x1 : Nat) (x2 : EthPort → EthPort) : (State.setEth s x1 x2).ev = s.ev := rfl
@[simp] theorem State.setEth_time (s : State) (x1 : Nat) (x2 : EthPort → EthPort) : (State.setEth s x1 x2).time = s.time := rfl
@[simp] theorem State.setEth_pwr (s : State) (x1 : Nat) (x2 : EthPort → EthPort) : (State.setEth s x1 x2).pwr = s.pwr := rfl
@[simp] theorem State.setEth_pair (s : State) (x1 : Nat) (x2 : EthPort → EthPort) : (State.setEth s x1 x2).pair = s.pair := rfl
@[simp] theorem State.setEth_trust (s : State) (x1 : Nat) (x2 : EthPort → EthPort) : (State.setEth s x1 x2).trust = s.trust := rfl
@[simp] theorem State.setEth_cas (s : State) (x1 : Nat) (x2 : EthPort → EthPort) : (State.setEth s x1 x2).cas = s.cas := rfl
@[simp] theorem State.setEth_field (s : State) (x1 : Nat) (x2 : EthPort → EthPort) : (State.setEth s x1 x2).field = s.field := rfl
@[simp] theorem State.setEth_acc (s : State) (x1 : Nat) (x2 : EthPort → EthPort) : (State.setEth s x1 x2).acc = s.acc := rfl
@[simp] theorem State.setEth_arch (s : State) (x1 : Nat) (x2 : EthPort → EthPort) : (State.setEth s x1 x2).arch = s.arch := rfl
@[simp] theorem State.setEth_bill (s : State) (x1 : Nat) (x2 : EthPort → EthPort) : (State.setEth s x1 x2).bill = s.bill := rfl
@[simp] theorem State.setEth_weir (s : State) (x1 : Nat) (x2 : EthPort → EthPort) : (State.setEth s x1 x2).weir = s.weir := rfl
@[simp] theorem State.setEth_bal (s : State) (x1 : Nat) (x2 : EthPort → EthPort) : (State.setEth s x1 x2).bal = s.bal := rfl
@[simp] theorem State.setEth_upd (s : State) (x1 : Nat) (x2 : EthPort → EthPort) : (State.setEth s x1 x2).upd = s.upd := rfl
@[simp] theorem State.setDlv_pending (s : State) (x1 : Delivery → Delivery) : (State.setDlv s x1).pending = s.pending := rfl
@[simp] theorem State.setDlv_late (s : State) (x1 : Delivery → Delivery) : (State.setDlv s x1).late = s.late := rfl
@[simp] theorem State.setDlv_out (s : State) (x1 : Delivery → Delivery) : (State.setDlv s x1).out = s.out := rfl
@[simp] theorem State.setDlv_opens (s : State) (x1 : Delivery → Delivery) : (State.setDlv s x1).opens = s.opens := rfl
@[simp] theorem State.setDlv_dict (s : State) (x1 : Delivery → Delivery) : (State.setDlv s x1).dict = s.dict := rfl
@[simp] theorem State.setDlv_ev (s : State) (x1 : Delivery → Delivery) : (State.setDlv s x1).ev = s.ev := rfl
@[simp] theorem State.setDlv_time (s : State) (x1 : Delivery → Delivery) : (State.setDlv s x1).time = s.time := rfl
@[simp] theorem State.setDlv_pwr (s : State) (x1 : Delivery → Delivery) : (State.setDlv s x1).pwr = s.pwr := rfl
@[simp] theorem State.setDlv_pair (s : State) (x1 : Delivery → Delivery) : (State.setDlv s x1).pair = s.pair := rfl
@[simp] theorem State.setDlv_trust (s : State) (x1 : Delivery → Delivery) : (State.setDlv s x1).trust = s.trust := rfl
@[simp] theorem State.setDlv_cas (s : State) (x1 : Delivery → Delivery) : (State.setDlv s x1).cas = s.cas := rfl
@[simp] theorem State.setDlv_field (s : State) (x1 : Delivery → Delivery) : (State.setDlv s x1).field = s.field := rfl
@[simp] theorem State.setDlv_acc (s : State) (x1 : Delivery → Delivery) : (State.setDlv s x1).acc = s.acc := rfl
@[simp] theorem State.setDlv_arch (s : State) (x1 : Delivery → Delivery) : (State.setDlv s x1).arch = s.arch := rfl
@[simp] theorem State.setDlv_bill (s : State) (x1 : Delivery → Delivery) : (State.setDlv s x1).bill = s.bill := rfl
@[simp] theorem State.setDlv_weir (s : State) (x1 : Delivery → Delivery) : (State.setDlv s x1).weir = s.weir := rfl
@[simp] theorem State.setDlv_bal (s : State) (x1 : Delivery → Delivery) : (State.setDlv s x1).bal = s.bal := rfl
@[simp] theorem State.setDlv_upd (s : State) (x1 : Delivery → Delivery) : (State.setDlv s x1).upd = s.upd := rfl
@[simp] theorem State.setSerial_pending (s : State) (x1 : Nat) (x2 : SerialPort → SerialPort) : (State.setSerial s x1 x2).pending = s.pending := rfl
@[simp] theorem State.setSerial_late (s : State) (x1 : Nat) (x2 : SerialPort → SerialPort) : (State.setSerial s x1 x2).late = s.late := rfl
@[simp] theorem State.setSerial_out (s : State) (x1 : Nat) (x2 : SerialPort → SerialPort) : (State.setSerial s x1 x2).out = s.out := rfl
@[simp] theorem State.setSerial_opens (s : State) (x1 : Nat) (x2 : SerialPort → SerialPort) : (State.setSerial s x1 x2).opens = s.opens := rfl
@[simp] theorem State.setSerial_dict (s : State) (x1 : Nat) (x2 : SerialPort → SerialPort) : (State.setSerial s x1 x2).dict = s.dict := rfl
@[simp] theorem State.setSerial_ev (s : State) (x1 : Nat) (x2 : SerialPort → SerialPort) : (State.setSerial s x1 x2).ev = s.ev := rfl
@[simp] theorem State.setSerial_time (s : State) (x1 : Nat) (x2 : SerialPort → SerialPort) : (State.setSerial s x1 x2).time = s.time := rfl
@[simp] theorem State.setSerial_pwr (s : State) (x1 : Nat) (x2 : SerialPort → SerialPort) : (State.setSerial s x1 x2).pwr = s.pwr := rfl
@[simp] theorem State.setSerial_pair (s : State) (x1 : Nat) (x2 : SerialPort → SerialPort) : (State.setSerial s x1 x2).pair = s.pair := rfl
@[simp] theorem State.setSerial_trust (s : State) (x1 : Nat) (x2 : SerialPort → SerialPort) : (State.setSerial s x1 x2).trust = s.trust := rfl
@[simp] theorem State.setSerial_cas (s : State) (x1 : Nat) (x2 : SerialPort → SerialPort) : (State.setSerial s x1 x2).cas = s.cas := rfl
@[simp] theorem State.setSerial_field (s : State) (x1 : Nat) (x2 : SerialPort → SerialPort) : (State.setSerial s x1 x2).field = s.field := rfl
@[simp] theorem State.setSerial_acc (s : State) (x1 : Nat) (x2 : SerialPort → SerialPort) : (State.setSerial s x1 x2).acc = s.acc := rfl
@[simp] theorem State.setSerial_arch (s : State) (x1 : Nat) (x2 : SerialPort → SerialPort) : (State.setSerial s x1 x2).arch = s.arch := rfl
@[simp] theorem State.setSerial_bill (s : State) (x1 : Nat) (x2 : SerialPort → SerialPort) : (State.setSerial s x1 x2).bill = s.bill := rfl
@[simp] theorem State.setSerial_weir (s : State) (x1 : Nat) (x2 : SerialPort → SerialPort) : (State.setSerial s x1 x2).weir = s.weir := rfl
@[simp] theorem State.setSerial_bal (s : State) (x1 : Nat) (x2 : SerialPort → SerialPort) : (State.setSerial s x1 x2).bal = s.bal := rfl
@[simp] theorem State.setSerial_upd (s : State) (x1 : Nat) (x2 : SerialPort → SerialPort) : (State.setSerial s x1 x2).upd = s.upd := rfl
@[simp] theorem State.setMbill_pending (s : State) (x1 : Nat) (x2 : MeterBill → MeterBill) : (State.setMbill s x1 x2).pending = s.pending := rfl
@[simp] theorem State.setMbill_late (s : State) (x1 : Nat) (x2 : MeterBill → MeterBill) : (State.setMbill s x1 x2).late = s.late := rfl
@[simp] theorem State.setMbill_out (s : State) (x1 : Nat) (x2 : MeterBill → MeterBill) : (State.setMbill s x1 x2).out = s.out := rfl
@[simp] theorem State.setMbill_opens (s : State) (x1 : Nat) (x2 : MeterBill → MeterBill) : (State.setMbill s x1 x2).opens = s.opens := rfl
@[simp] theorem State.setMbill_dict (s : State) (x1 : Nat) (x2 : MeterBill → MeterBill) : (State.setMbill s x1 x2).dict = s.dict := rfl
@[simp] theorem State.setMbill_ev (s : State) (x1 : Nat) (x2 : MeterBill → MeterBill) : (State.setMbill s x1 x2).ev = s.ev := rfl
@[simp] theorem State.setMbill_time (s : State) (x1 : Nat) (x2 : MeterBill → MeterBill) : (State.setMbill s x1 x2).time = s.time := rfl
@[simp] theorem State.setMbill_pwr (s : State) (x1 : Nat) (x2 : MeterBill → MeterBill) : (State.setMbill s x1 x2).pwr = s.pwr := rfl
@[simp] theorem State.setMbill_link (s : State) (x1 : Nat) (x2 : MeterBill → MeterBill) : (State.setMbill s x1 x2).link = s.link := rfl
@[simp] theorem State.setMbill_pair (s : State) (x1 : Nat) (x2 : MeterBill → MeterBill) : (State.setMbill s x1 x2).pair = s.pair := rfl
@[simp] theorem State.setMbill_trust (s : State) (x1 : Nat) (x2 : MeterBill → MeterBill) : (State.setMbill s x1 x2).trust = s.trust := rfl
@[simp] theorem State.setMbill_cas (s : State) (x1 : Nat) (x2 : MeterBill → MeterBill) : (State.setMbill s x1 x2).cas = s.cas := rfl
@[simp] theorem State.setMbill_field (s : State) (x1 : Nat) (x2 : MeterBill → MeterBill) : (State.setMbill s x1 x2).field = s.field := rfl
@[simp] theorem State.setMbill_acc (s : State) (x1 : Nat) (x2 : MeterBill → MeterBill) : (State.setMbill s x1 x2).acc = s.acc := rfl
@[simp] theorem State.setMbill_arch (s : State) (x1 : Nat) (x2 : MeterBill → MeterBill) : (State.setMbill s x1 x2).arch = s.arch := rfl
@[simp] theorem State.setMbill_weir (s : State) (x1 : Nat) (x2 : MeterBill → MeterBill) : (State.setMbill s x1 x2).weir = s.weir := rfl
@[simp] theorem State.setMbill_bal (s : State) (x1 : Nat) (x2 : MeterBill → MeterBill) : (State.setMbill s x1 x2).bal = s.bal := rfl
@[simp] theorem State.setMbill_upd (s : State) (x1 : Nat) (x2 : MeterBill → MeterBill) : (State.setMbill s x1 x2).upd = s.upd := rfl
@[simp] theorem State.setLedger_pending (s : State) (x1 : Nat) (x2 : Ledger → Ledger) : (State.setLedger s x1 x2).pending = s.pending := rfl
@[simp] theorem State.setLedger_late (s : State) (x1 : Nat) (x2 : Ledger → Ledger) : (State.setLedger s x1 x2).late = s.late := rfl
@[simp] theorem State.setLedger_out (s : State) (x1 : Nat) (x2 : Ledger → Ledger) : (State.setLedger s x1 x2).out = s.out := rfl
@[simp] theorem State.setLedger_opens (s : State) (x1 : Nat) (x2 : Ledger → Ledger) : (State.setLedger s x1 x2).opens = s.opens := rfl
@[simp] theorem State.setLedger_dict (s : State) (x1 : Nat) (x2 : Ledger → Ledger) : (State.setLedger s x1 x2).dict = s.dict := rfl
@[simp] theorem State.setLedger_ev (s : State) (x1 : Nat) (x2 : Ledger → Ledger) : (State.setLedger s x1 x2).ev = s.ev := rfl
@[simp] theorem State.setLedger_time (s : State) (x1 : Nat) (x2 : Ledger → Ledger) : (State.setLedger s x1 x2).time = s.time := rfl
@[simp] theorem State.setLedger_pwr (s : State) (x1 : Nat) (x2 : Ledger → Ledger) : (State.setLedger s x1 x2).pwr = s.pwr := rfl
@[simp] theorem State.setLedger_link (s : State) (x1 : Nat) (x2 : Ledger → Ledger) : (State.setLedger s x1 x2).link = s.link := rfl
@[simp] theorem State.setLedger_pair (s : State) (x1 : Nat) (x2 : Ledger → Ledger) : (State.setLedger s x1 x2).pair = s.pair := rfl
@[simp] theorem State.setLedger_trust (s : State) (x1 : Nat) (x2 : Ledger → Ledger) : (State.setLedger s x1 x2).trust = s.trust := rfl
@[simp] theorem State.setLedger_cas (s : State) (x1 : Nat) (x2 : Ledger → Ledger) : (State.setLedger s x1 x2).cas = s.cas := rfl
@[simp] theorem State.setLedger_field (s : State) (x1 : Nat) (x2 : Ledger → Ledger) : (State.setLedger s x1 x2).field = s.field := rfl
@[simp] theorem State.setLedger_acc (s : State) (x1 : Nat) (x2 : Ledger → Ledger) : (State.setLedger s x1 x2).acc = s.acc := rfl
@[simp] theorem State.setLedger_arch (s : State) (x1 : Nat) (x2 : Ledger → Ledger) : (State.setLedger s x1 x2).arch = s.arch := rfl
@[simp] theorem State.setLedger_weir (s : State) (x1 : Nat) (x2 : Ledger → Ledger) : (State.setLedger s x1 x2).weir = s.weir := rfl
@[simp] theorem State.setLedger_bal (s : State) (x1 : Nat) (x2 : Ledger → Ledger) : (State.setLedger s x1 x2).bal = s.bal := rfl
@[simp] theorem State.setLedger_upd (s : State) (x1 : Nat) (x2 : Ledger → Ledger) : (State.setLedger s x1 x2).upd = s.upd := rfl
@[simp] theorem State.setLgroup_pending (s : State) (x1 : Nat) (x2 : LoadGroup → LoadGroup) : (State.setLgroup s x1 x2).pending = s.pending := rfl
@[simp] theorem State.setLgroup_late (s : State) (x1 : Nat) (x2 : LoadGroup → LoadGroup) : (State.setLgroup s x1 x2).late = s.late := rfl
@[simp] theorem State.setLgroup_out (s : State) (x1 : Nat) (x2 : LoadGroup → LoadGroup) : (State.setLgroup s x1 x2).out = s.out := rfl
@[simp] theorem State.setLgroup_opens (s : State) (x1 : Nat) (x2 : LoadGroup → LoadGroup) : (State.setLgroup s x1 x2).opens = s.opens := rfl
@[simp] theorem State.setLgroup_dict (s : State) (x1 : Nat) (x2 : LoadGroup → LoadGroup) : (State.setLgroup s x1 x2).dict = s.dict := rfl
@[simp] theorem State.setLgroup_ev (s : State) (x1 : Nat) (x2 : LoadGroup → LoadGroup) : (State.setLgroup s x1 x2).ev = s.ev := rfl
@[simp] theorem State.setLgroup_time (s : State) (x1 : Nat) (x2 : LoadGroup → LoadGroup) : (State.setLgroup s x1 x2).time = s.time := rfl
@[simp] theorem State.setLgroup_pwr (s : State) (x1 : Nat) (x2 : LoadGroup → LoadGroup) : (State.setLgroup s x1 x2).pwr = s.pwr := rfl
@[simp] theorem State.setLgroup_link (s : State) (x1 : Nat) (x2 : LoadGroup → LoadGroup) : (State.setLgroup s x1 x2).link = s.link := rfl
@[simp] theorem State.setLgroup_pair (s : State) (x1 : Nat) (x2 : LoadGroup → LoadGroup) : (State.setLgroup s x1 x2).pair = s.pair := rfl
@[simp] theorem State.setLgroup_trust (s : State) (x1 : Nat) (x2 : LoadGroup → LoadGroup) : (State.setLgroup s x1 x2).trust = s.trust := rfl
@[simp] theorem State.setLgroup_cas (s : State) (x1 : Nat) (x2 : LoadGroup → LoadGroup) : (State.setLgroup s x1 x2).cas = s.cas := rfl
@[simp] theorem State.setLgroup_field (s : State) (x1 : Nat) (x2 : LoadGroup → LoadGroup) : (State.setLgroup s x1 x2).field = s.field := rfl
@[simp] theorem State.setLgroup_acc (s : State) (x1 : Nat) (x2 : LoadGroup → LoadGroup) : (State.setLgroup s x1 x2).acc = s.acc := rfl
@[simp] theorem State.setLgroup_arch (s : State) (x1 : Nat) (x2 : LoadGroup → LoadGroup) : (State.setLgroup s x1 x2).arch = s.arch := rfl
@[simp] theorem State.setLgroup_weir (s : State) (x1 : Nat) (x2 : LoadGroup → LoadGroup) : (State.setLgroup s x1 x2).weir = s.weir := rfl
@[simp] theorem State.setLgroup_bal (s : State) (x1 : Nat) (x2 : LoadGroup → LoadGroup) : (State.setLgroup s x1 x2).bal = s.bal := rfl
@[simp] theorem State.setLgroup_upd (s : State) (x1 : Nat) (x2 : LoadGroup → LoadGroup) : (State.setLgroup s x1 x2).upd = s.upd := rfl
@[simp] theorem State.setRelay_pending (s : State) (x1 : Nat) (x2 : Relay → Relay) : (State.setRelay s x1 x2).pending = s.pending := rfl
@[simp] theorem State.setRelay_late (s : State) (x1 : Nat) (x2 : Relay → Relay) : (State.setRelay s x1 x2).late = s.late := rfl
@[simp] theorem State.setRelay_out (s : State) (x1 : Nat) (x2 : Relay → Relay) : (State.setRelay s x1 x2).out = s.out := rfl
@[simp] theorem State.setRelay_opens (s : State) (x1 : Nat) (x2 : Relay → Relay) : (State.setRelay s x1 x2).opens = s.opens := rfl
@[simp] theorem State.setRelay_dict (s : State) (x1 : Nat) (x2 : Relay → Relay) : (State.setRelay s x1 x2).dict = s.dict := rfl
@[simp] theorem State.setRelay_ev (s : State) (x1 : Nat) (x2 : Relay → Relay) : (State.setRelay s x1 x2).ev = s.ev := rfl
@[simp] theorem State.setRelay_time (s : State) (x1 : Nat) (x2 : Relay → Relay) : (State.setRelay s x1 x2).time = s.time := rfl
@[simp] theorem State.setRelay_pwr (s : State) (x1 : Nat) (x2 : Relay → Relay) : (State.setRelay s x1 x2).pwr = s.pwr := rfl
@[simp] theorem State.setRelay_link (s : State) (x1 : Nat) (x2 : Relay → Relay) : (State.setRelay s x1 x2).link = s.link := rfl
@[simp] theorem State.setRelay_pair (s : State) (x1 : Nat) (x2 : Relay → Relay) : (State.setRelay s x1 x2).pair = s.pair := rfl
@[simp] theorem State.setRelay_trust (s : State) (x1 : Nat) (x2 : Relay → Relay) : (State.setRelay s x1 x2).trust = s.trust := rfl
@[simp] theorem State.setRelay_cas (s : State) (x1 : Nat) (x2 : Relay → Relay) : (State.setRelay s x1 x2).cas = s.cas := rfl
@[simp] theorem State.setRelay_field (s : State) (x1 : Nat) (x2 : Relay → Relay) : (State.setRelay s x1 x2).field = s.field := rfl
@[simp] theorem State.setRelay_acc (s : State) (x1 : Nat) (x2 : Relay → Relay) : (State.setRelay s x1 x2).acc = s.acc := rfl
@[simp] theorem State.setRelay_arch (s : State) (x1 : Nat) (x2 : Relay → Relay) : (State.setRelay s x1 x2).arch = s.arch := rfl
@[simp] theorem State.setRelay_weir (s : State) (x1 : Nat) (x2 : Relay → Relay) : (State.setRelay s x1 x2).weir = s.weir := rfl
@[simp] theorem State.setRelay_bal (s : State) (x1 : Nat) (x2 : Relay → Relay) : (State.setRelay s x1 x2).bal = s.bal := rfl
@[simp] theorem State.setRelay_upd (s : State) (x1 : Nat) (x2 : Relay → Relay) : (State.setRelay s x1 x2).upd = s.upd := rfl
@[simp] theorem State.setItems_pending (s : State) (x1 : Nat) (x2 : List Item) : (State.setItems s x1 x2).pending = s.pending := rfl
@[simp] theorem State.setItems_late (s : State) (x1 : Nat) (x2 : List Item) : (State.setItems s x1 x2).late = s.late := rfl
@[simp] theorem State.setItems_out (s : State) (x1 : Nat) (x2 : List Item) : (State.setItems s x1 x2).out = s.out := rfl
@[simp] theorem State.setItems_opens (s : State) (x1 : Nat) (x2 : List Item) : (State.setItems s x1 x2).opens = s.opens := rfl
@[simp] theorem State.setItems_dict (s : State) (x1 : Nat) (x2 : List Item) : (State.setItems s x1 x2).dict = s.dict := rfl
@[simp] theorem State.setItems_ev (s : State) (x1 : Nat) (x2 : List Item) : (State.setItems s x1 x2).ev = s.ev := rfl
@[simp] theorem State.setItems_time (s : State) (x1 : Nat) (x2 : List Item) : (State.setItems s x1 x2).time = s.time := rfl
@[simp] theorem State.setItems_pwr (s : State) (x1 : Nat) (x2 : List Item) : (State.setItems s x1 x2).pwr = s.pwr := rfl
@[simp] theorem State.setItems_link (s : State) (x1 : Nat) (x2 : List Item) : (State.setItems s x1 x2).link = s.link := rfl
@[simp] theorem State.setItems_pair (s : State) (x1 : Nat) (x2 : List Item) : (State.setItems s x1 x2).pair = s.pair := rfl
@[simp] theorem State.setItems_trust (s : State) (x1 : Nat) (x2 : List Item) : (State.setItems s x1 x2).trust = s.trust := rfl
@[simp] theorem State.setItems_field (s : State) (x1 : Nat) (x2 : List Item) : (State.setItems s x1 x2).field = s.field := rfl
@[simp] theorem State.setItems_acc (s : State) (x1 : Nat) (x2 : List Item) : (State.setItems s x1 x2).acc = s.acc := rfl
@[simp] theorem State.setItems_arch (s : State) (x1 : Nat) (x2 : List Item) : (State.setItems s x1 x2).arch = s.arch := rfl
@[simp] theorem State.setItems_bill (s : State) (x1 : Nat) (x2 : List Item) : (State.setItems s x1 x2).bill = s.bill := rfl
@[simp] theorem State.setItems_weir (s : State) (x1 : Nat) (x2 : List Item) : (State.setItems s x1 x2).weir = s.weir := rfl
@[simp] theorem State.setItems_bal (s : State) (x1 : Nat) (x2 : List Item) : (State.setItems s x1 x2).bal = s.bal := rfl
@[simp] theorem State.setItems_upd (s : State) (x1 : Nat) (x2 : List Item) : (State.setItems s x1 x2).upd = s.upd := rfl
@[simp] theorem State.setItem_pending (s : State) (x1 : Nat) (x2 : Nat) (x3 : Item → Item) : (State.setItem s x1 x2 x3).pending = s.pending := rfl
@[simp] theorem State.setItem_late (s : State) (x1 : Nat) (x2 : Nat) (x3 : Item → Item) : (State.setItem s x1 x2 x3).late = s.late := rfl
@[simp] theorem State.setItem_out (s : State) (x1 : Nat) (x2 : Nat) (x3 : Item → Item) : (State.setItem s x1 x2 x3).out = s.out := rfl
@[simp] theorem State.setItem_opens (s : State) (x1 : Nat) (x2 : Nat) (x3 : Item → Item) : (State.setItem s x1 x2 x3).opens = s.opens := rfl
@[simp] theorem State.setItem_dict (s : State) (x1 : Nat) (x2 : Nat) (x3 : Item → Item) : (State.setItem s x1 x2 x3).dict = s.dict := rfl
@[simp] theorem State.setItem_ev (s : State) (x1 : Nat) (x2 : Nat) (x3 : Item → Item) : (State.setItem s x1 x2 x3).ev = s.ev := rfl
@[simp] theorem State.setItem_time (s : State) (x1 : Nat) (x2 : Nat) (x3 : Item → Item) : (State.setItem s x1 x2 x3).time = s.time := rfl
@[simp] theorem State.setItem_pwr (s : State) (x1 : Nat) (x2 : Nat) (x3 : Item → Item) : (State.setItem s x1 x2 x3).pwr = s.pwr := rfl
@[simp] theorem State.setItem_link (s : State) (x1 : Nat) (x2 : Nat) (x3 : Item → Item) : (State.setItem s x1 x2 x3).link = s.link := rfl
@[simp] theorem State.setItem_pair (s : State) (x1 : Nat) (x2 : Nat) (x3 : Item → Item) : (State.setItem s x1 x2 x3).pair = s.pair := rfl
@[simp] theorem State.setItem_trust (s : State) (x1 : Nat) (x2 : Nat) (x3 : Item → Item) : (State.setItem s x1 x2 x3).trust = s.trust := rfl
@[simp] theorem State.setItem_field (s : State) (x1 : Nat) (x2 : Nat) (x3 : Item → Item) : (State.setItem s x1 x2 x3).field = s.field := rfl
@[simp] theorem State.setItem_acc (s : State) (x1 : Nat) (x2 : Nat) (x3 : Item → Item) : (State.setItem s x1 x2 x3).acc = s.acc := rfl
@[simp] theorem State.setItem_arch (s : State) (x1 : Nat) (x2 : Nat) (x3 : Item → Item) : (State.setItem s x1 x2 x3).arch = s.arch := rfl
@[simp] theorem State.setItem_bill (s : State) (x1 : Nat) (x2 : Nat) (x3 : Item → Item) : (State.setItem s x1 x2 x3).bill = s.bill := rfl
@[simp] theorem State.setItem_weir (s : State) (x1 : Nat) (x2 : Nat) (x3 : Item → Item) : (State.setItem s x1 x2 x3).weir = s.weir := rfl
@[simp] theorem State.setItem_bal (s : State) (x1 : Nat) (x2 : Nat) (x3 : Item → Item) : (State.setItem s x1 x2 x3).bal = s.bal := rfl
@[simp] theorem State.setItem_upd (s : State) (x1 : Nat) (x2 : Nat) (x3 : Item → Item) : (State.setItem s x1 x2 x3).upd = s.upd := rfl
@[simp] theorem State.setRecs_pending (s : State) (x1 : Nat) (x2 : List ArchRec) : (State.setRecs s x1 x2).pending = s.pending := rfl
@[simp] theorem State.setRecs_late (s : State) (x1 : Nat) (x2 : List ArchRec) : (State.setRecs s x1 x2).late = s.late := rfl
@[simp] theorem State.setRecs_out (s : State) (x1 : Nat) (x2 : List ArchRec) : (State.setRecs s x1 x2).out = s.out := rfl
@[simp] theorem State.setRecs_opens (s : State) (x1 : Nat) (x2 : List ArchRec) : (State.setRecs s x1 x2).opens = s.opens := rfl
@[simp] theorem State.setRecs_dict (s : State) (x1 : Nat) (x2 : List ArchRec) : (State.setRecs s x1 x2).dict = s.dict := rfl
@[simp] theorem State.setRecs_ev (s : State) (x1 : Nat) (x2 : List ArchRec) : (State.setRecs s x1 x2).ev = s.ev := rfl
@[simp] theorem State.setRecs_time (s : State) (x1 : Nat) (x2 : List ArchRec) : (State.setRecs s x1 x2).time = s.time := rfl
@[simp] theorem State.setRecs_pwr (s : State) (x1 : Nat) (x2 : List ArchRec) : (State.setRecs s x1 x2).pwr = s.pwr := rfl
@[simp] theorem State.setRecs_link (s : State) (x1 : Nat) (x2 : List ArchRec) : (State.setRecs s x1 x2).link = s.link := rfl
@[simp] theorem State.setRecs_pair (s : State) (x1 : Nat) (x2 : List ArchRec) : (State.setRecs s x1 x2).pair = s.pair := rfl
@[simp] theorem State.setRecs_trust (s : State) (x1 : Nat) (x2 : List ArchRec) : (State.setRecs s x1 x2).trust = s.trust := rfl
@[simp] theorem State.setRecs_cas (s : State) (x1 : Nat) (x2 : List ArchRec) : (State.setRecs s x1 x2).cas = s.cas := rfl
@[simp] theorem State.setRecs_field (s : State) (x1 : Nat) (x2 : List ArchRec) : (State.setRecs s x1 x2).field = s.field := rfl
@[simp] theorem State.setRecs_acc (s : State) (x1 : Nat) (x2 : List ArchRec) : (State.setRecs s x1 x2).acc = s.acc := rfl
@[simp] theorem State.setRecs_bill (s : State) (x1 : Nat) (x2 : List ArchRec) : (State.setRecs s x1 x2).bill = s.bill := rfl
@[simp] theorem State.setRecs_weir (s : State) (x1 : Nat) (x2 : List ArchRec) : (State.setRecs s x1 x2).weir = s.weir := rfl
@[simp] theorem State.setRecs_bal (s : State) (x1 : Nat) (x2 : List ArchRec) : (State.setRecs s x1 x2).bal = s.bal := rfl
@[simp] theorem State.setRecs_upd (s : State) (x1 : Nat) (x2 : List ArchRec) : (State.setRecs s x1 x2).upd = s.upd := rfl
@[simp] theorem State.setEntry_pending (s : State) (x1 : U64) (x2 : JEntry → JEntry) : (State.setEntry s x1 x2).pending = s.pending := rfl
@[simp] theorem State.setEntry_late (s : State) (x1 : U64) (x2 : JEntry → JEntry) : (State.setEntry s x1 x2).late = s.late := rfl
@[simp] theorem State.setEntry_out (s : State) (x1 : U64) (x2 : JEntry → JEntry) : (State.setEntry s x1 x2).out = s.out := rfl
@[simp] theorem State.setEntry_opens (s : State) (x1 : U64) (x2 : JEntry → JEntry) : (State.setEntry s x1 x2).opens = s.opens := rfl
@[simp] theorem State.setEntry_dict (s : State) (x1 : U64) (x2 : JEntry → JEntry) : (State.setEntry s x1 x2).dict = s.dict := rfl
@[simp] theorem State.setEntry_ev (s : State) (x1 : U64) (x2 : JEntry → JEntry) : (State.setEntry s x1 x2).ev = s.ev := rfl
@[simp] theorem State.setEntry_time (s : State) (x1 : U64) (x2 : JEntry → JEntry) : (State.setEntry s x1 x2).time = s.time := rfl
@[simp] theorem State.setEntry_pwr (s : State) (x1 : U64) (x2 : JEntry → JEntry) : (State.setEntry s x1 x2).pwr = s.pwr := rfl
@[simp] theorem State.setEntry_link (s : State) (x1 : U64) (x2 : JEntry → JEntry) : (State.setEntry s x1 x2).link = s.link := rfl
@[simp] theorem State.setEntry_pair (s : State) (x1 : U64) (x2 : JEntry → JEntry) : (State.setEntry s x1 x2).pair = s.pair := rfl
@[simp] theorem State.setEntry_trust (s : State) (x1 : U64) (x2 : JEntry → JEntry) : (State.setEntry s x1 x2).trust = s.trust := rfl
@[simp] theorem State.setEntry_cas (s : State) (x1 : U64) (x2 : JEntry → JEntry) : (State.setEntry s x1 x2).cas = s.cas := rfl
@[simp] theorem State.setEntry_field (s : State) (x1 : U64) (x2 : JEntry → JEntry) : (State.setEntry s x1 x2).field = s.field := rfl
@[simp] theorem State.setEntry_arch (s : State) (x1 : U64) (x2 : JEntry → JEntry) : (State.setEntry s x1 x2).arch = s.arch := rfl
@[simp] theorem State.setEntry_bill (s : State) (x1 : U64) (x2 : JEntry → JEntry) : (State.setEntry s x1 x2).bill = s.bill := rfl
@[simp] theorem State.setEntry_weir (s : State) (x1 : U64) (x2 : JEntry → JEntry) : (State.setEntry s x1 x2).weir = s.weir := rfl
@[simp] theorem State.setEntry_bal (s : State) (x1 : U64) (x2 : JEntry → JEntry) : (State.setEntry s x1 x2).bal = s.bal := rfl
@[simp] theorem State.setEntry_upd (s : State) (x1 : U64) (x2 : JEntry → JEntry) : (State.setEntry s x1 x2).upd = s.upd := rfl
@[simp] theorem State.setOrder_pending (s : State) (x1 : U16) (x2 : Order → Order) : (State.setOrder s x1 x2).pending = s.pending := rfl
@[simp] theorem State.setOrder_late (s : State) (x1 : U16) (x2 : Order → Order) : (State.setOrder s x1 x2).late = s.late := rfl
@[simp] theorem State.setOrder_out (s : State) (x1 : U16) (x2 : Order → Order) : (State.setOrder s x1 x2).out = s.out := rfl
@[simp] theorem State.setOrder_opens (s : State) (x1 : U16) (x2 : Order → Order) : (State.setOrder s x1 x2).opens = s.opens := rfl
@[simp] theorem State.setOrder_dict (s : State) (x1 : U16) (x2 : Order → Order) : (State.setOrder s x1 x2).dict = s.dict := rfl
@[simp] theorem State.setOrder_ev (s : State) (x1 : U16) (x2 : Order → Order) : (State.setOrder s x1 x2).ev = s.ev := rfl
@[simp] theorem State.setOrder_time (s : State) (x1 : U16) (x2 : Order → Order) : (State.setOrder s x1 x2).time = s.time := rfl
@[simp] theorem State.setOrder_pwr (s : State) (x1 : U16) (x2 : Order → Order) : (State.setOrder s x1 x2).pwr = s.pwr := rfl
@[simp] theorem State.setOrder_link (s : State) (x1 : U16) (x2 : Order → Order) : (State.setOrder s x1 x2).link = s.link := rfl
@[simp] theorem State.setOrder_pair (s : State) (x1 : U16) (x2 : Order → Order) : (State.setOrder s x1 x2).pair = s.pair := rfl
@[simp] theorem State.setOrder_trust (s : State) (x1 : U16) (x2 : Order → Order) : (State.setOrder s x1 x2).trust = s.trust := rfl
@[simp] theorem State.setOrder_cas (s : State) (x1 : U16) (x2 : Order → Order) : (State.setOrder s x1 x2).cas = s.cas := rfl
@[simp] theorem State.setOrder_field (s : State) (x1 : U16) (x2 : Order → Order) : (State.setOrder s x1 x2).field = s.field := rfl
@[simp] theorem State.setOrder_acc (s : State) (x1 : U16) (x2 : Order → Order) : (State.setOrder s x1 x2).acc = s.acc := rfl
@[simp] theorem State.setOrder_arch (s : State) (x1 : U16) (x2 : Order → Order) : (State.setOrder s x1 x2).arch = s.arch := rfl
@[simp] theorem State.setOrder_bill (s : State) (x1 : U16) (x2 : Order → Order) : (State.setOrder s x1 x2).bill = s.bill := rfl
@[simp] theorem State.setOrder_weir (s : State) (x1 : U16) (x2 : Order → Order) : (State.setOrder s x1 x2).weir = s.weir := rfl
@[simp] theorem State.setOrder_upd (s : State) (x1 : U16) (x2 : Order → Order) : (State.setOrder s x1 x2).upd = s.upd := rfl
@[simp] theorem State.setMember_pending (s : State) (x1 : Nat) (x2 : Member → Member) : (State.setMember s x1 x2).pending = s.pending := rfl
@[simp] theorem State.setMember_late (s : State) (x1 : Nat) (x2 : Member → Member) : (State.setMember s x1 x2).late = s.late := rfl
@[simp] theorem State.setMember_out (s : State) (x1 : Nat) (x2 : Member → Member) : (State.setMember s x1 x2).out = s.out := rfl
@[simp] theorem State.setMember_opens (s : State) (x1 : Nat) (x2 : Member → Member) : (State.setMember s x1 x2).opens = s.opens := rfl
@[simp] theorem State.setMember_dict (s : State) (x1 : Nat) (x2 : Member → Member) : (State.setMember s x1 x2).dict = s.dict := rfl
@[simp] theorem State.setMember_ev (s : State) (x1 : Nat) (x2 : Member → Member) : (State.setMember s x1 x2).ev = s.ev := rfl
@[simp] theorem State.setMember_time (s : State) (x1 : Nat) (x2 : Member → Member) : (State.setMember s x1 x2).time = s.time := rfl
@[simp] theorem State.setMember_pwr (s : State) (x1 : Nat) (x2 : Member → Member) : (State.setMember s x1 x2).pwr = s.pwr := rfl
@[simp] theorem State.setMember_link (s : State) (x1 : Nat) (x2 : Member → Member) : (State.setMember s x1 x2).link = s.link := rfl
@[simp] theorem State.setMember_pair (s : State) (x1 : Nat) (x2 : Member → Member) : (State.setMember s x1 x2).pair = s.pair := rfl
@[simp] theorem State.setMember_trust (s : State) (x1 : Nat) (x2 : Member → Member) : (State.setMember s x1 x2).trust = s.trust := rfl
@[simp] theorem State.setMember_cas (s : State) (x1 : Nat) (x2 : Member → Member) : (State.setMember s x1 x2).cas = s.cas := rfl
@[simp] theorem State.setMember_field (s : State) (x1 : Nat) (x2 : Member → Member) : (State.setMember s x1 x2).field = s.field := rfl
@[simp] theorem State.setMember_acc (s : State) (x1 : Nat) (x2 : Member → Member) : (State.setMember s x1 x2).acc = s.acc := rfl
@[simp] theorem State.setMember_arch (s : State) (x1 : Nat) (x2 : Member → Member) : (State.setMember s x1 x2).arch = s.arch := rfl
@[simp] theorem State.setMember_bill (s : State) (x1 : Nat) (x2 : Member → Member) : (State.setMember s x1 x2).bill = s.bill := rfl
@[simp] theorem State.setMember_weir (s : State) (x1 : Nat) (x2 : Member → Member) : (State.setMember s x1 x2).weir = s.weir := rfl
@[simp] theorem State.setMember_upd (s : State) (x1 : Nat) (x2 : Member → Member) : (State.setMember s x1 x2).upd = s.upd := rfl
@[simp] theorem State.setTarget_pending (s : State) (x1 : Nat) (x2 : Nat) (x3 : Target → Target) : (State.setTarget s x1 x2 x3).pending = s.pending := rfl
@[simp] theorem State.setTarget_late (s : State) (x1 : Nat) (x2 : Nat) (x3 : Target → Target) : (State.setTarget s x1 x2 x3).late = s.late := rfl
@[simp] theorem State.setTarget_out (s : State) (x1 : Nat) (x2 : Nat) (x3 : Target → Target) : (State.setTarget s x1 x2 x3).out = s.out := rfl
@[simp] theorem State.setTarget_opens (s : State) (x1 : Nat) (x2 : Nat) (x3 : Target → Target) : (State.setTarget s x1 x2 x3).opens = s.opens := rfl
@[simp] theorem State.setTarget_dict (s : State) (x1 : Nat) (x2 : Nat) (x3 : Target → Target) : (State.setTarget s x1 x2 x3).dict = s.dict := rfl
@[simp] theorem State.setTarget_ev (s : State) (x1 : Nat) (x2 : Nat) (x3 : Target → Target) : (State.setTarget s x1 x2 x3).ev = s.ev := rfl
@[simp] theorem State.setTarget_time (s : State) (x1 : Nat) (x2 : Nat) (x3 : Target → Target) : (State.setTarget s x1 x2 x3).time = s.time := rfl
@[simp] theorem State.setTarget_pwr (s : State) (x1 : Nat) (x2 : Nat) (x3 : Target → Target) : (State.setTarget s x1 x2 x3).pwr = s.pwr := rfl
@[simp] theorem State.setTarget_link (s : State) (x1 : Nat) (x2 : Nat) (x3 : Target → Target) : (State.setTarget s x1 x2 x3).link = s.link := rfl
@[simp] theorem State.setTarget_pair (s : State) (x1 : Nat) (x2 : Nat) (x3 : Target → Target) : (State.setTarget s x1 x2 x3).pair = s.pair := rfl
@[simp] theorem State.setTarget_trust (s : State) (x1 : Nat) (x2 : Nat) (x3 : Target → Target) : (State.setTarget s x1 x2 x3).trust = s.trust := rfl
@[simp] theorem State.setTarget_cas (s : State) (x1 : Nat) (x2 : Nat) (x3 : Target → Target) : (State.setTarget s x1 x2 x3).cas = s.cas := rfl
@[simp] theorem State.setTarget_field (s : State) (x1 : Nat) (x2 : Nat) (x3 : Target → Target) : (State.setTarget s x1 x2 x3).field = s.field := rfl
@[simp] theorem State.setTarget_acc (s : State) (x1 : Nat) (x2 : Nat) (x3 : Target → Target) : (State.setTarget s x1 x2 x3).acc = s.acc := rfl
@[simp] theorem State.setTarget_arch (s : State) (x1 : Nat) (x2 : Nat) (x3 : Target → Target) : (State.setTarget s x1 x2 x3).arch = s.arch := rfl
@[simp] theorem State.setTarget_bill (s : State) (x1 : Nat) (x2 : Nat) (x3 : Target → Target) : (State.setTarget s x1 x2 x3).bill = s.bill := rfl
@[simp] theorem State.setTarget_weir (s : State) (x1 : Nat) (x2 : Nat) (x3 : Target → Target) : (State.setTarget s x1 x2 x3).weir = s.weir := rfl
@[simp] theorem State.setTarget_bal (s : State) (x1 : Nat) (x2 : Nat) (x3 : Target → Target) : (State.setTarget s x1 x2 x3).bal = s.bal := rfl
@[simp] theorem State.setPtp_pending (s : State) (x1 : Nat) (x2 : PtpPort → PtpPort) : (State.setPtp s x1 x2).pending = s.pending := rfl
@[simp] theorem State.setPtp_late (s : State) (x1 : Nat) (x2 : PtpPort → PtpPort) : (State.setPtp s x1 x2).late = s.late := rfl
@[simp] theorem State.setPtp_out (s : State) (x1 : Nat) (x2 : PtpPort → PtpPort) : (State.setPtp s x1 x2).out = s.out := rfl
@[simp] theorem State.setPtp_opens (s : State) (x1 : Nat) (x2 : PtpPort → PtpPort) : (State.setPtp s x1 x2).opens = s.opens := rfl
@[simp] theorem State.setPtp_dict (s : State) (x1 : Nat) (x2 : PtpPort → PtpPort) : (State.setPtp s x1 x2).dict = s.dict := rfl
@[simp] theorem State.setPtp_ev (s : State) (x1 : Nat) (x2 : PtpPort → PtpPort) : (State.setPtp s x1 x2).ev = s.ev := rfl
@[simp] theorem State.setPtp_pwr (s : State) (x1 : Nat) (x2 : PtpPort → PtpPort) : (State.setPtp s x1 x2).pwr = s.pwr := rfl
@[simp] theorem State.setPtp_link (s : State) (x1 : Nat) (x2 : PtpPort → PtpPort) : (State.setPtp s x1 x2).link = s.link := rfl
@[simp] theorem State.setPtp_pair (s : State) (x1 : Nat) (x2 : PtpPort → PtpPort) : (State.setPtp s x1 x2).pair = s.pair := rfl
@[simp] theorem State.setPtp_trust (s : State) (x1 : Nat) (x2 : PtpPort → PtpPort) : (State.setPtp s x1 x2).trust = s.trust := rfl
@[simp] theorem State.setPtp_cas (s : State) (x1 : Nat) (x2 : PtpPort → PtpPort) : (State.setPtp s x1 x2).cas = s.cas := rfl
@[simp] theorem State.setPtp_field (s : State) (x1 : Nat) (x2 : PtpPort → PtpPort) : (State.setPtp s x1 x2).field = s.field := rfl
@[simp] theorem State.setPtp_acc (s : State) (x1 : Nat) (x2 : PtpPort → PtpPort) : (State.setPtp s x1 x2).acc = s.acc := rfl
@[simp] theorem State.setPtp_arch (s : State) (x1 : Nat) (x2 : PtpPort → PtpPort) : (State.setPtp s x1 x2).arch = s.arch := rfl
@[simp] theorem State.setPtp_bill (s : State) (x1 : Nat) (x2 : PtpPort → PtpPort) : (State.setPtp s x1 x2).bill = s.bill := rfl
@[simp] theorem State.setPtp_weir (s : State) (x1 : Nat) (x2 : PtpPort → PtpPort) : (State.setPtp s x1 x2).weir = s.weir := rfl
@[simp] theorem State.setPtp_bal (s : State) (x1 : Nat) (x2 : PtpPort → PtpPort) : (State.setPtp s x1 x2).bal = s.bal := rfl
@[simp] theorem State.setPtp_upd (s : State) (x1 : Nat) (x2 : PtpPort → PtpPort) : (State.setPtp s x1 x2).upd = s.upd := rfl
@[simp] theorem State.bumpPort_pending (s : State) (x1 : Nat) (x2 : Nat) : (State.bumpPort s x1 x2).pending = s.pending := rfl
@[simp] theorem State.bumpPort_late (s : State) (x1 : Nat) (x2 : Nat) : (State.bumpPort s x1 x2).late = s.late := rfl
@[simp] theorem State.bumpPort_out (s : State) (x1 : Nat) (x2 : Nat) : (State.bumpPort s x1 x2).out = s.out := rfl
@[simp] theorem State.bumpPort_opens (s : State) (x1 : Nat) (x2 : Nat) : (State.bumpPort s x1 x2).opens = s.opens := rfl
@[simp] theorem State.bumpPort_dict (s : State) (x1 : Nat) (x2 : Nat) : (State.bumpPort s x1 x2).dict = s.dict := rfl
@[simp] theorem State.bumpPort_ev (s : State) (x1 : Nat) (x2 : Nat) : (State.bumpPort s x1 x2).ev = s.ev := rfl
@[simp] theorem State.bumpPort_time (s : State) (x1 : Nat) (x2 : Nat) : (State.bumpPort s x1 x2).time = s.time := rfl
@[simp] theorem State.bumpPort_pwr (s : State) (x1 : Nat) (x2 : Nat) : (State.bumpPort s x1 x2).pwr = s.pwr := rfl
@[simp] theorem State.bumpPort_link (s : State) (x1 : Nat) (x2 : Nat) : (State.bumpPort s x1 x2).link = s.link := rfl
@[simp] theorem State.bumpPort_pair (s : State) (x1 : Nat) (x2 : Nat) : (State.bumpPort s x1 x2).pair = s.pair := rfl
@[simp] theorem State.bumpPort_trust (s : State) (x1 : Nat) (x2 : Nat) : (State.bumpPort s x1 x2).trust = s.trust := rfl
@[simp] theorem State.bumpPort_cas (s : State) (x1 : Nat) (x2 : Nat) : (State.bumpPort s x1 x2).cas = s.cas := rfl
@[simp] theorem State.bumpPort_acc (s : State) (x1 : Nat) (x2 : Nat) : (State.bumpPort s x1 x2).acc = s.acc := rfl
@[simp] theorem State.bumpPort_arch (s : State) (x1 : Nat) (x2 : Nat) : (State.bumpPort s x1 x2).arch = s.arch := rfl
@[simp] theorem State.bumpPort_bill (s : State) (x1 : Nat) (x2 : Nat) : (State.bumpPort s x1 x2).bill = s.bill := rfl
@[simp] theorem State.bumpPort_weir (s : State) (x1 : Nat) (x2 : Nat) : (State.bumpPort s x1 x2).weir = s.weir := rfl
@[simp] theorem State.bumpPort_bal (s : State) (x1 : Nat) (x2 : Nat) : (State.bumpPort s x1 x2).bal = s.bal := rfl
@[simp] theorem State.bumpPort_upd (s : State) (x1 : Nat) (x2 : Nat) : (State.bumpPort s x1 x2).upd = s.upd := rfl
@[simp] theorem State.bumpAcc_pending (s : State) (x1 : Nat) : (State.bumpAcc s x1).pending = s.pending := rfl
@[simp] theorem State.bumpAcc_late (s : State) (x1 : Nat) : (State.bumpAcc s x1).late = s.late := rfl
@[simp] theorem State.bumpAcc_out (s : State) (x1 : Nat) : (State.bumpAcc s x1).out = s.out := rfl
@[simp] theorem State.bumpAcc_opens (s : State) (x1 : Nat) : (State.bumpAcc s x1).opens = s.opens := rfl
@[simp] theorem State.bumpAcc_dict (s : State) (x1 : Nat) : (State.bumpAcc s x1).dict = s.dict := rfl
@[simp] theorem State.bumpAcc_ev (s : State) (x1 : Nat) : (State.bumpAcc s x1).ev = s.ev := rfl
@[simp] theorem State.bumpAcc_time (s : State) (x1 : Nat) : (State.bumpAcc s x1).time = s.time := rfl
@[simp] theorem State.bumpAcc_pwr (s : State) (x1 : Nat) : (State.bumpAcc s x1).pwr = s.pwr := rfl
@[simp] theorem State.bumpAcc_link (s : State) (x1 : Nat) : (State.bumpAcc s x1).link = s.link := rfl
@[simp] theorem State.bumpAcc_pair (s : State) (x1 : Nat) : (State.bumpAcc s x1).pair = s.pair := rfl
@[simp] theorem State.bumpAcc_trust (s : State) (x1 : Nat) : (State.bumpAcc s x1).trust = s.trust := rfl
@[simp] theorem State.bumpAcc_cas (s : State) (x1 : Nat) : (State.bumpAcc s x1).cas = s.cas := rfl
@[simp] theorem State.bumpAcc_field (s : State) (x1 : Nat) : (State.bumpAcc s x1).field = s.field := rfl
@[simp] theorem State.bumpAcc_arch (s : State) (x1 : Nat) : (State.bumpAcc s x1).arch = s.arch := rfl
@[simp] theorem State.bumpAcc_bill (s : State) (x1 : Nat) : (State.bumpAcc s x1).bill = s.bill := rfl
@[simp] theorem State.bumpAcc_weir (s : State) (x1 : Nat) : (State.bumpAcc s x1).weir = s.weir := rfl
@[simp] theorem State.bumpAcc_bal (s : State) (x1 : Nat) : (State.bumpAcc s x1).bal = s.bal := rfl
@[simp] theorem State.bumpAcc_upd (s : State) (x1 : Nat) : (State.bumpAcc s x1).upd = s.upd := rfl
@[simp] theorem State.take_pending (s : State) (x1 : Nat) (x2 : Nat) (x3 : Nat) (x4 : Bool) : (State.take s x1 x2 x3 x4).pending = s.pending := rfl
@[simp] theorem State.take_late (s : State) (x1 : Nat) (x2 : Nat) (x3 : Nat) (x4 : Bool) : (State.take s x1 x2 x3 x4).late = s.late := rfl
@[simp] theorem State.take_out (s : State) (x1 : Nat) (x2 : Nat) (x3 : Nat) (x4 : Bool) : (State.take s x1 x2 x3 x4).out = s.out := rfl
@[simp] theorem State.take_opens (s : State) (x1 : Nat) (x2 : Nat) (x3 : Nat) (x4 : Bool) : (State.take s x1 x2 x3 x4).opens = s.opens := rfl
@[simp] theorem State.take_dict (s : State) (x1 : Nat) (x2 : Nat) (x3 : Nat) (x4 : Bool) : (State.take s x1 x2 x3 x4).dict = s.dict := rfl
@[simp] theorem State.take_ev (s : State) (x1 : Nat) (x2 : Nat) (x3 : Nat) (x4 : Bool) : (State.take s x1 x2 x3 x4).ev = s.ev := rfl
@[simp] theorem State.take_time (s : State) (x1 : Nat) (x2 : Nat) (x3 : Nat) (x4 : Bool) : (State.take s x1 x2 x3 x4).time = s.time := rfl
@[simp] theorem State.take_pwr (s : State) (x1 : Nat) (x2 : Nat) (x3 : Nat) (x4 : Bool) : (State.take s x1 x2 x3 x4).pwr = s.pwr := rfl
@[simp] theorem State.take_link (s : State) (x1 : Nat) (x2 : Nat) (x3 : Nat) (x4 : Bool) : (State.take s x1 x2 x3 x4).link = s.link := rfl
@[simp] theorem State.take_pair (s : State) (x1 : Nat) (x2 : Nat) (x3 : Nat) (x4 : Bool) : (State.take s x1 x2 x3 x4).pair = s.pair := rfl
@[simp] theorem State.take_trust (s : State) (x1 : Nat) (x2 : Nat) (x3 : Nat) (x4 : Bool) : (State.take s x1 x2 x3 x4).trust = s.trust := rfl
@[simp] theorem State.take_field (s : State) (x1 : Nat) (x2 : Nat) (x3 : Nat) (x4 : Bool) : (State.take s x1 x2 x3 x4).field = s.field := rfl
@[simp] theorem State.take_acc (s : State) (x1 : Nat) (x2 : Nat) (x3 : Nat) (x4 : Bool) : (State.take s x1 x2 x3 x4).acc = s.acc := rfl
@[simp] theorem State.take_arch (s : State) (x1 : Nat) (x2 : Nat) (x3 : Nat) (x4 : Bool) : (State.take s x1 x2 x3 x4).arch = s.arch := rfl
@[simp] theorem State.take_bill (s : State) (x1 : Nat) (x2 : Nat) (x3 : Nat) (x4 : Bool) : (State.take s x1 x2 x3 x4).bill = s.bill := rfl
@[simp] theorem State.take_weir (s : State) (x1 : Nat) (x2 : Nat) (x3 : Nat) (x4 : Bool) : (State.take s x1 x2 x3 x4).weir = s.weir := rfl
@[simp] theorem State.take_bal (s : State) (x1 : Nat) (x2 : Nat) (x3 : Nat) (x4 : Bool) : (State.take s x1 x2 x3 x4).bal = s.bal := rfl
@[simp] theorem State.take_upd (s : State) (x1 : Nat) (x2 : Nat) (x3 : Nat) (x4 : Bool) : (State.take s x1 x2 x3 x4).upd = s.upd := rfl
@[simp] theorem State.reachPhase_pending (s : State) (x1 : Nat) : (State.reachPhase s x1).pending = s.pending := rfl
@[simp] theorem State.reachPhase_late (s : State) (x1 : Nat) : (State.reachPhase s x1).late = s.late := rfl
@[simp] theorem State.reachPhase_out (s : State) (x1 : Nat) : (State.reachPhase s x1).out = s.out := rfl
@[simp] theorem State.reachPhase_opens (s : State) (x1 : Nat) : (State.reachPhase s x1).opens = s.opens := rfl
@[simp] theorem State.reachPhase_dict (s : State) (x1 : Nat) : (State.reachPhase s x1).dict = s.dict := rfl
@[simp] theorem State.reachPhase_ev (s : State) (x1 : Nat) : (State.reachPhase s x1).ev = s.ev := rfl
@[simp] theorem State.reachPhase_time (s : State) (x1 : Nat) : (State.reachPhase s x1).time = s.time := rfl
@[simp] theorem State.reachPhase_link (s : State) (x1 : Nat) : (State.reachPhase s x1).link = s.link := rfl
@[simp] theorem State.reachPhase_pair (s : State) (x1 : Nat) : (State.reachPhase s x1).pair = s.pair := rfl
@[simp] theorem State.reachPhase_trust (s : State) (x1 : Nat) : (State.reachPhase s x1).trust = s.trust := rfl
@[simp] theorem State.reachPhase_cas (s : State) (x1 : Nat) : (State.reachPhase s x1).cas = s.cas := rfl
@[simp] theorem State.reachPhase_field (s : State) (x1 : Nat) : (State.reachPhase s x1).field = s.field := rfl
@[simp] theorem State.reachPhase_acc (s : State) (x1 : Nat) : (State.reachPhase s x1).acc = s.acc := rfl
@[simp] theorem State.reachPhase_arch (s : State) (x1 : Nat) : (State.reachPhase s x1).arch = s.arch := rfl
@[simp] theorem State.reachPhase_bill (s : State) (x1 : Nat) : (State.reachPhase s x1).bill = s.bill := rfl
@[simp] theorem State.reachPhase_weir (s : State) (x1 : Nat) : (State.reachPhase s x1).weir = s.weir := rfl
@[simp] theorem State.reachPhase_bal (s : State) (x1 : Nat) : (State.reachPhase s x1).bal = s.bal := rfl
@[simp] theorem State.reachPhase_upd (s : State) (x1 : Nat) : (State.reachPhase s x1).upd = s.upd := rfl
@[simp] theorem State.showItem_pending (s : State) (x1 : Nat) : (State.showItem s x1).pending = s.pending := rfl
@[simp] theorem State.showItem_late (s : State) (x1 : Nat) : (State.showItem s x1).late = s.late := rfl
@[simp] theorem State.showItem_out (s : State) (x1 : Nat) : (State.showItem s x1).out = s.out := rfl
@[simp] theorem State.showItem_opens (s : State) (x1 : Nat) : (State.showItem s x1).opens = s.opens := rfl
@[simp] theorem State.showItem_dict (s : State) (x1 : Nat) : (State.showItem s x1).dict = s.dict := rfl
@[simp] theorem State.showItem_ev (s : State) (x1 : Nat) : (State.showItem s x1).ev = s.ev := rfl
@[simp] theorem State.showItem_time (s : State) (x1 : Nat) : (State.showItem s x1).time = s.time := rfl
@[simp] theorem State.showItem_pwr (s : State) (x1 : Nat) : (State.showItem s x1).pwr = s.pwr := rfl
@[simp] theorem State.showItem_link (s : State) (x1 : Nat) : (State.showItem s x1).link = s.link := rfl
@[simp] theorem State.showItem_pair (s : State) (x1 : Nat) : (State.showItem s x1).pair = s.pair := rfl
@[simp] theorem State.showItem_trust (s : State) (x1 : Nat) : (State.showItem s x1).trust = s.trust := rfl
@[simp] theorem State.showItem_cas (s : State) (x1 : Nat) : (State.showItem s x1).cas = s.cas := rfl
@[simp] theorem State.showItem_field (s : State) (x1 : Nat) : (State.showItem s x1).field = s.field := rfl
@[simp] theorem State.showItem_acc (s : State) (x1 : Nat) : (State.showItem s x1).acc = s.acc := rfl
@[simp] theorem State.showItem_arch (s : State) (x1 : Nat) : (State.showItem s x1).arch = s.arch := rfl
@[simp] theorem State.showItem_weir (s : State) (x1 : Nat) : (State.showItem s x1).weir = s.weir := rfl
@[simp] theorem State.showItem_bal (s : State) (x1 : Nat) : (State.showItem s x1).bal = s.bal := rfl
@[simp] theorem State.showItem_upd (s : State) (x1 : Nat) : (State.showItem s x1).upd = s.upd := rfl

end Sys2Proof.Machine
end

