-- ==== Sys2Proof/Laws/Ops.lean ====
section
/-! SUPPORT. What the shared operations leave as it is: charging an account, raising an event, mirroring, answering. -/

namespace Sys2Proof.Machine

@[simp] theorem State.setPartner_pending (s : State) (x1 : Nat) (x2 : Partner → Partner) : (State.setPartner s x1 x2).pending = s.pending := by unfold State.setPartner; split <;> rfl
@[simp] theorem State.setPartner_late (s : State) (x1 : Nat) (x2 : Partner → Partner) : (State.setPartner s x1 x2).late = s.late := by unfold State.setPartner; split <;> rfl
@[simp] theorem State.setPartner_out (s : State) (x1 : Nat) (x2 : Partner → Partner) : (State.setPartner s x1 x2).out = s.out := by unfold State.setPartner; split <;> rfl
@[simp] theorem State.setPartner_opens (s : State) (x1 : Nat) (x2 : Partner → Partner) : (State.setPartner s x1 x2).opens = s.opens := by unfold State.setPartner; split <;> rfl
@[simp] theorem State.setPartner_dict (s : State) (x1 : Nat) (x2 : Partner → Partner) : (State.setPartner s x1 x2).dict = s.dict := by unfold State.setPartner; split <;> rfl
@[simp] theorem State.setPartner_ev (s : State) (x1 : Nat) (x2 : Partner → Partner) : (State.setPartner s x1 x2).ev = s.ev := by unfold State.setPartner; split <;> rfl
@[simp] theorem State.setPartner_time (s : State) (x1 : Nat) (x2 : Partner → Partner) : (State.setPartner s x1 x2).time = s.time := by unfold State.setPartner; split <;> rfl
@[simp] theorem State.setPartner_pwr (s : State) (x1 : Nat) (x2 : Partner → Partner) : (State.setPartner s x1 x2).pwr = s.pwr := by unfold State.setPartner; split <;> rfl
@[simp] theorem State.setPartner_link (s : State) (x1 : Nat) (x2 : Partner → Partner) : (State.setPartner s x1 x2).link = s.link := by unfold State.setPartner; split <;> rfl
@[simp] theorem State.setPartner_pair (s : State) (x1 : Nat) (x2 : Partner → Partner) : (State.setPartner s x1 x2).pair = s.pair := by unfold State.setPartner; split <;> rfl
@[simp] theorem State.setPartner_trust (s : State) (x1 : Nat) (x2 : Partner → Partner) : (State.setPartner s x1 x2).trust = s.trust := by unfold State.setPartner; split <;> rfl
@[simp] theorem State.setPartner_cas (s : State) (x1 : Nat) (x2 : Partner → Partner) : (State.setPartner s x1 x2).cas = s.cas := by unfold State.setPartner; split <;> rfl
@[simp] theorem State.setPartner_acc (s : State) (x1 : Nat) (x2 : Partner → Partner) : (State.setPartner s x1 x2).acc = s.acc := by unfold State.setPartner; split <;> rfl
@[simp] theorem State.setPartner_arch (s : State) (x1 : Nat) (x2 : Partner → Partner) : (State.setPartner s x1 x2).arch = s.arch := by unfold State.setPartner; split <;> rfl
@[simp] theorem State.setPartner_bill (s : State) (x1 : Nat) (x2 : Partner → Partner) : (State.setPartner s x1 x2).bill = s.bill := by unfold State.setPartner; split <;> rfl
@[simp] theorem State.setPartner_weir (s : State) (x1 : Nat) (x2 : Partner → Partner) : (State.setPartner s x1 x2).weir = s.weir := by unfold State.setPartner; split <;> rfl
@[simp] theorem State.setPartner_bal (s : State) (x1 : Nat) (x2 : Partner → Partner) : (State.setPartner s x1 x2).bal = s.bal := by unfold State.setPartner; split <;> rfl
@[simp] theorem State.setPartner_upd (s : State) (x1 : Nat) (x2 : Partner → Partner) : (State.setPartner s x1 x2).upd = s.upd := by unfold State.setPartner; split <;> rfl
@[simp] theorem State.setCtx_pending (s : State) (x1 : Nat) (x2 : Ctx → Ctx) : (State.setCtx s x1 x2).pending = s.pending := by unfold State.setCtx; split <;> rfl
@[simp] theorem State.setCtx_late (s : State) (x1 : Nat) (x2 : Ctx → Ctx) : (State.setCtx s x1 x2).late = s.late := by unfold State.setCtx; split <;> rfl
@[simp] theorem State.setCtx_out (s : State) (x1 : Nat) (x2 : Ctx → Ctx) : (State.setCtx s x1 x2).out = s.out := by unfold State.setCtx; split <;> rfl
@[simp] theorem State.setCtx_opens (s : State) (x1 : Nat) (x2 : Ctx → Ctx) : (State.setCtx s x1 x2).opens = s.opens := by unfold State.setCtx; split <;> rfl
@[simp] theorem State.setCtx_dict (s : State) (x1 : Nat) (x2 : Ctx → Ctx) : (State.setCtx s x1 x2).dict = s.dict := by unfold State.setCtx; split <;> rfl
@[simp] theorem State.setCtx_ev (s : State) (x1 : Nat) (x2 : Ctx → Ctx) : (State.setCtx s x1 x2).ev = s.ev := by unfold State.setCtx; split <;> rfl
@[simp] theorem State.setCtx_time (s : State) (x1 : Nat) (x2 : Ctx → Ctx) : (State.setCtx s x1 x2).time = s.time := by unfold State.setCtx; split <;> rfl
@[simp] theorem State.setCtx_pwr (s : State) (x1 : Nat) (x2 : Ctx → Ctx) : (State.setCtx s x1 x2).pwr = s.pwr := by unfold State.setCtx; split <;> rfl
@[simp] theorem State.setCtx_link (s : State) (x1 : Nat) (x2 : Ctx → Ctx) : (State.setCtx s x1 x2).link = s.link := by unfold State.setCtx; split <;> rfl
@[simp] theorem State.setCtx_pair (s : State) (x1 : Nat) (x2 : Ctx → Ctx) : (State.setCtx s x1 x2).pair = s.pair := by unfold State.setCtx; split <;> rfl
@[simp] theorem State.setCtx_trust (s : State) (x1 : Nat) (x2 : Ctx → Ctx) : (State.setCtx s x1 x2).trust = s.trust := by unfold State.setCtx; split <;> rfl
@[simp] theorem State.setCtx_cas (s : State) (x1 : Nat) (x2 : Ctx → Ctx) : (State.setCtx s x1 x2).cas = s.cas := by unfold State.setCtx; split <;> rfl
@[simp] theorem State.setCtx_field (s : State) (x1 : Nat) (x2 : Ctx → Ctx) : (State.setCtx s x1 x2).field = s.field := by unfold State.setCtx; split <;> rfl
@[simp] theorem State.setCtx_arch (s : State) (x1 : Nat) (x2 : Ctx → Ctx) : (State.setCtx s x1 x2).arch = s.arch := by unfold State.setCtx; split <;> rfl
@[simp] theorem State.setCtx_bill (s : State) (x1 : Nat) (x2 : Ctx → Ctx) : (State.setCtx s x1 x2).bill = s.bill := by unfold State.setCtx; split <;> rfl
@[simp] theorem State.setCtx_weir (s : State) (x1 : Nat) (x2 : Ctx → Ctx) : (State.setCtx s x1 x2).weir = s.weir := by unfold State.setCtx; split <;> rfl
@[simp] theorem State.setCtx_bal (s : State) (x1 : Nat) (x2 : Ctx → Ctx) : (State.setCtx s x1 x2).bal = s.bal := by unfold State.setCtx; split <;> rfl
@[simp] theorem State.setCtx_upd (s : State) (x1 : Nat) (x2 : Ctx → Ctx) : (State.setCtx s x1 x2).upd = s.upd := by unfold State.setCtx; split <;> rfl
@[simp] theorem State.charge_pending (s : State) (x1 : Nat) (x2 : Nat) (x3 : Nat) : (State.charge s x1 x2 x3).pending = s.pending := by unfold State.charge; split <;> rfl
@[simp] theorem State.charge_late (s : State) (x1 : Nat) (x2 : Nat) (x3 : Nat) : (State.charge s x1 x2 x3).late = s.late := by unfold State.charge; split <;> rfl
@[simp] theorem State.charge_out (s : State) (x1 : Nat) (x2 : Nat) (x3 : Nat) : (State.charge s x1 x2 x3).out = s.out := by unfold State.charge; split <;> rfl
@[simp] theorem State.charge_opens (s : State) (x1 : Nat) (x2 : Nat) (x3 : Nat) : (State.charge s x1 x2 x3).opens = s.opens := by unfold State.charge; split <;> rfl
@[simp] theorem State.charge_dict (s : State) (x1 : Nat) (x2 : Nat) (x3 : Nat) : (State.charge s x1 x2 x3).dict = s.dict := by unfold State.charge; split <;> rfl
@[simp] theorem State.charge_ev (s : State) (x1 : Nat) (x2 : Nat) (x3 : Nat) : (State.charge s x1 x2 x3).ev = s.ev := by unfold State.charge; split <;> rfl
@[simp] theorem State.charge_time (s : State) (x1 : Nat) (x2 : Nat) (x3 : Nat) : (State.charge s x1 x2 x3).time = s.time := by unfold State.charge; split <;> rfl
@[simp] theorem State.charge_pwr (s : State) (x1 : Nat) (x2 : Nat) (x3 : Nat) : (State.charge s x1 x2 x3).pwr = s.pwr := by unfold State.charge; split <;> rfl
@[simp] theorem State.charge_link (s : State) (x1 : Nat) (x2 : Nat) (x3 : Nat) : (State.charge s x1 x2 x3).link = s.link := by unfold State.charge; split <;> rfl
@[simp] theorem State.charge_pair (s : State) (x1 : Nat) (x2 : Nat) (x3 : Nat) : (State.charge s x1 x2 x3).pair = s.pair := by unfold State.charge; split <;> rfl
@[simp] theorem State.charge_trust (s : State) (x1 : Nat) (x2 : Nat) (x3 : Nat) : (State.charge s x1 x2 x3).trust = s.trust := by unfold State.charge; split <;> rfl
@[simp] theorem State.charge_field (s : State) (x1 : Nat) (x2 : Nat) (x3 : Nat) : (State.charge s x1 x2 x3).field = s.field := by unfold State.charge; split <;> rfl
@[simp] theorem State.charge_acc (s : State) (x1 : Nat) (x2 : Nat) (x3 : Nat) : (State.charge s x1 x2 x3).acc = s.acc := by unfold State.charge; split <;> rfl
@[simp] theorem State.charge_arch (s : State) (x1 : Nat) (x2 : Nat) (x3 : Nat) : (State.charge s x1 x2 x3).arch = s.arch := by unfold State.charge; split <;> rfl
@[simp] theorem State.charge_bill (s : State) (x1 : Nat) (x2 : Nat) (x3 : Nat) : (State.charge s x1 x2 x3).bill = s.bill := by unfold State.charge; split <;> rfl
@[simp] theorem State.charge_weir (s : State) (x1 : Nat) (x2 : Nat) (x3 : Nat) : (State.charge s x1 x2 x3).weir = s.weir := by unfold State.charge; split <;> rfl
@[simp] theorem State.charge_bal (s : State) (x1 : Nat) (x2 : Nat) (x3 : Nat) : (State.charge s x1 x2 x3).bal = s.bal := by unfold State.charge; split <;> rfl
@[simp] theorem State.charge_upd (s : State) (x1 : Nat) (x2 : Nat) (x3 : Nat) : (State.charge s x1 x2 x3).upd = s.upd := by unfold State.charge; split <;> rfl
@[simp] theorem State.raise_pending (s : State) (x1 : Nat) (x2 : Int) : (State.raise s x1 x2).pending = s.pending := by simp [State.raise]
@[simp] theorem State.raise_late (s : State) (x1 : Nat) (x2 : Int) : (State.raise s x1 x2).late = s.late := by simp [State.raise]
@[simp] theorem State.raise_out (s : State) (x1 : Nat) (x2 : Int) : (State.raise s x1 x2).out = s.out := by simp [State.raise]
@[simp] theorem State.raise_opens (s : State) (x1 : Nat) (x2 : Int) : (State.raise s x1 x2).opens = s.opens := by simp [State.raise]
@[simp] theorem State.raise_dict (s : State) (x1 : Nat) (x2 : Int) : (State.raise s x1 x2).dict = s.dict := by simp [State.raise]
@[simp] theorem State.raise_time (s : State) (x1 : Nat) (x2 : Int) : (State.raise s x1 x2).time = s.time := by simp [State.raise]
@[simp] theorem State.raise_pwr (s : State) (x1 : Nat) (x2 : Int) : (State.raise s x1 x2).pwr = s.pwr := by simp [State.raise]
@[simp] theorem State.raise_link (s : State) (x1 : Nat) (x2 : Int) : (State.raise s x1 x2).link = s.link := by simp [State.raise]
@[simp] theorem State.raise_pair (s : State) (x1 : Nat) (x2 : Int) : (State.raise s x1 x2).pair = s.pair := by simp [State.raise]
@[simp] theorem State.raise_trust (s : State) (x1 : Nat) (x2 : Int) : (State.raise s x1 x2).trust = s.trust := by simp [State.raise]
@[simp] theorem State.raise_field (s : State) (x1 : Nat) (x2 : Int) : (State.raise s x1 x2).field = s.field := by simp [State.raise]
@[simp] theorem State.raise_acc (s : State) (x1 : Nat) (x2 : Int) : (State.raise s x1 x2).acc = s.acc := by simp [State.raise]
@[simp] theorem State.raise_arch (s : State) (x1 : Nat) (x2 : Int) : (State.raise s x1 x2).arch = s.arch := by simp [State.raise]
@[simp] theorem State.raise_bill (s : State) (x1 : Nat) (x2 : Int) : (State.raise s x1 x2).bill = s.bill := by simp [State.raise]
@[simp] theorem State.raise_weir (s : State) (x1 : Nat) (x2 : Int) : (State.raise s x1 x2).weir = s.weir := by simp [State.raise]
@[simp] theorem State.raise_bal (s : State) (x1 : Nat) (x2 : Int) : (State.raise s x1 x2).bal = s.bal := by simp [State.raise]
@[simp] theorem State.raise_upd (s : State) (x1 : Nat) (x2 : Int) : (State.raise s x1 x2).upd = s.upd := by simp [State.raise]
@[simp] theorem State.mirror_pending (s : State) (x1 : MirrorKind) (x2 : Nat) (x3 : Bytes) : (State.mirror s x1 x2 x3).pending = s.pending := by unfold State.mirror; split <;> rfl
@[simp] theorem State.mirror_late (s : State) (x1 : MirrorKind) (x2 : Nat) (x3 : Bytes) : (State.mirror s x1 x2 x3).late = s.late := by unfold State.mirror; split <;> rfl
@[simp] theorem State.mirror_opens (s : State) (x1 : MirrorKind) (x2 : Nat) (x3 : Bytes) : (State.mirror s x1 x2 x3).opens = s.opens := by unfold State.mirror; split <;> rfl
@[simp] theorem State.mirror_dict (s : State) (x1 : MirrorKind) (x2 : Nat) (x3 : Bytes) : (State.mirror s x1 x2 x3).dict = s.dict := by unfold State.mirror; split <;> rfl
@[simp] theorem State.mirror_ev (s : State) (x1 : MirrorKind) (x2 : Nat) (x3 : Bytes) : (State.mirror s x1 x2 x3).ev = s.ev := by unfold State.mirror; split <;> rfl
@[simp] theorem State.mirror_time (s : State) (x1 : MirrorKind) (x2 : Nat) (x3 : Bytes) : (State.mirror s x1 x2 x3).time = s.time := by unfold State.mirror; split <;> rfl
@[simp] theorem State.mirror_pwr (s : State) (x1 : MirrorKind) (x2 : Nat) (x3 : Bytes) : (State.mirror s x1 x2 x3).pwr = s.pwr := by unfold State.mirror; split <;> rfl
@[simp] theorem State.mirror_link (s : State) (x1 : MirrorKind) (x2 : Nat) (x3 : Bytes) : (State.mirror s x1 x2 x3).link = s.link := by unfold State.mirror; split <;> rfl
@[simp] theorem State.mirror_trust (s : State) (x1 : MirrorKind) (x2 : Nat) (x3 : Bytes) : (State.mirror s x1 x2 x3).trust = s.trust := by unfold State.mirror; split <;> rfl
@[simp] theorem State.mirror_cas (s : State) (x1 : MirrorKind) (x2 : Nat) (x3 : Bytes) : (State.mirror s x1 x2 x3).cas = s.cas := by unfold State.mirror; split <;> rfl
@[simp] theorem State.mirror_field (s : State) (x1 : MirrorKind) (x2 : Nat) (x3 : Bytes) : (State.mirror s x1 x2 x3).field = s.field := by unfold State.mirror; split <;> rfl
@[simp] theorem State.mirror_acc (s : State) (x1 : MirrorKind) (x2 : Nat) (x3 : Bytes) : (State.mirror s x1 x2 x3).acc = s.acc := by unfold State.mirror; split <;> rfl
@[simp] theorem State.mirror_arch (s : State) (x1 : MirrorKind) (x2 : Nat) (x3 : Bytes) : (State.mirror s x1 x2 x3).arch = s.arch := by unfold State.mirror; split <;> rfl
@[simp] theorem State.mirror_bill (s : State) (x1 : MirrorKind) (x2 : Nat) (x3 : Bytes) : (State.mirror s x1 x2 x3).bill = s.bill := by unfold State.mirror; split <;> rfl
@[simp] theorem State.mirror_weir (s : State) (x1 : MirrorKind) (x2 : Nat) (x3 : Bytes) : (State.mirror s x1 x2 x3).weir = s.weir := by unfold State.mirror; split <;> rfl
@[simp] theorem State.mirror_bal (s : State) (x1 : MirrorKind) (x2 : Nat) (x3 : Bytes) : (State.mirror s x1 x2 x3).bal = s.bal := by unfold State.mirror; split <;> rfl
@[simp] theorem State.mirror_upd (s : State) (x1 : MirrorKind) (x2 : Nat) (x3 : Bytes) : (State.mirror s x1 x2 x3).upd = s.upd := by unfold State.mirror; split <;> rfl
@[simp] theorem State.sendPair_pending (s : State) (x1 : MirrorKind) (x2 : Nat) (x3 : Bytes) : (State.sendPair s x1 x2 x3).pending = s.pending := rfl
@[simp] theorem State.sendPair_late (s : State) (x1 : MirrorKind) (x2 : Nat) (x3 : Bytes) : (State.sendPair s x1 x2 x3).late = s.late := rfl
@[simp] theorem State.sendPair_opens (s : State) (x1 : MirrorKind) (x2 : Nat) (x3 : Bytes) : (State.sendPair s x1 x2 x3).opens = s.opens := rfl
@[simp] theorem State.sendPair_dict (s : State) (x1 : MirrorKind) (x2 : Nat) (x3 : Bytes) : (State.sendPair s x1 x2 x3).dict = s.dict := rfl
@[simp] theorem State.sendPair_ev (s : State) (x1 : MirrorKind) (x2 : Nat) (x3 : Bytes) : (State.sendPair s x1 x2 x3).ev = s.ev := rfl
@[simp] theorem State.sendPair_time (s : State) (x1 : MirrorKind) (x2 : Nat) (x3 : Bytes) : (State.sendPair s x1 x2 x3).time = s.time := rfl
@[simp] theorem State.sendPair_pwr (s : State) (x1 : MirrorKind) (x2 : Nat) (x3 : Bytes) : (State.sendPair s x1 x2 x3).pwr = s.pwr := rfl
@[simp] theorem State.sendPair_link (s : State) (x1 : MirrorKind) (x2 : Nat) (x3 : Bytes) : (State.sendPair s x1 x2 x3).link = s.link := rfl
@[simp] theorem State.sendPair_trust (s : State) (x1 : MirrorKind) (x2 : Nat) (x3 : Bytes) : (State.sendPair s x1 x2 x3).trust = s.trust := rfl
@[simp] theorem State.sendPair_cas (s : State) (x1 : MirrorKind) (x2 : Nat) (x3 : Bytes) : (State.sendPair s x1 x2 x3).cas = s.cas := rfl
@[simp] theorem State.sendPair_field (s : State) (x1 : MirrorKind) (x2 : Nat) (x3 : Bytes) : (State.sendPair s x1 x2 x3).field = s.field := rfl
@[simp] theorem State.sendPair_acc (s : State) (x1 : MirrorKind) (x2 : Nat) (x3 : Bytes) : (State.sendPair s x1 x2 x3).acc = s.acc := rfl
@[simp] theorem State.sendPair_arch (s : State) (x1 : MirrorKind) (x2 : Nat) (x3 : Bytes) : (State.sendPair s x1 x2 x3).arch = s.arch := rfl
@[simp] theorem State.sendPair_bill (s : State) (x1 : MirrorKind) (x2 : Nat) (x3 : Bytes) : (State.sendPair s x1 x2 x3).bill = s.bill := rfl
@[simp] theorem State.sendPair_weir (s : State) (x1 : MirrorKind) (x2 : Nat) (x3 : Bytes) : (State.sendPair s x1 x2 x3).weir = s.weir := rfl
@[simp] theorem State.sendPair_bal (s : State) (x1 : MirrorKind) (x2 : Nat) (x3 : Bytes) : (State.sendPair s x1 x2 x3).bal = s.bal := rfl
@[simp] theorem State.sendPair_upd (s : State) (x1 : MirrorKind) (x2 : Nat) (x3 : Bytes) : (State.sendPair s x1 x2 x3).upd = s.upd := rfl
@[simp] theorem State.respondNow_pending (s : State) (x1 : Req) (x2 : Answer) : (State.respondNow s x1 x2).pending = s.pending := by unfold State.respondNow; (repeat' split) <;> rfl
@[simp] theorem State.respondNow_opens (s : State) (x1 : Req) (x2 : Answer) : (State.respondNow s x1 x2).opens = s.opens := by unfold State.respondNow; (repeat' split) <;> rfl
@[simp] theorem State.respondNow_late (s : State) (x1 : Req) (x2 : Answer) : (State.respondNow s x1 x2).late = s.late := by unfold State.respondNow; (repeat' split) <;> rfl
@[simp] theorem State.respondNow_dict (s : State) (x1 : Req) (x2 : Answer) : (State.respondNow s x1 x2).dict = s.dict := by unfold State.respondNow; (repeat' split) <;> rfl
@[simp] theorem State.respondNow_ev (s : State) (x1 : Req) (x2 : Answer) : (State.respondNow s x1 x2).ev = s.ev := by unfold State.respondNow; (repeat' split) <;> rfl
@[simp] theorem State.respondNow_time (s : State) (x1 : Req) (x2 : Answer) : (State.respondNow s x1 x2).time = s.time := by unfold State.respondNow; (repeat' split) <;> rfl
@[simp] theorem State.respondNow_pwr (s : State) (x1 : Req) (x2 : Answer) : (State.respondNow s x1 x2).pwr = s.pwr := by unfold State.respondNow; (repeat' split) <;> rfl
@[simp] theorem State.respondNow_pair (s : State) (x1 : Req) (x2 : Answer) : (State.respondNow s x1 x2).pair = s.pair := by unfold State.respondNow; (repeat' split) <;> rfl
@[simp] theorem State.respondNow_trust (s : State) (x1 : Req) (x2 : Answer) : (State.respondNow s x1 x2).trust = s.trust := by unfold State.respondNow; (repeat' split) <;> rfl
@[simp] theorem State.respondNow_cas (s : State) (x1 : Req) (x2 : Answer) : (State.respondNow s x1 x2).cas = s.cas := by unfold State.respondNow; (repeat' split) <;> rfl
@[simp] theorem State.respondNow_field (s : State) (x1 : Req) (x2 : Answer) : (State.respondNow s x1 x2).field = s.field := by unfold State.respondNow; (repeat' split) <;> rfl
@[simp] theorem State.respondNow_acc (s : State) (x1 : Req) (x2 : Answer) : (State.respondNow s x1 x2).acc = s.acc := by unfold State.respondNow; (repeat' split) <;> rfl
@[simp] theorem State.respondNow_arch (s : State) (x1 : Req) (x2 : Answer) : (State.respondNow s x1 x2).arch = s.arch := by unfold State.respondNow; (repeat' split) <;> rfl
@[simp] theorem State.respondNow_bill (s : State) (x1 : Req) (x2 : Answer) : (State.respondNow s x1 x2).bill = s.bill := by unfold State.respondNow; (repeat' split) <;> rfl
@[simp] theorem State.respondNow_weir (s : State) (x1 : Req) (x2 : Answer) : (State.respondNow s x1 x2).weir = s.weir := by unfold State.respondNow; (repeat' split) <;> rfl
@[simp] theorem State.respondNow_bal (s : State) (x1 : Req) (x2 : Answer) : (State.respondNow s x1 x2).bal = s.bal := by unfold State.respondNow; (repeat' split) <;> rfl
@[simp] theorem State.respondNow_upd (s : State) (x1 : Req) (x2 : Answer) : (State.respondNow s x1 x2).upd = s.upd := by unfold State.respondNow; (repeat' split) <;> rfl
@[simp] theorem State.chargeOpen_pending (s : State) (x1 : Nat) (x2 : Nat) (x3 : Nat) : (State.chargeOpen s x1 x2 x3).pending = s.pending := by simp [State.chargeOpen, State.openVal]
@[simp] theorem State.chargeOpen_out (s : State) (x1 : Nat) (x2 : Nat) (x3 : Nat) : (State.chargeOpen s x1 x2 x3).out = s.out := by simp [State.chargeOpen, State.openVal]
@[simp] theorem State.chargeOpen_late (s : State) (x1 : Nat) (x2 : Nat) (x3 : Nat) : (State.chargeOpen s x1 x2 x3).late = s.late := by simp [State.chargeOpen, State.openVal]
@[simp] theorem State.chargeOpen_dict (s : State) (x1 : Nat) (x2 : Nat) (x3 : Nat) : (State.chargeOpen s x1 x2 x3).dict = s.dict := by simp [State.chargeOpen, State.openVal]
@[simp] theorem State.chargeOpen_ev (s : State) (x1 : Nat) (x2 : Nat) (x3 : Nat) : (State.chargeOpen s x1 x2 x3).ev = s.ev := by simp [State.chargeOpen, State.openVal]
@[simp] theorem State.chargeOpen_time (s : State) (x1 : Nat) (x2 : Nat) (x3 : Nat) : (State.chargeOpen s x1 x2 x3).time = s.time := by simp [State.chargeOpen, State.openVal]
@[simp] theorem State.chargeOpen_pwr (s : State) (x1 : Nat) (x2 : Nat) (x3 : Nat) : (State.chargeOpen s x1 x2 x3).pwr = s.pwr := by simp [State.chargeOpen, State.openVal]
@[simp] theorem State.chargeOpen_link (s : State) (x1 : Nat) (x2 : Nat) (x3 : Nat) : (State.chargeOpen s x1 x2 x3).link = s.link := by simp [State.chargeOpen, State.openVal]
@[simp] theorem State.chargeOpen_pair (s : State) (x1 : Nat) (x2 : Nat) (x3 : Nat) : (State.chargeOpen s x1 x2 x3).pair = s.pair := by simp [State.chargeOpen, State.openVal]
@[simp] theorem State.chargeOpen_trust (s : State) (x1 : Nat) (x2 : Nat) (x3 : Nat) : (State.chargeOpen s x1 x2 x3).trust = s.trust := by simp [State.chargeOpen, State.openVal]
@[simp] theorem State.chargeOpen_field (s : State) (x1 : Nat) (x2 : Nat) (x3 : Nat) : (State.chargeOpen s x1 x2 x3).field = s.field := by simp [State.chargeOpen, State.openVal]
@[simp] theorem State.chargeOpen_acc (s : State) (x1 : Nat) (x2 : Nat) (x3 : Nat) : (State.chargeOpen s x1 x2 x3).acc = s.acc := by simp [State.chargeOpen, State.openVal]
@[simp] theorem State.chargeOpen_arch (s : State) (x1 : Nat) (x2 : Nat) (x3 : Nat) : (State.chargeOpen s x1 x2 x3).arch = s.arch := by simp [State.chargeOpen, State.openVal]
@[simp] theorem State.chargeOpen_bill (s : State) (x1 : Nat) (x2 : Nat) (x3 : Nat) : (State.chargeOpen s x1 x2 x3).bill = s.bill := by simp [State.chargeOpen, State.openVal]
@[simp] theorem State.chargeOpen_weir (s : State) (x1 : Nat) (x2 : Nat) (x3 : Nat) : (State.chargeOpen s x1 x2 x3).weir = s.weir := by simp [State.chargeOpen, State.openVal]
@[simp] theorem State.chargeOpen_bal (s : State) (x1 : Nat) (x2 : Nat) (x3 : Nat) : (State.chargeOpen s x1 x2 x3).bal = s.bal := by simp [State.chargeOpen, State.openVal]
@[simp] theorem State.chargeOpen_upd (s : State) (x1 : Nat) (x2 : Nat) (x3 : Nat) : (State.chargeOpen s x1 x2 x3).upd = s.upd := by simp [State.chargeOpen, State.openVal]
@[simp] theorem State.respond_pending (s : State) (x1 : Req) (x2 : Answer) : (State.respond s x1 x2).pending = s.pending := by unfold State.respond; (repeat' split) <;> simp
@[simp] theorem State.respond_dict (s : State) (x1 : Req) (x2 : Answer) : (State.respond s x1 x2).dict = s.dict := by unfold State.respond; (repeat' split) <;> simp
@[simp] theorem State.respond_ev (s : State) (x1 : Req) (x2 : Answer) : (State.respond s x1 x2).ev = s.ev := by unfold State.respond; (repeat' split) <;> simp
@[simp] theorem State.respond_time (s : State) (x1 : Req) (x2 : Answer) : (State.respond s x1 x2).time = s.time := by unfold State.respond; (repeat' split) <;> simp
@[simp] theorem State.respond_pwr (s : State) (x1 : Req) (x2 : Answer) : (State.respond s x1 x2).pwr = s.pwr := by unfold State.respond; (repeat' split) <;> simp
@[simp] theorem State.respond_pair (s : State) (x1 : Req) (x2 : Answer) : (State.respond s x1 x2).pair = s.pair := by unfold State.respond; (repeat' split) <;> simp
@[simp] theorem State.respond_trust (s : State) (x1 : Req) (x2 : Answer) : (State.respond s x1 x2).trust = s.trust := by unfold State.respond; (repeat' split) <;> simp
@[simp] theorem State.respond_field (s : State) (x1 : Req) (x2 : Answer) : (State.respond s x1 x2).field = s.field := by unfold State.respond; (repeat' split) <;> simp
@[simp] theorem State.respond_acc (s : State) (x1 : Req) (x2 : Answer) : (State.respond s x1 x2).acc = s.acc := by unfold State.respond; (repeat' split) <;> simp
@[simp] theorem State.respond_arch (s : State) (x1 : Req) (x2 : Answer) : (State.respond s x1 x2).arch = s.arch := by unfold State.respond; (repeat' split) <;> simp
@[simp] theorem State.respond_bill (s : State) (x1 : Req) (x2 : Answer) : (State.respond s x1 x2).bill = s.bill := by unfold State.respond; (repeat' split) <;> simp
@[simp] theorem State.respond_weir (s : State) (x1 : Req) (x2 : Answer) : (State.respond s x1 x2).weir = s.weir := by unfold State.respond; (repeat' split) <;> simp
@[simp] theorem State.respond_bal (s : State) (x1 : Req) (x2 : Answer) : (State.respond s x1 x2).bal = s.bal := by unfold State.respond; (repeat' split) <;> simp
@[simp] theorem State.respond_upd (s : State) (x1 : Req) (x2 : Answer) : (State.respond s x1 x2).upd = s.upd := by unfold State.respond; (repeat' split) <;> simp
@[simp] theorem State.serve_pending (s : State) (x1 : Out) : (State.serve s x1).pending = s.pending := by unfold State.serve; split <;> simp
@[simp] theorem State.serve_dict (s : State) (x1 : Out) : (State.serve s x1).dict = s.dict := by unfold State.serve; split <;> simp
@[simp] theorem State.serve_ev (s : State) (x1 : Out) : (State.serve s x1).ev = s.ev := by unfold State.serve; split <;> simp
@[simp] theorem State.serve_time (s : State) (x1 : Out) : (State.serve s x1).time = s.time := by unfold State.serve; split <;> simp
@[simp] theorem State.serve_pwr (s : State) (x1 : Out) : (State.serve s x1).pwr = s.pwr := by unfold State.serve; split <;> simp
@[simp] theorem State.serve_link (s : State) (x1 : Out) : (State.serve s x1).link = s.link := by unfold State.serve; split <;> simp
@[simp] theorem State.serve_pair (s : State) (x1 : Out) : (State.serve s x1).pair = s.pair := by unfold State.serve; split <;> simp
@[simp] theorem State.serve_trust (s : State) (x1 : Out) : (State.serve s x1).trust = s.trust := by unfold State.serve; split <;> simp
@[simp] theorem State.serve_field (s : State) (x1 : Out) : (State.serve s x1).field = s.field := by unfold State.serve; split <;> simp
@[simp] theorem State.serve_acc (s : State) (x1 : Out) : (State.serve s x1).acc = s.acc := by unfold State.serve; split <;> simp
@[simp] theorem State.serve_arch (s : State) (x1 : Out) : (State.serve s x1).arch = s.arch := by unfold State.serve; split <;> simp
@[simp] theorem State.serve_bill (s : State) (x1 : Out) : (State.serve s x1).bill = s.bill := by unfold State.serve; split <;> simp
@[simp] theorem State.serve_weir (s : State) (x1 : Out) : (State.serve s x1).weir = s.weir := by unfold State.serve; split <;> simp
@[simp] theorem State.serve_bal (s : State) (x1 : Out) : (State.serve s x1).bal = s.bal := by unfold State.serve; split <;> simp
@[simp] theorem State.serve_upd (s : State) (x1 : Out) : (State.serve s x1).upd = s.upd := by unfold State.serve; split <;> simp
@[simp] theorem State.endCommand_pending (s : State) (x1 : Nat) (x2 : Nat) (x3 : Option Req) (x4 : Option Abort) : (State.endCommand s x1 x2 x3 x4).pending = s.pending := by unfold State.endCommand; (repeat' split) <;> simp
@[simp] theorem State.endCommand_ev (s : State) (x1 : Nat) (x2 : Nat) (x3 : Option Req) (x4 : Option Abort) : (State.endCommand s x1 x2 x3 x4).ev = s.ev := by unfold State.endCommand; (repeat' split) <;> simp
@[simp] theorem State.endCommand_time (s : State) (x1 : Nat) (x2 : Nat) (x3 : Option Req) (x4 : Option Abort) : (State.endCommand s x1 x2 x3 x4).time = s.time := by unfold State.endCommand; (repeat' split) <;> simp
@[simp] theorem State.endCommand_pwr (s : State) (x1 : Nat) (x2 : Nat) (x3 : Option Req) (x4 : Option Abort) : (State.endCommand s x1 x2 x3 x4).pwr = s.pwr := by unfold State.endCommand; (repeat' split) <;> simp
@[simp] theorem State.endCommand_pair (s : State) (x1 : Nat) (x2 : Nat) (x3 : Option Req) (x4 : Option Abort) : (State.endCommand s x1 x2 x3 x4).pair = s.pair := by unfold State.endCommand; (repeat' split) <;> simp
@[simp] theorem State.endCommand_trust (s : State) (x1 : Nat) (x2 : Nat) (x3 : Option Req) (x4 : Option Abort) : (State.endCommand s x1 x2 x3 x4).trust = s.trust := by unfold State.endCommand; (repeat' split) <;> simp
@[simp] theorem State.endCommand_field (s : State) (x1 : Nat) (x2 : Nat) (x3 : Option Req) (x4 : Option Abort) : (State.endCommand s x1 x2 x3 x4).field = s.field := by unfold State.endCommand; (repeat' split) <;> simp
@[simp] theorem State.endCommand_acc (s : State) (x1 : Nat) (x2 : Nat) (x3 : Option Req) (x4 : Option Abort) : (State.endCommand s x1 x2 x3 x4).acc = s.acc := by unfold State.endCommand; (repeat' split) <;> simp
@[simp] theorem State.endCommand_arch (s : State) (x1 : Nat) (x2 : Nat) (x3 : Option Req) (x4 : Option Abort) : (State.endCommand s x1 x2 x3 x4).arch = s.arch := by unfold State.endCommand; (repeat' split) <;> simp
@[simp] theorem State.endCommand_bill (s : State) (x1 : Nat) (x2 : Nat) (x3 : Option Req) (x4 : Option Abort) : (State.endCommand s x1 x2 x3 x4).bill = s.bill := by unfold State.endCommand; (repeat' split) <;> simp
@[simp] theorem State.endCommand_weir (s : State) (x1 : Nat) (x2 : Nat) (x3 : Option Req) (x4 : Option Abort) : (State.endCommand s x1 x2 x3 x4).weir = s.weir := by unfold State.endCommand; (repeat' split) <;> simp
@[simp] theorem State.endCommand_bal (s : State) (x1 : Nat) (x2 : Nat) (x3 : Option Req) (x4 : Option Abort) : (State.endCommand s x1 x2 x3 x4).bal = s.bal := by unfold State.endCommand; (repeat' split) <;> simp
@[simp] theorem State.endCommand_upd (s : State) (x1 : Nat) (x2 : Nat) (x3 : Option Req) (x4 : Option Abort) : (State.endCommand s x1 x2 x3 x4).upd = s.upd := by unfold State.endCommand; (repeat' split) <;> simp
@[simp] theorem State.usedSlot_pending (s : State) (x1 : Nat) : (State.usedSlot s x1).pending = s.pending := by unfold State.usedSlot; (repeat' split) <;> rfl
@[simp] theorem State.usedSlot_late (s : State) (x1 : Nat) : (State.usedSlot s x1).late = s.late := by unfold State.usedSlot; (repeat' split) <;> rfl
@[simp] theorem State.usedSlot_out (s : State) (x1 : Nat) : (State.usedSlot s x1).out = s.out := by unfold State.usedSlot; (repeat' split) <;> rfl
@[simp] theorem State.usedSlot_opens (s : State) (x1 : Nat) : (State.usedSlot s x1).opens = s.opens := by unfold State.usedSlot; (repeat' split) <;> rfl
@[simp] theorem State.usedSlot_dict (s : State) (x1 : Nat) : (State.usedSlot s x1).dict = s.dict := by unfold State.usedSlot; (repeat' split) <;> rfl
@[simp] theorem State.usedSlot_ev (s : State) (x1 : Nat) : (State.usedSlot s x1).ev = s.ev := by unfold State.usedSlot; (repeat' split) <;> rfl
@[simp] theorem State.usedSlot_time (s : State) (x1 : Nat) : (State.usedSlot s x1).time = s.time := by unfold State.usedSlot; (repeat' split) <;> rfl
@[simp] theorem State.usedSlot_pwr (s : State) (x1 : Nat) : (State.usedSlot s x1).pwr = s.pwr := by unfold State.usedSlot; (repeat' split) <;> rfl
@[simp] theorem State.usedSlot_link (s : State) (x1 : Nat) : (State.usedSlot s x1).link = s.link := by unfold State.usedSlot; (repeat' split) <;> rfl
@[simp] theorem State.usedSlot_pair (s : State) (x1 : Nat) : (State.usedSlot s x1).pair = s.pair := by unfold State.usedSlot; (repeat' split) <;> rfl
@[simp] theorem State.usedSlot_cas (s : State) (x1 : Nat) : (State.usedSlot s x1).cas = s.cas := by unfold State.usedSlot; (repeat' split) <;> rfl
@[simp] theorem State.usedSlot_field (s : State) (x1 : Nat) : (State.usedSlot s x1).field = s.field := by unfold State.usedSlot; (repeat' split) <;> rfl
@[simp] theorem State.usedSlot_acc (s : State) (x1 : Nat) : (State.usedSlot s x1).acc = s.acc := by unfold State.usedSlot; (repeat' split) <;> rfl
@[simp] theorem State.usedSlot_arch (s : State) (x1 : Nat) : (State.usedSlot s x1).arch = s.arch := by unfold State.usedSlot; (repeat' split) <;> rfl
@[simp] theorem State.usedSlot_bill (s : State) (x1 : Nat) : (State.usedSlot s x1).bill = s.bill := by unfold State.usedSlot; (repeat' split) <;> rfl
@[simp] theorem State.usedSlot_weir (s : State) (x1 : Nat) : (State.usedSlot s x1).weir = s.weir := by unfold State.usedSlot; (repeat' split) <;> rfl
@[simp] theorem State.usedSlot_bal (s : State) (x1 : Nat) : (State.usedSlot s x1).bal = s.bal := by unfold State.usedSlot; (repeat' split) <;> rfl
@[simp] theorem State.usedSlot_upd (s : State) (x1 : Nat) : (State.usedSlot s x1).upd = s.upd := by unfold State.usedSlot; (repeat' split) <;> rfl
@[simp] theorem State.zeroize_pending (s : State) (x1 : Nat) : (State.zeroize s x1).pending = s.pending := rfl
@[simp] theorem State.zeroize_late (s : State) (x1 : Nat) : (State.zeroize s x1).late = s.late := rfl
@[simp] theorem State.zeroize_out (s : State) (x1 : Nat) : (State.zeroize s x1).out = s.out := rfl
@[simp] theorem State.zeroize_opens (s : State) (x1 : Nat) : (State.zeroize s x1).opens = s.opens := rfl
@[simp] theorem State.zeroize_dict (s : State) (x1 : Nat) : (State.zeroize s x1).dict = s.dict := rfl
@[simp] theorem State.zeroize_ev (s : State) (x1 : Nat) : (State.zeroize s x1).ev = s.ev := rfl
@[simp] theorem State.zeroize_time (s : State) (x1 : Nat) : (State.zeroize s x1).time = s.time := rfl
@[simp] theorem State.zeroize_pwr (s : State) (x1 : Nat) : (State.zeroize s x1).pwr = s.pwr := rfl
@[simp] theorem State.zeroize_link (s : State) (x1 : Nat) : (State.zeroize s x1).link = s.link := rfl
@[simp] theorem State.zeroize_pair (s : State) (x1 : Nat) : (State.zeroize s x1).pair = s.pair := rfl
@[simp] theorem State.zeroize_cas (s : State) (x1 : Nat) : (State.zeroize s x1).cas = s.cas := rfl
@[simp] theorem State.zeroize_field (s : State) (x1 : Nat) : (State.zeroize s x1).field = s.field := rfl
@[simp] theorem State.zeroize_acc (s : State) (x1 : Nat) : (State.zeroize s x1).acc = s.acc := rfl
@[simp] theorem State.zeroize_arch (s : State) (x1 : Nat) : (State.zeroize s x1).arch = s.arch := rfl
@[simp] theorem State.zeroize_bill (s : State) (x1 : Nat) : (State.zeroize s x1).bill = s.bill := rfl
@[simp] theorem State.zeroize_weir (s : State) (x1 : Nat) : (State.zeroize s x1).weir = s.weir := rfl
@[simp] theorem State.zeroize_bal (s : State) (x1 : Nat) : (State.zeroize s x1).bal = s.bal := rfl
@[simp] theorem State.zeroize_upd (s : State) (x1 : Nat) : (State.zeroize s x1).upd = s.upd := rfl
@[simp] theorem State.atNet_pending (s : State) (x1 : Nat) : (State.atNet s x1).pending = s.pending := by unfold State.atNet; split <;> rfl
@[simp] theorem State.atNet_late (s : State) (x1 : Nat) : (State.atNet s x1).late = s.late := by unfold State.atNet; split <;> rfl
@[simp] theorem State.atNet_out (s : State) (x1 : Nat) : (State.atNet s x1).out = s.out := by unfold State.atNet; split <;> rfl
@[simp] theorem State.atNet_opens (s : State) (x1 : Nat) : (State.atNet s x1).opens = s.opens := by unfold State.atNet; split <;> rfl
@[simp] theorem State.atNet_dict (s : State) (x1 : Nat) : (State.atNet s x1).dict = s.dict := by unfold State.atNet; split <;> rfl
@[simp] theorem State.atNet_ev (s : State) (x1 : Nat) : (State.atNet s x1).ev = s.ev := by unfold State.atNet; split <;> rfl
@[simp] theorem State.atNet_pwr (s : State) (x1 : Nat) : (State.atNet s x1).pwr = s.pwr := by unfold State.atNet; split <;> rfl
@[simp] theorem State.atNet_link (s : State) (x1 : Nat) : (State.atNet s x1).link = s.link := by unfold State.atNet; split <;> rfl
@[simp] theorem State.atNet_pair (s : State) (x1 : Nat) : (State.atNet s x1).pair = s.pair := by unfold State.atNet; split <;> rfl
@[simp] theorem State.atNet_trust (s : State) (x1 : Nat) : (State.atNet s x1).trust = s.trust := by unfold State.atNet; split <;> rfl
@[simp] theorem State.atNet_cas (s : State) (x1 : Nat) : (State.atNet s x1).cas = s.cas := by unfold State.atNet; split <;> rfl
@[simp] theorem State.atNet_field (s : State) (x1 : Nat) : (State.atNet s x1).field = s.field := by unfold State.atNet; split <;> rfl
@[simp] theorem State.atNet_acc (s : State) (x1 : Nat) : (State.atNet s x1).acc = s.acc := by unfold State.atNet; split <;> rfl
@[simp] theorem State.atNet_arch (s : State) (x1 : Nat) : (State.atNet s x1).arch = s.arch := by unfold State.atNet; split <;> rfl
@[simp] theorem State.atNet_bill (s : State) (x1 : Nat) : (State.atNet s x1).bill = s.bill := by unfold State.atNet; split <;> rfl
@[simp] theorem State.atNet_weir (s : State) (x1 : Nat) : (State.atNet s x1).weir = s.weir := by unfold State.atNet; split <;> rfl
@[simp] theorem State.atNet_bal (s : State) (x1 : Nat) : (State.atNet s x1).bal = s.bal := by unfold State.atNet; split <;> rfl
@[simp] theorem State.atNet_upd (s : State) (x1 : Nat) : (State.atNet s x1).upd = s.upd := by unfold State.atNet; split <;> rfl

@[simp] theorem State.usePage_pending (s : State) (x1 x2 x3 : Nat) : (State.usePage s x1 x2 x3).pending = s.pending := by unfold State.usePage; split <;> simp; split <;> simp
@[simp] theorem State.usePage_out (s : State) (x1 x2 x3 : Nat) : (State.usePage s x1 x2 x3).out = s.out := by unfold State.usePage; split <;> simp; split <;> simp
@[simp] theorem State.usePage_opens (s : State) (x1 x2 x3 : Nat) : (State.usePage s x1 x2 x3).opens = s.opens := by unfold State.usePage; split <;> simp; split <;> simp
@[simp] theorem State.usePage_late (s : State) (x1 x2 x3 : Nat) : (State.usePage s x1 x2 x3).late = s.late := by unfold State.usePage; split <;> simp; split <;> simp
@[simp] theorem State.usePage_dict (s : State) (x1 x2 x3 : Nat) : (State.usePage s x1 x2 x3).dict = s.dict := by unfold State.usePage; split <;> simp; split <;> simp
@[simp] theorem State.usePage_ev (s : State) (x1 x2 x3 : Nat) : (State.usePage s x1 x2 x3).ev = s.ev := by unfold State.usePage; split <;> simp; split <;> simp
@[simp] theorem State.usePage_time (s : State) (x1 x2 x3 : Nat) : (State.usePage s x1 x2 x3).time = s.time := by unfold State.usePage; split <;> simp; split <;> simp
@[simp] theorem State.usePage_pwr (s : State) (x1 x2 x3 : Nat) : (State.usePage s x1 x2 x3).pwr = s.pwr := by unfold State.usePage; split <;> simp; split <;> simp
@[simp] theorem State.usePage_link (s : State) (x1 x2 x3 : Nat) : (State.usePage s x1 x2 x3).link = s.link := by unfold State.usePage; split <;> simp; split <;> simp
@[simp] theorem State.usePage_pair (s : State) (x1 x2 x3 : Nat) : (State.usePage s x1 x2 x3).pair = s.pair := by unfold State.usePage; split <;> simp; split <;> simp
@[simp] theorem State.usePage_trust (s : State) (x1 x2 x3 : Nat) : (State.usePage s x1 x2 x3).trust = s.trust := by unfold State.usePage; split <;> simp; split <;> simp
@[simp] theorem State.usePage_field (s : State) (x1 x2 x3 : Nat) : (State.usePage s x1 x2 x3).field = s.field := by unfold State.usePage; split <;> simp; split <;> simp
@[simp] theorem State.usePage_acc (s : State) (x1 x2 x3 : Nat) : (State.usePage s x1 x2 x3).acc = s.acc := by unfold State.usePage; split <;> simp; split <;> simp
@[simp] theorem State.usePage_bill (s : State) (x1 x2 x3 : Nat) : (State.usePage s x1 x2 x3).bill = s.bill := by unfold State.usePage; split <;> simp; split <;> simp
@[simp] theorem State.usePage_weir (s : State) (x1 x2 x3 : Nat) : (State.usePage s x1 x2 x3).weir = s.weir := by unfold State.usePage; split <;> simp; split <;> simp
@[simp] theorem State.usePage_bal (s : State) (x1 x2 x3 : Nat) : (State.usePage s x1 x2 x3).bal = s.bal := by unfold State.usePage; split <;> simp; split <;> simp
@[simp] theorem State.usePage_upd (s : State) (x1 x2 x3 : Nat) : (State.usePage s x1 x2 x3).upd = s.upd := by unfold State.usePage; split <;> simp; split <;> simp
@[simp] theorem State.producer_pending (s : State) : (State.producer s).2.pending = s.pending := by simp only [State.producer]; split <;> rfl
@[simp] theorem State.producer_out (s : State) : (State.producer s).2.out = s.out := by simp only [State.producer]; split <;> rfl
@[simp] theorem State.producer_late (s : State) : (State.producer s).2.late = s.late := by simp only [State.producer]; split <;> rfl
@[simp] theorem State.producer_dict (s : State) : (State.producer s).2.dict = s.dict := by simp only [State.producer]; split <;> rfl
@[simp] theorem State.producer_ev (s : State) : (State.producer s).2.ev = s.ev := by simp only [State.producer]; split <;> rfl
@[simp] theorem State.producer_time (s : State) : (State.producer s).2.time = s.time := by simp only [State.producer]; split <;> rfl
@[simp] theorem State.producer_pwr (s : State) : (State.producer s).2.pwr = s.pwr := by simp only [State.producer]; split <;> rfl
@[simp] theorem State.producer_link (s : State) : (State.producer s).2.link = s.link := by simp only [State.producer]; split <;> rfl
@[simp] theorem State.producer_pair (s : State) : (State.producer s).2.pair = s.pair := by simp only [State.producer]; split <;> rfl
@[simp] theorem State.producer_trust (s : State) : (State.producer s).2.trust = s.trust := by simp only [State.producer]; split <;> rfl
@[simp] theorem State.producer_cas (s : State) : (State.producer s).2.cas = s.cas := by simp only [State.producer]; split <;> rfl
@[simp] theorem State.producer_field (s : State) : (State.producer s).2.field = s.field := by simp only [State.producer]; split <;> rfl
@[simp] theorem State.producer_acc (s : State) : (State.producer s).2.acc = s.acc := by simp only [State.producer]; split <;> rfl
@[simp] theorem State.producer_arch (s : State) : (State.producer s).2.arch = s.arch := by simp only [State.producer]; split <;> rfl
@[simp] theorem State.producer_bill (s : State) : (State.producer s).2.bill = s.bill := by simp only [State.producer]; split <;> rfl
@[simp] theorem State.producer_weir (s : State) : (State.producer s).2.weir = s.weir := by simp only [State.producer]; split <;> rfl
@[simp] theorem State.producer_bal (s : State) : (State.producer s).2.bal = s.bal := by simp only [State.producer]; split <;> rfl
@[simp] theorem State.producer_upd (s : State) : (State.producer s).2.upd = s.upd := by simp only [State.producer]; split <;> rfl
@[simp] theorem State.chargeKey_pending (s : State) (x : Option Nat) : (State.chargeKey s x).pending = s.pending := by cases x <;> simp [State.chargeKey]
@[simp] theorem State.chargeKey_out (s : State) (x : Option Nat) : (State.chargeKey s x).out = s.out := by cases x <;> simp [State.chargeKey]
@[simp] theorem State.chargeKey_late (s : State) (x : Option Nat) : (State.chargeKey s x).late = s.late := by cases x <;> simp [State.chargeKey]
@[simp] theorem State.chargeKey_dict (s : State) (x : Option Nat) : (State.chargeKey s x).dict = s.dict := by cases x <;> simp [State.chargeKey]
@[simp] theorem State.chargeKey_ev (s : State) (x : Option Nat) : (State.chargeKey s x).ev = s.ev := by cases x <;> simp [State.chargeKey]
@[simp] theorem State.chargeKey_time (s : State) (x : Option Nat) : (State.chargeKey s x).time = s.time := by cases x <;> simp [State.chargeKey]
@[simp] theorem State.chargeKey_pwr (s : State) (x : Option Nat) : (State.chargeKey s x).pwr = s.pwr := by cases x <;> simp [State.chargeKey]
@[simp] theorem State.chargeKey_link (s : State) (x : Option Nat) : (State.chargeKey s x).link = s.link := by cases x <;> simp [State.chargeKey]
@[simp] theorem State.chargeKey_pair (s : State) (x : Option Nat) : (State.chargeKey s x).pair = s.pair := by cases x <;> simp [State.chargeKey]
@[simp] theorem State.chargeKey_trust (s : State) (x : Option Nat) : (State.chargeKey s x).trust = s.trust := by cases x <;> simp [State.chargeKey]
@[simp] theorem State.chargeKey_field (s : State) (x : Option Nat) : (State.chargeKey s x).field = s.field := by cases x <;> simp [State.chargeKey]
@[simp] theorem State.chargeKey_acc (s : State) (x : Option Nat) : (State.chargeKey s x).acc = s.acc := by cases x <;> simp [State.chargeKey]
@[simp] theorem State.chargeKey_arch (s : State) (x : Option Nat) : (State.chargeKey s x).arch = s.arch := by cases x <;> simp [State.chargeKey]
@[simp] theorem State.chargeKey_bill (s : State) (x : Option Nat) : (State.chargeKey s x).bill = s.bill := by cases x <;> simp [State.chargeKey]
@[simp] theorem State.chargeKey_weir (s : State) (x : Option Nat) : (State.chargeKey s x).weir = s.weir := by cases x <;> simp [State.chargeKey]
@[simp] theorem State.chargeKey_bal (s : State) (x : Option Nat) : (State.chargeKey s x).bal = s.bal := by cases x <;> simp [State.chargeKey]
@[simp] theorem State.chargeKey_upd (s : State) (x : Option Nat) : (State.chargeKey s x).upd = s.upd := by cases x <;> simp [State.chargeKey]
@[simp] theorem State.useKey_pending (s : State) (x : Nat) (op : KeyOp) : (State.useKey s x op).2.pending = s.pending := by unfold State.useKey; split <;> simp
@[simp] theorem State.useKey_out (s : State) (x : Nat) (op : KeyOp) : (State.useKey s x op).2.out = s.out := by unfold State.useKey; split <;> simp
@[simp] theorem State.useKey_opens (s : State) (x : Nat) (op : KeyOp) : (State.useKey s x op).2.opens = s.opens := by unfold State.useKey; split <;> simp
@[simp] theorem State.useKey_late (s : State) (x : Nat) (op : KeyOp) : (State.useKey s x op).2.late = s.late := by unfold State.useKey; split <;> simp
@[simp] theorem State.useKey_dict (s : State) (x : Nat) (op : KeyOp) : (State.useKey s x op).2.dict = s.dict := by unfold State.useKey; split <;> simp
@[simp] theorem State.useKey_ev (s : State) (x : Nat) (op : KeyOp) : (State.useKey s x op).2.ev = s.ev := by unfold State.useKey; split <;> simp
@[simp] theorem State.useKey_time (s : State) (x : Nat) (op : KeyOp) : (State.useKey s x op).2.time = s.time := by unfold State.useKey; split <;> simp
@[simp] theorem State.useKey_pwr (s : State) (x : Nat) (op : KeyOp) : (State.useKey s x op).2.pwr = s.pwr := by unfold State.useKey; split <;> simp
@[simp] theorem State.useKey_link (s : State) (x : Nat) (op : KeyOp) : (State.useKey s x op).2.link = s.link := by unfold State.useKey; split <;> simp
@[simp] theorem State.useKey_pair (s : State) (x : Nat) (op : KeyOp) : (State.useKey s x op).2.pair = s.pair := by unfold State.useKey; split <;> simp
@[simp] theorem State.useKey_cas (s : State) (x : Nat) (op : KeyOp) : (State.useKey s x op).2.cas = s.cas := by unfold State.useKey; split <;> simp
@[simp] theorem State.useKey_field (s : State) (x : Nat) (op : KeyOp) : (State.useKey s x op).2.field = s.field := by unfold State.useKey; split <;> simp
@[simp] theorem State.useKey_acc (s : State) (x : Nat) (op : KeyOp) : (State.useKey s x op).2.acc = s.acc := by unfold State.useKey; split <;> simp
@[simp] theorem State.useKey_arch (s : State) (x : Nat) (op : KeyOp) : (State.useKey s x op).2.arch = s.arch := by unfold State.useKey; split <;> simp
@[simp] theorem State.useKey_bill (s : State) (x : Nat) (op : KeyOp) : (State.useKey s x op).2.bill = s.bill := by unfold State.useKey; split <;> simp
@[simp] theorem State.useKey_weir (s : State) (x : Nat) (op : KeyOp) : (State.useKey s x op).2.weir = s.weir := by unfold State.useKey; split <;> simp
@[simp] theorem State.useKey_bal (s : State) (x : Nat) (op : KeyOp) : (State.useKey s x op).2.bal = s.bal := by unfold State.useKey; split <;> simp
@[simp] theorem State.useKey_upd (s : State) (x : Nat) (op : KeyOp) : (State.useKey s x op).2.upd = s.upd := by unfold State.useKey; split <;> simp

end Sys2Proof.Machine
end

