-- ==== Sys2Proof/Laws/Waiting.lean ====
section
/-! SUPPORT. What arrives while an island is held waits, what it waits for, and when a period, a group or a transmission moves on:
said once per shared operation, with what each leaves as it is. -/

namespace Sys2Proof.Machine

variable {s t : State} {src : Nat} {c : Instr} {w : Inbound}

/-- While the islands of the path run, a request runs (R25). -/
theorem orWait_runs (h : s.pathRuns = true) : s.orWait src c t = t := by simp [State.orWait, h]

/-- Before acceptance is ready nothing waits (R25). -/
theorem orWait_early (h : s.pwr.acceptReady = false) : s.orWait src c t = t := by simp [State.orWait, h]

/-- While an island of the path is held, a request waits at its source (R25). -/
theorem orWait_waits (h1 : s.pathRuns = false) (h2 : s.pwr.acceptReady = true) :
    s.orWait src c t = s.holdInput src (.request c) := by simp [State.orWait, h1, h2]

/-- A frame runs, or waits at its source (R25, R223). -/
theorem orHold_cases (gen p : Nat) (f : StdFrame) (rx : Rx) :
    (s.pathRuns = true ∧ s.orHold gen p f rx t = t) ∨
    (s.pathRuns = false ∧ s.orHold gen p f rx t = s.holdInput (p + 1) (.frame gen p f rx)) := by
  unfold State.orHold State.holdFrame
  by_cases h : s.pathRuns = true
  · exact .inl ⟨h, by simp [h]⟩
  · exact .inr ⟨by simpa using h, by simp [h]⟩

/-- With room in its source's queue, what arrives is held behind what is there (R223). -/
theorem holdInput_room (h1 : s.pwr.acceptReady = true)
    (h2 : (s.acc.inputs.filter (fun y => y.src == src)).length < s.cfgN (0x902300 + src)) :
    (s.holdInput src w).acc.inputs = s.acc.inputs ++ [⟨s.cfgN (0x902200 + src) != 2, src, w⟩] := by
  simp [State.holdInput, h1, h2]

/-- A command of the host is not fetched, waits for storage, for programs or behind another, or is carried out (R25, R341). -/
theorem nvRun_cases (x : NvCmd) :
    (s.fetches x = false ∧ s.nvRun x c t = s) ∨
    (s.fetches x = true ∧ (s.isUp 4 = false ∨ s.allows 12 3 = false ∨ s.arch.nvWait ≠ []) ∧ s.nvRun x c t = s.nvHold c) ∨
    (s.fetches x = true ∧ s.isUp 4 = true ∧ s.allows 12 3 = true ∧ s.arch.nvWait = [] ∧ s.nvRun x c t = t) := by
  unfold State.nvRun
  cases h1 : s.fetches x <;> cases h2 : s.isUp 4 <;> cases h3 : s.allows 12 3 <;> by_cases h4 : s.arch.nvWait = [] <;> simp [h4]

@[simp] theorem nvHold_nvWait : (s.nvHold c).arch.nvWait = s.arch.nvWait ++ [c] := rfl

/-- A group in which nothing changed, and which has no episode, is left as it is (R58). -/
theorem checkGroup_same {g : Nat} (h1 : s.changes g = []) (h2 : (s.group g).st ≠ .mismatch) : s.checkGroup g = s := by
  simp [State.checkGroup, h1, h2]

/-- An episode of a group that is still inconsistent goes on (R58). -/
theorem checkGroup_still {g : Nat} (h1 : s.groupOk g = false) (h2 : (s.group g).st = .mismatch) : s.checkGroup g = s := by
  simp [State.checkGroup, h1, h2]

/-- In fallback a period ends 20 ms after it began (R217). -/
theorem boundaryDue_fallback (h1 : s.mainsPeriods = false) (h2 : s.cas.periodStart + 20000000 ≤ s.time.net) :
    s.boundaryDue = some (s.cas.periodStart + 20000000) := by
  unfold State.boundaryDue
  simp [h1, h2]

/-- A crossing less than 7.5 ms after a boundary is none (R217). -/
theorem boundaryDue_early {a : Nat} (h1 : s.mainsPeriods = true) (h2 : s.time.lastStamp = some a)
    (h3 : a < s.cas.periodStart + 7500000) : s.boundaryDue = none := by
  unfold State.boundaryDue
  simp [h1, h2, Option.filter]
  omega

@[simp] theorem State.nvHold_pending (s : State) (c : Instr) : (s.nvHold c).pending = s.pending := rfl
@[simp] theorem State.nvHold_out (s : State) (c : Instr) : (s.nvHold c).out = s.out := rfl
@[simp] theorem State.nvHold_opens (s : State) (c : Instr) : (s.nvHold c).opens = s.opens := rfl
@[simp] theorem State.nvHold_late (s : State) (c : Instr) : (s.nvHold c).late = s.late := rfl
@[simp] theorem State.nvHold_dict (s : State) (c : Instr) : (s.nvHold c).dict = s.dict := rfl
@[simp] theorem State.nvHold_ev (s : State) (c : Instr) : (s.nvHold c).ev = s.ev := rfl
@[simp] theorem State.nvHold_time (s : State) (c : Instr) : (s.nvHold c).time = s.time := rfl
@[simp] theorem State.nvHold_pwr (s : State) (c : Instr) : (s.nvHold c).pwr = s.pwr := rfl
@[simp] theorem State.nvHold_link (s : State) (c : Instr) : (s.nvHold c).link = s.link := rfl
@[simp] theorem State.nvHold_pair (s : State) (c : Instr) : (s.nvHold c).pair = s.pair := rfl
@[simp] theorem State.nvHold_trust (s : State) (c : Instr) : (s.nvHold c).trust = s.trust := rfl
@[simp] theorem State.nvHold_cas (s : State) (c : Instr) : (s.nvHold c).cas = s.cas := rfl
@[simp] theorem State.nvHold_field (s : State) (c : Instr) : (s.nvHold c).field = s.field := rfl
@[simp] theorem State.nvHold_acc (s : State) (c : Instr) : (s.nvHold c).acc = s.acc := rfl
@[simp] theorem State.nvHold_bill (s : State) (c : Instr) : (s.nvHold c).bill = s.bill := rfl
@[simp] theorem State.nvHold_weir (s : State) (c : Instr) : (s.nvHold c).weir = s.weir := rfl
@[simp] theorem State.nvHold_bal (s : State) (c : Instr) : (s.nvHold c).bal = s.bal := rfl
@[simp] theorem State.nvHold_upd (s : State) (c : Instr) : (s.nvHold c).upd = s.upd := rfl

@[simp] theorem State.holdInput_pending (s : State) (src : Nat) (w : Inbound) : (s.holdInput src w).pending = s.pending := by
  unfold State.holdInput; dsimp only; (repeat' split) <;> rfl
@[simp] theorem State.holdInput_out (s : State) (src : Nat) (w : Inbound) : (s.holdInput src w).out = s.out := by
  unfold State.holdInput; dsimp only; (repeat' split) <;> rfl
@[simp] theorem State.holdInput_opens (s : State) (src : Nat) (w : Inbound) : (s.holdInput src w).opens = s.opens := by
  unfold State.holdInput; dsimp only; (repeat' split) <;> rfl
@[simp] theorem State.holdInput_late (s : State) (src : Nat) (w : Inbound) : (s.holdInput src w).late = s.late := by
  unfold State.holdInput; dsimp only; (repeat' split) <;> rfl
@[simp] theorem State.holdInput_dict (s : State) (src : Nat) (w : Inbound) : (s.holdInput src w).dict = s.dict := by
  unfold State.holdInput; dsimp only; (repeat' split) <;> rfl
@[simp] theorem State.holdInput_ev (s : State) (src : Nat) (w : Inbound) : (s.holdInput src w).ev = s.ev := by
  unfold State.holdInput; dsimp only; (repeat' split) <;> rfl
@[simp] theorem State.holdInput_time (s : State) (src : Nat) (w : Inbound) : (s.holdInput src w).time = s.time := by
  unfold State.holdInput; dsimp only; (repeat' split) <;> rfl
@[simp] theorem State.holdInput_pwr (s : State) (src : Nat) (w : Inbound) : (s.holdInput src w).pwr = s.pwr := by
  unfold State.holdInput; dsimp only; (repeat' split) <;> rfl
@[simp] theorem State.holdInput_link (s : State) (src : Nat) (w : Inbound) : (s.holdInput src w).link = s.link := by
  unfold State.holdInput; dsimp only; (repeat' split) <;> rfl
@[simp] theorem State.holdInput_pair (s : State) (src : Nat) (w : Inbound) : (s.holdInput src w).pair = s.pair := by
  unfold State.holdInput; dsimp only; (repeat' split) <;> rfl
@[simp] theorem State.holdInput_trust (s : State) (src : Nat) (w : Inbound) : (s.holdInput src w).trust = s.trust := by
  unfold State.holdInput; dsimp only; (repeat' split) <;> rfl
@[simp] theorem State.holdInput_field (s : State) (src : Nat) (w : Inbound) : (s.holdInput src w).field = s.field := by
  unfold State.holdInput; dsimp only; (repeat' split) <;> rfl
@[simp] theorem State.holdInput_arch (s : State) (src : Nat) (w : Inbound) : (s.holdInput src w).arch = s.arch := by
  unfold State.holdInput; dsimp only; (repeat' split) <;> rfl
@[simp] theorem State.holdInput_bill (s : State) (src : Nat) (w : Inbound) : (s.holdInput src w).bill = s.bill := by
  unfold State.holdInput; dsimp only; (repeat' split) <;> rfl
@[simp] theorem State.holdInput_weir (s : State) (src : Nat) (w : Inbound) : (s.holdInput src w).weir = s.weir := by
  unfold State.holdInput; dsimp only; (repeat' split) <;> rfl
@[simp] theorem State.holdInput_bal (s : State) (src : Nat) (w : Inbound) : (s.holdInput src w).bal = s.bal := by
  unfold State.holdInput; dsimp only; (repeat' split) <;> rfl
@[simp] theorem State.holdInput_upd (s : State) (src : Nat) (w : Inbound) : (s.holdInput src w).upd = s.upd := by
  unfold State.holdInput; dsimp only; (repeat' split) <;> rfl

@[simp] theorem State.settleEffects_pending (s : State) (h : Nat) : (s.settleEffects h).pending = s.pending := rfl
@[simp] theorem State.settleEffects_out (s : State) (h : Nat) : (s.settleEffects h).out = s.out := rfl
@[simp] theorem State.settleEffects_opens (s : State) (h : Nat) : (s.settleEffects h).opens = s.opens := rfl
@[simp] theorem State.settleEffects_late (s : State) (h : Nat) : (s.settleEffects h).late = s.late := rfl
@[simp] theorem State.settleEffects_dict (s : State) (h : Nat) : (s.settleEffects h).dict = s.dict := rfl
@[simp] theorem State.settleEffects_ev (s : State) (h : Nat) : (s.settleEffects h).ev = s.ev := rfl
@[simp] theorem State.settleEffects_time (s : State) (h : Nat) : (s.settleEffects h).time = s.time := rfl
@[simp] theorem State.settleEffects_pwr (s : State) (h : Nat) : (s.settleEffects h).pwr = s.pwr := rfl
@[simp] theorem State.settleEffects_link (s : State) (h : Nat) : (s.settleEffects h).link = s.link := rfl
@[simp] theorem State.settleEffects_pair (s : State) (h : Nat) : (s.settleEffects h).pair = s.pair := rfl
@[simp] theorem State.settleEffects_trust (s : State) (h : Nat) : (s.settleEffects h).trust = s.trust := rfl
@[simp] theorem State.settleEffects_cas (s : State) (h : Nat) : (s.settleEffects h).cas = s.cas := rfl
@[simp] theorem State.settleEffects_field (s : State) (h : Nat) : (s.settleEffects h).field = s.field := rfl
@[simp] theorem State.settleEffects_arch (s : State) (h : Nat) : (s.settleEffects h).arch = s.arch := rfl
@[simp] theorem State.settleEffects_bill (s : State) (h : Nat) : (s.settleEffects h).bill = s.bill := rfl
@[simp] theorem State.settleEffects_weir (s : State) (h : Nat) : (s.settleEffects h).weir = s.weir := rfl
@[simp] theorem State.settleEffects_bal (s : State) (h : Nat) : (s.settleEffects h).bal = s.bal := rfl
@[simp] theorem State.settleEffects_upd (s : State) (h : Nat) : (s.settleEffects h).upd = s.upd := rfl

@[simp] theorem State.profileAppend_pending (s : State) (h : Nat) (q : U64) : (s.profileAppend h q).pending = s.pending := rfl
@[simp] theorem State.profileAppend_out (s : State) (h : Nat) (q : U64) : (s.profileAppend h q).out = s.out := rfl
@[simp] theorem State.profileAppend_opens (s : State) (h : Nat) (q : U64) : (s.profileAppend h q).opens = s.opens := rfl
@[simp] theorem State.profileAppend_late (s : State) (h : Nat) (q : U64) : (s.profileAppend h q).late = s.late := rfl
@[simp] theorem State.profileAppend_dict (s : State) (h : Nat) (q : U64) : (s.profileAppend h q).dict = s.dict := rfl
@[simp] theorem State.profileAppend_ev (s : State) (h : Nat) (q : U64) : (s.profileAppend h q).ev = s.ev := rfl
@[simp] theorem State.profileAppend_time (s : State) (h : Nat) (q : U64) : (s.profileAppend h q).time = s.time := rfl
@[simp] theorem State.profileAppend_pwr (s : State) (h : Nat) (q : U64) : (s.profileAppend h q).pwr = s.pwr := rfl
@[simp] theorem State.profileAppend_link (s : State) (h : Nat) (q : U64) : (s.profileAppend h q).link = s.link := rfl
@[simp] theorem State.profileAppend_pair (s : State) (h : Nat) (q : U64) : (s.profileAppend h q).pair = s.pair := rfl
@[simp] theorem State.profileAppend_trust (s : State) (h : Nat) (q : U64) : (s.profileAppend h q).trust = s.trust := rfl
@[simp] theorem State.profileAppend_cas (s : State) (h : Nat) (q : U64) : (s.profileAppend h q).cas = s.cas := rfl
@[simp] theorem State.profileAppend_field (s : State) (h : Nat) (q : U64) : (s.profileAppend h q).field = s.field := rfl
@[simp] theorem State.profileAppend_acc (s : State) (h : Nat) (q : U64) : (s.profileAppend h q).acc = s.acc := rfl
@[simp] theorem State.profileAppend_arch (s : State) (h : Nat) (q : U64) : (s.profileAppend h q).arch = s.arch := rfl
@[simp] theorem State.profileAppend_weir (s : State) (h : Nat) (q : U64) : (s.profileAppend h q).weir = s.weir := rfl
@[simp] theorem State.profileAppend_bal (s : State) (h : Nat) (q : U64) : (s.profileAppend h q).bal = s.bal := rfl
@[simp] theorem State.profileAppend_upd (s : State) (h : Nat) (q : U64) : (s.profileAppend h q).upd = s.upd := rfl

@[simp] theorem State.runScript_pending (s : State) (p k : Nat) : (s.runScript p k).pending = s.pending := by
  simp only [State.runScript]; split <;> rfl
@[simp] theorem State.runScript_opens (s : State) (p k : Nat) : (s.runScript p k).opens = s.opens := by
  simp only [State.runScript]; split <;> rfl
@[simp] theorem State.runScript_late (s : State) (p k : Nat) : (s.runScript p k).late = s.late := by
  simp only [State.runScript]; split <;> rfl
@[simp] theorem State.runScript_dict (s : State) (p k : Nat) : (s.runScript p k).dict = s.dict := by
  simp only [State.runScript]; split <;> rfl
@[simp] theorem State.runScript_ev (s : State) (p k : Nat) : (s.runScript p k).ev = s.ev := by
  simp only [State.runScript]; split <;> rfl
@[simp] theorem State.runScript_time (s : State) (p k : Nat) : (s.runScript p k).time = s.time := by
  simp only [State.runScript]; split <;> rfl
@[simp] theorem State.runScript_pwr (s : State) (p k : Nat) : (s.runScript p k).pwr = s.pwr := by
  simp only [State.runScript]; split <;> rfl
@[simp] theorem State.runScript_link (s : State) (p k : Nat) : (s.runScript p k).link = s.link := by
  simp only [State.runScript]; split <;> rfl
@[simp] theorem State.runScript_pair (s : State) (p k : Nat) : (s.runScript p k).pair = s.pair := by
  simp only [State.runScript]; split <;> rfl
@[simp] theorem State.runScript_trust (s : State) (p k : Nat) : (s.runScript p k).trust = s.trust := by
  simp only [State.runScript]; split <;> rfl
@[simp] theorem State.runScript_cas (s : State) (p k : Nat) : (s.runScript p k).cas = s.cas := by
  simp only [State.runScript]; split <;> rfl
@[simp] theorem State.runScript_field (s : State) (p k : Nat) : (s.runScript p k).field = s.field := by
  simp only [State.runScript]; split <;> rfl
@[simp] theorem State.runScript_acc (s : State) (p k : Nat) : (s.runScript p k).acc = s.acc := by
  simp only [State.runScript]; split <;> rfl
@[simp] theorem State.runScript_arch (s : State) (p k : Nat) : (s.runScript p k).arch = s.arch := by
  simp only [State.runScript]; split <;> rfl
@[simp] theorem State.runScript_bill (s : State) (p k : Nat) : (s.runScript p k).bill = s.bill := by
  simp only [State.runScript]; split <;> rfl
@[simp] theorem State.runScript_weir (s : State) (p k : Nat) : (s.runScript p k).weir = s.weir := by
  simp only [State.runScript]; split <;> rfl
@[simp] theorem State.runScript_bal (s : State) (p k : Nat) : (s.runScript p k).bal = s.bal := by
  simp only [State.runScript]; split <;> rfl
@[simp] theorem State.runScript_upd (s : State) (p k : Nat) : (s.runScript p k).upd = s.upd := by
  simp only [State.runScript]; split <;> rfl

@[simp] theorem State.drive_pending (s : State) (p gen : Nat) : (s.drive p gen).pending = s.pending := by
  simp only [State.drive]; split
  · simp
  · rfl
@[simp] theorem State.drive_late (s : State) (p gen : Nat) : (s.drive p gen).late = s.late := by
  simp only [State.drive]; split
  · simp
  · rfl
@[simp] theorem State.drive_dict (s : State) (p gen : Nat) : (s.drive p gen).dict = s.dict := by
  simp only [State.drive]; split
  · simp
  · rfl
@[simp] theorem State.drive_ev (s : State) (p gen : Nat) : (s.drive p gen).ev = s.ev := by
  simp only [State.drive]; split
  · simp
  · rfl
@[simp] theorem State.drive_time (s : State) (p gen : Nat) : (s.drive p gen).time = s.time := by
  simp only [State.drive]; split
  · simp
  · rfl
@[simp] theorem State.drive_pwr (s : State) (p gen : Nat) : (s.drive p gen).pwr = s.pwr := by
  simp only [State.drive]; split
  · simp
  · rfl
@[simp] theorem State.drive_link (s : State) (p gen : Nat) : (s.drive p gen).link = s.link := by
  simp only [State.drive]; split
  · simp
  · rfl
@[simp] theorem State.drive_pair (s : State) (p gen : Nat) : (s.drive p gen).pair = s.pair := by
  simp only [State.drive]; split
  · simp
  · rfl
@[simp] theorem State.drive_trust (s : State) (p gen : Nat) : (s.drive p gen).trust = s.trust := by
  simp only [State.drive]; split
  · simp
  · rfl
@[simp] theorem State.drive_cas (s : State) (p gen : Nat) : (s.drive p gen).cas = s.cas := by
  simp only [State.drive]; split
  · simp
  · rfl
@[simp] theorem State.drive_acc (s : State) (p gen : Nat) : (s.drive p gen).acc = s.acc := by
  simp only [State.drive]; split
  · simp
  · rfl
@[simp] theorem State.drive_arch (s : State) (p gen : Nat) : (s.drive p gen).arch = s.arch := by
  simp only [State.drive]; split
  · simp
  · rfl
@[simp] theorem State.drive_bill (s : State) (p gen : Nat) : (s.drive p gen).bill = s.bill := by
  simp only [State.drive]; split
  · simp
  · rfl
@[simp] theorem State.drive_weir (s : State) (p gen : Nat) : (s.drive p gen).weir = s.weir := by
  simp only [State.drive]; split
  · simp
  · rfl
@[simp] theorem State.drive_bal (s : State) (p gen : Nat) : (s.drive p gen).bal = s.bal := by
  simp only [State.drive]; split
  · simp
  · rfl
@[simp] theorem State.drive_upd (s : State) (p gen : Nat) : (s.drive p gen).upd = s.upd := by
  simp only [State.drive]; split
  · simp
  · rfl

@[simp] theorem State.noteAlign_pending (s : State) (h : Nat) (id : U16) (status : U8) (cycle : Cycle) (al : Option LatchAlign) : (s.noteAlign h id status cycle al).pending = s.pending := rfl
@[simp] theorem State.noteAlign_out (s : State) (h : Nat) (id : U16) (status : U8) (cycle : Cycle) (al : Option LatchAlign) : (s.noteAlign h id status cycle al).out = s.out := rfl
@[simp] theorem State.noteAlign_opens (s : State) (h : Nat) (id : U16) (status : U8) (cycle : Cycle) (al : Option LatchAlign) : (s.noteAlign h id status cycle al).opens = s.opens := rfl
@[simp] theorem State.noteAlign_late (s : State) (h : Nat) (id : U16) (status : U8) (cycle : Cycle) (al : Option LatchAlign) : (s.noteAlign h id status cycle al).late = s.late := rfl
@[simp] theorem State.noteAlign_dict (s : State) (h : Nat) (id : U16) (status : U8) (cycle : Cycle) (al : Option LatchAlign) : (s.noteAlign h id status cycle al).dict = s.dict := rfl
@[simp] theorem State.noteAlign_ev (s : State) (h : Nat) (id : U16) (status : U8) (cycle : Cycle) (al : Option LatchAlign) : (s.noteAlign h id status cycle al).ev = s.ev := rfl
@[simp] theorem State.noteAlign_time (s : State) (h : Nat) (id : U16) (status : U8) (cycle : Cycle) (al : Option LatchAlign) : (s.noteAlign h id status cycle al).time = s.time := rfl
@[simp] theorem State.noteAlign_pwr (s : State) (h : Nat) (id : U16) (status : U8) (cycle : Cycle) (al : Option LatchAlign) : (s.noteAlign h id status cycle al).pwr = s.pwr := rfl
@[simp] theorem State.noteAlign_link (s : State) (h : Nat) (id : U16) (status : U8) (cycle : Cycle) (al : Option LatchAlign) : (s.noteAlign h id status cycle al).link = s.link := rfl
@[simp] theorem State.noteAlign_pair (s : State) (h : Nat) (id : U16) (status : U8) (cycle : Cycle) (al : Option LatchAlign) : (s.noteAlign h id status cycle al).pair = s.pair := rfl
@[simp] theorem State.noteAlign_trust (s : State) (h : Nat) (id : U16) (status : U8) (cycle : Cycle) (al : Option LatchAlign) : (s.noteAlign h id status cycle al).trust = s.trust := rfl
@[simp] theorem State.noteAlign_cas (s : State) (h : Nat) (id : U16) (status : U8) (cycle : Cycle) (al : Option LatchAlign) : (s.noteAlign h id status cycle al).cas = s.cas := rfl
@[simp] theorem State.noteAlign_field (s : State) (h : Nat) (id : U16) (status : U8) (cycle : Cycle) (al : Option LatchAlign) : (s.noteAlign h id status cycle al).field = s.field := rfl
@[simp] theorem State.noteAlign_arch (s : State) (h : Nat) (id : U16) (status : U8) (cycle : Cycle) (al : Option LatchAlign) : (s.noteAlign h id status cycle al).arch = s.arch := rfl
@[simp] theorem State.noteAlign_bill (s : State) (h : Nat) (id : U16) (status : U8) (cycle : Cycle) (al : Option LatchAlign) : (s.noteAlign h id status cycle al).bill = s.bill := rfl
@[simp] theorem State.noteAlign_weir (s : State) (h : Nat) (id : U16) (status : U8) (cycle : Cycle) (al : Option LatchAlign) : (s.noteAlign h id status cycle al).weir = s.weir := rfl
@[simp] theorem State.noteAlign_bal (s : State) (h : Nat) (id : U16) (status : U8) (cycle : Cycle) (al : Option LatchAlign) : (s.noteAlign h id status cycle al).bal = s.bal := rfl
@[simp] theorem State.noteAlign_upd (s : State) (h : Nat) (id : U16) (status : U8) (cycle : Cycle) (al : Option LatchAlign) : (s.noteAlign h id status cycle al).upd = s.upd := rfl

end Sys2Proof.Machine
end

