-- ==== Sys2Proof/WellFormed.lean ====
section
/-! DEFINITION. Well-formed commands: the bounds the spec gives their operands and the operands' Lean types do not. A command
that is not well formed is none the world can send; exec answers it all the same. -/

namespace Sys2Proof

/-- No repeats. -/
def distinct : List Nat → Bool
  | [] => true
  | x :: l => !l.contains x && distinct l

/-- A value fits an OCTETS value's length word (R44). -/
def octetsOk (b : Bytes) : Bool := decide (b.length ≤ 65535)

/-- A session that its transport has (R47): a CAN port and client, a probe port, one mailbox, one internal path. The number of
DTLS associations is left open. -/
def SessId.ok (i : SessId) : Bool :=
  match i.tr with
  | .canFd => decide (i.id < 256)
  | .sdo => decide (i.id < 256)
  | .coap => true
  | .mailbox => decide (i.id = 0)
  | .probe => decide (i.id < 2)
  | .internal => decide (i.id = 0)

/-- A request: its session, a mailbox slot below 32 (R66), and a meter handle only where the transport provides one (R43). -/
def Req.ok (r : Req) : Bool :=
  r.sess.ok &&
  (match r.sess.tr with
   | .mailbox => decide (r.token < 32)
   | .canFd => r.handle.isNone
   | .sdo => r.handle.isNone
   | .probe => r.handle.isNone
   | .coap => true
   | .internal => true)

/-- A block of RFC 7959 of a size R61 supports. -/
def blockOk (b : Option CoapBlock) : Bool :=
  match b with | none => true | some x => [16, 32, 64, 128, 256, 512, 1024].contains x.size && decide (x.num < 2 ^ 20)

/-- A CoAP content format. -/
def formatOk (f : Option Nat) : Bool := match f with | none => true | some n => decide (n < 65536)

/-- A port's report of a frame (R147, R159): erased samples are among the samples. -/
def Rx.ok (x : Rx) : Bool := decide (x.erased ≤ x.samples)

/-- A frame of a standard generation carries bytes. -/
def StdFrame.ok (f : StdFrame) : Bool := decide (1 ≤ f.bytes.length) && decide (f.bytes.length ≤ 2047)

/-- A record of a forwarding request (R196). -/
def FwdRecord.ok (x : FwdRecord) : Bool := decide (x.frame.bytes.length ≤ 65511)

/-- Channels and feeders of a 10/12-cycle block (R241): each once, in range. -/
def PqBlock.ok (b : PqBlock) : Bool :=
  b.channels.all (fun c => decide (c.chan < 128)) && b.feeders.all (fun f => decide (f.feeder < 64)) &&
  b.channels.all (fun c => decide (c.harm.length ≤ 49)) && distinct (b.channels.map (·.chan)) && distinct (b.feeders.map (·.feeder)) && decide (1 ≤ b.len)

/-- A PTP message's UTC offset is a 16-bit count (R83). -/
def PtpMsg.ok (m : PtpMsg) : Bool :=
  match m with
  | .announce a => (match a.utc with | none => true | some u => decide (-32768 ≤ u) && decide (u ≤ 32767))
  | .sync _ _ => true
  | .pdelayResp turn residence => decide (residence ≤ turn)
  | .other => true

/-- An NVMe command (R341): the admin queue or one of eight I/O queues, a 16-bit identifier, a 32-bit namespace. -/
def NvCmd.ok (c : NvCmd) : Bool := decide (c.queue ≤ 8) && decide (c.cid < 65536) && decide (c.nsid < 2 ^ 32)

/-- A heartbeat (R380): positions 0 and 1, eight bytes of digest. -/
def Heartbeat.ok (h : Heartbeat) : Bool :=
  decide (h.pos < 2) && decide (h.digest.length = 8) && (match h.winner with | none => true | some w => decide (w < 2))

/-- A meter's answer to a step (R361): a status code of attribute 6. -/
def CampAns.ok (a : CampAns) : Bool :=
  match a with
  | .attributes size _ => decide (1 ≤ size) && decide (size < 2 ^ 32)
  | .done => true
  | .missing blocks => distinct blocks
  | .status n => decide (n ≤ 7)
  | .content b => octetsOk b

/-- A campaign (R356, R387). -/
def CampCopy.ok (c : CampCopy) : Bool := decide (c.number < 64) && decide (c.st ≤ 7) && distinct (c.targets.map (·.toNat))

/-- A mirrored configuration message (R380): a group of R53, a campaign of R356. -/
def MirrorCfg.ok (c : MirrorCfg) : Bool :=
  match c with
  | .commit g _ => decide (g < 39)
  | .calendarSet a => octetsOk a
  | .calendarShift a => octetsOk a
  | .epoch a => octetsOk a
  | .campaign x => x.ok
  | .targets n _ a => decide (n < 64) && octetsOk a

/-- A bulk copy (R387): one record of each meter, one image of each context, its campaigns. -/
def BulkCopy.ok (b : BulkCopy) : Bool :=
  distinct (b.meters.map (fun m => m.handle.toNat)) && distinct (b.contexts.map (fun c => c.1.toNat)) &&
  distinct (b.keys.map (fun k => k.1.toNat)) && b.campaigns.all (·.ok) && b.contexts.all (fun c => decide (c.2.length = 128))

/-- What a start-up finds (R29, R396): 0 to 8 GiB of context memory, a fill count of at most 4,096 entries, images of the
three kinds and two slots. -/
def StartUp.ok (x : StartUp) : Bool :=
  decide (x.ctxGib ≤ 8) && (match x.count with | none => true | some n => decide (n ≤ 4096)) &&
  x.badImages.all (fun i => decide (1 ≤ i.1) && decide (i.1 ≤ 3) && decide (i.2 < 2))

/-- The due value of an enqueue is one of its delay list's ticks: 40 bits of cycle number, else 64 bits (R214). -/
def delayOk (d : Option (Fin 4 × Nat)) : Bool :=
  match d with | none => true | some x => if x.1 = 3 then decide (x.2 < 2 ^ 40) else decide (x.2 < 2 ^ 64)

/-- A command that the world can send. -/
def wellFormed (i : Instr) : Bool :=
  match i with
  | .objectWrite r _ v => r.ok && octetsOk v
  | .stagedWrite r _ v => r.ok && octetsOk v
  | .ocbImmediateWrite r _ v => r.ok && octetsOk v
  | .cfgMismatchTimeout _ => true
  | .commit r _ arg => r.ok && octetsOk arg
  | .discard r _ arg => r.ok && octetsOk arg
  | .groupSafePointApply _ => true
  | .restoreDefaults r arg => r.ok && octetsOk arg
  | .authenticationChallengeRead r => r.ok
  | .authenticationResponse r v => r.ok && octetsOk v
  | .authLockoutExpiry _ => true
  | .sessionIdleTimeout i => i.ok
  | .vendorChallengeRead r => r.ok
  | .verifyVendorToken r arg => r.ok && octetsOk arg
  | .vendorSessionExpiry i => i.ok
  | .meterKeyRecordWrite r v => r.ok && octetsOk v
  | .coapRequest r _ _ _ format block v _ => r.ok && blockOk block && octetsOk v && formatOk format
  | .sdoInitiate r _ _ _ => r.ok
  | .sdoSegment r _ v _ _ _ => r.ok && octetsOk v
  | .sdoSegmentTimeout r => r.ok
  | .coapBlockwiseTimeout r => r.ok
  | .probeSignOn _ => true
  | .probeRequest r _ _ => r.ok
  | .probeSignOff _ => true
  | .probeBreak _ => true
  | .mailboxDoorbell _ content => decide (content.length ≤ 65536)
  | .mailboxRequest _ _ _ => true
  | .mbxDoneClear _ => true
  | .nmtReset _ => true
  | .canHeartbeat _ => true
  | .canBusOffRecovery _ => true
  | .zcCrossing _ _ _ => true
  | .setCycleEpoch r arg => r.ok && octetsOk arg
  | .ptpMessageRx _ _ m _ => m.ok
  | .ptpMessageTx _ _ _ => true
  | .ptpAnnounceTimeout _ => true
  | .ppsInEdge _ => true
  | .arm r _ => r.ok
  | .disarm r _ => r.ok
  | .triggerFire _ _ => true
  | .captureEdge _ _ _ => true
  | .setCalendar r arg => r.ok && octetsOk arg
  | .subSecondShift r arg => r.ok && octetsOk arg
  | .temperatureBinSample _ => true
  | .trimWindowEnd _ _ => true
  | .relearnTrim r arg => r.ok && octetsOk arg
  | .lifeCycleTransition r arg _ => r.ok && octetsOk arg
  | .closeDebugPort r arg _ => r.ok && octetsOk arg
  | .lockPersonality r arg _ => r.ok && octetsOk arg
  | .importFleetWrapKey r arg => r.ok && octetsOk arg
  | .importKey r arg => r.ok && octetsOk arg
  | .deriveKey r arg => r.ok && octetsOk arg
  | .invalidate r arg => r.ok && octetsOk arg
  | .destroy r arg => r.ok && octetsOk arg
  | .changeFleetWrapKey r arg => r.ok && octetsOk arg
  | .keyUse _ _ => true
  | .remoteContextFetch _ => true
  | .attestationRequest r arg => r.ok && octetsOk arg
  | .peerDigestWrite r _ v => r.ok && octetsOk v
  | .nativeFrameRx _ bytes rx => decide (1 ≤ bytes.length) && decide (bytes.length ≤ 2047) && rx.ok
  | .nativePlcAckTx _ => true
  | .nativeRadioAckTx _ => true
  | .joinRequest _ bytes rx => decide (1 ≤ bytes.length) && decide (bytes.length ≤ 2047) && rx.ok
  | .joinResponse _ => true
  | .neighbourReport _ => true
  | .phaseReport _ => true
  | .resynchronised _ => true
  | .unknownCommand _ => true
  | .slotAssignmentTx _ => true
  | .timingHintTx _ => true
  | .plcBeaconTx _ => true
  | .pathSelection _ due => distinct (due.map (fun x => x.1.toNat))
  | .downlinkFrameTx _ _ content => octetsOk content
  | .downlinkAckRx _ f => octetsOk f.bytes && f.rx.ok
  | .downlinkAckTimeout _ _ => true
  | .blankingReseed _ _ => true
  | .g3FrameRx _ f rx => f.ok && rx.ok
  | .primeFrameRx _ f rx => f.ok && rx.ok
  | .standardAckTx _ => true
  | .g3LbpJoin _ _ => true
  | .g3RekeySwitch _ => true
  | .primeRegistration _ _ => true
  | .sfskDiscovery _ _ => true
  | .ocbLpduRx _ bytes rx => decide (1 ≤ bytes.length) && decide (bytes.length ≤ 2047) && rx.ok
  | .ocbAckTx _ => true
  | .setCycleBroadcast _ => true
  | .nativeBeaconStart _ => true
  | .radioBeaconStart _ => true
  | .radioBeaconTx _ => true
  | .wmbusFrameRx _ f _ rx => f.ok && rx.ok
  | .wmbusInstallRequest _ f => f.frame.ok && f.rx.ok
  | .sunFrameRx _ f rx => f.ok && rx.ok
  | .sunAssociation _ _ => true
  | .activeBeaconMissed _ => true
  | .forwardingRequest r _ records _ => r.ok && records.all (·.ok)
  | .enqueue _ _ _ _ _ delay => delayOk delay
  | .dispatchRead _ => true
  | .done _ _ => true
  | .retry _ => true
  | .fail _ => true
  | .delayDue _ => true
  | .budgetOverrun _ => true
  | .accountExhausted _ _ => true
  | .inputDeadlineDiscard src => decide (1 ≤ src) && decide (src ≤ 77)
  | .refCheck _ _ => true
  | .feederDemandIntervalEnd _ => true
  | .resetMaximumDemand r arg => r.ok && octetsOk arg
  | .pqBlockEnd b => b.ok
  | .pqAggregate _ freq => distinct (freq.map (fun x => x.1.val))
  | .pqEventDetect _ _ => true
  | .armLatch r arg => r.ok && octetsOk arg
  | .latchRecordComplete _ => true
  | .captureArm r => r.ok
  | .captureTriggerNow r => r.ok
  | .captureDisarm r => r.ok
  | .captureTrigger _ => true
  | .calibrateChannel r arg => r.ok && octetsOk arg
  | .calibrationMeasured _ => true
  | .latchNow r arg => r.ok && octetsOk arg
  | .setCycleUnicast _ => true
  | .latchAnswer _ _ _ _ => true
  | .segmentUpdate _ => true
  | .resetModel r arg => r.ok && octetsOk arg
  | .readingApply _ _ _ _ => true
  | .meterClockRead _ _ => true
  | .tariffActive _ => true
  | .dayBlockClose _ => true
  | .closePeriodNow r arg => r.ok && octetsOk arg
  | .tamperEdge _ _ => true
  | .clearTamperLatches r arg => r.ok && octetsOk arg
  | .prepayItem _ => true
  | .creditTransfer r arg => r.ok && octetsOk arg
  | .requestEmergencyCredit r arg => r.ok && octetsOk arg
  | .meterEcRequest _ _ => true
  | .adjustDebt r arg => r.ok && octetsOk arg
  | .noticeEnd _ => true
  | .disconnectIssue _ => true
  | .disconnectConfirmTimeout _ => true
  | .outputStateResponse _ _ => true
  | .reconnectIssue _ => true
  | .manualOn r => r.ok
  | .manualOff r => r.ok
  | .backToSchedule r => r.ok
  | .groupMemberCommand _ acked => distinct (acked.map (·.toNat))
  | .relaySwitch _ => true
  | .checkpointCommit _ _ => true
  | .nandOperationFail _ _ _ => true
  | .readScrub _ _ => true
  | .readDisturbRelocate _ => true
  | .archiveAppend _ _ _ _ body => octetsOk body
  | .nvmeRead c _ _ _ => c.ok && decide (1 ≤ c.queue)
  | .nvmeWrite c _ data _ => c.ok && decide (1 ≤ c.queue) && decide (1 ≤ data.length) && decide (data.length ≤ 65536) && data.all (fun x => x.length == 4096)
  | .nvmeFlush c => c.ok && decide (1 ≤ c.queue)
  | .nvmeDatasetManagement c _ ranges => c.ok && decide (1 ≤ c.queue) && decide (1 ≤ ranges.length) && decide (ranges.length ≤ 256)
  | .nvmeFormat c ses => c.ok && decide (c.queue = 0) && decide (ses < 8)
  | .nvmeIdentify c cns => c.ok && decide (c.queue = 0) && decide (cns < 256)
  | .nvmeGetLogPage c lid => c.ok && decide (c.queue = 0) && decide (lid < 256)
  | .nvmeSetFeatures c fid value => c.ok && decide (c.queue = 0) && decide (fid < 256) && decide (value < 2 ^ 32)
  | .nvmeGetFeatures c fid => c.ok && decide (c.queue = 0) && decide (fid < 256)
  | .nvmeCreateIoQueue c _ id _ cq => c.ok && decide (c.queue = 0) && decide (id < 65536) && decide (cq < 65536)
  | .nvmeDeleteIoQueue c _ id => c.ok && decide (c.queue = 0) && decide (id < 65536)
  | .nvmeAbort c queue cid => c.ok && decide (c.queue = 0) && decide (queue < 65536) && decide (cid < 65536)
  | .asynchronousEventRequest c => c.ok && decide (c.queue = 0)
  | .nvmeInvalidOpcode c => c.ok
  | .hmbMapFetch _ content => decide (content.length = 16384)
  | .beginDownload r arg => r.ok && octetsOk arg
  | .imageBlock r arg => r.ok && octetsOk arg
  | .finishDownload r arg => r.ok && octetsOk arg
  | .abandonDownload r arg => r.ok && octetsOk arg
  | .activate r arg => r.ok && octetsOk arg
  | .confirmHealth r arg stuck => r.ok && octetsOk arg && stuck.all (fun n => decide (n < 1280))
  | .configurationMigration _ _ => true
  | .campaignKindWrite r v => r.ok && octetsOk v
  | .contentBlock r arg => r.ok && octetsOk arg
  | .verify r => r.ok
  | .start r => r.ok
  | .pause r => r.ok
  | .resume r => r.ok
  | .cancel r => r.ok
  | .delete r => r.ok
  | .addTargets r arg => r.ok && octetsOk arg
  | .removeTargets r arg => r.ok && octetsOk arg
  | .campaignMulticastTx _ _ => true
  | .campaignUnicastStep _ _ => true
  | .campaignResponse _ _ a => a.ok
  | .campaignAttemptTimeout _ _ => true
  | .campaignActivationTime _ => true
  | .claimRound _ _ => true
  | .heartbeatRx h => h.ok
  | .entry _ bytes context => octetsOk bytes && octetsOk context
  | .confirmation _ _ _ => true
  | .contextChange _ _ image => decide (image.length = 128)
  | .billingDelta _ meters _ _ _ => distinct (meters.map (fun x => x.1.toNat))
  | .ledgerDelta _ _ record => octetsOk record
  | .keyOperation _ _ _ arg => octetsOk arg
  | .configuration _ c => c.ok
  | .timeState _ _ _ => true
  | .latchOrder _ _ _ => true
  | .handOver r arg => r.ok && octetsOk arg
  | .adoptPartnerConfiguration r arg _ => r.ok && octetsOk arg
  | .resyncComplete b => b.ok
  | .eventRaise _ _ => true
  | .eventTokenRefill _ => true
  | .clearChallengeRead r => r.ok
  | .clearEvents r arg => r.ok && octetsOk arg
  | .raiseApplicationEvent r arg => r.ok && octetsOk arg
  | .mainResetRelease x => x.ok
  | .islandFault _ => true
  | .quiesceTimeout _ => true
  | .blockResetRelease _ => true
  | .junctionTemperatureSample _ => true
  | .mainResetCommand r arg => r.ok && octetsOk arg
  | .clearRstcntInvalid r arg => r.ok && octetsOk arg
  | .vbatMeasure _ _ => true
  | .ethFrameRx _ f => decide (64 ≤ f.size)
  | .ethLinkChange _ _ => true
  | .remoteDownlinkTx _ => true
  | .remoteDownlinkResult _ results => decide (results.length ≤ 64)
  | .remoteDownlinkRetransmit _ => true
  | .remoteDownlinkExpiry _ => true
  | .dlvAvailWrite _ descs => decide (descs.length ≤ 65536)
  | .dlvBaseWrite _ _ => true
  | .readingDelivery _ => true
  | .serialPoll _ => true
  | .serialReplyRx _ _ f _ => f.ok
  | .serialResponseTimeout _ => true
  | .uartByteRx _ _ => true
  | .accessCodeEntry r v => r.ok && octetsOk v
  | .ocbLegalTimeWrite r v => r.ok && octetsOk v
  | .ocbHeadendConnect _ _ => true
  | .ocbHeadendDelivery _ msg _ => decide (2 ≤ msg.length) && decide (msg.length ≤ 65535)
  | .ocbHeadendKeepaliveTx _ => true
  | .ocbHeadendIdleClose _ => true
  | .clearOcbEventTable r arg => r.ok && octetsOk arg
  | .checkChannelSample _ raw => distinct (raw.map (fun x => x.1.val))
  | .memoryEccError _ _ => true
  | .sunBeaconTx _ => true
  | .nvmeControllerEnable _ => true
  | .partnerRemoval _ => true
  | .mailboxEnable => true
  | .mailboxDisable => true
  | .dictionaryAvailable => true
  | .zcPredictedCrossing => true
  | .ppsInMissed => true
  | .ppsOutPulse => true
  | .calWrap => true
  | .calendarSetTick => true
  | .calendarSetNoTick => true
  | .holdEnd => true
  | .calendarDiscipline => true
  | .oscStop => true
  | .dstOffsetChange => true
  | .dstTableLow => true
  | .orphanSweepEnd => true
  | .rewrapComplete => true
  | .attestationDone => true
  | .linkAgeing => true
  | .quietStartEnd => true
  | .journalStuck => true
  | .budgetPeriodBoundary => true
  | .captureDone => true
  | .measurementSettled => true
  | .latchOrderIssue => true
  | .armAbandon => true
  | .latchReportWait => true
  | .latchDeadline => true
  | .rateSwitch => true
  | .profileIntervalEnd => true
  | .billingClose => true
  | .periodGraceExpiry => true
  | .clockAdj => true
  | .outageRestoration => true
  | .tamperLogCopy => true
  | .displayFrameTx => true
  | .displayDwellExpiry => true
  | .btnNextPress => true
  | .btnNextHold => true
  | .btnHoldPress => true
  | .holdLimitExpiry => true
  | .loadgroupMinute => true
  | .loadgroupRelease => true
  | .garbageCollection => true
  | .archiveRetentionSweep => true
  | .stateRestore => true
  | .writeBufferProgram => true
  | .activationReset => true
  | .healthWindowExpiry => true
  | .claimLineStuck => true
  | .healthEvaluation => true
  | .leaseExpiry => true
  | .failedRestart => true
  | .pairStartWindowExpiry => true
  | .heartbeatTx => true
  | .billingDeltaTx => true
  | .mirrorRetransmit => true
  | .pairLost => true
  | .handoverTimeout => true
  | .pairYield => true
  | .gratuitousArp => true
  | .eventFlush => true
  | .powerFailWarning => true
  | .powerFailSequenceDone => true
  | .warningRecovered => true
  | .islandStageRelease => true
  | .acceptanceReady => true
  | .resetNAsserted => true
  | .watchdogExpiry => true
  | .vddAonAccept => true
  | .vddAonDrop => true
  | .retTrip => true
  | .prpSupervisionTx => true
  | .deliveryEnable => true
  | .deliveryDisable => true
  | .deliveryBufferReturn => true
  | .pcieLinkTrained => true
  | .pcieHotReset => true
  | .accessCodeLockoutExpiry => true
  | .oscillatorResume => true
  | .clockLoss => true
  | .mainSupplyLoss => true
  | .restorationHoldEnd => true
  | .friendlyHoursChange => true

end Sys2Proof
end

