-- ==== Sys2Proof/Tests/Slice0.lean ====
section
/-! SUPPORT. Tests: ill-formed commands refused, one step of a command of each family, and for every statement of
Certificates/Slice0/Obligations.lean a state and operands that meet the hypotheses of each of its clauses. A hypothesis that rests
on an uninterpreted Config value (a MAC, a signature, a CRC, an open value) cannot be evaluated and is left out of its witness; the
docstring says how many. -/

set_option Elab.async false

namespace Sys2Proof.Tests

open Sys2Proof.Machine

/-- A request of the device's own firmware, which no access check refuses. -/
def rq : Req := { sess := ⟨.internal, 0⟩ }

/-- The same for a meter. -/
def rqm (h : Handle) : Req := { sess := ⟨.internal, 0⟩, handle := some h }

/-- The row of an object that the table has. -/
def row (n : Nat) : ObjRow :=
  (rowOf n).getD ⟨0, 0, 0, 0, 0, .empty, .ro, .observer, 0, .any, .internal, 0, 0, .one⟩

theorem ok_of {α β : Type} [DecidableEq β] {x : Except α β} {n : β}
    (h : (match x with | .ok m => decide (m = n) | .error _ => false) = true) : x = .ok n := by
  split at h
  · simp only [decide_eq_true_eq] at h; rw [h]
  · simp at h

theorem locate_of {s : State} {r : Req} {n : Nat}
    (h : (match s.locate r n with | .ok o => decide (o = row n) | .error _ => false) = true) : s.locate r n = .ok (row n) := by
  split at h
  next o e => simp only [decide_eq_true_eq] at h; rw [e, h]
  next => simp at h

theorem starts_of {s : State} {r : Req} {n : Nat} {a : Bytes}
    (h : (match s.locate r n with | .ok o => decide (o = row n) | .error _ => false) = true)
    (h2 : s.accessRefuses r n (row n) .command = none ∧ (row n).checkArg a = none ∧ (s.cmdSt n (s.itemOf r (row n))).1 ≠ 1) :
    s.starts r n a (row n) := ⟨locate_of h, h2.1, h2.2.1, h2.2.2⟩

theorem writes_of {s : State} {r : Req} {n : Nat} {v : Bytes}
    (h : (match s.locate r n with | .ok o => decide (o = row n) | .error _ => false) = true)
    (h2 : s.accessRefuses r n (row n) .write = none ∧ (row n).checkValue v = none) : s.writes r n v (row n) :=
  ⟨locate_of h, h2.1, h2.2⟩

theorem guard_of {s : State} {r : Req} {n : Nat}
    (h : (match s.readGuard r n with | .ok o => decide (o = row n) | .error _ => false) = true) : s.readGuard r n = .ok (row n) := by
  split at h
  next o e => simp only [decide_eq_true_eq] at h; rw [e, h]
  next => simp at h

theorem guardErr_of {s : State} {r : Req} {n : Nat} {a : Abort}
    (h : (match s.readGuard r n with | .ok _ => false | .error b => decide (b = a)) = true) : s.readGuard r n = .error a := by
  split at h
  next => simp at h
  next o e => simp only [decide_eq_true_eq] at h; rw [e, h]

/-- The device running: dictionary, acceptance and every island up. -/
def up : State := { State.reset with
  dict := { State.reset.dict with available := true }
  pwr := { State.reset.pwr with stage := 6, acceptReady := true, quiet := false, islands := List.replicate 10 .running }
  arch := { State.reset.arch with restored := true } }

/-- A stored value. -/
def cfg (s : State) (num : Nat) (v : Bytes) (inst : Nat := 0) : State := s.storeVal num inst v

/-- A unit of a pair in a role, its partner heard. -/
def inPair (s : State) (role : PairRole) (partner : PairRole := .standby) (health : Nat := 50) (mine : Nat := 50) : State :=
  { s with pair := { s.pair with role := role, link := true, health := mine,
                                 hb := some ⟨partner, 1, 0, none, health, false, false, false, List.replicate 8 0, 0⟩ } }

/-- A slot with a key of a usage, below the root. -/
def key (s : State) (n usage : Nat) : State := s.setSlot n ⟨mkAttr usage 1 rootParent 0 0 0 false, [1]⟩

/-- A native power-line port 0 with its network key in slot 16. -/
def plc : State :=
  key (cfg (cfg (cfg up 0x400101 [4]) 0x400103 [1]) 0x400609 [16, 0, 0, 0]) 16 1

/-- A native radio port 12 with its network key in slot 16. -/
def rad : State := key (cfg (cfg (cfg up 0x410001 [3]) 0x410002 [1]) 0x410603 [16, 0, 0, 0]) 16 1

/-- An offer of a frame of meter 5. -/
def off (rule : CountRule) (k : Option Nat := some 16) : Offer :=
  { src := 1, handle := 5, link := 0, digest := [1], port := none, key := k, op := .ccm, verify := fun _ => some [2],
    rule := rule, ackOf := fun _ _ => [], macOf := fun _ => none, erasures := false, stamp := 0, late := false }

/-- Meter 5 with a context. -/
def ctx5 (c : Ctx) : State := { key up 16 1 with acc := { up.acc with ctx := [(5, c)] } }

/-- An item of work. -/
def job : Item :=
  { id := 0, kind := 1, telemetry := false, resumed := false, fromDelay := false, key := 5, ref := 0, acct := 1, born := 0, since := 0, sent := false
    st := .running 0 0, wants := [] }

/-- Core 0 at work on flow 1. -/
def busy : State := { up with cas := { up.cas with flows := [(1, [job])], cores := [some (1, 0), none, none, none], inUse := 1 } }

/-- A frame on Ethernet. -/
def frm : EthFrame := { source := 1, size := 100 }

/-- Network time and crossings locked. -/
def lock (s : State) : State :=
  { s with time := { s.time with tracker := .locked, sync := .locked, lastStamp := some 0, untrusted := false } }

/-- A port's state. -/
def port (s : State) (n : Nat) (p : FieldPort) : State := { s with field := { s.field with ports := [(n, p)] } }

/-- Campaign 0. -/
def camp (s : State) (c : Campaign) : State := { s with upd := { s.upd with camps := [(0, c)] } }

/-- A life cycle. -/
def lc (s : State) (n : BitVec 3) : State := { s with trust := { s.trust with lcFuse := n } }

/-- A session of the internal path with a role. -/
def asRole (s : State) (x : Role) : State := s.setSess ⟨.internal, 0⟩ (fun y => { y with role := x })

/-- A latch order at cycle 1 that meter 5 has not answered. -/
def order (armed : Bool := false) : Order := { id := 1, target := 1, answers := [(5, .waiting armed)] }

/-- With that order issued, at a cycle. -/
def ordered (cycle : Cycle) (armed : Bool := false) : State :=
  { up with bal := { up.bal with orders := [order armed] }, time := { up.time with cycle := cycle } }

/-- A partner of a port. -/
def partner (s : State) (x : Partner) : State := { s with field := { s.field with partners := [(5, x)] } }

/-- A MAC command waiting. -/
def mac (s : State) (p code : Nat) (body : Bytes) : State := { s with field := { s.field with mac := [⟨p, 5, code, body⟩] } }

/-- A ledger of meter 5. -/
def owes (s : State) (l : Ledger) : State := { s with bill := { s.bill with app := { s.bill.app with ledgers := [(5, l)] } } }

/-- The OCB personality. -/
def ocb : State := { up with pwr := { up.pwr with ocb := true }, trust := { up.trust with lcFuse := 1 } }

/-- A request over classic CAN SDO. -/
def rsdo : Req := { sess := ⟨.sdo, 1⟩ }

/-- A native frame of meter 5 to station 7, type and key index given, 16 bytes of MIC. -/
def nfr (type keyIx : Nat) : Bytes :=
  [BitVec.ofNat 8 (32 * type + 16), 7, 0, 5, 0, 0, 1, 0, 0, 0, BitVec.ofNat 8 keyIx, 1, 0, 9] ++ List.replicate 16 0

/-- Station 7 on port 0. -/
def plc7 : State := cfg plc 0x400601 [7, 0]

/-- A capture of channel 3 set up. -/
def capt (st : Nat) : State :=
  { cfg up 0x605001 ([16, 0, 8] ++ List.replicate 15 0) with weir := { up.weir with capSt := st } }

theorem err_of {α : Type} {x : Except Abort α} {a : Abort} (h : (match x with | .ok _ => false | .error b => decide (b = a)) = true) :
    x = .error a := by
  split at h
  next => simp at h
  next => simp only [decide_eq_true_eq] at h; rw [h]

/-- The state of an order that is issued. -/
def issued (x : Except Abort State) : State := match x with | .ok t => t | .error _ => State.reset

theorem issued_of {x : Except Abort State} (h : x.toBool = true) : x = .ok (issued x) := by
  cases x with
  | ok t => rfl
  | error a => simp [Except.toBool] at h

theorem keyErr_of {x : Except KeyErr Nat} {a : KeyErr} (h : (match x with | .ok _ => false | .error b => decide (b = a)) = true) :
    x = .error a := by
  split at h
  next => simp at h
  next => simp only [decide_eq_true_eq] at h; rw [h]

/-- A journal entry of meter 5. -/
def ent (q : U64 := 1) : JEntry :=
  { seq := q, isOpen := true, withheld := false, keepalive := false, remote := false, latch := false, unsecured := false
    erasures := false, mirrored := false, macCmd := false, handle := 5, link := 0, counter := 1, digest := List.replicate 8 0
    at_ := 0, cycle := 0, ackFlags := 0, ackOffset := 0, keyVersion := 0, payload := [1], effected := false, born := 0 }

/-- A journal of one entry. -/
def jrn (s : State) (e : JEntry) : State := { s with acc := { s.acc with journal := [e], nextSeq := e.seq + 1 } }

/-- Function 0 of PCIe, with a delivery ring. -/
def pci (d : Delivery) : State := { up with link := { up.link with pcie := true, dlv := d } }

/-- Legal time, trusted. -/
def cal (s : State) (t : CalTime) : State := { s with time := { s.time with cal := t, untrusted := false } }

/-- Profile interval 0, from a minute of billing time. -/
def ival (s : State) (start : Nat) (to_ : Option Int := none) : State :=
  { s with bill := { s.bill with app := { s.bill.app with ivals := [(0, ⟨0, 0, to_, start, 0, 0, 0, true⟩)] } } }

/-- The Host Volume presented, its controller ready, as state bits. -/
def nvm : State :=
  { cfg (cfg (cfg up 0x800203 [1, 0, 0, 0]) 0x804001 [1]) 0x800201 [0, 0, 0, 0] with
    link := { up.link with pcie := true }
    arch := { up.arch with rdy := true, ccEn := true, nsUp := true, usable := [(0, {}), (4, {})] } }

/-- Meter 5's own key in slot 4096. -/
def own5 (s : State) : State := key { s with trust := { s.trust with meterSlot := [(5, 4096)], pins := [5] } } 4096 1

/-- The clock at an instant. -/
def clock (s : State) (t : Nat) : State := { s with time := { s.time with net := t, everLocked := true } }

/-- The Host Volume presented while the storage island is held. -/
def nvmHeld : State := { nvm with pwr := { up.pwr with islands := up.pwr.islands.set 4 .held } }

/-- A pending value of an object. -/
def pends (num : Nat) (v : Bytes) : State := { up with dict := { up.dict with pend := [(storeKey num 0, v)] } }

/-- A scheduled order is due. -/
def sched (s : State) : State := cfg (cfg (cfg s 0x610001 [1]) 0x610003 [244, 1, 0, 0]) 0x610006 [244, 1, 0, 0, 0, 0, 0, 0]

/-- What an operation that completes answers. -/
def got (x : Option State) : State := x.getD State.reset

theorem got_of {x : Option State} (h : x.isSome = true) : x = some (got x) := by
  cases x with
  | some t => rfl
  | none => simp at h

/-- A Station whose waiting readings fill the delivery room. -/
def full (e : JEntry) : State :=
  jrn (pci { base := 4096, entries := 64, enabled := true, waiting := [(0, List.replicate 262144 0)] }) e

/-- What one waiting reading of zeros holds. -/
theorem held_replicate (d : Delivery) (k n : Nat) (h : d.waiting = [(k, List.replicate n 0)]) : d.held = n := by
  simp [Delivery.held, h]

/-- Its room is passed by any further byte: by the length of the waiting reading, not byte by byte. -/
theorem full_room (e : JEntry) (n : Nat) (h : 0 < n) : (full e).dlvRoom < (full e).link.dlv.held + n := by
  have h1 : (full e).link.dlv.held = 262144 := held_replicate _ 0 262144 rfl
  have h2 : (full e).dlvRoom = 262144 := rfl
  omega

/-- A CENELEC port with a group key in slot 16 and meter 5's own key. -/
def g3Join : State := own5 (key (cfg (cfg (cfg up 0x400101 [1]) 0x400103 [1]) 0x400403 [16, 0, 0, 0]) 16 1)

/-- Meter 5 joined there. -/
def g3Joined : State :=
  got (((g3Join.bumpPort 0 1).setFport 0 (fun x => { x with joins := x.joins + 1 })).joinPartner 0 5 (g3Join.pcfg 0 1 1))

theorem orphan_congr {s t : State} (h : s.trust = t.trust) (f n : Nat) : s.orphan f n = t.orphan f n := by
  have hs : ∀ n, s.slot n = t.slot n := fun n => by simp [State.slot, h]
  induction f generalizing n with
  | zero => rfl
  | succ f ih => simp [State.orphan, hs, ih]

theorem keyCheck_congr {s t : State} (h : s.trust = t.trust) (k : Nat) (op : KeyOp) (b : Bool) : s.keyCheck k op b = t.keyCheck k op b := by
  have hs : ∀ n, s.slot n = t.slot n := fun n => by simp [State.slot, h]
  simp [State.keyCheck, hs, orphan_congr h]

/-- The group key is given where both keys are usable, whatever account is charged between them. -/
theorem groupKey_of {s : State} {p h i n : Nat} {t : State} {k : Bytes} (h0 : s.isUp 2 = true) (h1 : s.useMeterKey h .cmac = (some k, t))
    (h2 : t.trust = s.trust) (h3 : t.pwr = s.pwr) (h4 : s.keyCheck (s.pcfg p 4 3) .ccm false = .ok n) :
    s.giveGroupKey p h i = some (got (s.giveGroupKey p h i)) := by
  apply got_of
  have e : s.lineMeterKey none h .cmac = (some k, t.chargeKey none) := by
    simp [State.lineMeterKey, h0, h1]
  have tr : (t.chargeKey none).trust = s.trust := by simp [h2]
  have u : (t.chargeKey none).isUp 2 = true := by rw [← h0]; simp [State.isUp, h3]
  simp [State.giveGroupKey, e, State.lineKey, u, State.useKey, keyCheck_congr tr, h4]

theorem some_of {α : Type} {x : Option α} (h : x.isSome = true) : x ≠ none := by
  cases x <;> simp_all

theorem pair_of {α β : Type} {x : Option α × β} (h : x.1.isSome = true) : x = (some (x.1.get h), x.2) :=
  Prod.ext (Option.some_get h).symm rfl

/-- A partner is as before after a key use that an open account is charged for. -/
theorem partner_of {s t : State} {h n : Nat} {op : KeyOp} {k : Bytes} {y : Partner} (h0 : s.isUp 2 = true)
    (h1 : s.useMeterKey h op = (some k, t)) (h2 : t.partner n = some y) : (s.lineMeterKey none h op).2.partner n = some y := by
  have e : s.lineMeterKey none h op = (some k, t.chargeKey none) := by
    simp [State.lineMeterKey, h0, h1]
  have f : (t.chargeKey none).field = t.field := by
    simp
  rw [e, ← h2]; simp [State.partner, f]

/-- Meter 5 with a downlink waiting, in the slot of port 0. -/
def downDue : State :=
  port (own5 (partner { clock plc 1000000 with time := { (clock plc 1000000).time with cycle := 1, lastStamp := some 0 } }
    { port := 0, gen := 4, hasPath := true, queue := [⟨none, [1], false, 0⟩] })) 0 { began := true }

/-- The same after the port took its work. -/
def downTaken : State := (downDue.takePortItem 0 []).showResults

/-- A transmission of less than 600 ms keeps a campaign within its share where nothing was sent lately. -/
theorem shareFits_of {s : State} {c p n : Nat} (h0 : s.lately c p = []) (h1 : 1 ≤ s.campShare c p) :
    s.shareFits c p (n % 600000) = true := by
  have := Nat.mod_lt n (show 0 < 600000 by decide)
  simp [State.shareFits, h0]; omega

/-- Where a command leads. -/
def after (c : Instr) (s : State) : State := match exec c s with | .next t => t | _ => State.reset

/-! Ill-formed commands are refused by `wellFormed`, each by its own check. -/

theorem test_wf_session : wellFormed (.authenticationChallengeRead { sess := ⟨.canFd, 256⟩ }) = false := by decide
theorem test_wf_mailbox_slot : wellFormed (.clearChallengeRead { sess := ⟨.mailbox, 0⟩, token := 32 }) = false := by decide
theorem test_wf_can_has_no_handle : wellFormed (.verify { sess := ⟨.canFd, 1⟩, handle := some 5 }) = false := by decide
theorem test_wf_probe_id : wellFormed (.sessionIdleTimeout ⟨.probe, 2⟩) = false := by decide
/-- The length of an octet string of zeros, by its number and not byte by byte. -/
theorem octetsOk_replicate (n : Nat) (b : Byte) : octetsOk (List.replicate n b) = decide (n ≤ 65535) := by simp [octetsOk]
theorem test_wf_octets : octetsOk (List.replicate 65536 0) = false := (octetsOk_replicate 65536 0).trans (by decide)
theorem test_wf_block_size : wellFormed (.coapRequest { sess := ⟨.coap, 1⟩ } [] .get ⟨0x1018, 1⟩ none (some ⟨0, false, 2048⟩) [] {}) = false := by decide
theorem test_wf_content_format : formatOk (some 65536) = false := by decide
theorem test_wf_erased_samples : Rx.ok { stamp := 0, samples := 3, erased := 4 } = false := by decide
theorem test_wf_empty_frame : wellFormed (.g3FrameRx 0 ⟨5, 1, 0, .t2, []⟩ { stamp := 0 }) = false := by decide
theorem forwardOk_replicate (n : Nat) : FwdRecord.ok ⟨1, 5, 0, ⟨5, 1, 0, .t2, List.replicate n 0⟩, false⟩ = decide (n ≤ 65511) := by
  simp [FwdRecord.ok]
theorem test_wf_forward_length : FwdRecord.ok ⟨1, 5, 0, ⟨5, 1, 0, .t2, List.replicate 65512 0⟩, false⟩ = false :=
  (forwardOk_replicate 65512).trans (by decide)
theorem test_wf_pq_channel : wellFormed (.pqBlockEnd ⟨200000000, [{ chan := 128, rms := 0, thd := 0 }], []⟩) = false := by decide
theorem test_wf_ptp_residence : wellFormed (.ptpMessageRx 0 0 (.pdelayResp 1 2) 0) = false := by decide
theorem test_wf_nvme_queue : wellFormed (.nvmeFlush ⟨9, 1, 1⟩) = false := by decide
theorem test_wf_heartbeat : wellFormed (.heartbeatRx ⟨.active, 2, 1, none, 50, false, false, false, List.replicate 8 0, 0⟩) = false := by decide
theorem test_wf_campaign_answer : wellFormed (.campaignResponse 0 5 (.status 8)) = false := by decide
theorem test_wf_campaign_copy : wellFormed (.configuration 1 (.campaign ⟨64, 0, [], [], []⟩)) = false := by decide
theorem test_wf_group : wellFormed (.configuration 1 (.commit 39 [])) = false := by decide
theorem test_wf_bulk_copy : wellFormed (.resyncComplete ⟨[(5, [])], [], [], 0, 0, 0, [], [], []⟩) = false := by decide
theorem test_wf_start_up : wellFormed (.mainResetRelease { ctxGib := 9 }) = false := by decide
theorem test_wf_delay : wellFormed (.enqueue 0 1 false 5 0 (some (0, 2 ^ 64))) = false := by decide
theorem test_wf_distinct : wellFormed (.groupMemberCommand 0 [5, 5]) = false := by decide
theorem test_wf_lba_data : wellFormed (.nvmeWrite ⟨1, 1, 1⟩ 0 [[]] false) = false := by decide

/-! One step of a command of each family, expected as the rule named says. -/

/-- The queue is served from its front (the model's frame of a step). -/
theorem test_step_front : step { up with pending := [.ethLinkChange 0 3, .calWrap] } = exec (.ethLinkChange 0 3) { up with pending := [.calWrap] } := by rfl
/-- Log entry 8: on an empty queue one tick passes. -/
theorem test_idle_tick : step up = .next up.tick := by rfl
/-- R51: a plain write is stored. -/
theorem test_plain_write : (after (.objectWrite rq ⟨0x3300, 1⟩ [4]) up).cfgN 0x330001 = 4 := by decide +kernel
/-- R52: a staged write leaves the value in force. -/
theorem test_staged_write : (after (.stagedWrite rq ⟨0x3100, 5⟩ [60]) up).cfgN 0x310005 = 50 := by decide +kernel
/-- R96: 2100 is no leap year. -/
theorem test_calendar_2100 : (CalTime.next ⟨2100, 2, 28, 23, 59, 59⟩).1 = ⟨2100, 3, 1, 0, 0, 0⟩ := by decide
/-- R96: 2400 is not reached: the calendar wraps to 2000. -/
theorem test_calendar_wrap : CalTime.next ⟨2399, 12, 31, 23, 59, 59⟩ = ({}, true) := by decide
/-- R74, R76: the next crossing takes the next cycle number. -/
theorem test_crossing : (after (.zcCrossing 0 20000000 100000) (lock up)).time.cycle = 1 := by decide +kernel
/-- R94: an edge the capture takes is stamped and counted. -/
theorem test_capture_edge : (after (.captureEdge 2 true 77) (cfg up 0x350201 [1])).time.captures = [(2, { last := 77, count := 1 })] := by decide +kernel
/-- R121, R122: a destroyed slot holds no key. -/
theorem test_destroy : ((after (.destroy rq [100, 0, 0, 0]) (key up 100 1)).slot 100).valid = false := by decide +kernel
/-- R114: the transition to FIELDED is refused in BLANK. -/
theorem test_life_cycle_order : (after (.lifeCycleTransition rq (leBytes 4 (lcMagic + 2)) 0) up).trust.lc = .blank := by decide +kernel
/-- R174: the third missed beacon of the Active unit is a suspicion. -/
theorem test_missed_beacon : (after (.activeBeaconMissed 0) (port (inPair plc .standby) 0 { missed := 2 })).pair.suspicions = 1 := by decide +kernel
/-- R206: an item enqueued stands on its flow. -/
theorem test_enqueue : ((after (.enqueue 5 1 false 5 9 none) up).cas.flows.map (fun x => (x.1, x.2.map (·.ref)))) = [(5, [9])] := by decide +kernel
/-- R243: an armed latch waits for its target. -/
theorem test_arm_latch : ((after (.armLatch rq [100, 0, 0, 0, 0, 0, 0, 0, 7, 0]) up).weir.latches.map (fun l => (l.id, l.target))) = [(7, 100)] := by decide +kernel
/-- R293, R294: an edge of the cover is counted and recorded with kind 0x45 (opened, input 1, OSF still set after power-on). -/
theorem test_tamper_edge : ((after (.tamperEdge 0 true) up).bill.tampCount, (after (.tamperEdge 0 true) up).bill.tampFirst.map (·.kind)) = ([1, 0, 0], [0x45]) := by decide +kernel
/-- R296: BTN_HOLD stops scrolling. -/
theorem test_btn_hold : (after .btnHoldPress up).bill.dispHold = true := by decide +kernel
/-- R315: a relay change waiting for its edge is made. -/
theorem test_relay : ((after (.relaySwitch 3) { up with bill := { up.bill with relays := [(3, { due := some (true, 9) })] } }).relay 3).on = true := by decide +kernel
/-- R328, R329: an appended record is held by its class. -/
theorem test_archive_append : ((after (.archiveAppend 1 false 5 9 [1, 2]) up).recsOf 1).map (fun x => (x.subject, x.stamp, x.body)) = [(5, 9, [1, 2])] := by decide +kernel
/-- R341: an Asynchronous Event Request is held while no event waits. -/
theorem test_aer : (after (.asynchronousEventRequest ⟨0, 7, 0⟩) nvm).arch.aers = [7] := by decide +kernel
/-- R350: an abandoned download is forgotten. -/
theorem test_abandon : (after (.abandonDownload rq []) { up with upd := { up.upd with dl := some 1 } }).upd.dl = none := by decide +kernel
/-- R357: a running campaign is paused. -/
theorem test_campaign_pause : ((after (.pause rq) (camp up { st := 3 })).camp 0).st = 4 := by decide +kernel
/-- R380: a heartbeat is kept. -/
theorem test_heartbeat : ((after (.heartbeatRx ⟨.standby, 1, 9, none, 40, false, false, false, List.replicate 8 0, 0⟩) (inPair up .active)).pair.hb.map (·.claim)) = some 9 := by decide +kernel
/-- R390, R391: an occurrence is counted and logged. -/
theorem test_event : ((tblGet {} (after (.eventRaise 0x142 7) up).ev.sums 0x142).count, (after (.eventRaise 0x142 7) up).ev.buf.map (·.measure)) = (1, [7]) := by decide +kernel
/-- R405: PFW_N falls. -/
theorem test_warning : (after .powerFailWarning up).pwr.pfw = true := by decide +kernel
/-- R417: the crypto island's fault begins a block reset. -/
theorem test_island_fault : ((after (.islandFault 2) up).pwr.islands.getD 2 .held) = .quiescing := by decide +kernel
/-- R425: BAT_LOW below 2.4 V, BAT_ABSENT below 1.0 V. -/
theorem test_vbat :
    ((after (.vbatMeasure 2399 3300) up).pwr.batLow, (after (.vbatMeasure 2400 3300) up).pwr.batLow,
      (after (.vbatMeasure 999 3300) up).pwr.batAbsent) = (true, false, true) := by decide +kernel
/-- R443: a link that is up shows its speed, on a port that is on. -/
theorem test_eth_link : ((after (.ethLinkChange 0 3) (cfg up 0x420001 [1])).link.eth.map (fun x => (x.1, x.2.link))) = [(0, 3)] := by decide +kernel
/-- R448: 0x2201:01 shows PL1, whose native object is 0x4010:01. -/
theorem test_ocb_view : ocbTarget 0x220101 = some 0x401001 := by decide
/-- Each table of objects lies within the indices it is listed with. -/
theorem test_object_tables : objChunks.all (fun c => c.2.2.all (fun o => c.1.ble o.index && (o.index + o.stride * (o.ports - 1)).ble c.2.1)) = true := by
  decide +kernel

/-! Every statement has states and operands that meet its hypotheses, clause by clause. -/

/-- Hypotheses of AcceptanceJournalsEachFrameOnce. -/
theorem test_hyps_AcceptanceJournalsEachFrameOnce :
    (∃ (s : State) (o : Offer), ((s.accept o).fst ≠ AccRes.accepted)) ∧
    (∃ (s : State) (o : Offer) (n : U32) (c : Ctx), (o.rule = CountRule.counter n) ∧ (s.ctxOf o.handle = some c) ∧ (c.counterValid = true) ∧
      ((s.accept o).fst = AccRes.accepted)) ∧
    (∃ (s : State) (u : State) (v : State) (w : State) (o : Offer) (c : Ctx) (key : Bytes) (body : Bytes) (n : U32), (s.pwr.pfw = false) ∧
      (s.admitInput o.src = (true, u)) ∧ (u.ctxOf o.handle = some c) ∧ (c.remote = false) ∧ (o.rule ≠ CountRule.unsecured) ∧ (u.offerKey o = (some
      key, v)) ∧ (w = v.chargeOpen 93 1 1) ∧ (o.verify key = some body) ∧ (BitVec.toNat c.keyVersion ≤ w.keyVersionOf o.handle) ∧ (w.judge c o.digest
      o.rule = CountRes.fresh n) ∧ (w.acc.closed = false)) :=
  ⟨⟨(State.reset : State), (off (.counter 0) (some 16) : Offer), by decide +kernel⟩,
   ⟨(ctx5 { counterValid := true, counter := 1 } : State), (off (.counter 2) : Offer), (2 : U32), ({ counterValid := true, counter := 1 } : Ctx),
     by decide +kernel⟩,
   by refine ⟨(ctx5 { counterValid := true, counter := 1 } : State), (((ctx5 { counterValid := true, counter := 1 }).admitInput 1).2 : State),
     (((((ctx5 { counterValid := true, counter := 1 }).admitInput 1).2).offerKey (off (.counter 2))).2 : State), ((((((ctx5
     { counterValid := true, counter := 1 }).admitInput 1).2).offerKey (off (.counter 2))).2).chargeOpen 93 1 1 : State), (off (.counter 2) : Offer),
     ({ counterValid := true, counter := 1 } : Ctx), ([1] : Bytes), ([2] : Bytes), (2 : U32), ?_, Prod.ext (by decide +kernel) rfl, ?_, ?_, ?_,
     Prod.ext (by decide +kernel) rfl, rfl, ?_⟩ <;> decide +kernel⟩

/-- Hypotheses of AccountsAndPeriods. -/
theorem test_hyps_AccountsAndPeriods :
    (∃ (s : State) (c : Fin 4) (f : Nat) (since : Nat) (it : Item), (s.onCore c.val = some (f, it, since))) ∧
    (∃ (s : State) (c : Fin 4), (s.onCore c.val = none)) ∧
    (∃ (s : State) (a : Fin 16) (r : Fin 4), (0 < s.balance a.val r.val)) ∧
    (∃ (s : State) (a : Fin 16) (r : Fin 4), (s.balance a.val r.val ≤ 0)) ∧
    (∃ (s : State), (s.pwr.inReset = true ∨ s.isUp 3 = false ∨ s.boundaryDue = none)) ∧
    (∃ (s : State) (u : State) (v : State) (w : State) (n : Nat), (s.pwr.inReset = false) ∧ (s.isUp 3 = true) ∧ (s.boundaryDue = some n) ∧ (u =
      ((s.periodValues.sluiceBoundary n).weirFallback n).answerLate.rewrapRun.releaseDone.showResults) ∧ (v =
      u.deliveryPeriod.pacedAfresh.erasesEnded.startCheckpoint) ∧ (w = (v.time.lastStamp.elim v fun x => v.mirror MirrorKind.timeState 0 (leBytes 5
      (BitVec.toNat v.time.cycle) ++ time64 x ++ leBytes 1 v.time.tracker.code ++ leBytes 1 v.time.sync.code)).runInputs.runHost.activationReset) ∧
      (w.pwr.atPeriod = none)) ∧
    (∃ (s : State) (n : Nat) (a : Nat), (s.cas.firstPeriod = false) ∧ (a < 16)) :=
  ⟨⟨(busy : State), (0 : Fin 4), (1 : Nat), (0 : Nat), (job : Item), by decide +kernel⟩,
   ⟨(State.reset : State), (0 : Fin 4), by decide +kernel⟩,
   ⟨({ up with cas := { up.cas with accts := [(0, { bal := [1, 0, 0, 0] })] } } : State), (0 : Fin 16), (0 : Fin 4), by decide +kernel⟩,
   ⟨(State.reset : State), (0 : Fin 16), (0 : Fin 4), by decide +kernel⟩,
   ⟨(State.reset : State), by decide +kernel⟩,
   by refine ⟨(clock up 20000000 : State), (((((clock up 20000000).periodValues).sluiceBoundary 20000000).weirFallback
     20000000).answerLate.rewrapRun.releaseDone.showResults : State), (((((((clock up 20000000).periodValues).sluiceBoundary 20000000).weirFallback
     20000000).answerLate.rewrapRun.releaseDone.showResults).deliveryPeriod).pacedAfresh.startCheckpoint : State), (((((((((clock up
     20000000).periodValues).sluiceBoundary 20000000).weirFallback
     20000000).answerLate.rewrapRun.releaseDone.showResults).deliveryPeriod).pacedAfresh.startCheckpoint).time.lastStamp.elim (((((((clock up
     20000000).periodValues).sluiceBoundary 20000000).weirFallback
     20000000).answerLate.rewrapRun.releaseDone.showResults).deliveryPeriod).pacedAfresh.startCheckpoint) fun x => (((((((clock up
     20000000).periodValues).sluiceBoundary 20000000).weirFallback
     20000000).answerLate.rewrapRun.releaseDone.showResults).deliveryPeriod).pacedAfresh.startCheckpoint).mirror MirrorKind.timeState 0 (leBytes 5
     (BitVec.toNat (((((((clock up 20000000).periodValues).sluiceBoundary 20000000).weirFallback
     20000000).answerLate.rewrapRun.releaseDone.showResults).deliveryPeriod).pacedAfresh.startCheckpoint).time.cycle) ++ time64
     x)).runInputs.runHost.activationReset : State), (20000000 : Nat), ?_, ?_, ?_, rfl, rfl, rfl, ?_⟩ <;> decide +kernel,
   ⟨(State.reset : State), (0 : Nat), (0 : Nat), by decide +kernel⟩⟩

/-- Hypotheses of AttestationProducesAStatement. -/
theorem test_hyps_AttestationProducesAStatement :
    (∃ (s : State) (r : Req) (arg : Bytes) (o : ObjRow), (s.starts r 0xA03001 arg o)) ∧
    (∃ (s : State) (n : Bytes), (s.trust.attNonce = some n)) ∧
    (∃ (s : State), (s.trust.attNonce = none)) :=
  ⟨⟨(State.reset : State), (rq : Req), (List.replicate 32 7 : Bytes), (row 0xA03001), starts_of (by decide +kernel) (by decide +kernel)⟩,
   ⟨({ up with trust := { up.trust with attNonce := some [7] } } : State), ([7] : Bytes), by decide +kernel⟩,
   ⟨(State.reset : State), by decide +kernel⟩⟩

/-- Hypotheses of BackhaulAndWiredLinks. -/
theorem test_hyps_BackhaulAndWiredLinks :
    (∃ (s : State) (p : Fin 4) (f : EthFrame), (s.ethOn p.val = false ∨ f.fcsOk = true ∧ 1536 < f.size)) ∧
    (∃ (s : State) (p : Fin 4) (f : EthFrame), (s.ethOn p.val = true) ∧ (f.fcsOk = false)) ∧
    (∃ (s : State) (p : Fin 4) (f : EthFrame), (s.ethOn p.val = true) ∧ (f.fcsOk = true) ∧ (f.size ≤ 1536) ∧ (f.noBuf = true)) ∧
    (∃ (s : State) (p : Fin 4) (f : EthFrame), (s.ethOn p.val = true) ∧ (f.fcsOk = true) ∧ (f.size ≤ 1536) ∧ (f.noBuf = false) ∧ (f.prp = none ∨ 2 ≤
      p.val ∨ s.prpOn = false ∨ f.ptp = true)) ∧
    (∃ (s : State) (p : Fin 4) (f : EthFrame) (q : U16), (s.ethOn p.val = true) ∧ (f.fcsOk = true) ∧ (f.size ≤ 1536) ∧ (f.noBuf = false) ∧ (f.prp =
      some q) ∧ (p.val < 2) ∧ (s.prpOn = true) ∧ (f.ptp = false)) ∧
    (∃ (s : State) (p : Fin 4) (v : Fin 4), (s.pwr.inReset = true)) ∧
    (∃ (s : State) (p : Fin 4) (v : Fin 4), (s.pwr.inReset = false)) ∧
    (∃ (s : State), (s.prpOn = false ∨ s.ethOn 0 = false ∨ s.ethOn 1 = false)) ∧
    (∃ (s : State), (s.prpOn = true) ∧ (s.ethOn 0 = true) ∧ (s.ethOn 1 = true)) ∧
    (∃ (s : State) (a : Nat), (s.remoteFor a = [] ∨ s.acting = false ∨ s.pwr.inReset = true)) ∧
    (∃ (s : State) (a : Nat), (s.remoteFor a ≠ []) ∧ (s.acting = true) ∧ (s.pwr.inReset = false)) ∧
    (∃ (s : State) (k : Nat) (l : List (U32 × U8)), (∀ (q : RdReq), q ∈ s.link.remote → q.token ≠ k)) ∧
    (∃ (s : State) (k : Nat) (l : List (U32 × U8)), (∃ q, q ∈ s.link.remote ∧ q.token = k)) ∧
    (∃ (s : State) (k : Nat) (q : RdReq), (s.link.remote = [q]) ∧ (q.token = k) ∧ (q.sends < 4)) ∧
    (∃ (s : State) (k : Nat) (q : RdReq), (s.link.remote = [q]) ∧ (q.token = k) ∧ (4 ≤ q.sends)) ∧
    (∃ (s : State) (p : Fin 16), (s.serialOurs = false ∨ s.serCfg p.val 1 = 0 ∨ s.isUp 6 = false)) ∧
    (∃ (s : State) (p : Fin 16) (h : Nat) (l : List Nat), (s.serialOurs = true) ∧ (s.serCfg p.val 1 ≠ 0) ∧ (s.isUp 6 = true) ∧ ((s.serial
      p.val).asking = none) ∧ ((s.serial p.val).round = []) ∧ (s.metersOn p.val = h :: l) ∧ (s.serialFull p.val = false) ∧ (s.takeSerialItem p.val =
      none)) ∧
    (∃ (s : State) (p : Fin 16) (g : Bool) (f : StdFrame) (x : Rx), ((s.serial p.val).asking = none)) ∧
    (∃ (s : State) (p : Fin 16) (f : StdFrame) (x : Rx) (h : Nat) (n : Nat), ((s.serial p.val).asking = some (h, n)) ∧ (s.isUp 6 = true) ∧ (n <
      s.serCfg p.val 5) ∧ (s.serialOurs = true)) ∧
    (∃ (s : State) (p : Fin 16) (f : StdFrame) (x : Rx) (h : Nat) (n : Nat), ((s.serial p.val).asking = some (h, n)) ∧ (s.isUp 6 = true) ∧
      (BitVec.toNat f.handle ≠ h)) ∧
    (∃ (s : State) (p : Fin 16) (f : StdFrame) (x : Rx) (h : Nat) (n : Nat), ((s.serial p.val).asking = some (h, n)) ∧ (s.isUp 6 = true) ∧
      (BitVec.toNat f.handle = h) ∧ (f.mode = 0) ∧ (s.serCfg p.val 7 = 0) ∧ (s.takeSerialItem p.val = none)) ∧
    (∃ (s : State) (p : Fin 16) (f : StdFrame) (x : Rx) (h : Nat) (n : Nat), ((s.serial p.val).asking = some (h, n)) ∧ (s.isUp 6 = true) ∧
      (BitVec.toNat f.handle = h) ∧ (f.mode ≠ 0)) ∧
    (∃ (s : State) (p : Fin 2) (b : Byte), (s.cfgB (0x443001 + 2048 * p.val) = false ∨ s.isUp 6 = false)) ∧
    (∃ (s : State) (p : Fin 2) (b : Byte), (s.cfgB (0x443001 + 2048 * p.val) = true) ∧ (s.isUp 6 = true) ∧ (256 ≤ (tblGet [] s.link.uart
      p.val).length)) ∧
    (∃ (s : State) (p : Fin 2) (b : Byte), (s.cfgB (0x443001 + 2048 * p.val) = true) ∧ (s.isUp 6 = true) ∧ ((tblGet [] s.link.uart p.val).length <
      256)) :=
  ⟨⟨(cfg up 0x420001 [0] : State), (0 : Fin 4), (frm : EthFrame), by decide +kernel⟩,
   ⟨(cfg up 0x420001 [1] : State), (0 : Fin 4), ({ frm with fcsOk := false } : EthFrame), by decide +kernel⟩,
   ⟨(cfg up 0x420001 [1] : State), (0 : Fin 4), ({ frm with size := 1536, noBuf := true } : EthFrame), by decide +kernel⟩,
   ⟨(cfg up 0x420001 [1] : State), (0 : Fin 4), ({ frm with size := 1536 } : EthFrame), by decide +kernel⟩,
   ⟨(cfg (cfg (cfg up 0x420001 [1]) 0x421001 [1]) 0x420301 [1] : State), (0 : Fin 4), ({ frm with prp := some 9 } : EthFrame), (9 : U16),
     by decide +kernel⟩,
   ⟨({ up with pwr := { up.pwr with inReset := true } } : State), (0 : Fin 4), (0 : Fin 4), by decide +kernel⟩,
   ⟨(State.reset : State), (0 : Fin 4), (0 : Fin 4), by decide +kernel⟩,
   ⟨(cfg up 0x420301 [0] : State), by decide +kernel⟩,
   ⟨(State.reset : State), by decide +kernel⟩,
   ⟨(State.reset : State), (0 : Nat), by decide +kernel⟩,
   ⟨({ up with link := { up.link with remoteWait := [⟨4, true, 5, 1, 0, []⟩], assoc := [(5, 7)] } } : State), (7 : Nat), by decide +kernel⟩,
   ⟨(State.reset : State), (0 : Nat), ([] : List (U32 × U8)), by decide +kernel⟩,
   ⟨({ up with link := { up.link with remote := [⟨7, 3, 0, []⟩] } } : State), (3 : Nat), ([] : List (U32 × U8)), by decide +kernel⟩,
   ⟨({ up with link := { up.link with remote := [⟨7, 3, 3, []⟩] } } : State), (3 : Nat), (⟨7, 3, 3, []⟩ : RdReq), by decide +kernel⟩,
   ⟨({ up with link := { up.link with remote := [⟨7, 3, 4, []⟩] } } : State), (3 : Nat), (⟨7, 3, 4, []⟩ : RdReq), by decide +kernel⟩,
   ⟨(cfg up 0x420001 [0] : State), (0 : Fin 16), by decide +kernel⟩,
   ⟨({ (cfg (cfg (cfg up 0x430001 [1]) 0xC02201 [0] 5) 0x901104 [8, 0, 0, 0]) with trust := { up.trust with meters := [(5, [])] } } : State),
     (0 : Fin 16), (5 : Nat), ([] : List Nat), by decide +kernel⟩,
   ⟨(State.reset : State), (0 : Fin 16), (true : Bool), ({ handle := 5, counter := 0, bytes := [1] } : StdFrame), ({ stamp := 0 } : Rx),
     by decide +kernel⟩,
   ⟨({ (cfg (cfg up 0x430001 [1]) 0x430005 [2]) with link := { up.link with serial := [(0, { asking := some (5, 1) })] } } : State), (0 : Fin 16),
     ({ handle := 5, counter := 0, bytes := [1] } : StdFrame), ({ stamp := 0 } : Rx), (5 : Nat), (1 : Nat), by decide +kernel⟩,
   ⟨({ (cfg (cfg up 0x430001 [1]) 0x430005 [2]) with link := { up.link with serial := [(0, { asking := some (5, 1) })] } } : State), (0 : Fin 16),
     ({ handle := 6, counter := 0, bytes := [1] } : StdFrame), ({ stamp := 0 } : Rx), (5 : Nat), (1 : Nat), by decide +kernel⟩,
   ⟨({ (cfg (cfg up 0x430001 [1]) 0x430007 [0]) with link := { up.link with serial := [(0, { asking := some (5, 1) })] } } : State), (0 : Fin 16),
     ({ handle := 5, counter := 0, bytes := [1] } : StdFrame), ({ stamp := 0 } : Rx), (5 : Nat), (1 : Nat), by decide +kernel⟩,
   ⟨({ (cfg (cfg up 0x430001 [1]) 0x430005 [2]) with link := { up.link with serial := [(0, { asking := some (5, 1) })] } } : State), (0 : Fin 16),
     ({ handle := 5, counter := 0, mode := 1, bytes := [1] } : StdFrame), ({ stamp := 0 } : Rx), (5 : Nat), (1 : Nat), by decide +kernel⟩,
   ⟨(State.reset : State), (0 : Fin 2), (0 : Byte), by decide +kernel⟩,
   ⟨({ cfg up 0x443001 [1] with link := { up.link with uart := [(0, List.replicate 256 0)] } } : State), (0 : Fin 2), (0 : Byte), by decide +kernel⟩,
   ⟨({ cfg up 0x443001 [1] with link := { up.link with uart := [(0, List.replicate 255 0)] } } : State), (0 : Fin 2), (0 : Byte), by decide +kernel⟩⟩

/-- Hypotheses of BeaconsAndStartUpOfFieldPorts. -/
theorem test_hyps_BeaconsAndStartUpOfFieldPorts :
    (∃ (s : State) (p : Fin 12), (s.isNative p.val = true) ∧ (s.takesFrames = true) ∧ (s.time.tracker = Tracker.locked)) ∧
    (∃ (s : State) (p : Fin 12), (s.time.tracker ≠ Tracker.locked)) ∧
    (∃ (s : State) (p : Fin 12), (s.isNative (p.val + 12) = true) ∧ (s.takesFrames = true) ∧ (s.time.sync = Sync.locked ∨ s.time.untrusted = false) ∧
      ((s.fport (p.val + 12)).began = false)) ∧
    (∃ (s : State) (p : Fin 12) (n : Nat), (s.isNative p.val = true) ∧ (s.mayTransmit p.val = true) ∧ ((s.fport p.val).began = true) ∧ (BitVec.toNat
      s.time.cycle % 2 ^ s.pcfg p.val 6 2 = 0) ∧ (s.isUp 2 = true) ∧ (s.keyCheck (s.netKey p.val) KeyOp.ccm false = .ok n)) ∧
    (∃ (s : State) (p : Fin 12), (BitVec.toNat s.time.cycle % 2 ^ s.pcfg p.val 6 2 ≠ 0)) ∧
    (∃ (s : State) (p : Fin 12) (n : Nat), (s.isNative (p.val + 12) = true) ∧ (s.mayTransmit (p.val + 12) = true) ∧ ((s.fport (p.val + 12)).began =
      true) ∧ (s.time.net / 1000000000 % 2 ^ s.pcfg (p.val + 12) 6 2 = 0 ∨ (s.fport (p.val + 12)).startSf = some (s.superframe (p.val + 12)) ∨
      (s.fport (p.val + 12)).firstSf = some (s.superframe (p.val + 12))) ∧ (s.slotKept = true) ∧ ((s.fport (p.val + 12)).beaconSecs.contains
      (s.time.net / 1000000000) = false) ∧ (s.isUp 2 = true) ∧ (s.keyCheck (s.netKey (p.val + 12)) KeyOp.ccm false = .ok n)) ∧
    (∃ (s : State) (p : Fin 12), ((s.fport (p.val + 12)).beaconSecs.contains (s.time.net / 1000000000) = true)) ∧
    (∃ (s : State) (p : Fin 12), (s.pcfg (p.val + 12) 0 1 = 2) ∧ (s.mayTransmit (p.val + 12) = true)) ∧
    (∃ (s : State) (p : Fin 12), (s.pcfg p.val 1 1 = 1 ∨ s.pcfg p.val 1 1 = 2 ∨ s.pcfg p.val 1 1 = 3) ∧ (s.mayTransmit p.val = true) ∧ (s.time.tracker
      = Tracker.locked ∨ s.time.tracker = Tracker.holdover)) ∧
    (∃ (s : State) (p : Fin 24), (s.isStandby = true) ∧ (s.isNative p.val = true) ∧ ((s.fport p.val).missed + 1 ≠ 3)) ∧
    (∃ (s : State) (p : Fin 24), (s.isStandby = true) ∧ (s.isNative p.val = true) ∧ ((s.fport p.val).missed = 2)) ∧
    (∃ (s : State) (p : Fin 24), (s.isStandby = false)) :=
  ⟨⟨(lock plc : State), (0 : Fin 12), by decide +kernel⟩,
   ⟨(State.reset : State), (0 : Fin 12), by decide +kernel⟩,
   ⟨(lock rad : State), (0 : Fin 12), by decide +kernel⟩,
   by refine ⟨(port plc 0 { began := true } : State), (0 : Fin 12), (16 : Nat), ?_, ?_, ?_, ?_, ?_, ok_of (by decide +kernel)⟩ <;> decide +kernel,
   ⟨({ plc with time := { plc.time with cycle := 1 } } : State), (0 : Fin 12), by decide +kernel⟩,
   by refine ⟨(port { rad with time := { rad.time with net := 0 } } 12 { began := true } : State), (0 : Fin 12), (16 : Nat), ?_, ?_, ?_, ?_, ?_, ?_,
     ?_, ok_of (by decide +kernel)⟩ <;> decide +kernel,
   ⟨(port (clock up 0) 12 { beaconSecs := [0] } : State), (0 : Fin 12), by decide +kernel⟩,
   ⟨(cfg (cfg up 0x410001 [2]) 0x410002 [1] : State), (0 : Fin 12), by decide +kernel⟩,
   ⟨(lock (cfg (cfg up 0x400101 [1]) 0x400103 [1]) : State), (0 : Fin 12), by decide +kernel⟩,
   ⟨(inPair plc .standby : State), (0 : Fin 24), by decide +kernel⟩,
   ⟨(port (inPair plc .standby) 0 { missed := 2 } : State), (0 : Fin 24), by decide +kernel⟩,
   ⟨(State.reset : State), (0 : Fin 24), by decide +kernel⟩⟩

/-- Hypotheses of CalendarLinkAndJoinCommandsComplete. 7 that rest on a Config value left out. -/
theorem test_hyps_CalendarLinkAndJoinCommandsComplete :
    (∃ (s : State) (r : Req) (arg : Bytes) (o : ObjRow), (s.starts r 0x320100 arg o) ∧ (setArgOk arg = true) ∧ (s.time.lockout = false)) ∧
    (∃ (s : State) (c : CalTime) (who : Option (Req × Bool)), (s.time.pendSet = some (c, who)) ∧ (s.time.pendShift = none) ∧ (s.time.oscStopped =
      false)) ∧
    (∃ (s : State) (r : Req) (arg : Bytes) (o : ObjRow) (n : Int), (s.starts r 0x320200 arg o) ∧ (n = toSigned 16 (leNat arg)) ∧ (0 < n) ∧
      (s.time.lockout = false) ∧ (s.time.hold = none) ∧ (s.time.oscStopped = false) ∧ ((↑s.time.sub.toNat : Int) + n < 32768)) ∧
    (∃ (s : State), (s.time.cal = calLast)) ∧
    (∃ (s : State), (s.cfgN 0x320300 = 2) ∧ (s.time.sync = Sync.locked) ∧ (s.time.lockout = false) ∧ (s.time.oscStopped = false) ∧ (1000000000 ≤
      (s.legalNs - (↑s.time.calNs : Int)).natAbs) ∧ (0 ≤ s.legalNs / 1000000000 + 1) ∧ (s.legalNs / 1000000000 + 1 < 400 * 365 * 86400 + 97 * 86400))
      ∧
    (∃ (s : State) (x : BitVec 16) (e : Nat), (s.time.sync = Sync.locked) ∧ (s.time.lockout = false) ∧ (s.time.trimFed = [])) ∧
    (∃ (s : State) (r : Req) (arg : Bytes) (o : ObjRow), (s.starts r 0x320404 arg o) ∧ (s.time.lockout = false)) ∧
    (∃ (s : State) (d : Int), (d = (↑(dstLast s) : Int) - (↑(s.time.cal.secs / 60) : Int)) ∧ (dstLast s ≠ 0) ∧ (d < 366 * 1440)) ∧
    (∃ (s : State) (p : Fin 12) (m : MacCmd), (List.find? (fun m => m.port == p.val && m.code == 3) s.field.mac = some m) ∧ (fieldAt m.body 0 1 = 1) ∧
      (List.length m.body = 12)) ∧
    (∃ (s : State) (p : Fin 12) (m : MacCmd), (List.find? (fun m => m.port == p.val && m.code == 4) s.field.mac = some m)) ∧
    (∃ (s : State) (p : Fin 24) (m : MacCmd) (x : Partner), (List.find? (fun m => m.port == p.val && m.code == 5) s.field.mac = some m) ∧ (s.partner
      m.handle = some x)) ∧
    (∃ (s : State) (p : Fin 24) (m : MacCmd), (List.find? (fun m => m.port == p.val && !knownCode p.val m.code) s.field.mac = some m)) ∧
    (∃ (s : State) (u : State) (p : Fin 12) (h : Nat) (x : Partner) (a : Nat × Nat × Nat × Nat), (List.find? (fun x => x.snd.port == p.val + 12 &&
      x.snd.assignDue) s.field.partners = some (h, x)) ∧ (x.slot = some a) ∧ (u = s.setPartner h fun y => { y with assignDue := false }) ∧
      ((u.lineMeterKey none h KeyOp.ccm).fst ≠ none)) ∧
    (∃ (s : State) (u : State) (p : Fin 24) (h : Nat) (x : Partner), (List.find? (fun x => x.snd.port == p.val && x.snd.hintDue) s.field.partners =
      some (h, x)) ∧ (u = s.setPartner h fun y => { y with hintDue := false }) ∧ ((u.lineMeterKey none h KeyOp.ccm).fst ≠ none) ∧ (u.sendCommand p.val
      h 7 (leBytes 4 (ofSigned 32 x.err) ++ leBytes 2 (Min.min 65535 (2 * x.drift)) ++ [1]) false ≠ none)) ∧
    (∃ (s : State) (p : Fin 12) (h : Handle) (j : Fin 8) (step : Nat) (cost : Nat) (l : List Nat) (x : Partner), (s.partner (BitVec.toNat h) = some x)
      ∧ (x.known = false) ∧ (s.bestPath p.val (BitVec.toNat h) j.val step = some (cost, l))) ∧
    (∃ (s : State) (u : State) (v : State) (p : Fin 24) (h : Handle) (c : Bytes) (b : Bytes) (x : Partner) (d : Down) (rest : List Down)
      (path : List Nat) (span : Nat), (s.mayTransmit p.val = true) ∧ (u = (s.takePortItem p.val c).showResults) ∧ (u.partner (BitVec.toNat h) = some
      x) ∧ (x.queue = d :: rest) ∧ (x.port = p.val) ∧ (u.isNative p.val = true) ∧ (u.routeTo p.val (BitVec.toNat h) = some (path, span)) ∧ ((u.fport
      p.val).began = true) ∧ (x.sync ≠ 2) ∧ (x.unreachable = false) ∧ (u.slotOpen p.val span (some x) = true) ∧ (x.flight = none) ∧ (List.length
      d.body ≤ u.sendLimit p.val) ∧ (u.downFrame p.val (BitVec.toNat h) path d = (some b, v)) ∧ (u.dutyFits p.val (airtime (u.pcfg p.val 3 2)
      (List.length b)) = true)) ∧
    (∃ (s : State) (u : State) (v : State) (p : Fin 24) (b : Bytes) (rx : Rx) (x : Partner) (y : Partner) (c : Nat) (f : Bytes) (key : Bytes)
      (d : Down) (rest : List Down), (s.pathRuns = true) ∧ (s.isNative p.val = true) ∧ (s.takesFrames = true) ∧ (s.deaf p.val rx = false) ∧ (fieldAt b
      0 1 / 32 = 1) ∧ (s.partner (fieldAt b 3 3 % 2 ^ 20) = some x) ∧ (x.flight = some (c, f)) ∧ (x.port = p.val) ∧ (s.screenAck p.val b rx = (true,
      v)) ∧ (fieldAt b (6 + 3 * (fieldAt b 0 1 / 4 % 4)) 4 = c) ∧ (v.lineMeterKey none (fieldAt b 3 3 % 2 ^ 20) KeyOp.cmac = (some key, u)) ∧
      (u.partner (fieldAt b 3 3 % 2 ^ 20) = some y) ∧ (y.queue = d :: rest)) ∧
    (∃ (s : State) (p : Fin 24) (h : Handle) (x : Partner), (s.partner (BitVec.toNat h) = some x) ∧ (x.port = p.val) ∧ (x.flight ≠ none) ∧ (isRf p.val
      = false ∨ x.inHome = true)) ∧
    (∃ (s : State) (p : Fin 12) (rms : U16), (s.pcfg p.val 3 1 ≠ 0) ∧ ((s.fport p.val).muteTo ≤ s.time.net)) ∧
    (∃ (s : State) (u : State) (p : Fin 12) (f : StdFrame) (rx : Rx) (k : Nat) (offer : Offer), (s.pathRuns = true) ∧ (s.pcfg p.val 1 1 = 1 ∨ s.pcfg
      p.val 1 1 = 2) ∧ (s.stdPortOk p.val (s.pcfg p.val 1 1) = true) ∧ (s.deaf p.val rx = false) ∧ (s.g3Key p.val f.mode = some k) ∧ (s.impulseDrops
      p.val rx = false) ∧ (u = s.heard p.val rx) ∧ (u.takesFrames = true) ∧ (rx.late = false) ∧ (offer = stdOffer p.val (s.pcfg p.val 1 1) (some k)
      (CountRule.counter f.counter) f rx (u.erasures p.val rx))) ∧
    (∃ (s : State) (u : State) (p : Fin 12) (f : StdFrame) (rx : Rx) (offer : Offer), (s.pathRuns = true) ∧ (s.stdPortOk p.val 3 = true) ∧ (s.deaf
      p.val rx = false) ∧ (f.mode = s.pcfg p.val 5 3) ∧ (s.impulseDrops p.val rx = false) ∧ (u = s.heard p.val rx) ∧ (u.takesFrames = true) ∧ (rx.late
      = false) ∧ (offer = stdOffer p.val 3 (some (s.pcfg p.val 5 4)) (CountRule.counter f.counter) f rx (u.erasures p.val rx))) ∧
    (∃ (s : State) (u : State) (p : Fin 12) (f : StdFrame) (l : WMode) (rx : Rx) (offer : Offer), (s.pathRuns = true) ∧ (s.stdPortOk (p.val + 12) 6 =
      true) ∧ (s.pcfg (p.val + 12) 4 1 / 2 ^ l.bit % 2 = 1) ∧ (f.mode = 7) ∧ (l.bidi = true) ∧ (s.pcfg (p.val + 12) 4 5 = 1) ∧ (u = (s.setPartner
      (BitVec.toNat f.handle) fun x => { x with bidi := l.bidi, link := some l }).heard (p.val + 12) rx) ∧ (u.takesFrames = true) ∧ (rx.late = false)
      ∧ (offer = stdOffer (p.val + 12) 6 none (CountRule.counter f.counter) (inMode f l) rx (u.erasures (p.val + 12) rx))) ∧
    (∃ (s : State) (u : State) (p : Fin 12) (f : StdFrame) (rx : Rx) (offer : Offer), (s.pathRuns = true) ∧ (s.stdPortOk (p.val + 12) 7 = true) ∧
      (f.mode = s.pcfg (p.val + 12) 5 6) ∧ (u = s.heard (p.val + 12) rx) ∧ (u.takesFrames = true) ∧ (rx.late = false) ∧ (offer = stdOffer (p.val + 12)
      7 (some (s.pcfg (p.val + 12) 5 5)) (CountRule.counter f.counter) f rx (u.erasures (p.val + 12) rx))) ∧
    (∃ (s : State) (u : State) (p : Fin 12) (b : Bytes) (rx : Rx) (offer : Offer), (s.pathRuns = true) ∧ (s.stdPortOk p.val 5 = true) ∧ (s.deaf p.val
      rx = false) ∧ (s.impulseDrops p.val rx = false) ∧ (fieldAt b 0 1 / 64 = 0) ∧ (fieldAt b 0 1 / 32 % 2 ≠ 0) ∧ (u = s.heard p.val rx) ∧
      (u.takesFrames = true) ∧ (rx.late = false) ∧ (offer = ocbOffer (p.val + 1) (beNat (slice b 2 2)) (linkWord p.val 5) (some p.val) b rx
      (u.erasures p.val rx))) ∧
    (∃ (s : State) (u : State) (p : Fin 12) (h : Handle), (s.pathRuns = true) ∧ (s.takesFrames = true) ∧ (s.mayTransmit p.val = true) ∧ ((s.fport
      p.val).joins < s.joinLimit p.val) ∧ (u = (s.bumpPort p.val 1).setFport p.val fun x => { x with joins := x.joins + 1 }) ∧ (s.pcfg p.val 1 1 = 3)
      ∧ (u.joinPartner p.val (BitVec.toNat h) 3 ≠ none)) ∧
    (∃ (s : State) (u : State) (p : Fin 12) (h : Handle), (s.pathRuns = true) ∧ (s.takesFrames = true) ∧ (s.mayTransmit p.val = true) ∧ ((s.fport
      p.val).joins < s.joinLimit p.val) ∧ (u = (s.bumpPort p.val 1).setFport p.val fun x => { x with joins := x.joins + 1 }) ∧ (s.pcfg p.val 1 2 = 1)
      ∧ (u.joinPartner p.val (BitVec.toNat h) 5 ≠ none)) ∧
    (∃ (s : State) (u : State) (p : Fin 12) (h : Handle), (s.pathRuns = true) ∧ (s.takesFrames = true) ∧ (s.mayTransmit p.val = true) ∧ ((s.fport
      p.val).joins < s.joinLimit p.val) ∧ (u = (s.bumpPort p.val 1).setFport p.val fun x => { x with joins := x.joins + 1 }) ∧ (s.pcfg p.val 1 1 = 1 ∨
      s.pcfg p.val 1 1 = 2) ∧ (s.partner (BitVec.toNat h) = none) ∧ (u.joinPartner p.val (BitVec.toNat h) (s.pcfg p.val 1 1) ≠ none)) ∧
    (∃ (s : State) (u : State) (p : Fin 12) (f : StdHeard), (s.pathRuns = true) ∧ (s.takesFrames = true) ∧ (s.mayTransmit (p.val + 12) = true) ∧
      ((s.fport (p.val + 12)).joins < s.joinLimit (p.val + 12)) ∧ (s.stdPortOk (p.val + 12) 6 = true) ∧ (s.pcfg (p.val + 12) 4 1 / 2 ^
      f.frame.link.bit % 2 = 1) ∧ (u = s.setFport (p.val + 12) fun x => { x with joins := x.joins + 1 }) ∧ (u.joinPartner (p.val + 12) (BitVec.toNat
      f.frame.handle) 1 ≠ none)) ∧
    (∃ (s : State) (u : State) (p : Fin 12) (h : Handle), (s.pathRuns = true) ∧ (s.takesFrames = true) ∧ (s.mayTransmit (p.val + 12) = true) ∧
      ((s.fport (p.val + 12)).joins < s.joinLimit (p.val + 12)) ∧ (s.pcfg (p.val + 12) 0 1 = 2) ∧ (u = (s.bumpPort (p.val + 12) 1).setFport (p.val +
      12) fun x => { x with joins := x.joins + 1 }) ∧ (u.joinPartner (p.val + 12) (BitVec.toNat h) 2 ≠ none)) ∧
    (∃ (s : State) (p : Fin 12) (k : Rekey), ((s.fport p.val).rekey = some k) ∧ (k.start + 600000000000 ≤ s.time.net)) ∧
    (∃ (s : State) (e : JEntry), (List.find? (fun x => x.isOpen) s.acc.journal = some e) ∧ (s.cfgN 0x501003 * 32768 < s.time.mono - e.born)) ∧
    (∃ (s : State) (src : Nat) (x : Held), (src ≤ 24) ∧ (List.find? (fun x => x.src == src) s.acc.inputs = some x)) ∧
    (∃ (s : State) (t : State) (r : Req) (peer : Bytes) (l : List FwdRecord) (stamp : Nat) (a : List (Bytes × Option U64) × State), (s.association
      r.sess peer = some t) ∧ (t.pathRuns = true) ∧ (t.acting = true) ∧ (t.pwr.acceptReady = true) ∧ (t.cfgB 0x502001 = true) ∧ (t.cfgN 0x502003 ≤
      t.roleOf r) ∧ (l.length ≤ t.cfgN 0x502002) ∧ ((l.any fun x => x.zeroLen) = false) ∧ (l ≠ []) ∧ (a = (t.atNet stamp).forwardAll r.sess.id (45 +
      r.sess.id % 32) stamp l) ∧ ((a.fst.all fun x => x.snd.isNone) = true)) :=
  ⟨⟨(up : State), (rq : Req), ([0x59, 0x59, 0x23, 0x31, 0x12, 0x99, 0x20] : Bytes), (row 0x320100), starts_of (by decide +kernel) (by decide +kernel),
     by decide +kernel⟩,
   ⟨({ up with time := { up.time with pendSet := some ({}, none) } } : State), ({} : CalTime), (none : Option (Req × Bool)), by decide +kernel⟩,
   ⟨(up : State), (rq : Req), ([1, 0] : Bytes), (row 0x320200), (1 : Int), starts_of (by decide +kernel) (by decide +kernel), by decide +kernel⟩,
   ⟨({ up with time := { up.time with cal := calLast } } : State), by decide +kernel⟩,
   ⟨({ cfg up 0x320300 [2] with time := { up.time with sync := .locked, net := 10 ^ 18 } } : State), by decide +kernel⟩,
   ⟨({ up with time := { up.time with sync := .locked, trimFed := [] } } : State), (0 : BitVec 16), (0 : Nat), by decide +kernel⟩,
   ⟨(up : State), (rq : Req), ([] : Bytes), (row 0x320404), starts_of (by decide +kernel) (by decide +kernel), by decide +kernel⟩,
   ⟨(cfg up 0x340001 [1, 0, 0, 0] : State), ((dstLast (cfg up 0x340001 [1, 0, 0, 0]) : Int) - ((cfg up 0x340001 [1, 0, 0, 0]).time.cal.secs / 60 :
     Nat) : Int), rfl, by decide +kernel⟩,
   ⟨(mac up 0 3 (1 :: List.replicate 11 0) : State), (0 : Fin 12), (⟨0, 5, 3, (1 :: List.replicate 11 0)⟩ : MacCmd), by decide +kernel⟩,
   ⟨(mac up 0 4 [] : State), (0 : Fin 12), (⟨0, 5, 4, []⟩ : MacCmd), by decide +kernel⟩,
   ⟨(mac (partner up { port := 0, gen := 4 }) 0 5 [] : State), (0 : Fin 24), (⟨0, 5, 5, []⟩ : MacCmd), ({ port := 0, gen := 4 } : Partner),
     by decide +kernel⟩,
   ⟨(mac up 0 99 [] : State), (0 : Fin 24), (⟨0, 5, 99, []⟩ : MacCmd), by decide +kernel⟩,
   ⟨(port (own5 (partner (clock rad 500000000) { port := 12, gen := 8, assignDue := true, slot := some (1, 2, 3, 4) })) 12 { began := true } : State),
     ((port (own5 (partner (clock rad 500000000) { port := 12, gen := 8, assignDue := true, slot := some (1, 2, 3, 4) })) 12
     { began := true }).setPartner 5 (fun y => { y with assignDue := false }) : State), (0 : Fin 12), (5 : Nat),
     ({ port := 12, gen := 8, assignDue := true, slot := some (1, 2, 3, 4) } : Partner), ((1, 2, 3, 4) : Nat × Nat × Nat × Nat), by decide +kernel,
     by decide +kernel, rfl, some_of (by decide +kernel)⟩,
   ⟨(own5 (partner { clock plc 1000000 with time := { (clock plc 1000000).time with cycle := 1, lastStamp := some 0 } }
     { port := 0, gen := 4, hasPath := true, hintDue := true }) : State), ((own5 (partner
     { clock plc 1000000 with time := { (clock plc 1000000).time with cycle := 1, lastStamp := some 0 } }
     { port := 0, gen := 4, hasPath := true, hintDue := true })).setPartner 5 (fun y => { y with hintDue := false }) : State), (0 : Fin 24),
     (5 : Nat), ({ port := 0, gen := 4, hasPath := true, hintDue := true } : Partner), by decide +kernel, rfl, some_of (by decide +kernel), some_of
     (by decide +kernel)⟩,
   ⟨({ partner plc { port := 0, gen := 4 } with field := { (partner plc { port := 0, gen := 4 }).field with links := [(linkKey 5 deviceId, ⟨List.replicate 8 (some 40), 0⟩)] } }
     : State), (0 : Fin 12), (5 : Handle), (0 : Fin 8), (0 : Nat), (36 : Nat), ([] : List Nat), ({ port := 0, gen := 4 } : Partner),
     by decide +kernel⟩,
   by refine ⟨(downDue : State), (downTaken : State), ((downTaken.downFrame 0 5 [] ⟨none, [1], false, 0⟩).2 : State), (0 : Fin 24), (5 : Handle), ([]
     : Bytes), ((downTaken.downFrame 0 5 [] ⟨none, [1], false, 0⟩).1.get (by decide +kernel) : Bytes),
     ({ port := 0, gen := 4, hasPath := true, queue := [⟨none, [1], false, 0⟩] } : Partner), (⟨none, [1], false, 0⟩ : Down), ([] : List Down), ([] :
     List Nat), (2 : Nat), ?_, rfl, ?_, ?_, ?_, ?_, ?_, ?_, ?_, ?_, ?_, ?_, ?_, pair_of (by decide +kernel), ?_⟩ <;> decide +kernel,
   by refine ⟨(partner (own5 plc7) { port := 0, gen := 4, flight := some (1, [7]), queue := [⟨none, [1], false, 0⟩] } : State), (((((partner (own5
     plc7) { port := 0, gen := 4, flight := some (1, [7]), queue := [⟨none, [1], false, 0⟩] }).screenAck 0 ([32, 7, 0, 5, 0, 0, 1, 0, 0, 0] ++
     List.replicate 8 0) { stamp := 0 }).2).lineMeterKey none (fieldAt ([32, 7, 0, 5, 0, 0, 1, 0, 0, 0] ++ List.replicate 8 0) 3 3 % 2 ^ 20) .cmac).2
     : State), (((partner (own5 plc7) { port := 0, gen := 4, flight := some (1, [7]), queue := [⟨none, [1], false, 0⟩] }).screenAck 0 ([32, 7, 0, 5,
     0, 0, 1, 0, 0, 0] ++ List.replicate 8 0) { stamp := 0 }).2 : State), (0 : Fin 24), ([32, 7, 0, 5, 0, 0, 1, 0, 0, 0] ++ List.replicate 8 0 :
     Bytes), ({ stamp := 0 } : Rx), ({ port := 0, gen := 4, flight := some (1, [7]), queue := [⟨none, [1], false, 0⟩] } : Partner),
     ({ port := 0, gen := 4, flight := some (1, [7]), queue := [⟨none, [1], false, 0⟩] } : Partner), (1 : Nat), ([7] : Bytes), ([1] : Bytes), (⟨none,
     [1], false, 0⟩ : Down), ([] : List Down), ?_, ?_, ?_, ?_, ?_, ?_, ?_, ?_, Prod.ext (by decide +kernel) rfl, ?_, Prod.ext (by decide +kernel) rfl,
     partner_of (k := [1]) (t := ((((partner (own5 plc7) { port := 0, gen := 4, flight := some (1, [7]), queue := [⟨none, [1], false, 0⟩] }).screenAck
     0 ([32, 7, 0, 5, 0, 0, 1, 0, 0, 0] ++ List.replicate 8 0) { stamp := 0 }).2).useMeterKey (fieldAt ([32, 7, 0, 5, 0, 0, 1, 0, 0, 0] ++
     List.replicate 8 0) 3 3 % 2 ^ 20) .cmac).2) (by decide +kernel) (Prod.ext (by decide +kernel) rfl) (by decide +kernel), ?_⟩ <;> decide +kernel,
   ⟨(partner up { port := 0, gen := 4, flight := some (1, [7]) } : State), (0 : Fin 24), (5 : Handle),
     ({ port := 0, gen := 4, flight := some (1, [7]) } : Partner), by decide +kernel⟩,
   ⟨(cfg up 0x400301 [1] : State), (0 : Fin 12), (0 : U16), by decide +kernel⟩,
   by refine ⟨(cfg (cfg up 0x400101 [1]) 0x400103 [1] : State), ((cfg (cfg up 0x400101 [1]) 0x400103 [1]).heard 0 { stamp := 0 } : State),
     (0 : Fin 12), ({ handle := 5, counter := 0, bytes := [1] } : StdFrame), ({ stamp := 0 } : Rx), (0 : Nat), (stdOffer 0 ((cfg (cfg up 0x400101 [1])
     0x400103 [1]).pcfg 0 1 1) (some 0) (.counter ({ handle := 5, counter := 0, bytes := [1] } : StdFrame).counter)
     { handle := 5, counter := 0, bytes := [1] } { stamp := 0 } (((cfg (cfg up 0x400101 [1]) 0x400103 [1]).heard 0 { stamp := 0 }).erasures 0
     { stamp := 0 }) : Offer), ?_, ?_, ?_, ?_, ?_, ?_, rfl, ?_, ?_, rfl⟩ <;> decide +kernel,
   by refine ⟨(cfg (cfg (cfg up 0x400101 [3]) 0x400103 [1]) 0x400503 [0] : State), ((cfg (cfg (cfg up 0x400101 [3]) 0x400103 [1]) 0x400503 [0]).heard
     0 { stamp := 0 } : State), (0 : Fin 12), ({ handle := 5, counter := 0, bytes := [1] } : StdFrame), ({ stamp := 0 } : Rx), (stdOffer 0 3 (some
     ((cfg (cfg (cfg up 0x400101 [3]) 0x400103 [1]) 0x400503 [0]).pcfg 0 5 4)) (.counter ({ handle := 5, counter := 0, bytes := [1] } :
     StdFrame).counter) { handle := 5, counter := 0, bytes := [1] } { stamp := 0 } (((cfg (cfg (cfg up 0x400101 [3]) 0x400103 [1]) 0x400503 [0]).heard
     0 { stamp := 0 }).erasures 0 { stamp := 0 }) : Offer), ?_, ?_, ?_, ?_, ?_, rfl, ?_, ?_, rfl⟩ <;> decide +kernel,
   by refine ⟨(cfg (cfg (cfg (cfg up 0x410001 [1]) 0x410002 [1]) 0x410401 [6]) 0x410405 [1] : State), (((cfg (cfg (cfg (cfg up 0x410001 [1]) 0x410002
     [1]) 0x410401 [6]) 0x410405 [1]).setPartner 5 (fun x => { x with bidi := WMode.t2.bidi, link := some .t2 })).heard 12 { stamp := 0 } : State),
     (0 : Fin 12), ({ handle := 5, counter := 0, bytes := [1], mode := 7 } : StdFrame), (.t2 : WMode), ({ stamp := 0 } : Rx), (stdOffer 12 6 none
     (.counter ({ handle := 5, counter := 0, bytes := [1], mode := 7 } : StdFrame).counter) (inMode
     { handle := 5, counter := 0, bytes := [1], mode := 7 } .t2) { stamp := 0 } ((((cfg (cfg (cfg (cfg up 0x410001 [1]) 0x410002 [1]) 0x410401 [6])
     0x410405 [1]).setPartner 5 (fun x => { x with bidi := WMode.t2.bidi, link := some .t2 })).heard 12 { stamp := 0 }).erasures 12 { stamp := 0 }) :
     Offer), ?_, ?_, ?_, ?_, ?_, ?_, rfl, ?_, ?_, rfl⟩ <;> decide +kernel,
   by refine ⟨(cfg (cfg up 0x410001 [2]) 0x410002 [1] : State), ((cfg (cfg up 0x410001 [2]) 0x410002 [1]).heard 12 { stamp := 0 } : State),
     (0 : Fin 12), ({ handle := 5, counter := 0, bytes := [1], mode := (cfg (cfg up 0x410001 [2]) 0x410002 [1]).pcfg 12 5 6 } : StdFrame),
     ({ stamp := 0 } : Rx), (stdOffer 12 7 (some ((cfg (cfg up 0x410001 [2]) 0x410002 [1]).pcfg 12 5 5)) (.counter
     ({ handle := 5, counter := 0, bytes := [1], mode := (cfg (cfg up 0x410001 [2]) 0x410002 [1]).pcfg 12 5 6 } : StdFrame).counter)
     { handle := 5, counter := 0, bytes := [1], mode := (cfg (cfg up 0x410001 [2]) 0x410002 [1]).pcfg 12 5 6 } { stamp := 0 } (((cfg (cfg up 0x410001
     [2]) 0x410002 [1]).heard 12 { stamp := 0 }).erasures 12 { stamp := 0 }) : Offer), ?_, ?_, ?_, rfl, ?_, ?_, rfl⟩ <;> decide +kernel,
   by refine ⟨(cfg (cfg up 0x400102 [1]) 0x400103 [1] : State), ((cfg (cfg up 0x400102 [1]) 0x400103 [1]).heard 0 { stamp := 0 } : State),
     (0 : Fin 12), ([32, 0, 0, 5] : Bytes), ({ stamp := 0 } : Rx), (ocbOffer 1 (beNat (slice [32, 0, 0, 5] 2 2)) (linkWord 0 5) (some 0) [32, 0, 0, 5]
     { stamp := 0 } (((cfg (cfg up 0x400102 [1]) 0x400103 [1]).heard 0 { stamp := 0 }).erasures 0 { stamp := 0 }) : Offer), ?_, ?_, ?_, ?_, ?_, ?_,
     rfl, ?_, ?_, rfl⟩ <;> decide +kernel,
   by refine ⟨(cfg (cfg (lock up) 0x400101 [3]) 0x400103 [1] : State), ((((cfg (cfg (lock up) 0x400101 [3]) 0x400103 [1]).bumpPort 0 1).setFport 0
     (fun x => { x with joins := x.joins + 1 })) : State), (0 : Fin 12), (5 : Handle), ?_, ?_, ?_, ?_, rfl, ?_, some_of (by decide +kernel)⟩
     <;> decide +kernel,
   by refine ⟨(cfg (cfg (clock up 0) 0x400102 [1]) 0x400103 [1] : State), ((((cfg (cfg (clock up 0) 0x400102 [1]) 0x400103 [1]).bumpPort 0 1).setFport
     0 (fun x => { x with joins := x.joins + 1 })) : State), (0 : Fin 12), (5 : Handle), ?_, ?_, ?_, ?_, rfl, ?_, some_of (by decide +kernel)⟩
     <;> decide +kernel,
   by refine ⟨(cfg (cfg up 0x400101 [1]) 0x400103 [1] : State), ((((cfg (cfg up 0x400101 [1]) 0x400103 [1]).bumpPort 0 1).setFport 0 (fun x =>
     { x with joins := x.joins + 1 })) : State), (0 : Fin 12), (5 : Handle), ?_, ?_, ?_, ?_, rfl, ?_, ?_, some_of (by decide +kernel)⟩
     <;> decide +kernel,
   by refine ⟨(cfg (cfg (cfg (cfg up 0x410001 [1]) 0x410002 [1]) 0x410401 [6]) 0x410405 [1] : State), ((cfg (cfg (cfg (cfg up 0x410001 [1]) 0x410002
     [1]) 0x410401 [6]) 0x410405 [1]).setFport 12 (fun x => { x with joins := x.joins + 1 }) : State), (0 : Fin 12),
     (⟨{ handle := 5, counter := 0, bytes := [1], link := .t2 }, { stamp := 0 }⟩ : StdHeard), ?_, ?_, ?_, ?_, ?_, ?_, rfl, some_of
     (by decide +kernel)⟩ <;> decide +kernel,
   by refine ⟨(cfg (cfg up 0x410001 [2]) 0x410002 [1] : State), ((((cfg (cfg up 0x410001 [2]) 0x410002 [1]).bumpPort 12 1).setFport 12 (fun x =>
     { x with joins := x.joins + 1 })) : State), (0 : Fin 12), (5 : Handle), ?_, ?_, ?_, ?_, ?_, rfl, some_of (by decide +kernel)⟩ <;> decide +kernel,
   ⟨(clock (port up 0 { rekey := some ⟨0, 0, 0⟩ }) (10 ^ 12) : State), (0 : Fin 12), (⟨0, 0, 0⟩ : Rekey), by decide +kernel⟩,
   ⟨({ jrn up ent with time := { up.time with mono := 32768 * 100000 } } : State), (ent : JEntry), by decide +kernel⟩,
   ⟨({ up with acc := { up.acc with inputs := [{ billing := true, src := 1, what := .request .latchOrderIssue }] } } : State), (1 : Nat),
     ({ billing := true, src := 1, what := .request .latchOrderIssue } : Held), by decide +kernel⟩,
   by refine ⟨(((up).setSess ⟨.coap, 1⟩ (fun x => { x with isOpen := true, role := .utility })) : State), (((up).setSess ⟨.coap, 1⟩ (fun x =>
     { x with isOpen := true, role := .utility })) : State), ({ sess := ⟨.coap, 1⟩ } : Req), ([] : Bytes), ([⟨99, 5, 0,
     { handle := 5, counter := 0, bytes := [1] }, false⟩] : List FwdRecord), (0 : Nat), (((((up).setSess ⟨.coap, 1⟩ (fun x =>
     { x with isOpen := true, role := .utility }))).atNet 0).forwardAll 1 46 0 [⟨99, 5, 0, { handle := 5, counter := 0, bytes := [1] }, false⟩] : List
     (Bytes × Option U64) × State), ?_, ?_, ?_, ?_, ?_, ?_, ?_, ?_, ?_, rfl, ?_⟩ <;> decide +kernel⟩

/-- Hypotheses of CalendarSetsShiftsAndTrims. -/
theorem test_hyps_CalendarSetsShiftsAndTrims :
    (∃ (s : State) (r : Req) (arg : Bytes) (o : ObjRow), (s.starts r 0x320100 arg o) ∧ (setArgOk arg = true) ∧ (s.time.lockout = false)) ∧
    (∃ (s : State) (r : Req) (arg : Bytes) (o : ObjRow), (s.starts r 0x320100 arg o) ∧ (setArgOk arg = false)) ∧
    (∃ (s : State) (c : CalTime), ((∃ who, s.time.pendSet = some (c, who)) ∨ s.time.pendSet = none ∧ s.time.discSet = some c) ∧ (s.time.oscStopped =
      false) ∧ (s.time.pendShift = none)) ∧
    (∃ (s : State) (n : Int) (who : Option Req), (s.time.pendSet = none) ∧ (s.time.discSet = none) ∧ (s.time.oscStopped = false) ∧ (s.time.pendShift =
      some (n, who)) ∧ (0 ≤ n) ∧ ((↑s.time.sub.toNat : Int) + n < 32768)) ∧
    (∃ (s : State) (r : Req) (arg : Bytes) (o : ObjRow) (n : Int), (s.starts r 0x320200 arg o) ∧ (n = toSigned 16 (leNat arg)) ∧ (0 < n) ∧
      (s.time.lockout = false) ∧ (s.time.hold = none) ∧ (s.time.oscStopped = false) ∧ ((↑s.time.sub.toNat : Int) + n < 32768)) ∧
    (∃ (s : State), (s.time.cal = calLast)) ∧
    (∃ (s : State), (s.cfgN 0x320300 = 0)) ∧
    (∃ (s : State), (s.cfgN 0x320300 = 1) ∧ (s.time.sync = Sync.locked) ∧ (s.time.lockout = false) ∧ (s.time.oscStopped = false) ∧ (1000000000 ≤
      (↑(s.legalNs - (↑s.time.calNs : Int)).natAbs : Int)) ∧ (s.time.diverged = false)) ∧
    (∃ (s : State) (x : BitVec 16) (e : Nat), (s.time.sync ≠ Sync.locked)) ∧
    (∃ (s : State) (r : Req) (arg : Bytes) (o : ObjRow), (s.starts r 0x320404 arg o) ∧ (s.time.lockout = false)) ∧
    (∃ (s : State), (dstLast s ≠ 0) ∧ ((↑(dstLast s) : Int) - (↑(s.time.cal.secs / 60) : Int) < 366 * 1440)) :=
  ⟨⟨(State.reset : State), (rq : Req), ([0x59, 0x59, 0x23, 0x31, 0x12, 0x99, 0x23] : Bytes), (row 0x320100), starts_of (by decide +kernel)
     (by decide +kernel), by decide +kernel⟩,
   ⟨(State.reset : State), (rq : Req), ([0x60, 0, 0, 1, 1, 0, 0x20] : Bytes), (row 0x320100), starts_of (by decide +kernel) (by decide +kernel),
     by decide +kernel⟩,
   ⟨({ up with time := { up.time with pendSet := some ({}, none) } } : State), ({} : CalTime), Or.inl ⟨_, rfl⟩, by decide +kernel⟩,
   ⟨({ up with time := { up.time with pendShift := some (1, none) } } : State), (1 : Int), (none : Option Req), by decide +kernel⟩,
   ⟨(State.reset : State), (rq : Req), ([1, 0] : Bytes), (row 0x320200), (1 : Int), starts_of (by decide +kernel) (by decide +kernel),
     by decide +kernel⟩,
   ⟨({ up with time := { up.time with cal := calLast } } : State), by decide +kernel⟩,
   ⟨(cfg up 0x320300 [0] : State), by decide +kernel⟩,
   ⟨({ cfg up 0x320300 [1] with time := { up.time with sync := .locked, net := 0 } } : State), by decide +kernel⟩,
   ⟨(State.reset : State), (0 : BitVec 16), (0 : Nat), by decide +kernel⟩,
   ⟨(State.reset : State), (rq : Req), ([] : Bytes), (row 0x320404), starts_of (by decide +kernel) (by decide +kernel), by decide +kernel⟩,
   ⟨(cfg up 0x340001 [1, 0, 0, 0] : State), by decide +kernel⟩⟩

/-- Hypotheses of CampaignsReachTheirMeters. 2 that rest on a Config value left out. -/
theorem test_hyps_CampaignsReachTheirMeters :
    (∃ (s : State) (r : Req) (v : Bytes) (o : ObjRow), (s.writes r 0xA08101 v o) ∧ (1 < (s.camp (s.itemOf r o)).st)) ∧
    (∃ (s : State) (r : Req) (v : Bytes) (o : ObjRow), (s.writes r 0xA08101 v o) ∧ ((s.camp (s.itemOf r o)).st ≤ 1) ∧ (r.storeOk = true)) ∧
    (∃ (s : State) (r : Req) (arg : Bytes) (o : ObjRow), (s.starts r 0xA08201 arg o) ∧ ((s.camp (s.itemOf r o)).st ≠ 1)) ∧
    (∃ (s : State) (r : Req) (arg : Bytes) (o : ObjRow), (s.starts r 0xA08201 arg o) ∧ ((s.camp (s.itemOf r o)).st = 1) ∧ (s.contentHeld < 65536)) ∧
    (∃ (s : State) (r : Req) (o : ObjRow), (s.starts r 0xA08202 [1] o) ∧ ((s.camp (s.itemOf r o)).st = 1)) ∧
    (∃ (s : State) (r : Req) (o : ObjRow), (s.starts r 0xA08202 [1] o) ∧ ((s.camp (s.itemOf r o)).st = 1) ∧ (s.campaignOk (s.itemOf r o) = false)) ∧
    (∃ (s : State) (r : Req) (o : ObjRow), (s.starts r 0xA08202 [2] o) ∧ ((s.camp (s.itemOf r o)).st = 2)) ∧
    (∃ (s : State) (r : Req) (o : ObjRow), (s.starts r 0xA08202 [3] o) ∧ ((s.camp (s.itemOf r o)).st = 3)) ∧
    (∃ (s : State) (r : Req) (o : ObjRow), (s.starts r 0xA08202 [4] o) ∧ ((s.camp (s.itemOf r o)).st = 4)) ∧
    (∃ (s : State) (r : Req) (o : ObjRow), (s.starts r 0xA08202 [5] o) ∧ (2 ≤ (s.camp (s.itemOf r o)).st) ∧ ((s.camp (s.itemOf r o)).st ≤ 4)) ∧
    (∃ (s : State) (r : Req) (o : ObjRow) (c : Nat), (s.starts r 0xA08202 [6] o) ∧ ((s.camp (s.itemOf r o)).st ∈ [1, 2, 6, 7]) ∧ (c ≠ s.itemOf r o)) ∧
    (∃ (s : State) (r : Req) (o : ObjRow), (s.starts r 0xA08202 [1] o) ∧ ((s.camp (s.itemOf r o)).st ≠ 1)) ∧
    (∃ (s : State) (r : Req) (o : ObjRow), (s.starts r 0xA08202 [2] o) ∧ ((s.camp (s.itemOf r o)).st ≠ 2)) ∧
    (∃ (s : State) (r : Req) (o : ObjRow), (s.starts r 0xA08202 [3] o) ∧ ((s.camp (s.itemOf r o)).st ≠ 3)) ∧
    (∃ (s : State) (r : Req) (o : ObjRow), (s.starts r 0xA08202 [4] o) ∧ ((s.camp (s.itemOf r o)).st ≠ 4)) ∧
    (∃ (s : State) (r : Req) (o : ObjRow), (s.starts r 0xA08202 [5] o) ∧ ((s.camp (s.itemOf r o)).st < 2 ∨ 4 < (s.camp (s.itemOf r o)).st)) ∧
    (∃ (s : State) (r : Req) (o : ObjRow), (s.starts r 0xA08202 [6] o) ∧ (¬(s.camp (s.itemOf r o)).st ∈ [1, 2, 6, 7])) ∧
    (∃ (s : State) (r : Req) (arg : Bytes) (o : ObjRow) (l : List (Nat × Nat)), (s.starts r 0xA08301 arg o) ∧ (targetRanges arg = some l) ∧ (l ≠ []) ∧
      (1 ≤ (s.camp (s.itemOf r o)).st) ∧ ((s.camp (s.itemOf r o)).st ≤ 4)) ∧
    (∃ (s : State) (r : Req) (arg : Bytes) (o : ObjRow) (l : List (Nat × Nat)), (s.starts r 0xA08302 arg o) ∧ (targetRanges arg = some l) ∧ (l ≠ []) ∧
      (1 ≤ (s.camp (s.itemOf r o)).st) ∧ ((s.camp (s.itemOf r o)).st ≤ 4)) ∧
    (∃ (s : State) (c : Fin 64) (p : Fin 24), ((s.camp c.val).st ≠ 3 ∨ s.mayTransmit p.val = false ∨ s.pwr.quiet = true ∨ s.cdef c.val 9 ≤ (s.passOf
      c.val p.val).fst)) ∧
    (∃ (s : State) (t : State) (c : Fin 64) (p : Fin 24) (b : Nat) (n : Nat) (l : List (Nat × Nat)), ((s.camp c.val).st = 3) ∧ (s.mayTransmit p.val =
      true) ∧ (s.pwr.quiet = false) ∧ ((s.passOf c.val p.val).fst < s.cdef c.val 9) ∧ (s.billingWaits (3072 + p.val) = false) ∧ (s.nextBlock c.val
      p.val (s.campBlocks c.val) (s.passOf c.val p.val).snd.fst = some b) ∧ (s.isNative p.val = false) ∧ (isRf p.val = false) ∧ (s.cdef c.val 6 ≠ 0) ∧
      (s.isUp 2 = true) ∧ (s.keyCheck (s.cdef c.val 6) KeyOp.dlms false = .ok n) ∧ (s.shareFits c.val p.val ((s.openVal 103).fst.toNat % 600000) =
      true) ∧ (l = (s.time.net, (s.openVal 103).fst.toNat % 600000) :: s.lately c.val p.val) ∧ (t = ((s.openVal 103).snd.usedSlot n).chargeKey (some
      8))) ∧
    (∃ (s : State) (t : State) (u : State) (v : State) (c : Fin 64) (p : Fin 24) (b : Nat) (k : Nat) (key : Bytes), ((s.camp c.val).st = 3) ∧
      (s.mayTransmit p.val = true) ∧ (s.pwr.quiet = false) ∧ ((s.passOf c.val p.val).fst < s.cdef c.val 9) ∧ (s.billingWaits (3072 + p.val) = false) ∧
      (s.nextBlock c.val p.val (s.campBlocks c.val) (s.passOf c.val p.val).snd.fst = some b) ∧ (s.isNative p.val = true) ∧ (k = if b = (s.passOf c.val
      p.val).snd.fst then (s.passOf c.val p.val).snd.snd else 0) ∧ (s.campSlot c.val p.val = true) ∧ (s.slotOpen p.val (1 + (s.openVal 104).fst.toNat
      % 32) none = true) ∧ ((s.fport p.val).began = true) ∧ (isRf p.val = true → s.pcfg p.val 6 2 ≠ 0 ∧ s.dutyFits p.val (airtime (s.pcfg p.val 3 2)
      (List.length (s.campFrame c.val p.val b k) + 29)) = true) ∧ ((s.openVal 104).snd.lineKey (some 8) (s.netKey p.val) KeyOp.ccm = (some key, t)) ∧
      (u = t.transmit p.val (nativeFrame 3 (s.station p.val) 1048575 [] (s.portClock p.val % 2 ^ 32) 1 key (s.campFrame c.val p.val b k))) ∧ (v =
      { pending := u.pending, out := u.out, opens := u.opens, late := u.late, dict := u.dict, ev := u.ev, time := u.time, pwr := u.pwr, link := u.link, pair := u.pair, trust := u.trust, cas := u.cas, field := u.field, acc := u.acc, arch := u.arch, bill := u.bill, weir := u.weir, bal := u.bal, upd := have __src := u.upd; { slots := __src.slots, active := __src.active, dl := __src.dl, dlKind := __src.dlKind, dlState := __src.dlState, activation := __src.activation, trial := __src.trial, outcome := __src.outcome, discarded := __src.discarded, schema := __src.schema, oldSchema := __src.oldSchema, oldBank := __src.oldBank, trialWrites := __src.trialWrites, down := __src.down, camps := __src.camps, lastFrame := tblPut u.upd.lastFrame (p.val * 64 + c.val) (s.portClock p.val), stdSent := __src.stdSent } }))
      ∧
    (∃ (s : State) (c : Fin 64) (h : Handle), (tblFind? (s.camp c.val).targets (BitVec.toNat h) = none)) ∧
    (∃ (s : State) (c : Fin 64) (h : Handle) (a : CampAns), (tblFind? (s.camp c.val).targets (BitVec.toNat h) = none)) ∧
    (∃ (s : State) (c : Fin 64) (h : Handle) (x : Target), (tblFind? (s.camp c.val).targets (BitVec.toNat h) = some x) ∧ (s.unicastOpen c.val
      (BitVec.toNat h) = false ∨ s.stepDue c.val (BitVec.toNat h) x = false ∨ x.attempts ≠ 0 ∧ x.st ≠ 6)) ∧
    (∃ (s : State) (c : Fin 64) (h : Handle) (x : Target), (tblFind? (s.camp c.val).targets (BitVec.toNat h) = some x) ∧ (s.unicastOpen c.val
      (BitVec.toNat h) = true) ∧ (s.stepDue c.val (BitVec.toNat h) x = true) ∧ (x.attempts = 0)) ∧
    (∃ (s : State) (c : Fin 64) (h : Handle) (x : Target) (a : CampAns), (tblFind? (s.camp c.val).targets (BitVec.toNat h) = some x) ∧ (x.attempts =
      0)) ∧
    (∃ (s : State) (c : Fin 64) (h : Handle) (x : Target) (z : Nat), (tblFind? (s.camp c.val).targets (BitVec.toNat h) = some x) ∧ (x.attempts ≠ 0) ∧
      ((s.camp c.val).st = 3) ∧ (x.st = 2) ∧ (x.phase = 0) ∧ (s.cdef c.val 2 ≤ z)) ∧
    (∃ (s : State) (c : Fin 64) (h : Handle) (x : Target), (tblFind? (s.camp c.val).targets (BitVec.toNat h) = some x) ∧ (x.attempts ≠ 0) ∧ ((s.camp
      c.val).st = 3) ∧ (x.st = 5) ∧ (x.phase = 1) ∧ (0 < x.verifyFails)) ∧
    (∃ (s : State) (c : Fin 64) (h : Handle) (x : Target), (tblFind? (s.camp c.val).targets (BitVec.toNat h) = some x) ∧ (x.attempts ≠ 0) ∧ ((s.camp
      c.val).st = 3) ∧ (x.st = 7) ∧ (x.phase = 1)) ∧
    (∃ (s : State) (c : Fin 64) (h : Handle) (x : Target), (tblFind? (s.camp c.val).targets (BitVec.toNat h) = some x) ∧ (x.attempts = 0 ∨ x.final =
      true ∨ (s.camp c.val).st ≠ 3 ∨ s.time.net < x.last + s.cdef c.val 12 * 1000000000)) ∧
    (∃ (s : State) (c : Fin 64) (h : Handle) (x : Target), (tblFind? (s.camp c.val).targets (BitVec.toNat h) = some x) ∧ (x.attempts ≠ 0) ∧ (x.final =
      false) ∧ ((s.camp c.val).st = 3) ∧ (x.last + s.cdef c.val 12 * 1000000000 ≤ s.time.net) ∧ (s.cdef c.val 11 ≤ x.attempts)) ∧
    (∃ (s : State) (c : Fin 64), ((s.camp c.val).st ≠ 3 ∨ s.time.net < ofTime64 (s.cfgBytes 0xA08107 c.val))) ∧
    (∃ (s : State) (c : Fin 64), ((s.camp c.val).st = 3) ∧ (ofTime64 (s.cfgBytes 0xA08107 c.val) ≤ s.time.net)) :=
  ⟨⟨(camp up { st := 2 } : State), (rq : Req), ([1] : Bytes), (row 0xA08101), writes_of (by decide +kernel) (by decide +kernel), by decide +kernel⟩,
   ⟨(camp up { st := 1 } : State), (rq : Req), ([1] : Bytes), (row 0xA08101), writes_of (by decide +kernel) (by decide +kernel), by decide +kernel⟩,
   ⟨(State.reset : State), (rq : Req), (List.replicate 4104 0 : Bytes), (row 0xA08201), starts_of (by decide +kernel) (by decide +kernel),
     by decide +kernel⟩,
   ⟨(cfg (camp up { st := 1 }) 0xA08103 [1, 0, 0, 0] : State), (rq : Req), (List.replicate 4104 0 : Bytes), (row 0xA08201), starts_of
     (by decide +kernel) (by decide +kernel), by decide +kernel⟩,
   ⟨(camp up { st := 1 } : State), (rq : Req), (row 0xA08202), starts_of (by decide +kernel) (by decide +kernel), by decide +kernel⟩,
   ⟨(camp up { st := 1 } : State), (rq : Req), (row 0xA08202), starts_of (by decide +kernel) (by decide +kernel), by decide +kernel⟩,
   ⟨(camp up { st := 2 } : State), (rq : Req), (row 0xA08202), starts_of (by decide +kernel) (by decide +kernel), by decide +kernel⟩,
   ⟨(camp up { st := 3 } : State), (rq : Req), (row 0xA08202), starts_of (by decide +kernel) (by decide +kernel), by decide +kernel⟩,
   ⟨(camp up { st := 4 } : State), (rq : Req), (row 0xA08202), starts_of (by decide +kernel) (by decide +kernel), by decide +kernel⟩,
   ⟨(camp up { st := 4 } : State), (rq : Req), (row 0xA08202), starts_of (by decide +kernel) (by decide +kernel), by decide +kernel⟩,
   ⟨(camp up { st := 7 } : State), (rq : Req), (row 0xA08202), (1 : Nat), starts_of (by decide +kernel) (by decide +kernel), by decide +kernel⟩,
   ⟨(State.reset : State), (rq : Req), (row 0xA08202), starts_of (by decide +kernel) (by decide +kernel), by decide +kernel⟩,
   ⟨(State.reset : State), (rq : Req), (row 0xA08202), starts_of (by decide +kernel) (by decide +kernel), by decide +kernel⟩,
   ⟨(State.reset : State), (rq : Req), (row 0xA08202), starts_of (by decide +kernel) (by decide +kernel), by decide +kernel⟩,
   ⟨(State.reset : State), (rq : Req), (row 0xA08202), starts_of (by decide +kernel) (by decide +kernel), by decide +kernel⟩,
   ⟨(State.reset : State), (rq : Req), (row 0xA08202), starts_of (by decide +kernel) (by decide +kernel), by decide +kernel⟩,
   ⟨(State.reset : State), (rq : Req), (row 0xA08202), starts_of (by decide +kernel) (by decide +kernel), by decide +kernel⟩,
   ⟨(camp up { st := 4 } : State), (rq : Req), ([1, 0, 5, 0, 0, 0, 5, 0, 0, 0] : Bytes), (row 0xA08301), ([(5, 5)] : List (Nat × Nat)), starts_of
     (by decide +kernel) (by decide +kernel), by decide +kernel⟩,
   ⟨(camp up { st := 1 } : State), (rq : Req), ([1, 0, 5, 0, 0, 0, 5, 0, 0, 0] : Bytes), (row 0xA08302), ([(5, 5)] : List (Nat × Nat)), starts_of
     (by decide +kernel) (by decide +kernel), by decide +kernel⟩,
   ⟨(State.reset : State), (0 : Fin 64), (0 : Fin 24), by decide +kernel⟩,
   by refine
     ⟨({ (key (cfg (cfg (cfg (cfg (cfg (cfg (camp up { st := 3, targets := [(5, { st := 3 })] }) 0xA08103 [1, 0, 0, 0]) 0xA08102 [1, 0, 0, 0]) 0xA08106 [16, 0, 0, 0]) 0xA08109 [1]) 0x400101 [1]) 0x400103 [1]) 16 2) with field := { up.field with partners := [(5, { port := 0, gen := 1 })] } }
     : State),
     (((({ (key (cfg (cfg (cfg (cfg (cfg (cfg (camp up { st := 3, targets := [(5, { st := 3 })] }) 0xA08103 [1, 0, 0, 0]) 0xA08102 [1, 0, 0, 0]) 0xA08106 [16, 0, 0, 0]) 0xA08109 [1]) 0x400101 [1]) 0x400103 [1]) 16 2) with field := { up.field with partners := [(5, { port := 0, gen := 1 })] } }).openVal
     103).2.usedSlot 16).chargeKey (some 8) : State), (0 : Fin 64), (0 : Fin 24), (0 : Nat), (16 : Nat),
     ((({ (key (cfg (cfg (cfg (cfg (cfg (cfg (camp up { st := 3, targets := [(5, { st := 3 })] }) 0xA08103 [1, 0, 0, 0]) 0xA08102 [1, 0, 0, 0]) 0xA08106 [16, 0, 0, 0]) 0xA08109 [1]) 0x400101 [1]) 0x400103 [1]) 16 2) with field := { up.field with partners := [(5, { port := 0, gen := 1 })] } }).time.net,
     (({ (key (cfg (cfg (cfg (cfg (cfg (cfg (camp up { st := 3, targets := [(5, { st := 3 })] }) 0xA08103 [1, 0, 0, 0]) 0xA08102 [1, 0, 0, 0]) 0xA08106 [16, 0, 0, 0]) 0xA08109 [1]) 0x400101 [1]) 0x400103 [1]) 16 2) with field := { up.field with partners := [(5, { port := 0, gen := 1 })] } }).openVal
     103).1.toNat % 600000) ::
     ({ (key (cfg (cfg (cfg (cfg (cfg (cfg (camp up { st := 3, targets := [(5, { st := 3 })] }) 0xA08103 [1, 0, 0, 0]) 0xA08102 [1, 0, 0, 0]) 0xA08106 [16, 0, 0, 0]) 0xA08109 [1]) 0x400101 [1]) 0x400103 [1]) 16 2) with field := { up.field with partners := [(5, { port := 0, gen := 1 })] } }).lately
     0 0 : List (Nat × Nat)), ?_, ?_, ?_, ?_, ?_, ?_, ?_, ?_, ?_, ?_, ok_of (by decide +kernel), shareFits_of (by decide +kernel) (by decide +kernel),
     rfl, rfl⟩ <;> decide +kernel,
   by refine ⟨(partner (port (cfg (cfg (cfg (cfg (camp (clock rad 1500000000) { st := 3, targets := [(5, { st := 3 })] }) 0xA08103 [1, 0, 0, 0])
     0xA08102 [1, 0, 0, 0]) 0xA08106 [16, 0, 0, 0]) 0xA08109 [1]) 12 { began := true }) { port := 12, gen := 8 } : State), ((((partner (port (cfg (cfg
     (cfg (cfg (camp (clock rad 1500000000) { st := 3, targets := [(5, { st := 3 })] }) 0xA08103 [1, 0, 0, 0]) 0xA08102 [1, 0, 0, 0]) 0xA08106 [16, 0,
     0, 0]) 0xA08109 [1]) 12 { began := true }) { port := 12, gen := 8 }).openVal 104).2.lineKey (some 8) ((partner (port (cfg (cfg (cfg (cfg (camp
     (clock rad 1500000000) { st := 3, targets := [(5, { st := 3 })] }) 0xA08103 [1, 0, 0, 0]) 0xA08102 [1, 0, 0, 0]) 0xA08106 [16, 0, 0, 0]) 0xA08109
     [1]) 12 { began := true }) { port := 12, gen := 8 }).netKey 12) .ccm).2 : State), (((((partner (port (cfg (cfg (cfg (cfg (camp (clock rad
     1500000000) { st := 3, targets := [(5, { st := 3 })] }) 0xA08103 [1, 0, 0, 0]) 0xA08102 [1, 0, 0, 0]) 0xA08106 [16, 0, 0, 0]) 0xA08109 [1]) 12
     { began := true }) { port := 12, gen := 8 }).openVal 104).2.lineKey (some 8) ((partner (port (cfg (cfg (cfg (cfg (camp (clock rad 1500000000)
     { st := 3, targets := [(5, { st := 3 })] }) 0xA08103 [1, 0, 0, 0]) 0xA08102 [1, 0, 0, 0]) 0xA08106 [16, 0, 0, 0]) 0xA08109 [1]) 12
     { began := true }) { port := 12, gen := 8 }).netKey 12) .ccm).2).transmit 12 (nativeFrame 3 ((partner (port (cfg (cfg (cfg (cfg (camp (clock rad
     1500000000) { st := 3, targets := [(5, { st := 3 })] }) 0xA08103 [1, 0, 0, 0]) 0xA08102 [1, 0, 0, 0]) 0xA08106 [16, 0, 0, 0]) 0xA08109 [1]) 12
     { began := true }) { port := 12, gen := 8 }).station 12) 1048575 [] ((partner (port (cfg (cfg (cfg (cfg (camp (clock rad 1500000000)
     { st := 3, targets := [(5, { st := 3 })] }) 0xA08103 [1, 0, 0, 0]) 0xA08102 [1, 0, 0, 0]) 0xA08106 [16, 0, 0, 0]) 0xA08109 [1]) 12
     { began := true }) { port := 12, gen := 8 }).portClock 12 % 2 ^ 32) 1 [1] ((partner (port (cfg (cfg (cfg (cfg (camp (clock rad 1500000000)
     { st := 3, targets := [(5, { st := 3 })] }) 0xA08103 [1, 0, 0, 0]) 0xA08102 [1, 0, 0, 0]) 0xA08106 [16, 0, 0, 0]) 0xA08109 [1]) 12
     { began := true }) { port := 12, gen := 8 }).campFrame 0 12 0 0)) : State),
     ({ (((((partner (port (cfg (cfg (cfg (cfg (camp (clock rad 1500000000) { st := 3, targets := [(5, { st := 3 })] }) 0xA08103 [1, 0, 0, 0]) 0xA08102 [1, 0, 0, 0]) 0xA08106 [16, 0, 0, 0]) 0xA08109 [1]) 12 { began := true }) { port := 12, gen := 8 }).openVal 104).2.lineKey (some 8) ((partner (port (cfg (cfg (cfg (cfg (camp (clock rad 1500000000) { st := 3, targets := [(5, { st := 3 })] }) 0xA08103 [1, 0, 0, 0]) 0xA08102 [1, 0, 0, 0]) 0xA08106 [16, 0, 0, 0]) 0xA08109 [1]) 12 { began := true }) { port := 12, gen := 8 }).netKey 12) .ccm).2).transmit 12 (nativeFrame 3 ((partner (port (cfg (cfg (cfg (cfg (camp (clock rad 1500000000) { st := 3, targets := [(5, { st := 3 })] }) 0xA08103 [1, 0, 0, 0]) 0xA08102 [1, 0, 0, 0]) 0xA08106 [16, 0, 0, 0]) 0xA08109 [1]) 12 { began := true }) { port := 12, gen := 8 }).station 12) 1048575 [] ((partner (port (cfg (cfg (cfg (cfg (camp (clock rad 1500000000) { st := 3, targets := [(5, { st := 3 })] }) 0xA08103 [1, 0, 0, 0]) 0xA08102 [1, 0, 0, 0]) 0xA08106 [16, 0, 0, 0]) 0xA08109 [1]) 12 { began := true }) { port := 12, gen := 8 }).portClock 12 % 2 ^ 32) 1 [1] ((partner (port (cfg (cfg (cfg (cfg (camp (clock rad 1500000000) { st := 3, targets := [(5, { st := 3 })] }) 0xA08103 [1, 0, 0, 0]) 0xA08102 [1, 0, 0, 0]) 0xA08106 [16, 0, 0, 0]) 0xA08109 [1]) 12 { began := true }) { port := 12, gen := 8 }).campFrame 0 12 0 0))) with upd := { (((((partner (port (cfg (cfg (cfg (cfg (camp (clock rad 1500000000) { st := 3, targets := [(5, { st := 3 })] }) 0xA08103 [1, 0, 0, 0]) 0xA08102 [1, 0, 0, 0]) 0xA08106 [16, 0, 0, 0]) 0xA08109 [1]) 12 { began := true }) { port := 12, gen := 8 }).openVal 104).2.lineKey (some 8) ((partner (port (cfg (cfg (cfg (cfg (camp (clock rad 1500000000) { st := 3, targets := [(5, { st := 3 })] }) 0xA08103 [1, 0, 0, 0]) 0xA08102 [1, 0, 0, 0]) 0xA08106 [16, 0, 0, 0]) 0xA08109 [1]) 12 { began := true }) { port := 12, gen := 8 }).netKey 12) .ccm).2).transmit 12 (nativeFrame 3 ((partner (port (cfg (cfg (cfg (cfg (camp (clock rad 1500000000) { st := 3, targets := [(5, { st := 3 })] }) 0xA08103 [1, 0, 0, 0]) 0xA08102 [1, 0, 0, 0]) 0xA08106 [16, 0, 0, 0]) 0xA08109 [1]) 12 { began := true }) { port := 12, gen := 8 }).station 12) 1048575 [] ((partner (port (cfg (cfg (cfg (cfg (camp (clock rad 1500000000) { st := 3, targets := [(5, { st := 3 })] }) 0xA08103 [1, 0, 0, 0]) 0xA08102 [1, 0, 0, 0]) 0xA08106 [16, 0, 0, 0]) 0xA08109 [1]) 12 { began := true }) { port := 12, gen := 8 }).portClock 12 % 2 ^ 32) 1 [1] ((partner (port (cfg (cfg (cfg (cfg (camp (clock rad 1500000000) { st := 3, targets := [(5, { st := 3 })] }) 0xA08103 [1, 0, 0, 0]) 0xA08102 [1, 0, 0, 0]) 0xA08106 [16, 0, 0, 0]) 0xA08109 [1]) 12 { began := true }) { port := 12, gen := 8 }).campFrame 0 12 0 0))).upd with lastFrame := tblPut (((((partner (port (cfg (cfg (cfg (cfg (camp (clock rad 1500000000) { st := 3, targets := [(5, { st := 3 })] }) 0xA08103 [1, 0, 0, 0]) 0xA08102 [1, 0, 0, 0]) 0xA08106 [16, 0, 0, 0]) 0xA08109 [1]) 12 { began := true }) { port := 12, gen := 8 }).openVal 104).2.lineKey (some 8) ((partner (port (cfg (cfg (cfg (cfg (camp (clock rad 1500000000) { st := 3, targets := [(5, { st := 3 })] }) 0xA08103 [1, 0, 0, 0]) 0xA08102 [1, 0, 0, 0]) 0xA08106 [16, 0, 0, 0]) 0xA08109 [1]) 12 { began := true }) { port := 12, gen := 8 }).netKey 12) .ccm).2).transmit 12 (nativeFrame 3 ((partner (port (cfg (cfg (cfg (cfg (camp (clock rad 1500000000) { st := 3, targets := [(5, { st := 3 })] }) 0xA08103 [1, 0, 0, 0]) 0xA08102 [1, 0, 0, 0]) 0xA08106 [16, 0, 0, 0]) 0xA08109 [1]) 12 { began := true }) { port := 12, gen := 8 }).station 12) 1048575 [] ((partner (port (cfg (cfg (cfg (cfg (camp (clock rad 1500000000) { st := 3, targets := [(5, { st := 3 })] }) 0xA08103 [1, 0, 0, 0]) 0xA08102 [1, 0, 0, 0]) 0xA08106 [16, 0, 0, 0]) 0xA08109 [1]) 12 { began := true }) { port := 12, gen := 8 }).portClock 12 % 2 ^ 32) 1 [1] ((partner (port (cfg (cfg (cfg (cfg (camp (clock rad 1500000000) { st := 3, targets := [(5, { st := 3 })] }) 0xA08103 [1, 0, 0, 0]) 0xA08102 [1, 0, 0, 0]) 0xA08106 [16, 0, 0, 0]) 0xA08109 [1]) 12 { began := true }) { port := 12, gen := 8 }).campFrame 0 12 0 0))).upd.lastFrame (12 * 64 + 0) ((partner (port (cfg (cfg (cfg (cfg (camp (clock rad 1500000000) { st := 3, targets := [(5, { st := 3 })] }) 0xA08103 [1, 0, 0, 0]) 0xA08102 [1, 0, 0, 0]) 0xA08106 [16, 0, 0, 0]) 0xA08109 [1]) 12 { began := true }) { port := 12, gen := 8 }).portClock 12) } }
     : State), (0 : Fin 64), (12 : Fin 24), (0 : Nat), (0 : Nat), ([1] : Bytes), ?_, ?_, ?_, ?_, ?_, ?_, ?_, ?_, ?_, ?_, ?_, ?_, Prod.ext
     (by decide +kernel) rfl, rfl, rfl⟩ <;> decide +kernel,
   ⟨(State.reset : State), (0 : Fin 64), (0 : Handle), by decide +kernel⟩,
   ⟨(State.reset : State), (0 : Fin 64), (0 : Handle), (.done : CampAns), by decide +kernel⟩,
   ⟨(camp up { st := 2, targets := [(5, { st := 2 })] } : State), (0 : Fin 64), (5 : Handle), ({ st := 2 } : Target), by decide +kernel⟩,
   ⟨(camp up { st := 3, targets := [(5, { st := 2 })] } : State), (0 : Fin 64), (5 : Handle), ({ st := 2 } : Target), by decide +kernel⟩,
   ⟨(camp up { st := 3, targets := [(5, { st := 2 })] } : State), (0 : Fin 64), (5 : Handle), ({ st := 2 } : Target), (.done : CampAns),
     by decide +kernel⟩,
   ⟨(camp up { st := 3, targets := [(5, { st := 2, attempts := 1 })] } : State), (0 : Fin 64), (5 : Handle), ({ st := 2, attempts := 1 } : Target),
     (4096 : Nat), by decide +kernel⟩,
   ⟨(camp up { st := 3, targets := [(5, { st := 5, phase := 1, attempts := 1, verifyFails := 1 })] } : State), (0 : Fin 64), (5 : Handle),
     ({ st := 5, phase := 1, attempts := 1, verifyFails := 1 } : Target), by decide +kernel⟩,
   ⟨(camp up { st := 3, targets := [(5, { st := 7, phase := 1, attempts := 1 })] } : State), (0 : Fin 64), (5 : Handle),
     ({ st := 7, phase := 1, attempts := 1 } : Target), by decide +kernel⟩,
   ⟨(camp up { st := 3, targets := [(5, { st := 2 })] } : State), (0 : Fin 64), (5 : Handle), ({ st := 2 } : Target), by decide +kernel⟩,
   ⟨(camp { cfg up 0xA0810B [1] with time := { up.time with net := 10 ^ 18 } } { st := 3, targets := [(5, { st := 2, attempts := 9 })] } : State),
     (0 : Fin 64), (5 : Handle), ({ st := 2, attempts := 9 } : Target), by decide +kernel⟩,
   ⟨(State.reset : State), (0 : Fin 64), by decide +kernel⟩,
   ⟨(cfg (camp { up with time := { up.time with net := 10 ^ 18 } } { st := 3 }) 0xA08107 (List.replicate 12 0) : State), (0 : Fin 64),
     by decide +kernel⟩⟩

/-- Hypotheses of CanNodeAndDictionaryAvailability. -/
theorem test_hyps_CanNodeAndDictionaryAvailability :
    (∃ (s : State) (p : Fin 2), (s.canState p.val ≠ 0) ∧ (s.canState p.val ≠ 3) ∧ (s.cfgN ((17408 + 16 * p.val) * 256 + 2) ≠ 0) ∧ ((tblGet { }
      s.link.can p.val).nmtStopped = false)) ∧
    (∃ (s : State) (r : Req) (n : Nat), (s.dict.available = false) ∧ (s.upd.down.contains 2 = true) ∧ (r.sess.tr = Transport.mailbox) ∧ (grottoIndex
      (n / 256) = false)) ∧
    (∃ (s : State) (r : Req) (n : Nat), (s.dict.available = false) ∧ (s.upd.down.contains 2 = true) ∧ (r.sess.tr = Transport.mailbox) ∧ (grottoIndex
      (n / 256) = true) ∧ (6 ≤ s.pwr.stage) ∧ (s.pwr.inReset = false)) ∧
    (∃ (s : State), (s.pwr.inReset = false) ∧ (6 ≤ s.pwr.stage) ∧ (s.upd.down.contains 2 = false)) :=
  ⟨⟨(State.reset : State), (0 : Fin 2), by decide +kernel⟩,
   ⟨({ State.reset with upd := { State.reset.upd with down := [2] }, pwr := { up.pwr with stage := 6 } } : State), ({ sess := ⟨.mailbox, 1⟩ } : Req),
     (0x600000 : Nat), by decide +kernel⟩,
   ⟨({ State.reset with upd := { State.reset.upd with down := [2] }, pwr := { up.pwr with stage := 6 } } : State), ({ sess := ⟨.mailbox, 1⟩ } : Req),
     (0x100000 : Nat), by decide +kernel⟩,
   ⟨(up : State), by decide +kernel⟩⟩

/-- Hypotheses of CheckChannelsMeasure. -/
theorem test_hyps_CheckChannelsMeasure :
    (∃ (s : State) (at_ : Nat), (at_ % s.sampleNs = 0) ∧ (s.weir.st ≠ 2) ∧ (s.weir.capSt = 3)) ∧
    (∃ (s : State) (at_ : Nat) (raw : List (Fin 128 × BitVec 24)), (at_ % s.sampleNs = 0)) ∧
    (∃ (s : State) (at_ : Nat) (raw : List (Fin 128 × BitVec 24)), (at_ % s.sampleNs ≠ 0)) ∧
    (∃ (s : State) (ppb : U32) (temp : BitVec 16), (s.weir.suspect = false) ∧ (20000 < BitVec.toNat ppb)) ∧
    (∃ (s : State) (ppb : U32) (temp : BitVec 16), (BitVec.toNat ppb ≤ 20000)) ∧
    (∃ (s : State) (f : Fin 64), (feederN s 1 f.val = 0)) ∧
    (∃ (s : State) (f : Fin 64), (feederN s 1 f.val ≠ 0)) ∧
    (∃ (s : State) (r : Req) (arg : Bytes) (o : ObjRow), (s.starts r 0x602210 arg o)) ∧
    (∃ (s : State) (b : PqBlock), (b.feeders = [])) ∧
    (∃ (s : State) (c : Fin 128) (lv : U16), (s.feedersOn = [])) ∧
    (∃ (s : State) (c : Fin 128) (lv : U16) (f : Nat) (code : Nat), (s.feedersOn = [f]) ∧ (feederN s 2 f = c.val) ∧ ((pqStep (tblGet (0, 0) (s.feeder
      f).pq c.val).fst (BitVec.toNat lv) (feederN s 10 f) (feederN s 11 f) (feederN s 12 f)).snd = some code)) :=
  ⟨⟨({ up with weir := { up.weir with capSt := 3 } } : State), (0 : Nat), by decide +kernel⟩,
   ⟨({ up with weir := { up.weir with capSt := 3 } } : State), (0 : Nat), ([] : List (Fin 128 × BitVec 24)), by decide +kernel⟩,
   ⟨(up : State), (1 : Nat), ([] : List (Fin 128 × BitVec 24)), by decide +kernel⟩,
   ⟨(State.reset : State), (20001 : U32), (0 : BitVec 16), by decide +kernel⟩,
   ⟨(State.reset : State), (0 : U32), (0 : BitVec 16), by decide +kernel⟩,
   ⟨(State.reset : State), (0 : Fin 64), by decide +kernel⟩,
   ⟨(cfg up 0x602101 [1] : State), (0 : Fin 64), by decide +kernel⟩,
   ⟨(State.reset : State), (rq : Req), ([] : Bytes), (row 0x602210), starts_of (by decide +kernel) (by decide +kernel)⟩,
   ⟨(State.reset : State), (⟨200000000, [], []⟩ : PqBlock), by decide +kernel⟩,
   ⟨(State.reset : State), (0 : Fin 128), (0 : U16), by decide +kernel⟩,
   ⟨(cfg (cfg (cfg (cfg up 0x602101 [1] 7) 0x602102 [3] 7) 0x602111 [0] 7) 0x60210A [90, 0] 7 : State), (3 : Fin 128), (0 : U16), (7 : Nat),
     (0x106 : Nat), by decide +kernel⟩⟩

/-- Hypotheses of ClaimsHealthAndLineFaults. -/
theorem test_hyps_ClaimsHealthAndLineFaults :
    (∃ (s : State) (p : Option (U8 × Bool × U8)) (f : Bool), (s.pair.role = PairRole.solo)) ∧
    (∃ (s : State) (c : U8) (t : U8) (b : Bool) (f : Bool), (s.pair.role ≠ PairRole.solo) ∧ (BitVec.toNat c < s.drives)) ∧
    (∃ (s : State) (c : U8) (t : U8) (b : Bool) (f : Bool), (s.pair.role ≠ PairRole.solo) ∧ (0 < s.drives) ∧ (s.drives < BitVec.toNat c) ∧
      (s.pwr.strapPos ≤ 1) ∧ (s.pair.lineFault = false)) ∧
    (∃ (s : State) (p : Option (U8 × Bool × U8)) (f : Bool), (s.pair.role ≠ PairRole.solo) ∧ (s.drives = 0)) ∧
    (∃ (s : State), (s.pair.role = PairRole.standby) ∧ (0 < s.drives) ∧ (s.pair.lineFault = false) ∧ (1 ≤ s.pair.freeWins)) ∧
    (∃ (c : Nat), (c % 256 ≠ 0 ∨ c.testBit 15 = true)) ∧
    (∃ (s : State) (p : EccPlace), (p = EccPlace.contextStore ∨ p = EccPlace.journal ∨ p = EccPlace.keyRegister)) ∧
    (∃ (s : State) (p : EccPlace), (¬(p = EccPlace.contextStore ∨ p = EccPlace.journal ∨ p = EccPlace.keyRegister))) ∧
    (∃ (s : State), (s.pair.role = PairRole.solo)) ∧
    (∃ (s : State), (s.pair.role ≠ PairRole.failed ∨ s.cfgN 0xB00006 ≤ (List.filter (fun t => decide (s.time.mono < t + 3600 * 32768))
      s.pair.restarts).length)) ∧
    (∃ (s : State), (s.pair.role = PairRole.failed) ∧ (s.pwr.inReset = false) ∧ ((List.filter (fun t => decide (s.time.mono < t + 3600 * 32768))
      s.pair.restarts).length < s.cfgN 0xB00006)) :=
  ⟨⟨(State.reset : State), (none : Option (U8 × Bool × U8)), (true : Bool), by decide +kernel⟩,
   ⟨({ inPair up .active with pair := { (inPair up .active).pair with lease := true, cond := 0, health := 50 } } : State), (1 : U8), (0 : U8),
     (true : Bool), (true : Bool), by decide +kernel⟩,
   ⟨({ inPair up .active with pair := { (inPair up .active).pair with lease := true, cond := 0, health := 50 } } : State), (255 : U8), (0 : U8),
     (true : Bool), (true : Bool), by decide +kernel⟩,
   ⟨({ inPair up .active with pair := { (inPair up .active).pair with lease := true, cond := 0, health := 0 } } : State), (none : Option (U8 × Bool ×
     U8)), (true : Bool), by decide +kernel⟩,
   ⟨({ inPair up .standby .active with pair := { (inPair up .standby .active).pair with lease := true, cond := 0, freeWins := 1 } } : State),
     by decide +kernel⟩,
   ⟨(1 : Nat), by decide +kernel⟩,
   ⟨(State.reset : State), (.journal : EccPlace), by decide +kernel⟩,
   ⟨(State.reset : State), (.mram : EccPlace), by decide +kernel⟩,
   ⟨(State.reset : State), by decide +kernel⟩,
   ⟨(State.reset : State), by decide +kernel⟩,
   ⟨(inPair up .failed : State), by decide +kernel⟩⟩

/-- Hypotheses of CommitsApplyAtTheSafePointAndDiscardsForget. -/
theorem test_hyps_CommitsApplyAtTheSafePointAndDiscardsForget :
    (∃ (s : State) (r : Req) (g : Fin 39) (arg : Bytes) (o : ObjRow), (s.starts r ((7936 + g.val) * 256 + 3) arg o) ∧ ((s.group g.val).st =
      GroupSt.applying)) ∧
    (∃ (s : State) (r : Req) (g : Fin 39) (arg : Bytes) (o : ObjRow), (s.starts r ((7936 + g.val) * 256 + 3) arg o) ∧ ((s.group g.val).st ≠
      GroupSt.applying) ∧ (leNat arg = 0 ∨ leNat arg = List.length (groupEntries g.val s.dict.pend)) ∧ (groupEntries g.val s.dict.pend = [])) ∧
    (∃ (s : State) (r : Req) (g : Fin 39) (arg : Bytes) (o : ObjRow), (s.starts r ((7936 + g.val) * 256 + 3) arg o) ∧ ((s.group g.val).st ≠
      GroupSt.applying) ∧ (leNat arg = 0 ∨ leNat arg = List.length (groupEntries g.val s.dict.pend)) ∧ (groupEntries g.val s.dict.pend ≠ []) ∧
      (s.groupOk g.val = false)) ∧
    (∃ (s : State) (r : Req) (g : Fin 39) (arg : Bytes) (o : ObjRow) (p : Nat × Bytes), (s.starts r ((7936 + g.val) * 256 + 3) arg o) ∧ ((s.group
      g.val).st ≠ GroupSt.applying) ∧ (leNat arg = 0 ∨ leNat arg = List.length (groupEntries g.val s.dict.pend)) ∧ (groupEntries g.val s.dict.pend ≠
      []) ∧ (s.groupOk g.val = true) ∧ (r.storeOk = true) ∧ ((List.map (fun p => p.fst) (groupEntries g.val s.dict.pend)).Nodup) ∧ (p ∈ groupEntries
      g.val s.dict.pend)) ∧
    (∃ (s : State) (r : Req) (g : Fin 39) (arg : Bytes) (o : ObjRow), (s.starts r ((7936 + g.val) * 256 + 4) arg o) ∧ (leNat arg = 0) ∧ ((s.group
      g.val).st ≠ GroupSt.applying)) ∧
    (∃ (s : State) (g : Fin 39), ((s.group g.val).st = GroupSt.applying) ∧ (s.atSafePoint g.val = false)) ∧
    (∃ (s : State) (g : Fin 39), ((s.group g.val).st = GroupSt.applying) ∧ (s.atSafePoint g.val = true)) ∧
    (∃ (s : State) (g : Fin 39), ((s.group g.val).st ≠ GroupSt.mismatch ∨ (s.group g.val).mismatchRaised = true ∨ s.time.net < (s.group
      g.val).mismatchSince + 500000000 ∨ s.groupOk g.val = true)) ∧
    (∃ (s : State) (g : Fin 39), ((s.group g.val).st = GroupSt.mismatch) ∧ ((s.group g.val).mismatchRaised = false) ∧ ((s.group g.val).mismatchSince +
      500000000 ≤ s.time.net) ∧ (s.groupOk g.val = false)) ∧
    (∃ (s : State) (r : Req) (arg : Bytes) (o : ObjRow), (s.starts r 0x101101 arg o) ∧ (leNat arg ≠ 1684107116)) ∧
    (∃ (s : State) (r : Req) (arg : Bytes) (o : ObjRow), (s.starts r 0x101101 arg o) ∧ (leNat arg = 1684107116)) :=
  ⟨⟨(up.setGroup 0 (fun x => { x with st := .applying }) : State), (rq : Req), (0 : Fin 39), ([0, 0] : Bytes), (row ((7936 + (0)) * 256 + 3)),
     starts_of (by decide +kernel) (by decide +kernel), by decide +kernel⟩,
   ⟨(up : State), (rq : Req), (0 : Fin 39), ([0, 0] : Bytes), (row ((7936 + (0)) * 256 + 3)), starts_of (by decide +kernel) (by decide +kernel),
     by decide +kernel⟩,
   ⟨(pends 0x104003 [0] : State), (rq : Req), (0 : Fin 39), ([0, 0] : Bytes), (row ((7936 + (0)) * 256 + 3)), starts_of (by decide +kernel)
     (by decide +kernel), by decide +kernel⟩,
   ⟨(pends 0x104001 [33] : State), (rq : Req), (0 : Fin 39), ([0, 0] : Bytes), (row ((7936 + (0)) * 256 + 3)), ((storeKey 0x104001 0, [33]) : Nat ×
     Bytes), starts_of (by decide +kernel) (by decide +kernel), by decide +kernel⟩,
   ⟨(up.setGroup 0 (fun x => { x with st := .pending }) : State), (rq : Req), (0 : Fin 39), ([0] : Bytes), (row ((7936 + (0)) * 256 + 4)), starts_of
     (by decide +kernel) (by decide +kernel), by decide +kernel⟩,
   ⟨((up.setGroup 1 (fun x => { x with st := .applying })).setFport 0 (fun x =>
     { x with acks := [{ handle := 5, gen := 4, wait := none, bytes := [1] }] }) : State), (1 : Fin 39), by decide +kernel⟩,
   ⟨(up.setGroup 0 (fun x => { x with st := .applying }) : State), (0 : Fin 39), by decide +kernel⟩,
   ⟨({ up with dict := { up.dict with pend := [(storeKey 0x104001 0, [33])] } } : State), (0 : Fin 39), by decide +kernel⟩,
   ⟨(clock ((cfg up 0x104003 [0]).setGroup 0 (fun x => { x with st := .mismatch, mismatchRaised := false, mismatchSince := 0 })) 500000000 : State),
     (0 : Fin 39), by decide +kernel⟩,
   ⟨(up : State), (rq : Req), ([0, 0, 0, 0] : Bytes), (row 0x101101), starts_of (by decide +kernel) (by decide +kernel), by decide +kernel⟩,
   ⟨(State.reset : State), (rq : Req), ([0x6C, 0x6F, 0x61, 0x64] : Bytes), (row 0x101101), starts_of (by decide +kernel) (by decide +kernel),
     by decide +kernel⟩⟩

/-- Hypotheses of CrossingsTakeTheNextCycleNumber. -/
theorem test_hyps_CrossingsTakeTheNextCycleNumber :
    (∃ (s : State) (stamp : Nat) (width : Nat) (last : Nat) (a : Nat), (s.pwr.inReset = false) ∧ (s.cfgN 0x310004 ≤ width) ∧ (a = ((↑stamp : Int) -
      s.cfgI 4 0x310001).toNat) ∧ (s.time.tracker = Tracker.locked) ∧ (s.time.lastStamp = some last) ∧ (0xEAC028 ≤ a - last) ∧ (((↑a : Int) - (↑(last
      + s.time.period) : Int)).natAbs ≤ 150000)) ∧
    (∃ (s : State) (stamp : Nat) (width : Nat) (last : Nat) (a : Nat), (s.pwr.inReset = false) ∧ (s.cfgN 0x310004 ≤ width) ∧ (a = ((↑stamp : Int) -
      s.cfgI 4 0x310001).toNat) ∧ (s.time.tracker = Tracker.locked) ∧ (s.time.lastStamp = some last) ∧ (150000 < ((↑a : Int) - (↑(last +
      s.time.period) : Int)).natAbs)) ∧
    (∃ (s : State) (stamp : Nat) (width : Nat) (a : Nat), (s.pwr.inReset = false) ∧ (s.cfgN 0x310004 ≤ width) ∧ (a = ((↑stamp : Int) - s.cfgI 4
      0x310001).toNat) ∧ (s.time.tracker = Tracker.search) ∧ (s.time.lastStamp = none) ∧ (s.time.epochNext = none) ∧ (s.time.snap = none)) ∧
    (∃ (s : State) (stamp : Nat) (width : Nat) (last : Nat) (a : Nat), (s.pwr.inReset = false) ∧ (s.cfgN 0x310004 ≤ width) ∧ (a = ((↑stamp : Int) -
      s.cfgI 4 0x310001).toNat) ∧ (s.time.tracker = Tracker.search) ∧ (s.time.lastStamp = some last) ∧ (0xEAC028 ≤ a - last) ∧ (a - last ≤ 22222222))
      ∧
    (∃ (s : State) (i : Fin 3) (stamp : Nat) (width : Nat), (width < s.cfgN 0x310004)) ∧
    (∃ (s : State) (last : Nat), (s.pwr.inReset = false) ∧ (s.time.tracker = Tracker.holdover) ∧ (s.time.lastStamp = some last) ∧ (s.time.predictedRun
      < 5 ∨ s.time.zcSeen = false)) ∧
    (∃ (s : State) (last : Nat), (s.pwr.inReset = false) ∧ (s.time.tracker = Tracker.holdover) ∧ (s.time.lastStamp = some last) ∧ (5 ≤
      s.time.predictedRun) ∧ (s.time.zcSeen = true)) ∧
    (∃ (s : State) (stamp : Nat) (width : Nat) (last : Nat) (a : Nat), (s.pwr.inReset = false) ∧ (s.cfgN 0x310004 ≤ width) ∧ (a = ((↑stamp : Int) -
      s.cfgI 4 0x310001).toNat) ∧ (s.time.tracker = Tracker.holdover) ∧ (s.time.lastStamp = some last) ∧ (s.time.predictedRun = 5) ∧ (0xEAC028 ≤ a -
      last) ∧ (150000 < ((↑a : Int) - (↑(last + s.time.period) : Int)).natAbs)) ∧
    (∃ (s : State) (r : Req) (arg : Bytes) (o : ObjRow), (s.starts r 0x31000A arg o) ∧ (leNat arg < 2 ^ 40) ∧ (s.orderOut = false) ∧
      (s.cycleTriggerArmed = false)) :=
  ⟨⟨(lock up : State), (20150000 : Nat), (10 ^ 9 : Nat), (0 : Nat), (20150000 : Nat), by decide +kernel⟩,
   ⟨(lock up : State), (20150001 : Nat), (10 ^ 9 : Nat), (0 : Nat), (20150001 : Nat), by decide +kernel⟩,
   ⟨(State.reset : State), (0 : Nat), (10 ^ 9 : Nat), (0 : Nat), by decide +kernel⟩,
   ⟨({ up with time := { up.time with lastStamp := some 0 } } : State), (20150000 : Nat), (10 ^ 9 : Nat), (0 : Nat), (20150000 : Nat),
     by decide +kernel⟩,
   ⟨(State.reset : State), (0 : Fin 3), (0 : Nat), (0 : Nat), by decide +kernel⟩,
   ⟨({ up with time := { up.time with tracker := .holdover, lastStamp := some 0 } } : State), (0 : Nat), by decide +kernel⟩,
   ⟨({ up with time := { up.time with tracker := .holdover, lastStamp := some 0, predictedRun := 5, zcSeen := true } } : State), (0 : Nat),
     by decide +kernel⟩,
   ⟨({ up with time := { up.time with tracker := .holdover, lastStamp := some 0, predictedRun := 5 } } : State), (23000000 : Nat), (10 ^ 9 : Nat),
     (0 : Nat), (23000000 : Nat), by decide +kernel⟩,
   ⟨(State.reset : State), (rq : Req), ([0, 0, 0, 0, 0, 0, 0, 0] : Bytes), (row 0x31000A), starts_of (by decide +kernel) (by decide +kernel),
     by decide +kernel⟩⟩

/-- Hypotheses of DisconnectionsAndReconnections. -/
theorem test_hyps_DisconnectionsAndReconnections :
    (∃ (s : State) (h : Handle), ((s.ledger (BitVec.toNat h)).st ≠ Credit.exhausted ∧ (s.ledger (BitVec.toNat h)).st ≠ Credit.deferred ∨ (s.ledger
      (BitVec.toNat h)).disconnect = true ∨ (s.ledger (BitVec.toNat h)).notice = none ∨ ∃ n, (s.ledger (BitVec.toNat h)).notice = some n ∧ s.line <
      n)) ∧
    (∃ (s : State) (h : Handle) (n : Int), ((s.ledger (BitVec.toNat h)).st = Credit.exhausted ∨ (s.ledger (BitVec.toNat h)).st = Credit.deferred) ∧
      ((s.ledger (BitVec.toNat h)).disconnect = false) ∧ ((s.ledger (BitVec.toNat h)).notice = some n) ∧ (n ≤ s.line) ∧ (s.deferReason (BitVec.toNat
      h) = none)) ∧
    (∃ (s : State) (h : Handle) (n : Int) (k : Nat), ((s.ledger (BitVec.toNat h)).st = Credit.exhausted ∨ (s.ledger (BitVec.toNat h)).st =
      Credit.deferred) ∧ ((s.ledger (BitVec.toNat h)).disconnect = false) ∧ ((s.ledger (BitVec.toNat h)).notice = some n) ∧ (n ≤ s.line) ∧
      (s.deferReason (BitVec.toNat h) = some k)) ∧
    (∃ (s : State) (h : Nat), (s.friendly s.billingNow = true)) ∧
    (∃ (s : State) (h : Nat), (s.deferReason h = none)) ∧
    (∃ (s : State) (h : Nat), (s.pwr.releasedAt + s.cfgN 0x705007 * 60 * 32768 ≤ s.time.mono)) ∧
    (∃ (s : State) (h : Handle), ((s.ledger (BitVec.toNat h)).cmd = none ∨ (s.ledger (BitVec.toNat h)).disconnect = false)) ∧
    (∃ (s : State) (h : Handle) (n : Nat), ((s.ledger (BitVec.toNat h)).cmd = some n) ∧ ((s.ledger (BitVec.toNat h)).disconnect = true)) ∧
    (∃ (s : State) (h : Handle), ((s.ledger (BitVec.toNat h)).cmd = none) ∧ ((s.ledger (BitVec.toNat h)).recSent = true) ∧ ((s.ledger (BitVec.toNat
      h)).follow = false)) ∧
    (∃ (s : State) (h : Handle), ((s.ledger (BitVec.toNat h)).reconnect = true) ∧ ((s.ledger (BitVec.toNat h)).recSent = false) ∧ (s.cfgI 8 0x705005 <
      (s.ledger (BitVec.toNat h)).balance ∧ (s.ledger (BitVec.toNat h)).ec = false ∨ s.payMode (BitVec.toNat h) = 0)) ∧
    (∃ (s : State) (h : Handle), ((s.ledger (BitVec.toNat h)).reconnect = false ∨ (s.ledger (BitVec.toNat h)).recSent = true ∨ s.payMode (BitVec.toNat
      h) ≠ 0 ∧ ((s.ledger (BitVec.toNat h)).balance ≤ s.cfgI 8 0x705005 ∨ (s.ledger (BitVec.toNat h)).ec = true))) :=
  ⟨⟨(State.reset : State), (0 : Handle), by decide +kernel⟩,
   ⟨({ (cfg (lock up) 0x705007 [0]) with bill := { up.bill with app := { up.bill.app with ledgers := [(5, { st := .exhausted, notice := some 0 })] } } }
     : State), (5 : Handle), (0 : Int), by decide +kernel⟩,
   ⟨({ (up) with bill := { up.bill with app := { up.bill.app with ledgers := [(5, { st := .exhausted, notice := some 0 })] } } } : State),
     (5 : Handle), (0 : Int), (3 : Nat), by decide +kernel⟩,
   ⟨(cfg up 0x705301 [5, 0, 0x7F, 0, 0, 0xA0, 5] : State), (0 : Nat), by decide +kernel⟩,
   ⟨(cfg (lock up) 0x705007 [0] : State), (0 : Nat), by decide +kernel⟩,
   ⟨({ up with time := { up.time with mono := 10 ^ 12 } } : State), (5 : Nat), by decide +kernel⟩,
   ⟨(State.reset : State), (0 : Handle), by decide +kernel⟩,
   ⟨({ (up) with bill := { up.bill with app := { up.bill.app with ledgers := [(5, { cmd := some 1, disconnect := true })] } } } : State),
     (5 : Handle), (1 : Nat), by decide +kernel⟩,
   ⟨({ (up) with bill := { up.bill with app := { up.bill.app with ledgers := [(5, { recSent := true })] } } } : State), (5 : Handle),
     by decide +kernel⟩,
   ⟨({ (up) with bill := { up.bill with app := { up.bill.app with ledgers := [(5, { reconnect := true, balance := 10 ^ 12 })] } } } : State),
     (5 : Handle), by decide +kernel⟩,
   ⟨(State.reset : State), (0 : Handle), by decide +kernel⟩⟩

/-- Hypotheses of EventsAreRecordedRefilledFlushedAndCleared. 2 that rest on a Config value left out. -/
theorem test_hyps_EventsAreRecordedRefilledFlushedAndCleared :
    (∃ (s : State) (c : Nat) (m : Int), (s.ev.writeThrough = false) ∧ (s.cfgN 0xB10201 c = 0 ∨ (tblGet { } s.ev.sums c).missing < s.cfgN 0xB10201 c))
      ∧
    (∃ (s : State) (c : Nat) (m : Int), (s.ev.writeThrough = false) ∧ (s.cfgN 0xB10201 c ≠ 0) ∧ (s.cfgN 0xB10201 c ≤ (tblGet { } s.ev.sums
      c).missing)) ∧
    (∃ (s : State) (c : Nat) (m : Int), (s.pwr.headEnd = true)) ∧
    (∃ (s : State) (c : BitVec 10), ((tblGet { } s.ev.sums c.toNat).missing = 0)) ∧
    (∃ (s : State) (c : BitVec 10), ((tblGet { } s.ev.sums c.toNat).missing ≠ 0)) ∧
    (∃ (s : State) (r : Req) (o : ObjRow), (s.readGuard r 0xB12001 = .ok o)) ∧
    (∃ (s : State) (r : Req) (a : Abort), (s.readGuard r 0xB12001 = .error a)) ∧
    (∃ (s : State) (r : Req) (arg : Bytes) (o : ObjRow), (s.starts r 0xB12002 arg o) ∧ (s.dict.available = true) ∧ (s.clearTokenOk r.sess arg =
      false)) ∧
    (∃ (s : State) (r : Req) (arg : Bytes) (o : ObjRow), (s.starts r 0xB12002 arg o) ∧ (s.dict.available = true) ∧ (1 ≤ fieldAt arg 0 2) ∧ (fieldAt
      arg 0 2 ≤ fieldAt arg 2 2) ∧ (fieldAt arg 2 2 ≤ 1023) ∧ (fieldAt arg 4 1 % 4 ≠ 0)) ∧
    (∃ (s : State) (r : Req) (arg : Bytes) (o : ObjRow), (s.starts r 0xB12002 arg o) ∧ (s.dict.available = true) ∧ (fieldAt arg 0 2 = 0 ∨ 1023 <
      fieldAt arg 2 2 ∨ fieldAt arg 2 2 < fieldAt arg 0 2 ∨ fieldAt arg 4 1 % 4 = 0)) ∧
    (∃ (s : State) (r : Req) (arg : Bytes) (o : ObjRow), (s.starts r 0xB13002 arg o) ∧ (fieldAt arg 0 2 < 768 ∨ 1023 < fieldAt arg 0 2)) ∧
    (∃ (s : State) (r : Req) (arg : Bytes) (o : ObjRow), (s.starts r 0xB13002 arg o) ∧ (768 ≤ fieldAt arg 0 2) ∧ (fieldAt arg 0 2 ≤ 1023)) :=
  ⟨⟨(State.reset : State), (0 : Nat), (0 : Int), by decide +kernel⟩,
   ⟨({ cfg up 0xB10201 [1] 1 with ev := { up.ev with sums := [(1, { missing := 1 })] } } : State), (1 : Nat), (0 : Int), by decide +kernel⟩,
   ⟨({ up with pwr := { up.pwr with headEnd := true } } : State), (0 : Nat), (0 : Int), by decide +kernel⟩,
   ⟨(State.reset : State), (0 : BitVec 10), by decide +kernel⟩,
   ⟨({ up with ev := { up.ev with sums := [(1, { missing := 1 })] } } : State), (1 : BitVec 10), by decide +kernel⟩,
   ⟨(State.reset : State), (rq : Req), row 0xB12001, guard_of (by decide +kernel)⟩,
   ⟨(State.reset : State), ({ sess := ⟨.coap, 0⟩ } : Req), (.notReady : Abort), guardErr_of (by decide +kernel)⟩,
   ⟨(up : State), (rq : Req), (List.replicate 53 0 : Bytes), (row 0xB12002), starts_of (by decide +kernel) (by decide +kernel), by decide +kernel⟩,
   ⟨(up.setSess ⟨.internal, 0⟩ (fun x => { x with clearChallenge := some 0 }) : State), (rq : Req), ([1, 0, 0xFF, 3, 3] ++ List.replicate 48 0 :
     Bytes), (row 0xB12002), starts_of (by decide +kernel) (by decide +kernel), by decide +kernel⟩,
   ⟨(up.setSess ⟨.internal, 0⟩ (fun x => { x with clearChallenge := some 0 }) : State), (rq : Req), ([1, 0, 0xFF, 3, 0] ++ List.replicate 48 0 :
     Bytes), (row 0xB12002), starts_of (by decide +kernel) (by decide +kernel), by decide +kernel⟩,
   ⟨(State.reset : State), (rq : Req), ([0xFF, 2, 0, 0, 0, 0, 0, 0, 0, 0] : Bytes), (row 0xB13002), starts_of (by decide +kernel) (by decide +kernel),
     by decide +kernel⟩,
   ⟨(State.reset : State), (rq : Req), ([0xFF, 3, 0, 0, 0, 0, 0, 0, 0, 0] : Bytes), (row 0xB13002), starts_of (by decide +kernel) (by decide +kernel),
     by decide +kernel⟩⟩

/-- Hypotheses of FlowsQueuesAndCores. -/
theorem test_hyps_FlowsQueuesAndCores :
    (∃ (s : State) (f : BitVec 12) (k : U8) (tel : Bool) (key : Handle) (ref : U64), (1 ≤ BitVec.toNat k) ∧ (BitVec.toNat k ≤ 3) ∧ (s.queueAcct
      (s.queueOf f.toNat) ≠ 0) ∧ (s.depth (s.queueOf f.toNat) < s.cfgN 0x901104 (s.queueOf f.toNat)) ∧ (s.poolTaken < 49152)) ∧
    (∃ (s : State) (f : BitVec 12) (k : U8) (tel : Bool) (key : Handle) (ref : U64), (1 ≤ BitVec.toNat k) ∧ (BitVec.toNat k ≤ 3) ∧ (s.queueAcct
      (s.queueOf f.toNat) ≠ 0) ∧ (s.cfgN 0x901104 (s.queueOf f.toNat) ≤ s.depth (s.queueOf f.toNat))) ∧
    (∃ (s : State) (f : BitVec 12) (k : U8) (tel : Bool) (key : Handle) (ref : U64), (k = 0 ∨ 4 < BitVec.toNat k)) ∧
    (∃ (s : State) (f : BitVec 12) (k : U8) (tel : Bool) (key : Handle) (ref : U64) (l : Fin 4) (due : Nat), (1 ≤ BitVec.toNat k) ∧ (BitVec.toNat k ≤
      4) ∧ (BitVec.toNat k = 4 → ref ≠ 0) ∧ (s.queueAcct (s.queueOf f.toNat) ≠ 0) ∧ (dueAhead l.val due (s.listTick l.val) = true) ∧ (dueInRange l.val
      due (s.listTick l.val) = true) ∧ (s.poolTaken < 49152)) ∧
    (∃ (s : State) (c : Fin 4) (f : Nat) (it : Item), (s.onCore c.val = none) ∧ (s.dispatches = true) ∧ (s.pick c.val = some (f, it))) ∧
    (∃ (s : State) (c : Fin 4), (s.onCore c.val = none) ∧ (s.dispatches = false ∨ s.pick c.val = none) ∧ (s.cas.stalled.contains c.val = false)) ∧
    (∃ (s : State) (c : Fin 4), ((s.onCore c.val).isSome = true)) ∧
    (∃ (s : State) (u : State) (c : Fin 4) (f : Nat) (since : Nat) (it : Item) (d : Bool) (w : List (BitVec 12 × U8 × Handle × U64)) (l : List (Nat ×
      Nat × Nat × Nat)), (s.onCore c.val = some (f, it, since)) ∧ (s.judgeRun c.val = (d, u)) ∧ (l = List.map (fun x => (x.fst.toNat, BitVec.toNat
      x.snd.fst, BitVec.toNat x.snd.snd.fst, BitVec.toNat x.snd.snd.snd)) w)) ∧
    (∃ (s : State) (l : Fin 4) (ahead : List (Nat × Nat × Item)), (splitDue l.val (s.listTick l.val) (tblGet [] s.cas.delay l.val) = ([], ahead))) ∧
    (∃ (s : State) (l : Fin 4) (due : Nat) (f : Nat) (it : Item) (ahead : List (Nat × Nat × Item)), (splitDue l.val (s.listTick l.val) (tblGet []
      s.cas.delay l.val) = ([(due, f, it)], ahead))) :=
  ⟨⟨(cfg (cfg (cfg up 0x901401 [1] 1) 0x901101 [1] 1) 0x901104 [1, 0, 0, 0] 1 : State), (1 : BitVec 12), (3 : U8), (true : Bool), (5 : Handle),
     (0 : U64), by decide +kernel⟩,
   ⟨({ (cfg (cfg (cfg up 0x901401 [1] 1) 0x901101 [1] 1) 0x901104 [1, 0, 0, 0] 1) with cas := { up.cas with flows := [(1, [job])] } } : State),
     (1 : BitVec 12), (1 : U8), (true : Bool), (5 : Handle), (0 : U64), by decide +kernel⟩,
   ⟨(up : State), (1 : BitVec 12), (0 : U8), (true : Bool), (0 : Handle), (0 : U64), by decide +kernel⟩,
   ⟨(cfg (cfg (cfg up 0x901401 [1] 1) 0x901101 [1] 1) 0x901104 [1, 0, 0, 0] 1 : State), (1 : BitVec 12), (4 : U8), (true : Bool), (5 : Handle),
     (1 : U64), (3 : Fin 4), (1 : Nat), by decide +kernel⟩,
   ⟨({ (cfg (cfg (cfg up 0x901401 [1] 1) 0x901101 [1] 1) 0x901104 [1, 0, 0, 0] 1) with cas := { up.cas with flows := [(1, [{ job with st := .waiting }])], accts := [(1, { bal := [1000, 1000, 1000, 1000] })] } }
     : State), (0 : Fin 4), (1 : Nat), ({ job with st := .waiting } : Item), by decide +kernel⟩,
   ⟨(up : State), (0 : Fin 4), by decide +kernel⟩,
   ⟨(busy : State), (0 : Fin 4), by decide +kernel⟩,
   ⟨(busy : State), ((busy.judgeRun 0).2 : State), (0 : Fin 4), (1 : Nat), (0 : Nat), (job : Item), (false : Bool), ([] : List (BitVec 12 × U8 ×
     Handle × U64)), ([] : List (Nat × Nat × Nat × Nat)), by decide +kernel, Prod.ext (by decide +kernel) rfl, by decide +kernel⟩,
   ⟨(cfg (cfg (cfg up 0x901401 [1] 1) 0x901101 [1] 1) 0x901104 [1, 0, 0, 0] 1 : State), (0 : Fin 4), ([] : List (Nat × Nat × Item)),
     by decide +kernel⟩,
   ⟨({ up with cas := { up.cas with delay := [(0, [(0, 1, job)])] } } : State), (0 : Fin 4), (0 : Nat), (1 : Nat), (job : Item), ([] : List (Nat × Nat
     × Item)), by decide +kernel⟩⟩

/-- Hypotheses of FusesAndLifeCycleCommands. -/
theorem test_hyps_FusesAndLifeCycleCommands :
    (∃ (s : State) (r : Req) (arg : Bytes) (o : ObjRow) (g : LifeCycle), (s.starts r 0xA01001 arg o) ∧ (lcTarget (leNat arg) = some g) ∧ (s.lcPre g =
      some true) ∧ (s.lcRole r g = true)) ∧
    (∃ (s : State) (r : Req) (arg : Bytes) (o : ObjRow) (g : LifeCycle) (stuck : BitVec 4), (s.starts r 0xA01001 arg o) ∧ (lcTarget (leNat arg) = some
      g) ∧ (s.lcPre g = some false)) ∧
    (∃ (s : State) (r : Req) (arg : Bytes) (o : ObjRow), (s.starts r 0xA01100 arg o) ∧ (s.trust.lc = LifeCycle.provisioned) ∧ (4 ≤ s.roleOf r) ∧
      (leNat arg = 1145194319)) ∧
    (∃ (s : State) (r : Req) (arg : Bytes) (o : ObjRow), (s.starts r 0xA01200 arg o) ∧ (s.trust.lc = LifeCycle.provisioned ∨ s.trust.lc =
      LifeCycle.fielded) ∧ (leNat arg = 1347175243)) :=
  ⟨⟨(asRole up .vendor : State), (rq : Req), (leBytes 4 0x4C435403 : Bytes), (row 0xA01001), (.retired : LifeCycle), starts_of (by decide +kernel)
     (by decide +kernel), by decide +kernel⟩,
   ⟨(lc up 1 : State), (rq : Req), (leBytes 4 0x4C435402 : Bytes), (row 0xA01001), (.fielded : LifeCycle), (0 : BitVec 4), starts_of
     (by decide +kernel) (by decide +kernel), by decide +kernel⟩,
   ⟨(asRole (lc up 1) .utility : State), (rq : Req), (leBytes 4 0x4442474F : Bytes), (row 0xA01100), starts_of (by decide +kernel)
     (by decide +kernel), by decide +kernel⟩,
   ⟨(lc up 3 : State), (rq : Req), (leBytes 4 0x504C434B : Bytes), (row 0xA01200), starts_of (by decide +kernel) (by decide +kernel),
     by decide +kernel⟩⟩

/-- Hypotheses of FusesOnceBlownStayBlown. -/
theorem test_hyps_FusesOnceBlownStayBlown :
    (∃ (f : Fuses) (s : State) (t : State), (f.within s.trust.fuses) ∧ (step s = Host.Outcome.next t)) :=
   ⟨(State.reset.trust.fuses : Fuses), (State.reset : State), (State.reset.tick : State), by unfold Fuses.within; decide +kernel, rfl⟩

/-- Hypotheses of GroupCommandsComplete. -/
theorem test_hyps_GroupCommandsComplete :
    (∃ (s : State) (r : Req) (g : Fin 39) (arg : Bytes) (o : ObjRow), (s.starts r ((7936 + g.val) * 256 + 3) arg o) ∧ ((s.group g.val).st ≠
      GroupSt.applying) ∧ (leNat arg = 0 ∨ leNat arg = List.length (groupEntries g.val s.dict.pend)) ∧ (groupEntries g.val s.dict.pend ≠ []) ∧
      (s.groupOk g.val = true) ∧ (r.storeOk = true)) ∧
    (∃ (s : State) (r : Req) (g : Fin 39) (arg : Bytes) (o : ObjRow), (s.starts r ((7936 + g.val) * 256 + 4) arg o) ∧ (leNat arg = 0) ∧ ((s.group
      g.val).st ≠ GroupSt.applying)) ∧
    (∃ (s : State) (g : Fin 39), ((s.group g.val).st = GroupSt.applying) ∧ (s.atSafePoint g.val = true)) ∧
    (∃ (s : State) (r : Req) (arg : Bytes) (o : ObjRow), (s.starts r 0x101101 arg o) ∧ (leNat arg = 1684107116)) ∧
    (∃ (s : State) (g : Fin 39), ((s.group g.val).st = GroupSt.mismatch) ∧ ((s.group g.val).mismatchRaised = false) ∧ ((s.group g.val).mismatchSince +
      500000000 ≤ s.time.net) ∧ (s.groupOk g.val = false)) :=
  ⟨⟨(pends 0x104001 [33] : State), (rq : Req), (0 : Fin 39), ([0, 0] : Bytes), (row ((7936 + (0)) * 256 + 3)), starts_of (by decide +kernel)
     (by decide +kernel), by decide +kernel⟩,
   ⟨(up : State), (rq : Req), (0 : Fin 39), ([0] : Bytes), (row ((7936 + (0)) * 256 + 4)), starts_of (by decide +kernel) (by decide +kernel),
     by decide +kernel⟩,
   ⟨(up.setGroup 0 (fun x => { x with st := .applying }) : State), (0 : Fin 39), by decide +kernel⟩,
   ⟨(up : State), (rq : Req), ([0x6C, 0x6F, 0x61, 0x64] : Bytes), (row 0x101101), starts_of (by decide +kernel) (by decide +kernel),
     by decide +kernel⟩,
   ⟨(clock ((cfg up 0x104003 [0]).setGroup 0 (fun x => { x with st := .mismatch, mismatchRaised := false, mismatchSince := 0 })) 500000000 : State),
     (0 : Fin 39), by decide +kernel⟩⟩

/-- Hypotheses of HeartbeatsAndHandOver. -/
theorem test_hyps_HeartbeatsAndHandOver :
    (∃ (s : State), (s.pair.role = PairRole.solo)) ∧
    (∃ (s : State) (h : Heartbeat), (s.pair.role = PairRole.solo)) ∧
    (∃ (s : State), (s.pair.role ≠ PairRole.solo) ∧ (s.pair.handover = none)) ∧
    (∃ (s : State) (h : Heartbeat), (s.pair.role ≠ PairRole.solo)) ∧
    (∃ (s : State), (s.pair.link = false)) ∧
    (∃ (s : State), (s.pair.link = true) ∧ (s.pair.role = PairRole.active)) ∧
    (∃ (s : State), (s.pair.link = true) ∧ (s.pair.role = PairRole.standby)) ∧
    (∃ (s : State) (r : Req) (arg : Bytes) (o : ObjRow), (s.starts r 0xB00201 arg o) ∧ (s.pair.role ≠ PairRole.active)) ∧
    (∃ (s : State) (r : Req) (arg : Bytes) (o : ObjRow), (s.starts r 0xB00201 arg o) ∧ (s.pair.role = PairRole.active) ∧ (s.mayHandOver = false ∨
      s.pair.handover ≠ none)) ∧
    (∃ (s : State) (r : Req) (arg : Bytes) (o : ObjRow), (s.starts r 0xB00201 arg o) ∧ (s.pair.role = PairRole.active) ∧ (s.mayHandOver = true) ∧
      (s.pair.handover = none)) ∧
    (∃ (s : State) (w : Option Req), (s.pair.handover = some w)) ∧
    (∃ (s : State), (s.pair.hb = none ∨ s.pair.role ≠ PairRole.active ∨ s.cfgN 0xB00005 ≤ s.pair.health ∨ s.mayHandOver = false ∨ s.pair.handover ≠
      none)) ∧
    (∃ (s : State) (h : Heartbeat), (s.pair.hb = some h) ∧ (s.pair.role = PairRole.active) ∧ (s.pair.health < s.cfgN 0xB00005) ∧ (s.mayHandOver =
      true) ∧ (s.pair.handover = none) ∧ (h.health < s.pair.health + 16)) ∧
    (∃ (s : State) (h : Heartbeat), (s.pair.hb = some h) ∧ (s.pair.role = PairRole.active) ∧ (s.pair.health < s.cfgN 0xB00005) ∧ (s.mayHandOver =
      true) ∧ (s.pair.handover = none) ∧ (s.pair.health + 16 ≤ h.health)) ∧
    (∃ (s : State) (r : Req) (arg : Bytes) (o : ObjRow) (v : List (ObjKey × Nat × Bytes)), (s.starts r 0xB00202 arg o) ∧ (s.pair.mismatch ≠ some 3 ∨
      Option.map (fun x => x.role) s.pair.hb ≠ some PairRole.active)) ∧
    (∃ (s : State) (r : Req) (arg : Bytes) (o : ObjRow) (v : List (ObjKey × Nat × Bytes)), (s.starts r 0xB00202 arg o) ∧ (s.pair.mismatch = some 3) ∧
      (Option.map (fun x => x.role) s.pair.hb = some PairRole.active) ∧ (s.pwr.inReset = false)) ∧
    (∃ (s : State), (s.link.garpDue = 0)) ∧
    (∃ (s : State), (s.link.garpDue ≠ 0)) :=
  ⟨⟨(State.reset : State), by decide +kernel⟩,
   ⟨(State.reset : State), (⟨.standby, 1, 0, none, 50, false, false, false, List.replicate 8 0, 0⟩ : Heartbeat), by decide +kernel⟩,
   ⟨(inPair up .standby .active : State), by decide +kernel⟩,
   ⟨(inPair up .standby .active : State), (⟨.standby, 1, 0, none, 50, false, false, false, List.replicate 8 0, 0⟩ : Heartbeat), by decide +kernel⟩,
   ⟨(State.reset : State), by decide +kernel⟩,
   ⟨(inPair up .active : State), by decide +kernel⟩,
   ⟨(inPair up .standby .active : State), by decide +kernel⟩,
   ⟨(State.reset : State), (rq : Req), ([] : Bytes), (row 0xB00201), starts_of (by decide +kernel) (by decide +kernel), by decide +kernel⟩,
   ⟨(inPair up .active .starting : State), (rq : Req), ([] : Bytes), (row 0xB00201), starts_of (by decide +kernel) (by decide +kernel),
     by decide +kernel⟩,
   ⟨(inPair up .active : State), (rq : Req), ([] : Bytes), (row 0xB00201), starts_of (by decide +kernel) (by decide +kernel), by decide +kernel⟩,
   ⟨({ up with pair := { up.pair with handover := some none } } : State), (none : Option Req), by decide +kernel⟩,
   ⟨(State.reset : State), by decide +kernel⟩,
   ⟨(cfg (inPair up .active .standby 25 10) 0xB00005 [11] : State), (⟨.standby, 1, 0, none, 25, false, false, false, List.replicate 8 0, 0⟩ :
     Heartbeat), by decide +kernel⟩,
   ⟨(cfg (inPair up .active .standby 26 10) 0xB00005 [11] : State), (⟨.standby, 1, 0, none, 26, false, false, false, List.replicate 8 0, 0⟩ :
     Heartbeat), by decide +kernel⟩,
   ⟨(State.reset : State), (rq : Req), ([] : Bytes), (row 0xB00202), ([] : List (ObjKey × Nat × Bytes)), starts_of (by decide +kernel)
     (by decide +kernel), by decide +kernel⟩,
   ⟨({ inPair up .standby .active with pair := { (inPair up .standby .active).pair with mismatch := some 3 } } : State), (rq : Req), ([] : Bytes),
     (row 0xB00202), ([] : List (ObjKey × Nat × Bytes)), starts_of (by decide +kernel) (by decide +kernel), by decide +kernel⟩,
   ⟨(State.reset : State), by decide +kernel⟩,
   ⟨({ up with link := { up.link with garpDue := 1 } } : State), by decide +kernel⟩⟩

/-- Hypotheses of InvocationCountersJudgeApdus. -/
theorem test_hyps_InvocationCountersJudgeApdus :
    (∃ (s : State) (q : U64) (e : JEntry) (ok : Bool), (s.entryOf q = some e) ∧ (e.apdu = some ok)) ∧
    (∃ (s : State) (q : U64), (s.entryOf q = none)) ∧
    (∃ (s : State) (q : U64) (e : JEntry), (s.entryOf q = some e) ∧ (e.apdu = none) ∧ (e.unsecured = true ∨ countsApdus e.link = true)) ∧
    (∃ (s : State) (q : U64) (e : JEntry) (c : Ctx), (s.entryOf q = some e) ∧ (e.apdu = none) ∧ (e.unsecured = false) ∧ (countsApdus e.link = false) ∧
      (s.ctxOf e.handle = some c) ∧ (c.remote = false)) ∧
    (∃ (s : State) (e : JEntry) (c : Ctx) (n : U32), (s.entryOf e.seq = some e) ∧ (s.ctxOf e.handle = some c) ∧ (c.remote = false) ∧ (n ≤ c.invoc)) ∧
    (∃ (s : State) (e : JEntry) (c : Ctx) (n : U32), (s.entryOf e.seq = some e) ∧ (s.ctxOf e.handle = some c) ∧ (c.remote = false) ∧ (c.invoc < n)) :=
  ⟨⟨(jrn up { ent with apdu := some true } : State), (1 : U64), ({ ent with apdu := some true } : JEntry), (true : Bool), by decide +kernel⟩,
   ⟨(up : State), (1 : U64), by decide +kernel⟩,
   ⟨(jrn up { ent with link := 9 } : State), (1 : U64), ({ ent with link := 9 } : JEntry), by decide +kernel⟩,
   ⟨(jrn (ctx5 {}) ent : State), (1 : U64), (ent : JEntry), ({} : Ctx), by decide +kernel⟩,
   ⟨(jrn (ctx5 { invoc := 7 }) ent : State), (ent : JEntry), ({ invoc := 7 } : Ctx), (7 : U32), by decide +kernel⟩,
   ⟨(jrn (ctx5 { invoc := 7 }) ent : State), (ent : JEntry), ({ invoc := 7 } : Ctx), (8 : U32), by decide +kernel⟩⟩

/-- Hypotheses of KeysAreImportedDerivedAndUsed. 3 that rest on a Config value left out. -/
theorem test_hyps_KeysAreImportedDerivedAndUsed :
    (∃ (s : State) (r : Req) (arg : Bytes) (o : ObjRow) (k : Bytes), (s.starts r 0xA05000 arg o) ∧ (s.trust.lc ≠ LifeCycle.blank) ∧ ((s.slot 2).valid
      = false)) ∧
    (∃ (s : State) (r : Req) (arg : Bytes) (o : ObjRow), (s.starts r 0xA05000 arg o) ∧ (s.trust.lc ≠ LifeCycle.blank) ∧ ((s.slot 2).valid = false)) ∧
    (∃ (s : State) (r : Req) (arg : Bytes) (o : ObjRow) (p : Nat) (k : Bytes), (s.starts r 0xA05100 arg o) ∧ (s.trust.lc ≠ LifeCycle.blank) ∧
      (s.keyCheck (fieldAt arg 0 4) KeyOp.wrap true = .ok p) ∧ (targetOk (fieldAt arg 4 2) (fieldAt arg 6 1) (fieldAt arg 7 1) = true) ∧ ((s.slot
      (fieldAt arg 4 2)).valid = false) ∧ ((s.slot p).depth < 6)) ∧
    (∃ (s : State) (r : Req) (arg : Bytes) (o : ObjRow) (p : Nat), (s.starts r 0xA05200 arg o) ∧ (s.trust.lc ≠ LifeCycle.blank) ∧ (1 ≤ fieldAt arg 8
      1) ∧ (fieldAt arg 8 1 ≤ 32) ∧ (fieldAt arg 9 1 ≤ 32) ∧ (List.length arg = 10 + fieldAt arg 8 1 + fieldAt arg 9 1) ∧ (s.keyCheck (fieldAt arg 0
      4) KeyOp.derive true = .ok p) ∧ (targetOk (fieldAt arg 4 2) (fieldAt arg 6 1) (fieldAt arg 7 1) = true) ∧ ((s.slot (fieldAt arg 4 2)).valid =
      false) ∧ ((s.slot p).depth < 6)) ∧
    (∃ (s : State) (h : U32) (op : KeyOp) (n : Nat), (s.keyCheck (BitVec.toNat h) op false = .ok n) ∧ (s.isUp 2 = true)) ∧
    (∃ (s : State) (h : U32) (op : KeyOp) (e : KeyErr), (s.keyCheck (BitVec.toNat h) op false = .error e) ∧ (s.isUp 2 = true)) ∧
    (∃ (s : State) (h : U32) (op : KeyOp), (s.pwr.islands.getD 2 IslandSt.held = IslandSt.quiescing ∨ s.pwr.islands.getD 2 IslandSt.held =
      IslandSt.resetting)) ∧
    (∃ (s : State) (r : Req) (e : Fin 32) (v : Bytes) (o : ObjRow), (s.writes r (0xA04001 + e.val) v o) ∧ (s.peerHeld (0xA04001 + e.val) (o.stored v)
      = false) ∧ (r.storeOk = true)) ∧
    (∃ (s : State) (r : Req) (e : Fin 32) (v : Bytes) (o : ObjRow), (s.writes r (0xA04001 + e.val) v o) ∧ (s.peerHeld (0xA04001 + e.val) (o.stored v)
      = true)) ∧
    (∃ (s : State) (r : Req) (v : Bytes) (o : ObjRow), (s.writes r 0xC01001 v o) ∧ (s.trust.lc ≠ LifeCycle.blank) ∧ (s.keyRecordRefuses (s.handleOf r)
      (List.drop 2 v) = none) ∧ (r.storeOk = true)) :=
  ⟨⟨(lc up 1 : State), (rq : Req), (List.replicate 137 0 : Bytes), (row 0xA05000), ([] : Bytes), starts_of (by decide +kernel) (by decide +kernel),
     by decide +kernel⟩,
   ⟨(lc up 1 : State), (rq : Req), (List.replicate 137 0 : Bytes), (row 0xA05000), starts_of (by decide +kernel) (by decide +kernel),
     by decide +kernel⟩,
   ⟨(key (lc up 1) 16 3 : State), (rq : Req), ([16, 0, 0, 0, 17, 0, 1, 0] ++ List.replicate 40 0 : Bytes), (row 0xA05100), (16 : Nat), ([] : Bytes),
     starts_of (by decide +kernel) (by decide +kernel), by decide +kernel, ok_of (by decide +kernel), by decide +kernel⟩,
   by refine ⟨(key (lc up 1) 16 5 : State), (rq : Req), ([16, 0, 0, 0, 17, 0, 1, 0, 1, 0, 9] : Bytes), (row 0xA05200), (16 : Nat), starts_of
     (by decide +kernel) (by decide +kernel), ?_, ?_, ?_, ?_, ?_, ok_of (by decide +kernel), ?_⟩ <;> decide +kernel,
   ⟨(key up 16 1 : State), (16 : U32), (.ccm : KeyOp), (16 : Nat), ok_of (by decide +kernel), by decide +kernel⟩,
   ⟨(up : State), (16 : U32), (.ccm : KeyOp), (.empty : KeyErr), keyErr_of (by decide +kernel), by decide +kernel⟩,
   ⟨({ up with pwr := { up.pwr with islands := List.replicate 10 .quiescing } } : State), (0 : U32), (.wrap : KeyOp), by decide +kernel⟩,
   ⟨(State.reset : State), (rq : Req), (0 : Fin 32), ([32, 0] ++ List.replicate 32 1 : Bytes), (row (0xA04001 + (0))), writes_of (by decide +kernel)
     (by decide +kernel), by decide +kernel⟩,
   ⟨(cfg up 0xA04002 ([32, 0] ++ List.replicate 32 1) : State), (rq : Req), (0 : Fin 32), ([32, 0] ++ List.replicate 32 1 : Bytes), (row (0xA04001 +
     (0))), writes_of (by decide +kernel) (by decide +kernel), by decide +kernel⟩,
   ⟨(lc up 1 : State), (rqm 5 : Req), ([64, 0] ++ List.replicate 48 0 ++ [1] ++ List.replicate 15 0 : Bytes), (row 0xC01001), writes_of
     (by decide +kernel) (by decide +kernel), by decide +kernel⟩⟩

/-- Hypotheses of KeysAreInvalidatedDestroyedAndSwept. 1 that rests on a Config value left out. -/
theorem test_hyps_KeysAreInvalidatedDestroyedAndSwept :
    (∃ (s : State) (r : Req) (arg : Bytes) (o : ObjRow), (s.starts r 0xA05300 arg o) ∧ (s.killRefuses (leNat arg) = none)) ∧
    (∃ (s : State) (r : Req) (arg : Bytes) (o : ObjRow), (s.starts r 0xA05400 arg o) ∧ (s.killRefuses (leNat arg) = none)) ∧
    (∃ (s : State) (w : Sweep), (s.trust.sweep = some w)) ∧
    (∃ (s : State), (s.trust.sweep = none)) ∧
    (∃ (s : State) (r : Req) (arg : Bytes) (o : ObjRow) (k : Bytes), (s.starts r 0xA05600 arg o) ∧ (s.trust.lc ≠ LifeCycle.blank)) ∧
    (∃ (s : State) (d : Option Nat), (s.trust.rewrap = some d) ∧ ((s.slot 5).valid = true) ∧ ((s.slot 3).valid = true) ∧ ((s.slot 3).parent =
      rootParent)) ∧
    (∃ (s : State) (h : Handle), ((s.ctxOf (BitVec.toNat h)).isSome = true)) ∧
    (∃ (s : State) (h : Handle) (c : Ctx), (s.remoteServed (BitVec.toNat h) = true) ∧ (s.allows 1 2 = true) ∧ (s.ctxOf (BitVec.toNat h) = none) ∧
      (tblFind? s.acc.ctxMem (BitVec.toNat h) = some c) ∧ (List.length s.acc.ctx < 16384)) :=
  ⟨⟨(key up 16 1 : State), (rq : Req), ([16, 0, 0, 0] : Bytes), (row 0xA05300), starts_of (by decide +kernel) (by decide +kernel), by decide +kernel⟩,
   ⟨(key up 16 1 : State), (rq : Req), ([16, 0, 0, 0] : Bytes), (row 0xA05400), starts_of (by decide +kernel) (by decide +kernel), by decide +kernel⟩,
   ⟨({ up with trust := { up.trust with sweep := some ⟨[16], 0, []⟩ } } : State), (⟨[16], 0, []⟩ : Sweep), by decide +kernel⟩,
   ⟨(State.reset : State), by decide +kernel⟩,
   ⟨(lc up 1 : State), (rq : Req), (List.replicate 137 0 : Bytes), (row 0xA05600), ([] : Bytes), starts_of (by decide +kernel) (by decide +kernel),
     by decide +kernel⟩,
   ⟨({ key (key up 3 3) 5 3 with trust := { (key (key up 3 3) 5 3).trust with rewrap := some none } } : State), (none : Option Nat),
     by decide +kernel⟩,
   ⟨(ctx5 {} : State), (5 : Handle), by decide +kernel⟩,
   ⟨({ up with acc := { up.acc with ctxMem := [(5, {})] } } : State), (5 : Handle), ({} : Ctx), by decide +kernel⟩⟩

/-- Hypotheses of LatchOrdersAreIssuedAndAnswered. -/
theorem test_hyps_LatchOrdersAreIssuedAndAnswered :
    (∃ (s : State) (t : State), (s.acting = true) ∧ (s.cfgB 0x610001 = true) ∧ (s.isTarget (s.time.cycle + BitVec.ofNat 40 (s.cfgN 0x610003)) = true)
      ∧ (s.orderBlocked = false) ∧ (s.tryOrder (s.time.cycle + BitVec.ofNat 40 (s.cfgN 0x610003)) = .ok t)) ∧
    (∃ (s : State), (s.acting = true) ∧ (s.cfgB 0x610001 = true) ∧ (s.isTarget (s.time.cycle + BitVec.ofNat 40 (s.cfgN 0x610003)) = true) ∧
      (s.orderBlocked = true ∨ ∃ a, s.tryOrder (s.time.cycle + BitVec.ofNat 40 (s.cfgN 0x610003)) = .error a)) ∧
    (∃ (s : State), (s.acting = false ∨ s.cfgB 0x610001 = false)) ∧
    (∃ (s : State) (r : Req) (arg : Bytes) (o : ObjRow) (t : State), (s.starts r 0x610007 arg o) ∧ (1 ≤ leNat arg) ∧ (leNat arg < 2 ^ 40) ∧
      (s.tryOrder (BitVec.ofNat 40 (leNat arg)) = .ok t)) ∧
    (∃ (s : State) (r : Req) (arg : Bytes) (o : ObjRow) (a : Abort), (s.starts r 0x610007 arg o) ∧ (1 ≤ leNat arg) ∧ (leNat arg < 2 ^ 40) ∧
      (s.tryOrder (BitVec.ofNat 40 (leNat arg)) = .error a)) ∧
    (∃ (s : State), (List.filter (fun o => decide (BitVec.toNat (o.target - s.time.cycle) ≤ 2)) s.bal.orders = [])) ∧
    (∃ (s : State) (o : Order) (h : Nat), (List.filter (fun o => decide (BitVec.toNat (o.target - s.time.cycle) ≤ 2)) s.bal.orders = [o]) ∧ (o.unarmed
      = [h]) ∧ ((s.segments.any fun g => s.checkMeter g == some h) = false)) ∧
    (∃ (s : State) (h : Handle) (x : Partner), (s.acting = true) ∧ (tblFind? s.field.partners (BitVec.toNat h) = some x) ∧ (isRf x.port = true) ∧
      (x.gen = 3) ∧ (tblFind? s.bal.setCycleAt (BitVec.toNat h) = none) ∧ (tblGet false s.acc.ext (BitVec.toNat h) = true) ∧ (s.cfgN 0xC04001
      (BitVec.toNat h) ≠ 65535 ∨ (s.segments.any fun g => s.checkMeter g == some (BitVec.toNat h)) = true)) ∧
    (∃ (s : State) (h : Handle), (s.cfgN 0xC04001 (BitVec.toNat h) = 65535) ∧ ((s.segments.any fun g => s.checkMeter g == some (BitVec.toNat h)) =
      false)) ∧
    (∃ (s : State) (h : Handle) (q : U64) (al : Option LatchAlign) (a : LatchAns), (s.entryOf q = none ∨ (∃ e, s.entryOf q = some e ∧ (e.unsecured =
      true ∨ e.isOpen = false ∨ e.handle ≠ BitVec.toNat h)) ∨ ∃ m, tblFind? s.bal.applied (BitVec.toNat h) = some m ∧ q ≤ m)) ∧
    (∃ (s : State) (u : State) (v : State) (h : Handle) (q : U64) (e : JEntry) (al : Option LatchAlign) (a : LatchAns), (s.entryOf q = some e) ∧
      (e.handle = BitVec.toNat h) ∧ (e.isOpen = true) ∧ (e.unsecured = false) ∧ (tblFind? s.bal.applied (BitVec.toNat h) = none) ∧ (s.judgeApdu q =
      (true, u))) ∧
    (∃ (s : State) (u : State) (v : State) (h : Handle) (q : U64) (e : JEntry) (regs : Regs) (al : Option LatchAlign) (o : Order), (s.entryOf q = some
      e) ∧ (e.handle = BitVec.toNat h) ∧ (e.isOpen = true) ∧ (e.unsecured = false) ∧ (tblFind? s.bal.applied (BitVec.toNat h) = none) ∧ (s.judgeApdu q
      = (false, u)) ∧ (v = u.setBal fun b => { b with applied := tblPut b.applied (BitVec.toNat h) q }) ∧ (v.orderFor (BitVec.toNat h) none = some o)
      ∧ ((v.segments.any fun g => v.checkMeter g == some (BitVec.toNat h)) = false)) ∧
    (∃ (s : State) (u : State) (v : State) (h : Handle) (q : U64) (e : JEntry) (w : State) (id : U16) (c : Cycle) (regs : Regs)
      (al : Option LatchAlign) (o : Order), (s.entryOf q = some e) ∧ (e.handle = BitVec.toNat h) ∧ (e.isOpen = true) ∧ (e.unsecured = false) ∧
      (tblFind? s.bal.applied (BitVec.toNat h) = none) ∧ (s.judgeApdu q = (false, u)) ∧ (v = u.setBal fun b =>
      { b with applied := tblPut b.applied (BitVec.toNat h) q }) ∧ (w = v.noteLatch (BitVec.toNat h) id 2 c al) ∧ (w.orderFor (BitVec.toNat h) (some
      id) = some o) ∧ (((w.segsOf (BitVec.toNat h)).any fun g => segN w 1 g == 3) = false) ∧ (c = o.target)) ∧
    (∃ (s : State) (u : State) (v : State) (h : Handle) (q : U64) (e : JEntry) (w : State) (id : U16) (c : Cycle) (regs : Regs)
      (al : Option LatchAlign) (o : Order), (s.entryOf q = some e) ∧ (e.handle = BitVec.toNat h) ∧ (e.isOpen = true) ∧ (e.unsecured = false) ∧
      (tblFind? s.bal.applied (BitVec.toNat h) = none) ∧ (s.judgeApdu q = (false, u)) ∧ (v = u.setBal fun b =>
      { b with applied := tblPut b.applied (BitVec.toNat h) q }) ∧ (w = v.noteLatch (BitVec.toNat h) id 2 c al) ∧ (w.orderFor (BitVec.toNat h) (some
      id) = some o) ∧ (((w.segsOf (BitVec.toNat h)).any fun g => segN w 1 g == 3) = false) ∧ (c ≠ o.target)) ∧
    (∃ (s : State), (List.filter (fun o => s.pastTarget o (s.cfgN 0x610005)) s.bal.orders = [])) ∧
    (∃ (s : State) (o : Order) (p : Nat × Answer2), (List.filter (fun o => s.pastTarget o (s.cfgN 0x610005)) s.bal.orders = [o]) ∧ (List.filter (fun p
      => p.snd.net.isNone && !o.polled.contains p.fst) o.answers = [p])) ∧
    (∃ (s : State) (o : Order), (List.filter (fun o => s.pastTarget o (s.cfgN 0x610004)) s.bal.orders = [o])) ∧
    (∃ (s : State), (List.filter (fun o => s.pastTarget o (s.cfgN 0x610004)) s.bal.orders = [])) :=
  ⟨by refine ⟨(cfg (cfg (cfg (lock up) 0x610001 [1]) 0x610003 [244, 1, 0, 0]) 0x610006 [244, 1, 0, 0, 0, 0, 0, 0] : State), (issued ((cfg (cfg (cfg
     (lock up) 0x610001 [1]) 0x610003 [244, 1, 0, 0]) 0x610006 [244, 1, 0, 0, 0, 0, 0, 0]).tryOrder ((cfg (cfg (cfg (lock up) 0x610001 [1]) 0x610003
     [244, 1, 0, 0]) 0x610006 [244, 1, 0, 0, 0, 0, 0, 0]).time.cycle + BitVec.ofNat 40 ((cfg (cfg (cfg (lock up) 0x610001 [1]) 0x610003 [244, 1, 0,
     0]) 0x610006 [244, 1, 0, 0, 0, 0, 0, 0]).cfgN 0x610003))) : State), ?_, ?_, ?_, ?_, ok_of (by decide +kernel)⟩ <;> decide +kernel,
   ⟨({ sched up with bal := { up.bal with orders := [{ order with target := 0 }] } } : State), by decide +kernel, by decide +kernel,
     by decide +kernel, Or.inl (by decide +kernel)⟩,
   ⟨(State.reset : State), by decide +kernel⟩,
   ⟨(lock up : State), (rq : Req), ([2, 0, 0, 0, 0, 0, 0, 0] : Bytes), (row 0x610007), (issued ((lock up).tryOrder (BitVec.ofNat 40 (leNat [2, 0, 0,
     0, 0, 0, 0, 0]))) : State), starts_of (by decide +kernel) (by decide +kernel), by decide +kernel, by decide +kernel, issued_of
     (by decide +kernel)⟩,
   ⟨(lock up : State), (rq : Req), ([1, 0, 0, 0, 0, 0, 0, 0] : Bytes), (row 0x610007), (.valueInvalid : Abort), starts_of (by decide +kernel)
     (by decide +kernel), by decide +kernel, by decide +kernel, err_of (by decide +kernel)⟩,
   ⟨(State.reset : State), by decide +kernel⟩,
   ⟨(ordered 0 : State), (order : Order), (5 : Nat), by decide +kernel⟩,
   ⟨({ cfg (partner up { port := 12, gen := 3 }) 0xC04001 [0, 0] 5 with acc := { up.acc with ext := [(5, true)] } } : State), (5 : Handle),
     ({ port := 12, gen := 3 } : Partner), by decide +kernel⟩,
   ⟨(State.reset : State), (0 : Handle), by decide +kernel⟩,
   ⟨(up : State), (5 : Handle), (1 : U64), (none : Option LatchAlign), (.capture true : LatchAns), Or.inl (by decide +kernel)⟩,
   ⟨(jrn up { ent 1 with apdu := some false } : State), (jrn up { ent 1 with apdu := some false } : State), ((jrn up
     { ent 1 with apdu := some false }) : State), (5 : Handle), (1 : U64), ({ ent 1 with apdu := some false } : JEntry), (none : Option LatchAlign),
     (.capture true : LatchAns), by decide +kernel⟩,
   by refine ⟨(jrn (ordered 0) { ent 1 with apdu := some true } : State), (jrn (ordered 0) { ent 1 with apdu := some true } : State), ((jrn (ordered
     0) { ent 1 with apdu := some true }).setBal (fun b => { b with applied := tblPut b.applied 5 1 }) : State), (5 : Handle), (1 : U64),
     ({ ent 1 with apdu := some true } : JEntry), (⟨0, 0, 0, 0⟩ : Regs), (none : Option LatchAlign), (order : Order), ?_, ?_, ?_, ?_, ?_, Prod.ext
     (by decide +kernel) rfl, rfl, ?_⟩ <;> decide +kernel,
   by refine ⟨(jrn (ordered 0) { ent 1 with apdu := some true } : State), (jrn (ordered 0) { ent 1 with apdu := some true } : State), ((jrn (ordered
     0) { ent 1 with apdu := some true }).setBal (fun b => { b with applied := tblPut b.applied 5 1 }) : State), (5 : Handle), (1 : U64),
     ({ ent 1 with apdu := some true } : JEntry), (((jrn (ordered 0) { ent 1 with apdu := some true }).setBal (fun b =>
     { b with applied := tblPut b.applied 5 1 })).noteLatch 5 1 2 1 none : State), (1 : U16), (1 : Cycle), (⟨0, 0, 0, 0⟩ : Regs),
     (none : Option LatchAlign), (order : Order), ?_, ?_, ?_, ?_, ?_, Prod.ext (by decide +kernel) rfl, rfl, rfl, ?_⟩ <;> decide +kernel,
   by refine ⟨(jrn (ordered 0) { ent 1 with apdu := some true } : State), (jrn (ordered 0) { ent 1 with apdu := some true } : State), ((jrn (ordered
     0) { ent 1 with apdu := some true }).setBal (fun b => { b with applied := tblPut b.applied 5 1 }) : State), (5 : Handle), (1 : U64),
     ({ ent 1 with apdu := some true } : JEntry), (((jrn (ordered 0) { ent 1 with apdu := some true }).setBal (fun b =>
     { b with applied := tblPut b.applied 5 1 })).noteLatch 5 1 2 2 none : State), (1 : U16), (2 : Cycle), (⟨0, 0, 0, 0⟩ : Regs),
     (none : Option LatchAlign), (order : Order), ?_, ?_, ?_, ?_, ?_, Prod.ext (by decide +kernel) rfl, rfl, rfl, ?_⟩ <;> decide +kernel,
   ⟨(State.reset : State), by decide +kernel⟩,
   ⟨(ordered 601 : State), (order : Order), ((5, .waiting false) : Nat × Answer2), by decide +kernel⟩,
   ⟨(ordered 3001 : State), (order : Order), by decide +kernel⟩,
   ⟨(State.reset : State), by decide +kernel⟩⟩

/-- Hypotheses of LatchesCapturesAndCalibration. -/
theorem test_hyps_LatchesCapturesAndCalibration :
    (∃ (s : State) (r : Req) (arg : Bytes) (o : ObjRow) (c : Cycle), (s.starts r 0x60000A arg o) ∧ (fieldAt arg 0 8 < 2 ^ 40) ∧ (c = BitVec.ofNat 40
      (fieldAt arg 0 8)) ∧ (2 ≤ BitVec.toNat (c - s.time.cycle)) ∧ (BitVec.toNat (c - s.time.cycle) < 2 ^ 39) ∧ (s.weir.latches.length < 8)) ∧
    (∃ (s : State) (r : Req) (arg : Bytes) (o : ObjRow) (c : Cycle), (s.starts r 0x60000A arg o) ∧ (fieldAt arg 0 8 < 2 ^ 40) ∧ (c = BitVec.ofNat 40
      (fieldAt arg 0 8)) ∧ (BitVec.toNat (c - s.time.cycle) < 2)) ∧
    (∃ (s : State) (r : Req) (arg : Bytes) (o : ObjRow) (c : Cycle), (s.starts r 0x60000A arg o) ∧ (fieldAt arg 0 8 < 2 ^ 40) ∧ (c = BitVec.ofNat 40
      (fieldAt arg 0 8)) ∧ (2 ≤ BitVec.toNat (c - s.time.cycle)) ∧ (BitVec.toNat (c - s.time.cycle) < 2 ^ 39) ∧ (8 ≤ s.weir.latches.length)) ∧
    (∃ (s : State) (r : Req) (o : ObjRow), (s.starts r 0x605008 [1] o) ∧ (1 ≤ s.captureChans.length) ∧ (s.captureChans.length ≤ 16) ∧
      (s.captureChans.length * s.cfgN 0x605002 ≤ 131072) ∧ (s.cfgN 0x605004 ≠ 0) ∧ (s.weir.capSt = 0)) ∧
    (∃ (s : State) (r : Req) (o : ObjRow), (s.starts r 0x605008 [1] o) ∧ (1 ≤ s.captureChans.length) ∧ (s.captureChans.length ≤ 16) ∧
      (s.captureChans.length * s.cfgN 0x605002 ≤ 131072) ∧ (s.cfgN 0x605004 ≠ 0) ∧ (s.weir.capSt ≠ 0)) ∧
    (∃ (s : State) (r : Req) (o : ObjRow), (s.starts r 0x605008 [2] o) ∧ (s.weir.capSt = 2)) ∧
    (∃ (s : State) (r : Req) (o : ObjRow), (s.starts r 0x605008 [2] o) ∧ (s.weir.capSt = 1)) ∧
    (∃ (s : State) (r : Req) (o : ObjRow), (s.starts r 0x605008 [3] o)) ∧
    (∃ (s : State) (f : Fin 64), (s.cfgN 0x605004 = 2) ∧ (s.cfgN 0x605005 = f.val)) ∧
    (∃ (s : State) (f : Option (Fin 64)), (s.cfgN 0x605004 = 1)) ∧
    (∃ (s : State), (s.weir.capSt ≠ 3)) ∧
    (∃ (s : State), (s.weir.capSt = 3)) ∧
    (∃ (s : State) (r : Req) (arg : Bytes) (o : ObjRow), (s.starts r 0x604001 arg o) ∧ (fieldAt arg 0 1 ≤ 127) ∧ (s.chanOn (fieldAt arg 0 1) = true) ∧
      (fieldAt arg 1 1 = 1) ∧ (F64.finite (BitVec.ofNat 64 (fieldAt arg 4 8)) = true) ∧ (s.weir.calib = none)) ∧
    (∃ (s : State) (c : Calib) (m : U64), (s.weir.calib = some c) ∧ (s.proposal c m = none)) ∧
    (∃ (s : State) (m : U64), (s.weir.calib = none)) :=
  ⟨⟨(State.reset : State), (rq : Req), ([2, 0, 0, 0, 0, 0, 0, 0, 1, 0] : Bytes), (row 0x60000A), (2 : Cycle), starts_of (by decide +kernel)
     (by decide +kernel), by decide +kernel⟩,
   ⟨(State.reset : State), (rq : Req), ([1, 0, 0, 0, 0, 0, 0, 0, 1, 0] : Bytes), (row 0x60000A), (1 : Cycle), starts_of (by decide +kernel)
     (by decide +kernel), by decide +kernel⟩,
   ⟨({ up with weir := { up.weir with latches := List.replicate 8 { id := 1, target := 9 } } } : State), (rq : Req), ([2, 0, 0, 0, 0, 0, 0, 0, 1, 0] :
     Bytes), (row 0x60000A), (2 : Cycle), starts_of (by decide +kernel) (by decide +kernel), by decide +kernel⟩,
   ⟨(capt 0 : State), (rq : Req), (row 0x605008), starts_of (by decide +kernel) (by decide +kernel), by decide +kernel⟩,
   ⟨(capt 1 : State), (rq : Req), (row 0x605008), starts_of (by decide +kernel) (by decide +kernel), by decide +kernel⟩,
   ⟨(capt 2 : State), (rq : Req), (row 0x605008), starts_of (by decide +kernel) (by decide +kernel), by decide +kernel⟩,
   ⟨(capt 1 : State), (rq : Req), (row 0x605008), starts_of (by decide +kernel) (by decide +kernel), by decide +kernel⟩,
   ⟨(State.reset : State), (rq : Req), (row 0x605008), starts_of (by decide +kernel) (by decide +kernel)⟩,
   ⟨(cfg up 0x605004 [2] : State), (0 : Fin 64), by decide +kernel⟩,
   ⟨(State.reset : State), (none : Option (Fin 64)), by decide +kernel⟩,
   ⟨(State.reset : State), by decide +kernel⟩,
   ⟨(capt 3 : State), by decide +kernel⟩,
   ⟨(cfg up 0x601101 [1] 127 : State), (rq : Req), ([127, 1, 0, 0] ++ List.replicate 8 0 : Bytes), (row 0x604001), starts_of (by decide +kernel)
     (by decide +kernel), by decide +kernel⟩,
   ⟨({ up with weir := { up.weir with calib := some ⟨0, 1, 1, 0⟩ } } : State), (⟨0, 1, 1, 0⟩ : Calib), (0 : U64), by decide +kernel⟩,
   ⟨(State.reset : State), (0 : U64), by decide +kernel⟩⟩

/-- Hypotheses of LedgersAreChargedAndCredited. -/
theorem test_hyps_LedgersAreChargedAndCredited :
    (∃ (s : State) (h : Handle) (it : Item), (s.pwr.islands.getD 8 IslandSt.held ≠ IslandSt.quiescing) ∧ (s.pwr.islands.getD 8 IslandSt.held ≠
      IslandSt.resetting) ∧ (s.prepayItem (BitVec.toNat h) = some it)) ∧
    (∃ (s : State) (h : Handle), (s.pwr.islands.getD 8 IslandSt.held = IslandSt.quiescing ∨ s.pwr.islands.getD 8 IslandSt.held = IslandSt.resetting))
      ∧
    (∃ (s : State) (h : Nat), (((s.ledger h).due.all fun x => x == 0) = true)) ∧
    (∃ (s : State) (h : Handle) (cost : Int), (((s.ledger (BitVec.toNat h)).due.all fun x => x == 0) = false) ∧ (cost = List.foldl (fun n x => n +
      x.fst * (↑(s.price (BitVec.toNat h) (x.snd + 1)) : Int)) (↑(s.ledger (BitVec.toNat h)).eCarry : Int) (s.ledger (BitVec.toNat h)).due.zipIdx) ∧
      (s.pwr.islands.getD 8 IslandSt.held ≠ IslandSt.quiescing) ∧ (s.pwr.islands.getD 8 IslandSt.held ≠ IslandSt.resetting) ∧ (s.prepayItem
      (BitVec.toNat h) = none)) ∧
    (∃ (s : State) (r : Req) (arg : Bytes) (o : ObjRow), (s.starts r 0xC05410 arg o) ∧ (s.itemOf r o ≠ 1048575) ∧ (judgeTransfer (s.ledger (s.itemOf r
      o)) arg = TransferRes.reject)) ∧
    (∃ (s : State) (r : Req) (arg : Bytes) (o : ObjRow), (s.starts r 0xC05410 arg o) ∧ (s.itemOf r o ≠ 1048575) ∧ (judgeTransfer (s.ledger (s.itemOf r
      o)) arg = TransferRes.duplicate)) ∧
    (∃ (s : State) (r : Req) (arg : Bytes) (o : ObjRow), (s.starts r 0xC05410 arg o) ∧ (s.itemOf r o ≠ 1048575) ∧ (judgeTransfer (s.ledger (s.itemOf r
      o)) arg = TransferRes.accept)) ∧
    (∃ (s : State) (h : Nat) (arg : Bytes) (a : Int) (toDebt : Int) (k : Nat), (a = toSigned 64 (fieldAt arg 4 8)) ∧ (toDebt = Min.min (a * (↑(s.cfgN
      0x705008) : Int) / 100) (s.ledger h).debt) ∧ (k ≠ h)) ∧
    (∃ (l : Ledger) (arg : Bytes), (fieldAt arg 0 4 = 0 ∨ fieldAt arg 12 1 = 0 ∨ 3 < fieldAt arg 12 1 ∨ toSigned 64 (fieldAt arg 4 8) < 1 ∨
      1000000000000 < toSigned 64 (fieldAt arg 4 8))) ∧
    (∃ (l : Ledger) (arg : Bytes), (fieldAt arg 0 4 ≠ 0) ∧ (1 ≤ fieldAt arg 12 1) ∧ (fieldAt arg 12 1 ≤ 3) ∧ (1 ≤ toSigned 64 (fieldAt arg 4 8)) ∧
      (toSigned 64 (fieldAt arg 4 8) ≤ 1000000000000) ∧ (fieldAt arg 0 4 = BitVec.toNat l.lastId)) ∧
    (∃ (l : Ledger) (arg : Bytes), (fieldAt arg 0 4 ≠ 0) ∧ (1 ≤ fieldAt arg 12 1) ∧ (fieldAt arg 12 1 ≤ 3) ∧ (1 ≤ toSigned 64 (fieldAt arg 4 8)) ∧
      (toSigned 64 (fieldAt arg 4 8) ≤ 1000000000000) ∧ (BitVec.toNat l.lastId = 4294967295) ∧ (fieldAt arg 0 4 ≠ 4294967295)) ∧
    (∃ (l : Ledger) (arg : Bytes), (fieldAt arg 0 4 ≠ 0) ∧ (1 ≤ fieldAt arg 12 1) ∧ (fieldAt arg 12 1 ≤ 3) ∧ (1 ≤ toSigned 64 (fieldAt arg 4 8)) ∧
      (toSigned 64 (fieldAt arg 4 8) ≤ 1000000000000) ∧ (BitVec.toNat l.lastId ≠ 4294967295) ∧ (BitVec.toNat l.lastId < fieldAt arg 0 4)) ∧
    (∃ (l : Ledger) (arg : Bytes), (fieldAt arg 0 4 ≠ 0) ∧ (1 ≤ fieldAt arg 12 1) ∧ (fieldAt arg 12 1 ≤ 3) ∧ (1 ≤ toSigned 64 (fieldAt arg 4 8)) ∧
      (toSigned 64 (fieldAt arg 4 8) ≤ 1000000000000) ∧ (BitVec.toNat l.lastId ≠ 4294967295) ∧ (fieldAt arg 0 4 < BitVec.toNat l.lastId)) ∧
    (∃ (s : State) (r : Req) (arg : Bytes) (o : ObjRow) (k : Nat), (s.starts r 0xC05411 arg o) ∧ (s.itemOf r o ≠ 1048575) ∧ (s.ecAllowed (s.itemOf r
      o) = true) ∧ (k ≠ s.itemOf r o)) ∧
    (∃ (s : State) (r : Req) (arg : Bytes) (o : ObjRow), (s.starts r 0xC05411 arg o) ∧ (s.itemOf r o ≠ 1048575) ∧ (s.ecAllowed (s.itemOf r o) =
      false)) ∧
    (∃ (s : State) (h : Nat), (s.cfgI 8 0x705001 < (s.ledger h).balance ∨ (s.ledger h).ec = true ∨ s.cfgN 0x705003 ≠ 2)) ∧
    (∃ (s : State) (h : Handle) (c : U16), (s.cfgN 0x70500A ≠ 0) ∧ (BitVec.toNat c = s.cfgN 0x70500A) ∧ (s.ecAllowed (BitVec.toNat h) = true)) ∧
    (∃ (s : State) (h : Handle) (c : U16), (s.cfgN 0x70500A = 0 ∨ BitVec.toNat c ≠ s.cfgN 0x70500A ∨ s.ecAllowed (BitVec.toNat h) = false)) ∧
    (∃ (s : State) (r : Req) (arg : Bytes) (o : ObjRow) (d : Int), (s.starts r 0xC05412 arg o) ∧ (s.itemOf r o ≠ 1048575) ∧ (d = toSigned 64 (leNat
      arg)) ∧ ((s.ledger (s.itemOf r o)).debt + d < 0)) ∧
    (∃ (s : State) (r : Req) (arg : Bytes) (o : ObjRow) (d : Int), (s.starts r 0xC05412 arg o) ∧ (s.itemOf r o ≠ 1048575) ∧ (d = toSigned 64 (leNat
      arg)) ∧ (0 ≤ (s.ledger (s.itemOf r o)).debt) ∧ (d = 0)) ∧
    (∃ (s : State) (r : Req) (arg : Bytes) (o : ObjRow) (d : Int), (s.starts r 0xC05412 arg o) ∧ (s.itemOf r o ≠ 1048575) ∧ (d = toSigned 64 (leNat
      arg)) ∧ (0 ≤ (s.ledger (s.itemOf r o)).debt + d) ∧ (d ≠ 0)) ∧
    (∃ (s : State) (r : Req) (arg : Bytes) (o : ObjRow), (s.starts r 0xC05410 arg o) ∧ (s.itemOf r o = 1048575) ∧ (∃ p, p ∈ s.trust.meters ∧
      judgeTransfer (s.ledger p.fst) arg = TransferRes.reject)) ∧
    (∃ (s : State) (r : Req) (arg : Bytes) (o : ObjRow), (s.starts r 0xC05410 arg o) ∧ (s.itemOf r o = 1048575) ∧ (∀ (p : Nat × Bytes), p ∈
      s.trust.meters → judgeTransfer (s.ledger p.fst) arg ≠ TransferRes.reject)) ∧
    (∃ (s : State) (r : Req) (arg : Bytes) (o : ObjRow), (s.starts r 0xC05411 arg o) ∧ (s.itemOf r o = 1048575) ∧ (∃ p, p ∈ s.trust.meters ∧
      s.ecAllowed p.fst = false)) ∧
    (∃ (s : State) (r : Req) (arg : Bytes) (o : ObjRow), (s.starts r 0xC05411 arg o) ∧ (s.itemOf r o = 1048575) ∧ (∀ (p : Nat × Bytes), p ∈
      s.trust.meters → s.ecAllowed p.fst = true)) :=
  ⟨⟨({ up with cas := { up.cas with flows := [(0xC31, [job])] } } : State), (5 : Handle), (job : Item), by decide +kernel⟩,
   ⟨({ up with pwr := { up.pwr with islands := List.replicate 10 .quiescing } } : State), (0 : Handle), by decide +kernel⟩,
   ⟨(State.reset : State), (0 : Nat), by decide +kernel⟩,
   ⟨(owes up { due := [1, 0, 0, 0, 0, 0, 0, 0], eCarry := 2 } : State), (5 : Handle), (2 : Int), by decide +kernel⟩,
   ⟨(State.reset : State), (rqm 5 : Req), ([1, 0, 0, 0, 1, 0, 0, 0, 0, 0, 0, 0, 4, 0, 0, 0] : Bytes), (row 0xC05410), starts_of (by decide +kernel)
     (by decide +kernel), by decide +kernel⟩,
   ⟨(owes up { lastId := 1 } : State), (rqm 5 : Req), ([1, 0, 0, 0, 1, 0, 0, 0, 0, 0, 0, 0, 1, 0, 0, 0] : Bytes), (row 0xC05410), starts_of
     (by decide +kernel) (by decide +kernel), by decide +kernel⟩,
   ⟨(State.reset : State), (rqm 5 : Req), ([1, 0, 0, 0, 1, 0, 0, 0, 0, 0, 0, 0, 3, 0, 0, 0] : Bytes), (row 0xC05410), starts_of (by decide +kernel)
     (by decide +kernel), by decide +kernel⟩,
   ⟨(State.reset : State), (5 : Nat), ([1, 0, 0, 0, 1, 0, 0, 0, 0, 0, 0, 0, 1, 0, 0, 0] : Bytes), (1 : Int), (0 : Int), (6 : Nat), by decide +kernel⟩,
   ⟨({} : Ledger), ([] : Bytes), by decide +kernel⟩,
   ⟨({ lastId := 1 } : Ledger), ([1, 0, 0, 0, 1, 0, 0, 0, 0, 0, 0, 0, 1, 0, 0, 0] : Bytes), by decide +kernel⟩,
   ⟨({ lastId := 4294967295 } : Ledger), ([1, 0, 0, 0, 1, 0, 0, 0, 0, 0, 0, 0, 1, 0, 0, 0] : Bytes), by decide +kernel⟩,
   ⟨({} : Ledger), ([1, 0, 0, 0, 1, 0, 0, 0, 0, 0, 0, 0, 1, 0, 0, 0] : Bytes), by decide +kernel⟩,
   ⟨({ lastId := 2 } : Ledger), ([1, 0, 0, 0, 1, 0, 0, 0, 0, 0, 0, 0, 1, 0, 0, 0] : Bytes), by decide +kernel⟩,
   ⟨(cfg (owes up { balance := 10 }) 0xC05401 [1] 5 : State), (rqm 5 : Req), ([] : Bytes), (row 0xC05411), (0 : Nat), starts_of (by decide +kernel)
     (by decide +kernel), by decide +kernel⟩,
   ⟨(State.reset : State), (rqm 5 : Req), ([] : Bytes), (row 0xC05411), starts_of (by decide +kernel) (by decide +kernel), by decide +kernel⟩,
   ⟨(owes up { ec := true } : State), (5 : Nat), by decide +kernel⟩,
   ⟨(cfg (cfg (owes up { balance := 10 }) 0xC05401 [1] 5) 0x70500A [9, 0] : State), (5 : Handle), (9 : U16), by decide +kernel⟩,
   ⟨(State.reset : State), (0 : Handle), (0 : U16), by decide +kernel⟩,
   ⟨(State.reset : State), (rqm 5 : Req), (List.replicate 8 0xFF : Bytes), (row 0xC05412), (-1 : Int), starts_of (by decide +kernel)
     (by decide +kernel), by decide +kernel⟩,
   ⟨(State.reset : State), (rqm 5 : Req), (List.replicate 8 0 : Bytes), (row 0xC05412), (0 : Int), starts_of (by decide +kernel) (by decide +kernel),
     by decide +kernel⟩,
   ⟨(State.reset : State), (rqm 5 : Req), ([1, 0, 0, 0, 0, 0, 0, 0] : Bytes), (row 0xC05412), (1 : Int), starts_of (by decide +kernel)
     (by decide +kernel), by decide +kernel⟩,
   ⟨({ up with trust := { up.trust with meters := [(5, [])] } } : State), (rqm 0xFFFFF : Req), ([1, 0, 0, 0, 1, 0, 0, 0, 0, 0, 0, 0, 4, 0, 0, 0] :
     Bytes), (row 0xC05410), starts_of (by decide +kernel) (by decide +kernel), by decide +kernel, ⟨(5, []), by decide +kernel⟩⟩,
   ⟨({ up with trust := { up.trust with meters := [(5, [])] } } : State), (rqm 0xFFFFF : Req), ([1, 0, 0, 0, 1, 0, 0, 0, 0, 0, 0, 0, 1, 0, 0, 0] :
     Bytes), (row 0xC05410), starts_of (by decide +kernel) (by decide +kernel), by decide +kernel⟩,
   ⟨({ up with trust := { up.trust with meters := [(5, [])] } } : State), (rqm 0xFFFFF : Req), ([] : Bytes), (row 0xC05411), starts_of
     (by decide +kernel) (by decide +kernel), by decide +kernel, ⟨(5, []), by decide +kernel⟩⟩,
   ⟨(up : State), (rqm 0xFFFFF : Req), ([] : Bytes), (row 0xC05411), starts_of (by decide +kernel) (by decide +kernel), by decide +kernel⟩⟩

/-- Hypotheses of LoadGroupsAndRelaysSwitch. -/
theorem test_hyps_LoadGroupsAndRelaysSwitch :
    (∃ (s : State) (r : Req) (o : ObjRow), (s.starts r 0x706305 [1] o) ∧ (s.cfgB 0x706101 (s.itemOf r o) = true)) ∧
    (∃ (s : State) (r : Req) (o : ObjRow), (s.starts r 0x706305 [2] o) ∧ (s.cfgB 0x706101 (s.itemOf r o) = true)) ∧
    (∃ (s : State) (r : Req) (o : ObjRow), (s.starts r 0x706305 [3] o)) ∧
    (∃ (s : State) (g : Fin 32) (acked : List Handle), (s.isStandby = true)) ∧
    (∃ (s : State) (g : Fin 32), (s.isStandby = false) ∧ ((s.lgroup g.val).sent = [])) ∧
    (∃ (s : State) (g : Fin 32) (acked : List Handle) (h : Nat), (s.isStandby = false) ∧ ((h, false) ∈ (s.lgroup g.val).sent) ∧ (¬h ∈ List.map (fun x
      => BitVec.toNat x) acked)) ∧
    (∃ (s : State) (g : Fin 32) (h : Nat), (s.isStandby = false) ∧ ((s.lgroup g.val).sent = [(h, true)])) ∧
    (∃ (s : State) (r : Fin 8), ((s.relay r.val).due = none)) ∧
    (∃ (s : State) (r : Fin 8) (b : Bool) (e : Nat), ((s.relay r.val).due = some (b, e))) ∧
    (∃ (s : State), (List.filter (fun g => (s.lgroup g).held) s.enabledGroups = [])) ∧
    (∃ (s : State) (held : List Nat) (ready : List Nat) (g : Nat), (s.isStandby = false) ∧ (held = List.filter (fun g => (s.lgroup g).held)
      s.enabledGroups) ∧ (ready = List.filter (fun g => s.wanted g (s.windowAt g s.billingNow)) held) ∧ (coldest (List.map (fun g => (g, (s.lgroup
      g).h)) ready) = some g)) ∧
    (∃ (s : State) (g : Nat), (s.isStandby = false) ∧ (g < 32) ∧ (List.filter (fun g => (s.lgroup g).held) s.enabledGroups = [g]) ∧ (s.wanted g
      (s.windowAt g s.billingNow) = true)) ∧
    (∃ (s : State) (g : Nat), (s.isStandby = false) ∧ (g < 32) ∧ (List.filter (fun g => (s.lgroup g).held) s.enabledGroups = [g]) ∧ (s.wanted g
      (s.windowAt g s.billingNow) = false)) :=
  ⟨⟨(cfg up 0x706101 [1] : State), (rq : Req), (row 0x706305), starts_of (by decide +kernel) (by decide +kernel), by decide +kernel⟩,
   ⟨(cfg up 0x706101 [1] : State), (rq : Req), (row 0x706305), starts_of (by decide +kernel) (by decide +kernel), by decide +kernel⟩,
   ⟨(State.reset : State), (rq : Req), (row 0x706305), starts_of (by decide +kernel) (by decide +kernel)⟩,
   ⟨(inPair up .standby .active : State), (0 : Fin 32), ([] : List Handle), by decide +kernel⟩,
   ⟨(State.reset : State), (0 : Fin 32), by decide +kernel⟩,
   ⟨({ cfg up 0x706101 [1] with bill := { up.bill with groups := [(0, { sent := [(5, false)] })] } } : State), (0 : Fin 32), ([] : List Handle),
     (5 : Nat), by decide +kernel⟩,
   ⟨({ cfg up 0x706101 [1] with bill := { up.bill with groups := [(0, { sent := [(5, true)] })] } } : State), (0 : Fin 32), (5 : Nat),
     by decide +kernel⟩,
   ⟨(State.reset : State), (0 : Fin 8), by decide +kernel⟩,
   ⟨({ up with bill := { up.bill with relays := [(0, { due := some (true, 9) })] } } : State), (0 : Fin 8), (true : Bool), (9 : Nat),
     by decide +kernel⟩,
   ⟨(State.reset : State), by decide +kernel⟩,
   ⟨({ cfg (cfg up 0x706101 [1]) 0x706107 [50] with bill := { up.bill with groups := [(0, { held := true })] } } : State), ([0] : List Nat), ([0] :
     List Nat), (0 : Nat), by decide +kernel⟩,
   ⟨(cfg ({ cfg up 0x706101 [1] with bill := { up.bill with groups := [(0, { held := true })] } }) 0x706107 [50] : State), (0 : Nat),
     by decide +kernel⟩,
   ⟨(cfg ({ cfg up 0x706101 [1] with bill := { up.bill with groups := [(0, { held := true })] } }) 0x706107 [0] : State), (0 : Nat),
     by decide +kernel⟩⟩

/-- Hypotheses of MacCommandsAndDownlinks. 1 that rests on a Config value left out. -/
theorem test_hyps_MacCommandsAndDownlinks :
    (∃ (s : State) (u : State) (p : Fin 12) (m : MacCmd), ((s.takeMac p.val fun x => x == 3) = (some m, u)) ∧ (fieldAt m.body 0 1 ≤ 8) ∧ (List.length
      m.body = 1 + 11 * fieldAt m.body 0 1)) ∧
    (∃ (s : State) (u : State) (p : Fin 12) (m : MacCmd), ((s.takeMac p.val fun x => x == 3) = (some m, u)) ∧ (8 < fieldAt m.body 0 1)) ∧
    (∃ (s : State) (u : State) (p : Fin 12) (m : MacCmd) (c : Cycle) (o : Int) (off : Int), ((s.takeMac p.val fun x => x == 4) = (some m, u)) ∧
      ((s.fport p.val).lastBeacon = some (c, o)) ∧ (off = (o - toSigned 32 (fieldAt m.body 0 4)) % Max.max 1 ((↑s.time.period : Int) / 1000))) ∧
    (∃ (s : State) (u : State) (p : Fin 24) (m : MacCmd) (x : Partner), ((s.takeMac p.val fun x => x == 5) = (some m, u)) ∧ (u.partner m.handle = some
      x)) ∧
    (∃ (s : State) (u : State) (p : Fin 24) (m : MacCmd), ((s.takeMac p.val fun c => !knownCode p.val c) = (some m, u))) ∧
    (∃ (s : State) (t : State) (p : Fin 12) (h : Nat) (x : Partner) (a : Nat × Nat × Nat × Nat), (List.find? (fun x => x.snd.port == p.val + 12 &&
      x.snd.assignDue) s.field.partners = some (h, x)) ∧ (x.slot = some a) ∧ ((s.setPartner h fun y => { y with assignDue := false }).sendCommand
      (p.val + 12) h 6 (leBytes 1 a.fst ++ leBytes 1 a.snd.fst ++ leBytes 1 a.snd.snd.fst ++ leBytes 1 a.snd.snd.snd) false = some t)) ∧
    (∃ (s : State) (t : State) (p : Fin 24) (h : Nat) (x : Partner), (List.find? (fun x => x.snd.port == p.val && x.snd.hintDue) s.field.partners =
      some (h, x)) ∧ ((s.setPartner h fun y => { y with hintDue := false }).sendCommand p.val h 7 (leBytes 4 (ofSigned 32 x.err) ++ leBytes 2 (Min.min
      65535 (2 * x.drift)) ++ [1]) false = some t)) ∧
    (∃ (s : State) (u : State) (p : Fin 24) (h : Handle) (c : Bytes) (x : Partner) (d : Down) (rest : List Down) (path : List Nat) (span : Nat),
      (s.mayTransmit p.val = true) ∧ (u = (s.takePortItem p.val c).showResults) ∧ (u.partner (BitVec.toNat h) = some x) ∧ (x.queue = d :: rest) ∧
      (x.port = p.val) ∧ (u.isNative p.val = true) ∧ (u.routeTo p.val (BitVec.toNat h) = some (path, span)) ∧ ((u.fport p.val).began = true) ∧ (x.sync
      ≠ 2) ∧ (x.unreachable = false) ∧ (u.slotOpen p.val span (some x) = true)) ∧
    (∃ (s : State) (u : State) (p : Fin 24) (h : Handle) (c : Bytes) (x : Partner) (d : Down) (rest : List Down), (s.mayTransmit p.val = true) ∧ (u =
      (s.takePortItem p.val c).showResults) ∧ (u.partner (BitVec.toNat h) = some x) ∧ (x.queue = d :: rest) ∧ (x.port = p.val) ∧ (u.isNative p.val =
      false) ∧ (x.gen ≠ 5 ∨ u.time.everLocked = true)) ∧
    (∃ (s : State) (p : Fin 24) (h : Handle) (c : Bytes), (s.mayTransmit p.val = false)) ∧
    (∃ (s : State) (u : State) (v : State) (p : Fin 24) (b : Bytes) (rx : Rx) (x : Partner) (c : Nat) (f : Bytes) (key : Bytes), (s.pathRuns = true) ∧
      (s.isNative p.val = true) ∧ (s.takesFrames = true) ∧ (s.deaf p.val rx = false) ∧ (fieldAt b 0 1 / 32 = 1) ∧ (s.partner (fieldAt b 3 3 % 2 ^ 20)
      = some x) ∧ (x.flight = some (c, f)) ∧ (x.port = p.val) ∧ (s.screenAck p.val b rx = (true, v)) ∧ (fieldAt b (6 + 3 * (fieldAt b 0 1 / 4 % 4)) 4
      = c) ∧ (v.lineMeterKey none (fieldAt b 3 3 % 2 ^ 20) KeyOp.cmac = (some key, u))) ∧
    (∃ (s : State) (p : Fin 24) (b : Bytes) (rx : Rx), (isRf p.val = true ∨ s.impulseDrops p.val rx = false) ∧ (fieldAt b 1 2 ≠ 0) ∧ (fieldAt b 1 2 =
      s.station p.val) ∧ (fieldAt b 0 1 / 4 % 4 ≠ 3) ∧ (List.length b = 6 + 3 * (fieldAt b 0 1 / 4 % 4) + if isRf p.val = true then 15 else 12) ∧
      (isRf p.val = true → fieldAt b 0 1 / 4 % 4 = 0)) ∧
    (∃ (s : State) (h : Nat) (x : Partner) (d : Down) (rest : List Down), (s.partner h = some x) ∧ (x.queue = d :: rest)) ∧
    (∃ (s : State) (p : Fin 24) (h : Handle) (x : Partner), (s.partner (BitVec.toNat h) = some x) ∧ (x.port = p.val) ∧ (x.flight ≠ none) ∧ (x.sync ≠
      2) ∧ (isRf p.val = false ∨ x.inHome = true) ∧ (x.unacked < 2)) ∧
    (∃ (s : State) (p : Fin 24) (h : Handle) (x : Partner), (s.partner (BitVec.toNat h) = some x) ∧ (x.port = p.val) ∧ (x.flight ≠ none) ∧ (x.sync ≠
      2) ∧ (isRf p.val = false ∨ x.inHome = true) ∧ (2 ≤ x.unacked)) ∧
    (∃ (s : State) (p : Fin 24) (h : Handle) (x : Partner), (s.partner (BitVec.toNat h) = some x) ∧ (isRf p.val = true) ∧ (x.inHome = false)) ∧
    (∃ (s : State) (p : Fin 12) (rms : U16), (s.pcfg p.val 3 1 ≠ 0) ∧ ((s.fport p.val).muteTo ≤ s.time.net)) :=
  ⟨⟨(mac (up) 0 3 (8 :: List.replicate 88 0) : State), (((mac up 0 3 (8 :: List.replicate 88 0)).takeMac 0 (fun x => x == 3)).2 : State),
     (0 : Fin 12), (⟨0, 5, 3, (8 :: List.replicate 88 0)⟩ : MacCmd), Prod.ext (by decide +kernel) rfl, by decide +kernel⟩,
   ⟨(mac (up) 0 3 [9] : State), (((mac up 0 3 [9]).takeMac 0 (fun x => x == 3)).2 : State), (0 : Fin 12), (⟨0, 5, 3, [9]⟩ : MacCmd), Prod.ext
     (by decide +kernel) rfl, by decide +kernel⟩,
   ⟨(port (mac up 0 4 [0, 0, 0, 0]) 0 { lastBeacon := some (0, 0) } : State), (((port (mac up 0 4 [0, 0, 0, 0]) 0
     { lastBeacon := some (0, 0) }).takeMac 0 (fun x => x == 4)).2 : State), (0 : Fin 12), (⟨0, 5, 4, [0, 0, 0, 0]⟩ : MacCmd), (0 : Cycle), (0 : Int),
     ((0 - toSigned 32 (fieldAt [0, 0, 0, 0] 0 4)) % max 1 (((port (mac up 0 4 [0, 0, 0, 0]) 0 { lastBeacon := some (0, 0) }).time.period : Int) /
     1000) : Int), Prod.ext (by decide +kernel) rfl, by decide +kernel⟩,
   ⟨(mac (partner up { port := 0, gen := 4 }) 0 5 [] : State), (((mac (partner up { port := 0, gen := 4 }) 0 5 []).takeMac 0 (fun x => x == 5)).2 :
     State), (0 : Fin 24), (⟨0, 5, 5, []⟩ : MacCmd), ({ port := 0, gen := 4 } : Partner), Prod.ext (by decide +kernel) rfl, by decide +kernel⟩,
   ⟨(mac (up) 0 99 [] : State), (((mac up 0 99 []).takeMac 0 (fun c => !knownCode 0 c)).2 : State), (0 : Fin 24), (⟨0, 5, 99, []⟩ : MacCmd), Prod.ext
     (by decide +kernel) rfl⟩,
   ⟨(port (partner (clock rad 500000000) { port := 12, gen := 8, assignDue := true, slot := some (1, 2, 3, 4) }) 12 { began := true } : State), (got
     (((port (partner (clock rad 500000000) { port := 12, gen := 8, assignDue := true, slot := some (1, 2, 3, 4) }) 12 { began := true }).setPartner 5
     (fun y => { y with assignDue := false })).sendCommand 12 5 6 (leBytes 1 1 ++ leBytes 1 2 ++ leBytes 1 3 ++ leBytes 1 4) false) : State),
     (0 : Fin 12), (5 : Nat), ({ port := 12, gen := 8, assignDue := true, slot := some (1, 2, 3, 4) } : Partner), ((1, 2, 3, 4) : Nat × Nat × Nat ×
     Nat), by decide +kernel, by decide +kernel, got_of (by decide +kernel)⟩,
   ⟨(partner (own5 { clock plc 1000000 with time := { (clock plc 1000000).time with cycle := 1, lastStamp := some 0 } })
     { port := 0, gen := 4, hasPath := true, hintDue := true } : State), (got (((partner (own5
     { clock plc 1000000 with time := { (clock plc 1000000).time with cycle := 1, lastStamp := some 0 } })
     { port := 0, gen := 4, hasPath := true, hintDue := true }).setPartner 5 (fun y => { y with hintDue := false })).sendCommand 0 5 7 (leBytes 4
     (ofSigned 32 ({ port := 0, gen := 4, hasPath := true, hintDue := true } : Partner).err) ++ leBytes 2 (min 65535 (2 *
     ({ port := 0, gen := 4, hasPath := true, hintDue := true } : Partner).drift)) ++ [1]) false) : State), (0 : Fin 24), (5 : Nat),
     ({ port := 0, gen := 4, hasPath := true, hintDue := true } : Partner), by decide +kernel, got_of (by decide +kernel)⟩,
   ⟨(port (partner (clock rad 500000000) { port := 12, gen := 8, queue := [⟨none, [1], false, 0⟩] }) 12 { began := true } : State), ((port (partner
     (clock rad 500000000) { port := 12, gen := 8, queue := [⟨none, [1], false, 0⟩] }) 12 { began := true }).takePortItem 12 [] : State),
     (12 : Fin 24), (5 : Handle), ([] : Bytes), ({ port := 12, gen := 8, queue := [⟨none, [1], false, 0⟩] } : Partner), (⟨none, [1], false, 0⟩ :
     Down), ([] : List Down), ([] : List Nat), (1 : Nat), by decide +kernel, rfl, by decide +kernel⟩,
   ⟨(partner (cfg (cfg up 0x400101 [1]) 0x400103 [1]) { port := 0, gen := 1, queue := [⟨none, [1], false, 0⟩] } : State), ((partner (cfg (cfg up
     0x400101 [1]) 0x400103 [1]) { port := 0, gen := 1, queue := [⟨none, [1], false, 0⟩] }).takePortItem 0 [] : State), (0 : Fin 24), (5 : Handle),
     ([] : Bytes), ({ port := 0, gen := 1, queue := [⟨none, [1], false, 0⟩] } : Partner), (⟨none, [1], false, 0⟩ : Down), ([] : List Down),
     by decide +kernel, rfl, by decide +kernel⟩,
   ⟨(mac (up) 0 3 (8 :: List.replicate 88 0) : State), (0 : Fin 24), (0 : Handle), ([] : Bytes), by decide +kernel⟩,
   by refine ⟨(partner (own5 plc7) { port := 0, gen := 4, flight := some (1, [7]), queue := [⟨none, [1], false, 0⟩] } : State), (((((partner (own5
     plc7) { port := 0, gen := 4, flight := some (1, [7]), queue := [⟨none, [1], false, 0⟩] }).screenAck 0 ([32, 7, 0, 5, 0, 0, 1, 0, 0, 0] ++
     List.replicate 8 0) { stamp := 0 }).2).lineMeterKey none (fieldAt ([32, 7, 0, 5, 0, 0, 1, 0, 0, 0] ++ List.replicate 8 0) 3 3 % 2 ^ 20) .cmac).2
     : State), (((partner (own5 plc7) { port := 0, gen := 4, flight := some (1, [7]), queue := [⟨none, [1], false, 0⟩] }).screenAck 0 ([32, 7, 0, 5,
     0, 0, 1, 0, 0, 0] ++ List.replicate 8 0) { stamp := 0 }).2 : State), (0 : Fin 24), ([32, 7, 0, 5, 0, 0, 1, 0, 0, 0] ++ List.replicate 8 0 :
     Bytes), ({ stamp := 0 } : Rx), ({ port := 0, gen := 4, flight := some (1, [7]), queue := [⟨none, [1], false, 0⟩] } : Partner), (1 : Nat), ([7] :
     Bytes), ([1] : Bytes), ?_, ?_, ?_, ?_, ?_, ?_, ?_, ?_, Prod.ext (by decide +kernel) rfl, ?_, Prod.ext (by decide +kernel) rfl⟩
     <;> decide +kernel,
   ⟨(plc7 : State), (0 : Fin 24), ([32, 7, 0, 5, 0, 0, 1, 0, 0, 0] ++ List.replicate 8 0 : Bytes), ({ stamp := 0 } : Rx), by decide +kernel⟩,
   ⟨(partner up { port := 0, gen := 4, flight := some (1, [7]), queue := [⟨none, [1], false, 0⟩] } : State), (5 : Nat),
     ({ port := 0, gen := 4, flight := some (1, [7]), queue := [⟨none, [1], false, 0⟩] } : Partner), (⟨none, [1], false, 0⟩ : Down), ([] : List Down),
     by decide +kernel⟩,
   ⟨(partner up { port := 0, gen := 4, flight := some (1, [7]), queue := [⟨none, [1], false, 0⟩] } : State), (0 : Fin 24), (5 : Handle),
     ({ port := 0, gen := 4, flight := some (1, [7]), queue := [⟨none, [1], false, 0⟩] } : Partner), by decide +kernel⟩,
   ⟨(partner up { port := 0, gen := 4, unacked := 2, flight := some (1, [7]), queue := [⟨none, [1], false, 0⟩] } : State), (0 : Fin 24), (5 : Handle),
     ({ port := 0, gen := 4, unacked := 2, flight := some (1, [7]), queue := [⟨none, [1], false, 0⟩] } : Partner), by decide +kernel⟩,
   ⟨(partner up { port := 12, gen := 8, inHome := false } : State), (12 : Fin 24), (5 : Handle), ({ port := 12, gen := 8, inHome := false } :
     Partner), by decide +kernel⟩,
   ⟨(mac (up) 0 3 (8 :: List.replicate 88 0) : State), (0 : Fin 12), (0 : U16), by decide +kernel⟩⟩

/-- Hypotheses of NativeFramesAreTakenAndAcknowledged. 3 that rest on a Config value left out. -/
theorem test_hyps_NativeFramesAreTakenAndAcknowledged :
    (∃ (s : State) (u : State) (p : Fin 24) (b : Bytes) (rx : Rx) (f : NFrame), (s.pathRuns = true) ∧ (s.isNative p.val = true) ∧ (s.deaf p.val rx =
      false) ∧ (fieldAt b 0 1 / 32 ≠ 1) ∧ (fieldAt b 0 1 / 32 ≠ 2) ∧ (s.screenNative p.val b rx = (some f, u)) ∧ (u.takesFrames = true) ∧ (f.keyIndex
      ≠ 1) ∧ (rx.late = false)) ∧
    (∃ (s : State) (p : Fin 24) (b : Bytes) (rx : Rx), (s.pathRuns = false)) ∧
    (∃ (s : State) (p : Fin 24) (b : Bytes) (rx : Rx), (s.pathRuns = true) ∧ (s.isNative p.val = false ∨ s.deaf p.val rx = true)) ∧
    (∃ (s : State) (u : State) (p : Fin 24) (b : Bytes) (rx : Rx) (f : NFrame) (n : Nat) (body : Bytes) (rest : Bytes), (s.pathRuns = true) ∧
      (s.isNative p.val = true) ∧ (s.deaf p.val rx = false) ∧ (fieldAt b 0 1 / 32 ≠ 1) ∧ (fieldAt b 0 1 / 32 ≠ 2) ∧ (s.screenNative p.val b rx = (some
      f, u)) ∧ (u.takesFrames = true) ∧ (f.keyIndex = 1) ∧ (f.type = 3) ∧ ((u.fport p.val).joins < u.joinLimit p.val) ∧ (u.isUp 2 = true) ∧
      (u.keyCheck (u.netKey p.val) KeyOp.ccm false = .ok n) ∧ (rx.late = false)) ∧
    (∃ (s : State) (u : State) (p : Fin 24) (h : Nat) (wake : Nat) (t : State), (List.find? (fun x => x.fst == p.val) s.field.joinDue = some (p.val,
      h, wake)) ∧ (s.keyVersionOf h = 0) ∧ (u = { s with field := { s.field with joinDue := s.field.joinDue.erase (p.val, h, wake) } }) ∧
      (u.sendCommand p.val h 2 [1] true = some t)) ∧
    (∃ (s : State) (u : State) (p : Fin 24) (h : Nat) (wake : Nat), (List.find? (fun x => x.fst == p.val) s.field.joinDue = some (p.val, h, wake)) ∧
      (s.keyVersionOf h = 0) ∧ (u = { s with field := { s.field with joinDue := s.field.joinDue.erase (p.val, h, wake) } }) ∧ (u.sendCommand p.val h 2
      [1] true = none)) ∧
    (∃ (s : State) (p : Fin 24), (List.find? (fun x => x.fst == p.val) s.field.joinDue = none)) ∧
    (∃ (s : State) (p : Fin 12) (a : AckDue), (List.find? (fun a => a.gen == 4) (s.fport p.val).acks = some a) ∧ (a.wait = none) ∧ (s.time.everLocked
      = true) ∧ (s.lineOurs p.val = true)) ∧
    (∃ (s : State) (p : Fin 12) (a : AckDue), (List.find? (fun a => a.gen == 8) (s.fport (p.val + 12)).acks = some a) ∧ (a.wait = none) ∧ ((s.fport
      (p.val + 12)).began = true) ∧ (s.lineOurs (p.val + 12) = true)) ∧
    (∃ (s : State) (p : Fin 12), ((s.fport p.val).acks = [])) ∧
    (∃ (s : State) (p : Fin 24) (a : AckDue), (List.find? (fun a => a.gen != 4 && a.gen != 8 && a.gen != 5) (s.fport p.val).acks = some a) ∧ (a.wait =
      none) ∧ (s.lineOurs p.val = true)) ∧
    (∃ (s : State) (p : Fin 12) (a : AckDue), (List.find? (fun a => a.gen == 5) (s.fport p.val).acks = some a) ∧ (a.wait = none) ∧ (s.time.everLocked
      = true) ∧ (s.lineOurs p.val = true)) ∧
    (∃ (s : State) (p : Fin 12) (a : AckDue), (List.find? (fun a => a.gen == 4) (s.fport p.val).acks = some a) ∧ (a.wait = none) ∧ (s.time.everLocked
      = false ∨ s.lineOurs p.val = false)) :=
  ⟨by refine ⟨(plc7 : State), ((plc7.screenNative 0 (nfr 0 0) { stamp := 0 }).2 : State), (0 : Fin 24), (nfr 0 0 : Bytes), ({ stamp := 0 } : Rx),
     ((parseNative (nfr 0 0)).get (by decide +kernel) : NFrame), ?_, ?_, ?_, ?_, ?_, Prod.ext (by decide +kernel) rfl, ?_⟩ <;> decide +kernel,
   ⟨(State.reset : State), (0 : Fin 24), ([] : Bytes), ({ stamp := 0 } : Rx), by decide +kernel⟩,
   ⟨(up : State), (0 : Fin 24), ([] : Bytes), ({ stamp := 0 } : Rx), by decide +kernel⟩,
   by refine ⟨(plc7 : State), ((plc7.screenNative 0 (nfr 3 1) { stamp := 0 }).2 : State), (0 : Fin 24), (nfr 3 1 : Bytes), ({ stamp := 0 } : Rx),
     ((parseNative (nfr 3 1)).get (by decide +kernel) : NFrame), (16 : Nat), ([] : Bytes), ([] : Bytes), ?_, ?_, ?_, ?_, ?_, Prod.ext
     (by decide +kernel) rfl, ?_, ?_, ?_, ?_, ?_, ok_of (by decide +kernel), ?_⟩ <;> decide +kernel,
   ⟨({ clock plc 1000000 with field := { up.field with joinDue := [(0, 5, 0)], joinPaths := [(5, [], 1)] }, time := { (clock plc 1000000).time with cycle := 1, lastStamp := some 0 } }
     : State),
     ({ clock plc 1000000 with field := { up.field with joinPaths := [(5, [], 1)] }, time := { (clock plc 1000000).time with cycle := 1, lastStamp := some 0 } }
     : State), (0 : Fin 24), (5 : Nat), (0 : Nat),
     ((({ clock plc 1000000 with field := { up.field with joinPaths := [(5, [], 1)] }, time := { (clock plc 1000000).time with cycle := 1, lastStamp := some 0 } }
     : State).sendCommand 0 5 2 [1] true).get (by decide +kernel) : State), by decide +kernel, by decide +kernel, rfl, (Option.some_get _).symm⟩,
   ⟨({ up with field := { up.field with joinDue := [(0, 5, 0)] } } : State), (up : State), (0 : Fin 24), (5 : Nat), (0 : Nat), by decide +kernel,
     by decide +kernel, rfl, by decide +kernel⟩,
   ⟨(State.reset : State), (0 : Fin 24), by decide +kernel⟩,
   ⟨(port (clock plc 0) 0 { acks := [{ handle := 5, gen := 4, wait := none, bytes := [1] }], began := true } : State), (0 : Fin 12),
     ({ handle := 5, gen := 4, wait := none, bytes := [1] } : AckDue), by decide +kernel⟩,
   ⟨(port rad 12 { acks := [{ handle := 5, gen := 8, wait := none, bytes := [1] }], began := true } : State), (0 : Fin 12),
     ({ handle := 5, gen := 8, wait := none, bytes := [1] } : AckDue), by decide +kernel⟩,
   ⟨(State.reset : State), (0 : Fin 12), by decide +kernel⟩,
   ⟨(port plc 0 { acks := [{ handle := 5, gen := 1, wait := none, bytes := [1] }] } : State), (0 : Fin 24),
     ({ handle := 5, gen := 1, wait := none, bytes := [1] } : AckDue), by decide +kernel⟩,
   ⟨(port (clock plc 0) 0 { acks := [{ handle := 5, gen := 5, wait := none, bytes := [1] }], began := true } : State), (0 : Fin 12),
     ({ handle := 5, gen := 5, wait := none, bytes := [1] } : AckDue), by decide +kernel⟩,
   ⟨(port up 0 { acks := [{ handle := 5, gen := 4, wait := none, bytes := [1] }] } : State), (0 : Fin 12),
     ({ handle := 5, gen := 4, wait := none, bytes := [1] } : AckDue), by decide +kernel⟩⟩

/-- Hypotheses of NetworkTimeFollowsItsSource. -/
theorem test_hyps_NetworkTimeFollowsItsSource :
    (∃ (s : State) (p : Fin 4) (d : U8) (origin : Nat) (rx : Nat) (at_ : Nat) (delay : Int) (off : Int), (s.ptpOn p.val = true) ∧ (BitVec.toNat d =
      s.cfgN 0x311101) ∧ (s.time.slave = some p.val) ∧ (s.cfgN 0x311003 = 1) ∧ (s.cfgN 0x311002 = 1) ∧ ((tblGet { } s.time.ptp p.val).pathDelay = some
      delay) ∧ (s.time.sync = Sync.locked) ∧ (off = (↑origin : Int) + delay - ((↑rx : Int) - (↑(s.cfgN (0x420202 + 4096 * p.val)) : Int))) ∧ (s.cfgN
      0x311005 = 0 ∨ off.natAbs ≤ s.cfgN 0x311005 * 1000000)) ∧
    (∃ (s : State) (p : Fin 4) (d : U8) (m : PtpMsg) (at_ : Nat), (s.ptpOn p.val = false ∨ BitVec.toNat d ≠ s.cfgN 0x311101)) ∧
    (∃ (s : State) (p : Fin 4) (kind : Fin 4) (residence : Nat), (s.ptpOn p.val = true) ∧ (2 ≤ kind.val ∨ s.time.slave ≠ some p.val ∧ s.ptpPassive
      p.val = false ∧ s.cfgB 0x311104 = false)) ∧
    (∃ (s : State) (p : Nat), (s.time.slave = some p) ∧ (s.cfgN 0x311003 = 1) ∧ (s.time.sync = Sync.locked)) ∧
    (∃ (s : State), (s.cfgN 0x311003 ≠ 1)) ∧
    (∃ (s : State), (s.cfgN 0x311003 = 2) ∧ (s.time.sync = Sync.locked)) ∧
    (∃ (s : State) (stamp : Nat), (s.cfgN 0x311003 ≠ 2)) ∧
    (∃ (s : State) (stamp : Nat), (s.cfgN 0x311003 = 2) ∧ (s.time.sync = Sync.free) ∧ (s.time.lastPps = none)) ∧
    (∃ (s : State), (s.cfgN 0x311201 = 0)) ∧
    (∃ (s : State), (s.cfgN 0x311201 ≠ 0)) :=
  ⟨⟨({ cfg (cfg (cfg (cfg up 0x311003 [1]) 0x311002 [1]) 0x420001 [1]) 0x420201 [1] with time := { up.time with slave := some 0, sync := .locked, ptp := [(0, { pathDelay := some 0 })] } }
     : State), (0 : Fin 4), (0 : U8), (0 : Nat), (0 : Nat), (0 : Nat), (0 : Int), ((0 : Int) + 0 - ((0 : Int) -
     (({ cfg (cfg (cfg (cfg up 0x311003 [1]) 0x311002 [1]) 0x420001 [1]) 0x420201 [1] with time := { up.time with slave := some 0, sync := .locked, ptp := [(0, { pathDelay := some 0 })] } }).cfgN
     0x420202 : Int)) : Int), by decide +kernel⟩,
   ⟨(State.reset : State), (0 : Fin 4), (9 : U8), (.other : PtpMsg), (0 : Nat), by decide +kernel⟩,
   ⟨({ cfg (cfg (cfg (cfg up 0x311003 [1]) 0x311002 [1]) 0x420001 [1]) 0x420201 [1] with time := { up.time with slave := some 0, sync := .locked, ptp := [(0, { pathDelay := some 0 })] } }
     : State), (0 : Fin 4), (3 : Fin 4), (0 : Nat), by decide +kernel⟩,
   ⟨({ cfg (cfg (cfg (cfg up 0x311003 [1]) 0x311002 [1]) 0x420001 [1]) 0x420201 [1] with time := { up.time with slave := some 0, sync := .locked, ptp := [(0, { pathDelay := some 0 })] } }
     : State), (0 : Nat), by decide +kernel⟩,
   ⟨(cfg up 0x311003 [2] : State), by decide +kernel⟩,
   ⟨({ cfg up 0x311003 [2] with time := { up.time with sync := .locked } } : State), by decide +kernel⟩,
   ⟨(State.reset : State), (0 : Nat), by decide +kernel⟩,
   ⟨(cfg up 0x311003 [2] : State), (0 : Nat), by decide +kernel⟩,
   ⟨(cfg up 0x311201 [0] : State), by decide +kernel⟩,
   ⟨(State.reset : State), by decide +kernel⟩⟩

/-- Hypotheses of OcbCodesLegalTimeAndHeadEnd. 3 that rest on a Config value left out. -/
theorem test_hyps_OcbCodesLegalTimeAndHeadEnd :
    (∃ (s : State) (r : Req) (v : Bytes) (o : ObjRow), (s.locate r 0x200100 = .ok o) ∧ (r.sess.tr ≠ Transport.sdo)) ∧
    (∃ (s : State) (r : Req) (v : Bytes) (o : ObjRow), (s.writes r 0x200100 v o) ∧ (r.sess.tr = Transport.sdo) ∧ (leNat v = 0)) ∧
    (∃ (s : State) (r : Req) (v : Bytes) (o : ObjRow), (s.writes r 0x200100 v o) ∧ (r.sess.tr = Transport.sdo) ∧ (leNat v ≠ 0) ∧ (s.link.codeLocked =
      true)) ∧
    (∃ (s : State) (r : Req) (v : Bytes) (o : ObjRow) (k : Nat), (s.writes r 0x200100 v o) ∧ (r.sess.tr = Transport.sdo) ∧ (leNat v ≠ 0) ∧
      (s.link.codeLocked = false)) ∧
    (∃ (s : State) (r : Req) (v : Bytes) (o : ObjRow), (s.writes r 0x200100 v o) ∧ (r.sess.tr = Transport.sdo) ∧ (leNat v ≠ 0) ∧ (s.link.codeLocked =
      false)) ∧
    (∃ (s : State) (v : Bytes) (k : Nat) (j : Nat), (k < j) ∧ (j ≤ 4)) ∧
    (∃ (s : State) (r : Req) (v : Bytes) (a : Bytes) (o : ObjRow), (s.writes r 0x210000 v o) ∧ (a = (List.drop 2 v).reverse ++ [32]) ∧ (setArgOk a =
      false)) ∧
    (∃ (s : State) (r : Req) (v : Bytes) (a : Bytes) (o : ObjRow), (s.writes r 0x210000 v o) ∧ (a = (List.drop 2 v).reverse ++ [32]) ∧ (setArgOk a =
      true) ∧ (s.time.lockout = true)) ∧
    (∃ (s : State) (r : Req) (v : Bytes) (a : Bytes) (o : ObjRow), (s.writes r 0x210000 v o) ∧ (a = (List.drop 2 v).reverse ++ [32]) ∧ (setArgOk a =
      true) ∧ (s.time.lockout = false) ∧ (s.time.pendSet ≠ none)) ∧
    (∃ (s : State) (r : Req) (v : Bytes) (a : Bytes) (o : ObjRow), (s.writes r 0x210000 v o) ∧ (a = (List.drop 2 v).reverse ++ [32]) ∧ (setArgOk a =
      true) ∧ (s.time.lockout = false) ∧ (s.time.pendSet = none)) ∧
    (∃ (s : State) (n : Nat) (d : U32), (tblFind? s.link.heConn n ≠ none)) ∧
    (∃ (s : State) (n : Nat) (d : U32), (tblFind? s.link.heConn n = none) ∧ (s.headEndOpen d = false)) ∧
    (∃ (s : State) (n : Nat) (d : U32), (tblFind? s.link.heConn n = none) ∧ (s.headEndOpen d = true)) ∧
    (∃ (s : State) (n : Nat) (t : Nat) (m : Bytes), (tblFind? s.link.heConn n = none) ∧ (s.pathRuns = true ∨ s.pwr.acceptReady = false)) ∧
    (∃ (s : State) (n : Nat) (t : Nat) (m : Bytes), (s.pathRuns = false) ∧ (s.pwr.acceptReady = true)) ∧
    (∃ (s : State) (n : Nat) (t : Nat) (m : Bytes), (s.pathRuns = true ∨ s.pwr.acceptReady = false) ∧ (tblFind? s.link.heConn n ≠ none) ∧ (beNat
      (slice m 0 2) < 10 ∨ 252 < beNat (slice m 0 2) ∨ beNat (slice m 0 2) ≠ List.length m ∨ fieldAt m 2 1 = 0)) ∧
    (∃ (s : State) (n : Nat) (t : Nat) (m : Bytes), (s.pathRuns = true ∨ s.pwr.acceptReady = false) ∧ (tblFind? s.link.heConn n ≠ none) ∧ (10 ≤
      List.length m) ∧ (List.length m ≤ 252) ∧ (beNat (slice m 0 2) = List.length m) ∧ (2 ≤ fieldAt m 2 1)) ∧
    (∃ (s : State) (n : Nat) (t : Nat) (m : Bytes), (s.pathRuns = true ∨ s.pwr.acceptReady = false) ∧ (tblFind? s.link.heConn n ≠ none) ∧ (10 ≤
      List.length m) ∧ (List.length m ≤ 252) ∧ (beNat (slice m 0 2) = List.length m) ∧ (fieldAt m 2 1 = 1) ∧ ((s.atNet t).takesFrames = false)) ∧
    (∃ (s : State) (r : Req) (arg : Bytes) (o : ObjRow), (s.starts r 0x240003 arg o) ∧ (leNat arg ≠ 0)) ∧
    (∃ (s : State) (r : Req) (arg : Bytes) (o : ObjRow), (s.starts r 0x240003 arg o) ∧ (leNat arg = 0)) :=
  ⟨⟨(ocb : State), (rq : Req), ([] : Bytes), (row 0x200100), locate_of (by decide +kernel), by decide +kernel⟩,
   ⟨(ocb : State), (rsdo : Req), ([0, 0, 0, 0] : Bytes), (row 0x200100), writes_of (by decide +kernel) (by decide +kernel), by decide +kernel⟩,
   ⟨({ ocb with link := { ocb.link with codeLocked := true } } : State), (rsdo : Req), ([1, 0, 0, 0] : Bytes), (row 0x200100), writes_of
     (by decide +kernel) (by decide +kernel), by decide +kernel⟩,
   ⟨(ocb : State), (rsdo : Req), ([1, 0, 0, 0] : Bytes), (row 0x200100), (4 : Nat), writes_of (by decide +kernel) (by decide +kernel),
     by decide +kernel⟩,
   ⟨(ocb : State), (rsdo : Req), ([1, 0, 0, 0] : Bytes), (row 0x200100), writes_of (by decide +kernel) (by decide +kernel), by decide +kernel⟩,
   ⟨(State.reset : State), ([] : Bytes), (3 : Nat), (4 : Nat), by decide +kernel⟩,
   ⟨(ocb : State), (rq : Req), ([6, 0, 0, 0, 0, 0, 0, 0] : Bytes), ([0, 0, 0, 0, 0, 0, 0x20] : Bytes), (row 0x210000), writes_of (by decide +kernel)
     (by decide +kernel), by decide +kernel⟩,
   ⟨({ ocb with time := { ocb.time with lockout := true } } : State), (rq : Req), ([6, 0, 0x99, 0x12, 0x31, 0x23, 0x59, 0x59] : Bytes), ([0x59, 0x59,
     0x23, 0x31, 0x12, 0x99, 0x20] : Bytes), (row 0x210000), writes_of (by decide +kernel) (by decide +kernel), by decide +kernel⟩,
   ⟨({ ocb with time := { ocb.time with pendSet := some ({}, none) } } : State), (rq : Req), ([6, 0, 0x99, 0x12, 0x31, 0x23, 0x59, 0x59] : Bytes),
     ([0x59, 0x59, 0x23, 0x31, 0x12, 0x99, 0x20] : Bytes), (row 0x210000), writes_of (by decide +kernel) (by decide +kernel), by decide +kernel⟩,
   ⟨(ocb : State), (rq : Req), ([6, 0, 0x99, 0x12, 0x31, 0x23, 0x59, 0x59] : Bytes), ([0x59, 0x59, 0x23, 0x31, 0x12, 0x99, 0x20] : Bytes), (row
     0x210000), writes_of (by decide +kernel) (by decide +kernel), by decide +kernel⟩,
   ⟨({ ocb with link := { ocb.link with heConn := [(1, 7)] } } : State), (1 : Nat), (0 : U32), by decide +kernel⟩,
   ⟨(State.reset : State), (0 : Nat), (0 : U32), by decide +kernel⟩,
   ⟨(cfg (cfg ocb 0x27000A [1]) 0x270002 [4, 0, 10, 0, 0, 1] : State), (1 : Nat), (0x0A000001 : U32), by decide +kernel⟩,
   ⟨(State.reset : State), (0 : Nat), (0 : Nat), ([] : Bytes), by decide +kernel⟩,
   ⟨({ ocb with pwr := { ocb.pwr with islands := List.replicate 10 .held } } : State), (0 : Nat), (0 : Nat), ([] : Bytes), by decide +kernel⟩,
   ⟨({ ocb with link := { ocb.link with heConn := [(1, 7)] } } : State), (1 : Nat), (0 : Nat), ([0, 9, 1] : Bytes), by decide +kernel⟩,
   ⟨({ ocb with link := { ocb.link with heConn := [(1, 7)] } } : State), (1 : Nat), (0 : Nat), ([0, 10, 2, 0, 0, 0, 0, 0, 0, 0] : Bytes),
     by decide +kernel⟩,
   ⟨({ { ocb with pwr := { ocb.pwr with acceptReady := false } } with link := { ocb.link with heConn := [(1, 7)] } } : State), (1 : Nat), (0 : Nat),
     ([0, 10, 1, 0, 0, 0, 0, 0, 0, 0] : Bytes), by decide +kernel⟩,
   ⟨(ocb : State), (rq : Req), ([1] : Bytes), (row 0x240003), starts_of (by decide +kernel) (by decide +kernel), by decide +kernel⟩,
   ⟨(ocb : State), (rq : Req), ([0] : Bytes), (row 0x240003), starts_of (by decide +kernel) (by decide +kernel), by decide +kernel⟩⟩

/-- Hypotheses of OcbWritesStoreAtOnceAndCheckTheirGroup. -/
theorem test_hyps_OcbWritesStoreAtOnceAndCheckTheirGroup :
    (∃ (s : State) (r : Req) (k : ObjKey) (v : Bytes) (o : ObjRow) (g : Nat), (s.pwr.ocb = true) ∧ (ocbIndex (BitVec.toNat k.index) = none) ∧
      (hasOwnWrite (ObjKey.num k) = false) ∧ (s.writes r (ObjKey.num k) v o) ∧ (o.acc = Acc.rws) ∧ (r.storeOk = true) ∧ (groupOf (ObjKey.num k) = some
      g) ∧ (s.ownRule (ObjKey.num k) (s.itemOf r o) (o.stored v) = none) ∧ (s.itemOf r o < 2 ^ 64)) ∧
    (∃ (s : State) (g : Fin 39), (s.pwr.ocb = true) ∧ ((s.group g.val).st ≠ GroupSt.applying) ∧ (s.atSafePoint g.val = true) ∧ (s.changes g.val = [])
      ∧ ((s.group g.val).st ≠ GroupSt.mismatch)) ∧
    (∃ (s : State) (g : Fin 39), (s.pwr.ocb = true) ∧ ((s.group g.val).st ≠ GroupSt.applying) ∧ (s.atSafePoint g.val = true) ∧ (s.changes g.val ≠ [])
      ∧ ((s.group g.val).st ≠ GroupSt.mismatch) ∧ (s.groupOk g.val = false)) ∧
    (∃ (s : State) (g : Fin 39), (s.pwr.ocb = true) ∧ ((s.group g.val).st ≠ GroupSt.applying) ∧ (s.atSafePoint g.val = true) ∧ ((s.group g.val).st =
      GroupSt.mismatch) ∧ (s.groupOk g.val = false)) ∧
    (∃ (s : State) (g : Fin 39), (s.pwr.ocb = true) ∧ ((s.group g.val).st ≠ GroupSt.applying) ∧ (s.atSafePoint g.val = true) ∧ (s.changes g.val ≠ [] ∨
      (s.group g.val).st = GroupSt.mismatch) ∧ (s.groupOk g.val = true)) :=
  ⟨by refine ⟨(ocb : State), (rq : Req), (⟨0x5010, 2⟩ : ObjKey), ([93] : Bytes), (row (ObjKey.num (⟨0x5010, 2⟩))), (36 : Nat), ?_, ?_, ?_, writes_of
     (by decide +kernel) (by decide +kernel), ?_⟩ <;> decide +kernel,
   ⟨(ocb : State), (28 : Fin 39), by decide +kernel⟩,
   ⟨({ cfg ocb 0x104003 [0] with dict := { (cfg ocb 0x104003 [0]).dict with shadow := [(storeKey 0x104003 0, [2])] } } : State), (0 : Fin 39),
     by decide +kernel⟩,
   ⟨((cfg ocb 0x104003 [0]).setGroup 0 (fun x => { x with st := .mismatch }) : State), (0 : Fin 39), by decide +kernel⟩,
   ⟨(ocb.setGroup 0 (fun x => { x with st := .mismatch }) : State), (0 : Fin 39), by decide +kernel⟩⟩

/-- Hypotheses of PlainWritesAreStoredAndReadBack. -/
theorem test_hyps_PlainWritesAreStoredAndReadBack :
    (∃ (s : State) (r : Req) (k : ObjKey) (v : Bytes) (o : ObjRow), (s.pwr.ocb = false) ∧ (hasOwnWrite (ObjKey.num k) = false) ∧ (s.writes r
      (ObjKey.num k) v o) ∧ (o.acc = Acc.rw) ∧ (o.inst ≠ Inst.session) ∧ (isSessionObj (ObjKey.num k) o = false) ∧ (o.eff.later = false) ∧ (s.ownRule
      (ObjKey.num k) (s.itemOf r o) (o.stored v) = none) ∧ (o.eff = Effect.volatile ∨ r.storeOk = true)) :=
   ⟨(up : State), (rq : Req), (⟨0x3300, 1⟩ : ObjKey), ([1] : Bytes), (row (ObjKey.num (⟨0x3300, 1⟩))), by decide +kernel, by decide +kernel, writes_of
     (by decide +kernel) (by decide +kernel), by decide +kernel⟩

/-- Hypotheses of RatesIntervalsAndPeriodsClose. -/
theorem test_hyps_RatesIntervalsAndPeriodsClose :
    (∃ (s : State) (k : Fin 16), (s.tableScheduled k.val = true) ∧ (leNat (s.stored 0x701101 k.val) ≤ s.billingNow) ∧ (s.time.untrusted = false)) ∧
    (∃ (s : State) (k : Fin 16), (s.tableScheduled k.val = false ∨ s.time.untrusted = true)) ∧
    (∃ (s : State), (s.time.untrusted = true)) ∧
    (∃ (s : State) (d : U16), (s.time.untrusted = true)) ∧
    (∃ (s : State), (s.time.untrusted = false) ∧ (s.bill.warning = none) ∧ (s.bill.app.openIval = none)) ∧
    (∃ (s : State) (k : Nat) (i : Ival), (s.time.untrusted = false) ∧ (s.bill.warning = none) ∧ (s.bill.app.openIval = some (k, i)) ∧ ((↑s.time.calNs
      : Int) / 60000000000 < (↑i.start : Int) - i.offset + 15)) ∧
    (∃ (s : State) (k : Nat) (i : Ival), (s.time.untrusted = false) ∧ (s.bill.warning = none) ∧ (s.bill.app.openIval = some (k, i)) ∧ ((↑i.start :
      Int) - i.offset + 15 ≤ (↑s.time.calNs : Int) / 60000000000)) ∧
    (∃ (s : State) (d : U16), (s.billingNow < (BitVec.toNat d + 1) * 1440 + s.cfgN 0x700201 * 60)) ∧
    (∃ (s : State) (d : U16), (s.time.untrusted = false) ∧ ((BitVec.toNat d + 1) * 1440 + s.cfgN 0x700201 * 60 ≤ s.billingNow) ∧ (List.filter (fun p
      => p.snd.start / 1440 == BitVec.toNat d && p.snd.to_.isSome) s.bill.app.ivals ≠ [])) ∧
    (∃ (s : State) (n : Nat) (b : Nat), (s.time.untrusted = false) ∧ (s.boundariesTo s.billingNow 65535 (s.bill.app.lastBound s.billingNow) 0 = (n,
      b)) ∧ (n = 0)) ∧
    (∃ (s : State) (n : Nat) (b : Nat), (s.time.untrusted = false) ∧ (s.boundariesTo s.billingNow 65535 (s.bill.app.lastBound s.billingNow) 0 = (n,
      b)) ∧ (n ≠ 0)) ∧
    (∃ (s : State) (r : Req) (arg : Bytes) (o : ObjRow), (s.starts r 0x700305 arg o)) ∧
    (∃ (s : State), (s.time.adjust = [])) ∧
    (∃ (s : State) (n : Int) (rest : List Int), (s.time.adjust = n :: rest)) ∧
    (∃ (s : State), (s.bill.warning ≠ none) ∧ (s.time.untrusted = false)) :=
  ⟨⟨({ lock up with dict := { up.dict with shadow := [(storeKey 0x701101 0, [0])] } } : State), (0 : Fin 16), by decide +kernel⟩,
   ⟨(State.reset : State), (0 : Fin 16), by decide +kernel⟩,
   ⟨(State.reset : State), by decide +kernel⟩,
   ⟨(State.reset : State), (0 : U16), by decide +kernel⟩,
   ⟨(lock up : State), by decide +kernel⟩,
   ⟨(ival (lock up) 0 : State), (0 : Nat), (⟨0, 0, none, 0, 0, 0, 0, true⟩ : Ival), by decide +kernel⟩,
   ⟨(ival (cal up { day := 3 }) 0 : State), (0 : Nat), (⟨0, 0, none, 0, 0, 0, 0, true⟩ : Ival), by decide +kernel⟩,
   ⟨(State.reset : State), (0 : U16), by decide +kernel⟩,
   ⟨(ival (cal up { day := 9 }) 0 (some 1) : State), (0 : U16), by decide +kernel⟩,
   ⟨(lock up : State), (0 : Nat), (0 : Nat), by decide +kernel⟩,
   ⟨((cal up { month := 2, day := 2 }).setApp (fun a => { a with closedBound := 1 }) : State), (1 : Nat), (44640 : Nat), by decide +kernel⟩,
   ⟨(State.reset : State), (rq : Req), ([] : Bytes), (row 0x700305), starts_of (by decide +kernel) (by decide +kernel)⟩,
   ⟨(State.reset : State), by decide +kernel⟩,
   ⟨({ up with time := { up.time with adjust := [5] } } : State), (5 : Int), ([] : List Int), by decide +kernel⟩,
   ⟨({ lock up with bill := { up.bill with warning := some (0, 0, 0) } } : State), by decide +kernel⟩⟩

/-- Hypotheses of ReadingsAreDeliveredToTheHost. -/
theorem test_hyps_ReadingsAreDeliveredToTheHost :
    (∃ (s : State) (a : U32) (l : List (Nat × Nat)) (b : U64) (e : U32), (s.link.pcie = false)) ∧
    (∃ (s : State), (s.link.dlv.enabled = true)) ∧
    (∃ (s : State), (s.link.pcie = true) ∧ (s.link.dlv.enabled = false)) ∧
    (∃ (s : State) (a : U32) (l : List (Nat × Nat)), (s.link.pcie = true) ∧ (s.link.dlv.on = false ∨ s.link.dlv.stopped = true)) ∧
    (∃ (s : State) (a : U32) (l : List (Nat × Nat)), (s.link.pcie = true) ∧ (s.link.dlv.on = true) ∧ (s.link.dlv.stopped = false)) ∧
    (∃ (s : State) (b : U64) (e : U32), (s.link.pcie = true) ∧ (s.link.dlv.base = b)) ∧
    (∃ (s : State) (b : U64) (e : U32), (s.link.pcie = true) ∧ (s.link.dlv.base ≠ b)) ∧
    (∃ (s : State), (s.link.dlv.filling = [] ∨ s.link.dlv.ring = [] ∨ s.link.dlv.on = false ∨ s.link.dlv.stopped = true)) ∧
    (∃ (s : State) (d : Nat × Nat) (l : List (Nat × Nat)), (s.link.dlv.filling ≠ []) ∧ (s.link.dlv.ring = d :: l) ∧ (s.link.dlv.on = true) ∧
      (s.link.dlv.stopped = false)) ∧
    (∃ (s : State) (q : U64), (s.entryOf q = none ∨ s.link.dlv.on = false)) ∧
    (∃ (s : State) (q : U64) (e : JEntry), (s.entryOf q = some e) ∧ (e.keepalive = true ∨ e.macCmd = true)) ∧
    (∃ (s : State) (q : U64) (e : JEntry), (s.entryOf q = some e) ∧ (e.keepalive = false) ∧ (e.macCmd = false) ∧ (s.link.dlv.on = true) ∧
      (s.link.dlv.gap = none) ∧ (s.link.dlv.held + List.length ({ e with isOpen := true } : JEntry).bytes ≤ s.dlvRoom)) ∧
    (∃ (s : State) (q : U64) (e : JEntry), (s.entryOf q = some e) ∧ (e.keepalive = false) ∧ (e.macCmd = false) ∧ (s.link.dlv.on = true) ∧
      (s.link.dlv.gap = none) ∧ (s.dlvRoom < s.link.dlv.held + List.length ({ e with isOpen := true } : JEntry).bytes)) ∧
    (∃ (s : State) (q : U64) (e : JEntry) (g : Nat × Nat), (s.entryOf q = some e) ∧ (e.keepalive = false) ∧ (e.macCmd = false) ∧ (s.link.dlv.on =
      true) ∧ (s.link.dlv.gap = some g) ∧ (s.link.dlv.held + List.length (gapRecord g.fst g.snd) + List.length ({ e with isOpen := true } :
      JEntry).bytes ≤ s.dlvRoom)) ∧
    (∃ (s : State), (s.pwr.inReset = true)) ∧
    (∃ (s : State), (s.pwr.inReset = false)) :=
  ⟨⟨(State.reset : State), (0 : U32), ([] : List (Nat × Nat)), (0 : U64), (0 : U32), by decide +kernel⟩,
   ⟨(pci { enabled := true } : State), by decide +kernel⟩,
   ⟨(pci {} : State), by decide +kernel⟩,
   ⟨(pci {} : State), (0 : U32), ([] : List (Nat × Nat)), by decide +kernel⟩,
   ⟨(pci { enabled := true, base := 4096, entries := 64 } : State), (0 : U32), ([] : List (Nat × Nat)), by decide +kernel⟩,
   ⟨(pci {} : State), (0 : U64), (0 : U32), by decide +kernel⟩,
   ⟨(pci {} : State), (4096 : U64), (0 : U32), by decide +kernel⟩,
   ⟨(State.reset : State), by decide +kernel⟩,
   ⟨(pci { enabled := true, base := 4096, entries := 64, ring := [(4096, 4096)], filling := [[1]] } : State), ((4096, 4096) : Nat × Nat), ([] : List
     (Nat × Nat)), by decide +kernel⟩,
   ⟨(State.reset : State), (0 : U64), by decide +kernel⟩,
   ⟨(jrn up { ent with keepalive := true } : State), (1 : U64), ({ ent with keepalive := true } : JEntry), by decide +kernel⟩,
   ⟨(jrn (pci { base := 4096, entries := 64, enabled := true }) ent : State), (1 : U64), (ent : JEntry), by decide +kernel⟩,
   by refine ⟨(full ent : State), (1 : U64), (ent : JEntry), ?_, ?_, ?_, ?_, ?_, full_room _ _ (by decide +kernel)⟩ <;> decide +kernel,
   ⟨(jrn (pci { base := 4096, entries := 64, enabled := true, gap := some (0, 1) }) ent : State), (1 : U64), (ent : JEntry), ((0, 1) : Nat × Nat),
     by decide +kernel⟩,
   ⟨({ up with pwr := { up.pwr with inReset := true } } : State), by decide +kernel⟩,
   ⟨(State.reset : State), by decide +kernel⟩⟩

/-- Hypotheses of ReadingsEnterRegistersOnce. -/
theorem test_hyps_ReadingsEnterRegistersOnce :
    (∃ (s : State) (h : Handle) (q : U64) (k : ReadKind) (g : Regs) (it : Item), (s.pwr.islands.getD 8 IslandSt.held ≠ IslandSt.quiescing) ∧
      (s.pwr.islands.getD 8 IslandSt.held ≠ IslandSt.resetting) ∧ (s.entryItem (BitVec.toNat h % 3072) (BitVec.toNat h) (BitVec.toNat q) = some it)) ∧
    (∃ (s : State) (h : Handle) (q : U64) (k : ReadKind) (g : Regs), (s.pwr.islands.getD 8 IslandSt.held = IslandSt.quiescing ∨ s.pwr.islands.getD 8
      IslandSt.held = IslandSt.resetting)) ∧
    (∃ (s : State) (h : Nat) (q : U64) (k : ReadKind) (g : Regs), (s.entryOf q = none)) ∧
    (∃ (s : State) (h : Nat) (q : U64) (last : U64) (k : ReadKind) (g : Regs), (tblFind? s.bill.app.applied h = some last) ∧ (q ≤ last)) ∧
    (∃ (s : State) (h : Nat) (q : U64) (k : ReadKind) (g : Regs) (e : JEntry), (s.entryOf q = some e) ∧ (e.handle ≠ h ∨ e.isOpen = false)) ∧
    (∃ (s : State) (h : Handle) (q : U64) (k : ReadKind) (g : Regs) (e : JEntry), (s.entryOf q = some e) ∧ (e.handle = BitVec.toNat h) ∧ (e.isOpen =
      true) ∧ (∀ (last : U64), tblFind? s.bill.app.applied (BitVec.toNat h) = some last → last < q) ∧ ((s.judgeApdu q).fst = false) ∧
      (s.pwr.islands.getD 8 IslandSt.held ≠ IslandSt.quiescing) ∧ (s.pwr.islands.getD 8 IslandSt.held ≠ IslandSt.resetting) ∧ (s.entryItem
      (BitVec.toNat h % 3072) (BitVec.toNat h) (BitVec.toNat q) = none)) ∧
    (∃ (s : State) (h : Handle) (q : U64) (k : ReadKind) (g : Regs) (e : JEntry), (s.entryOf q = some e) ∧ (e.handle = BitVec.toNat h) ∧ (e.isOpen =
      true) ∧ (∀ (last : U64), tblFind? s.bill.app.applied (BitVec.toNat h) = some last → last < q) ∧ ((s.judgeApdu q).fst = true)) ∧
    (∃ (s : State) (h : Nat) (at_ : Int) (i : Int) (x : Int) (clock : Bool), ((s.mbill h).last = none)) :=
  ⟨⟨({ up with cas := { up.cas with flows := [(5, [job])] } } : State), (5 : Handle), (0 : U64), (.other : ReadKind), (⟨0, 0, 0, 0⟩ : Regs),
     (job : Item), by decide +kernel⟩,
   ⟨({ up with pwr := { up.pwr with islands := List.replicate 10 .quiescing } } : State), (0 : Handle), (0 : U64), (.other : ReadKind), (⟨0, 0, 0, 0⟩
     : Regs), by decide +kernel⟩,
   ⟨(up : State), (5 : Nat), (0 : U64), (.other : ReadKind), (⟨0, 0, 0, 0⟩ : Regs), by decide +kernel⟩,
   ⟨(up.setApp (fun a => { a with applied := [(5, 1)] }) : State), (5 : Nat), (1 : U64), (1 : U64), (.other : ReadKind), (⟨0, 0, 0, 0⟩ : Regs),
     by decide +kernel⟩,
   ⟨(jrn up ent : State), (6 : Nat), (1 : U64), (.other : ReadKind), (⟨0, 0, 0, 0⟩ : Regs), (ent : JEntry), by decide +kernel⟩,
   by refine ⟨(jrn up { ent with apdu := some true } : State), (5 : Handle), (1 : U64), (.other : ReadKind), (⟨0, 0, 0, 0⟩ : Regs),
     ({ ent with apdu := some true } : JEntry), ?_, ?_, ?_, by intro l hl; exact absurd hl (by simp [jrn, up, State.reset, tblFind?]), ?_⟩
     <;> decide +kernel,
   by refine ⟨(jrn up { ent with apdu := some false } : State), (5 : Handle), (1 : U64), (.other : ReadKind), (⟨0, 0, 0, 0⟩ : Regs),
     ({ ent with apdu := some false } : JEntry), ?_, ?_, ?_, by intro l hl; exact absurd hl (by simp [jrn, up, State.reset, tblFind?]), ?_⟩
     <;> decide +kernel,
   ⟨(up : State), (5 : Nat), (0 : Int), (0 : Int), (0 : Int), (false : Bool), by decide +kernel⟩⟩

/-- Hypotheses of ReleaseAndStartUp. -/
theorem test_hyps_ReleaseAndStartUp :
    (∃ (s : State) (x : StartUp), (s.pwr.inReset = false ∨ s.pwr.aonAccepted = false ∨ 1100 ≤ s.pwr.tj)) ∧
    (∃ (s : State) (x : StartUp), (s.pwr.inReset = true) ∧ (s.pwr.aonAccepted = true) ∧ (s.pwr.tj < 1100)) ∧
    (∃ (s : State), (s.pwr.inReset = true ∨ s.pwr.pfw = true ∨ 1 ∈ s.upd.down ∨ 6 ≤ s.pwr.stage)) ∧
    (∃ (s : State), (s.pwr.inReset = false) ∧ (s.pwr.pfw = false) ∧ (¬1 ∈ s.upd.down) ∧ (s.pwr.islands.length = 10) ∧ (s.pwr.stage = 2)) ∧
    (∃ (s : State), (s.pwr.inReset = false) ∧ (s.pwr.pfw = false) ∧ (¬1 ∈ s.upd.down) ∧ (s.pwr.islands.length = 10) ∧ (s.pwr.stage = 3)) ∧
    (∃ (s : State), (s.pwr.inReset = false) ∧ (s.pwr.pfw = false) ∧ (¬1 ∈ s.upd.down) ∧ (s.pwr.islands.length = 10) ∧ (s.pwr.stage = 4)) ∧
    (∃ (s : State), (s.pwr.inReset = false) ∧ (s.pwr.pfw = false) ∧ (¬1 ∈ s.upd.down) ∧ (s.pwr.islands.length = 10) ∧ (s.pwr.stage = 5)) ∧
    (∃ (s : State), (s.pwr.inReset = true ∨ s.pwr.pfw = true ∨ s.pwr.acceptReady = true ∨ s.pwr.stage < 5)) ∧
    (∃ (s : State), (s.pwr.inReset = false) ∧ (s.pwr.pfw = false) ∧ (s.pwr.acceptReady = false) ∧ (5 ≤ s.pwr.stage)) :=
  ⟨⟨(State.reset : State), ({} : StartUp), by decide +kernel⟩,
   ⟨({ State.reset with pwr := { State.reset.pwr with inReset := true } } : State), ({} : StartUp), by decide +kernel⟩,
   ⟨(up : State), by decide +kernel⟩,
   ⟨(State.reset : State), by decide +kernel⟩,
   ⟨({ State.reset with pwr := { State.reset.pwr with stage := 3 } } : State), by decide +kernel⟩,
   ⟨({ State.reset with pwr := { State.reset.pwr with stage := 4 } } : State), by decide +kernel⟩,
   ⟨({ State.reset with pwr := { State.reset.pwr with stage := 5 } } : State), by decide +kernel⟩,
   ⟨(State.reset : State), by decide +kernel⟩,
   ⟨({ State.reset with pwr := { State.reset.pwr with stage := 5 } } : State), by decide +kernel⟩⟩

/-- Hypotheses of SegmentsUpdateTheirModels. -/
theorem test_hyps_SegmentsUpdateTheirModels :
    (∃ (s : State) (g : BitVec 12), ((s.seg g.toNat).queue = [])) ∧
    (∃ (s : State) (g : BitVec 12), (s.isUp 9 = false ∨ s.allows 6 (if s.pwr.headEnd = true then 2 else 3) = false)) ∧
    (∃ (s : State) (g : BitVec 12) (k : SegLatch) (rest : List SegLatch), (s.isUp 9 = true) ∧ (s.allows 6 (if s.pwr.headEnd = true then 2 else 3) =
      true) ∧ ((s.seg g.toNat).queue = k :: rest)) ∧
    (∃ (s : State) (r : Req) (arg : Bytes) (o : ObjRow), (s.starts r 0x611301 arg o) ∧ (s.itemOf r o < s.segCapacity)) ∧
    (∃ (s : State) (r : Req) (arg : Bytes) (o : ObjRow), (s.starts r 0x611301 arg o) ∧ (s.segCapacity ≤ s.itemOf r o)) :=
  ⟨⟨(State.reset : State), (0 : BitVec 12), by decide +kernel⟩,
   ⟨(State.reset : State), (0 : BitVec 12), by decide +kernel⟩,
   ⟨({ up with bal := { up.bal with segs := [(0, { queue := [⟨1, 2, 3, 4, [], [], 0, 0⟩] })] } } : State), (0 : BitVec 12), (⟨1, 2, 3, 4, [], [], 0,
     0⟩ : SegLatch), ([] : List SegLatch), by decide +kernel⟩,
   ⟨(State.reset : State), (rq : Req), ([] : Bytes), (row 0x611301), starts_of (by decide +kernel) (by decide +kernel), by decide +kernel⟩,
   ⟨(up.setSess ⟨.internal, 0⟩ (fun x => { x with vals := [(0x611001, [0, 16])] }) : State), (rq : Req), ([] : Bytes), (row 0x611301), starts_of
     (by decide +kernel) (by decide +kernel), by decide +kernel⟩⟩

/-- Hypotheses of SessionsGainAndLoseTheirRoles. 2 that rest on a Config value left out. -/
theorem test_hyps_SessionsGainAndLoseTheirRoles :
    (∃ (s : State) (r : Req) (o : ObjRow), (s.readGuard r 0x102000 = .ok o)) ∧
    (∃ (s : State) (r : Req) (o : ObjRow), (s.readGuard r 0xA02000 = .ok o)) ∧
    (∃ (s : State) (r : Req) (v : Bytes) (o : ObjRow) (tc : Nat) (n : Nat), (s.writes r 0x102100 v o) ∧ (Transport.authCode r.sess.tr = some tc) ∧
      (s.dict.locked.contains r.sess.tr = false) ∧ (1 ≤ fieldAt (List.drop 2 v) 0 1) ∧ (fieldAt (List.drop 2 v) 0 1 ≤ 4) ∧ (r.sess.tr ≠
      Transport.probe) ∧ (s.roleSlot (fieldAt (List.drop 2 v) 0 1) = some n)) ∧
    (∃ (s : State) (r : Req) (v : Bytes) (o : ObjRow) (tc : Nat), (s.writes r 0x102100 v o) ∧ (Transport.authCode r.sess.tr = some tc) ∧
      (s.dict.locked.contains r.sess.tr = false) ∧ (1 ≤ fieldAt (List.drop 2 v) 0 1) ∧ (fieldAt (List.drop 2 v) 0 1 ≤ 4) ∧ (r.sess.tr ≠
      Transport.probe) ∧ (s.responseOk r.sess tc (List.drop 2 v) = false)) ∧
    (∃ (s : State) (tr : Transport) (tc : Nat), (5 ≤ tblGet 0 s.dict.wrong tc + 1)) ∧
    (∃ (s : State) (tr : Transport), (s.dict.locked.contains tr = true)) ∧
    (∃ (s : State) (i : SessId), ((s.sess i).role = Role.vendor)) ∧
    (∃ (s : State) (r : Req) (arg : Bytes) (o : ObjRow), (s.starts r 0xA02104 arg o) ∧ (s.dict.available = true)) :=
  ⟨⟨(State.reset : State), (rq : Req), row 0x102000, guard_of (by decide +kernel)⟩,
   ⟨(State.reset : State), (rq : Req), row 0xA02000, guard_of (by decide +kernel)⟩,
   ⟨(((key up 10 10).setSess ⟨.mailbox, 0⟩ (fun x => { x with isOpen := true, challenge := some 1, vendorChallenge := some 1 })) : State),
     ({ sess := ⟨.mailbox, 0⟩ } : Req), ([33, 0, 3] ++ List.replicate 32 0 : Bytes), (row 0x102100), (2 : Nat), (10 : Nat), writes_of
     (by decide +kernel) (by decide +kernel), by decide +kernel⟩,
   ⟨(((key up 10 10).setSess ⟨.mailbox, 0⟩ (fun x => { x with isOpen := true, vendorChallenge := some 1 })) : State), ({ sess := ⟨.mailbox, 0⟩ } :
     Req), ([33, 0, 3] ++ List.replicate 32 0 : Bytes), (row 0x102100), (2 : Nat), writes_of (by decide +kernel) (by decide +kernel),
     by decide +kernel⟩,
   ⟨({ up with dict := { up.dict with wrong := [(1, 4)] } } : State), (.canFd : Transport), (1 : Nat), by decide +kernel⟩,
   ⟨({ up with dict := { up.dict with locked := [.mailbox] } } : State), (.mailbox : Transport), by decide +kernel⟩,
   ⟨(asRole up .vendor : State), (⟨.internal, 0⟩ : SessId), by decide +kernel⟩,
   ⟨(((key up 10 10).setSess ⟨.probe, 0⟩ (fun x => { x with isOpen := true, challenge := some 1, vendorChallenge := some 1 })) : State),
     ({ sess := ⟨.probe, 0⟩ } : Req), ([] : Bytes), (row 0xA02104), starts_of (by decide +kernel) (by decide +kernel), by decide +kernel⟩⟩

/-- Hypotheses of SlotTwoIsReplacedOnlyByItsRewrap. -/
theorem test_hyps_SlotTwoIsReplacedOnlyByItsRewrap :
    (∃ (s : State) (n : Nat) (k : Nat) (v : KeySlot), (v = (s.slot 2).bumped ∨ v = (s.slot 2).zeroized) ∧ (k < 6) ∧ (s.ancestor (k + 1) n = 2) ∧ (∀
      (j : Nat), j ≤ k → s.ancestor j n ≠ 2 ∧ (s.slot (s.ancestor j n)).parent ≠ rootParent) ∧ (s.orphan 7 n = false)) ∧
    (∃ (s : State) (r : Req) (arg : Bytes) (o : ObjRow), (s.starts r 0xA05300 arg o) ∧ (handleSlot (leNat arg) = 2)) ∧
    (∃ (s : State) (r : Req) (arg : Bytes) (o : ObjRow), (s.starts r 0xA05400 arg o) ∧ (handleSlot (leNat arg) = 2)) ∧
    (∃ (s : State) (d : Option Nat), (s.trust.rewrap = some d) ∧ ((s.slot 5).valid = true) ∧ ((s.slot 3).valid = true) ∧ ((s.slot 3).parent =
      rootParent)) :=
  ⟨⟨((key up 2 6).setSlot 100 ⟨mkAttr 1 2 2 0 0 0 false, [1]⟩ : State), (100 : Nat), (0 : Nat), ((((key up 2 6).setSlot 100 ⟨mkAttr 1 2 2 0 0 0 false,
     [1]⟩).slot 2).bumped : KeySlot), Or.inl rfl, by decide +kernel, by decide +kernel, fun j hj =>
     by (obtain rfl : j = 0 := by omega); decide +kernel, by decide +kernel⟩,
   ⟨(State.reset : State), (rq : Req), ([2, 0, 0, 0] : Bytes), (row 0xA05300), starts_of (by decide +kernel) (by decide +kernel), by decide +kernel⟩,
   ⟨(State.reset : State), (rq : Req), ([2, 0, 0, 0] : Bytes), (row 0xA05400), starts_of (by decide +kernel) (by decide +kernel), by decide +kernel⟩,
   ⟨({ ((key up 3 6).setSlot 5 ⟨mkAttr 3 2 3 0 0 0 false, [1]⟩) with trust := { ((key up 3 6).setSlot 5 ⟨mkAttr 3 2 3 0 0 0 false, [1]⟩).trust with rewrap := some none } }
     : State), (none : Option Nat), by decide +kernel⟩⟩

/-- Hypotheses of StagedWritesWaitForTheirCommit. -/
theorem test_hyps_StagedWritesWaitForTheirCommit :
    (∃ (s : State) (r : Req) (k : ObjKey) (v : Bytes) (o : ObjRow) (g : Nat), (s.pwr.ocb = false) ∧ (hasOwnWrite (ObjKey.num k) = false) ∧ (s.writes r
      (ObjKey.num k) v o) ∧ (findRow (ObjKey.num k) = some o) ∧ (o.acc = Acc.rws) ∧ (groupOf (ObjKey.num k) = some g) ∧ ((s.group g).st ≠
      GroupSt.applying) ∧ (s.ownRule (ObjKey.num k) (s.itemOf r o) (o.stored v) = none)) :=
   ⟨(up : State), (rq : Req), (⟨0x3100, 5⟩ : ObjKey), ([60] : Bytes), (row (ObjKey.num (⟨0x3100, 5⟩))), (28 : Nat), by decide +kernel,
     by decide +kernel, writes_of (by decide +kernel) (by decide +kernel), by decide +kernel⟩

/-- Hypotheses of StampsFollowTheRunningProfile. -/
theorem test_hyps_StampsFollowTheRunningProfile :
    (∃ (s : State) (x : StartUp), (s.pwr.inReset = true) ∧ (s.pwr.aonAccepted = true) ∧ (s.pwr.tj < 1100) ∧ (x.ctxGib < 2) ∧ (s.pwr.recHeadEnd = some
      true)) ∧
    (∃ (s : State) (x : StartUp), (s.pwr.inReset = true) ∧ (s.pwr.aonAccepted = true) ∧ (s.pwr.tj < 1100) ∧ (2 ≤ x.ctxGib)) ∧
    (∃ (s : State) (code : Nat) (m : Int) (e : EvEntry), (e ∈ (s.raise code m).ev.buf ++ (s.raise code m).ev.log)) :=
  ⟨⟨({ State.reset with pwr := { State.reset.pwr with inReset := true, recHeadEnd := some true } } : State), ({} : StartUp), by decide +kernel⟩,
   ⟨({ State.reset with pwr := { State.reset.pwr with inReset := true } } : State), ({ ctxGib := 4 } : StartUp), by decide +kernel⟩,
   ⟨(up : State), (0x142 : Nat), (0 : Int), (((up.raise 0x142 0).ev.buf ++ (up.raise 0x142 0).ev.log).head (by decide +kernel) : EvEntry),
     List.head_mem _⟩⟩

/-- Hypotheses of StandardGenerationsJoinsAndForwarding. 1 that rests on a Config value left out. -/
theorem test_hyps_StandardGenerationsJoinsAndForwarding :
    (∃ (s : State) (p : Fin 12) (f : StdFrame) (l : WMode) (rx : Rx) (k : Nat), (s.pathRuns = true) ∧ (s.pcfg p.val 1 1 = 1 ∨ s.pcfg p.val 1 1 = 2) ∧
      (s.stdPortOk p.val (s.pcfg p.val 1 1) = true) ∧ (s.deaf p.val rx = false) ∧ (s.g3Key p.val f.mode = some k)) ∧
    (∃ (s : State) (p : Fin 12) (f : StdFrame) (l : WMode) (rx : Rx) (k : Nat), (s.pathRuns = true) ∧ (s.stdPortOk p.val 3 = true) ∧ (s.deaf p.val rx
      = false) ∧ (f.mode = s.pcfg p.val 5 3)) ∧
    (∃ (s : State) (p : Fin 12) (f : StdFrame) (l : WMode) (rx : Rx) (k : Nat), (s.pathRuns = true) ∧ (s.stdPortOk (p.val + 12) 6 = true) ∧ (s.pcfg
      (p.val + 12) 4 1 / 2 ^ l.bit % 2 = 1) ∧ (f.mode = 7)) ∧
    (∃ (s : State) (p : Fin 12) (f : StdFrame) (l : WMode) (rx : Rx) (k : Nat), (s.pathRuns = true) ∧ (s.stdPortOk (p.val + 12) 6 = true) ∧ (s.pcfg
      (p.val + 12) 4 1 / 2 ^ l.bit % 2 = 0)) ∧
    (∃ (s : State) (p : Fin 12) (f : StdFrame) (l : WMode) (rx : Rx) (k : Nat), (s.pathRuns = true) ∧ (s.stdPortOk (p.val + 12) 7 = true) ∧ (f.mode =
      s.pcfg (p.val + 12) 5 6)) ∧
    (∃ (s : State) (p : Fin 12) (f : StdFrame) (l : WMode) (rx : Rx) (k : Nat) (b : Bytes), (s.pathRuns = true)) ∧
    (∃ (s : State) (p : Nat) (gen : Nat) (key : Option Nat) (rule : CountRule) (f : StdFrame) (rx : Rx), (isRf p = true ∨ s.impulseDrops p rx = false)
      ∧ ((s.heard p rx).takesFrames = true) ∧ (rx.late = false)) ∧
    (∃ (s : State) (p : Fin 12) (f : StdFrame) (l : WMode) (rx : Rx), (s.pathRuns = false)) ∧
    (∃ (s : State) (t : State) (p : Fin 12) (h : Handle), (s.pathRuns = true) ∧ (s.takesFrames = true) ∧ (s.mayTransmit p.val = true) ∧ (s.pcfg p.val
      1 1 = 3) ∧ (s.joinLimit p.val ≤ (s.fport p.val).joins)) ∧
    (∃ (s : State) (t : State) (p : Fin 12) (h : Handle), (s.pathRuns = true) ∧ (s.takesFrames = true) ∧ (s.mayTransmit p.val = true) ∧ (s.pcfg p.val
      1 1 = 3) ∧ ((s.fport p.val).joins < s.joinLimit p.val) ∧ (((s.bumpPort p.val 1).setFport p.val fun x =>
      { x with joins := x.joins + 1 }).joinPartner p.val (BitVec.toNat h) 3 = some t)) ∧
    (∃ (s : State) (t : State) (p : Fin 12) (h : Handle), (s.pathRuns = true) ∧ (s.takesFrames = true) ∧ (s.mayTransmit p.val = true) ∧ (s.pcfg p.val
      1 2 = 1) ∧ ((s.fport p.val).joins < s.joinLimit p.val) ∧ (((s.bumpPort p.val 1).setFport p.val fun x =>
      { x with joins := x.joins + 1 }).joinPartner p.val (BitVec.toNat h) 5 = some t) ∧ (t.time.everLocked = true)) ∧
    (∃ (s : State) (t : State) (p : Fin 12) (h : Handle) (u : State), (s.pathRuns = true) ∧ (s.takesFrames = true) ∧ (s.mayTransmit p.val = true) ∧
      (s.pcfg p.val 1 1 = 1 ∨ s.pcfg p.val 1 1 = 2) ∧ (s.partner (BitVec.toNat h) = none) ∧ ((s.fport p.val).joins < s.joinLimit p.val) ∧
      (((s.bumpPort p.val 1).setFport p.val fun x => { x with joins := x.joins + 1 }).joinPartner p.val (BitVec.toNat h) (s.pcfg p.val 1 1) = some t)
      ∧ (t.giveGroupKey p.val (BitVec.toNat h) (s.fport p.val).newIndex = some u)) ∧
    (∃ (s : State) (t : State) (p : Fin 12) (h : Handle) (f : StdHeard), (s.pathRuns = true) ∧ (s.takesFrames = true) ∧ (s.mayTransmit (p.val + 12) =
      true) ∧ ((s.fport (p.val + 12)).joins < s.joinLimit (p.val + 12)) ∧ (s.stdPortOk (p.val + 12) 6 = true) ∧ (s.pcfg (p.val + 12) 4 1 / 2 ^
      f.frame.link.bit % 2 = 1) ∧ ((s.setFport (p.val + 12) fun x => { x with joins := x.joins + 1 }).joinPartner (p.val + 12) (BitVec.toNat
      f.frame.handle) 1 = some t)) ∧
    (∃ (s : State) (t : State) (p : Fin 12) (h : Handle) (f : StdHeard), (s.pathRuns = true) ∧ (s.takesFrames = true) ∧ (s.mayTransmit (p.val + 12) =
      true) ∧ ((s.fport (p.val + 12)).joins < s.joinLimit (p.val + 12)) ∧ (s.pcfg (p.val + 12) 0 1 = 2) ∧ (((s.bumpPort (p.val + 12) 1).setFport
      (p.val + 12) fun x => { x with joins := x.joins + 1 }).joinPartner (p.val + 12) (BitVec.toNat h) 2 = some t)) ∧
    (∃ (s : State) (p : Fin 12) (k : Rekey), ((s.fport p.val).rekey = some k) ∧ (k.start + 600000000000 ≤ s.time.net)) ∧
    (∃ (s : State) (e : JEntry), (List.find? (fun x => x.isOpen) s.acc.journal = some e) ∧ (s.cfgN 0x501003 * 32768 < s.time.mono - e.born) ∧
      (s.acc.stuckRaised = false)) ∧
    (∃ (s : State) (e : JEntry), (List.find? (fun x => x.isOpen) s.acc.journal = some e) ∧ (s.cfgN 0x501003 * 32768 < s.time.mono - e.born) ∧
      (s.acc.stuckRaised = true)) ∧
    (∃ (s : State), (s.acc.journalOld (s.cfgN 0x501003) s.time.mono = false)) ∧
    (∃ (s : State) (src : Nat) (x : Held), (src ≤ 24) ∧ (List.find? (fun x => x.src == src) s.acc.inputs = some x)) ∧
    (∃ (s : State) (src : Nat), (24 < src)) ∧
    (∃ (s : State) (t : State) (r : Req) (peer : Bytes) (l : List FwdRecord) (stamp : Nat), (s.association r.sess peer = some t) ∧ (t.pathRuns = true)
      ∧ (t.acting = true) ∧ (t.pwr.acceptReady = true) ∧ (t.cfgB 0x502001 = true) ∧ (t.cfgN 0x502003 ≤ t.roleOf r) ∧ (l.length ≤ t.cfgN 0x502002) ∧
      ((l.any fun x => x.zeroLen) = false) ∧ (l ≠ []) ∧ ((((t.atNet stamp).forwardAll r.sess.id (45 + r.sess.id % 32) stamp l).fst.all fun x =>
      x.snd.isNone) = true)) ∧
    (∃ (s : State) (t : State) (r : Req) (peer : Bytes) (l : List FwdRecord) (stamp : Nat), (s.association r.sess peer = some t) ∧ (t.pathRuns = true)
      ∧ (t.acting = false)) ∧
    (∃ (s : State) (h : Handle) (x : Partner), (s.partner (BitVec.toNat h) = some x)) :=
  ⟨⟨(cfg (cfg (up) 0x400101 [1]) 0x400103 [1] : State), (0 : Fin 12), ({ handle := 5, counter := 0, bytes := [1] } : StdFrame), (.t2 : WMode),
     ({ stamp := 0 } : Rx), (0 : Nat), by decide +kernel⟩,
   ⟨(cfg (cfg (cfg up 0x400101 [3]) 0x400103 [1]) 0x400503 [0] : State), (0 : Fin 12), ({ handle := 5, counter := 0, bytes := [1] } : StdFrame), (.t2
     : WMode), ({ stamp := 0 } : Rx), (0 : Nat), by decide +kernel⟩,
   ⟨(cfg (cfg (up) 0x410001 [1]) 0x410002 [1] : State), (0 : Fin 12), ({ handle := 5, counter := 0, bytes := [1], mode := 7 } : StdFrame), (.t2 :
     WMode), ({ stamp := 0 } : Rx), (0 : Nat), by decide +kernel⟩,
   ⟨(cfg (cfg (cfg up 0x410001 [1]) 0x410002 [1]) 0x410401 [1] : State), (0 : Fin 12), ({ handle := 5, counter := 0, bytes := [1] } : StdFrame), (.t2
     : WMode), ({ stamp := 0 } : Rx), (0 : Nat), by decide +kernel⟩,
   ⟨(cfg (cfg (up) 0x410001 [2]) 0x410002 [1] : State), (0 : Fin 12),
     ({ handle := 5, counter := 0, bytes := [1], mode := (cfg (cfg (up) 0x410001 [2]) 0x410002 [1]).pcfg 12 5 6 } : StdFrame), (.t2 : WMode),
     ({ stamp := 0 } : Rx), (0 : Nat), by decide +kernel⟩,
   ⟨(up : State), (0 : Fin 12), ({ handle := 5, counter := 0, bytes := [1] } : StdFrame), (.t2 : WMode), ({ stamp := 0 } : Rx), (0 : Nat), ([] :
     Bytes), by decide +kernel⟩,
   ⟨(up : State), (12 : Nat), (0 : Nat), (none : Option Nat), (.counter 0 : CountRule), ({ handle := 5, counter := 0, bytes := [1] } : StdFrame),
     ({ stamp := 0 } : Rx), by decide +kernel⟩,
   ⟨(State.reset : State), (0 : Fin 12), ({ handle := 5, counter := 0, bytes := [1] } : StdFrame), (.t2 : WMode), ({ stamp := 0 } : Rx),
     by decide +kernel⟩,
   ⟨(port (cfg (cfg (up) 0x400101 [3]) 0x400103 [1]) 0 { joins := 65535 } : State), (up : State), (0 : Fin 12), (0 : Handle), by decide +kernel⟩,
   by refine ⟨(cfg (cfg (lock up) 0x400101 [3]) 0x400103 [1] : State), (got ((((cfg (cfg (lock up) 0x400101 [3]) 0x400103 [1]).bumpPort 0 1).setFport
     0 (fun x => { x with joins := x.joins + 1 })).joinPartner 0 5 3) : State), (0 : Fin 12), (5 : Handle), ?_, ?_, ?_, ?_, ?_, got_of
     (by decide +kernel)⟩ <;> decide +kernel,
   by refine ⟨(cfg (cfg (clock up 0) 0x400102 [1]) 0x400103 [1] : State), (got ((((cfg (cfg (clock up 0) 0x400102 [1]) 0x400103 [1]).bumpPort 0
     1).setFport 0 (fun x => { x with joins := x.joins + 1 })).joinPartner 0 5 5) : State), (0 : Fin 12), (5 : Handle), ?_, ?_, ?_, ?_, ?_, got_of
     (by decide +kernel), ?_⟩ <;> decide +kernel,
   by refine ⟨(g3Join : State), (g3Joined : State), (0 : Fin 12), (5 : Handle), (got (g3Joined.giveGroupKey 0 5 (g3Join.fport 0).newIndex) : State),
     ?_, ?_, ?_, ?_, ?_, ?_, got_of (by decide +kernel), groupKey_of (n := 16) (t := (g3Joined.useMeterKey 5 .cmac).2) (k := [1]) (by decide +kernel)
     (Prod.ext (by decide +kernel) rfl) (by decide +kernel) (by decide +kernel) (ok_of (by decide +kernel))⟩ <;> decide +kernel,
   by refine ⟨(cfg (cfg (cfg (cfg up 0x410001 [1]) 0x410002 [1]) 0x410401 [6]) 0x410405 [1] : State), (got (((cfg (cfg (cfg (cfg up 0x410001 [1])
     0x410002 [1]) 0x410401 [6]) 0x410405 [1]).setFport 12 (fun x => { x with joins := x.joins + 1 })).joinPartner 12 5 1) : State), (0 : Fin 12),
     (5 : Handle), (⟨{ handle := 5, counter := 0, bytes := [1], link := .t2 }, { stamp := 0 }⟩ : StdHeard), ?_, ?_, ?_, ?_, ?_, ?_, got_of
     (by decide +kernel)⟩ <;> decide +kernel,
   by refine ⟨(cfg (cfg up 0x410001 [2]) 0x410002 [1] : State), (got ((((cfg (cfg up 0x410001 [2]) 0x410002 [1]).bumpPort 12 1).setFport 12 (fun x =>
     { x with joins := x.joins + 1 })).joinPartner 12 5 2) : State), (0 : Fin 12), (5 : Handle),
     (⟨{ handle := 5, counter := 0, bytes := [1], link := .t2 }, { stamp := 0 }⟩ : StdHeard), ?_, ?_, ?_, ?_, ?_, got_of (by decide +kernel)⟩
     <;> decide +kernel,
   ⟨(port up 0 { rekey := some ⟨1, 0, 0⟩ } : State), (0 : Fin 12), (⟨1, 0, 0⟩ : Rekey), by decide +kernel⟩,
   ⟨({ jrn up ent with time := { up.time with mono := 32768 * 100000 } } : State), (ent : JEntry), by decide +kernel⟩,
   ⟨({ jrn up (ent 1) with acc := { (jrn up (ent 1)).acc with stuckRaised := true }, time := { up.time with mono := 10 ^ 9 } } : State), (ent 1 :
     JEntry), by decide +kernel⟩,
   ⟨(cfg (cfg (up) 0x400101 [1]) 0x400103 [1] : State), by decide +kernel⟩,
   ⟨({ up with acc := { up.acc with inputs := [{ billing := true, src := 1, what := .request .latchOrderIssue }] } } : State), (1 : Nat),
     ({ billing := true, src := 1, what := .request .latchOrderIssue } : Held), by decide +kernel⟩,
   ⟨(State.reset : State), (25 : Nat), by decide +kernel⟩,
   ⟨(((up).setSess ⟨.coap, 1⟩ (fun x => { x with isOpen := true, role := .utility })) : State), (((up).setSess ⟨.coap, 1⟩ (fun x =>
     { x with isOpen := true, role := .utility })) : State), ({ sess := ⟨.coap, 1⟩ } : Req), ([] : Bytes), ([⟨99, 5, 0,
     { handle := 5, counter := 0, bytes := [1] }, false⟩] : List FwdRecord), (0 : Nat), by decide +kernel⟩,
   ⟨(((inPair up .standby).setSess ⟨.coap, 1⟩ (fun x => { x with isOpen := true, role := .utility })) : State), (((inPair up .standby).setSess ⟨.coap,
     1⟩ (fun x => { x with isOpen := true, role := .utility })) : State), ({ sess := ⟨.coap, 1⟩ } : Req), ([] : Bytes), ([] : List FwdRecord),
     (0 : Nat), by decide +kernel⟩,
   ⟨(partner up { port := 0, gen := 4 } : State), (5 : Handle), ({ port := 0, gen := 4 } : Partner), by decide +kernel⟩⟩

/-- Hypotheses of StepTakesTheFrontCommand. -/
theorem test_hyps_StepTakesTheFrontCommand :
    (∃ (c : Instr) (rest : List Instr) (s : State), (s.pending = c :: rest)) ∧
    (∃ (s : State), (s.pending = [])) :=
  ⟨⟨(.calWrap : Instr), ([] : List Instr), ({ up with pending := [.calWrap] } : State), by decide +kernel⟩,
   ⟨(State.reset : State), by decide +kernel⟩⟩

/-- Hypotheses of TamperRecordsAndTheDisplay. -/
theorem test_hyps_TamperRecordsAndTheDisplay :
    (∃ (s : State) (i : Fin 2) (b : Bool), (s.bill.tampOpen.getD i.val false = b)) ∧
    (∃ (s : State) (i : Fin 2) (b : Bool), (s.bill.tampOpen.getD i.val false ≠ b)) ∧
    (∃ (s : State), (s.onBackup = true ∨ s.pwr.inReset = true)) ∧
    (∃ (s : State), (s.onBackup = false) ∧ (s.pwr.inReset = false)) ∧
    (∃ (s : State) (r : Req) (arg : Bytes) (o : ObjRow), (s.starts r 0x704005 arg o)) ∧
    (∃ (s : State), (s.onBackup = false) ∧ (s.bill.dispHold = false)) ∧
    (∃ (s : State), (s.onBackup = false) ∧ (s.bill.dispHold = true)) ∧
    (∃ (s : State), (s.onBackup = true)) :=
  ⟨⟨(State.reset : State), (0 : Fin 2), (false : Bool), by decide +kernel⟩,
   ⟨(State.reset : State), (0 : Fin 2), (true : Bool), by decide +kernel⟩,
   ⟨({ up with pwr := { up.pwr with railsLost := true } } : State), by decide +kernel⟩,
   ⟨(State.reset : State), by decide +kernel⟩,
   ⟨(up : State), (rq : Req), ([0] : Bytes), (row 0x704005), starts_of (by decide +kernel) (by decide +kernel)⟩,
   ⟨(State.reset : State), by decide +kernel⟩,
   ⟨({ up with bill := { up.bill with dispHold := true } } : State), by decide +kernel⟩,
   ⟨({ up with pwr := { up.pwr with railsLost := true } } : State), by decide +kernel⟩⟩

/-- Hypotheses of TheArchiveKeepsItsRecords. -/
theorem test_hyps_TheArchiveKeepsItsRecords :
    (∃ (s : State) (c : Fin 10) (k : Bool) (j : U32) (p : U32) (b : Bytes), (c.val = 0 ∨ 65535 < 16 + List.length b)) ∧
    (∃ (s : State) (c : Fin 10) (k : Bool) (j : U32) (p : U32) (b : Bytes), (c.val ≠ 0) ∧ (16 + List.length b ≤ 65535) ∧ (s.pwr.pfw = false) ∧ (s.isUp
      4 = true) ∧ (s.lossyStopped c.val = false) ∧ (s.archiveUsed + (16 + List.length b) ≤ s.archiveQuota)) ∧
    (∃ (s : State) (c : Fin 10) (k : Bool) (j : U32) (p : U32) (b : Bytes), (c.val ≠ 0) ∧ (16 + List.length b ≤ 65535) ∧ (s.pwr.pfw = true ∨ s.isUp 4
      = false)) ∧
    (∃ (s : State) (c : Fin 10) (k : Bool) (j : U32) (p : U32) (b : Bytes), (c.val ≠ 0) ∧ (16 + List.length b ≤ 65535) ∧ (s.pwr.pfw = false) ∧ (s.isUp
      4 = true) ∧ (s.lossyStopped c.val = false) ∧ (s.archiveQuota < s.archiveUsed + (16 + List.length b)) ∧ (s.recsOf 7 = []) ∧ (s.recsOf 8 = []) ∧
      (s.recsOf 9 = [])) ∧
    (∃ (s : State), (s.arch.waiting = [])) ∧
    (∃ (s : State) (b : BitVec 18) (u : BitVec 14) (w : NandFail), ((s.arch.blk b.toNat).bad ≠ 0)) ∧
    (∃ (s : State) (b : BitVec 18) (u : BitVec 14) (w : NandFail), ((s.arch.blk b.toNat).bad = 0)) ∧
    (∃ (s : State), (s.arch.poolBlocks ≤ 50 * s.arch.freeBlocks)) ∧
    (∃ (s : State), (s.isUp 4 = false ∨ s.allows 15 3 = false)) ∧
    (∃ (s : State) (b : BitVec 18) (w : Bool), (s.isUp 4 = false ∨ s.allows 15 3 = false)) ∧
    (∃ (s : State) (b : BitVec 18), (s.isUp 4 = false ∨ s.allows 15 3 = false)) ∧
    (∃ (s : State), (s.pwr.pfw = true)) ∧
    (∃ (s : State) (b : BitVec 18), (s.pwr.pfw = true)) ∧
    (∃ (s : State), (s.isUp 4 = true) ∧ (s.pwr.pfw = false) ∧ (s.allows 15 3 = true) ∧ (50 * s.arch.freeBlocks < s.arch.poolBlocks)) ∧
    (∃ (s : State) (b : BitVec 18) (w : Bool), ((s.arch.blk b.toNat).units = [] ∨ (s.arch.blk b.toNat).bad ≠ 0)) ∧
    (∃ (s : State) (b : BitVec 18), (s.isUp 4 = true) ∧ (s.allows 15 3 = true) ∧ ((s.arch.blk b.toNat).units ≠ []) ∧ ((s.arch.blk b.toNat).bad = 0) ∧
      (s.pwr.pfw = false)) ∧
    (∃ (s : State) (b : BitVec 18), ((s.arch.blk b.toNat).region = 0 ∨ (s.arch.blk b.toNat).bad ≠ 0 ∨ (s.arch.blk b.toNat).reads < s.cfgN 0x800302)) ∧
    (∃ (s : State) (b : BitVec 18), ((s.arch.blk b.toNat).region ≠ 0) ∧ ((s.arch.blk b.toNat).bad = 0) ∧ (s.cfgN 0x800302 ≤ (s.arch.blk
      b.toNat).reads) ∧ (s.isUp 4 = true) ∧ (s.pwr.pfw = false) ∧ (s.allows 15 3 = true)) ∧
    (∃ (s : State) (n : U16) (b : Bool), (s.arch.ckpt = none ∨ s.isUp 4 = false ∨ s.allows 5 3 = false)) ∧
    (∃ (s : State) (n : U16) (t0 : Nat) (p : U32) (l : List U64), (s.arch.ckpt = some (t0, p, l)) ∧ (s.isUp 4 = true) ∧ (s.allows 5 3 = true)) ∧
    (∃ (s : State), (s.arch.restored = true ∨ s.pwr.inReset = true)) ∧
    (∃ (s : State), (s.arch.restored = false) ∧ (s.pwr.inReset = false)) :=
  ⟨⟨(State.reset : State), (0 : Fin 10), (true : Bool), (0 : U32), (0 : U32), ([] : Bytes), by decide +kernel⟩,
   ⟨(up : State), (1 : Fin 10), (true : Bool), (0 : U32), (0 : U32), ([] : Bytes), by decide +kernel⟩,
   ⟨({ up with pwr := { up.pwr with pfw := true } } : State), (1 : Fin 10), (true : Bool), (0 : U32), (0 : U32), ([] : Bytes), by decide +kernel⟩,
   ⟨(cfg up 0x800201 [0, 0, 0, 0] : State), (1 : Fin 10), (true : Bool), (0 : U32), (0 : U32), ([] : Bytes), by decide +kernel⟩,
   ⟨(State.reset : State), by decide +kernel⟩,
   ⟨({ up with arch := { up.arch with blocks := [(0, { bad := 1 })] } } : State), (0 : BitVec 18), (0 : BitVec 14), (.program : NandFail),
     by decide +kernel⟩,
   ⟨(up : State), (0 : BitVec 18), (0 : BitVec 14), (.program : NandFail), by decide +kernel⟩,
   ⟨(State.reset : State), by decide +kernel⟩,
   ⟨(State.reset : State), by decide +kernel⟩,
   ⟨(State.reset : State), (0 : BitVec 18), (true : Bool), by decide +kernel⟩,
   ⟨(State.reset : State), (0 : BitVec 18), by decide +kernel⟩,
   ⟨({ up with pwr := { up.pwr with pfw := true } } : State), by decide +kernel⟩,
   ⟨({ up with pwr := { up.pwr with pfw := true } } : State), (0 : BitVec 18), by decide +kernel⟩,
   ⟨({ up with arch := { up.arch with usable := [(4, { blocks := 10 })], blocks := (List.range 10).map (fun k => (k, { region := 4 })) } } : State),
     by decide +kernel⟩,
   ⟨(State.reset : State), (0 : BitVec 18), (true : Bool), by decide +kernel⟩,
   ⟨({ up with arch := { up.arch with blocks := [(0, { region := 4, units := [3] })] } } : State), (0 : BitVec 18), by decide +kernel⟩,
   ⟨(State.reset : State), (0 : BitVec 18), by decide +kernel⟩,
   ⟨({ up with arch := { up.arch with blocks := [(0, { region := 4, reads := 10 ^ 9 })] } } : State), (0 : BitVec 18), by decide +kernel⟩,
   ⟨(State.reset : State), (0 : U16), (true : Bool), by decide +kernel⟩,
   ⟨({ up with arch := { up.arch with ckpt := some (1, 2, []) } } : State), (0 : U16), (1 : Nat), (2 : U32), ([] : List U64), by decide +kernel⟩,
   ⟨(up : State), by decide +kernel⟩,
   ⟨(State.reset : State), by decide +kernel⟩⟩

/-- Hypotheses of TheCalendarFollowsTheGregorianRule. -/
theorem test_hyps_TheCalendarFollowsTheGregorianRule :
    (∃ (y : Nat), (leapYear y = false)) ∧
    (∃ (c : CalTime), (c.valid = true) ∧ (c ≠ calLast)) ∧
    (∃ (s : State), (s.time.cal = calLast)) :=
  ⟨⟨(2100 : Nat), by decide +kernel⟩,
   ⟨({} : CalTime), by decide +kernel⟩,
   ⟨(cal up calLast : State), by decide +kernel⟩⟩

/-- Hypotheses of TheHostVolumeAnswers. 1 that rests on a Config value left out. -/
theorem test_hyps_TheHostVolumeAnswers :
    (∃ (s : State) (c : NvCmd) (l : Nat) (n : U16) (u : Bool), (s.fetches c = false)) ∧
    (∃ (s : State) (c : NvCmd) (l : Nat) (d : List Bytes) (f : Bool), (s.fetches c = false)) ∧
    (∃ (s : State) (c : NvCmd), (s.fetches c = false)) ∧
    (∃ (s : State) (c : NvCmd) (d : Bool) (r : List (Nat × Nat)), (s.fetches c = false)) ∧
    (∃ (s : State) (c : NvCmd) (e : Nat), (s.fetches c = false)) ∧
    (∃ (s : State) (c : NvCmd) (n : Nat), (s.fetches c = false)) ∧
    (∃ (s : State) (c : NvCmd) (n : Nat) (v : Nat), (s.fetches c = false)) ∧
    (∃ (s : State) (c : NvCmd) (b : Bool) (i : Nat) (z : Nat) (q : Nat), (s.fetches c = false)) ∧
    (∃ (s : State) (c : NvCmd) (b : Bool) (i : Nat), (s.fetches c = false)) ∧
    (∃ (s : State) (c : NvCmd) (q : Nat) (i : Nat), (s.fetches c = false)) ∧
    (∃ (s : State) (c : NvCmd) (i : Instr), (s.fetches c = true) ∧ (s.isUp 4 = false ∨ s.allows 12 3 = false ∨ s.arch.nvWait ≠ [])) ∧
    (∃ (s : State) (c : NvCmd) (l : Nat) (n : U16) (u : Bool), (s.fetches c = true) ∧ (s.isUp 4 = false ∨ s.allows 12 3 = false ∨ s.arch.nvWait ≠ []))
      ∧
    (∃ (s : State) (c : NvCmd) (l : Nat) (d : List Bytes) (f : Bool), (s.fetches c = true) ∧ (s.isUp 4 = false ∨ s.allows 12 3 = false ∨ s.arch.nvWait
      ≠ [])) ∧
    (∃ (s : State) (c : NvCmd), (s.fetches c = true) ∧ (s.isUp 4 = false ∨ s.allows 12 3 = false ∨ s.arch.nvWait ≠ [])) ∧
    (∃ (s : State) (c : NvCmd) (d : Bool) (r : List (Nat × Nat)), (s.fetches c = true) ∧ (s.isUp 4 = false ∨ s.allows 12 3 = false ∨ s.arch.nvWait ≠
      [])) ∧
    (∃ (s : State) (c : NvCmd) (e : Nat), (s.fetches c = true) ∧ (s.isUp 4 = false ∨ s.allows 12 3 = false ∨ s.arch.nvWait ≠ [])) ∧
    (∃ (s : State) (c : NvCmd) (n : Nat), (s.fetches c = true) ∧ (s.isUp 4 = false ∨ s.allows 12 3 = false ∨ s.arch.nvWait ≠ [])) ∧
    (∃ (s : State) (c : NvCmd) (n : Nat) (v : Nat), (s.fetches c = true) ∧ (s.isUp 4 = false ∨ s.allows 12 3 = false ∨ s.arch.nvWait ≠ [])) ∧
    (∃ (s : State) (c : NvCmd) (b : Bool) (i : Nat) (z : Nat) (q : Nat), (s.fetches c = true) ∧ (s.isUp 4 = false ∨ s.allows 12 3 = false ∨
      s.arch.nvWait ≠ [])) ∧
    (∃ (s : State) (c : NvCmd) (b : Bool) (i : Nat), (s.fetches c = true) ∧ (s.isUp 4 = false ∨ s.allows 12 3 = false ∨ s.arch.nvWait ≠ [])) ∧
    (∃ (s : State) (c : NvCmd) (q : Nat) (i : Nat), (s.fetches c = true) ∧ (s.isUp 4 = false ∨ s.allows 12 3 = false ∨ s.arch.nvWait ≠ [])) ∧
    (∃ (s : State) (c : NvCmd) (st : Nat) (l : Nat) (n : U16) (u : Bool), (s.fetches c = true) ∧ (s.isUp 4 = true) ∧ (s.allows 12 3 = true) ∧
      (s.arch.nvWait = []) ∧ (s.ioRefuses c = some st)) ∧
    (∃ (s : State) (c : NvCmd) (st : Nat) (l : Nat) (d : List Bytes) (f : Bool), (s.fetches c = true) ∧ (s.isUp 4 = true) ∧ (s.allows 12 3 = true) ∧
      (s.arch.nvWait = []) ∧ (s.ioRefuses c = some st)) ∧
    (∃ (s : State) (c : NvCmd) (st : Nat), (s.fetches c = true) ∧ (s.isUp 4 = true) ∧ (s.allows 12 3 = true) ∧ (s.arch.nvWait = []) ∧ (s.ioRefuses c =
      some st)) ∧
    (∃ (s : State) (c : NvCmd) (st : Nat) (d : Bool) (r : List (Nat × Nat)), (s.fetches c = true) ∧ (s.isUp 4 = true) ∧ (s.allows 12 3 = true) ∧
      (s.arch.nvWait = []) ∧ (s.ioRefuses c = some st)) ∧
    (∃ (s : State) (c : NvCmd) (lba : Nat) (n : U16) (u : Bool), (s.fetches c = true) ∧ (s.isUp 4 = true) ∧ (s.allows 12 3 = true) ∧ (s.arch.nvWait =
      []) ∧ (s.ioRefuses c = none) ∧ (s.hvBlocks < lba + BitVec.toNat n)) ∧
    (∃ (s : State) (c : NvCmd) (lba : Nat) (n : U16), (s.fetches c = true) ∧ (s.isUp 4 = true) ∧ (s.allows 12 3 = true) ∧ (s.arch.nvWait = []) ∧
      (s.ioRefuses c = none) ∧ (lba + BitVec.toNat n ≤ s.hvBlocks)) ∧
    (∃ (s : State) (c : NvCmd) (lba : Nat) (d : Bytes), (s.fetches c = true) ∧ (s.isUp 4 = true) ∧ (s.allows 12 3 = true) ∧ (s.arch.nvWait = []) ∧
      (s.ioRefuses c = none) ∧ (lba < s.hvBlocks) ∧ (s.arch.readOnly = false) ∧ (s.arch.wbuf.length + 1 < s.stripe)) ∧
    (∃ (s : State) (c : NvCmd) (lba : Nat) (d : Bytes) (f : Bool), (s.fetches c = true) ∧ (s.isUp 4 = true) ∧ (s.allows 12 3 = true) ∧ (s.arch.nvWait
      = []) ∧ (s.ioRefuses c = none) ∧ (lba < s.hvBlocks) ∧ (s.arch.readOnly = false)) ∧
    (∃ (s : State) (c : NvCmd) (lba : Nat) (d : List Bytes) (f : Bool), (s.fetches c = true) ∧ (s.isUp 4 = true) ∧ (s.allows 12 3 = true) ∧
      (s.arch.nvWait = []) ∧ (s.ioRefuses c = none) ∧ (s.hvBlocks < lba + d.length)) ∧
    (∃ (s : State) (c : NvCmd) (lba : Nat) (d : List Bytes) (f : Bool), (s.fetches c = true) ∧ (s.isUp 4 = true) ∧ (s.allows 12 3 = true) ∧
      (s.arch.nvWait = []) ∧ (s.ioRefuses c = none) ∧ (lba + d.length ≤ s.hvBlocks) ∧ (s.arch.readOnly = true)) ∧
    (∃ (s : State), (s.isUp 4 = false ∨ s.allows 12 3 = false)) ∧
    (∃ (s : State) (c : NvCmd) (r : List (Nat × Nat)), (s.fetches c = true) ∧ (s.isUp 4 = true) ∧ (s.allows 12 3 = true) ∧ (s.arch.nvWait = []) ∧
      (s.ioRefuses c = none) ∧ (∀ (x : Nat × Nat), x ∈ r → x.snd = 0 ∨ x.fst + x.snd ≤ s.hvBlocks)) ∧
    (∃ (s : State) (c : NvCmd) (e : Nat), (s.fetches c = true) ∧ (s.isUp 4 = true) ∧ (s.allows 12 3 = true) ∧ (s.arch.nvWait = []) ∧ (s.hvPresent =
      true) ∧ (c.nsid = 1) ∧ (e ≠ 2)) ∧
    (∃ (s : State) (c : NvCmd) (n : Nat), (s.fetches c = true) ∧ (s.isUp 4 = true) ∧ (s.allows 12 3 = true) ∧ (s.arch.nvWait = []) ∧ (2 < n)) ∧
    (∃ (s : State) (c : NvCmd) (n : Nat), (s.fetches c = true) ∧ (s.isUp 4 = true) ∧ (s.allows 12 3 = true) ∧ (s.arch.nvWait = []) ∧ (n = 0 ∨ 3 < n))
      ∧
    (∃ (s : State) (c : NvCmd) (n : Nat) (v : Nat), (s.fetches c = true) ∧ (s.isUp 4 = true) ∧ (s.allows 12 3 = true) ∧ (s.arch.nvWait = []) ∧ (¬n ∈
      [1, 6, 7, 11, 13])) ∧
    (∃ (s : State) (c : NvCmd) (n : Nat) (v : Nat), (s.fetches c = true) ∧ (s.isUp 4 = true) ∧ (s.allows 12 3 = true) ∧ (s.arch.nvWait = []) ∧ (n ∈
      [1, 6, 7, 11])) ∧
    (∃ (s : State) (c : NvCmd) (v : Nat), (s.fetches c = true) ∧ (s.isUp 4 = true) ∧ (s.allows 12 3 = true) ∧ (s.arch.nvWait = []) ∧ (v / 2 < 64)) ∧
    (∃ (s : State) (c : NvCmd) (i : Nat) (z : Nat) (q : Nat), (s.fetches c = true) ∧ (s.isUp 4 = true) ∧ (s.allows 12 3 = true) ∧ (s.arch.nvWait = [])
      ∧ (1 ≤ i) ∧ (i ≤ 8) ∧ (1 ≤ z) ∧ (z ≤ 1024) ∧ (tblFind? s.arch.cqs i = none)) ∧
    (∃ (s : State) (c : NvCmd) (i : Nat) (z : Nat) (q : Nat), (s.fetches c = true) ∧ (s.isUp 4 = true) ∧ (s.allows 12 3 = true) ∧ (s.arch.nvWait = [])
      ∧ (1 ≤ i) ∧ (i ≤ 8) ∧ (1 ≤ z) ∧ (z ≤ 1024) ∧ (tblFind? s.arch.sqs i = none) ∧ (tblFind? s.arch.cqs q ≠ none)) ∧
    (∃ (s : State) (c : NvCmd) (i : Nat) (z : Nat) (q : Nat) (b : Bool), (s.fetches c = true) ∧ (s.isUp 4 = true) ∧ (s.allows 12 3 = true) ∧
      (s.arch.nvWait = []) ∧ (i = 0 ∨ 8 < i)) ∧
    (∃ (s : State) (c : NvCmd) (i : Nat) (z : Nat) (q : Nat), (s.fetches c = true) ∧ (s.isUp 4 = true) ∧ (s.allows 12 3 = true) ∧ (s.arch.nvWait = [])
      ∧ (tblFind? s.arch.cqs i ≠ none) ∧ ((List.any s.arch.sqs fun p => p.snd.cq == i) = true)) ∧
    (∃ (s : State) (c : NvCmd) (i : Nat) (z : Nat) (q : Nat), (s.fetches c = true) ∧ (s.isUp 4 = true) ∧ (s.allows 12 3 = true) ∧ (s.arch.nvWait = [])
      ∧ (tblFind? s.arch.cqs i ≠ none) ∧ ((List.any s.arch.sqs fun p => p.snd.cq == i) = false)) ∧
    (∃ (s : State) (c : NvCmd) (i : Nat) (z : Nat) (q : Nat), (s.fetches c = true) ∧ (s.isUp 4 = true) ∧ (s.allows 12 3 = true) ∧ (s.arch.nvWait = [])
      ∧ (tblFind? s.arch.sqs i ≠ none)) ∧
    (∃ (s : State) (c : NvCmd) (i : Nat), (s.fetches c = true) ∧ (s.isUp 4 = true) ∧ (s.allows 12 3 = true) ∧ (s.arch.nvWait = []) ∧ (i ∈
      s.arch.aers)) ∧
    (∃ (s : State) (c : NvCmd) (i : Nat) (q : Nat), (s.fetches c = true) ∧ (s.isUp 4 = true) ∧ (s.allows 12 3 = true) ∧ (s.arch.nvWait = []) ∧ (q ≠ 0
      ∨ ¬i ∈ s.arch.aers)) ∧
    (∃ (s : State) (c : NvCmd) (i : Nat), (s.fetches c = true) ∧ (s.isUp 4 = true) ∧ (s.allows 12 3 = true) ∧ (s.arch.nvWait = []) ∧ (s.arch.events =
      [])) ∧
    (∃ (s : State) (c : NvCmd) (i : Nat) (e : Nat) (rest : List Nat), (s.fetches c = true) ∧ (s.isUp 4 = true) ∧ (s.allows 12 3 = true) ∧
      (s.arch.nvWait = []) ∧ (s.arch.events = e :: rest)) ∧
    (∃ (s : State) (b : Bool), (s.hvPresent = false)) ∧
    (∃ (s : State) (p : U16) (x : Bytes), (s.isUp 4 = false)) ∧
    (∃ (s : State) (p : U16) (x : Bytes), (s.isUp 4 = true) ∧ (s.arch.hmbMib < 64)) ∧
    (∃ (s : State) (p : U16) (x : Bytes), (s.isUp 4 = true) ∧ (64 ≤ s.arch.hmbMib) ∧ (s.arch.resident.contains (BitVec.toNat p) = false)) ∧
    (∃ (s : State) (p : U16) (x : Bytes), (s.isUp 4 = true) ∧ (64 ≤ s.arch.hmbMib) ∧ (s.arch.resident.contains (BitVec.toNat p) = true) ∧ (List.take 8
      (Config.cmac ((s.slotKey 20).getD []) x) = List.take 8 (Config.cmac ((s.slotKey 20).getD []) (s.mapPage (BitVec.toNat p))))) ∧
    (∃ (s : State) (p : U16) (x : Bytes), (s.isUp 4 = true) ∧ (64 ≤ s.arch.hmbMib) ∧ (s.arch.resident.contains (BitVec.toNat p) = true)) :=
  ⟨⟨(State.reset : State), (⟨0, 7, 1⟩ : NvCmd), (0 : Nat), (0 : U16), (true : Bool), by decide +kernel⟩,
   ⟨(State.reset : State), (⟨0, 7, 1⟩ : NvCmd), (0 : Nat), ([] : List Bytes), (true : Bool), by decide +kernel⟩,
   ⟨(State.reset : State), (⟨0, 7, 1⟩ : NvCmd), by decide +kernel⟩,
   ⟨(State.reset : State), (⟨0, 7, 1⟩ : NvCmd), (true : Bool), ([] : List (Nat × Nat)), by decide +kernel⟩,
   ⟨(State.reset : State), (⟨0, 7, 1⟩ : NvCmd), (0 : Nat), by decide +kernel⟩,
   ⟨(State.reset : State), (⟨0, 7, 1⟩ : NvCmd), (0 : Nat), by decide +kernel⟩,
   ⟨(State.reset : State), (⟨0, 7, 1⟩ : NvCmd), (0 : Nat), (0 : Nat), by decide +kernel⟩,
   ⟨(State.reset : State), (⟨0, 7, 1⟩ : NvCmd), (true : Bool), (0 : Nat), (0 : Nat), (0 : Nat), by decide +kernel⟩,
   ⟨(State.reset : State), (⟨0, 7, 1⟩ : NvCmd), (true : Bool), (0 : Nat), by decide +kernel⟩,
   ⟨(State.reset : State), (⟨0, 7, 1⟩ : NvCmd), (0 : Nat), (0 : Nat), by decide +kernel⟩,
   ⟨(nvmHeld : State), (⟨0, 7, 2⟩ : NvCmd), (.nvmeFlush ⟨0, 7, 2⟩ : Instr), by decide +kernel⟩,
   ⟨(nvmHeld : State), (⟨0, 7, 2⟩ : NvCmd), (0 : Nat), (0 : U16), (true : Bool), by decide +kernel⟩,
   ⟨(nvmHeld : State), (⟨0, 7, 2⟩ : NvCmd), (0 : Nat), ([] : List Bytes), (true : Bool), by decide +kernel⟩,
   ⟨(nvmHeld : State), (⟨0, 7, 2⟩ : NvCmd), by decide +kernel⟩,
   ⟨(nvmHeld : State), (⟨0, 7, 2⟩ : NvCmd), (true : Bool), ([] : List (Nat × Nat)), by decide +kernel⟩,
   ⟨(nvmHeld : State), (⟨0, 7, 2⟩ : NvCmd), (0 : Nat), by decide +kernel⟩,
   ⟨(nvmHeld : State), (⟨0, 7, 2⟩ : NvCmd), (0 : Nat), by decide +kernel⟩,
   ⟨(nvmHeld : State), (⟨0, 7, 2⟩ : NvCmd), (0 : Nat), (0 : Nat), by decide +kernel⟩,
   ⟨(nvmHeld : State), (⟨0, 7, 2⟩ : NvCmd), (true : Bool), (0 : Nat), (0 : Nat), (0 : Nat), by decide +kernel⟩,
   ⟨(nvmHeld : State), (⟨0, 7, 2⟩ : NvCmd), (true : Bool), (0 : Nat), by decide +kernel⟩,
   ⟨(nvmHeld : State), (⟨0, 7, 2⟩ : NvCmd), (0 : Nat), (0 : Nat), by decide +kernel⟩,
   ⟨(nvm : State), (⟨0, 7, 2⟩ : NvCmd), (0x0B : Nat), (0 : Nat), (0 : U16), (true : Bool), by decide +kernel⟩,
   ⟨(nvm : State), (⟨0, 7, 2⟩ : NvCmd), (0x0B : Nat), (0 : Nat), ([] : List Bytes), (true : Bool), by decide +kernel⟩,
   ⟨(nvm : State), (⟨0, 7, 2⟩ : NvCmd), (0x0B : Nat), by decide +kernel⟩,
   ⟨(nvm : State), (⟨0, 7, 2⟩ : NvCmd), (0x0B : Nat), (true : Bool), ([] : List (Nat × Nat)), by decide +kernel⟩,
   ⟨(nvm : State), (⟨0, 7, 1⟩ : NvCmd), (262144 : Nat), (1 : U16), (true : Bool), by decide +kernel⟩,
   ⟨(nvm : State), (⟨0, 7, 1⟩ : NvCmd), (0 : Nat), (0 : U16), by decide +kernel⟩,
   ⟨(nvm : State), (⟨0, 7, 1⟩ : NvCmd), (0 : Nat), ([] : Bytes), by decide +kernel⟩,
   ⟨(nvm : State), (⟨0, 7, 1⟩ : NvCmd), (0 : Nat), ([] : Bytes), (true : Bool), by decide +kernel⟩,
   ⟨(nvm : State), (⟨0, 7, 1⟩ : NvCmd), (262144 : Nat), ([[1]] : List Bytes), (true : Bool), by decide +kernel⟩,
   ⟨({ nvm with arch := { nvm.arch with readOnly := true } } : State), (⟨0, 7, 1⟩ : NvCmd), (0 : Nat), ([] : List Bytes), (true : Bool),
     by decide +kernel⟩,
   ⟨(State.reset : State), by decide +kernel⟩,
   ⟨(nvm : State), (⟨0, 7, 1⟩ : NvCmd), ([] : List (Nat × Nat)), by decide +kernel⟩,
   ⟨(nvm : State), (⟨0, 7, 1⟩ : NvCmd), (3 : Nat), by decide +kernel⟩,
   ⟨(nvm : State), (⟨0, 7, 1⟩ : NvCmd), (3 : Nat), by decide +kernel⟩,
   ⟨(nvm : State), (⟨0, 7, 1⟩ : NvCmd), (0 : Nat), by decide +kernel⟩,
   ⟨(nvm : State), (⟨0, 7, 1⟩ : NvCmd), (0 : Nat), (0 : Nat), by decide +kernel⟩,
   ⟨(nvm : State), (⟨0, 7, 1⟩ : NvCmd), (6 : Nat), (0 : Nat), by decide +kernel⟩,
   ⟨(nvm : State), (⟨0, 7, 1⟩ : NvCmd), (0 : Nat), by decide +kernel⟩,
   ⟨(nvm : State), (⟨0, 7, 1⟩ : NvCmd), (1 : Nat), (1 : Nat), (0 : Nat), by decide +kernel⟩,
   ⟨({ nvm with arch := { nvm.arch with cqs := [(1, ⟨1, 4⟩)], sqs := [] } } : State), (⟨0, 7, 1⟩ : NvCmd), (1 : Nat), (1 : Nat), (1 : Nat),
     by decide +kernel⟩,
   ⟨(nvm : State), (⟨0, 7, 1⟩ : NvCmd), (0 : Nat), (0 : Nat), (0 : Nat), (true : Bool), by decide +kernel⟩,
   ⟨({ nvm with arch := { nvm.arch with cqs := [(1, ⟨1, 4⟩)], sqs := [(2, ⟨1, 4⟩)] } } : State), (⟨0, 7, 1⟩ : NvCmd), (1 : Nat), (0 : Nat), (0 : Nat),
     by decide +kernel⟩,
   ⟨({ nvm with arch := { nvm.arch with cqs := [(1, ⟨1, 4⟩)], sqs := [] } } : State), (⟨0, 7, 1⟩ : NvCmd), (1 : Nat), (0 : Nat), (0 : Nat),
     by decide +kernel⟩,
   ⟨({ nvm with arch := { nvm.arch with cqs := [(1, ⟨1, 4⟩)], sqs := [(2, ⟨1, 4⟩)] } } : State), (⟨0, 7, 1⟩ : NvCmd), (2 : Nat), (0 : Nat), (0 : Nat),
     by decide +kernel⟩,
   ⟨({ nvm with arch := { nvm.arch with aers := [3] } } : State), (⟨0, 7, 1⟩ : NvCmd), (3 : Nat), by decide +kernel⟩,
   ⟨(nvm : State), (⟨0, 7, 1⟩ : NvCmd), (0 : Nat), (0 : Nat), by decide +kernel⟩,
   ⟨(nvm : State), (⟨0, 7, 1⟩ : NvCmd), (0 : Nat), by decide +kernel⟩,
   ⟨({ nvm with arch := { nvm.arch with events := [3] } } : State), (⟨0, 7, 1⟩ : NvCmd), (0 : Nat), (3 : Nat), ([] : List Nat), by decide +kernel⟩,
   ⟨(State.reset : State), (true : Bool), by decide +kernel⟩,
   ⟨(State.reset : State), (0 : U16), ([] : Bytes), by decide +kernel⟩,
   ⟨(nvm : State), (0 : U16), ([] : Bytes), by decide +kernel⟩,
   ⟨({ nvm with arch := { nvm.arch with hmbMib := 64 } } : State), (0 : U16), ([] : Bytes), by decide +kernel⟩,
   ⟨({ nvm with arch := { nvm.arch with hmbMib := 64, resident := [0] } } : State), (0 : U16),
     (({ nvm with arch := { nvm.arch with hmbMib := 64, resident := [0] } }).mapPage 0 : Bytes), by decide +kernel, by decide +kernel,
     by decide +kernel, by rfl⟩,
   ⟨({ nvm with arch := { nvm.arch with hmbMib := 64, resident := [0] } } : State), (0 : U16), ([] : Bytes), by decide +kernel⟩⟩

/-- Hypotheses of TheLifeCycleNeverMovesBack. -/
theorem test_hyps_TheLifeCycleNeverMovesBack :
    (∃ (n : Nat) (s : State) (t : State), (n ≤ s.trust.lc.code) ∧ (step s = Host.Outcome.next t)) ∧
    (∃ (s : State) (t : State), (step s = Host.Outcome.next t) ∧ (∀ (r : Req) (arg : Bytes) (stuck : BitVec 4) (rest : List Instr), s.pending ≠
      Instr.lifeCycleTransition r arg stuck :: rest)) :=
  ⟨⟨(0 : Nat), ({ State.reset with pending := [.eventRaise 0 0] } : State), (State.reset : State), by decide +kernel, by rfl⟩,
   ⟨({ State.reset with pending := [.eventRaise 0 0] } : State), (State.reset : State), by rfl, by intros; simp⟩⟩

/-- Hypotheses of TheMirrorStreamIsTaken. -/
theorem test_hyps_TheMirrorStreamIsTaken :
    (∃ (s : State) (m : U64) (a : Bytes) (b : Bytes), (s.takesMessage m = false)) ∧
    (∃ (s : State) (m : U64) (q : U64) (l : Bool), (s.takesMessage m = false)) ∧
    (∃ (s : State) (m : U64) (h : Handle) (i : Bytes), (s.takesMessage m = false)) ∧
    (∃ (s : State) (m : U64) (a : List (Handle × U64 × Bytes)) (b : U32) (c : U16) (d : Nat), (s.takesMessage m = false)) ∧
    (∃ (s : State) (m : U64) (h : Handle) (b : Bytes), (s.takesMessage m = false)) ∧
    (∃ (s : State) (m : U64) (k : ObjKey) (h : Handle) (a : Bytes), (s.takesMessage m = false)) ∧
    (∃ (s : State) (m : U64) (c : MirrorCfg), (s.takesMessage m = false)) ∧
    (∃ (s : State) (m : U64) (c : Cycle) (n : Nat), (s.takesMessage m = false)) ∧
    (∃ (s : State) (m : U64) (i : U16) (c : Cycle), (s.takesMessage m = false)) ∧
    (∃ (s : State) (m : U64), (s.pair.role = PairRole.standby)) ∧
    (∃ (s : State) (u : State) (m : U64) (a : Bytes) (b : Bytes), (s.takesMessage m = true) ∧ (s.pair.role ≠ PairRole.standby) ∧ (s.pair.role ≠
      PairRole.syncing) ∧ (u = ({ s with pair := { s.pair with rxSeq := m, link := true } } : State))) ∧
    (∃ (s : State) (u : State) (m : U64) (h : Handle) (i : Bytes), (s.takesMessage m = true) ∧ (s.pair.role ≠ PairRole.standby) ∧ (s.pair.role ≠
      PairRole.syncing) ∧ (u = ({ s with pair := { s.pair with rxSeq := m, link := true } } : State))) ∧
    (∃ (s : State) (u : State) (m : U64) (a : List (Handle × U64 × Bytes)) (b : U32) (c : U16) (d : Nat), (s.takesMessage m = true) ∧ (s.pair.role ≠
      PairRole.standby) ∧ (s.pair.role ≠ PairRole.syncing) ∧ (u = ({ s with pair := { s.pair with rxSeq := m, link := true } } : State))) ∧
    (∃ (s : State) (u : State) (m : U64) (h : Handle) (b : Bytes), (s.takesMessage m = true) ∧ (s.pair.role ≠ PairRole.standby) ∧ (s.pair.role ≠
      PairRole.syncing) ∧ (u = ({ s with pair := { s.pair with rxSeq := m, link := true } } : State))) ∧
    (∃ (s : State) (u : State) (m : U64) (k : ObjKey) (h : Handle) (a : Bytes), (s.takesMessage m = true) ∧ (s.pair.role ≠ PairRole.standby) ∧
      (s.pair.role ≠ PairRole.syncing) ∧ (u = ({ s with pair := { s.pair with rxSeq := m, link := true } } : State))) ∧
    (∃ (s : State) (u : State) (m : U64) (c : MirrorCfg), (s.takesMessage m = true) ∧ (s.pair.role ≠ PairRole.standby) ∧ (s.pair.role ≠
      PairRole.syncing) ∧ (u = ({ s with pair := { s.pair with rxSeq := m, link := true } } : State))) ∧
    (∃ (s : State) (u : State) (m : U64) (c : Cycle) (n : Nat), (s.takesMessage m = true) ∧ (s.pair.role ≠ PairRole.standby) ∧ (s.pair.role ≠
      PairRole.syncing) ∧ (u = ({ s with pair := { s.pair with rxSeq := m, link := true } } : State))) ∧
    (∃ (s : State) (u : State) (m : U64) (i : U16) (c : Cycle), (s.takesMessage m = true) ∧ (s.pair.role ≠ PairRole.standby) ∧ (s.pair.role ≠
      PairRole.syncing) ∧ (u = ({ s with pair := { s.pair with rxSeq := m, link := true } } : State))) ∧
    (∃ (s : State) (u : State) (m : U64) (a : Bytes) (b : Bytes) (e : JEntry), (s.takesMessage m = true) ∧ (s.pair.role = PairRole.standby ∨
      s.pair.role = PairRole.syncing) ∧ (u = ({ s with pair := { s.pair with rxSeq := m, link := true } } : State)) ∧ (e = JEntry.parse a s.time.mono)
      ∧ (s.acc.fill + e.len ≤ 4194304) ∧ (s.entryOf e.seq = none)) ∧
    (∃ (s : State) (u : State) (m : U64) (a : Bytes) (b : Bytes), (s.takesMessage m = true) ∧ (s.pair.role = PairRole.standby ∨ s.pair.role =
      PairRole.syncing) ∧ (u = ({ s with pair := { s.pair with rxSeq := m, link := true } } : State)) ∧ (s.entryOf (JEntry.parse a s.time.mono).seq ≠
      none ∨ 4194304 < s.acc.fill + (JEntry.parse a s.time.mono).len)) ∧
    (∃ (s : State) (u : State) (m : U64) (h : Handle) (i : Bytes), (s.takesMessage m = true) ∧ (s.pair.role = PairRole.standby ∨ s.pair.role =
      PairRole.syncing) ∧ (u = ({ s with pair := { s.pair with rxSeq := m, link := true } } : State)) ∧ (fieldAt i 0 4 < 2 ^ 31)) ∧
    (∃ (s : State) (u : State) (m : U64) (h : Handle) (i : Bytes), (s.takesMessage m = true) ∧ (s.pair.role = PairRole.standby ∨ s.pair.role =
      PairRole.syncing) ∧ (u = ({ s with pair := { s.pair with rxSeq := m, link := true } } : State)) ∧ (2 ^ 31 ≤ fieldAt i 0 4) ∧ ((Ctx.ofImage
      i).pinned = true)) ∧
    (∃ (s : State) (u : State) (m : U64) (p : U32) (d : U16) (n : Nat), (s.takesMessage m = true) ∧ (s.pair.role = PairRole.standby ∨ s.pair.role =
      PairRole.syncing) ∧ (u = ({ s with pair := { s.pair with rxSeq := m, link := true } } : State))) ∧
    (∃ (s : State) (u : State) (m : U64) (h : Handle) (b : Bytes), (s.takesMessage m = true) ∧ (s.pair.role = PairRole.standby ∨ s.pair.role =
      PairRole.syncing) ∧ (u = ({ s with pair := { s.pair with rxSeq := m, link := true } } : State))) ∧
    (∃ (s : State) (u : State) (m : U64) (k : ObjKey) (h : Handle) (a : Bytes), (s.takesMessage m = true) ∧ (s.pair.role = PairRole.standby ∨
      s.pair.role = PairRole.syncing) ∧ (u = ({ s with pair := { s.pair with rxSeq := m, link := true } } : State))) ∧
    (∃ (s : State) (u : State) (m : U64) (a : Bytes), (s.takesMessage m = true) ∧ (s.pair.role = PairRole.standby ∨ s.pair.role = PairRole.syncing) ∧
      (u = ({ s with pair := { s.pair with rxSeq := m, link := true } } : State)) ∧ (setArgOk a = true) ∧ (s.time.lockout = false)) ∧
    (∃ (s : State) (u : State) (m : U64) (a : Bytes), (s.takesMessage m = true) ∧ (s.pair.role = PairRole.standby ∨ s.pair.role = PairRole.syncing) ∧
      (u = ({ s with pair := { s.pair with rxSeq := m, link := true } } : State)) ∧ (setArgOk a = false ∨ s.time.lockout = true)) ∧
    (∃ (s : State) (u : State) (m : U64) (c : Cycle) (n : Nat), (s.takesMessage m = true) ∧ (s.pair.role = PairRole.standby ∨ s.pair.role =
      PairRole.syncing) ∧ (u = ({ s with pair := { s.pair with rxSeq := m, link := true } } : State)) ∧ (s.time.lastStamp = some n)) ∧
    (∃ (s : State) (u : State) (m : U64) (i : U16) (c : Cycle), (s.takesMessage m = true) ∧ (s.pair.role = PairRole.standby ∨ s.pair.role =
      PairRole.syncing) ∧ (u = ({ s with pair := { s.pair with rxSeq := m, link := true } } : State)) ∧ (2 ≤ BitVec.toNat (c - s.time.cycle)) ∧
      (BitVec.toNat (c - s.time.cycle) < 2 ^ 39) ∧ (s.weir.latches.length < 8)) ∧
    (∃ (s : State) (m : U64) (q : U64) (l : Bool), (s.takesMessage m = true) ∧ (∀ (d : Deciding), d ∈ s.acc.deciding → d.seq ≠ q)) ∧
    (∃ (s : State) (m : U64) (q : U64), (s.takesMessage m = true) ∧ (∃ d, d ∈ s.acc.deciding ∧ d.seq = q)) ∧
    (∃ (s : State), (s.streaming = false)) ∧
    (∃ (s : State), (s.streaming = true)) ∧
    (∃ (s : State) (b : BulkCopy), (s.pair.role ≠ PairRole.syncing ∨ s.pair.link = false ∨ s.pair.mismatch ≠ none)) ∧
    (∃ (s : State) (b : BulkCopy), (s.pair.role = PairRole.syncing) ∧ (s.pair.link = true) ∧ (s.pair.mismatch = none)) :=
  ⟨⟨(State.reset : State), (0 : U64), ([] : Bytes), ([] : Bytes), by decide +kernel⟩,
   ⟨(State.reset : State), (0 : U64), (0 : U64), (true : Bool), by decide +kernel⟩,
   ⟨(State.reset : State), (0 : U64), (0 : Handle), ([] : Bytes), by decide +kernel⟩,
   ⟨(State.reset : State), (0 : U64), ([] : List (Handle × U64 × Bytes)), (0 : U32), (0 : U16), (0 : Nat), by decide +kernel⟩,
   ⟨(State.reset : State), (0 : U64), (0 : Handle), ([] : Bytes), by decide +kernel⟩,
   ⟨(State.reset : State), (0 : U64), (⟨0xA050, 0⟩ : ObjKey), (0 : Handle), ([] : Bytes), by decide +kernel⟩,
   ⟨(State.reset : State), (0 : U64), (.calendarSet [] : MirrorCfg), by decide +kernel⟩,
   ⟨(State.reset : State), (0 : U64), (0 : Cycle), (0 : Nat), by decide +kernel⟩,
   ⟨(State.reset : State), (0 : U64), (0 : U16), (0 : Cycle), by decide +kernel⟩,
   ⟨(inPair up .standby .active : State), (0 : U64), by decide +kernel⟩,
   ⟨(inPair up .failed .active : State),
     ({ (inPair up .failed .active) with pair := { (inPair up .failed .active).pair with rxSeq := 1, link := true } } : State), (1 : U64), ([] :
     Bytes), ([] : Bytes), by decide +kernel, by decide +kernel, by decide +kernel, by rfl⟩,
   ⟨(inPair up .failed .active : State),
     ({ (inPair up .failed .active) with pair := { (inPair up .failed .active).pair with rxSeq := 1, link := true } } : State), (1 : U64),
     (0 : Handle), ([] : Bytes), by decide +kernel, by decide +kernel, by decide +kernel, by rfl⟩,
   ⟨(inPair up .failed .active : State),
     ({ (inPair up .failed .active) with pair := { (inPair up .failed .active).pair with rxSeq := 1, link := true } } : State), (1 : U64), ([] : List
     (Handle × U64 × Bytes)), (0 : U32), (0 : U16), (0 : Nat), by decide +kernel, by decide +kernel, by decide +kernel, by rfl⟩,
   ⟨(inPair up .failed .active : State),
     ({ (inPair up .failed .active) with pair := { (inPair up .failed .active).pair with rxSeq := 1, link := true } } : State), (1 : U64),
     (0 : Handle), ([] : Bytes), by decide +kernel, by decide +kernel, by decide +kernel, by rfl⟩,
   ⟨(inPair up .failed .active : State),
     ({ (inPair up .failed .active) with pair := { (inPair up .failed .active).pair with rxSeq := 1, link := true } } : State), (1 : U64), (⟨0xA050,
     0⟩ : ObjKey), (0 : Handle), ([] : Bytes), by decide +kernel, by decide +kernel, by decide +kernel, by rfl⟩,
   ⟨(inPair up .failed .active : State),
     ({ (inPair up .failed .active) with pair := { (inPair up .failed .active).pair with rxSeq := 1, link := true } } : State), (1 : U64),
     (.calendarSet [] : MirrorCfg), by decide +kernel, by decide +kernel, by decide +kernel, by rfl⟩,
   ⟨(inPair up .failed .active : State),
     ({ (inPair up .failed .active) with pair := { (inPair up .failed .active).pair with rxSeq := 1, link := true } } : State), (1 : U64),
     (0 : Cycle), (0 : Nat), by decide +kernel, by decide +kernel, by decide +kernel, by rfl⟩,
   ⟨(inPair up .failed .active : State),
     ({ (inPair up .failed .active) with pair := { (inPair up .failed .active).pair with rxSeq := 1, link := true } } : State), (1 : U64), (0 : U16),
     (0 : Cycle), by decide +kernel, by decide +kernel, by decide +kernel, by rfl⟩,
   ⟨(inPair up .standby .active : State),
     ({ (inPair up .standby .active) with pair := { (inPair up .standby .active).pair with rxSeq := 1, link := true } } : State), (1 : U64), ([] :
     Bytes), ([] : Bytes), (JEntry.parse [] 0 : JEntry), by decide +kernel, by decide +kernel, by rfl, by rfl, by decide +kernel⟩,
   ⟨((jrn (inPair up .standby .active) { ent with seq := 0 }) : State),
     ({ ((jrn (inPair up .standby .active) { ent with seq := 0 })) with pair := { ((jrn (inPair up .standby .active) { ent with seq := 0 })).pair with rxSeq := 1, link := true } }
     : State), (1 : U64), ([] : Bytes), ([] : Bytes), by decide +kernel, by decide +kernel, by rfl, by decide +kernel⟩,
   ⟨(inPair up .standby .active : State),
     ({ (inPair up .standby .active) with pair := { (inPair up .standby .active).pair with rxSeq := 1, link := true } } : State), (1 : U64),
     (0 : Handle), ([] : Bytes), by decide +kernel, by decide +kernel, by rfl, by decide +kernel⟩,
   ⟨(inPair up .standby .active : State),
     ({ (inPair up .standby .active) with pair := { (inPair up .standby .active).pair with rxSeq := 1, link := true } } : State), (1 : U64),
     (0 : Handle), ([0, 0, 0, 0xC0] ++ List.replicate 60 0 : Bytes), by decide +kernel, by decide +kernel, by rfl, by decide +kernel⟩,
   ⟨(inPair up .standby .active : State),
     ({ (inPair up .standby .active) with pair := { (inPair up .standby .active).pair with rxSeq := 1, link := true } } : State), (1 : U64),
     (0 : U32), (0 : U16), (0 : Nat), by decide +kernel, by decide +kernel, by rfl⟩,
   ⟨(inPair up .standby .active : State),
     ({ (inPair up .standby .active) with pair := { (inPair up .standby .active).pair with rxSeq := 1, link := true } } : State), (1 : U64),
     (0 : Handle), ([] : Bytes), by decide +kernel, by decide +kernel, by rfl⟩,
   ⟨(inPair up .standby .active : State),
     ({ (inPair up .standby .active) with pair := { (inPair up .standby .active).pair with rxSeq := 1, link := true } } : State), (1 : U64), (⟨0xA050,
     0⟩ : ObjKey), (0 : Handle), ([] : Bytes), by decide +kernel, by decide +kernel, by rfl⟩,
   ⟨(inPair up .standby .active : State),
     ({ (inPair up .standby .active) with pair := { (inPair up .standby .active).pair with rxSeq := 1, link := true } } : State), (1 : U64), ([0x59,
     0x59, 0x23, 0x31, 0x12, 0x99, 0x20] : Bytes), by decide +kernel, by decide +kernel, by rfl, by decide +kernel⟩,
   ⟨(inPair up .standby .active : State),
     ({ (inPair up .standby .active) with pair := { (inPair up .standby .active).pair with rxSeq := 1, link := true } } : State), (1 : U64), ([0x60,
     0, 0, 1, 1, 0, 0x20] : Bytes), by decide +kernel, by decide +kernel, by rfl, by decide +kernel⟩,
   ⟨((lock (inPair up .standby .active)) : State),
     ({ ((lock (inPair up .standby .active))) with pair := { ((lock (inPair up .standby .active))).pair with rxSeq := 1, link := true } } : State),
     (1 : U64), (0 : Cycle), (0 : Nat), by decide +kernel, by decide +kernel, by rfl, by decide +kernel⟩,
   ⟨(inPair up .standby .active : State),
     ({ (inPair up .standby .active) with pair := { (inPair up .standby .active).pair with rxSeq := 1, link := true } } : State), (1 : U64),
     (0 : U16), (2 : Cycle), by decide +kernel, by decide +kernel, by rfl, by decide +kernel⟩,
   ⟨(inPair up .failed .active : State), (1 : U64), (0 : U64), (true : Bool), by decide +kernel, fun d h => absurd h List.not_mem_nil⟩,
   ⟨({ (inPair up .failed .active) with acc := { up.acc with deciding := [⟨7, none, none, false⟩] } } : State), (1 : U64), (7 : U64),
     by decide +kernel, ⟨⟨7, none, none, false⟩, List.mem_singleton.mpr rfl, rfl⟩⟩,
   ⟨(State.reset : State), by decide +kernel⟩,
   ⟨(inPair up .active : State), by decide +kernel⟩,
   ⟨(State.reset : State), (⟨[], [], [], 0, 0, 0, [], [], []⟩ : BulkCopy), by decide +kernel⟩,
   ⟨(inPair up .syncing .active : State), (⟨[], [], [], 0, 0, 0, [], [], []⟩ : BulkCopy), by decide +kernel⟩⟩

/-- Hypotheses of ThePersonalityStandsUntilTheNextMainReset. -/
theorem test_hyps_ThePersonalityStandsUntilTheNextMainReset :
    (∃ (s : State) (x : StartUp), (s.pwr.inReset = true) ∧ (s.pwr.aonAccepted = true) ∧ (s.pwr.tj < 1100)) ∧
    (∃ (s : State) (t : State), (step s = Host.Outcome.next t) ∧ (∀ (x : StartUp) (rest : List Instr), s.pending ≠ Instr.mainResetRelease x :: rest))
      :=
  ⟨⟨({ State.reset with pwr := { State.reset.pwr with inReset := true } } : State), ({} : StartUp), by decide +kernel⟩,
   ⟨({ State.reset with pending := [.eventRaise 0 0] } : State), (State.reset : State), by rfl, by intros; simp⟩⟩

/-- Hypotheses of TheProfileIsFixedAtAMainReset. -/
theorem test_hyps_TheProfileIsFixedAtAMainReset :
    (∃ (s : State) (x : StartUp), (s.pwr.inReset = true) ∧ (s.pwr.aonAccepted = true) ∧ (s.pwr.tj < 1100)) ∧
    (∃ (s : State) (t : State), (step s = Host.Outcome.next t) ∧ (∀ (x : StartUp) (rest : List Instr), s.pending ≠ Instr.mainResetRelease x :: rest))
      :=
  ⟨⟨({ State.reset with pwr := { State.reset.pwr with inReset := true } } : State), ({} : StartUp), by decide +kernel⟩,
   ⟨({ State.reset with pending := [.eventRaise 0 0] } : State), (State.reset : State), by rfl, by intros; simp⟩⟩

/-- Hypotheses of TransportsCarryRequests. -/
theorem test_hyps_TransportsCarryRequests :
    (∃ (s : State) (r : Req) (peer : Bytes) (v : Bytes) (x : Bytes) (k : ObjKey) (f : Found), (r.sess.tr = Transport.coap) ∧ (s.cfgN 0x103002 ≠ 0) ∧
      (r.dest = s.transN r.sess 0x103001) ∧ (s.dict.available = true) ∧ ((s.sess r.sess).isOpen = true) ∧ ((s.sess r.sess).peer = peer) ∧ (meterPathOk
      r k = true) ∧ ((s.fetch r (ObjKey.num k)).fst = .ok x) ∧ (List.length x ≤ 1024)) ∧
    (∃ (s : State) (r : Req), (r.sess.tr = Transport.coap) ∧ ((s.sess r.sess).xfer ≠ none)) ∧
    (∃ (s : State) (r : Req) (k : ObjKey) (room : Nat) (f : Found) (x : Bytes), (s.canReaches r = true) ∧ (s.dict.available = true) ∧ ((((s.canFrame
      (canPortOf r.sess)).setXfer r.sess none).fetch r (ObjKey.num k)).fst = .ok x) ∧ (List.length x ≤ room)) ∧
    (∃ (s : State) (r : Req) (tog : Bool) (v : Bytes) (room : Nat) (f : Found) (x : Xfer), (s.canReaches r = true) ∧ ((s.sess r.sess).xfer = some x) ∧
      (x.download = true) ∧ (tog ≠ x.toggle)) ∧
    (∃ (s : State) (r : Req), (s.canReaches r = true) ∧ ((s.sess r.sess).xfer ≠ none)) ∧
    (∃ (s : State) (p : Fin 2), (s.probeOn p.val = true) ∧ (s.dict.available = true)) ∧
    (∃ (s : State) (r : Req) (k : ObjKey) (f : Found) (x : Bytes), (r.sess.tr = Transport.probe) ∧ ((s.sess r.sess).isOpen = true) ∧ ((s.fetch r
      (ObjKey.num k)).fst = .ok x) ∧ (List.length x ≤ 64)) ∧
    (∃ (s : State) (p : Fin 2), ((s.sess { tr := Transport.probe, id := p.val }).isOpen = true)) ∧
    (∃ (s : State) (slot : U32) (content : Bytes), (s.link.pcie = true) ∧ (s.doorbellIgnored (BitVec.toNat slot) = false)) ∧
    (∃ (s : State) (slot : Fin 32) (st : Bool) (f : Found), (s.link.mbxOut.contains slot.val = true) ∧ (s.link.mbxRun.contains slot.val = false) ∧
      (s.poolTaken < 49152) ∧ (s.mailboxFull = false) ∧ (s.dict.available = true) ∧ (fieldAt (tblGet [] s.link.mbxSlot slot.val) 2 1 = 1)) ∧
    (∃ (s : State), (s.link.pcie = true) ∧ (s.link.mbxOn = false)) ∧
    (∃ (s : State), (s.link.mbxOn = true)) :=
  ⟨by refine ⟨(((up).setSess ⟨.coap, 1⟩ (fun x => { x with isOpen := true })) : State), ({ sess := ⟨.coap, 1⟩, dest := up.transN ⟨.coap, 1⟩ 0x103001 }
     : Req), ([] : Bytes), ([] : Bytes), ([0x8C, 5, 0, 0] : Bytes), (⟨0x1018, 1⟩ : ObjKey), ({} : Found), ?_, ?_, ?_, ?_, ?_, ?_, ?_, ok_of
     (by decide +kernel), ?_⟩ <;> decide +kernel,
   ⟨(((up).setSess ⟨.coap, 1⟩ (fun x => { x with xfer := some ⟨true, ⟨0x3300, 1⟩, [], true, none⟩ })) : State), ({ sess := ⟨.coap, 1⟩ } : Req),
     by decide +kernel⟩,
   ⟨(cfg up 0x440001 [1] : State), ({ sess := ⟨.canFd, 1⟩, dest := (cfg up 0x440001 [1]).nodeId ⟨.canFd, 1⟩ } : Req), (⟨0x1018, 1⟩ : ObjKey),
     (8 : Nat), ({} : Found), ([0x8C, 5, 0, 0] : Bytes), by decide +kernel, by decide +kernel, ok_of (by decide +kernel), by decide +kernel⟩,
   ⟨(((cfg up 0x440001 [1]).setSess ⟨.canFd, 1⟩ (fun x => { x with xfer := some ⟨true, ⟨0x3300, 1⟩, [], true, none⟩ })) : State),
     ({ sess := ⟨.canFd, 1⟩, dest := (cfg up 0x440001 [1]).nodeId ⟨.canFd, 1⟩ } : Req), (false : Bool), ([] : Bytes), (0 : Nat), ({} : Found), (⟨true,
     ⟨0x3300, 1⟩, [], true, none⟩ : Xfer), by decide +kernel⟩,
   ⟨(((cfg up 0x440001 [1]).setSess ⟨.canFd, 1⟩ (fun x => { x with xfer := some ⟨true, ⟨0x3300, 1⟩, [], true, none⟩ })) : State),
     ({ sess := ⟨.canFd, 1⟩, dest := (cfg up 0x440001 [1]).nodeId ⟨.canFd, 1⟩ } : Req), by decide +kernel⟩,
   ⟨(cfg up 0x442001 [1] : State), (0 : Fin 2), by decide +kernel⟩,
   ⟨(((up).setSess ⟨.probe, 1⟩ (fun x => { x with isOpen := true })) : State), ({ sess := ⟨.probe, 1⟩ } : Req), (⟨0x1018, 1⟩ : ObjKey), ({} : Found),
     ([0x8C, 5, 0, 0] : Bytes), by decide +kernel, by decide +kernel, ok_of (by decide +kernel), by decide +kernel⟩,
   ⟨(((up).setSess ⟨.probe, 1⟩ (fun x => { x with isOpen := true })) : State), (1 : Fin 2), by decide +kernel⟩,
   ⟨({ up with link := { up.link with pcie := true, mbxOn := true } } : State), (0 : U32), ([] : Bytes), by decide +kernel⟩,
   ⟨({ up with link := { up.link with pcie := true, mbxOn := true, mbxOut := [0], mbxSlot := [(0, [0, 0, 1, 0])] } } : State), (0 : Fin 32),
     (true : Bool), ({} : Found), by decide +kernel⟩,
   ⟨({ up with link := { up.link with pcie := true, mbxOn := false } } : State), by decide +kernel⟩,
   ⟨({ up with link := { up.link with pcie := true, mbxOn := true } } : State), by decide +kernel⟩⟩

/-- Hypotheses of TriggersArmFireAndCapturesStamp. -/
theorem test_hyps_TriggersArmFireAndCapturesStamp :
    (∃ (s : State) (r : Req) (n : Fin 32) (o : ObjRow), (s.starts r (0x330006 + 256 * n.val) [1] o) ∧ ((s.trig n.val).st ≠ TrigSt.armed) ∧ (s.mayArm
      n.val = true)) ∧
    (∃ (s : State) (r : Req) (n : Fin 32) (o : ObjRow), (s.starts r (0x330006 + 256 * n.val) [1] o) ∧ ((s.trig n.val).st = TrigSt.armed)) ∧
    (∃ (s : State) (r : Req) (n : Fin 32) (o : ObjRow), (s.starts r (0x330006 + 256 * n.val) [1] o) ∧ ((s.trig n.val).st ≠ TrigSt.armed) ∧ (s.mayArm
      n.val = false)) ∧
    (∃ (s : State) (r : Req) (n : Fin 32) (o : ObjRow), (s.starts r (0x330006 + 256 * n.val) [2] o) ∧ ((s.trig n.val).st = TrigSt.armed)) ∧
    (∃ (s : State) (n : Fin 32) (at_ : Nat), ((s.trig n.val).st = TrigSt.armed) ∧ (s.trigKind n.val ≠ 2) ∧ (s.trigAction n.val = 4) ∧ (s.trigTime
      n.val ≤ at_) ∧ (at_ ≤ s.trigTime n.val + 6)) ∧
    (∃ (s : State) (n : Fin 32) (at_ : Nat), ((s.trig n.val).st ≠ TrigSt.armed)) ∧
    (∃ (s : State) (c : Fin 6) (rising : Bool) (stamp : Nat), (s.pwr.inReset = true)) ∧
    (∃ (s : State) (c : Fin 6) (rising : Bool) (stamp : Nat), (s.pwr.inReset = false) ∧ (c.val < 4 ∨ (tblGet { } s.time.captures c.val).quietTo ≤
      stamp) ∧ (s.cfgN (0x350001 + c.val * 256) = 3 ∨ s.cfgN (0x350001 + c.val * 256) = 1 ∧ rising = true ∨ s.cfgN (0x350001 + c.val * 256) = 2 ∧
      rising = false)) ∧
    (∃ (s : State) (c : Fin 6) (rising : Bool) (stamp : Nat), (s.cfgN (0x350001 + c.val * 256) = 0)) :=
  ⟨⟨(cfg (cfg up 0x330001 [4]) 0x330004 (List.replicate 5 0xFF ++ [0, 0, 0, 0, 0, 0, 0]) : State), (rq : Req), (0 : Fin 32), row 0x330006, starts_of
     (by decide +kernel) (by decide +kernel), by decide +kernel⟩,
   ⟨({ up with time := { up.time with triggers := [(0, { st := .armed })] } } : State), (rq : Req), (0 : Fin 32), row 0x330006, starts_of
     (by decide +kernel) (by decide +kernel), by decide +kernel⟩,
   ⟨(up : State), (rq : Req), (0 : Fin 32), (row (0x330006 + 256 * (0))), starts_of (by decide +kernel) (by decide +kernel), by decide +kernel⟩,
   ⟨({ up with time := { up.time with triggers := [(0, { st := .armed })] } } : State), (rq : Req), (0 : Fin 32), row 0x330006, starts_of
     (by decide +kernel) (by decide +kernel), by decide +kernel⟩,
   ⟨({ cfg up 0x330001 [4] with time := { up.time with triggers := [(0, { st := .armed })] } } : State), (0 : Fin 32), (0 : Nat), by decide +kernel⟩,
   ⟨(State.reset : State), (0 : Fin 32), (0 : Nat), by decide +kernel⟩,
   ⟨({ up with pwr := { up.pwr with inReset := true } } : State), (0 : Fin 6), (true : Bool), (0 : Nat), by decide +kernel⟩,
   ⟨(cfg up 0x350001 [3] : State), (0 : Fin 6), (true : Bool), (0 : Nat), by decide +kernel⟩,
   ⟨(State.reset : State), (0 : Fin 6), (true : Bool), (0 : Nat), by decide +kernel⟩⟩

/-- Hypotheses of UpdatesRunFromDownloadToTrial. 7 that rest on a Config value left out. -/
theorem test_hyps_UpdatesRunFromDownloadToTrial :
    (∃ (s : State) (r : Req) (arg : Bytes) (o : ObjRow), (s.starts r 0xA06001 arg o) ∧ (s.upd.dl ≠ none ∨ s.upd.trial ≠ none)) ∧
    (∃ (s : State) (r : Req) (arg : Bytes) (o : ObjRow), (s.starts r 0xA06001 arg o) ∧ (s.upd.dl = none) ∧ (s.upd.trial = none) ∧ (s.headerOk arg =
      false)) ∧
    (∃ (s : State) (r : Req) (arg : Bytes) (o : ObjRow), (s.starts r 0xA06001 arg o) ∧ (s.upd.dl = none) ∧ (s.upd.trial = none)) ∧
    (∃ (s : State) (r : Req) (arg : Bytes) (o : ObjRow), (s.starts r 0xA06002 arg o) ∧ (s.upd.dl = none)) ∧
    (∃ (s : State) (r : Req) (arg : Bytes) (o : ObjRow) (k : Nat), (s.starts r 0xA06002 arg o) ∧ (s.upd.dl = some k)) ∧
    (∃ (s : State) (r : Req) (arg : Bytes) (o : ObjRow) (k : Nat), (s.starts r 0xA06003 arg o) ∧ (s.upd.dl = some k) ∧ (hdrBlocks (s.fw k (s.otherSlot
      k)).header ≤ List.length (s.fw k (s.otherSlot k)).blocks)) ∧
    (∃ (s : State) (r : Req) (arg : Bytes) (o : ObjRow) (k : Nat), (s.starts r 0xA06003 arg o) ∧ (s.upd.dl = some k) ∧ (hdrBlocks (s.fw k (s.otherSlot
      k)).header ≤ List.length (s.fw k (s.otherSlot k)).blocks)) ∧
    (∃ (s : State) (r : Req) (arg : Bytes) (o : ObjRow), (s.starts r 0xA06003 arg o) ∧ (s.upd.dl = none)) ∧
    (∃ (s : State) (r : Req) (arg : Bytes) (o : ObjRow), (s.starts r 0xA06006 arg o) ∧ (s.upd.dl = none)) ∧
    (∃ (s : State) (r : Req) (arg : Bytes) (o : ObjRow) (k : Nat), (s.starts r 0xA06006 arg o) ∧ (s.upd.dl = some k)) ∧
    (∃ (s : State) (r : Req) (arg : Bytes) (o : ObjRow), (s.starts r 0xA06101 arg o) ∧ (1000000000 ≤ fieldAt arg 9 4)) ∧
    (∃ (s : State) (r : Req) (arg : Bytes) (o : ObjRow), (s.starts r 0xA06101 arg o) ∧ (fieldAt arg 9 4 < 1000000000) ∧ (fieldAt arg 0 1 = 0)) ∧
    (∃ (s : State) (r : Req) (arg : Bytes) (o : ObjRow), (s.starts r 0xA06101 arg o) ∧ (fieldAt arg 9 4 < 1000000000) ∧ (fieldAt arg 0 1 ≠ 0) ∧
      (s.upd.dl ≠ none ∨ s.upd.trial ≠ none)) ∧
    (∃ (s : State) (r : Req) (arg : Bytes) (o : ObjRow), (s.starts r 0xA06101 arg o) ∧ (fieldAt arg 9 4 < 1000000000) ∧ (fieldAt arg 0 1 ≠ 0) ∧
      (fieldAt arg 0 1 < 8) ∧ (s.upd.dl = none) ∧ (s.upd.trial = none)) ∧
    (∃ (s : State), (s.upd.activation = none ∨ ∃ m a, s.upd.activation = some (m, a) ∧ s.time.net < a)) ∧
    (∃ (s : State) (m : Nat) (a : Nat), (s.upd.activation = some (m, a)) ∧ (a ≤ s.time.net) ∧ (s.pwr.inReset = false)) ∧
    (∃ (s : State) (m : Nat) (a : Nat), (s.upd.activation = some (m, a)) ∧ (a ≤ s.time.net) ∧ (∃ k, k ∈ maskKinds m ∧ s.activable k = false)) ∧
    (∃ (s : State) (r : Req) (arg : Bytes) (o : ObjRow) (b : List Nat), (s.starts r 0xA06103 arg o) ∧ (s.upd.trial = none)) ∧
    (∃ (s : State) (r : Req) (arg : Bytes) (o : ObjRow) (b : List Nat) (x : Trial), (s.starts r 0xA06103 arg o) ∧ (s.upd.trial = some x) ∧ (x.started
      = false ∨ x.migrated = false ∨ s.blockResetSince = true ∨ s.setRuns x.mask = false)) ∧
    (∃ (s : State) (r : Req) (arg : Bytes) (o : ObjRow) (b : List Nat) (x : Trial), (s.starts r 0xA06103 arg o) ∧ (s.upd.trial = some x) ∧ (x.started
      = true) ∧ (x.migrated = true) ∧ (s.blockResetSince = false) ∧ (s.setRuns x.mask = true)) ∧
    (∃ (s : State) (x : Trial), (s.upd.trial = some x) ∧ (x.started = false ∨ s.time.mono < x.since + x.window * 60 * 32768)) ∧
    (∃ (s : State) (x : Trial), (s.upd.trial = some x) ∧ (x.started = true) ∧ (x.since + x.window * 60 * 32768 ≤ s.time.mono)) ∧
    (∃ (s : State) (v : List (ObjKey × Nat × Bytes)) (b : Bool), (s.upd.trial = none ∨ ∃ x, s.upd.trial = some x ∧ (x.started = false ∨ x.migrated =
      true))) ∧
    (∃ (s : State) (v : List (ObjKey × Nat × Bytes)) (x : Trial), (s.upd.trial = some x) ∧ (x.started = true) ∧ (x.migrated = false)) :=
  ⟨⟨({ up with upd := { up.upd with dl := some 1 } } : State), (rq : Req), (List.replicate 512 0 : Bytes), (row 0xA06001), starts_of
     (by decide +kernel) (by decide +kernel), by decide +kernel⟩,
   ⟨(up : State), (rq : Req), (List.replicate 512 0 : Bytes), (row 0xA06001), starts_of (by decide +kernel) (by decide +kernel), by decide +kernel⟩,
   ⟨(up : State), (rq : Req), (List.replicate 512 0 : Bytes), (row 0xA06001), starts_of (by decide +kernel) (by decide +kernel), by decide +kernel⟩,
   ⟨(up : State), (rq : Req), (List.replicate 4104 0 : Bytes), (row 0xA06002), starts_of (by decide +kernel) (by decide +kernel), by decide +kernel⟩,
   ⟨({ up with upd := { up.upd with dl := some 1 } } : State), (rq : Req), (List.replicate 4104 0 : Bytes), (row 0xA06002), (1 : Nat), starts_of
     (by decide +kernel) (by decide +kernel), by decide +kernel⟩,
   ⟨({ up with upd := { up.upd with dl := some 1 } } : State), (rq : Req), ([] : Bytes), (row 0xA06003), (1 : Nat), starts_of (by decide +kernel)
     (by decide +kernel), by decide +kernel⟩,
   ⟨({ up with upd := { up.upd with dl := some 1 } } : State), (rq : Req), ([] : Bytes), (row 0xA06003), (1 : Nat), starts_of (by decide +kernel)
     (by decide +kernel), by decide +kernel⟩,
   ⟨(up : State), (rq : Req), ([] : Bytes), (row 0xA06003), starts_of (by decide +kernel) (by decide +kernel), by decide +kernel⟩,
   ⟨(up : State), (rq : Req), ([] : Bytes), (row 0xA06006), starts_of (by decide +kernel) (by decide +kernel), by decide +kernel⟩,
   ⟨({ up with upd := { up.upd with dl := some 1 } } : State), (rq : Req), ([] : Bytes), (row 0xA06006), (1 : Nat), starts_of (by decide +kernel)
     (by decide +kernel), by decide +kernel⟩,
   ⟨(up : State), (rq : Req), ([1, 0, 0, 0, 0, 0, 0, 0, 0, 0, 0xCA, 0x9A, 0x3B] : Bytes), (row 0xA06101), starts_of (by decide +kernel)
     (by decide +kernel), by decide +kernel⟩,
   ⟨(up : State), (rq : Req), (List.replicate 13 0 : Bytes), (row 0xA06101), starts_of (by decide +kernel) (by decide +kernel), by decide +kernel⟩,
   ⟨({ up with upd := { up.upd with dl := some 1 } } : State), (rq : Req), (1 :: List.replicate 12 0 : Bytes), (row 0xA06101), starts_of
     (by decide +kernel) (by decide +kernel), by decide +kernel⟩,
   ⟨(up : State), (rq : Req), (1 :: List.replicate 12 0 : Bytes), (row 0xA06101), starts_of (by decide +kernel) (by decide +kernel),
     by decide +kernel⟩,
   ⟨(State.reset : State), Or.inl rfl⟩,
   ⟨({ up with upd := { up.upd with activation := some (1, 0) } } : State), (1 : Nat), (0 : Nat), by decide +kernel⟩,
   ⟨({ up with upd := { up.upd with activation := some (1, 0) } } : State), (1 : Nat), (0 : Nat), by decide +kernel, by decide +kernel, ⟨1,
     by decide +kernel, by decide +kernel⟩⟩,
   ⟨(up : State), (rq : Req), ([] : Bytes), (row 0xA06103), ([] : List Nat), starts_of (by decide +kernel) (by decide +kernel), by decide +kernel⟩,
   ⟨({ up with upd := { up.upd with trial := some ⟨1, false, 10, 0, false⟩ } } : State), (rq : Req), ([] : Bytes), (row 0xA06103), ([] : List Nat),
     (⟨1, false, 10, 0, false⟩ : Trial), starts_of (by decide +kernel) (by decide +kernel), by decide +kernel⟩,
   ⟨({ up with upd := { up.upd with trial := some ⟨1, true, 10, 0, true⟩ } } : State), (rq : Req), ([] : Bytes), (row 0xA06103), ([] : List Nat), (⟨1,
     true, 10, 0, true⟩ : Trial), starts_of (by decide +kernel) (by decide +kernel), by decide +kernel⟩,
   ⟨({ up with upd := { up.upd with trial := some ⟨1, false, 10, 0, false⟩ } } : State), (⟨1, false, 10, 0, false⟩ : Trial), by decide +kernel⟩,
   ⟨({ up with upd := { up.upd with trial := some ⟨1, true, 10, 0, true⟩ }, time := { up.time with mono := 10 ^ 9 } } : State), (⟨1, true, 10, 0,
     true⟩ : Trial), by decide +kernel⟩,
   ⟨(State.reset : State), ([] : List (ObjKey × Nat × Bytes)), (true : Bool), Or.inl rfl⟩,
   ⟨({ up with upd := { up.upd with trial := some ⟨1, true, 10, 0, false⟩ } } : State), ([] : List (ObjKey × Nat × Bytes)), (⟨1, true, 10, 0, false⟩ :
     Trial), by decide +kernel⟩⟩

/-- Hypotheses of WarningsFaultsAndBlockResets. -/
theorem test_hyps_WarningsFaultsAndBlockResets :
    (∃ (s : State), (s.pwr.pfw = true ∨ s.pwr.inReset = true)) ∧
    (∃ (s : State), (s.pwr.pfw = false ∨ s.pwr.inReset = true)) ∧
    (∃ (s : State), (s.pwr.pfw = true) ∧ (s.pwr.seqDone = true) ∧ (s.pwr.inReset = false)) ∧
    (∃ (s : State), (s.pwr.pfw = false ∨ s.pwr.seqDone = false ∨ s.pwr.inReset = true)) ∧
    (∃ (s : State), (s.pwr.inReset = true)) ∧
    (∃ (s : State) (i : Fin 10), (s.pwr.inReset = true ∨ s.pwr.islands.getD i.val IslandSt.held = IslandSt.held)) ∧
    (∃ (s : State) (i : Fin 10), (s.pwr.inReset = false) ∧ (s.pwr.islands.getD i.val IslandSt.held ≠ IslandSt.held) ∧ (i.val ∈ [0, 1, 3, 7])) ∧
    (∃ (s : State) (i : Fin 10), (s.pwr.inReset = false) ∧ (s.pwr.islands.getD i.val IslandSt.held ≠ IslandSt.held) ∧ (s.pwr.islands.getD i.val
      IslandSt.held ≠ IslandSt.running) ∧ (i.val ∈ [2, 4, 5, 8, 9])) ∧
    (∃ (s : State) (i : Fin 10), (s.pwr.inReset = false) ∧ (s.pwr.islands.getD i.val IslandSt.held = IslandSt.running) ∧ (i.val ∈ [2, 4, 5, 8, 9]) ∧
      ((List.filter (fun t => decide (s.time.mono < t + 60 * 32768)) (tblGet [] s.pwr.blockTimes i.val)).length < 4)) ∧
    (∃ (s : State), (s.pwr.inReset = false) ∧ (s.pwr.islands.getD 6 IslandSt.held ≠ IslandSt.held) ∧ (s.formed = true) ∧ (s.pair.won = true)) ∧
    (∃ (s : State) (i : Fin 10), (s.pwr.islands.getD i.val IslandSt.held = IslandSt.quiescing)) ∧
    (∃ (s : State) (i : Fin 10), (s.pwr.islands.getD i.val IslandSt.held ≠ IslandSt.quiescing)) ∧
    (∃ (s : State) (i : Fin 10), (s.pwr.inReset = false) ∧ (s.pwr.pfw = false) ∧ (s.pwr.islands.getD i.val IslandSt.held = IslandSt.quiescing ∨
      s.pwr.islands.getD i.val IslandSt.held = IslandSt.resetting)) ∧
    (∃ (s : State) (i : Fin 10), (s.pwr.inReset = true ∨ s.pwr.pfw = true ∨ s.pwr.islands.getD i.val IslandSt.held = IslandSt.running ∨
      s.pwr.islands.getD i.val IslandSt.held = IslandSt.held)) ∧
    (∃ (s : State) (x : BitVec 16), (s.pwr.inReset = false) ∧ (x.toInt ≤ 1250)) ∧
    (∃ (s : State) (x : BitVec 16), (s.pwr.inReset = false) ∧ (s.pwr.pfw = false) ∧ (1250 < x.toInt)) ∧
    (∃ (s : State) (r : Req) (arg : Bytes) (o : ObjRow), (s.starts r 0x301101 arg o) ∧ (leNat arg = 1381192737)) ∧
    (∃ (s : State) (r : Req) (arg : Bytes) (o : ObjRow), (s.starts r 0x301101 arg o) ∧ (leNat arg ≠ 1381192737)) ∧
    (∃ (s : State) (r : Req) (arg : Bytes) (o : ObjRow), (s.starts r 0x301102 arg o)) :=
  ⟨⟨({ up with pwr := { up.pwr with pfw := true } } : State), by decide +kernel⟩,
   ⟨(State.reset : State), by decide +kernel⟩,
   ⟨({ up with pwr := { up.pwr with pfw := true, seqDone := true } } : State), by decide +kernel⟩,
   ⟨(State.reset : State), by decide +kernel⟩,
   ⟨({ State.reset with pwr := { State.reset.pwr with inReset := true } } : State), by decide +kernel⟩,
   ⟨({ State.reset with pwr := { State.reset.pwr with inReset := true } } : State), (0 : Fin 10), by decide +kernel⟩,
   ⟨(up : State), (0 : Fin 10), by decide +kernel⟩,
   ⟨({ up with pwr := { up.pwr with islands := (List.replicate 10 .running).set 2 .quiescing } } : State), (2 : Fin 10), by decide +kernel⟩,
   ⟨(up : State), (2 : Fin 10), by decide +kernel⟩,
   ⟨({ inPair up .active with pair := { (inPair up .active).pair with won := true } } : State), by decide +kernel⟩,
   ⟨({ up with pwr := { up.pwr with islands := (List.replicate 10 .running).set 2 .quiescing } } : State), (2 : Fin 10), by decide +kernel⟩,
   ⟨(State.reset : State), (0 : Fin 10), by decide +kernel⟩,
   ⟨({ up with pwr := { up.pwr with islands := (List.replicate 10 .running).set 2 .quiescing } } : State), (2 : Fin 10), by decide +kernel⟩,
   ⟨(State.reset : State), (0 : Fin 10), by decide +kernel⟩,
   ⟨(State.reset : State), (0 : BitVec 16), by decide +kernel⟩,
   ⟨(up : State), (1251 : BitVec 16), by decide +kernel⟩,
   ⟨(up : State), (rq : Req), (leBytes 4 1381192737 : Bytes), (row 0x301101), starts_of (by decide +kernel) (by decide +kernel), by decide +kernel⟩,
   ⟨(up : State), (rq : Req), ([1, 0, 0, 0] : Bytes), (row 0x301101), starts_of (by decide +kernel) (by decide +kernel), by decide +kernel⟩,
   ⟨(up : State), (rq : Req), ([] : Bytes), (row 0x301102), starts_of (by decide +kernel) (by decide +kernel)⟩⟩

end Sys2Proof.Tests
end

/-! SUPPORT. What a block does when its group switches leaves the dictionary as it is: the scheduler, acceptance, the archive,
billing, prepayment, the balance engine and the Host Volume, one lemma for each function, callees before callers. Group 0x00
alone touches the dictionary, and of it the sessions only (R55). -/

namespace Sys2Proof.Machine.Dictionary

/-- A fold of steps that leave the dictionary leaves it. -/
theorem foldl_dict {β : Type} {f : State → β → State} (h : ∀ t x, (f t x).dict = t.dict) (l : List β) (s : State) :
    (l.foldl f s).dict = s.dict := by
  induction l generalizing s with
  | nil => rfl
  | cons x l ih => rw [List.foldl_cons, ih, h]

section Scheduler

@[simp] theorem openVal_dict (s : State) (p : Nat) : (s.openVal p).2.dict = s.dict := rfl
@[simp] theorem append_dict (s : State) (f : Nat) (it : Item) (d : Bool) : (s.append f it d).dict = s.dict := rfl
@[simp] theorem countDispatch_dict (s : State) (f : Nat) (it : Item) : (s.countDispatch f it).dict = s.dict := rfl
@[simp] theorem dispatchTo_dict (s : State) (c f : Nat) (it : Item) : (s.dispatchTo c f it).dict = s.dict := rfl
@[simp] theorem noteSojourn_dict (s : State) : s.noteSojourn.dict = s.dict := rfl

@[simp] theorem chargeRun_dict (s : State) (c f : Nat) (it : Item) (t : Nat) : (s.chargeRun c f it t).dict = s.dict := by
  simp [State.chargeRun]

@[simp] theorem preempt_dict (s : State) (c : Nat) : (s.preempt c).dict = s.dict := by
  unfold State.preempt
  split <;> simp

@[simp] theorem preemptAll_dict (n : Nat) (s : State) : (s.preemptAll n).dict = s.dict := by
  induction n generalizing s with
  | zero => rfl
  | succ n ih =>
    simp only [State.preemptAll]
    split
    · rfl
    · split
      · rfl
      · split
        · rfl
        · simp [ih]

@[simp] theorem serveStalled_dict (s : State) : s.serveStalled.dict = s.dict := by
  refine foldl_dict (fun t c => ?_) _ _
  split
  · split <;> simp
  · rfl

@[simp] theorem scheduleRounds_dict (n : Nat) (s : State) : (s.scheduleRounds n).dict = s.dict := by
  induction n generalizing s with
  | zero => rfl
  | succ n ih => simp [State.scheduleRounds, ih]

@[simp] theorem schedule_dict (s : State) : s.schedule.dict = s.dict := scheduleRounds_dict 4 s

@[simp] theorem enqueue_dict (s : State) (a f k key ref : Nat) (tel : Bool) : (s.enqueue a f k key ref tel).2.dict = s.dict := by
  simp only [State.enqueue]
  split
  · rfl
  · split
    · simp
    · split
      · rfl
      · split <;> simp

@[simp] theorem produce_dict (s : State) (a f k key ref : Nat) (tel : Bool) : (s.produce a f k key ref tel).dict = s.dict := by
  simp only [State.produce]
  split <;> simp

@[simp] theorem doWants_dict (acct : Nat) (ws : List (Nat × Nat × Nat × Nat)) (s : State) :
    (s.doWants acct ws).2.dict = s.dict := by
  induction ws generalizing s with
  | nil => rfl
  | cons w ws ih =>
    simp only [State.doWants]
    split <;> simp [ih]

@[simp] theorem releaseFlow_dict (f n : Nat) (s : State) : (s.releaseFlow f n).2.dict = s.dict := by
  induction n generalizing s with
  | zero => rfl
  | succ n ih =>
    unfold State.releaseFlow
    split
    · rfl
    · split
      · extract_lets w
        have hw : w.2.dict = s.dict := by
          unfold w
          split <;> simp
        split
        · exact (ih _).trans hw
        · exact hw
      · rfl

/-- A fold that carries a state beside its result leaves the dictionary if every step does. -/
theorem foldl_snd_dict {α β : Type} {f : α × State → β → α × State} (h : ∀ p x, (f p x).2.dict = p.2.dict) (l : List β)
    (p : α × State) : (l.foldl f p).2.dict = p.2.dict := by
  induction l generalizing p with
  | nil => rfl
  | cons x l ih => rw [List.foldl_cons, ih, h]

@[simp] theorem releaseAll_dict (s : State) : s.releaseAll.2.dict = s.dict := by
  unfold State.releaseAll
  refine foldl_snd_dict (fun p f => ?_) _ _
  exact releaseFlow_dict f (p.2.items f).length p.2

@[simp] theorem releaseRounds_dict (n : Nat) (s : State) : (s.releaseRounds n).2.dict = s.dict := by
  induction n generalizing s with
  | zero => rfl
  | succ n ih =>
    simp only [State.releaseRounds]
    split <;> simp [ih]

@[simp] theorem retryKept_dict (s : State) : s.retryKept.dict = s.dict :=
  foldl_dict (fun _ _ => produce_dict _ _ _ _ _ _ _) _ _

@[simp] theorem uartTaken_dict (s : State) (f : Nat) : (s.uartTaken f).dict = s.dict := by
  unfold State.uartTaken
  split <;> rfl

@[simp] theorem itemReleased_dict (s : State) (f : Nat) (it : Item) : (s.itemReleased f it).dict = s.dict := by
  simp only [State.itemReleased]
  split
  · rfl
  · split
    · rfl
    · split
      · split
        · simp
        · split <;> simp
      · split <;> simp

@[simp] theorem releaseDone_dict (s : State) : s.releaseDone.dict = s.dict := by
  simp [State.releaseDone, foldl_dict]

end Scheduler

section Acceptance

@[simp] theorem touchSlot_dict (s : State) (h : Nat) : (s.touchSlot h).dict = s.dict := by
  unfold State.touchSlot
  split <;> rfl

@[simp] theorem noteHandle_dict (s : State) (h : Nat) : (s.noteHandle h).dict = s.dict := by
  unfold State.noteHandle
  split <;> rfl

@[simp] theorem evictCtx_dict (s : State) : s.evictCtx.dict = s.dict := by
  unfold State.evictCtx
  split
  · rfl
  · split
    · rfl
    · dsimp only
      split <;> simp

/-- The slot a key is loaded into is taken without the dictionary. -/
theorem claimSlot_dict {s t : State} {h n : Nat} (hc : s.claimSlot h = some (n, t)) : t.dict = s.dict := by
  unfold State.claimSlot at hc
  split at hc
  · cases hc
    rfl
  · split at hc
    · cases hc
      rfl
    · split at hc
      · cases hc
      · split at hc
        · cases hc
        · cases hc
          rfl

@[simp] theorem loadKey_dict (s : State) (h : Nat) : (s.loadKey h).2.dict = s.dict := by
  simp only [State.loadKey]
  split
  · simp
  · split
    · rfl
    · split
      · rfl
      · split
        · simp
        · split
          · rfl
          · next hc => simp [claimSlot_dict hc]

@[simp] theorem fetchRemote_dict (s : State) (h : Nat) : (s.fetchRemote h).dict = s.dict := by
  simp only [State.fetchRemote]
  split
  · rfl
  · split
    · rfl
    · simp only [noteHandle_dict, loadKey_dict, State.charge_dict, State.bumpAcc_dict]
      split <;> simp

@[simp] theorem findCtx_dict (s : State) (h : Nat) : (s.findCtx h).2.dict = s.dict := by
  simp only [State.findCtx]
  split
  · dsimp only
    split <;> rfl
  · dsimp only
    split <;> simp

@[simp] theorem apduVerdict_dict (s : State) (e : JEntry) (c : Ctx) (n : U32) : (s.apduVerdict e c n).2.dict = s.dict := by
  unfold State.apduVerdict
  split <;> simp

@[simp] theorem judgeApdu_dict (s : State) (q : U64) : (s.judgeApdu q).2.dict = s.dict := by
  simp only [State.judgeApdu]
  split
  · rfl
  · split
    · rfl
    · rfl
    · split
      · rfl
      · split <;> simp

@[simp] theorem journalMarks_dict (s : State) : s.journalMarks.dict = s.dict := by
  simp [State.journalMarks, apply_ite State.dict]

end Acceptance

section Archive

@[simp] theorem dropOldest_dict (s : State) (c : Nat) : (s.dropOldest c).dict = s.dict := rfl

@[simp] theorem makeRoom_dict (len n : Nat) (s : State) : (s.makeRoom len n).dict = s.dict := by
  induction n generalizing s with
  | zero => rfl
  | succ n ih =>
    simp only [State.makeRoom]
    split
    · rfl
    · split <;> simp [ih]

@[simp] theorem placeUnit_dict (s : State) (r l a f : Nat) (b : Bytes) : (s.placeUnit r l a f b).dict = s.dict := by
  simp only [State.placeUnit]
  split <;> simp

@[simp] theorem program_dict (s : State) (r l a f : Nat) (b : Bytes) : (s.program r l a f b).dict = s.dict := by
  simp only [State.program, State.chargeOpen_dict, placeUnit_dict]
  split <;> simp

@[simp] theorem programFull_dict (c n : Nat) (s : State) : (s.programFull c n).dict = s.dict := by
  induction n generalizing s with
  | zero => rfl
  | succ n ih =>
    simp only [State.programFull]
    split <;> simp [ih]

@[simp] theorem putRecord_dict (s : State) (c : Nat) (r : ArchRec) : (s.putRecord c r).dict = s.dict := by
  simp [State.putRecord]

@[simp] theorem appendRec_dict (s : State) (c : Nat) (r : ArchRec) : (s.appendRec c r).dict = s.dict := by
  simp only [State.appendRec]
  split
  · rfl
  · split
    · simp
    · split <;> simp

@[simp] theorem archive_dict (s : State) (c k : Nat) (w : U32) (t : Nat) (b : Bytes) : (s.archive c k w t b).dict = s.dict :=
  appendRec_dict _ _ _

@[simp] theorem storageSlot_dict (s : State) (n u : Nat) (l : String) (x : Bytes) : (s.storageSlot n u l x).dict = s.dict := by
  unfold State.storageSlot
  split <;> simp

@[simp] theorem eraseVolume_dict (s : State) : s.eraseVolume.dict = s.dict := by
  simp [State.eraseVolume, State.hostKeys]

@[simp] theorem nvEvent_dict (s : State) (i p : Nat) : (s.nvEvent i p).dict = s.dict := by
  unfold State.nvEvent
  split
  · rfl
  · dsimp only
    split <;> rfl

@[simp] theorem hostVolume_dict (s : State) (e : Bool) : (s.hostVolume e).dict = s.dict := by
  cases e <;> (simp only [State.hostVolume]; split) <;> simp

@[simp] theorem archiveApplied_dict (s : State) (ch : Tbl Bytes) : (s.archiveApplied ch).dict = s.dict := by
  simp only [State.archiveApplied]
  split <;> split <;> simp

end Archive

section Billing

@[simp] theorem openNow_dict (s : State) (f : U16) : (s.openNow f).dict = s.dict := rfl
@[simp] theorem noteChanged_dict (s : State) (h : Nat) : (s.noteChanged h).dict = s.dict := rfl
@[simp] theorem markApplied_dict (s : State) (h : Nat) (q : U64) : (s.markApplied h q).dict = s.dict := rfl
@[simp] theorem reflag_dict (s : State) (h : Nat) (ks : List Nat) : (s.reflag h ks).dict = s.dict := rfl

@[simp] theorem finalise_dict (s : State) (h : Nat) (ok : Hist → Bool) (f : U16) : (s.finalise h ok f).dict = s.dict := by
  simp [State.finalise, foldl_dict]

@[simp] theorem enterSpan_dict (s : State) (h : Nat) (sp : Span) (g : Int) : (s.enterSpan h sp g).dict = s.dict := by
  unfold State.enterSpan
  split
  · refine foldl_dict (fun t x => ?_) _ _
    dsimp only
    split <;> simp
  · simp

@[simp] theorem layDown_dict (s : State) (h : Nat) (sp : Span) : (s.layDown h sp).dict = s.dict := by
  simp only [State.layDown]
  split <;> simp

@[simp] theorem demandAt_dict (s : State) (h k : Nat) (i : Ival) : (s.demandAt h k i).dict = s.dict := by
  simp only [State.demandAt]
  split
  · rfl
  · split <;> simp

@[simp] theorem demandTo_dict (s : State) (h : Nat) (u : Int) : (s.demandTo h u).dict = s.dict := by
  simp [State.demandTo, foldl_dict]

@[simp] theorem applyForward_dict (s : State) (h : Nat) (a b i e : Int) (c : Bool) :
    (s.applyForward h a b i e c).dict = s.dict := by
  simp [State.applyForward]

@[simp] theorem applyEarlier_dict (s : State) (h : Nat) (a i e : Int) (c : Bool) : (s.applyEarlier h a i e c).dict = s.dict := by
  simp only [State.applyEarlier]
  split <;> simp

@[simp] theorem applyRegs_dict (s : State) (h : Nat) (a i e : Int) (c : Bool) : (s.applyRegs h a i e c).dict = s.dict := by
  simp only [State.applyRegs]
  split
  · simp
  · split
    · rfl
    · split <;> simp

@[simp] theorem applyRead_dict (s : State) (e : JEntry) (k : ReadKind) (g : Regs) : (s.applyRead e k g).dict = s.dict := by
  simp only [State.applyRead, noteChanged_dict, applyRegs_dict, State.usePage_dict]
  split <;> split <;> simp

@[simp] theorem applyReading_dict (s : State) (h : Nat) (q : U64) (k : ReadKind) (g : Regs) :
    (s.applyReading h q k g).dict = s.dict := by
  simp only [State.applyReading]
  split
  · rfl
  · split
    · rfl
    · split
      · simp
      · split <;> simp

@[simp] theorem followRates_dict (s : State) : s.followRates.dict = s.dict := by
  refine foldl_dict (fun t k => ?_) _ _
  dsimp only
  split <;> simp

@[simp] theorem offsetApplied_dict (s : State) (ch : Tbl Bytes) : (s.offsetApplied ch).dict = s.dict := by
  simp only [State.offsetApplied, followRates_dict]
  exact foldl_dict (fun _ _ => State.setMbill_dict _ _ _) _ _

end Billing

section Prepayment

@[simp] theorem mirrorLedger_dict (s : State) (h : Nat) : (s.mirrorLedger h).dict = s.dict := State.mirror_dict _ _ _ _

@[simp] theorem recordPrepay_dict (s : State) (h : Nat) : (s.recordPrepay h).dict = s.dict := archive_dict _ _ _ _ _ _

@[simp] theorem tell_dict (s : State) (h : Nat) (m : MeterMsg) : (s.tell h m).dict = s.dict := by
  simp only [State.tell]
  split
  · rfl
  · split <;> simp

@[simp] theorem tellCredit_dict (s : State) (h : Nat) : (s.tellCredit h).dict = s.dict := tell_dict _ _ _

@[simp] theorem autoEc_dict (s : State) (h : Nat) : (s.autoEc h).dict = s.dict := by
  simp only [State.autoEc]
  split <;> simp

@[simp] theorem enterCredit_dict (s : State) (h : Nat) (c : Credit) : (s.enterCredit h c).dict = s.dict := by
  cases c <;> simp [State.enterCredit]

@[simp] theorem evalCredit_dict (s : State) (h : Nat) : (s.evalCredit h).dict = s.dict := by
  simp only [State.evalCredit]
  split <;> simp

@[simp] theorem changeLedger_dict (s : State) (h : Nat) (f : Ledger → Ledger) : (s.changeLedger h f).dict = s.dict := by
  simp [State.changeLedger]

@[simp] theorem chargeDue_dict (s : State) (h : Nat) : (s.chargeDue h).dict = s.dict := by
  unfold State.chargeDue
  split
  · rfl
  · split <;> simp

@[simp] theorem showResults_dict (s : State) : s.showResults.dict = s.dict := by
  refine foldl_dict (fun t x => ?_) _ _
  split <;> simp

@[simp] theorem sendDisconnect_dict (s : State) (h : Nat) : (s.sendDisconnect h).dict = s.dict := by
  simp [State.sendDisconnect]

@[simp] theorem tryDisconnect_dict (s : State) (h : Nat) : (s.tryDisconnect h).dict = s.dict := by
  unfold State.tryDisconnect
  extract_lets l due
  split
  · split
    · simp
    · extract_lets s1
      rw [mirrorLedger_dict]
      split <;> simp [s1]
  · rfl

@[simp] theorem retest_dict (s : State) : s.retest.dict = s.dict := foldl_dict (fun _ _ => tryDisconnect_dict _ _) _ _

@[simp] theorem prepayApplied_dict (s : State) : s.prepayApplied.dict = s.dict := by
  simp only [State.prepayApplied, retest_dict]
  refine foldl_dict (fun t h => ?_) _ _
  rw [evalCredit_dict]
  split <;> simp

@[simp] theorem commandRelay_dict (s : State) (r : Nat) (t : Bool) : (s.commandRelay r t).dict = s.dict := by
  simp only [State.commandRelay]
  split
  · rfl
  · split
    · simp
    · split <;> simp

@[simp] theorem relaysFollow_dict (s : State) : s.relaysFollow.dict = s.dict := by
  refine foldl_dict (fun t r => ?_) _ _
  extract_lets g want
  split <;> simp

end Prepayment

section Measurement

@[simp] theorem flagFeeders_dict (s : State) (b : U16) : (s.flagFeeders b).dict = s.dict := by
  simp only [State.flagFeeders]
  rw [foldl_dict (fun _ _ => State.setFeeder_dict _ _ _), State.setWeir_dict]

@[simp] theorem weirApplied_dict (s : State) (ch : Tbl Bytes) : (s.weirApplied ch).dict = s.dict := by
  unfold State.weirApplied
  split <;> simp [State.weirCalApplied]

@[simp] theorem judgeMember_dict (s : State) (h : Nat) : (s.judgeMember h).dict = s.dict := by
  simp only [State.judgeMember]
  split <;> simp

@[simp] theorem touchSegment_dict (s : State) (g : Nat) (b : Bool) : (s.touchSegment g b).dict = s.dict := by
  unfold State.touchSegment
  split
  · simp [State.modelReset, State.initSegment]
  · split <;> simp [State.initSegment]

@[simp] theorem membersMoved_dict (s : State) (ch : Tbl Bytes) : (s.membersMoved ch).dict = s.dict :=
  foldl_dict (fun _ _ => State.setMember_dict _ _ _) _ _

@[simp] theorem segmentsApplied_dict (s : State) (ch : Tbl Bytes) : (s.segmentsApplied ch).dict = s.dict := by
  simp [State.segmentsApplied, foldl_dict]

end Measurement

section Ports

@[simp] theorem startRekey_dict (s : State) (p : Nat) (ch : Tbl Bytes) : (s.startRekey p ch).dict = s.dict := by
  simp only [State.startRekey]
  split
  · rfl
  · split <;> simp

@[simp] theorem radioApplied_dict (s : State) (p : Nat) : (s.radioApplied p).dict = s.dict := by
  unfold State.radioApplied
  split
  · rfl
  · split <;> simp

@[simp] theorem timeApplied_dict (s : State) (ch : Tbl Bytes) : (s.timeApplied ch).dict = s.dict := by
  unfold State.timeApplied
  split <;> rfl

end Ports

/-- What the block of a group other than 0x00 does at the switch leaves the dictionary (R54). -/
theorem applied_dict_of_ne {g : Nat} (hg : g ≠ 0) (s : State) (ch : Tbl Bytes) : (s.applied g ch).dict = s.dict := by
  simp only [State.applied, if_neg hg, apply_ite State.dict, startRekey_dict, radioApplied_dict, timeApplied_dict,
    showResults_dict, releaseDone_dict, journalMarks_dict, weirApplied_dict, segmentsApplied_dict, offsetApplied_dict,
    prepayApplied_dict, relaysFollow_dict, archiveApplied_dict, ite_self]

/-- What the block of a group does at the switch leaves the dictionary but for its sessions (R54, R55). -/
theorem applied_dict (s : State) (g : Nat) (ch : Tbl Bytes) :
    (s.applied g ch).dict = { s.dict with sessions := (s.applied g ch).dict.sessions } := by
  by_cases hg : g = 0
  · subst hg
    rfl
  · rw [applied_dict_of_ne hg]

end Sys2Proof.Machine.Dictionary

/-! SUPPORT. Stored values, pending and committed sets, and the records of the consistency groups (R51 to R58): what a write, a
commit and a switch leave in each table. -/

namespace Sys2Proof.Machine.Dictionary

section Tables

variable {α : Type}

/-- A key that no entry has is not found. -/
theorem tblFind?_eq_none {t : Tbl α} {k : Nat} (h : ∀ p ∈ t, p.1 ≠ k) : tblFind? t k = none := by
  induction t with
  | nil => rfl
  | cons p t ih =>
    rw [List.forall_mem_cons] at h
    simp [tblFind?, h.1, ih h.2]

/-- Entries put one after another leave the entry of a key that is not among theirs. -/
theorem tblFind?_foldl_put_of_notMem {l : List (Nat × α)} {k : Nat} (t : Tbl α) (h : k ∉ l.map (fun p => p.1)) :
    tblFind? (l.foldl (fun t p => tblPut t p.1 p.2) t) k = tblFind? t k := by
  induction l generalizing t with
  | nil => rfl
  | cons p l ih =>
    simp only [List.map_cons, List.mem_cons, not_or] at h
    rw [List.foldl_cons, ih _ h.2, tblFind?_put_ne t p.2 h.1]

/-- Of entries put one after another under different keys each is found. -/
theorem tblFind?_foldl_put_of_mem {l : List (Nat × α)} (t : Tbl α) (hn : (l.map (fun p => p.1)).Nodup) :
    ∀ p ∈ l, tblFind? (l.foldl (fun t p => tblPut t p.1 p.2) t) p.1 = some p.2 := by
  induction l generalizing t with
  | nil => simp
  | cons q l ih =>
    rw [List.map_cons, List.nodup_cons] at hn
    rw [List.forall_mem_cons, List.foldl_cons]
    exact ⟨by rw [tblFind?_foldl_put_of_notMem _ hn.1, tblFind?_put_same], ih _ hn.2⟩

@[simp] theorem groupEntries_groupOthers (g : Nat) (t : Tbl Bytes) : groupEntries g (groupOthers g t) = [] := by
  simp [groupEntries, groupOthers, List.filter_filter]

@[simp] theorem groupOthers_groupOthers (g : Nat) (t : Tbl Bytes) : groupOthers g (groupOthers g t) = groupOthers g t := by
  simp [groupOthers, List.filter_filter]

end Tables

section StoreKey

/-- The object of a key, where the item is one that 64 bits hold. -/
theorem storeKey_div {i : Nat} (h : i < 2 ^ 64) (n : Nat) : storeKey n i / 2 ^ 64 = n := by
  unfold storeKey
  omega

/-- The item of a key, where it is one that 64 bits hold. -/
theorem storeKey_mod {i : Nat} (h : i < 2 ^ 64) (n : Nat) : storeKey n i % 2 ^ 64 = i := by
  unfold storeKey
  omega

end StoreKey

section Storing

variable (s : State) (n i : Nat) (v : Bytes)

/-- A write to an item leaves the item's own default. -/
theorem storeVal_dflt_same : (s.storeVal n i v).dflt n i = s.dflt n i := by
  unfold State.dflt
  by_cases hn : n = 0xC05002
  · have hk : storeKey 0xC02201 i ≠ storeKey n i := by
      unfold storeKey
      omega
    have hv : tblFind? (s.storeVal n i v).dict.vals (storeKey 0xC02201 i) = tblFind? s.dict.vals (storeKey 0xC02201 i) := by
      simp only [State.storeVal]
      split
      · exact tblFind?_del_ne _ hk
      · exact tblFind?_put_ne _ _ hk
    simp [hv]
  · simp [hn]

/-- The value just stored is the one the item holds (R51). -/
theorem storeVal_stored_same : (s.storeVal n i v).stored n i = v := by
  unfold State.stored
  rw [storeVal_dflt_same]
  simp only [State.storeVal]
  split
  · next h => simp [h]
  · simp

/-- A write keeps everything but the stored values and the counter of writes during a trial (R355). -/
theorem storeVal_frame : s.storeVal n i v = { s with
    dict := { s.dict with vals := (s.storeVal n i v).dict.vals }
    upd := { s.upd with trialWrites := (s.storeVal n i v).upd.trialWrites } } := by
  by_cases h : (tblFind? s.upd.oldBank (storeKey n i)).isSome = true <;> simp [State.storeVal, h]

@[simp] theorem storeVal_shadow : (s.storeVal n i v).dict.shadow = s.dict.shadow := rfl
@[simp] theorem storeVal_groups : (s.storeVal n i v).dict.groups = s.dict.groups := rfl

@[simp] theorem storeActing_groups (k : Nat) : (s.storeActing k v).dict.groups = s.dict.groups := by
  simp only [State.storeActing, storeVal_groups]
  split <;> rfl

/-- A value stored while the one before is acted on is readable at once (R58). -/
theorem storeActing_stored (hi : i < 2 ^ 64) : (s.storeActing (storeKey n i) v).stored n i = v := by
  simp only [State.storeActing, storeKey_div hi, storeKey_mod hi]
  exact storeVal_stored_same _ _ _ _

/-- The block still acts on the value it acted on (R58). -/
theorem storeActing_cfgBytes (hi : i < 2 ^ 64) :
    (s.storeActing (storeKey n i) v).cfgBytes n i = s.cfgBytes n i := by
  unfold State.cfgBytes
  simp only [State.storeActing, storeKey_div hi, storeKey_mod hi, storeVal_shadow]
  cases hs : tblFind? s.dict.shadow (storeKey n i) with
  | none => simp
  | some x => simp [hs]

/-- Storing while the value before is acted on keeps everything but the stored values, the stand-ins and the counter of writes
during a trial. -/
theorem storeActing_frame (k : Nat) : s.storeActing k v = { s with
    dict := { s.dict with vals := (s.storeActing k v).dict.vals, shadow := (s.storeActing k v).dict.shadow }
    upd := { s.upd with trialWrites := (s.storeActing k v).upd.trialWrites } } := by
  simp only [State.storeActing]
  split <;> exact storeVal_frame _ _ _ _

end Storing

section Groups

variable (s : State) (g : Nat)

@[simp] theorem setGroup_group_same (f : Group → Group) : (s.setGroup g f).group g = f (s.group g) :=
  tblGet_upd_same _ _ _ _

/-- Equal tables of group records give equal records. -/
theorem group_congr {s t : State} (h : t.dict.groups = s.dict.groups) (g : Nat) : t.group g = s.group g := by
  rw [State.group, h, State.group]

@[simp] theorem dropStandIns_group (j : Nat) : (s.dropStandIns g).group j = s.group j := rfl

@[simp] theorem applied_group (ch : Tbl Bytes) (j : Nat) : (s.applied g ch).group j = s.group j :=
  group_congr (by rw [applied_dict]) j

@[simp] theorem applied_shadow (ch : Tbl Bytes) : (s.applied g ch).dict.shadow = s.dict.shadow := by
  rw [applied_dict]

/-- Storing a committed set leaves the records of the groups. -/
@[simp] theorem storeCommitted_group (j : Nat) : (s.storeCommitted g).group j = s.group j := by
  refine group_congr (?_ : (List.foldl _ s _).dict.groups = _) j
  generalize groupEntries g s.dict.committed = l
  induction l generalizing s with
  | nil => rfl
  | cons p l ih => rw [List.foldl_cons, ih, storeActing_groups]

/-- Once a committed set is stored, none of the group waits (R54). -/
@[simp] theorem storeCommitted_committed : groupEntries g (s.storeCommitted g).dict.committed = [] :=
  groupEntries_groupOthers _ _

/-- After a switch the group is IDLE, stamped, counted, and without a mismatch (R54, R57, R58). -/
theorem switchGroup_group : (s.switchGroup g).group g = { s.group g with
    st := .idle
    lastApplied := ((s.dropStandIns g).applied g (s.changes g)).time.net
    applyCount := (s.group g).applyCount + 1
    mismatchSince := 0
    mismatchRaised := false } := by
  simp [State.switchGroup, State.groupSettled]

/-- After a switch of its group an object has no stand-in: its block acts on the stored value (R54, R58). Tariff tables may be
scheduled ahead (R279). -/
theorem switchGroup_cfgBytes {n i : Nat} (hn : groupOf n = some g) (ht : isTariffObj n = false) (hi : i < 2 ^ 64) :
    (s.switchGroup g).cfgBytes n i = (s.switchGroup g).stored n i := by
  have hs : (s.switchGroup g).dict.shadow = (s.dropStandIns g).dict.shadow := by
    simp [State.switchGroup, State.groupSettled, State.setGroup]
  have hf : tblFind? (s.switchGroup g).dict.shadow (storeKey n i) = none := by
    rw [hs]
    refine tblFind?_eq_none fun p hp hk => ?_
    have hd : p.1 / 2 ^ 64 = n := by rw [hk, storeKey_div hi]
    have hv : s.versionAhead p = false := by
      unfold State.versionAhead
      rw [hd, ht]
      rfl
    have hkept : (groupOf (p.1 / 2 ^ 64) != some g || s.versionAhead p) = true := (List.mem_filter.1 hp).2
    simp only [hd, hn, hv, bne_self_eq_false, Bool.or_self, Bool.false_eq_true] at hkept
  simp [State.cfgBytes, hf]

end Groups

section Writes

variable {s t : State} {r : Req} {num : Nat} {v : Bytes} {o : ObjRow}

/-- An object without a write command of its own is written by the service's own rule. -/
theorem putNative_eq_write (h : hasOwnWrite num = false) : s.putNative r num v = s.write r num v := by
  simp only [hasOwnWrite, Bool.or_eq_false_iff, Bool.and_eq_false_iff, decide_eq_false_iff_not, List.contains_eq_mem,
    List.mem_cons, List.not_mem_nil, or_false, not_or] at h
  obtain ⟨⟨⟨h1, h2, h3, h4, h5⟩, h6⟩, h7⟩ := h
  have h6' : ¬(0xA04001 ≤ num ∧ num ≤ 0xA04020) := fun hc => h6.elim (· hc.1) (· hc.2)
  have h7' : ¬(0x200201 ≤ num ∧ num ≤ 0x200204) := fun hc => h7.elim (· hc.1) (· hc.2)
  unfold State.putNative
  rw [if_neg h1, if_neg h2, if_neg h6', if_neg h3, if_neg h4, if_neg h7', if_neg h5]

/-- In native personality a write goes to the object itself. -/
theorem put_native (h : s.pwr.ocb = false) : s.put r num v = s.putNative r num v := by
  simp [State.put, h]

/-- A write that nothing refuses, and that its object takes, is answered with success. -/
theorem write_ok (h : s.writes r num v o) (hown : s.ownRule num (s.itemOf r o) (o.stored v) = none)
    (hc : s.writeChecked r num (s.itemOf r o) o (reservedZero num (o.stored v)) = .ok t) :
    s.write r num v = t.respond r (.ok []) := by
  obtain ⟨h1, h2, h3⟩ := h
  simp [State.write, h1, h2, h3, hown, hc]

end Writes

end Sys2Proof.Machine.Dictionary

/-! PROOFS. Writes to objects: at once, staged, and in OCB personality (R51, R52, R58). -/

namespace Sys2Proof.Machine.Dictionary

section Writes

variable {s : State} {r : Req} {k : ObjKey} {v : Bytes} {o : ObjRow}

/-- The index of an object's number. -/
theorem num_div (k : ObjKey) : ObjKey.num k / 256 = k.index.toNat := by
  have := k.sub.isLt
  unfold ObjKey.num
  omega

/-- A value that takes effect at once is stored under its item (R51). -/
theorem writeChecked_rw {num i : Nat} {w : Bytes} (hacc : o.acc = .rw) (hinst : o.inst ≠ .session)
    (hsess : isSessionObj num o = false) (heff : o.eff.later = false) (hst : o.eff = .volatile ∨ r.storeOk = true)
    (hi : s.itemOf r o = i) : s.writeChecked r num i o w = .ok (s.storeVal num i w) := by
  have hns : ¬(o.eff ≠ .volatile ∧ r.storeOk = false) := by
    rcases hst with h | h <;> simp [h]
  simp [State.writeChecked, State.storeObj, hacc, hinst, hsess, heff, hns, hi]

/-- A request of the device's own firmware is not answered (R60). -/
theorem respond_internal (h : r.sess.tr = .internal) (a : Answer) : s.respond r a = s := by
  simp [State.respond, h]

end Writes

section SharedItem

/-- A session whose campaign selector holds a number of more than 64 bits, so that item `sharedItem` of 0xA081:08 is kept under
the key of item 0 of 0xC022:01, the port that the default of 0xC050:02 looks at. -/
def sharedItem : Nat := (0xC02201 - 0xA08108) * 2 ^ 64

/-- The dictionary available, that selector written, and the campaign it names a draft. -/
def sharedItemState : State :=
  { dict := { available := true
              sessions := [(sessNum ⟨.internal, 0⟩, { vals := [(0xA08001, leBytes 11 sharedItem)] })] }
    upd := { camps := [(sharedItem, { st := 1 })] } }

/-- A request of the device's own firmware. -/
def sharedItemReq : Req := { sess := ⟨.internal, 0⟩ }

/-- The row of 0xA081:08. -/
def sharedItemRow : ObjRow :=
  ⟨0xA081, 8, 8, 1, 1, .u 1, .rw, .utility, 25, .rng (1) (50), .immediate, 255, 0, .sel 0xA08001⟩

theorem sharedItem_itemOf : sharedItemState.itemOf sharedItemReq sharedItemRow = sharedItem := by decide +kernel

theorem sharedItem_writes : sharedItemState.writes sharedItemReq 0xA08108 [5] sharedItemRow := by
  have hrow : rowOf 0xA08108 = some sharedItemRow := by decide +kernel
  have hix : indexListed 0xA081 = true := by decide +kernel
  refine ⟨?_, rfl, by decide⟩
  simp [State.locate, sharedItemState, sharedItemReq, State.sessionFull, State.reaches, hix, hrow]

end SharedItem

/-- Refutes O1: a selector value of more than 64 bits makes an item of 0xA081:08 share its key with the port of meter 0, and
the write then changes the default that 0xC050:02 of that meter shows. -/
theorem not_plainWritesAreStoredAndReadBack : ¬ Obligations.PlainWritesAreStoredAndReadBack := by
  intro h
  obtain ⟨t, hexec, -, hothers, -⟩ := h sharedItemState sharedItemReq ⟨0xA081, 8⟩ [5] sharedItemRow rfl (by decide)
    sharedItem_writes rfl (by decide) (by decide) rfl (by decide +kernel) (.inr rfl)
  have hstored : sharedItemState.put sharedItemReq 0xA08108 [5] = sharedItemState.storeVal 0xA08108 sharedItem [5] := by
    rw [put_native rfl, putNative_eq_write (by decide), write_ok sharedItem_writes (by decide +kernel)
      (writeChecked_rw rfl (by decide) (by decide) rfl (.inr rfl) rfl), sharedItem_itemOf, respond_internal rfl]
    rfl
  have ht : sharedItemState.storeVal 0xA08108 sharedItem [5] = t := by
    rw [← hstored, ← respond_internal (s := t) (r := sharedItemReq) rfl (.ok [])]
    exact Host.Outcome.next.inj hexec
  have hbefore : sharedItemState.stored 0xC05002 0 = [0] := by decide +kernel
  have hafter : (sharedItemState.storeVal 0xA08108 sharedItem [5]).stored 0xC05002 0 = [1] := by decide +kernel
  have hsame := hothers 0xC05002 0 (by decide +kernel)
  rw [← ht, hbefore, hafter] at hsame
  exact absurd hsame (by decide)

section Staging

variable (s : State) (num i : Nat) (w : Bytes) (g : Nat)

/-- The state after a value has been staged (R52). -/
def staged : State :=
  ({ s with dict := { s.dict with pend := tblPut s.dict.pend (storeKey num i) w } } : State).setGroup g
    (fun x => { x with st := .pending })

variable {s num g}

/-- Staging is refused in an APPLYING group alone (R52, R54). -/
theorem stage_ok (hg : groupOf num = some g) (hst : (s.group g).st ≠ .applying) :
    s.stage num i w = .ok (staged s num i w g) := by
  simp [State.stage, hg, hst, staged]

theorem staged_group : ((staged s num i w g).group g).st = .pending := by
  simp [staged]

end Staging

/-- Settles O2: the value goes to the table of pending values, which no value in force is read from. -/
theorem stagedWritesWaitForTheirCommit : Obligations.StagedWritesWaitForTheirCommit := by
  intro s r k v o g hocb hown hw hrow hacc hg hst hrule
  refine ⟨staged s (ObjKey.num k) (s.itemOf r o) (reservedZero (ObjKey.num k) (o.stored v)) g, ?_, tblFind?_put_same _ _ _,
    fun j hj => tblFind?_put_ne _ _ hj, staged_group _ _, fun _ _ => rfl, rfl⟩
  have hc : s.writeChecked r (ObjKey.num k) (s.itemOf r o) o (reservedZero (ObjKey.num k) (o.stored v)) =
      .ok (staged s (ObjKey.num k) (s.itemOf r o) (reservedZero (ObjKey.num k) (o.stored v)) g) := by
    rw [State.writeChecked, if_pos ⟨hacc, hocb⟩, stage_ok _ _ hg hst]
  have hput : s.put r (ObjKey.num k) v = (staged s (ObjKey.num k) (s.itemOf r o)
      (reservedZero (ObjKey.num k) (o.stored v)) g).respond r (.ok []) := by
    rw [put_native hocb, putNative_eq_write hown, write_ok hw hrule hc]
  rw [← hput]
  show execStagedWrite r k v s = _
  simp [execStagedWrite, hocb, hrow, hacc]

section OcbPersonality

variable {s : State} {r : Req} {k : ObjKey} {v : Bytes} {o : ObjRow}

/-- An index outside the OCB view has no target of the view (R446). -/
theorem ocbTarget_eq_none (h : ocbIndex k.index.toNat = none) : ocbTarget (ObjKey.num k) = none := by
  have hd := num_div k
  unfold ocbIndex at h
  split at h
  · cases h
  · next hix =>
    simp only [List.lookup_eq_none_iff, List.forall_mem_cons, List.not_mem_nil, false_imp_iff, implies_true, and_true,
      bne_iff_ne] at h
    obtain ⟨h1, h2, h3, h4, h5, h6⟩ := h
    simp only [ocbTarget, hd, if_neg hix, if_neg h3, List.lookup_eq_none_iff, List.forall_mem_cons, List.not_mem_nil,
      false_imp_iff, implies_true, and_true, bne_iff_ne]
    omega

/-- A native object is written as itself in OCB personality too (R446). -/
theorem put_of_ocbIndex_none (h : ocbIndex k.index.toNat = none) : s.put r (ObjKey.num k) v = s.putNative r (ObjKey.num k) v := by
  simp [State.put, num_div, h]

/-- In OCB personality a grouped value is stored at once, with the one before standing in for it (R58). -/
theorem writeChecked_ocb {num i : Nat} {w : Bytes} (hacc : o.acc = .rws) (hocb : s.pwr.ocb = true) (hst : r.storeOk = true) :
    s.writeChecked r num i o w = .ok (s.storeActing (storeKey num i) w) := by
  simp [State.writeChecked, hacc, hocb, hst, State.writeAtOnce]

/-- A consistent group on whose values the block acts anew has switched (R58). -/
theorem checkGroup_ok {g : Nat} (h : s.changes g ≠ [] ∨ (s.group g).st = .mismatch) (hok : s.groupOk g = true) :
    s.checkGroup g = (s.mirror .configuration g (committedBytes
      ((s.changes g).map (fun p => (p.1, s.stored (p.1 / 2 ^ 64) (p.1 % 2 ^ 64)))))).switchGroup g := by
  have hne : ¬(s.changes g = [] ∧ (s.group g).st ≠ .mismatch) :=
    fun hc => h.elim (· hc.1) hc.2
  rw [State.checkGroup, if_neg hne, if_pos hok]

/-- An inconsistent group on whose values the block acts anew opens an episode (R58). -/
theorem checkGroup_opens {g : Nat} (h : s.changes g ≠ []) (hst : (s.group g).st ≠ .mismatch) (hok : s.groupOk g = false) :
    s.checkGroup g = s.setGroup g (fun x => { x with st := .mismatch, mismatchSince := s.time.net }) := by
  simp [State.checkGroup, h, hst, hok]

/-- In OCB personality the command is the check of the group (R58). -/
theorem exec_groupSafePointApply_ocb {g : Fin 39} (hocb : s.pwr.ocb = true) (hst : (s.group g.val).st ≠ .applying)
    (hsafe : s.atSafePoint g.val = true) : exec (.groupSafePointApply g) s = .next (s.checkGroup g.val) := by
  show execGroupSafePointApply g s = _
  simp [execGroupSafePointApply, hocb, hst, hsafe]

end OcbPersonality

/-- Settles O3: the write stores beside a stand-in of the value before, and the check of the group drops the stand-ins. -/
theorem ocbWritesStoreAtOnceAndCheckTheirGroup : Obligations.OcbWritesStoreAtOnceAndCheckTheirGroup := by
  refine ⟨fun s r k v o g hocb hix hown hw hacc hst hg hrule hi => ?_, fun s g hocb hst hsafe => ?_⟩
  · refine ⟨s.storeActing (storeKey (ObjKey.num k) (s.itemOf r o)) (reservedZero (ObjKey.num k) (o.stored v)), ?_,
      storeActing_stored _ _ _ _ hi, storeActing_cfgBytes _ _ _ _ hi, storeActing_frame _ _ _⟩
    rw [← write_ok hw hrule (writeChecked_ocb hacc hocb hst), ← putNative_eq_write hown, ← put_of_ocbIndex_none hix]
    show execOcbImmediateWrite r k v s = _
    simp [execOcbImmediateWrite, ocbTarget_eq_none hix, hocb, hg]
  · rw [exec_groupSafePointApply_ocb hocb hst hsafe]
    refine ⟨fun h1 h2 => by rw [checkGroup_same h1 h2], fun h1 h2 h3 => by rw [checkGroup_opens h1 h2 h3],
      fun h1 h2 => by rw [checkGroup_still h2 h1], fun h1 h2 => ?_⟩
    rw [checkGroup_ok h1 h2]
    refine ⟨_, rfl, ?_, ?_, ?_, fun n i hn ht hi => switchGroup_cfgBytes _ _ hn ht hi⟩ <;> rw [switchGroup_group]
    exact congrArg (fun x : Group => x.applyCount + 1) (group_congr (by rw [State.mirror_dict]) _)

end Sys2Proof.Machine.Dictionary

/-! PROOFS. Commit, discard, the safe point, the mismatch timer and the restore of defaults (R51 to R58). -/

namespace Sys2Proof.Machine.Dictionary

section Commands

variable {s : State} {r : Req} {g : Fin 39} {arg : Bytes} {o : ObjRow}

/-- The count of a commit fits the pending set. -/
def countFits (s : State) (g : Nat) (arg : Bytes) : Prop :=
  leNat arg = 0 ∨ leNat arg = (groupEntries g s.dict.pend).length

theorem countFits.not_refused (h : countFits s g arg) :
    ¬(leNat arg ≠ 0 ∧ leNat arg ≠ (groupEntries g s.dict.pend).length) :=
  fun hc => h.elim hc.1 hc.2

/-- A commit is refused while its group is APPLYING (R54). -/
theorem commit_applying (h : s.starts r ((0x1F00 + g.val) * 256 + 3) arg o) (hst : (s.group g.val).st = .applying) :
    exec (.commit r g arg) s = .next (s.respond r (.abort .groupBusy)) :=
  congrArg Host.Outcome.next (command_refused h (by simp [commitBody, hst]))

section NotApplying

variable (h : s.starts r ((0x1F00 + g.val) * 256 + 3) arg o) (hst : (s.group g.val).st ≠ .applying)
  (hn : countFits s g.val arg)
include h hst hn

/-- A commit with nothing pending succeeds without effect (R54). -/
theorem commit_empty (he : groupEntries g.val s.dict.pend = []) :
    exec (.commit r g arg) s = .next (s.succeeds r ((0x1F00 + g.val) * 256 + 3) (s.itemOf r o)) := by
  refine congrArg Host.Outcome.next (command_done h ?_)
  simp only [commitBody, if_neg hst, if_neg hn.not_refused, if_pos he]

/-- A commit of an inconsistent set fails (R54). -/
theorem commit_inconsistent (he : groupEntries g.val s.dict.pend ≠ []) (hok : s.groupOk g.val = false) :
    exec (.commit r g arg) s = .next (s.fails r ((0x1F00 + g.val) * 256 + 3) (s.itemOf r o) .groupInconsistent) := by
  refine congrArg Host.Outcome.next (command_failed h ?_)
  simp [commitBody, if_neg hst, if_neg hn.not_refused, if_neg he, hok]

/-- A commit of a consistent set that the MRAM takes moves the set, and is mirrored (R54, R380). -/
theorem commit_ok (he : groupEntries g.val s.dict.pend ≠ []) (hok : s.groupOk g.val = true) (hs : r.storeOk = true) :
    exec (.commit r g arg) s = .next (((s.commitSet g.val (groupEntries g.val s.dict.pend)).mirror .configuration g.val
      (committedBytes (groupEntries g.val s.dict.pend))).succeeds r ((0x1F00 + g.val) * 256 + 3) (s.itemOf r o)) := by
  refine congrArg Host.Outcome.next (command_done h ?_)
  simp [commitBody, if_neg hst, if_neg hn.not_refused, if_neg he, hok, hs]

end NotApplying

/-- The state after the pending values of a group have been dropped (R57). -/
def discarded (s : State) (g : Nat) : State :=
  ({ s with dict := { s.dict with pend := groupOthers g s.dict.pend } } : State).setGroup g
    (fun x => if x.st = GroupSt.pending then { x with st := .idle } else x)

/-- A discard outside APPLYING drops the group's pending values (R57). -/
theorem discard_ok (h : s.starts r ((0x1F00 + g.val) * 256 + 4) arg o) (ha : leNat arg = 0) (hst : (s.group g.val).st ≠ .applying) :
    exec (.discard r g arg) s =
      .next ((discarded s g.val).succeeds r ((0x1F00 + g.val) * 256 + 4) (s.itemOf r o)) := by
  refine congrArg Host.Outcome.next (command_done h ?_)
  simp only [discardBody, ha, ne_eq, not_true_eq_false, if_false, if_neg hst, discarded]

theorem discarded_group (s : State) (g : Nat) :
    (discarded s g).group g = if (s.group g).st = .pending then { s.group g with st := .idle } else s.group g := by
  exact setGroup_group_same _ _ _

/-- The safe point of an APPLYING group that cannot switch yet (R55). -/
theorem safePoint_waits (hst : (s.group g.val).st = .applying) (hs : s.atSafePoint g.val = false) :
    exec (.groupSafePointApply g) s = .next s := by
  show execGroupSafePointApply g s = _
  simp [execGroupSafePointApply, hst, hs]

/-- At its safe point an APPLYING group stores its committed set and switches (R54). -/
theorem safePoint_switches (hst : (s.group g.val).st = .applying) (hs : s.atSafePoint g.val = true) :
    exec (.groupSafePointApply g) s = .next ((s.storeCommitted g.val).switchGroup g.val) := by
  show execGroupSafePointApply g s = _
  simp [execGroupSafePointApply, hst, hs]

/-- An episode is raised once, after 500 ms of a set still inconsistent (R58). -/
theorem mismatch_raised (hst : (s.group g.val).st = .mismatch) (hr : (s.group g.val).mismatchRaised = false)
    (ht : (s.group g.val).mismatchSince + 500000000 ≤ s.time.net) (hok : s.groupOk g.val = false) :
    exec (.cfgMismatchTimeout g) s =
      .next ((s.setGroup g.val (fun x => { x with mismatchRaised := true })).raise 0x002 g.val) := by
  show execCfgMismatchTimeout g s = _
  simp [execCfgMismatchTimeout, hst, hr, ht, hok]

/-- Before its time, again, or of a set that is consistent by then, nothing is raised (R58). -/
theorem mismatch_silent (h : (s.group g.val).st ≠ .mismatch ∨ (s.group g.val).mismatchRaised = true ∨
    s.time.net < (s.group g.val).mismatchSince + 500000000 ∨ s.groupOk g.val = true) :
    exec (.cfgMismatchTimeout g) s = .next s := by
  have hn : ¬((s.group g.val).st = .mismatch ∧ (s.group g.val).mismatchRaised = false ∧
      (s.group g.val).mismatchSince + 500000000 ≤ s.time.net ∧ s.groupOk g.val = false) := by
    rintro ⟨h1, h2, h3, h4⟩
    rcases h with h | h | h | h
    · exact h h1
    · simp [h2] at h
    · omega
    · simp [h4] at h
  exact congrArg Host.Outcome.next (if_neg hn)

/-- The restore of defaults is asked for under its key (R51). -/
theorem restoreDefaults_ok (h : s.starts r 0x101101 arg o) (ha : leNat arg = 0x64616F6C) :
    exec (.restoreDefaults r arg) s =
      .next (({ s with dict := { s.dict with restore := true } } : State).succeeds r 0x101101 (s.itemOf r o)) :=
  congrArg Host.Outcome.next (command_done h (by simp [ha]))

theorem restoreDefaults_refused (h : s.starts r 0x101101 arg o) (ha : leNat arg ≠ 0x64616F6C) :
    exec (.restoreDefaults r arg) s = .next (s.respond r (.abort .valueInvalid)) :=
  congrArg Host.Outcome.next (command_refused h (by simp [ha]))

end Commands

section Completion

variable (s : State) (r : Req) (num i : Nat)

theorem mirror_group (kind : MirrorKind) (key : Nat) (b : Bytes) (g : Nat) : (s.mirror kind key b).group g = s.group g :=
  group_congr (by rw [State.mirror_dict]) g

theorem raise_group (code : Nat) (m : Int) (g : Nat) : (s.raise code m).group g = s.group g :=
  group_congr (by rw [State.raise_dict]) g

/-- Completing a command leaves the dictionary but for the command's status (R484). -/
theorem succeeds_dict : (s.succeeds r num i).dict = { s.dict with cmd := (s.succeeds r num i).dict.cmd } := by
  simp [State.succeeds, State.setCmd]

theorem succeeds_group (g : Nat) : (s.succeeds r num i).group g = s.group g :=
  group_congr (by rw [succeeds_dict]) g

theorem succeeds_pend : (s.succeeds r num i).dict.pend = s.dict.pend := by rw [succeeds_dict]

theorem commitSet_group (g : Nat) (set : Tbl Bytes) : ((s.commitSet g set).group g).st = .applying := by
  simp [State.commitSet]

theorem commitSet_pend (g : Nat) (set : Tbl Bytes) : groupEntries g (s.commitSet g set).dict.pend = [] :=
  groupEntries_groupOthers _ _

end Completion

/-- Settles O4: each command by the branch of its body that the hypotheses choose. -/
theorem commitsApplyAtTheSafePointAndDiscardsForget : Obligations.CommitsApplyAtTheSafePointAndDiscardsForget := by
  refine ⟨fun s r g arg o h => ⟨commit_applying h, fun hst hn => ⟨commit_empty h hst hn, commit_inconsistent h hst hn,
    fun he hok hs => ⟨commit_ok h hst hn he hok hs, commitSet_group _ _ _, commitSet_pend _ _ _,
      tblFind?_foldl_put_of_mem _⟩⟩⟩, fun s r g arg o h ha hst => ?_, fun s g hst => ⟨safePoint_waits hst, fun hs => ?_⟩,
    fun s g => ⟨mismatch_silent, mismatch_raised⟩, fun s r arg o h => ⟨restoreDefaults_refused h, restoreDefaults_ok h⟩⟩
  · refine ⟨discarded s g.val, discard_ok h ha hst, groupEntries_groupOthers _ _, groupOthers_groupOthers _ _, fun hp => ?_, rfl⟩
    rw [discarded_group, if_pos hp]
  · have hg := switchGroup_group (s.storeCommitted g.val) g.val
    rw [storeCommitted_group] at hg
    exact ⟨_, _, safePoint_switches hst hs, rfl, rfl, storeCommitted_committed _ _, congrArg Group.st hg,
      congrArg Group.lastApplied hg, congrArg Group.applyCount hg, congrArg Group.mismatchSince hg⟩

/-- Settles O58: what each of the five commands leaves, from the states O4 gives. -/
theorem groupCommandsComplete : Obligations.GroupCommandsComplete := by
  refine ⟨fun s r g arg o h hst hn he hok hs => ⟨_, commit_ok h hst hn he hok hs, ?_, ?_⟩,
    fun s r g arg o h ha hst => ⟨_, discard_ok h ha hst, ?_, ?_⟩, fun s g hst hs => ⟨_, safePoint_switches hst hs, ?_, ?_⟩,
    fun s r arg o h ha => ⟨_, restoreDefaults_ok h ha, ?_⟩,
    fun s g hst hr ht hok => ⟨_, mismatch_raised hst hr ht hok, ?_⟩⟩
  · rw [succeeds_group, mirror_group, commitSet_group]
  · rw [succeeds_pend, State.mirror_dict, commitSet_pend]
  · rw [succeeds_pend]
    exact groupEntries_groupOthers _ _
  · rw [succeeds_group, discarded_group]
    split <;> simp_all
  · rw [switchGroup_group]
  · rw [switchGroup_group, storeCommitted_group]
  · rw [succeeds_dict]
  · rw [raise_group, setGroup_group_same]

end Sys2Proof.Machine.Dictionary

/-! PROOFS. Challenges, responses, lockouts and roles of sessions (R48, R129). -/

namespace Sys2Proof.Machine.Dictionary

section SessionRecords

@[simp] theorem setSess_sess_same (s : State) (i : SessId) (f : Session → Session) : (s.setSess i f).sess i = f (s.sess i) :=
  tblGet_upd_same _ _ _ _

/-- Equal tables of sessions give equal sessions. -/
theorem sess_congr {s t : State} (h : t.dict.sessions = s.dict.sessions) (i : SessId) : t.sess i = s.sess i := by
  rw [State.sess, h, State.sess]

theorem succeeds_sess (s : State) (r : Req) (num inst : Nat) (i : SessId) : (s.succeeds r num inst).sess i = s.sess i :=
  sess_congr (by rw [succeeds_dict]) i

theorem draw_sess (s : State) (i : SessId) : s.draw.2.sess i = s.sess i := rfl

/-- A new challenge is the session's own, and nothing else of the session changes (R48). -/
@[simp] theorem redrawAuth_sess (s : State) (i : SessId) :
    (s.redrawAuth i).sess i = { s.sess i with challenge := some (Config.random s.dict.draws) } :=
  setSess_sess_same _ _ _

@[simp] theorem redrawAuth_wrong (s : State) (i : SessId) : (s.redrawAuth i).dict.wrong = s.dict.wrong := rfl

@[simp] theorem redrawAuth_locked (s : State) (i : SessId) : (s.redrawAuth i).dict.locked = s.dict.locked := rfl

/-- The use of a role's key leaves the dictionary, and so the sessions (R119). -/
@[simp] theorem useRoleKey_dict (s : State) (i : SessId) (code : Nat) : (s.useRoleKey i code).dict = s.dict := by
  unfold State.useRoleKey
  split <;> simp

theorem useRoleKey_sess (s : State) (i j : SessId) (code : Nat) : (s.useRoleKey i code).sess j = s.sess j :=
  sess_congr (by rw [useRoleKey_dict]) j

end SessionRecords

section Responses

variable (s : State) (tr : Transport) (tc : Nat)

/-- A wrong response changes of the dictionary the count of its transport and the transports locked out (R48). -/
theorem wrongResponse_dict : (s.wrongResponse tr tc).dict = { s.dict with
    wrong := tblPut s.dict.wrong tc (tblGet 0 s.dict.wrong tc + 1)
    locked := if tblGet 0 s.dict.wrong tc + 1 < 5 then s.dict.locked else tr :: s.dict.locked.erase tr } := by
  simp only [State.wrongResponse]
  split <;> simp

/-- A wrong response leaves the sessions. -/
theorem wrongResponse_sess (i : SessId) : (s.wrongResponse tr tc).sess i = s.sess i :=
  sess_congr (by rw [wrongResponse_dict]) i

/-- The fifth wrong response in a row raises AUTH_FAIL (R48). -/
theorem wrongResponse_fifth (h : 5 ≤ tblGet 0 s.dict.wrong tc + 1) :
    ∃ u : State, s.wrongResponse tr tc = u.raise 0x001 tc ∧ u = { s with dict := u.dict } :=
  ⟨_, if_neg (Nat.not_lt.2 h), rfl⟩

variable {s} {r : Req} {v : Bytes} {o : ObjRow}

/-- A response judged right is answered with success, and draws a new challenge (R48). -/
theorem authenticationResponse_accepted {t : State} (h : s.writes r 0x102100 v o)
    (hj : s.judgeResponse r.sess (v.drop 2) = (none, t)) :
    exec (.authenticationResponse r v) s = .next ((t.redrawAuth r.sess).respond r (.ok [])) := by
  obtain ⟨h1, h2, h3⟩ := h
  show execAuthenticationResponse r v s = _
  simp only [execAuthenticationResponse, State.authResponse, h1, h2, h3, hj]

/-- A response judged wrong is answered with its abort, and draws a new challenge too (R48). -/
theorem authenticationResponse_refused {t : State} {a : Abort} (h : s.writes r 0x102100 v o)
    (hj : s.judgeResponse r.sess (v.drop 2) = (some a, t)) :
    exec (.authenticationResponse r v) s = .next ((t.redrawAuth r.sess).respond r (.abort a)) := by
  obtain ⟨h1, h2, h3⟩ := h
  show execAuthenticationResponse r v s = _
  simp only [execAuthenticationResponse, State.authResponse, h1, h2, h3, hj]

section Judged

variable {i : SessId} {b : Bytes} (htc : Transport.authCode i.tr = some tc) (hl : s.dict.locked.contains i.tr = false)
  (h1 : 1 ≤ fieldAt b 0 1) (h4 : fieldAt b 0 1 ≤ 4) (hp : i.tr ≠ .probe)
include htc hl h1 h4 hp

/-- A response whose HMAC holds gives the session its role and clears the count of wrong ones (R48). -/
theorem judgeResponse_right (hok : s.responseOk i tc b = true) : s.judgeResponse i b =
    (none, ({ s.useRoleKey i (fieldAt b 0 1) with
      dict := { (s.useRoleKey i (fieldAt b 0 1)).dict with wrong := tblDel s.dict.wrong tc } } : State).setSess i (fun x =>
        { x with role := roleOfCode (fieldAt b 0 1), vendorLimit := 0 })) := by
  have hc : ¬(fieldAt b 0 1 = 0 ∨ 4 < fieldAt b 0 1) := by omega
  simp only [State.judgeResponse, htc, hl, hc, hp, hok, if_false, if_true, false_and, Bool.false_eq_true, useRoleKey_dict]

/-- A wrong response is denied and counted (R48). -/
theorem judgeResponse_wrong (hok : s.responseOk i tc b = false) : s.judgeResponse i b =
    (some .accessDenied, (s.useRoleKey i (fieldAt b 0 1)).wrongResponse i.tr tc) := by
  have hc : ¬(fieldAt b 0 1 = 0 ∨ 4 < fieldAt b 0 1) := by omega
  simp only [State.judgeResponse, htc, hl, hc, hp, hok, if_false, false_and, Bool.false_eq_true, useRoleKey_dict]

end Judged

end Responses

section Vendor

variable {s : State} {r : Req} {arg : Bytes} {o : ObjRow}

/-- A token that passes every check gives the Vendor role for its limit, and the challenge is gone (R129). -/
theorem verifyVendorToken_sess (h : s.starts r 0xA02104 arg o) (hav : s.dict.available = true) (hok : s.tokenOk r.sess = true) :
    ∃ t : State, exec (.verifyVendorToken r arg) s = .next t ∧ t.sess r.sess = { s.sess r.sess with
      role := .vendor, vendorLimit := fieldAt (s.tokenOf r.sess) 56 4, vendorChallenge := none } := by
  refine ⟨_, rfl, ?_⟩
  have ht : s.verifyTokenCmd r arg = ((((s.setSess r.sess (fun x =>
      { x with role := .vendor, vendorLimit := fieldAt (s.tokenOf r.sess) 56 4 })).succeeds r 0xA02104 (s.itemOf r o)).draw.2).setSess
        r.sess (fun x => { x with vendorChallenge := none })) := by
    simp only [State.verifyTokenCmd, hav, if_true]
    rw [command_done h (if_pos hok)]
  rw [ht, setSess_sess_same, draw_sess, succeeds_sess, setSess_sess_same]

end Vendor

/-- Settles O5: each clause by what its command does to the session's record and to the counts of its transport. -/
theorem sessionsGainAndLoseTheirRoles : Obligations.SessionsGainAndLoseTheirRoles := by
  refine ⟨fun s r o h => ?_, fun s r o h => ?_, fun s r v o tc n hw htc hl h1 h4 hp _ hok => ?_,
    fun s r v o tc hw htc hl h1 h4 hp hok => ?_, wrongResponse_fifth, fun s tr h => congrArg Host.Outcome.next (if_pos h),
    fun _ _ => rfl, fun s i h => congrArg Host.Outcome.next (if_pos h), fun s r arg o h hav hok => ?_⟩
  · show execAuthenticationChallengeRead r s = _
    simp only [execAuthenticationChallengeRead, State.challengeRead, h]
    rfl
  · show execVendorChallengeRead r s = _
    simp only [execVendorChallengeRead, State.vendorChallengeRead, h]
    rfl
  · exact ⟨_, authenticationResponse_accepted hw (judgeResponse_right _ htc hl h1 h4 hp hok), by simp,
      tblFind?_del_same _ _, by simp⟩
  · refine ⟨_, authenticationResponse_refused hw (judgeResponse_wrong _ htc hl h1 h4 hp hok), ?_, ?_, ?_, rfl⟩
    · rw [redrawAuth_sess, wrongResponse_sess, useRoleKey_sess]
    · rw [redrawAuth_wrong, wrongResponse_dict, useRoleKey_dict]
      exact tblGet_put_same _ _ _ _
    · rw [redrawAuth_locked, wrongResponse_dict, useRoleKey_dict]
      by_cases h5 : tblGet 0 s.dict.wrong tc + 1 < 5
      · simp only [h5, if_true, hl, Bool.false_eq_true, false_iff]
        omega
      · simp only [h5, if_false, List.contains_cons, beq_self_eq_true, Bool.true_or, true_iff]
        omega
  · obtain ⟨t, ht, hs⟩ := verifyVendorToken_sess h hav hok
    exact ⟨t, ht, by rw [hs], by rw [hs], by rw [hs]⟩

end Sys2Proof.Machine.Dictionary

/-! PROOFS. The transports: CoAP, SDO and USDO, the optical probe and the PCIe mailbox (R59 to R67). -/

namespace Sys2Proof.Machine.Dictionary

section CoAP

variable {s : State} {r : Req}

/-- A request on the open association of its own peer keeps it (R47, R61). -/
theorem association_open {peer : Bytes} (ho : (s.sess r.sess).isOpen = true) (hp : (s.sess r.sess).peer = peer) :
    s.association r.sess peer = some s := by
  simp [State.association, ho, hp]

/-- A GET without blocks of a value of at most 1,024 bytes is answered in one piece (R64). -/
theorem coapGet_whole {k : ObjKey} {x : Bytes} (hf : (s.fetch r (ObjKey.num k)).1 = .ok x) (hx : x.length ≤ 1024) :
    s.coapGet r k none = (s.fetch r (ObjKey.num k)).2.respond r (.ok x) := by
  simp [State.coapGet, hf, hx]

/-- A GET to the service port on the open association of its own peer is answered (R61, R64). -/
theorem coapRequest_get {peer v x : Bytes} {k : ObjKey} {f : Found} (htr : r.sess.tr = .coap) (hon : s.cfgN 0x103002 ≠ 0)
    (hport : r.dest = s.transN r.sess 0x103001) (hav : s.dict.available = true) (ho : (s.sess r.sess).isOpen = true)
    (hp : (s.sess r.sess).peer = peer) (hm : meterPathOk r k = true) (hf : (s.fetch r (ObjKey.num k)).1 = .ok x)
    (hx : x.length ≤ 1024) :
    exec (.coapRequest r peer .get k none none v f) s = .next ((s.fetch r (ObjKey.num k)).2.respond r (.ok x)) := by
  show execCoapRequest r peer .get k none none v f s = _
  simp [execCoapRequest, htr, hon, hport, association_open ho hp, State.coap, hav, hm, coapGet_whole hf hx]

theorem coapBlockwiseTimeout_expires (htr : r.sess.tr = .coap) (hx : (s.sess r.sess).xfer ≠ none) :
    exec (.coapBlockwiseTimeout r) s = .next ((s.setXfer r.sess none).respond r (.abort .timeout)) := by
  show execCoapBlockwiseTimeout r s = _
  simp [execCoapBlockwiseTimeout, htr, hx]

end CoAP

section Sdo

variable {s : State} {r : Req} {f : Found}

/-- A frame received leaves the identifier that answers a session. -/
theorem canFrame_canAnswer (s : State) (p : Nat) (i : SessId) : (s.canFrame p).canAnswer i = s.canAnswer i := rfl

/-- An upload initiate whose value fits is answered at once, after the transfer before it is abandoned (R61, R450; log entry
48). -/
theorem sdoInitiate_upload {k : ObjKey} {room : Nat} {x : Bytes} (hr : s.canReaches r = true) (hav : s.dict.available = true)
    (hf : (((s.canFrame (canPortOf r.sess)).setXfer r.sess none).fetch r (ObjKey.num k)).1 = .ok x) (hx : x.length ≤ room) :
    exec (.sdoInitiate r k (.upload room) f) s =
      .next ((((s.canFrame (canPortOf r.sess)).setXfer r.sess none).fetch r (ObjKey.num k)).2.respond r (.ok x)) := by
  have hserve : (s.canFrame (canPortOf r.sess)).serving r = true := by
    simp [State.serving, State.canFrame, hav]
  show execSdoInitiate r k (.upload room) f s = _
  simp [execSdoInitiate, hr, State.sdoInitiate, hserve, State.sdoUpload, hf, hx]

/-- A download segment that is not the last is kept with its toggle bit (R63). -/
theorem sdoSegment_kept {tog : Bool} {v : Bytes} {room : Nat} {x : Xfer} (hr : s.canReaches r = true)
    (hx : (s.sess r.sess).xfer = some x) (hd : x.download = true) (ht : tog ≠ x.toggle) :
    exec (.sdoSegment r tog v false room f) s = .next (((s.canFrame (canPortOf r.sess)).setXfer r.sess
      (some { x with buf := x.buf ++ v, toggle := tog })).serve (.sdo r.sess (s.canAnswer r.sess) none [])) := by
  have hx' : ((s.canFrame (canPortOf r.sess)).sess r.sess).xfer = some x := hx
  show execSdoSegment r tog v false room f s = _
  simp only [execSdoSegment, hr, if_true, State.sdoSegment, hx', if_neg ht, hd, Bool.false_eq_true, if_false,
    canFrame_canAnswer]

theorem sdoSegmentTimeout_aborts (hr : s.canReaches r = true) (hx : (s.sess r.sess).xfer ≠ none) :
    exec (.sdoSegmentTimeout r) s = .next ((s.setXfer r.sess none).respond r (.abort .timeout)) :=
  congrArg Host.Outcome.next (if_pos ⟨hr, Option.isSome_iff_ne_none.2 hx⟩)

end Sdo

section Probe

variable {s : State}

/-- A sign-on opens a session as Observer, is counted, and is answered (R61, R440). -/
theorem probeSignOn_opens {p : Fin 2} (hon : s.probeOn p.val = true) (hav : s.dict.available = true) :
    ∃ t : State, exec (.probeSignOn p) s = .next (t.respond { sess := ⟨.probe, p.val⟩ } (.ok [])) ∧
      t.sess ⟨.probe, p.val⟩ = { isOpen := true } ∧
      tblGet 0 t.link.probeSessions p.val = tblGet 0 s.link.probeSessions p.val + 1 := by
  refine ⟨(s.setSess ⟨.probe, p.val⟩ (fun _ => { isOpen := true })).setLinks (fun l => { l with
    probeSessions := tblUpd 0 l.probeSessions p.val (· + 1) }), ?_, setSess_sess_same _ _ _, tblGet_upd_same 0 s.link.probeSessions p.val (· + 1)⟩
  show execProbeSignOn p s = _
  simp [execProbeSignOn, hon, hav]

theorem probeRequest_read {r : Req} {k : ObjKey} {f : Found} {x : Bytes} (htr : r.sess.tr = .probe)
    (ho : (s.sess r.sess).isOpen = true) (hf : (s.fetch r (ObjKey.num k)).1 = .ok x) (hx : x.length ≤ 64) :
    exec (.probeRequest r (.read k) f) s = .next ((s.fetch r (ObjKey.num k)).2.respond r (.ok x)) := by
  show execProbeRequest r (.read k) f s = _
  simp [execProbeRequest, htr, ho, State.probeRead, hf, Nat.not_lt.2 hx]

/-- The end of an open probe session forgets it (R47). -/
theorem probeEnd_open {p : Nat} (ho : (s.sess ⟨.probe, p⟩).isOpen = true) :
    s.probeEnd p = s.setSess ⟨.probe, p⟩ (fun _ => {}) := if_pos ho

end Probe

section Mailbox

variable {s : State}

theorem mailboxDoorbell_taken {slot : U32} {content : Bytes} (hp : s.link.pcie = true)
    (hi : s.doorbellIgnored slot.toNat = false) :
    exec (.mailboxDoorbell slot content) s = .next (s.setLinks (fun l => { l with
      mbxOut := l.mbxOut ++ [slot.toNat], mbxSlot := tblPut l.mbxSlot slot.toNat content })) := by
  show execMailboxDoorbell slot content s = _
  simp [execMailboxDoorbell, hp, hi]

/-- The request that an outstanding slot spells (R66). -/
def slotReq (s : State) (slot : Nat) (st : Bool) : Req :=
  { sess := ⟨.mailbox, 0⟩
    token := slot
    handle := if fieldAt (tblGet [] s.link.mbxSlot slot) 3 1 % 2 = 1 then
      some (BitVec.ofNat 20 (fieldAt (tblGet [] s.link.mbxSlot slot) 8 4)) else none
    storeOk := st }

/-- A slot with operation 1 reads its object (R66). -/
theorem mailbox_read {slot : Nat} {st : Bool} {f : Found} (hav : s.dict.available = true)
    (hop : fieldAt (tblGet [] s.link.mbxSlot slot) 2 1 = 1) :
    s.mailbox slot st f = s.get (slotReq s slot st)
      (fieldAt (tblGet [] s.link.mbxSlot slot) 4 2 * 256 + fieldAt (tblGet [] s.link.mbxSlot slot) 6 1) := by
  simp [State.mailbox, State.serving, hav, hop, slotReq]

/-- An outstanding read is carried out while a descriptor is left and the mailbox's queue has room (R66, R216). -/
theorem mailboxRequest_read {slot : Fin 32} {st : Bool} {f : Found} (ho : s.link.mbxOut.contains slot.val = true)
    (hr : s.link.mbxRun.contains slot.val = false) (hpool : s.poolTaken < 49152) (hfull : s.mailboxFull = false)
    (hav : s.dict.available = true) (hop : fieldAt (tblGet [] s.link.mbxSlot slot.val) 2 1 = 1) :
    exec (.mailboxRequest slot st f) s =
      .next ((s.setLinks (fun l => { l with mbxRun := slot.val :: l.mbxRun })).get (slotReq s slot.val st)
        (fieldAt (tblGet [] s.link.mbxSlot slot.val) 4 2 * 256 + fieldAt (tblGet [] s.link.mbxSlot slot.val) 6 1)) := by
  have hrun : ¬(s.link.mbxOut.contains slot.val = false ∨ s.link.mbxRun.contains slot.val = true ∨ 49152 ≤ s.poolTaken ∨
      s.mailboxFull = true) := by
    rw [ho, hr, hfull]
    simp only [Bool.true_eq_false, Bool.false_eq_true, false_or, or_false]
    omega
  show execMailboxRequest slot st f s = _
  rw [execMailboxRequest, if_neg hrun]
  exact congrArg Host.Outcome.next (mailbox_read hav hop)

theorem mailboxEnable_opens (hp : s.link.pcie = true) (hon : s.link.mbxOn = false) :
    exec .mailboxEnable s =
      .next ((s.setLinks (fun l => { l with mbxOn := true })).setSess ⟨.mailbox, 0⟩ (fun _ => { isOpen := true })) := by
  show execMailboxEnable s = _
  simp [execMailboxEnable, hp, hon]

theorem mailboxDisable_closes (hon : s.link.mbxOn = true) :
    exec .mailboxDisable s =
      .next ((s.setLinks (fun l => { l with mbxOn := false, mbxOut := [], mbxRun := [] })).setSess ⟨.mailbox, 0⟩ (fun _ => {})) := by
  show execMailboxDisable s = _
  simp [execMailboxDisable, hon]

end Mailbox

/-- Settles O6: a clause for each of the transports' lemmas above. -/
theorem transportsCarryRequests : Obligations.TransportsCarryRequests := by
  refine ⟨fun s r peer v x k f => coapRequest_get, fun s r => coapBlockwiseTimeout_expires, rfl,
    fun s r k room f x => sdoInitiate_upload, fun s r tog v room f x => sdoSegment_kept, fun s r => sdoSegmentTimeout_aborts,
    fun s p => probeSignOn_opens, fun s r k f x => probeRequest_read, fun s p ho => ?_, fun s slot content => mailboxDoorbell_taken,
    fun s slot st f ho hr hpool hfull hav hop => ⟨slotReq s slot.val st, rfl, rfl, rfl, rfl,
      mailboxRequest_read ho hr hpool hfull hav hop⟩, fun _ _ => rfl, fun s => mailboxEnable_opens, fun s => mailboxDisable_closes⟩
  exact ⟨congrArg Host.Outcome.next (probeEnd_open ho), congrArg Host.Outcome.next (probeEnd_open ho)⟩

end Sys2Proof.Machine.Dictionary

/-! SUPPORT. Network time and the values in force, and what the scheduler, the archive, prepayment and the check channels leave of
time: one lemma for each function, callees before callers. -/

namespace Sys2Proof.Machine.TimeScales

section NetworkTime

variable (s : State) (stamp : Nat)

/-- Network time brought up to a stamp: it never runs back, and nothing else of time moves (log entry 8). -/
@[simp] theorem atNet_time : (s.atNet stamp).time = { s.time with
    net := max s.time.net stamp
    netFrac := if s.time.net < stamp then 0 else s.time.netFrac } := by
  unfold State.atNet
  split
  · next h => simp [Nat.max_eq_right (Nat.le_of_lt h)]
  · next h => simp [Nat.max_eq_left (Nat.le_of_not_lt h)]

@[simp] theorem setTime_time (f : TimeState → TimeState) : (s.setTime f).time = f s.time := rfl

@[simp] theorem setTime_setTime (f g : TimeState → TimeState) : (s.setTime f).setTime g = s.setTime (fun t => g (f t)) := rfl

/-- A change of time alone leaves the values in force. -/
@[simp] theorem setTime_cfgBytes (f : TimeState → TimeState) (num inst : Nat) :
    (s.setTime f).cfgBytes num inst = s.cfgBytes num inst := rfl

@[simp] theorem setTime_cfgN (f : TimeState → TimeState) (num inst : Nat) : (s.setTime f).cfgN num inst = s.cfgN num inst := rfl

/-- Network time brought up to a stamp leaves the values in force. -/
@[simp] theorem atNet_cfgBytes (num inst : Nat) : (s.atNet stamp).cfgBytes num inst = s.cfgBytes num inst := by
  unfold State.atNet
  split <;> rfl

@[simp] theorem atNet_cfgN (num inst : Nat) : (s.atNet stamp).cfgN num inst = s.cfgN num inst :=
  congrArg leNat (atNet_cfgBytes s stamp num inst)

end NetworkTime

section Folds

variable {β : Type} {f : State → β → State}

/-- A fold of steps that leave time leaves it. -/
theorem foldl_time (h : ∀ t x, (f t x).time = t.time) (l : List β) (s : State) : (l.foldl f s).time = s.time :=
  List.foldlRecOn (motive := fun t => t.time = s.time) l f rfl (fun t ht x _ => (h t x).trans ht)

end Folds

section Scheduler

@[simp] theorem openVal_time (s : State) (p : Nat) : (s.openVal p).2.time = s.time := rfl
@[simp] theorem append_time (s : State) (f : Nat) (it : Item) (d : Bool) : (s.append f it d).time = s.time := rfl
@[simp] theorem countDispatch_time (s : State) (f : Nat) (it : Item) : (s.countDispatch f it).time = s.time := rfl
@[simp] theorem dispatchTo_time (s : State) (c f : Nat) (it : Item) : (s.dispatchTo c f it).time = s.time := rfl

@[simp] theorem preempt_time (s : State) (c : Nat) : (s.preempt c).time = s.time := by
  unfold State.preempt
  split <;> simp [State.chargeRun]

@[simp] theorem preemptAll_time (n : Nat) (s : State) : (s.preemptAll n).time = s.time := by
  induction n generalizing s with
  | zero => rfl
  | succ n ih =>
    simp only [State.preemptAll]
    split
    · rfl
    · split
      · rfl
      · split
        · rfl
        · rw [ih, preempt_time]

@[simp] theorem serveStalled_time (s : State) : s.serveStalled.time = s.time := by
  refine foldl_time (fun t c => ?_) _ _
  split
  · split <;> simp
  · rfl

@[simp] theorem scheduleRounds_time (n : Nat) (s : State) : (s.scheduleRounds n).time = s.time := by
  induction n generalizing s with
  | zero => rfl
  | succ n ih => rw [State.scheduleRounds, ih, preemptAll_time, serveStalled_time]

@[simp] theorem schedule_time (s : State) : s.schedule.time = s.time := scheduleRounds_time 4 s

@[simp] theorem enqueue_time (s : State) (a f k key ref : Nat) (tel : Bool) : (s.enqueue a f k key ref tel).2.time = s.time := by
  simp only [State.enqueue]
  split
  · rfl
  · split
    · exact State.setItem_time _ _ _ _
    · split
      · rfl
      · split <;> rfl

@[simp] theorem produce_time (s : State) (a f k key ref : Nat) (tel : Bool) : (s.produce a f k key ref tel).time = s.time := by
  simp only [State.produce]
  split <;> exact enqueue_time _ _ _ _ _ _ _

end Scheduler

section Archive

@[simp] theorem makeRoom_time (len n : Nat) (s : State) : (s.makeRoom len n).time = s.time := by
  induction n generalizing s with
  | zero => rfl
  | succ n ih =>
    simp only [State.makeRoom]
    split
    · rfl
    · split
      · rfl
      · rw [ih]
        rfl

@[simp] theorem placeUnit_time (s : State) (r l a f : Nat) (b : Bytes) : (s.placeUnit r l a f b).time = s.time := by
  simp only [State.placeUnit]
  split <;> simp

@[simp] theorem program_time (s : State) (r l a f : Nat) (b : Bytes) : (s.program r l a f b).time = s.time := by
  simp only [State.program, State.chargeOpen_time, placeUnit_time]
  split <;> simp

@[simp] theorem programFull_time (c n : Nat) (s : State) : (s.programFull c n).time = s.time := by
  induction n generalizing s with
  | zero => rfl
  | succ n ih =>
    simp only [State.programFull]
    split
    · rfl
    · rw [ih]
      exact program_time _ _ _ _ _ _

@[simp] theorem appendRec_time (s : State) (c : Nat) (r : ArchRec) : (s.appendRec c r).time = s.time := by
  simp only [State.appendRec]
  split
  · rfl
  · split
    · simp [State.putRecord]
    · split <;> simp

end Archive

section Prepayment

@[simp] theorem recordPrepay_time (s : State) (h : Nat) : (s.recordPrepay h).time = s.time := appendRec_time _ _ _

@[simp] theorem tell_time (s : State) (h : Nat) (m : MeterMsg) : (s.tell h m).time = s.time := by
  simp only [State.tell]
  split
  · rfl
  · split <;> simp

@[simp] theorem mirrorLedger_time (s : State) (h : Nat) : (s.mirrorLedger h).time = s.time := State.mirror_time _ _ _ _

@[simp] theorem tryDisconnect_time (s : State) (h : Nat) : (s.tryDisconnect h).time = s.time := by
  unfold State.tryDisconnect
  extract_lets l due
  split
  · split
    · simp [State.sendDisconnect]
    · extract_lets s1
      rw [mirrorLedger_time]
      split <;> simp [s1]
  · rfl

/-- A renewed test of the disconnections leaves time (R307). -/
@[simp] theorem retest_time (s : State) : s.retest.time = s.time := foldl_time tryDisconnect_time _ _

end Prepayment

section Weir

@[simp] theorem flagFeeders_time (s : State) (b : U16) : (s.flagFeeders b).time = s.time := by
  simp only [State.flagFeeders]
  rw [foldl_time (fun _ _ => State.setFeeder_time _ _ _), State.setWeir_time]

@[simp] theorem weirCrossing_time (s : State) (num : Cycle) (stamp : Nat) (p : Bool) :
    (s.weirCrossing num stamp p).time = s.time := by
  simp only [State.weirCrossing, State.setWeir_time]
  split <;> simp

end Weir
end Sys2Proof.Machine.TimeScales

/-! PROOFS. The zero-crossing tracker: crossings of ZC_A, predicted crossings and the cycle epoch (R74 to R78, R150). -/

namespace Sys2Proof.Machine.TimeScales

section Entering

variable (s : State) (num : Cycle) (stamp : Nat)

/-- A crossing changes of time, through the latches that await it, the triggers and the list of those that wait alone (R93). -/
theorem latchAwaited_time : (s.latchAwaited num stamp).time = { s.time with
    triggers := (s.latchAwaited num stamp).time.triggers, trigLatch := (s.latchAwaited num stamp).time.trigLatch } := by
  refine List.foldlRecOn (motive := fun t : State => t.time = { s.time with
    triggers := t.time.triggers, trigLatch := t.time.trigLatch }) _ _ rfl (fun t ht x _ => ?_)
  dsimp only
  split <;> (simp only [State.setWeir_time]; rw [ht])

variable (estimated predicted relock : Bool)

/-- What a crossing that takes its number leaves of time (R77, R79). -/
theorem enterCrossing_time : (s.enterCrossing num stamp estimated predicted relock).time = { s.time with
    cycle := num, lastStamp := some stamp, epochNext := none
    table := (s.enterCrossing num stamp estimated predicted relock).time.table
    snap := (s.enterCrossing num stamp estimated predicted relock).time.snap
    triggers := (s.enterCrossing num stamp estimated predicted relock).time.triggers
    trigLatch := (s.enterCrossing num stamp estimated predicted relock).time.trigLatch } := by
  simp only [State.enterCrossing, weirCrossing_time]
  rw [latchAwaited_time]

@[simp] theorem enterCrossing_cycle : (s.enterCrossing num stamp estimated predicted relock).time.cycle = num := by
  rw [enterCrossing_time]

@[simp] theorem enterCrossing_lastStamp :
    (s.enterCrossing num stamp estimated predicted relock).time.lastStamp = some stamp := by
  rw [enterCrossing_time]

@[simp] theorem enterCrossing_tracker :
    (s.enterCrossing num stamp estimated predicted relock).time.tracker = s.time.tracker := by
  rw [enterCrossing_time]

@[simp] theorem enterCrossing_period :
    (s.enterCrossing num stamp estimated predicted relock).time.period = s.time.period := by
  rw [enterCrossing_time]

@[simp] theorem enterCrossing_predictedRun :
    (s.enterCrossing num stamp estimated predicted relock).time.predictedRun = s.time.predictedRun := by
  rw [enterCrossing_time]

/-- A re-lock leaves the tracker LOCKED at the crossing, under the nearest predicted number (R76). -/
theorem relock_time (last : Nat) : (s.relock last stamp).time.tracker = .locked ∧
    (s.relock last stamp).time.lastStamp = some stamp ∧
    (s.relock last stamp).time.cycle =
      s.time.cycle + BitVec.ofNat 40 (max 1 (roundDiv ((stamp : Int) - last) (max s.time.period 1))).toNat := by
  simp only [State.relock]
  split <;> simp

end Entering

section CrossingA

variable {s : State} {stamp last : Nat}

/-- The crossing's displacement from its prediction, in ns (R150). -/
def displacement (s : State) (stamp last : Nat) : Nat := ((stamp : Int) - ((last + s.time.period : Nat) : Int)).natAbs

theorem displacement_atNet (n : Nat) : displacement (s.atNet n) stamp last = displacement s stamp last := by
  simp [displacement]

/-- While LOCKED a crossing in its window takes the next number and gives the period (R75, R150). -/
theorem crossingA_inWindow (ht : s.time.tracker = .locked) (hl : s.time.lastStamp = some last) (hd : zcShortest ≤ stamp - last)
    (hw : displacement s stamp last ≤ zcWindow) : s.crossingA stamp =
      ({ s with time := { s.time with zcSeen := false, period := stamp - last, measured := true } }).enterCrossing
        (s.time.cycle + 1) stamp false false false := by
  have hn : ¬(stamp - last < zcShortest ∨ zcWindow < displacement s stamp last) := by omega
  simp only [State.crossingA, ht, hl]
  exact if_neg hn

/-- While LOCKED a crossing outside its window is a disturbance (R150). -/
theorem crossingA_outsideWindow (ht : s.time.tracker = .locked) (hl : s.time.lastStamp = some last)
    (hw : zcWindow < displacement s stamp last) : s.crossingA stamp = s.disturbedA := by
  simp only [State.crossingA, ht, hl]
  exact if_pos (.inr hw)

/-- The first crossing after a reset without a snapshot is number 0 (R77). -/
theorem crossingA_first (ht : s.time.tracker = .search) (hl : s.time.lastStamp = none) (he : s.time.epochNext = none)
    (hs : s.time.snap = none) : s.crossingA stamp = s.enterCrossing 0 stamp false false false := by
  simp [State.crossingA, ht, hl, State.firstNumber, he, hs]

/-- In SEARCH a crossing after an interval of the range locks the tracker (R74, R75). -/
theorem crossingA_locks (ht : s.time.tracker = .search) (hl : s.time.lastStamp = some last) (h1 : zcShortest ≤ stamp - last)
    (h2 : stamp - last ≤ zcLongest) : s.crossingA stamp =
      ({ s with time := { s.time with
          tracker := .locked, predictedRun := 0, zcSeen := false, everLocked := true, period := stamp - last
          measured := true } }).enterCrossing (s.time.cycle + 1) stamp false false false := by
  simp only [State.crossingA, ht, hl]
  exact if_pos ⟨h1, h2⟩

/-- After five predicted crossings a displaced crossing that is not too soon re-locks the tracker (R76, R150). -/
theorem crossingA_sixth (ht : s.time.tracker = .holdover) (hl : s.time.lastStamp = some last) (hr : s.time.predictedRun = 5)
    (hd : zcShortest ≤ stamp - last) (hw : zcWindow < displacement s stamp last) : s.crossingA stamp = s.relock last stamp := by
  simp only [State.crossingA, ht, hl]
  exact (if_neg (Nat.not_le.2 hw)).trans (if_pos ⟨hr, hd⟩)

/-- A pulse on ZC_A that is no glitch is judged by its compensated stamp (R74, R150). -/
theorem exec_zcCrossing_zcA {width : Nat} (hp : s.pwr.inReset = false) (hw : s.cfgN 0x310004 ≤ width) :
    exec (.zcCrossing 0 stamp width) s =
      .next ((s.atNet stamp).crossingA ((stamp : Int) - s.cfgI 4 0x310001).toNat) := by
  have hn : ¬(s.pwr.inReset = true ∨ width < s.cfgN 0x310004) := by
    rw [hp]
    simpa using hw
  exact congrArg Host.Outcome.next ((if_neg hn).trans (if_pos rfl))

/-- A pulse shorter than the minimum is a glitch (R150). -/
theorem exec_zcCrossing_glitch {i : Fin 3} {width : Nat} (hw : width < s.cfgN 0x310004) :
    exec (.zcCrossing i stamp width) s = .next s :=
  congrArg Host.Outcome.next (if_pos (.inr hw))

end CrossingA

section Predicted

variable {s : State} {last : Nat}

theorem enterPredicted_time (next : Tracker) (run : Nat) :
    (s.enterPredicted next run last).time.cycle = s.time.cycle + 1 ∧ (s.enterPredicted next run last).time.tracker = next ∧
      (s.enterPredicted next run last).time.predictedRun = run ∧
      (s.enterPredicted next run last).time.lastStamp = some (last + s.time.period) := by
  simp [State.enterPredicted]

/-- The first crossing that is missing is predicted, and HOLDOVER begins (R75). -/
theorem exec_zcPredictedCrossing_locked (hp : s.pwr.inReset = false) (ht : s.time.tracker = .locked)
    (hl : s.time.lastStamp = some last) : exec .zcPredictedCrossing s = .next (s.enterPredicted .holdover 1 last) := by
  show execZcPredictedCrossing s = _
  simp [execZcPredictedCrossing, hp, ht, hl]

/-- Up to the fifth the prediction goes on, and after it the tracker is ABSENT where no disturbed crossing was seen (R75). -/
theorem exec_zcPredictedCrossing_holdover (hp : s.pwr.inReset = false) (ht : s.time.tracker = .holdover)
    (hl : s.time.lastStamp = some last) (h : s.time.predictedRun < 5 ∨ s.time.zcSeen = false) :
    exec .zcPredictedCrossing s = .next (if s.time.predictedRun < 5 then
      s.enterPredicted .holdover (s.time.predictedRun + 1) last else s.enterPredicted .absent 5 last) := by
  show execZcPredictedCrossing s = _
  by_cases hr : s.time.predictedRun < 5
  · simp [execZcPredictedCrossing, hp, ht, hl, hr]
  · simp [execZcPredictedCrossing, hp, ht, hl, hr, h.resolve_left hr]

/-- Where a disturbed crossing was seen, the sixth is awaited and nothing entered (R76, R150; log entry 53). -/
theorem exec_zcPredictedCrossing_awaits (hp : s.pwr.inReset = false) (ht : s.time.tracker = .holdover)
    (hl : s.time.lastStamp = some last) (hr : 5 ≤ s.time.predictedRun) (hz : s.time.zcSeen = true) :
    exec .zcPredictedCrossing s = .next { s.atNet (last + s.time.period) with
      time := { (s.atNet (last + s.time.period)).time with zcSeen := false } } := by
  show execZcPredictedCrossing s = _
  simp [execZcPredictedCrossing, hp, ht, hl, Nat.not_lt.2 hr, hz]

end Predicted

/-- A new epoch is set and mirrored while no order is out and no cycle trigger armed (R78). -/
theorem exec_setCycleEpoch_done {s : State} {r : Req} {arg : Bytes} {o : ObjRow} (h : s.starts r 0x31000A arg o)
    (ha : leNat arg < 2 ^ 40) (ho : s.orderOut = false) (hc : s.cycleTriggerArmed = false) :
    exec (.setCycleEpoch r arg) s =
      .next (((s.setEpoch (BitVec.ofNat 40 (leNat arg))).mirror .configuration 0x31000A arg).succeeds r 0x31000A (s.itemOf r o)) := by
  refine congrArg Host.Outcome.next (command_done h ?_)
  rw [if_neg (Nat.not_le.2 ha), ho, hc]
  rfl

/-- Settles O8: the branch of the tracker that each clause names, and what the crossing entered leaves of time. -/
theorem crossingsTakeTheNextCycleNumber : Obligations.CrossingsTakeTheNextCycleNumber := by
  refine ⟨fun s stamp width last a hp hw ha ht hl hd hwin => ?_, fun s stamp width last a hp hw ha ht hl hwin => ?_,
    fun s stamp width a hp hw ha ht hl he hs => ?_, fun s stamp width last a hp hw ha ht hl h1 h2 => ?_,
    fun s i stamp width => exec_zcCrossing_glitch, fun s last hp ht hl => ⟨_, exec_zcPredictedCrossing_locked hp ht hl, ?_⟩,
    fun s last hp ht hl h => ⟨_, exec_zcPredictedCrossing_holdover hp ht hl h, ?_⟩,
    fun s last hp ht hl hr hz => ⟨_, exec_zcPredictedCrossing_awaits hp ht hl hr hz, ?_⟩,
    fun s stamp width last a hp hw ha ht hl hr hd hwin => ?_,
    fun s r arg o h ha ho hc => ⟨_, exec_setCycleEpoch_done h ha ho hc, ?_⟩⟩
  · subst ha
    rw [exec_zcCrossing_zcA hp hw, crossingA_inWindow (last := last) (by simpa using ht) (by simpa using hl) hd
      (by rw [displacement_atNet]; exact hwin)]
    exact ⟨_, rfl, by simp [ht]⟩
  · subst ha
    rw [exec_zcCrossing_zcA hp hw, crossingA_outsideWindow (last := last) (by simpa using ht) (by simpa using hl)
      (by rw [displacement_atNet]; exact hwin)]
    rfl
  · subst ha
    rw [exec_zcCrossing_zcA hp hw, crossingA_first (by simpa using ht) (by simpa using hl)
      (by simpa using he) (by simpa using hs)]
    exact ⟨_, rfl, by simp⟩
  · subst ha
    rw [exec_zcCrossing_zcA hp hw, crossingA_locks (last := last) (by simpa using ht) (by simpa using hl) h1 h2]
    exact ⟨_, rfl, by simp⟩
  · exact enterPredicted_time .holdover 1
  · split
    · obtain ⟨hcycle, htracker, -⟩ := enterPredicted_time (s := s) (last := last) .holdover (s.time.predictedRun + 1)
      exact ⟨hcycle, htracker⟩
    · obtain ⟨hcycle, htracker, -⟩ := enterPredicted_time (s := s) (last := last) .absent 5
      exact ⟨hcycle, htracker⟩
  · simp [ht, hl]
  · subst ha
    rw [exec_zcCrossing_zcA hp hw, crossingA_sixth (last := last) (by simpa using ht) (by simpa using hl) (by simpa using hr) hd
      (by rw [displacement_atNet]; exact hwin)]
    obtain ⟨h1, h2, h3⟩ := relock_time (s.atNet stamp) ((stamp : Int) - s.cfgI 4 0x310001).toNat last
    exact ⟨_, rfl, h1, h2, by simpa using h3⟩
  · simp [State.setEpoch]

end Sys2Proof.Machine.TimeScales

/-! PROOFS. Network time: PTP and PPS messages, the loss of the source, and the PPS output (R83 to R90). -/

namespace Sys2Proof.Machine.TimeScales

section Offsets

variable {s : State} {off : Int}

/-- A Sync on the slave port measures an offset with the path delay and the port's receive delay (R82, R83, R86). -/
theorem ptpRx_sync {p origin rx : Nat} {delay : Int} (hs : s.time.slave = some p) (hsrc : s.cfgN 0x311003 = 1)
    (hd : (tblGet {} s.time.ptp p).pathDelay = some delay) : s.ptpRx p (.sync origin rx) =
      s.measureOffset ((origin : Int) + delay - ((rx : Int) - s.cfgN (0x420202 + 0x1000 * p))) 4 := by
  simp only [State.ptpRx, hd]
  exact if_pos ⟨hs, hsrc⟩

/-- An offset measured while LOCKED corrects network time (R86). -/
theorem measureOffset_locked (h : s.time.sync = .locked) (need : Nat) : s.measureOffset off need =
    (s.setTime (fun t => { t with lastOffset := wrapS 64 off })).correct off := by
  simp only [State.measureOffset, h]

/-- The first offset measured in FREE counts as one (R86). -/
theorem measureOffset_free {need : Nat} (h : s.time.sync = .free) (hn : s.time.acq + 1 < need) : s.measureOffset off need =
    s.setTime (fun t => { t with lastOffset := wrapS 64 off, acq := s.time.acq + 1, sync := .free }) := by
  simp only [State.measureOffset, h, if_neg (Nat.not_le.2 hn)]
  rfl

/-- In slew mode an offset within the step threshold sets the rate (R87). -/
theorem correct_slews (hmode : s.cfgN 0x311002 = 1) (hthr : s.cfgN 0x311005 = 0 ∨ off.natAbs ≤ s.cfgN 0x311005 * 1000000) :
    s.correct off = s.setTime (fun t => { t with rate := s.slewRate off }) := by
  have hservo : ¬s.cfgN 0x311002 = 2 := by omega
  have hnear : ¬(s.cfgN 0x311005 * 1000000 ≠ 0 ∧ s.cfgN 0x311005 * 1000000 < off.natAbs) := by omega
  exact (if_neg hservo).trans (if_neg hnear)

end Offsets

section Ptp

variable {s : State} {p : Fin 4}

theorem exec_ptpMessageRx_taken {d : U8} {m : PtpMsg} {at_ : Nat} (hon : s.ptpOn p.val = true) (hd : d.toNat = s.cfgN 0x311101) :
    exec (.ptpMessageRx p d m at_) s = .next ((s.atNet at_).ptpRx p.val m) :=
  congrArg Host.Outcome.next (if_neg (by simp [hon, hd]))

/-- A Sync within the step threshold, on the slave port of a LOCKED device in slew mode, sets the rate (R83, R87). -/
theorem exec_ptpMessageRx_sync {d : U8} {origin rx at_ : Nat} {delay off : Int} (hon : s.ptpOn p.val = true)
    (hd : d.toNat = s.cfgN 0x311101) (hslave : s.time.slave = some p.val) (hsrc : s.cfgN 0x311003 = 1)
    (hmode : s.cfgN 0x311002 = 1) (hdelay : (tblGet {} s.time.ptp p.val).pathDelay = some delay)
    (hsync : s.time.sync = .locked)
    (hoff : off = (origin : Int) + delay - ((rx : Int) - s.cfgN (0x420202 + 0x1000 * p.val)))
    (hthr : s.cfgN 0x311005 = 0 ∨ off.natAbs ≤ s.cfgN 0x311005 * 1000000) :
    exec (.ptpMessageRx p d (.sync origin rx) at_) s = .next ((s.atNet at_).setTime (fun t => { t with
      lastOffset := wrapS 64 off, rate := s.slewRate off })) := by
  rw [exec_ptpMessageRx_taken hon hd, ptpRx_sync (delay := delay) (by simpa using hslave) (by simpa using hsrc)
    (by simpa using hdelay), atNet_cfgN, ← hoff, measureOffset_locked (by simpa using hsync),
    correct_slews (by simpa using hmode) (by simpa using hthr)]
  simp only [State.slewRate, setTime_cfgN, atNet_cfgN, setTime_time, atNet_time]
  rfl

theorem exec_ptpMessageTx_sends {kind : Fin 4} {residence : Nat} (hon : s.ptpOn p.val = true)
    (hk : 2 ≤ kind.val ∨ (s.time.slave ≠ some p.val ∧ s.ptpPassive p.val = false ∧ s.cfgB 0x311104 = false)) :
    exec (.ptpMessageTx p kind residence) s = .next (({ s with
        time := { s.time with ptp := tblUpd {} s.time.ptp p.val (fun x => { x with sent := x.sent + 1 }) }
        link := { s.link with eth := tblUpd {} s.link.eth p.val (fun e => { e with tx := e.tx + 1 }) } }).emit
      (if kind = 1 then s.announce p.val else .ptp p.val (kind.val + 1)
        (if kind = 3 then residence + s.cfgN (0x420201 + 0x1000 * p.val) + s.cfgN (0x420202 + 0x1000 * p.val)
          else s.time.net + s.cfgN (0x420201 + 0x1000 * p.val)))) := by
  simp only [State.ptpOn, Bool.and_eq_true] at hon
  obtain ⟨hptp, hport⟩ := hon
  refine congrArg Host.Outcome.next (if_neg ?_)
  rw [hptp, hport]
  rintro (h | h | ⟨hlow, hnot⟩)
  · cases h
  · cases h
  · exact hnot (hk.resolve_left (Nat.not_le.2 hlow))

end Ptp

section SourceLost

variable {s : State}

/-- A source lost while LOCKED begins HOLDOVER with PTP_LOST (R86). -/
theorem sourceLost_locked (h : s.time.sync = .locked) (m : Int) : s.sourceLost m = ({ s with
    time := { s.time with sync := .holdover, acq := 0, holdSince := some s.time.mono } } : State).raise 0x04A m := by
  simp only [State.sourceLost, h]
  rfl

/-- Three missing sync intervals lose a source that is PTP (R84, R86). -/
theorem exec_ptpAnnounceTimeout_lost {p : Nat} (hslave : s.time.slave = some p) (hsrc : s.cfgN 0x311003 = 1) :
    exec (.ptpAnnounceTimeout true) s = .next (s.sourceLost p) := by
  show execPtpAnnounceTimeout true s = _
  simp [execPtpAnnounceTimeout, hslave, hsrc]

theorem exec_ptpAnnounceTimeout_otherSource (hsrc : s.cfgN 0x311003 ≠ 1) : exec (.ptpAnnounceTimeout true) s = .next s := by
  show execPtpAnnounceTimeout true s = _
  cases h : s.time.slave <;> simp [execPtpAnnounceTimeout, h, hsrc]

/-- Two missing pulses lose a source that is PPS_IN (R86). -/
theorem exec_ppsInMissed_lost (hsrc : s.cfgN 0x311003 = 2) :
    exec .ppsInMissed s = .next ((s.openVal 88).2.sourceLost (s.openVal 88).1) :=
  congrArg Host.Outcome.next (if_pos hsrc)

end SourceLost

section Pps

variable {s : State} {stamp : Nat}

/-- Under another source an edge of PPS_IN is noted alone (R86). -/
theorem exec_ppsInEdge_noted (hsrc : s.cfgN 0x311003 ≠ 2) :
    exec (.ppsInEdge stamp) s = .next ((s.atNet stamp).setTime (fun t => { t with lastPps := some stamp })) :=
  congrArg Host.Outcome.next (if_pos hsrc)

/-- The first edge of PPS_IN counts as the first of the pulses that qualify it (R86). -/
theorem exec_ppsInEdge_first (hsrc : s.cfgN 0x311003 = 2) (hsync : s.time.sync = .free) (hl : s.time.lastPps = none) :
    exec (.ppsInEdge stamp) s = .next ((s.atNet stamp).setTime (fun t => { t with
      lastPps := some stamp, lastOffset := wrapS 64 (roundDiv stamp 1000000000 * 1000000000 - stamp), acq := 1, sync := .free })) := by
  show execPpsInEdge stamp s = _
  simp only [execPpsInEdge, hsrc, hsync, hl, ne_eq, not_true_eq_false, if_false, if_true, Bool.false_eq_true]
  rw [measureOffset_free (by simpa using hsync) (by simp)]
  simp only [setTime_setTime, setTime_time, Nat.zero_add]

end Pps

/-- Settles O9: the branch that each clause names, and what it leaves of time. -/
theorem networkTimeFollowsItsSource : Obligations.NetworkTimeFollowsItsSource := by
  refine ⟨fun s p d origin rx at_ delay off hon hd hslave hsrc hmode hdelay hsync hoff hthr =>
      ⟨_, exec_ptpMessageRx_sync hon hd hslave hsrc hmode hdelay hsync hoff hthr, ?_⟩,
    fun s p d m at_ h => congrArg Host.Outcome.next (if_pos h),
    fun s p kind residence hon hk => ⟨_, exec_ptpMessageTx_sends hon hk, ?_, rfl⟩,
    fun s p hslave hsrc hsync => ⟨_, ?_, rfl⟩, fun s => exec_ptpAnnounceTimeout_otherSource,
    fun s hsrc hsync => ⟨_, ?_, rfl⟩, fun s stamp hsrc => ⟨_, exec_ppsInEdge_noted hsrc, ?_⟩,
    fun s stamp hsrc hsync hl => ⟨_, exec_ppsInEdge_first hsrc hsync hl, rfl, rfl, rfl⟩,
    fun s h => congrArg Host.Outcome.next (if_pos h), fun s h => congrArg Host.Outcome.next (if_neg h)⟩
  · simp [State.setTime, State.slewRate, hsync]
  · simp
  · rw [exec_ptpAnnounceTimeout_lost hslave hsrc, sourceLost_locked hsync]
  · rw [exec_ppsInMissed_lost hsrc, sourceLost_locked (by simpa using hsync)]
    rfl
  · simp [State.setTime]

end Sys2Proof.Machine.TimeScales

/-! PROOFS. Triggers and captures: arming, disarming, firing at a time target, and edges on the capture inputs (R92 to R94). -/

namespace Sys2Proof.Machine.TimeScales

section Records

variable (s : State) (n : Nat)

@[simp] theorem setTrig_trig_same (f : Trigger → Trigger) : (s.setTrig n f).trig n = f (s.trig n) := tblGet_upd_same _ _ _ _

@[simp] theorem atNet_trig (stamp : Nat) : (s.atNet stamp).trig n = s.trig n := by simp [State.trig]

@[simp] theorem atNet_trigAction (stamp : Nat) : (s.atNet stamp).trigAction n = s.trigAction n := atNet_cfgN _ _ _ _

@[simp] theorem atNet_trigArg (stamp : Nat) : (s.atNet stamp).trigArg n = s.trigArg n := atNet_cfgN _ _ _ _

end Records

section Arming

variable {s : State} {r : Req} {n : Fin 32} {o : ObjRow}

section Arm

variable (h : s.starts r (0x330006 + 256 * n.val) [1] o)
include h

theorem exec_arm_armed (ht : (s.trig n.val).st = .armed) : exec (.arm r n) s = .next (s.respond r (.abort .deviceBusy)) :=
  congrArg Host.Outcome.next (command_refused h (by simp [leNat, ht]))

theorem exec_arm_mayNot (ht : (s.trig n.val).st ≠ .armed) (hm : s.mayArm n.val = false) :
    exec (.arm r n) s = .next (s.respond r (.abort .valueInvalid)) :=
  congrArg Host.Outcome.next (command_refused h (by simp [leNat, ht, hm]))

/-- A new arming sets the results back (R92; log entry 64). -/
theorem exec_arm_arms (ht : (s.trig n.val).st ≠ .armed) (hm : s.mayArm n.val = true) : exec (.arm r n) s =
    .next ((s.setTrig n.val (fun _ => { st := .armed })).succeeds r (0x330006 + 256 * n.val) (s.itemOf r o)) :=
  congrArg Host.Outcome.next (command_done h (by simp [leNat, ht, hm]))

end Arm

theorem exec_disarm_idle (h : s.starts r (0x330006 + 256 * n.val) [2] o) (ht : (s.trig n.val).st = .armed) :
    exec (.disarm r n) s =
      .next ((s.setTrig n.val (fun x => { x with st := .idle })).succeeds r (0x330006 + 256 * n.val) (s.itemOf r o)) :=
  congrArg Host.Outcome.next (command_done h (by simp [leNat, ht]))

end Arming

section Firing

variable {s : State} {n : Fin 32} {at_ : Nat}

theorem exec_triggerFire_notArmed (ht : (s.trig n.val).st ≠ .armed) : exec (.triggerFire n at_) s = .next s :=
  congrArg Host.Outcome.next (if_pos ht)

/-- A trigger with a time target fires within a fabric cycle after it (R93). -/
theorem exec_triggerFire_atTime (ht : (s.trig n.val).st = .armed) (hk : s.trigKind n.val ≠ 2) (h1 : s.trigTime n.val ≤ at_)
    (h2 : at_ ≤ s.trigTime n.val + 6) : exec (.triggerFire n at_) s = .next ((s.atNet at_).fire n.val at_ false) := by
  show execTriggerFire n at_ s = _
  simp only [execTriggerFire, ht, hk, h1, h2, ne_eq, not_true_eq_false, if_false, and_self, if_true]

/-- Action 4 raises its event with the trigger's argument (R92). -/
theorem fire_raises {k : Nat} (ha : s.trigAction k = 4) : s.fire k at_ false =
    (s.setTrig k (fun x => { x with st := .fired, firedAt := at_ })).raise 0x04C (s.trigArg k) := by
  simp [State.fire, ha]

end Firing

section Captures

variable {s : State} {c : Fin 6} {rising : Bool} {stamp : Nat}

/-- An edge of a direction that the input's selection takes (R94). -/
def selected (s : State) (c : Fin 6) (rising : Bool) : Bool :=
  s.cfgN (0x350001 + c.val * 256) == 3 || (s.cfgN (0x350001 + c.val * 256) == 1 && rising) ||
    (s.cfgN (0x350001 + c.val * 256) == 2 && !rising)

/-- A selected edge that is not debounced is stamped and counted (R94). -/
theorem edge_taken {x : Capture} {button : Bool} (h : button = false ∨ x.quietTo ≤ stamp) :
    (x.edge button true stamp).last = stamp ∧ (x.edge button true stamp).count = x.count + 1 := by
  have hn : ¬(button = true ∧ stamp < x.quietTo ∧ x.quietTo ≤ stamp + 20000000) := by
    rintro ⟨hb, hq, -⟩
    rcases h with h | h
    · exact absurd hb (by simp [h])
    · omega
  rw [Capture.edge, if_neg hn]
  cases button <;> exact ⟨rfl, rfl⟩

/-- An edge that is not selected is neither stamped nor counted (R94). -/
theorem edge_notTaken (x : Capture) (button : Bool) (stamp : Nat) :
    (x.edge button false stamp).last = x.last ∧ (x.edge button false stamp).count = x.count := by
  unfold Capture.edge
  split
  · exact ⟨rfl, rfl⟩
  · cases button <;> exact ⟨rfl, rfl⟩

theorem exec_captureEdge_reset (hp : s.pwr.inReset = true) : exec (.captureEdge c rising stamp) s = .next s :=
  congrArg Host.Outcome.next (if_pos hp)

/-- On main power the edge goes to the capture of its input, and to no other (R94). -/
theorem exec_captureEdge_powered (hp : s.pwr.inReset = false) : exec (.captureEdge c rising stamp) s =
    .next ((s.atNet stamp).setTime (fun t => { t with
      captures := tblUpd {} t.captures c.val (fun x => x.edge (decide (4 ≤ c.val)) (selected s c rising) stamp) })) :=
  congrArg Host.Outcome.next (if_neg (by simp [hp]))

end Captures

/-- Settles O10: the branch that each clause names, and the record of the trigger or the capture after it. -/
theorem triggersArmFireAndCapturesStamp : Obligations.TriggersArmFireAndCapturesStamp := by
  refine ⟨fun s r n o h ht hm => ⟨_, exec_arm_arms h ht hm, setTrig_trig_same _ _ _, rfl⟩,
    fun s r n o h => ⟨exec_arm_armed h, exec_arm_mayNot h⟩,
    fun s r n o h ht => ⟨_, exec_disarm_idle h ht, congrArg Trigger.st (setTrig_trig_same _ _ _), rfl⟩,
    fun s n at_ ht hk ha h1 h2 => ?_, fun s n at_ => exec_triggerFire_notArmed, fun s c rising stamp => exec_captureEdge_reset,
    fun s c rising stamp hp hq hsel => ⟨_, exec_captureEdge_powered hp, ?_⟩, fun s c rising stamp hsel => ?_⟩
  · rw [exec_triggerFire_atTime ht hk h1 h2, fire_raises (by simpa using ha), atNet_trigArg]
    exact ⟨_, rfl, by rw [setTrig_trig_same], by rw [setTrig_trig_same]⟩
  · have htakes : selected s c rising = true := by
      rcases hsel with h | ⟨h, hr⟩ | ⟨h, hr⟩ <;> simp [selected, *]
    have hbutton : decide (4 ≤ c.val) = false ∨ (tblGet {} s.time.captures c.val).quietTo ≤ stamp :=
      hq.imp_left (fun h => decide_eq_false (Nat.not_le.2 h))
    simpa [htakes] using edge_taken hbutton
  · cases hp : s.pwr.inReset with
    | true => exact ⟨s, exec_captureEdge_reset hp, rfl, rfl⟩
    | false =>
      have htakes : selected s c rising = false := by simp [selected, hsel]
      refine ⟨_, exec_captureEdge_powered hp, ?_⟩
      simpa [htakes] using edge_notTaken (tblGet {} s.time.captures c.val) _ stamp

end Sys2Proof.Machine.TimeScales

/-! PROOFS. Calendar arithmetic: leap years, the next second, the wrap after 2399 and the day of the week (R95, R96). -/

namespace Sys2Proof.Machine.TimeScales

section Years

/-- The Gregorian rule (R96). -/
theorem leapYear_iff (y : Nat) : leapYear y = true ↔ (y % 4 = 0 ∧ y % 100 ≠ 0) ∨ y % 400 = 0 := by
  simp [leapYear]

/-- The days of a year of the range come before the next (R95). -/
theorem daysBeforeYear_succ {y : Nat} (h : 2000 ≤ y) :
    daysBeforeYear (y + 1) = daysBeforeYear y + if leapYear y then 366 else 365 := by
  obtain ⟨n, rfl⟩ := Nat.exists_eq_add_of_le h
  have h4 : (n + 1 + 3) / 4 = (n + 3) / 4 + if n % 4 = 0 then 1 else 0 := by split <;> omega
  have h100 : (n + 1 + 99) / 100 = (n + 99) / 100 + if n % 100 = 0 then 1 else 0 := by split <;> omega
  have h400 : (n + 1 + 399) / 400 = (n + 399) / 400 + if n % 400 = 0 then 1 else 0 := by split <;> omega
  have hle : (n + 99) / 100 ≤ 365 * n + (n + 3) / 4 := by omega
  have hl : leapYear (2000 + n) = true ↔ (n % 4 = 0 ∧ n % 100 ≠ 0) ∨ n % 400 = 0 := by
    rw [leapYear_iff]
    omega
  simp only [daysBeforeYear, show 2000 + n + 1 - 2000 = n + 1 by omega, show 2000 + n - 2000 = n by omega, h4, h100, h400, hl]
  clear h h4 h100 h400 hl
  (repeat' split) <;> omega

/-- The days of a month come before the next (R95). -/
theorem daysBeforeMonth_succ (y : Nat) {m : Nat} (h : 1 ≤ m) : daysBeforeMonth y (m + 1) = daysBeforeMonth y m + monthDays y m := by
  obtain ⟨k, rfl⟩ := Nat.exists_eq_add_of_le' h
  simp [daysBeforeMonth, List.range_succ]

/-- December ends the year (R95). -/
theorem daysBeforeMonth_december (y : Nat) : daysBeforeMonth y 12 + 31 = if leapYear y then 366 else 365 := by
  cases h : leapYear y <;> simp [daysBeforeMonth, List.range_succ, monthDays, h]

/-- A month has a first day. -/
theorem one_le_monthDays (y m : Nat) : 1 ≤ monthDays y m := by
  unfold monthDays
  (repeat' split) <;> decide

end Years

section NextSecond

/-- What a valid time is, one condition for each member (R97). -/
theorem valid_iff (c : CalTime) : c.valid = true ↔ (c.second ≤ 59 ∧ c.minute ≤ 59 ∧ c.hour ≤ 23) ∧ 1 ≤ c.month ∧ c.month ≤ 12 ∧
    1 ≤ c.day ∧ c.day ≤ monthDays c.year c.month ∧ 2000 ≤ c.year ∧ c.year ≤ 2399 := by
  simp [CalTime.valid, and_assoc]

/-- The last day of February of a common year is followed by 1 March (R96). -/
theorem next_february {y : Nat} (h : leapYear y = false) :
    ({ year := y, month := 2, day := 28, hour := 23, minute := 59, second := 59 } : CalTime).next =
      ({ year := y, month := 3, day := 1 }, false) := by
  simp [CalTime.next, calLast, monthDays, h]

/-- A time and no wrap, valid and one second after another time (R96). -/
structure OneSecondOn (c : CalTime) (p : CalTime × Bool) : Prop where
  /-- the calendar did not wrap -/
  noWrap : p.2 = false
  /-- the time is one a set may carry -/
  valid : p.1.valid = true
  /-- it is one second later -/
  later : p.1.secs = c.secs + 1

/-- After the last second of a day comes the first of the next, of whatever date that is. -/
theorem oneSecondOn_newDay {c d : CalTime} (hend : c.hour = 23 ∧ c.minute = 59 ∧ c.second = 59)
    (hdate : 1 ≤ d.month ∧ d.month ≤ 12 ∧ 1 ≤ d.day ∧ d.day ≤ monthDays d.year d.month ∧ 2000 ≤ d.year ∧ d.year ≤ 2399)
    (hzero : d.hour = 0 ∧ d.minute = 0 ∧ d.second = 0) (hdays : daysOf d = daysOf c + 1) : OneSecondOn c (d, false) := by
  obtain ⟨hh, hm, hs⟩ := hend
  obtain ⟨zh, zm, zs⟩ := hzero
  refine ⟨rfl, (valid_iff d).2 ⟨by omega, hdate⟩, ?_⟩
  simp only [CalTime.secs, hdays, hh, hm, hs, zh, zm, zs, Nat.add_mul]

section Carries

variable {c : CalTime} (hv : c.valid = true)
include hv

/-- Within a day the seconds, the minutes or the hours move on. -/
theorem oneSecondOn_withinDay {h m sec : Nat} (hh : h ≤ 23) (hm : m ≤ 59) (hs : sec ≤ 59)
    (hone : h * 3600 + m * 60 + sec = c.hour * 3600 + c.minute * 60 + c.second + 1) :
    OneSecondOn c ({ c with hour := h, minute := m, second := sec }, false) := by
  obtain ⟨-, hdate⟩ := (valid_iff c).1 hv
  refine ⟨rfl, (valid_iff _).2 ⟨⟨hs, hm, hh⟩, hdate⟩, ?_⟩
  show daysOf c * 86400 + h * 3600 + m * 60 + sec = daysOf c * 86400 + c.hour * 3600 + c.minute * 60 + c.second + 1
  simpa only [Nat.add_assoc] using congrArg (daysOf c * 86400 + ·) hone

variable (hend : c.hour = 23 ∧ c.minute = 59 ∧ c.second = 59)
include hend

/-- Before the month's last day the day moves on. -/
theorem oneSecondOn_nextDay (h : c.day < monthDays c.year c.month) :
    OneSecondOn c ({ c with second := 0, minute := 0, hour := 0, day := c.day + 1 }, false) := by
  obtain ⟨-, hdate⟩ := (valid_iff c).1 hv
  refine oneSecondOn_newDay hend ?_ ⟨rfl, rfl, rfl⟩ ?_
  · dsimp only
    omega
  · simp only [daysOf]
    omega

/-- At the end of a month before December the month moves on. -/
theorem oneSecondOn_nextMonth (h : ¬c.day < monthDays c.year c.month) (h12 : c.month < 12) :
    OneSecondOn c ({ c with second := 0, minute := 0, hour := 0, day := 1, month := c.month + 1 }, false) := by
  obtain ⟨-, hdate⟩ := (valid_iff c).1 hv
  refine oneSecondOn_newDay hend ?_ ⟨rfl, rfl, rfl⟩ ?_
  · have hfirst := one_le_monthDays c.year (c.month + 1)
    dsimp only
    omega
  · have hmonth := daysBeforeMonth_succ c.year (m := c.month) (by omega)
    simp only [daysOf]
    omega

/-- At the end of December the year moves on, but for the range's last. -/
theorem oneSecondOn_nextYear (h : ¬c.day < monthDays c.year c.month) (h12 : ¬c.month < 12) (hyear : c.year ≠ 2399) :
    OneSecondOn c ({ year := c.year + 1 }, false) := by
  obtain ⟨-, hdate⟩ := (valid_iff c).1 hv
  refine oneSecondOn_newDay hend ?_ ⟨rfl, rfl, rfl⟩ ?_
  · have hfirst := one_le_monthDays (c.year + 1) 1
    dsimp only
    omega
  · have hdec : c.month = 12 := by omega
    have hlen : monthDays c.year 12 = 31 := rfl
    have hdays := daysBeforeYear_succ (y := c.year) (by omega)
    have hlast := daysBeforeMonth_december c.year
    have hjan : daysBeforeMonth (c.year + 1) 1 = 0 := rfl
    rw [hdec, hlen] at h hdate
    simp only [daysOf, hdec, hjan]
    omega

end Carries

/-- A valid time other than the last is followed by the valid time one second later (R96). -/
theorem next_of_valid {c : CalTime} (hv : c.valid = true) (hc : c ≠ calLast) : OneSecondOn c c.next := by
  have hr := (valid_iff c).1 hv
  unfold CalTime.next
  rw [if_neg hc]
  by_cases hs : c.second < 59
  · rw [if_pos hs]
    exact oneSecondOn_withinDay hv (by omega) (by omega) (by omega) (by omega)
  rw [if_neg hs]
  by_cases hm : c.minute < 59
  · rw [if_pos hm]
    exact oneSecondOn_withinDay hv (by omega) (by omega) (by omega) (by omega)
  rw [if_neg hm]
  by_cases hh : c.hour < 23
  · rw [if_pos hh]
    exact oneSecondOn_withinDay hv (by omega) (by omega) (by omega) (by omega)
  rw [if_neg hh]
  by_cases hd : c.day < monthDays c.year c.month
  · rw [if_pos hd]
    exact oneSecondOn_nextDay hv (by omega) hd
  rw [if_neg hd]
  by_cases hmo : c.month < 12
  · rw [if_pos hmo]
    exact oneSecondOn_nextMonth hv (by omega) hd hmo
  · rw [if_neg hmo]
    refine oneSecondOn_nextYear hv (by omega) hd hmo (fun hlast => hc ?_)
    have hdec : c.month = 12 := by omega
    have hlen : monthDays c.year 12 = 31 := rfl
    rw [hdec, hlen] at hd hr
    exact (CalTime.mk.injEq ..).mpr ⟨hlast, hdec, by omega, by omega, by omega, by omega⟩

/-- The last second of the range is followed by 2000-01-01, with a wrap (R96). -/
theorem next_calLast : calLast.next = ({}, true) := if_pos rfl

end NextSecond

/-- At the last second the calendar wraps, sets CAL_WRAP and raises its event (R96). -/
theorem exec_calWrap_last {s : State} (h : s.time.cal = calLast) : exec .calWrap s =
    .next ((s.setTime (fun t => { t with sub := 0, cal := {}, calWrap := true })).raise 0x050 0) := by
  show execCalWrap s = _
  simp only [execCalWrap, h, if_true, State.addSecond, next_calLast, Bool.or_true]
  rfl

/-- Settles O55: the arithmetic of R96 by its lemmas above, and the wrap by its command. -/
theorem theCalendarFollowsTheGregorianRule : Obligations.TheCalendarFollowsTheGregorianRule := by
  refine ⟨leapYear_iff, by decide, by decide, by decide, by decide, fun y => next_february, fun c hv hc => ?_, next_calLast,
    fun s h => ⟨_, 0, exec_calWrap_last h, rfl, rfl⟩, by decide, by decide, by decide, fun d => ?_⟩
  · obtain ⟨hwrap, hvalid, hlater⟩ := next_of_valid hv hc
    exact ⟨hwrap, hvalid, hlater⟩
  · unfold dayOfWeek
    omega

end Sys2Proof.Machine.TimeScales

/-! PROOFS. The legal calendar's commands: sets, shifts, holds, discipline, trim, oscillator and offset table (R96 to R108). -/

namespace Sys2Proof.Machine.TimeScales

section Sets

variable {s : State} {r : Req} {arg : Bytes} {o : ObjRow}

/-- A valid set outside the lockout waits for its tick (R97, R98). -/
theorem exec_setCalendar_waits (h : s.starts r 0x320100 arg o) (ha : setArgOk arg = true) (hl : s.time.lockout = false) :
    exec (.setCalendar r arg) s =
      .next (({ s with time := { s.time with pendSet := some (CalTime.ofBcd7 arg, some (r, true)) } } : State).begins 0x320100
        (s.itemOf r o)) :=
  congrArg Host.Outcome.next (command_running h (by simp [setCalendarBody, ha, hl]))

/-- An invalid set is flagged, raised and refused (R97). -/
theorem exec_setCalendar_invalid (h : s.starts r 0x320100 arg o) (ha : setArgOk arg = false) : exec (.setCalendar r arg) s =
    .next ((({ s with time := { s.time with setErr := true } } : State).raise 0x051 0).respond r (.abort .valueInvalid)) :=
  congrArg Host.Outcome.next (command_refused h (by simp [setCalendarBody, ha]))

/-- What a set that takes effect leaves of time (R98, R287). -/
theorem applySet_time (c : CalTime) (who : Option (Req × Bool)) : ∃ (adjust : List Int) (dst : Int), (s.applySet c who).time =
    { s.time with
      cal := c, sub := 0, osf := false, calWrap := false, setErr := false, diverged := false, untrusted := false
      hold := none, pendSet := none, discSet := none, adjust := adjust, dst := dst } := by
  refine ⟨s.time.adjust ++ [((c.secs : Int) - s.time.cal.secs) * 32768 - s.time.sub.toNat], (s.applySet c who).time.dst, ?_⟩
  rcases who with _ | ⟨r, _ | _⟩ <;> simp [State.applySet]

/-- At the tick a pending set takes effect, or else one of the discipline (R98, R100). -/
theorem exec_calendarSetTick_set {c : CalTime} (ho : s.time.oscStopped = false) (hp : s.time.pendShift = none)
    (h : (∃ who, s.time.pendSet = some (c, who)) ∨ (s.time.pendSet = none ∧ s.time.discSet = some c)) :
    ∃ who, exec .calendarSetTick s = .next (s.applySet c who) := by
  have hshift : ∀ who, (s.applySet c who).shiftTick = s.applySet c who := fun who => by
    obtain ⟨adjust, dst, ht⟩ := applySet_time (s := s) c who
    simp [State.shiftTick, ht, hp]
  rcases h with ⟨who, hset⟩ | ⟨hset, hdisc⟩
  · refine ⟨who, ?_⟩
    show execCalendarSetTick s = _
    simp [execCalendarSetTick, ho, hset, hshift]
  · refine ⟨none, ?_⟩
    show execCalendarSetTick s = _
    simp [execCalendarSetTick, ho, hset, hdisc, hshift]

end Sets

section Shifts

variable {s : State} {n : Int}

/-- A shift forward that does not pass a second moves the sub-second count (R99). -/
theorem shift_forward (hn : 0 ≤ n) (hfit : (s.time.sub.toNat : Int) + n < 32768) : s.shift n = { s with time := { s.time with
    sub := BitVec.ofNat 15 (s.time.sub.toNat + n.toNat), adjust := s.time.adjust ++ [n] } } := by
  have hcount : s.time.sub.toNat + n.toNat < 32768 := by omega
  simp [State.shift, State.addSub, hn, hcount]

/-- With no set waiting the tick applies a waiting shift alone (R99). -/
theorem exec_calendarSetTick_shift (hset : s.time.pendSet = none) (hdisc : s.time.discSet = none)
    (ho : s.time.oscStopped = false) : exec .calendarSetTick s = .next s.shiftTick := by
  show execCalendarSetTick s = _
  simp [execCalendarSetTick, hset, hdisc, ho]

/-- A waiting shift leaves of time what the shift itself leaves (R99). -/
theorem shiftTick_time {who : Option Req} (h : s.time.pendShift = some (n, who)) :
    s.shiftTick.time = ((s.setTime (fun t => { t with pendShift := none })).shift n).time := by
  cases who <;> simp [State.shiftTick, h]

theorem exec_subSecondShift_forward {r : Req} {arg : Bytes} {o : ObjRow} (h : s.starts r 0x320200 arg o)
    (harg : n = toSigned 16 (leNat arg)) (hn : 0 < n) (hl : s.time.lockout = false) (hh : s.time.hold = none)
    (ho : s.time.oscStopped = false) : exec (.subSecondShift r arg) s =
      .next (((s.shift n).mirror .configuration 0x320200 arg).succeeds r 0x320200 (s.itemOf r o)) := by
  refine congrArg Host.Outcome.next (command_done h ?_)
  have hmin : ¬n < -32767 := by omega
  simp [subSecondShiftBody, ← harg, hmin, Int.ne_of_gt hn, hl, hh, ho]

/-- Refusing what waits leaves of time that nothing waits (R98, R99). -/
theorem refusePending_time (s : State) : s.refusePending.time = { s.time with pendSet := none, pendShift := none } := by
  unfold State.refusePending
  extract_lets s1 s2
  have hset : s1.time = s.time := by
    unfold s1
    split <;> simp
  have hshift : s2.time = s1.time := by
    unfold s2
    split <;> simp
  exact congrArg (fun t : TimeState => { t with pendSet := none, pendShift := none }) (hshift.trans hset)

end Shifts

/-- The count of seconds starts with the first second of the range (R95). -/
theorem secs_first : ({} : CalTime).secs = 0 := by decide

section Discipline

variable {s : State}

/-- In mode 1 a divergence of a second and more is flagged and raised (R100). -/
theorem exec_calendarDiscipline_diverges (hm : s.cfgN 0x320300 = 1) (hs : s.time.sync = .locked) (hl : s.time.lockout = false)
    (ho : s.time.oscStopped = false) (hfar : (1000000000 : Int) ≤ ((s.legalNs - s.time.calNs).natAbs : Int))
    (hd : s.time.diverged = false) : exec .calendarDiscipline s =
      .next (({ s with time := { s.time with diverged := true } } : State).raise 0x052 ((s.legalNs - s.time.calNs) / 1000000)) := by
  have hnear : ¬(s.legalNs - s.time.calNs).natAbs < 1000000000 := by omega
  show execCalendarDiscipline s = _
  simp [execCalendarDiscipline, State.discipline, hm, hs, hl, ho, hnear, hd]

/-- While network time is not LOCKED a window teaches nothing (R101). -/
theorem exec_trimWindowEnd_unlocked {x : BitVec 16} {e : Nat} (hs : s.time.sync ≠ .locked) : exec (.trimWindowEnd x e) s =
    .next { s with time := { s.time with trimMram := s.time.trim, trimFed := [] } } := by
  show execTrimWindowEnd x e s = _
  simp [execTrimWindowEnd, hs]

theorem exec_relearnTrim_done {r : Req} {arg : Bytes} {o : ObjRow} (h : s.starts r 0x320404 arg o) (hl : s.time.lockout = false) :
    exec (.relearnTrim r arg) s =
      .next (({ s with time := { s.time with trim := [] } } : State).succeeds r 0x320404 (s.itemOf r o)) :=
  congrArg Host.Outcome.next (command_done h (by simp [hl]))

theorem exec_dstTableLow_raises (h : dstLast s ≠ 0) (hd : (dstLast s : Int) - (s.time.cal.secs / 60 : Nat) < 366 * 1440) :
    exec .dstTableLow s = .next (s.raise 0x054 (((dstLast s : Int) - (s.time.cal.secs / 60 : Nat)) / 1440)) :=
  congrArg Host.Outcome.next (if_pos ⟨h, hd⟩)

end Discipline

/-- Settles O11: the branch that each clause names, and what it leaves of time. -/
theorem calendarSetsShiftsAndTrims : Obligations.CalendarSetsShiftsAndTrims := by
  refine ⟨fun s r arg o => exec_setCalendar_waits, fun s r arg o => exec_setCalendar_invalid, fun s c h ho hp => ?_,
    fun s n who hset hdisc ho hp hn hfit => ⟨_, exec_calendarSetTick_shift hset hdisc ho, ?_⟩,
    fun s => ⟨_, rfl, refusePending_time s⟩,
    fun s r arg o n h harg hn hl hh ho hfit => ⟨_, exec_subSecondShift_forward h harg hn hl hh ho, shift_forward (Int.le_of_lt hn) hfit⟩,
    fun s => rfl, fun s h => ⟨_, exec_calWrap_last h, rfl, rfl, rfl, rfl, rfl, secs_first⟩,
    fun s h => congrArg Host.Outcome.next (if_pos (.inl h)), fun s => exec_calendarDiscipline_diverges, fun s x => rfl,
    fun s x e => exec_trimWindowEnd_unlocked, fun s r arg o => exec_relearnTrim_done, fun s => rfl, fun s => rfl, fun s => rfl,
    fun s => exec_dstTableLow_raises⟩
  · obtain ⟨who, hexec⟩ := exec_calendarSetTick_set ho hp h
    obtain ⟨adjust, dst, ht⟩ := applySet_time (s := s) c who
    exact ⟨_, hexec, by simp [ht]⟩
  · rw [shiftTick_time hp, shift_forward hn (by simpa using hfit)]
    simp

end Sys2Proof.Machine.TimeScales

/-! PROOFS. The state right after reset: the fuses (R111). -/

namespace Sys2Proof.Machine.TimeScales

/-- A fuse array with nothing blown (R111). -/
def noFuses : Fuses := ⟨0, false, 0, false, false, 0, 0, 0, 0, 0, 0, 0⟩

/-- ROOT_LOCK is blown at the factory, so it is blown right after reset (R111). -/
theorem reset_not_within_noFuses : ¬ State.reset.trust.fuses.within noFuses := by
  rintro ⟨-, -, -, hroot, -⟩
  exact absurd (hroot rfl) (by decide)

/-- Refutes O49: the reset state has ROOT_LOCK blown, and SERIAL, ROOT and the vendor key hashes 1 (log entry 2), so its fuses are
not within an array with nothing blown. -/
theorem not_resetLeavesTheStatedValues : ¬ Obligations.ResetLeavesTheStatedValues := by
  rintro ⟨-, -, -, -, -, -, hfuses, -⟩
  exact reset_not_within_noFuses (hfuses noFuses)

end Sys2Proof.Machine.TimeScales

/-! SUPPORT. The scheduler: the items of a flow after each change of them, the item of a core, and the record of the scheduler
without the accounts, which charging and the checks of a delivered frame leave as it is (R206 to R220). -/

namespace Sys2Proof.Machine.Scheduling

section Items

variable (s : State) (f : Nat)

@[simp] theorem setItems_items (l : List Item) : (s.setItems f l).items f = l := by
  unfold State.items State.setItems
  split
  · next h => simp [h, tblGet]
  · simp

@[simp] theorem setItem_items (id : Nat) (g : Item → Item) :
    (s.setItem f id g).items f = (s.items f).map (fun x => if x.id = id then g x else x) :=
  setItems_items s f _

@[simp] theorem append_items (it : Item) (d : Bool) : (s.append f it d).items f = s.items f ++ [it] :=
  setItems_items s f _

end Items

section Cores

/-- A place of a list that is given its own default reads as the default, inside the list and outside. -/
theorem getD_listUpd_const {α : Type} (d : α) (l : List α) (n : Nat) : (listUpd l n (fun _ => d)).getD n d = d := by
  induction l generalizing n with
  | nil => rfl
  | cons x l ih =>
    cases n with
    | zero => rfl
    | succ n => exact ih n

variable {s t : State} {c f since : Nat} {it : Item}

/-- No item runs on a core that was set free (R209). -/
theorem onCore_of_freed {l : List (Option (Nat × Nat))} (h : s.cas.cores = listUpd l c (fun _ => none)) : s.onCore c = none := by
  unfold State.onCore
  rw [h, getD_listUpd_const]

/-- What a state says of the scheduler, without the accounts. -/
def unbudgeted (s : State) : CasState := { s.cas with accts := [] }

theorem items_congr (h : unbudgeted t = unbudgeted s) (f : Nat) : t.items f = s.items f := by
  have hflows : t.cas.flows = s.cas.flows := (congrArg CasState.flows h :)
  unfold State.items
  rw [hflows]

theorem cores_congr (h : unbudgeted t = unbudgeted s) : t.cas.cores = s.cas.cores := (congrArg CasState.cores h :)

theorem onCore_congr (h : unbudgeted t = unbudgeted s) (c : Nat) : t.onCore c = s.onCore c := by
  unfold State.onCore
  simp only [cores_congr h, items_congr h]

end Cores

section Charging

variable (s : State)

@[simp] theorem charge_unbudgeted (a r n : Nat) : unbudgeted (s.charge a r n) = unbudgeted s := by
  unfold State.charge
  split <;> rfl

@[simp] theorem raise_unbudgeted (code : Nat) (m : Int) : unbudgeted (s.raise code m) = unbudgeted s :=
  charge_unbudgeted _ 11 0 200

@[simp] theorem chargeOpen_unbudgeted (p a r : Nat) : unbudgeted (s.chargeOpen p a r) = unbudgeted s :=
  charge_unbudgeted _ a r _

@[simp] theorem usePage_unbudgeted (page a n : Nat) : unbudgeted (s.usePage page a n) = unbudgeted s := by
  simp only [State.usePage]
  split
  · simp
  · split
    · rfl
    · exact charge_unbudgeted _ a 3 1

/-- A charge leaves the overruns that an account has counted (R220). -/
@[simp] theorem charge_overruns (a r n b : Nat) : ((s.charge a r n).acct b).overruns = (s.acct b).overruns := by
  have htake : ∀ (t : State) (a n : Nat) (w : Bool), ((t.take a r n w).acct b).overruns = (t.acct b).overruns := by
    intro t a n w
    unfold State.acct State.take
    by_cases hb : b = a
    · simp [hb]
    · simp [tblGet_upd_ne _ _ _ hb]
  unfold State.charge
  split <;> simp only [htake]

end Charging

section Runs

variable (s : State) (c f : Nat) (it : Item) (since : Nat)

/-- Charging a run adds to the core's time of the period alone (R219, R227). -/
theorem chargeRun_unbudgeted : unbudgeted (s.chargeRun c f it since) =
    { s.cas with accts := [], busy := listUpd s.cas.busy c (· + ticksNs (s.time.mono - since)) } := by
  have h := charge_unbudgeted s (s.itemAcct f it) 0 (ticksNs (s.time.mono - since))
  exact congrArg (fun x : CasState => { x with busy := listUpd x.busy c (· + ticksNs (s.time.mono - since)) }) h

@[simp] theorem chargeRun_flows : (s.chargeRun c f it since).cas.flows = s.cas.flows :=
  (congrArg CasState.flows (chargeRun_unbudgeted s c f it since) :)

@[simp] theorem chargeRun_items (g : Nat) : (s.chargeRun c f it since).items g = s.items g := by
  unfold State.items
  rw [chargeRun_flows]

@[simp] theorem chargeRun_preempts : (s.chargeRun c f it since).cas.preempts = s.cas.preempts :=
  (congrArg CasState.preempts (chargeRun_unbudgeted s c f it since) :)

@[simp] theorem chargeRun_firstPeriod : (s.chargeRun c f it since).cas.firstPeriod = s.cas.firstPeriod :=
  (congrArg CasState.firstPeriod (chargeRun_unbudgeted s c f it since) :)

@[simp] theorem chargeRun_overruns (a : Nat) : ((s.chargeRun c f it since).acct a).overruns = (s.acct a).overruns :=
  charge_overruns s _ 0 _ a

variable {s c f it since}

/-- A run that ends leaves its core free (R209). -/
theorem endRun_onCore (h : s.onCore c = some (f, it, since)) (g : Item → Item) : (s.endRun c g).onCore c = none := by
  simp only [State.endRun, h]
  exact onCore_of_freed rfl

/-- A run that ends changes its item in its flow (R209). -/
theorem endRun_items (h : s.onCore c = some (f, it, since)) (g : Item → Item) :
    (s.endRun c g).items f = (s.items f).map (fun x => if x.id = it.id then g x else x) := by
  simp only [State.endRun, h]
  exact (setItem_items _ f it.id g).trans (by rw [chargeRun_items])

/-- A pre-emption sets the core of its item free and is counted (R211, R227). -/
theorem preempt_cores (h : s.onCore c = some (f, it, since)) :
    (s.preempt c).cas.cores = listUpd (s.chargeRun c f it since).cas.cores c (fun _ => none) := by
  simp only [State.preempt, h]
  rfl

theorem preempt_preempts (h : s.onCore c = some (f, it, since)) : (s.preempt c).cas.preempts = s.cas.preempts + 1 := by
  simp only [State.preempt, h]
  exact congrArg (· + 1) (chargeRun_preempts s c f it since)

theorem preempt_accts (h : s.onCore c = some (f, it, since)) :
    (s.preempt c).cas.accts = (s.chargeRun c f it since).cas.accts := by
  simp only [State.preempt, h]
  rfl

end Runs

section Verdict

@[simp] theorem setCtx_unbudgeted (s : State) (h : Nat) (g : Ctx → Ctx) : unbudgeted (s.setCtx h g) = unbudgeted s := by
  simp [unbudgeted]

@[simp] theorem setEntry_unbudgeted (s : State) (q : U64) (g : JEntry → JEntry) :
    unbudgeted (s.setEntry q g) = unbudgeted s := rfl

@[simp] theorem touchSlot_unbudgeted (s : State) (h : Nat) : unbudgeted (s.touchSlot h) = unbudgeted s := by
  unfold State.touchSlot
  split <;> rfl

@[simp] theorem noteHandle_unbudgeted (s : State) (h : Nat) : unbudgeted (s.noteHandle h) = unbudgeted s := by
  unfold State.noteHandle
  split <;> rfl

@[simp] theorem evictCtx_unbudgeted (s : State) : unbudgeted s.evictCtx = unbudgeted s := by
  unfold State.evictCtx
  split
  · rfl
  · split
    · rfl
    · dsimp only
      split
      · exact charge_unbudgeted s 1 2 2
      · rfl

/-- The slot a key is loaded into is taken without the scheduler. -/
theorem claimSlot_unbudgeted {s t : State} {h n : Nat} (hc : s.claimSlot h = some (n, t)) : unbudgeted t = unbudgeted s := by
  unfold State.claimSlot at hc
  split at hc
  · cases hc
    rfl
  · split at hc
    · cases hc
      rfl
    · split at hc
      · cases hc
      · split at hc
        · cases hc
        · cases hc
          rfl

@[simp] theorem loadKey_unbudgeted (s : State) (h : Nat) : unbudgeted (s.loadKey h).2 = unbudgeted s := by
  simp only [State.loadKey]
  split
  · simp
  · split
    · rfl
    · split
      · rfl
      · split
        · simp
        · split
          · rfl
          · next hc =>
            simp only [chargeOpen_unbudgeted, usePage_unbudgeted, touchSlot_unbudgeted]
            exact (claimSlot_unbudgeted hc :)

@[simp] theorem fetchRemote_unbudgeted (s : State) (h : Nat) : unbudgeted (s.fetchRemote h) = unbudgeted s := by
  simp only [State.fetchRemote]
  split
  · rfl
  · split
    · rfl
    · simp only [noteHandle_unbudgeted, loadKey_unbudgeted, charge_unbudgeted]
      split
      · exact evictCtx_unbudgeted s
      · rfl

@[simp] theorem findCtx_unbudgeted (s : State) (h : Nat) : unbudgeted (s.findCtx h).2 = unbudgeted s := by
  simp only [State.findCtx]
  split
  · dsimp only
    split <;> rfl
  · dsimp only
    split <;> simp

@[simp] theorem apduVerdict_unbudgeted (s : State) (e : JEntry) (c : Ctx) (n : U32) :
    unbudgeted (s.apduVerdict e c n).2 = unbudgeted s := by
  unfold State.apduVerdict
  split <;> simp

/-- The verdict of R200 charges accounts and changes nothing else of the scheduler. -/
@[simp] theorem judgeApdu_unbudgeted (s : State) (q : U64) : unbudgeted (s.judgeApdu q).2 = unbudgeted s := by
  simp only [State.judgeApdu]
  split
  · rfl
  · split
    · rfl
    · rfl
    · split
      · rfl
      · split <;> simp

@[simp] theorem judgeRun_unbudgeted (s : State) (c : Nat) : unbudgeted (s.judgeRun c).2 = unbudgeted s := by
  unfold State.judgeRun
  split
  · rfl
  · split <;> simp

end Verdict

end Sys2Proof.Machine.Scheduling

/-! PROOFS. Enqueues, dispatch reads, release statuses and delay lists of the cascade (R206 to R214). -/

namespace Sys2Proof.Machine.Scheduling

section Enqueue

variable {s : State}

/-- Taking the producing item's account changes at most the count of open values (R206, log entry 60). -/
theorem producer_opens (s : State) : ∃ n, s.producer.2 = { s with opens := n } := by
  simp only [State.producer]
  split
  · exact ⟨s.opens, rfl⟩
  · exact ⟨s.opens + 1, rfl⟩

/-- A state with one more FULL return counted at a queue (R208, R227). -/
def countFull (s : State) (q : Nat) : State :=
  { s with cas := { s.cas with queues := tblUpd {} s.cas.queues q (fun x => { x with full := x.full + 1 }) } }

theorem countFull_full (s : State) (q : Nat) :
    (tblGet {} (countFull s q).cas.queues q).full = (tblGet {} s.cas.queues q).full + 1 := by
  simp [countFull]

section Direct

variable {f kind : Nat} (acct key ref : Nat) (tel : Bool)

/-- An unknown kind is INVALID, and nothing is queued (R208). -/
theorem enqueue_invalid (hk : kind = 0 ∨ 4 < kind) : s.enqueue acct f kind key ref tel = (.invalid, s) := by
  have hinv : kind = 0 ∨ 4 < kind ∨ (kind = 4 ∧ ref = 0) ∨ s.queueAcct (s.queueOf f) = 0 := hk.imp_right .inl
  simp only [State.enqueue, if_pos hinv]

variable (h1 : 1 ≤ kind) (h3 : kind ≤ 3) (hbound : s.queueAcct (s.queueOf f) ≠ 0)

include h1 h3 hbound

/-- A descriptor of kind 1 to 3 for a bound queue is judged by its queue's depth, then by the pool (R208). -/
theorem enqueue_bound : s.enqueue acct f kind key ref tel =
    if s.cfgN 0x901104 (s.queueOf f) ≤ s.depth (s.queueOf f) then (.full, countFull s (s.queueOf f))
    else if 49152 ≤ s.poolTaken then (.poolEmpty, { s with cas := { s.cas with poolEmpty := s.cas.poolEmpty + 1 } })
    else (.ok, s.append f (mkItem s acct kind key ref tel false) true) := by
  have h0 : kind ≠ 0 := by omega
  have h4 : kind ≠ 4 := by omega
  have hle : ¬4 < kind := by omega
  simp [State.enqueue, h0, h4, hle, hbound, countFull]

/-- A full queue answers FULL and counts it (R208). -/
theorem enqueue_full (hfull : s.cfgN 0x901104 (s.queueOf f) ≤ s.depth (s.queueOf f)) :
    s.enqueue acct f kind key ref tel = (.full, countFull s (s.queueOf f)) := by
  rw [enqueue_bound acct key ref tel h1 h3 hbound, if_pos hfull]

/-- With room in the queue and a free descriptor the item joins its flow's tail (R208). -/
theorem enqueue_room (hroom : s.depth (s.queueOf f) < s.cfgN 0x901104 (s.queueOf f)) (hpool : s.poolTaken < 49152) :
    s.enqueue acct f kind key ref tel = (.ok, s.append f (mkItem s acct kind key ref tel false) true) := by
  rw [enqueue_bound acct key ref tel h1 h3 hbound, if_neg (Nat.not_le.mpr hroom), if_neg (Nat.not_le.mpr hpool)]

end Direct

variable (f : BitVec 12) (k : U8) (tel : Bool) (key : Handle) (ref : U64)

/-- A direct ENQUEUE takes the producing item's account, and then dispatches what is ready (R206, R208, R211). -/
theorem exec_enqueue_direct {n : Nat} {e : EnqStatus} {t : State} (hp : s.producer.2 = { s with opens := n })
    (he : ({ s with opens := n } : State).enqueue s.producer.1 f.toNat k.toNat key.toNat ref.toNat tel = (e, t)) :
    exec (.enqueue f k tel key ref none) s = .next (t.setStatus e).schedule := by
  show Host.Outcome.next ((s.producer.2.enqueue s.producer.1 f.toNat k.toNat key.toNat ref.toNat tel).2.setStatus
    (s.producer.2.enqueue s.producer.1 f.toNat k.toNat key.toNat ref.toNat tel).1).schedule = _
  rw [hp, he]

/-- A state with an item put into a delay list, its descriptor taken from the pool (R214). -/
def delayed (s : State) (l : Nat) (x : Nat × Nat × Item) : State :=
  { s with cas := { s.cas with
      nextId := s.cas.nextId + 1
      inUse := s.cas.inUse + 1
      delay := tblPut s.cas.delay l (delayInsert l (s.listTick l) x (tblGet [] s.cas.delay l)) } }

/-- A delayed ENQUEUE with its due value ahead and in range puts the item into its list (R214). -/
theorem exec_enqueue_delayed {n due : Nat} {l : Fin 4} (hp : s.producer.2 = { s with opens := n }) (h1 : 1 ≤ k.toNat)
    (h4 : k.toNat ≤ 4) (hnotif : k.toNat = 4 → ref ≠ 0) (hbound : s.queueAcct (s.queueOf f.toNat) ≠ 0)
    (hahead : dueAhead l.val due (s.listTick l.val) = true) (hrange : dueInRange l.val due (s.listTick l.val) = true)
    (hpool : s.poolTaken < 49152) : exec (.enqueue f k tel key ref (some (l, due))) s =
      .next ((delayed { s with opens := n } l.val
        (due, f.toNat, mkItem s s.producer.1 k.toNat key.toNat ref.toNat tel true)).setStatus .ok) := by
  have hk0 : k ≠ 0 := by
    rintro rfl
    simp at h1
  have hk4 : ¬4 < k := by
    rw [BitVec.lt_def]
    exact Nat.not_lt.mpr h4
  have hk : ¬(k = 4 ∧ ref = 0) := fun h => hnotif (by rw [h.1]; rfl) h.2
  show execEnqueue f k tel key ref (some (l, due)) s = _
  simp only [execEnqueue, hahead, hk0, hk4, hk, hbound, hrange, hp, Nat.not_le.mpr hpool, Bool.not_true, Bool.false_eq_true,
    if_false]
  rfl

end Enqueue

section Dispatch

variable {s : State} {c : Fin 4}

/-- A free core is given the item that Cascade picks (R209, R210). -/
theorem exec_dispatchRead_picked {f : Nat} {it : Item} (hfree : s.onCore c.val = none) (hd : s.dispatches = true)
    (hp : s.pick c.val = some (f, it)) : exec (.dispatchRead c) s = .next (s.dispatchTo c.val f it).schedule := by
  show execDispatchRead c s = _
  simp [execDispatchRead, hfree, hd, hp]

/-- A read that finds nothing stalls (R209, R332). -/
theorem exec_dispatchRead_stalls (hfree : s.onCore c.val = none) (hnone : s.dispatches = false ∨ s.pick c.val = none)
    (hnew : s.cas.stalled.contains c.val = false) :
    exec (.dispatchRead c) s = .next { s with cas := { s.cas with stalled := s.cas.stalled ++ [c.val] } } := by
  have hpick : (if s.dispatches then s.pick c.val else none) = none := by
    rcases hnone with h | h <;> simp [h]
  show execDispatchRead c s = _
  simp only [execDispatchRead, hfree, hpick, hnew, Option.isSome_none, Bool.false_eq_true, if_false]

/-- A core that runs reads nothing (R209). -/
theorem exec_dispatchRead_busy (hbusy : (s.onCore c.val).isSome = true) : exec (.dispatchRead c) s = .next s :=
  congrArg Host.Outcome.next (if_pos hbusy)

end Dispatch

section Delay

variable {s : State} {l : Fin 4} {ahead : List (Nat × Nat × Item)}

/-- DELAY_DUE keeps the items still ahead in the list, puts the due ones on their flows, and dispatches what is ready
(R211, R214). -/
theorem exec_delayDue {due : List (Nat × Nat × Item)}
    (h : splitDue l.val (s.listTick l.val) (tblGet [] s.cas.delay l.val) = (due, ahead)) : exec (.delayDue l) s =
      .next (due.foldl (fun (t : State) x => t.joinFlow x.2.1 x.2.2)
        { s with cas := { s.cas with delay := tblPut s.cas.delay l.val ahead } }).schedule := by
  show execDelayDue l s = _
  simp only [execDelayDue, h]

end Delay

section Status

variable {s u : State} {c : Fin 4} {f since : Nat} {it : Item} {d : Bool}

/-- The check of a delivered frame leaves the item on its core, and the items of its flow (R200). -/
theorem judgeRun_onCore (h : s.judgeRun c.val = (d, u)) : u.onCore c.val = s.onCore c.val :=
  onCore_congr (by rw [← judgeRun_unbudgeted s c.val, h]) _

theorem judgeRun_items (h : s.judgeRun c.val = (d, u)) : u.items f = s.items f :=
  items_congr (by rw [← judgeRun_unbudgeted s c.val, h]) _

end Status

/-- Settles O22: the branch that each clause names, and the items of the flow that it changes. -/
theorem flowsQueuesAndCores : Obligations.FlowsQueuesAndCores := by
  refine ⟨fun s f k tel key ref h1 h3 hbound hroom hpool => ?_, fun s f k tel key ref h1 h3 hbound hfull => ?_,
    fun s f k tel key ref hk => ?_, fun s f k tel key ref l due h1 h4 hnotif hbound hahead hrange hpool => ?_,
    fun s c f it hfree hd hp => ⟨_, exec_dispatchRead_picked hfree hd hp, rfl, rfl, setItem_items _ f it.id _, rfl, rfl⟩,
    fun s c => exec_dispatchRead_stalls, fun s c => exec_dispatchRead_busy,
    fun s c f since it h => ⟨_, rfl, endRun_onCore h _, endRun_items h _⟩,
    fun s u c f since it d w l h hj hl => ⟨?_, ⟨_, rfl, endRun_onCore h _, endRun_items h _⟩⟩,
    fun s l ahead h => ⟨_, exec_delayDue h, rfl, tblGet_put_same _ _ _ _⟩,
    fun s l due f it ahead h => ⟨_, exec_delayDue h, tblGet_put_same _ _ _ _, append_items _ f _ false, rfl⟩⟩
  · obtain ⟨n, hp⟩ := producer_opens s
    exact ⟨_, exec_enqueue_direct f k tel key ref hp (enqueue_room _ _ _ _ h1 h3 hbound hroom hpool), rfl,
      append_items { s with opens := n } f.toNat _ true, rfl, rfl, rfl⟩
  · obtain ⟨n, hp⟩ := producer_opens s
    exact ⟨_, exec_enqueue_direct f k tel key ref hp (enqueue_full _ _ _ _ h1 h3 hbound hfull), rfl, rfl, rfl,
      countFull_full { s with opens := n } (s.queueOf f.toNat)⟩
  · obtain ⟨n, hp⟩ := producer_opens s
    exact ⟨_, exec_enqueue_direct f k tel key ref hp (enqueue_invalid _ _ _ _ (hk.imp_left (by rintro rfl; rfl))), rfl, rfl⟩
  · obtain ⟨n, hp⟩ := producer_opens s
    exact ⟨_, exec_enqueue_delayed f k tel key ref hp h1 h4 hnotif hbound hahead hrange hpool, rfl, rfl,
      tblGet_put_same _ _ _ _⟩
  · subst hl
    have hu := (judgeRun_onCore hj).trans h
    refine ⟨_, rfl, ?_, ?_⟩ <;> rw [hj]
    · exact endRun_onCore hu _
    · rw [endRun_items hu, judgeRun_items hj]

end Sys2Proof.Machine.Scheduling

/-! PROOFS. Overruns, exhausted accounts and the period boundary (R217 to R220, R380). -/

namespace Sys2Proof.Machine.Scheduling

section Overrun

variable {s : State} {c : Fin 4} {f since : Nat} {it : Item}

/-- A state with an overrun of an account counted, in the running period too (R220). -/
def countOverrun (s : State) (a : Nat) : State :=
  { s with cas := { s.cas with
      accts := tblUpd {} s.cas.accts a (fun x => { x with overruns := x.overruns + 1 }), overrunNow := true } }

theorem countOverrun_overruns (s : State) (a : Nat) : ((countOverrun s a).acct a).overruns = (s.acct a).overruns + 1 := by
  simp [countOverrun, State.acct]

/-- An overrun pre-empts the item of a running core and is counted and raised for its account (R220). -/
theorem exec_budgetOverrun_running (h : s.onCore c.val = some (f, it, since)) : exec (.budgetOverrun c) s =
    .next ((countOverrun (s.preempt c.val) (s.itemAcct f it)).raise 0x0E0 (s.itemAcct f it)).schedule := by
  show execBudgetOverrun c s = _
  simp only [execBudgetOverrun, h]
  rfl

/-- On a core that runs nothing there is no overrun (R220). -/
theorem exec_budgetOverrun_idle (h : s.onCore c.val = none) : exec (.budgetOverrun c) s = .next s := by
  show execBudgetOverrun c s = _
  simp only [execBudgetOverrun, h]

/-- A pre-emption leaves the overruns that an account has counted (R211, R220). -/
theorem preempt_overruns (h : s.onCore c.val = some (f, it, since)) (a : Nat) :
    ((s.preempt c.val).acct a).overruns = (s.acct a).overruns := by
  rw [← chargeRun_overruns s c.val f it since a]
  simp only [State.acct, preempt_accts h]

end Overrun

section Exhausted

variable {s : State} {a : Fin 16} {r : Fin 4}

/-- A state with an account marked as exhausted (R219). -/
def exhausted (s : State) (a : Nat) : State :=
  { s with cas := { s.cas with accts := tblUpd {} s.cas.accts a (fun x => { x with exhausted := true }) } }

theorem exhausted_acct (s : State) (a : Nat) : (exhausted s a).acct a = { s.acct a with exhausted := true } := by
  simp [exhausted, State.acct]

/-- An account with balance left is not exhausted (R219). -/
theorem exec_accountExhausted_left (h : 0 < s.balance a.val r.val) : exec (.accountExhausted a r) s = .next s :=
  congrArg Host.Outcome.next (if_pos h)

theorem exec_accountExhausted_out (h : s.balance a.val r.val ≤ 0) :
    exec (.accountExhausted a r) s = .next (exhausted s a.val) :=
  congrArg Host.Outcome.next (if_neg (Int.not_lt.mpr h))

end Exhausted

section Boundary

variable {s : State}

/-- While main reset is asserted or the memory island is held, and where none is due, there is no boundary (R217). -/
theorem exec_budgetPeriodBoundary_none (h : s.pwr.inReset = true ∨ s.isUp 3 = false ∨ s.boundaryDue = none) :
    exec .budgetPeriodBoundary s = .next s := by
  have hdue : (if s.pwr.inReset = true ∨ s.isUp 3 = false then none else s.boundaryDue) = none := by
    split
    · rfl
    · next hup => exact h.elim (fun hr => absurd (.inl hr) hup) (·.elim (fun hd => absurd (.inr hd) hup) id)
  show execBudgetPeriodBoundary s = _
  simp only [execBudgetPeriodBoundary, hdue]

/-- A state after the cycle number of its newest crossing has gone to the partner (R380). -/
def mirrorCycle (s : State) : State :=
  s.time.lastStamp.elim s (fun x => s.mirror .timeState 0 (leBytes 5 s.time.cycle.toNat ++ time64 x ++
    leBytes 1 s.time.tracker.code ++ leBytes 1 s.time.sync.code))

/-- The first part of a boundary: values, accounts, bounds, answers and releases (R217 to R219). -/
def boundaryReleases (s : State) (n : Nat) : State :=
  (((s.periodValues).sluiceBoundary n).weirFallback n).answerLate.rewrapRun.releaseDone.showResults

/-- The second part: delivery, pacing, ended erases and the checkpoint (R331, R333). -/
def boundaryCheckpoint (s : State) (n : Nat) : State :=
  ((boundaryReleases s n).deliveryPeriod).pacedAfresh.erasesEnded.startCheckpoint

/-- All that a boundary does, up to the reset that may wait for it (R217 to R220, R380). -/
def boundaryWork (s : State) (n : Nat) : State := (mirrorCycle (boundaryCheckpoint s n)).runInputs.runHost.activationReset

/-- A boundary that is due does its work, and where no reset waits for it nothing more (R217). -/
theorem exec_budgetPeriodBoundary_due {n : Nat} (hr : s.pwr.inReset = false) (hup : s.isUp 3 = true)
    (hdue : s.boundaryDue = some n) (hp : (boundaryWork s n).pwr.atPeriod = none) :
    exec .budgetPeriodBoundary s = .next (boundaryWork s n) := by
  show execBudgetPeriodBoundary s = _
  simp only [execBudgetPeriodBoundary, hr, hup, hdue, Bool.false_eq_true, Bool.true_eq_false, or_self, if_false]
  -- the crossing's number goes to the partner by a match in the command, by `Option.elim` in the statement
  cases hl : (boundaryCheckpoint s n).time.lastStamp <;>
  · simp only [boundaryWork, mirrorCycle, hl, Option.elim] at hp ⊢
    simp only [boundaryCheckpoint, boundaryReleases] at hl hp ⊢
    simp only [hl, hp]

end Boundary

section Sluice

/-- A table of keys with a value each holds it for each of the keys. -/
theorem tblGet_map_of_mem {α : Type} (d : α) (g : Nat → α) {l : List Nat} {a : Nat} (h : a ∈ l) :
    tblGet d (l.map (fun x => (x, g x))) a = g a := by
  induction l with
  | nil => cases h
  | cons x l ih =>
    by_cases hx : x = a
    · simp [tblGet, tblFind?, hx]
    · have hl : a ∈ l := (List.mem_cons.mp h).resolve_left (Ne.symm hx)
      simpa [tblGet, tblFind?, hx] using ih hl

/-- Charging the running items up to the boundary starts no episode of overload (R219, R226). -/
theorem chargeRunning_firstPeriod (s : State) : s.chargeRunning.cas.firstPeriod = s.cas.firstPeriod := by
  refine List.foldlRecOn (motive := fun t : State => t.cas.firstPeriod = s.cas.firstPeriod) _ _ rfl (fun t ht c _ => ?_)
  rw [← ht]
  split
  · rfl
  · next f it since _ => exact chargeRun_firstPeriod t c f it since

/-- Outside the first period of an episode of overload the boundary raises nothing: it counts the period, starts the count of
released items again, and renews every account from what the charged running items left (R217 to R220, R226). -/
theorem sluiceBoundary_renews {s : State} (n : Nat) (h : s.cas.firstPeriod = false) :
    (s.sluiceBoundary n).cas.periods = s.chargeRunning.cas.periods + 1 ∧ (s.sluiceBoundary n).cas.released = 0 ∧
    (s.sluiceBoundary n).cas.periodStart = n ∧
    ∀ a < 16, (s.sluiceBoundary n).acct a = s.chargeRunning.renewAcct (s.sluiceBoundary n).cas.periodLen a := by
  have hf : ¬s.chargeRunning.noteSojourn.cas.firstPeriod = true := by
    rw [Bool.not_eq_true, ← h]
    exact chargeRunning_firstPeriod s
  unfold State.sluiceBoundary
  generalize s.chargeRunning = t at hf ⊢
  dsimp only
  rw [if_neg hf]
  exact ⟨rfl, rfl, rfl, fun a ha => tblGet_map_of_mem _ _ (List.mem_range.mpr ha)⟩

end Sluice

/-- Settles O23: the branch that each clause names, the boundary's work in the order of its parts, and the renewal of the
accounts at its core. -/
theorem accountsAndPeriods : Obligations.AccountsAndPeriods := by
  refine ⟨fun s c f since it h => ⟨_, exec_budgetOverrun_running h, onCore_of_freed (preempt_cores h), preempt_preempts h, rfl,
      by rw [countOverrun_overruns, preempt_overruns h]⟩,
    fun s c => exec_budgetOverrun_idle, fun s a r => exec_accountExhausted_left,
    fun s a r h => ⟨_, exec_accountExhausted_out h, by rw [exhausted_acct], by rw [exhausted_acct],
      by rw [exhausted_acct], rfl⟩,
    fun s => exec_budgetPeriodBoundary_none, fun s u v w n hr hup hdue hu hv hw hp => ?_, fun s n => sluiceBoundary_renews n⟩
  have hv' : v = boundaryCheckpoint s n := by rw [hv, hu, boundaryCheckpoint, boundaryReleases]
  have hwork : w = boundaryWork s n := by rw [hw, boundaryWork, mirrorCycle, ← hv']
  rw [hwork] at hp ⊢
  exact exec_budgetPeriodBoundary_due hr hup hdue hp

end Sys2Proof.Machine.Scheduling

/-! SUPPORT. What the scheduler, the archive, the messages to meters and the meters' own registers and ledgers leave of billing and of
time: one lemma for each function, callees before callers (R208, R272, R284, R301, R329). -/

namespace Sys2Proof.Machine.Billing

section Folds

variable {α β : Type} {f : State → β → State}

/-- A fold of steps that leave a view of the state leaves it. -/
theorem foldl_view {view : State → α} (h : ∀ t x, view (f t x) = view t) (l : List β) (s : State) : view (l.foldl f s) = view s :=
  List.foldlRecOn (motive := fun t => view t = view s) l f rfl (fun t ht x _ => (h t x).trans ht)

/-- A fold of steps of which each brings a property about for its own key, and none takes it from another, brings it about for every
key of the list. -/
theorem foldl_establishes {P : State → β → Prop} (hown : ∀ t k, P (f t k) k) (hkeep : ∀ t j k, j ≠ k → P t k → P (f t j) k)
    (l : List β) (s : State) (k : β) (h : k ∈ l ∨ P s k) : P (l.foldl f s) k := by
  induction l generalizing s with
  | nil => exact h.resolve_left (List.not_mem_nil)
  | cons j l ih =>
    refine ih (f s j) ?_
    by_cases hj : j = k
    · exact .inr (hj ▸ hown s j)
    · exact h.imp (fun hm => (List.mem_cons.mp hm).resolve_left (Ne.symm hj)) (hkeep s j k hj)

end Folds

section Scheduler

@[simp] theorem openVal_bill (s : State) (p : Nat) : (s.openVal p).2.bill = s.bill := rfl
@[simp] theorem append_bill (s : State) (f : Nat) (it : Item) (d : Bool) : (s.append f it d).bill = s.bill := rfl
@[simp] theorem countDispatch_bill (s : State) (f : Nat) (it : Item) : (s.countDispatch f it).bill = s.bill := rfl
@[simp] theorem dispatchTo_bill (s : State) (c f : Nat) (it : Item) : (s.dispatchTo c f it).bill = s.bill := rfl

@[simp] theorem preempt_bill (s : State) (c : Nat) : (s.preempt c).bill = s.bill := by
  unfold State.preempt
  split <;> simp [State.chargeRun]

@[simp] theorem preemptAll_bill (n : Nat) (s : State) : (s.preemptAll n).bill = s.bill := by
  induction n generalizing s with
  | zero => rfl
  | succ n ih =>
    simp only [State.preemptAll]
    split
    · rfl
    · split
      · rfl
      · split
        · rfl
        · rw [ih, preempt_bill]

@[simp] theorem serveStalled_bill (s : State) : s.serveStalled.bill = s.bill := by
  refine foldl_view (view := State.bill) (fun t c => ?_) _ _
  split
  · split <;> simp
  · rfl

@[simp] theorem schedule_bill (s : State) : s.schedule.bill = s.bill := by
  have rounds : ∀ (n : Nat) (t : State), (t.scheduleRounds n).bill = t.bill := by
    intro n
    induction n with
    | zero => exact fun _ => rfl
    | succ n ih => exact fun t => by rw [State.scheduleRounds, ih, preemptAll_bill, serveStalled_bill]
  exact rounds 4 s

@[simp] theorem enqueue_bill (s : State) (a f k key ref : Nat) (tel : Bool) : (s.enqueue a f k key ref tel).2.bill = s.bill := by
  simp only [State.enqueue]
  split
  · rfl
  · split
    · exact State.setItem_bill _ _ _ _
    · split
      · rfl
      · split <;> rfl

@[simp] theorem produce_bill (s : State) (a f k key ref : Nat) (tel : Bool) : (s.produce a f k key ref tel).bill = s.bill := by
  simp only [State.produce]
  split <;> exact enqueue_bill _ _ _ _ _ _ _

@[simp] theorem tell_bill (s : State) (h : Nat) (m : MeterMsg) : (s.tell h m).bill = s.bill := by
  simp only [State.tell]
  split
  · rfl
  · split <;> simp

end Scheduler

section Archive

@[simp] theorem makeRoom_bill (len n : Nat) (s : State) : (s.makeRoom len n).bill = s.bill := by
  induction n generalizing s with
  | zero => rfl
  | succ n ih =>
    simp only [State.makeRoom]
    split
    · rfl
    · split
      · rfl
      · rw [ih]
        rfl

@[simp] theorem placeUnit_bill (s : State) (r l a f : Nat) (b : Bytes) : (s.placeUnit r l a f b).bill = s.bill := by
  simp only [State.placeUnit]
  split <;> simp

@[simp] theorem program_bill (s : State) (r l a f : Nat) (b : Bytes) : (s.program r l a f b).bill = s.bill := by
  simp only [State.program, State.chargeOpen_bill, placeUnit_bill]
  split <;> simp

@[simp] theorem programFull_bill (c n : Nat) (s : State) : (s.programFull c n).bill = s.bill := by
  induction n generalizing s with
  | zero => rfl
  | succ n ih =>
    simp only [State.programFull]
    split
    · rfl
    · simp only [ih, program_bill]

@[simp] theorem appendRec_bill (s : State) (c : Nat) (r : ArchRec) : (s.appendRec c r).bill = s.bill := by
  simp only [State.appendRec]
  split
  · rfl
  · split
    · simp [State.putRecord]
    · split <;> simp

@[simp] theorem archive_bill (s : State) (c k : Nat) (w : U32) (at_ : Nat) (b : Bytes) : (s.archive c k w at_ b).bill = s.bill :=
  appendRec_bill _ _ _

@[simp] theorem archive_time (s : State) (c k : Nat) (w : U32) (at_ : Nat) (b : Bytes) : (s.archive c k w at_ b).time = s.time :=
  TimeScales.appendRec_time _ _ _

end Archive

section OutsideMeters

variable (s : State) (h : Nat)

/-- Time, and of billing all but the meters' register sets and ledgers. -/
def outsideMeters (s : State) : TimeState × BillState :=
  (s.time, { s.bill with app := { s.bill.app with meters := [], ledgers := [] } })

theorem outsideMeters_congr {s t : State} (ht : t.time = s.time) (hb : t.bill = s.bill) : outsideMeters t = outsideMeters s := by
  unfold outsideMeters
  rw [ht, hb]

/-- States that agree outside the meters' records have the same period and the same profile intervals. -/
theorem outsideMeters_parts {s t : State} (h : outsideMeters t = outsideMeters s) :
    t.bill.app.period = s.bill.app.period ∧ t.bill.app.ivals = s.bill.app.ivals :=
  ⟨congrArg (fun v => v.2.app.period) h, congrArg (fun v => v.2.app.ivals) h⟩

@[simp] theorem setMbill_outside (f : MeterBill → MeterBill) : outsideMeters (s.setMbill h f) = outsideMeters s := rfl

@[simp] theorem setLedger_outside (f : Ledger → Ledger) : outsideMeters (s.setLedger h f) = outsideMeters s := rfl

@[simp] theorem raise_outside (code : Nat) (m : Int) : outsideMeters (s.raise code m) = outsideMeters s :=
  outsideMeters_congr (State.raise_time _ _ _) (State.raise_bill _ _ _)

@[simp] theorem archive_outside (c k : Nat) (w : U32) (at_ : Nat) (b : Bytes) :
    outsideMeters (s.archive c k w at_ b) = outsideMeters s :=
  outsideMeters_congr (archive_time _ _ _ _ _ _) (archive_bill _ _ _ _ _ _)

@[simp] theorem tell_outside (m : MeterMsg) : outsideMeters (s.tell h m) = outsideMeters s :=
  outsideMeters_congr (TimeScales.tell_time _ _ _) (tell_bill _ _ _)

@[simp] theorem usePage_outside (p a n : Nat) : outsideMeters (s.usePage p a n) = outsideMeters s :=
  outsideMeters_congr (State.usePage_time _ _ _ _) (State.usePage_bill _ _ _ _)

@[simp] theorem mirrorLedger_outside : outsideMeters (s.mirrorLedger h) = outsideMeters s :=
  outsideMeters_congr (State.mirror_time _ _ _ _) (State.mirror_bill _ _ _ _)

@[simp] theorem recordPrepay_outside : outsideMeters (s.recordPrepay h) = outsideMeters s := archive_outside _ _ _ _ _ _

end OutsideMeters

section Meters

variable (s : State) (h : Nat)

@[simp] theorem demandAt_outside (k : Nat) (i : Ival) : outsideMeters (s.demandAt h k i) = outsideMeters s := by
  simp only [State.demandAt]
  split
  · rfl
  · split
    · rfl
    · exact setMbill_outside _ _ _

@[simp] theorem demandTo_outside (upto : Int) : outsideMeters (s.demandTo h upto) = outsideMeters s := by
  simp only [State.demandTo, setMbill_outside]
  exact foldl_view (fun t (p : Nat × Ival) => demandAt_outside t h p.1 p.2) _ s

@[simp] theorem closeMeter_outside (x : Hist) (at_ : Int) : outsideMeters (s.closeMeter h x at_) = outsideMeters s := by
  unfold State.closeMeter
  extract_lets m final r s1
  have h1 : outsideMeters s1 = outsideMeters s := setMbill_outside s h _
  split
  · rw [archive_outside, h1]
  · exact h1

end Meters

section Ledgers

variable (s : State) (h : Nat)

@[simp] theorem enterCredit_outside (c : Credit) : outsideMeters (s.enterCredit h c) = outsideMeters s := by
  cases c <;> simp [State.enterCredit, State.tellCredit]

@[simp] theorem autoEc_outside : outsideMeters (s.autoEc h) = outsideMeters s := by
  simp only [State.autoEc]
  split <;> simp

@[simp] theorem evalCredit_outside : outsideMeters (s.evalCredit h) = outsideMeters s := by
  simp only [State.evalCredit]
  split <;> simp

@[simp] theorem changeLedger_outside (f : Ledger → Ledger) : outsideMeters (s.changeLedger h f) = outsideMeters s := by
  simp [State.changeLedger]

@[simp] theorem recoverDebt_outside (secs : Nat) : outsideMeters (s.recoverDebt h secs) = outsideMeters s := by
  simp only [State.recoverDebt]
  split <;> simp

@[simp] theorem tryDisconnect_outside : outsideMeters (s.tryDisconnect h) = outsideMeters s := by
  unfold State.tryDisconnect
  extract_lets l due
  split
  · split
    · simp [State.sendDisconnect]
    · extract_lets s1
      rw [mirrorLedger_outside]
      split <;> simp [s1]
  · rfl

@[simp] theorem retest_outside : outsideMeters s.retest = outsideMeters s := foldl_view tryDisconnect_outside _ s

end Ledgers

end Sys2Proof.Machine.Billing

/-! SUPPORT. What interval ends, charges of time, closures and switches leave: time, the outage record and the number of splits
(R281, R284, R287, R289, R290). -/

namespace Sys2Proof.Machine.Billing

variable (s : State)

/-- Time, the outage record, and how often time was split. -/
def clockView (s : State) : TimeState × Option (Int × Cycle × U16) × U32 := (s.time, s.bill.warning, s.bill.app.splits)

/-- States that agree outside the meters' records agree on the clock's view. -/
theorem clockView_of_outside {s t : State} (h : outsideMeters t = outsideMeters s) : clockView t = clockView s :=
  congrArg (fun v => (v.1, v.2.warning, v.2.app.splits)) h

/-- What a clock's view says of its state. -/
theorem clockView_parts {t : State} {tm : TimeState} {w : Option (Int × Cycle × U16)} {n : U32} (h : clockView t = (tm, w, n)) :
    t.time = tm ∧ t.bill.warning = w ∧ t.bill.app.splits = n := by
  obtain ⟨ht, hwn⟩ := Prod.mk.inj h
  exact ⟨ht, Prod.mk.inj hwn⟩

@[simp] theorem setApp_app (f : AppState → AppState) : (s.setApp f).bill.app = f s.bill.app := rfl

/-- A change of the application state that splits no time leaves the clock's view. -/
theorem setApp_clock {f : AppState → AppState} (hf : (f s.bill.app).splits = s.bill.app.splits) :
    clockView (s.setApp f) = clockView s :=
  congrArg (fun n => (s.time, s.bill.warning, n)) hf

@[simp] theorem openAt_clock (legal : Int) (fl : U16) : clockView (s.openAt legal fl) = clockView s := rfl

@[simp] theorem raise_clock (code : Nat) (m : Int) : clockView (s.raise code m) = clockView s := clockView_of_outside (raise_outside _ _ _)

@[simp] theorem retest_clock : clockView s.retest = clockView s := clockView_of_outside (retest_outside s)

@[simp] theorem closeIval_clock (at_ legal : Int) (fl : U16) (edge : Bool) : clockView (s.closeIval at_ legal fl edge) = clockView s := by
  refine setApp_clock s ?_
  dsimp only
  split <;> rfl

@[simp] theorem timeCharges_clock : clockView s.timeCharges = clockView s := by
  have charged : ∀ (secs : Nat) (l : List Nat),
      clockView (l.foldl (fun t h => (t.changeLedger h (t.chargeStanding h secs)).recoverDebt h secs) s) = clockView s :=
    fun secs l => clockView_of_outside (foldl_view (fun t h => by simp) l s)
  simp only [State.timeCharges]
  split
  · rfl
  · exact charged _ _

/-- The closing of some meters leaves what is outside the meters' records (R284). -/
theorem closeMeters_outside (x : Hist) (at_ : Int) (l : List Nat) :
    outsideMeters (l.foldl (fun t h => t.closeMeter h x at_) s) = outsideMeters s :=
  foldl_view (fun t h => closeMeter_outside t h x at_) l s

/-- A closure counts the period (R284). -/
theorem closePeriod_period (at_ : Int) (bmin passed : Nat) (fl : U16) :
    (s.closePeriod at_ bmin passed fl).bill.app.period = s.bill.app.period + 1 := by
  simp only [State.closePeriod, State.raise_bill, setApp_app]
  rw [(outsideMeters_parts (closeMeters_outside s _ at_ s.billMeters)).1]

@[simp] theorem closePeriod_clock (at_ : Int) (bmin passed : Nat) (fl : U16) :
    clockView (s.closePeriod at_ bmin passed fl) = clockView s := by
  simp only [State.closePeriod, raise_clock]
  rw [setApp_clock _ rfl, clockView_of_outside (closeMeters_outside s _ at_ s.billMeters)]

@[simp] theorem closeScheduled_clock (at_ : Int) (bmin : Nat) (fl : U16) : clockView (s.closeScheduled at_ bmin fl) = clockView s := by
  simp only [State.closeScheduled]
  split
  · rfl
  · rw [setApp_clock _ rfl, closePeriod_clock]

/-- A table's rate follows billing time from a place of the time line on (R277). -/
def followRate (at_ : Int) (bmin : Nat) (t : State) (k : Nat) : State :=
  let r := t.rateOf k bmin
  if r = (((tblGet [] t.bill.app.rates k).head?).map (·.2)).getD 1 then t
  else t.setApp (fun a => { a with rates := tblPut a.rates k ((at_, r) :: tblGet [] a.rates k) })

theorem followRatesAt_eq (at_ : Int) (bmin : Nat) : s.followRatesAt at_ bmin = (List.range 16).foldl (followRate at_ bmin) s := rfl

/-- A state without the rates that its tables followed. -/
def withoutRates (s : State) : State := { s with bill := { s.bill with app := { s.bill.app with rates := [] } } }

@[simp] theorem followRate_withoutRates (at_ : Int) (bmin k : Nat) : withoutRates (followRate at_ bmin s k) = withoutRates s := by
  simp only [followRate]
  split <;> rfl

/-- The rates that follow billing time are all that changes (R277). -/
@[simp] theorem followRatesAt_withoutRates (at_ : Int) (bmin : Nat) : withoutRates (s.followRatesAt at_ bmin) = withoutRates s :=
  foldl_view (fun t k => followRate_withoutRates t at_ bmin k) _ s

theorem clockView_withoutRates : clockView (withoutRates s) = clockView s := rfl

@[simp] theorem followRatesAt_clock (at_ : Int) (bmin : Nat) : clockView (s.followRatesAt at_ bmin) = clockView s := by
  rw [← clockView_withoutRates, followRatesAt_withoutRates, clockView_withoutRates]

@[simp] theorem switchesAt_clock (at_ : Int) (bmin : Nat) (fl : U16) : clockView (s.switchesAt at_ bmin fl) = clockView s := by
  simp only [State.switchesAt, followRatesAt_clock]
  refine (foldl_view (view := clockView) (fun u t => ?_) _ _).trans (closeScheduled_clock s at_ bmin fl)
  rw [raise_clock]
  rfl

@[simp] theorem intervalEnd_clock (legal : Int) : clockView (s.intervalEnd legal) = clockView s := by
  simp only [State.intervalEnd]
  split
  · simp
  · split
    · rfl
    · simp

@[simp] theorem boundaryEvents_clock (legal : Int) : clockView (s.boundaryEvents legal) = clockView s := by
  simp only [State.boundaryEvents]
  split <;> simp

@[simp] theorem restoreMinute_clock (upto at_ : Int) : clockView (s.restoreMinute upto at_) = clockView s := by
  simp only [State.restoreMinute, switchesAt_clock]
  split <;> rfl

@[simp] theorem restoreMinutes_clock (upto : Int) (n : Nat) (at_ : Int) : clockView (s.restoreMinutes upto at_ n) = clockView s := by
  induction n generalizing s at_ with
  | zero => rfl
  | succ n ih =>
    simp only [State.restoreMinutes]
    split
    · rw [ih, restoreMinute_clock]
    · rfl

@[simp] theorem openRestored_clock (from_ : Int) : clockView (s.openRestored from_) = clockView s := by
  refine (setApp_clock (s.openNow 16) ?_).trans (openAt_clock s _ 16)
  split <;> rfl

end Sys2Proof.Machine.Billing

/-! PROOFS. Rates, intervals, day blocks, periods, calendar adjustments and restoration (R277 to R290). -/

namespace Sys2Proof.Machine.Billing

section Rates

variable {s : State}

/-- The rate that a table followed last; rate 1 where it followed none (R277). -/
def headRate (s : State) (k : Nat) : Nat := (((tblGet [] s.bill.app.rates k).head?).map (·.2)).getD 1

/-- The rate that billing time gives does not depend on the rates followed so far. -/
theorem rateOf_withoutRates (s : State) (k bmin : Nat) : (withoutRates s).rateOf k bmin = s.rateOf k bmin := rfl

theorem rateOf_congr {t : State} (h : withoutRates t = withoutRates s) (k bmin : Nat) : t.rateOf k bmin = s.rateOf k bmin := by
  rw [← rateOf_withoutRates t, h, rateOf_withoutRates]

theorem followRate_own (at_ : Int) (bmin : Nat) (t : State) (k : Nat) :
    headRate (followRate at_ bmin t k) k = t.rateOf k bmin := by
  simp only [followRate]
  split
  · next h => exact h.symm
  · simp [headRate, State.setApp]

theorem followRate_other (at_ : Int) (bmin : Nat) (t : State) {j k : Nat} (h : j ≠ k) :
    headRate (followRate at_ bmin t j) k = headRate t k := by
  simp only [followRate]
  split
  · rfl
  · simp [headRate, State.setApp, tblGet_put_ne _ _ _ (Ne.symm h)]

/-- Every tariff table follows billing time (R277). -/
theorem followRatesAt_headRate (at_ : Int) (bmin : Nat) {k : Nat} (hk : k < 16) :
    headRate (s.followRatesAt at_ bmin) k = s.rateOf k bmin := by
  have h := foldl_establishes (P := fun t k => headRate t k = t.rateOf k bmin) (f := followRate at_ bmin)
    (fun t k => by rw [followRate_own, rateOf_congr (followRate_withoutRates t at_ bmin k)])
    (fun t j k hj ht => by rw [followRate_other at_ bmin t hj, ht, rateOf_congr (followRate_withoutRates t at_ bmin j)])
    (List.range 16) s k (.inl (List.mem_range.mpr hk))
  rw [followRatesAt_eq, h]
  exact rateOf_congr (followRatesAt_withoutRates s at_ bmin) k bmin

/-- A state that agrees with another but for the rates is the other with its rates. -/
theorem eq_withRates {t : State} (h : withoutRates t = withoutRates s) :
    t = { s with bill := { s.bill with app := { s.bill.app with rates := t.bill.app.rates } } } :=
  congrArg (fun u : State => { u with bill := { u.bill with app := { u.bill.app with rates := t.bill.app.rates } } }) h

/-- At a switching point every table is in the rate that billing time gives, and nothing but the rates changes (R277). -/
theorem exec_rateSwitch_follows (s : State) : ∃ t : State, exec .rateSwitch s = .next t ∧
    (∀ k < 16, (((tblGet [] t.bill.app.rates k).head?).map (·.2)).getD 1 = s.rateOf k s.billingNow) ∧
    t = { s with bill := { s.bill with app := { s.bill.app with rates := t.bill.app.rates } } } :=
  ⟨s.followRatesAt s.line s.billingNow, rfl, fun _ hk => followRatesAt_headRate s.line s.billingNow hk,
    eq_withRates (followRatesAt_withoutRates s s.line s.billingNow)⟩

/-- A table that takes effect is scheduled no more (R279). -/
theorem activateTable_notScheduled (k : Nat) : (s.activateTable k).tableScheduled k = false := by
  simp [State.activateTable, State.tableScheduled, List.any_filter]

end Rates

section Untrusted

variable {s : State} (h : s.time.untrusted = true)
include h

/-- Nothing is closed from an untrusted calendar (R290). -/
theorem exec_profileIntervalEnd_untrusted : exec .profileIntervalEnd s = .next s :=
  congrArg Host.Outcome.next (if_pos (.inl h))

theorem exec_billingClose_untrusted : exec .billingClose s = .next s := congrArg Host.Outcome.next (if_pos h)

theorem exec_dayBlockClose_untrusted (d : U16) : exec (.dayBlockClose d) s = .next s :=
  congrArg Host.Outcome.next (if_pos (.inr (.inr h)))

theorem exec_outageRestoration_untrusted : exec .outageRestoration s = .next s := by
  show execOutageRestoration s = _
  simp only [execOutageRestoration]
  split
  · rfl
  · rw [if_pos h]

end Untrusted

section Intervals

variable {s : State}

/-- From a trusted calendar, outside an outage, the interval's end is judged by legal time (R281). -/
theorem exec_profileIntervalEnd_trusted (hu : s.time.untrusted = false) (hw : s.bill.warning = none) :
    exec .profileIntervalEnd s = .next (s.intervalEnd s.time.calNs) := by
  show execProfileIntervalEnd s = _
  simp [execProfileIntervalEnd, hu, hw]

theorem intervalEnd_none (legal : Int) (h : s.bill.app.openIval = none) : s.intervalEnd legal = (s.openAt legal 0).timeCharges := by
  simp only [State.intervalEnd, h]

theorem intervalEnd_running {legal : Int} {k : Nat} {i : Ival} (h : s.bill.app.openIval = some (k, i))
    (hl : legal / 60000000000 < (i.start : Int) - i.offset + 15) : s.intervalEnd legal = s := by
  simp only [State.intervalEnd, h, if_pos hl]

theorem intervalEnd_over {legal : Int} {k : Nat} {i : Ival} (h : s.bill.app.openIval = some (k, i))
    (hl : (i.start : Int) - i.offset + 15 ≤ legal / 60000000000) :
    s.intervalEnd legal = (((s.closeIval s.line legal 0 true).openAt legal 0).timeCharges).retest := by
  simp only [State.intervalEnd, h, if_neg (Int.not_lt.mpr hl)]

end Intervals

section DayBlocks

variable {s : State} {d : U16}

/-- The closed intervals of a day (R283). -/
def ofDay (d : U16) (p : Nat × Ival) : Bool := p.2.start / 1440 == d.toNat && p.2.to_.isSome

/-- A day block within its grace stays (R283). -/
theorem exec_dayBlockClose_unripe (h : s.billingNow < (d.toNat + 1) * 1440 + s.cfgN 0x700201 * 60) :
    exec (.dayBlockClose d) s = .next s :=
  congrArg Host.Outcome.next (if_pos (.inr (.inl (Nat.not_le.mpr h))))

/-- A table without the numbers of its entries of some kind holds no entry of that kind. -/
theorem filter_drop_eq_nil (q : Nat × Ival → Bool) (l : List (Nat × Ival)) :
    (l.filter (fun p => !((l.filter q).any (fun x => x.1 == p.1)))).filter q = [] := by
  rw [List.filter_eq_nil_iff]
  intro p hp hq
  obtain ⟨hl, hn⟩ := List.mem_filter.mp hp
  have hany : (l.filter q).any (fun x => x.1 == p.1) = true :=
    List.any_eq_true.mpr ⟨p, List.mem_filter.mpr ⟨hl, hq⟩, beq_self_eq_true _⟩
  rw [hany] at hn
  cases hn

/-- A meter's demand of a day is evaluated, its day block archived, and its entries of the day go (R283). -/
def closeBlockOf (d : Nat) (ivs : List (Nat × Ival)) (t : State) (h : Nat) : State :=
  let t1 := t.demandTo h ((ivs.filterMap (fun p => p.2.to_)).foldl max 0)
  let es := ivs.map (fun p => t1.entryBytes h p.1 p.2 (tblGet {} (t1.mbill h).entries p.1))
  (t1.archive 1 0 (subjectWord 0 h) (d * 1440) (dayBlock d es)).setMbill h (fun m => { m with
    entries := m.entries.filter (fun e => !(ivs.any (fun p => p.1 == e.1)))
    block := m.block.filter (fun e => !(ivs.any (fun p => p.1 == e.1))) })

theorem closeBlockOf_outside (n : Nat) (ivs : List (Nat × Ival)) (t : State) (h : Nat) :
    outsideMeters (closeBlockOf n ivs t h) = outsideMeters t := by
  simp only [closeBlockOf, setMbill_outside, archive_outside, demandTo_outside]

/-- A day block past its grace goes with its intervals, and the period stays (R283). -/
theorem exec_dayBlockClose_ripe (hu : s.time.untrusted = false)
    (hripe : (d.toNat + 1) * 1440 + s.cfgN 0x700201 * 60 ≤ s.billingNow) (hne : s.bill.app.ivals.filter (ofDay d) ≠ []) :
    ∃ t : State, exec (.dayBlockClose d) s = .next t ∧
      t.bill.app.ivals = s.bill.app.ivals.filter (fun p => !((s.bill.app.ivals.filter (ofDay d)).any (fun q => q.1 == p.1))) ∧
      t.bill.app.period = s.bill.app.period := by
  have hgo : ¬(s.bill.app.ivals.filter (ofDay d) = [] ∨ ¬ (d.toNat + 1) * 1440 + s.cfgN 0x700201 * 60 ≤ s.billingNow ∨
      s.time.untrusted = true) := by
    rw [hu]
    exact fun h => h.elim hne (·.elim (absurd hripe) Bool.noConfusion)
  have hm : outsideMeters (s.billMeters.foldl (closeBlockOf d.toNat (s.bill.app.ivals.filter (ofDay d))) s) = outsideMeters s :=
    foldl_view (closeBlockOf_outside _ _) _ s
  obtain ⟨hperiod, hivals⟩ := outsideMeters_parts hm
  refine ⟨_, congrArg Host.Outcome.next (if_neg hgo), ?_, ?_⟩
  · exact congrArg (List.filter (fun p => !((s.bill.app.ivals.filter (ofDay d)).any (fun q => q.1 == p.1)))) hivals
  · exact hperiod

end DayBlocks

section Periods

variable {s : State} {n b : Nat}

theorem closeScheduled_none {at_ : Int} {bmin : Nat} (fl : U16)
    (h : s.boundariesTo bmin 0xFFFF (s.bill.app.lastBound bmin) 0 = (0, b)) : s.closeScheduled at_ bmin fl = s := by
  simp [State.closeScheduled, h]

/-- Boundaries that billing time has passed close the period once, and the last of them is kept (R284). -/
theorem closeScheduled_passed {at_ : Int} {bmin : Nat} (fl : U16)
    (h : s.boundariesTo bmin 0xFFFF (s.bill.app.lastBound bmin) 0 = (n, b)) (hn : n ≠ 0) :
    s.closeScheduled at_ bmin fl = (s.closePeriod at_ bmin n fl).setApp (fun a => { a with closedBound := b }) := by
  simp [State.closeScheduled, h, hn]

theorem closeScheduled_counts {at_ : Int} {bmin : Nat} (fl : U16)
    (h : s.boundariesTo bmin 0xFFFF (s.bill.app.lastBound bmin) 0 = (n, b)) (hn : n ≠ 0) :
    (s.closeScheduled at_ bmin fl).bill.app.period = s.bill.app.period + 1 ∧ (s.closeScheduled at_ bmin fl).bill.app.closedBound = b := by
  rw [closeScheduled_passed fl h hn, setApp_app]
  exact ⟨closePeriod_period s at_ bmin n fl, rfl⟩

theorem exec_billingClose_trusted (hu : s.time.untrusted = false) :
    exec .billingClose s = .next (s.closeScheduled s.line s.billingNow 0) := by
  show execBillingClose s = _
  simp [execBillingClose, hu]

end Periods

section Grace

variable (s : State) (h : Nat) (ok : Hist → Bool) (flag : U16)

/-- A provisional record that meets a condition becomes final, with a flag (R284). -/
def finalised (x : Hist) : Hist := if x.provisional && ok x then { x with flags := (x.flags &&& 0xFFFB) ||| flag } else x

theorem finalise_bill : (s.finalise h ok flag).bill =
    (s.setMbill h (fun m => { m with hist := m.hist.map (finalised ok flag) })).bill := by
  simp only [State.finalise]
  exact foldl_view (view := State.bill) (fun t x => archive_bill _ _ _ _ _ _) _ _

theorem finalise_own : ((s.finalise h ok flag).mbill h).hist = (s.mbill h).hist.map (finalised ok flag) := by
  simp only [State.mbill, finalise_bill, State.setMbill, State.setApp, tblGet_upd_same]

theorem finalise_other {j : Nat} (hj : j ≠ h) : (s.finalise j ok flag).mbill h = s.mbill h := by
  simp only [State.mbill, finalise_bill, State.setMbill, State.setApp, tblGet_upd_ne _ _ _ (Ne.symm hj)]

/-- The flag of an expired grace leaves no record that it finalises provisional (R285). -/
theorem finalised_final {x : Hist} (hok : ok x = true) : (finalised ok 8 x).provisional = false := by
  unfold finalised
  split
  · simp [Hist.provisional]
  · next hp => simpa [hok] using hp

/-- A record keeps its place on the time line. -/
theorem finalised_line (x : Hist) : (finalised ok flag x).line = x.line := by
  unfold finalised
  split <;> rfl

/-- A meter has no provisional record at or before a place (R284). -/
def allFinal (limit : Int) (s : State) (h : Nat) : Prop := ∀ x ∈ (s.mbill h).hist, x.line ≤ limit → x.provisional = false

theorem finalise_allFinal (limit : Int) : allFinal limit (s.finalise h (fun x => decide (x.line ≤ limit)) 8) h := by
  intro y hy hline
  rw [finalise_own, List.mem_map] at hy
  obtain ⟨x, -, rfl⟩ := hy
  rw [finalised_line] at hline
  exact finalised_final _ (decide_eq_true hline)

/-- Once every meter with a register set is finalised, no meter has a provisional record at or before the limit (R284). -/
theorem finaliseAll_allFinal (limit : Int) : allFinal limit
    ((s.bill.app.meters.map (·.1)).foldl (fun t h => t.finalise h (fun x => decide (x.line ≤ limit)) 8) s) h := by
  refine foldl_establishes (P := allFinal limit) (fun t k => finalise_allFinal t k limit)
    (fun t j k hj ht => ?_) _ s h ?_
  · unfold allFinal
    rwa [finalise_other t k _ 8 hj]
  · by_cases hm : h ∈ s.bill.app.meters.map (·.1)
    · exact .inl hm
    · have hnone : s.mbill h = {} := by
        rw [State.mbill, tblGet, Dictionary.tblFind?_eq_none (fun p hp he => hm (List.mem_map.mpr ⟨p, hp, he⟩))]
        rfl
      refine .inr (fun x hx => ?_)
      rw [hnone] at hx
      cases hx

end Grace

section Adjustments

variable (s : State) (a new_ : Int)

theorem absorb_clock : clockView (s.absorb a new_) = clockView s := by
  simp only [State.absorb, followRatesAt_clock]
  split
  · rw [closeScheduled_clock]
    rfl
  · rfl

/-- A split of time is counted, and leaves time and the outage record (R287). -/
theorem splitTime_clock (old : Int) :
    clockView (s.splitTime a old new_) = (s.time, s.bill.warning, s.bill.app.splits + 1) := by
  have counted : ∀ (t : State) (sh : AppState → U16), clockView t = clockView s →
      clockView (t.setApp (fun x => { x with shift := sh x, splits := x.splits + 1 })) =
        (s.time, s.bill.warning, s.bill.app.splits + 1) :=
    fun t _ ht => congrArg (fun v => (v.1, v.2.1, v.2.2 + 1)) ht
  simp only [State.splitTime, raise_clock, followRatesAt_clock, openAt_clock]
  refine counted _ _ ?_
  split <;> simp

/-- The oldest adjustment is taken, after what a boundary at the old legal time brings, and logged (R275, R289). -/
def adjTaken (s : State) (n : Int) (rest : List Int) (old : Int) : State :=
  (({ s with time := { s.time with adjust := rest } } : State).boundaryEvents old).setApp (fun x => { x with
    adjLog := (s.line, tickSpan n) :: x.adjLog })

theorem adjTaken_clock (n : Int) (rest : List Int) (old : Int) :
    clockView (adjTaken s n rest old) = ({ s.time with adjust := rest }, s.bill.warning, s.bill.app.splits) :=
  boundaryEvents_clock { s with time := { s.time with adjust := rest } } old

/-- Above the limit the oldest adjustment splits time, else it is absorbed (R286, R287). -/
theorem exec_clockAdj_taken {n : Int} {rest : List Int} (h : s.time.adjust = n :: rest) :
    ∃ new_ : Int, exec .clockAdj s = .next
      (if (s.cfgN 0x700001 : Int) * 1000000000 < ((tickSpan n).natAbs : Int)
        then (adjTaken s n rest (new_ - tickSpan n)).splitTime (tickSpan n) (new_ - tickSpan n) new_
        else (adjTaken s n rest (new_ - tickSpan n)).absorb (tickSpan n) new_) := by
  refine ⟨(s.time.calNs : Int) - tickSpan (rest.foldl (· + ·) 0), ?_⟩
  show execClockAdj s = _
  simp only [execClockAdj, h, adjTaken]

/-- The oldest adjustment leaves the list, and is counted as a split only above the limit (R286, R287). -/
theorem exec_clockAdj_counts {n : Int} {rest : List Int} (h : s.time.adjust = n :: rest) :
    ∃ t : State, exec .clockAdj s = .next t ∧ t.time.adjust = rest ∧ t.bill.app.splits =
      (if (s.cfgN 0x700001 : Int) * 1000000000 < ((tickSpan n).natAbs : Int) then s.bill.app.splits + 1 else s.bill.app.splits) := by
  obtain ⟨new_, hexec⟩ := exec_clockAdj_taken s h
  obtain ⟨htime, -, hsplits⟩ := clockView_parts (adjTaken_clock s n rest (new_ - tickSpan n))
  refine ⟨_, hexec, ?_⟩
  split
  · obtain ⟨ht, -, hn⟩ := clockView_parts
      (splitTime_clock (adjTaken s n rest (new_ - tickSpan n)) (tickSpan n) new_ (new_ - tickSpan n))
    rw [ht, hn, htime, hsplits]
    exact ⟨rfl, rfl⟩
  · obtain ⟨ht, -, hn⟩ := clockView_parts (absorb_clock (adjTaken s n rest (new_ - tickSpan n)) (tickSpan n) new_)
    rw [ht, hn, htime, hsplits]
    exact ⟨rfl, rfl⟩

end Adjustments

section Restoration

variable (s : State)

/-- The record of an outage that began at a place is closed, and the time line does not run back (R290). -/
def outageClosed (s : State) (w : Int) : State :=
  let sc := s.closeIval w (s.legalAt w) 16 false
  if sc.line < w then sc.noteStep (sc.line - w) else sc

/-- The ledgers and load groups follow the outage, and its warning ends (R290, R310, R313). -/
def outageEnded (s : State) (w : Int) : State := (outageClosed s w).afterOutage w (outageClosed s w).line

theorem afterOutage_warning (w t1 : Int) : (s.afterOutage w t1).bill.warning = none := rfl

theorem outageEnded_warning (w : Int) : (outageEnded s w).bill.warning = none := afterOutage_warning _ w _

/-- What was due within the outage is applied minute by minute, and the interval of the restoration opens (R290). -/
def restored (s : State) (w : Int) : State :=
  (((outageEnded s w).restoreMinutes (outageClosed s w).line ((outageEnded s w).minuteAfter w)
    ((((outageClosed s w).line - w) / 60000000000).toNat + 1)).openRestored w).timeCharges.retest

theorem exec_outageRestoration_trusted {w : Int} {c : Cycle} {sh : U16} (hw : s.bill.warning = some (w, c, sh))
    (hu : s.time.untrusted = false) : exec .outageRestoration s = .next (restored s w) := by
  show execOutageRestoration s = _
  simp only [execOutageRestoration, hw, hu, Bool.false_eq_true, if_false]
  rfl

/-- Restoration ends the warning (R290). -/
theorem restored_warning (w : Int) : (restored s w).bill.warning = none := by
  have hview : clockView (restored s w) = clockView (outageEnded s w) := by
    simp only [restored, retest_clock, timeCharges_clock, openRestored_clock, restoreMinutes_clock]
  obtain ⟨-, hwarn, -⟩ := clockView_parts hview
  exact hwarn.trans (outageEnded_warning s w)

end Restoration

/-- Settles O29: each clause by the branch of its command, and what the closing of intervals, periods and outages leaves as it is. -/
theorem ratesIntervalsAndPeriodsClose : Obligations.RatesIntervalsAndPeriodsClose := by
  refine ⟨exec_rateSwitch_follows,
    fun s k hs hv hu => ⟨_, congrArg Host.Outcome.next (if_pos ⟨hs, hv, hu⟩), rfl, activateTable_notScheduled k.val⟩,
    fun s k h => congrArg Host.Outcome.next (if_neg ?_),
    fun s h => ⟨exec_profileIntervalEnd_untrusted h, exec_billingClose_untrusted h, exec_outageRestoration_untrusted h,
      exec_dayBlockClose_untrusted h⟩,
    fun s hu hw ho => ?_, fun s k i hu hw ho => ?_, fun s d => exec_dayBlockClose_unripe, fun s d hu hripe hne => ?_,
    fun s n b hu hb => ?_,
    fun s r arg o h => ⟨congrArg Host.Outcome.next (command_done h rfl), closePeriod_period s _ _ _ _⟩,
    fun s => ⟨_, rfl, fun h => finaliseAll_allFinal s h _⟩, fun s h => ?_, fun s n rest => exec_clockAdj_counts s, fun s h => ?_,
    fun s hw hu => ?_⟩
  case refine_1 =>
    rintro ⟨hs, -, hu⟩
    rw [hs, hu] at h
    exact h.elim Bool.noConfusion Bool.noConfusion
  case refine_2 => rw [exec_profileIntervalEnd_trusted hu hw, intervalEnd_none _ ho]
  case refine_3 =>
    rw [exec_profileIntervalEnd_trusted hu hw]
    exact ⟨fun hl => by rw [intervalEnd_running ho hl], fun hl => by rw [intervalEnd_over ho hl]⟩
  case refine_4 =>
    obtain ⟨t, hexec, hivals, hperiod⟩ := exec_dayBlockClose_ripe hu hripe hne
    exact ⟨t, hexec, by rw [hivals]; exact filter_drop_eq_nil (ofDay d) _, hperiod⟩
  case refine_5 =>
    rw [exec_billingClose_trusted hu]
    refine ⟨fun hn => ?_, fun hn => ⟨_, rfl, closeScheduled_counts 0 hb hn⟩⟩
    subst hn
    rw [closeScheduled_none 0 hb]
  case refine_6 =>
    show execClockAdj s = _
    simp only [execClockAdj, h]
  case refine_7 =>
    show execOutageRestoration s = _
    simp only [execOutageRestoration, h]
  case refine_8 =>
    obtain ⟨⟨w, c, sh⟩, hx⟩ := Option.ne_none_iff_exists'.mp hw
    exact ⟨_, exec_outageRestoration_trusted s hx hu, restored_warning s w⟩

end Sys2Proof.Machine.Billing

/-! PROOFS. Tamper edges, their log and latches, and the service display (R293 to R299). -/

namespace Sys2Proof.Machine.TamperDisplay

variable {s : State}

section Tamper

variable {i : Fin 2} {b : Bool}

/-- A level that an input has already changes nothing (R293). -/
theorem exec_tamperEdge_same (h : s.bill.tampOpen.getD i.val false = b) : exec (.tamperEdge i b) s = .next s :=
  congrArg Host.Outcome.next (if_pos h)

/-- The state after an input takes a level. -/
def inputLevel (s : State) (i : Nat) (b : Bool) : State :=
  { s with bill := { s.bill with tampOpen := listUpd s.bill.tampOpen i (fun _ => b) } }

theorem exec_tamperEdge_changed (h : s.bill.tampOpen.getD i.val false ≠ b) :
    exec (.tamperEdge i b) s = .next ((inputLevel s i.val b).tamperRecord (if b then 1 else 2) (i.val + 1)) :=
  congrArg Host.Outcome.next (if_neg h)

/-- The record of the cover's or the terminal block's edge: on main power with the stamp of its capture (R94, R293). -/
def edgeRecord (s : State) (edge : Nat) (i : Fin 2) : TamperRec :=
  { kind := s.tamperKind edge (i.val + 1), cal := s.time.cal
    net := if s.onBackup then 0 else (tblGet {} s.time.captures (i.val + 2)).last }

/-- While fewer than 4 records are held an edge's record is put behind them (R293). -/
theorem tamperRecord_first {edge : Nat} (h : s.bill.tampFirst.length < 4) :
    (s.tamperRecord edge (i.val + 1)).bill.tampFirst = s.bill.tampFirst ++ [edgeRecord s edge i] := by
  have hi : i.val + 1 ≠ 3 := by omega
  simp [State.tamperRecord, edgeRecord, h, hi]

/-- On backup and in reset nothing is copied and nothing shown (R294, R296). -/
theorem exec_tamperLogCopy_off (h : s.onBackup = true ∨ s.pwr.inReset = true) : exec .tamperLogCopy s = .next s :=
  congrArg Host.Outcome.next (if_pos h)

theorem exec_displayFrameTx_off (h : s.onBackup = true ∨ s.pwr.inReset = true) : exec .displayFrameTx s = .next s :=
  congrArg Host.Outcome.next (if_pos h)

/-- Entries put in the tamper log, newest first, of which it keeps 1,024 (R294). -/
def logged (l : List Bytes) (x : TamperRec) : List Bytes := (x.entry :: l).take 1024

/-- Billing's state without the tamper log and its latches. -/
def withoutLog (s : State) : BillState := { s.bill with tampLog := [], tampLatch := 0 }

theorem copyTamper_log (s : State) (x : TamperRec) : (s.copyTamper x).bill.tampLog = logged s.bill.tampLog x := by
  simp only [State.copyTamper, State.raise_bill, Billing.archive_bill, logged]

theorem copyTamper_withoutLog (s : State) (x : TamperRec) : withoutLog (s.copyTamper x) = withoutLog s := by
  simp only [State.copyTamper, withoutLog, State.raise_bill, Billing.archive_bill]

theorem copyAll_log (l : List TamperRec) (s : State) :
    (l.foldl (fun t x => t.copyTamper x) s).bill.tampLog = l.foldl logged s.bill.tampLog := by
  induction l generalizing s with
  | nil => rfl
  | cons x l ih => rw [List.foldl_cons, ih, copyTamper_log, List.foldl_cons]

/-- The state with the island's buffer emptied. -/
def emptied (s : State) : State := { s with bill := { s.bill with tampFirst := [], tampLast := [] } }

/-- On main power every record of the island goes to the log, and its buffer is emptied (R294). -/
theorem exec_tamperLogCopy_on (hb : s.onBackup = false) (hr : s.pwr.inReset = false) :
    ∃ t : State, exec .tamperLogCopy s = .next t ∧ t.bill.tampFirst = [] ∧ t.bill.tampLast = [] ∧
      t.bill.tampCount = s.bill.tampCount ∧ t.bill.tampLog = (s.bill.tampFirst ++ s.bill.tampLast).foldl logged s.bill.tampLog := by
  have hrest := Billing.foldl_view (view := withoutLog) copyTamper_withoutLog (s.bill.tampFirst ++ s.bill.tampLast) (emptied s)
  refine ⟨(s.bill.tampFirst ++ s.bill.tampLast).foldl (fun t x => t.copyTamper x) (emptied s), ?_,
    congrArg BillState.tampFirst hrest, congrArg BillState.tampLast hrest, (congrArg BillState.tampCount hrest :), copyAll_log _ _⟩
  show execTamperLogCopy s = _
  simp [execTamperLogCopy, emptied, hb, hr]

end Tamper

section Display

/-- On main power a frame of the item shown leaves, and reading the item is charged (R295, R296). -/
theorem exec_displayFrameTx_on (hb : s.onBackup = false) (hr : s.pwr.inReset = false) : exec .displayFrameTx s =
    .next (({ s with out := .display s.displayFrame :: s.out, bill := { s.bill with dispChanged := false } } : State).chargeShown) := by
  show execDisplayFrameTx s = _
  simp [execDisplayFrameTx, hb, hr, State.emit]

/-- The dwell's end shows the next item only on main power and while scrolling goes on (R296). -/
theorem exec_displayDwellExpiry_next (hh : s.bill.dispHold = false) (hb : s.onBackup = false) :
    exec .displayDwellExpiry s = .next s.nextItem := by
  show execDisplayDwellExpiry s = _
  simp [execDisplayDwellExpiry, hh, hb]

theorem exec_displayDwellExpiry_stays (h : s.bill.dispHold = true ∨ s.onBackup = true) : exec .displayDwellExpiry s = .next s :=
  congrArg Host.Outcome.next (if_pos h)

/-- On main power each button acts (R296). -/
theorem buttons_act (hb : s.onBackup = false) : exec .btnNextPress s = .next s.nextItem ∧
    exec .btnNextHold s = .next (({ s with bill := { s.bill with dispAlt := !s.bill.dispAlt } } : State).showItem 0) ∧
    exec .btnHoldPress s = .next { s with bill := { s.bill with dispHold := !s.bill.dispHold, dispChanged := true } } := by
  have hoff : ¬s.onBackup = true := ne_true_of_eq_false hb
  exact ⟨congrArg Host.Outcome.next (if_neg hoff), congrArg Host.Outcome.next (if_neg hoff), congrArg Host.Outcome.next (if_neg hoff)⟩

/-- On backup no button acts (R296). -/
theorem buttons_dead (hb : s.onBackup = true) :
    exec .btnNextPress s = .next s ∧ exec .btnNextHold s = .next s ∧ exec .btnHoldPress s = .next s :=
  ⟨congrArg Host.Outcome.next (if_pos hb), congrArg Host.Outcome.next (if_pos hb), congrArg Host.Outcome.next (if_pos hb)⟩

end Display

/-- Settles O30: each clause by the branch of its command; the log by the records copied one by one. -/
theorem tamperRecordsAndTheDisplay : Obligations.TamperRecordsAndTheDisplay := by
  refine ⟨fun s i b => exec_tamperEdge_same,
    fun s i b h => ⟨_, exec_tamperEdge_changed h, rfl, rfl, fun hl => tamperRecord_first (s := inputLevel s i.val b) hl⟩,
    fun s h => ⟨exec_tamperLogCopy_off h, exec_displayFrameTx_off h⟩,
    fun s => exec_tamperLogCopy_on,
    fun s r arg o h => congrArg Host.Outcome.next (command_done h rfl),
    fun s => exec_displayFrameTx_on, fun s hb => ?_, fun s hb => ⟨exec_displayDwellExpiry_stays (.inr hb), buttons_dead hb⟩,
    fun s h => congrArg Host.Outcome.next (if_pos h), fun s h => congrArg Host.Outcome.next (if_neg (ne_true_of_eq_false h))⟩
  exact ⟨fun hh => exec_displayDwellExpiry_next hh hb, fun hh => exec_displayDwellExpiry_stays (.inl hh), buttons_act hb⟩

end Sys2Proof.Machine.TamperDisplay

/-! SUPPORT. Ledgers: what the commands that read or change one leave of it, of the other ledgers, and of the credit state it is
re-evaluated to (R301, R302, R305, R306). -/

namespace Sys2Proof.Machine.Ledgers

variable {s t : State} {h k : Nat} {f : Ledger → Ledger}

section Ledger

@[simp] theorem setLedger_ledger_same : (s.setLedger h f).ledger h = f (s.ledger h) := tblGet_upd_same _ _ _ _

theorem setLedger_ledger_ne (hk : k ≠ h) : (s.setLedger h f).ledger k = s.ledger k := tblGet_upd_ne _ _ _ hk

theorem ledger_congr (hb : t.bill = s.bill) : t.ledger k = s.ledger k :=
  congrArg (fun b : BillState => tblGet ({} : Ledger) b.app.ledgers k) hb

@[simp] theorem settleEffects_ledger : (s.settleEffects h).ledger k = s.ledger k := rfl

@[simp] theorem recordPrepay_ledger : (s.recordPrepay h).ledger k = s.ledger k :=
  ledger_congr (Billing.archive_bill _ _ _ _ _ _)

end Ledger

section CreditState

/-- A ledger without its credit state, emergency credit and notices: what no re-evaluation may touch (R305). -/
def account (l : Ledger) : Ledger :=
  { l with st := .off, ec := false, noticeSent := false, reconnect := false, disconnect := false, notice := none,
           ecSpent := false, reason := 0 }

/-- Ledgers with the same account hold the same money and owe the same energy. -/
theorem account_fields {l l' : Ledger} (ha : account l = account l') : l.balance = l'.balance ∧ l.debt = l'.debt ∧
    l.credited = l'.credited ∧ l.charged = l'.charged ∧ l.eCarry = l'.eCarry ∧ l.lastId = l'.lastId ∧ l.due = l'.due := by
  have hbal := congrArg Ledger.balance ha
  have hdebt := congrArg Ledger.debt ha
  have hcred := congrArg Ledger.credited ha
  have hchg := congrArg Ledger.charged ha
  have hcarry := congrArg Ledger.eCarry ha
  have hlast := congrArg Ledger.lastId ha
  have hdue := congrArg Ledger.due ha
  exact ⟨hbal, hdebt, hcred, hchg, hcarry, hlast, hdue⟩

/-- From one state to another at most the credit state of one meter has moved, and its emergency credit was not taken back. -/
structure CreditMoves (h : Nat) (s t : State) : Prop where
  others : ∀ k, k ≠ h → t.ledger k = s.ledger k
  account_eq : account (t.ledger h) = account (s.ledger h)
  keepsEc : (s.ledger h).ec = true → (t.ledger h).ec = true

namespace CreditMoves

theorem of_bill (hb : t.bill = s.bill) : CreditMoves h s t :=
  ⟨fun _ _ => ledger_congr hb, congrArg account (ledger_congr hb), fun he => (congrArg Ledger.ec (ledger_congr hb)).trans he⟩

theorem of_set (ha : ∀ l, account (f l) = account l) (he : ∀ l, l.ec = true → (f l).ec = true) :
    CreditMoves h s (s.setLedger h f) where
  others _ hk := setLedger_ledger_ne hk
  account_eq := by rw [setLedger_ledger_same, ha]
  keepsEc hs := by rw [setLedger_ledger_same]; exact he _ hs

theorem trans {u : State} (h1 : CreditMoves h s t) (h2 : CreditMoves h t u) : CreditMoves h s u :=
  ⟨fun k hk => (h2.others k hk).trans (h1.others k hk), h2.account_eq.trans h1.account_eq, fun he => h2.keepsEc (h1.keepsEc he)⟩

end CreditMoves

/-- An event, its message to the meter and its record leave every ledger (R305, R309, R327). -/
theorem announced_bill (code : Nat) (m : Int) :
    (((s.raise code m).tellCredit h).recordPrepay h).bill = s.bill := by
  simp [State.recordPrepay, State.tellCredit]

theorem autoEc_moves : CreditMoves h s (s.autoEc h) := by
  simp only [State.autoEc]
  split
  · exact .of_set (fun _ => rfl) (fun _ _ => rfl)
  · exact .of_bill rfl

theorem enterCredit_moves (c : Credit) : CreditMoves h s (s.enterCredit h c) := by
  have lowered : CreditMoves h s (s.setLedger h (·.lower c)) := .of_set (fun _ => rfl) (fun _ he => he)
  cases c
  case exhausted =>
    refine CreditMoves.trans ?_ (.of_bill (announced_bill _ _))
    exact .of_set (fun _ => rfl) (fun _ he => he)
  case low | emergency => exact lowered.trans (.of_bill (announced_bill _ _))
  case off | credit | deferred | disconnected => exact lowered.trans (.of_bill (Billing.archive_bill _ _ _ _ _ _))

theorem evalCredit_moves : CreditMoves h s (s.evalCredit h) := by
  simp only [State.evalCredit]
  split
  · exact autoEc_moves
  · exact autoEc_moves.trans (enterCredit_moves _)

/-- Beside the change that it is asked for, a change of a ledger moves at most the credit state of the same meter (R305). -/
theorem changeLedger_moves : CreditMoves h (s.setLedger h f) (s.changeLedger h f) := by
  simp only [State.changeLedger]
  have hpage : CreditMoves h (s.setLedger h f) ((s.usePage (0x5000 + h / 256) 3 2).setLedger h f) :=
    .of_bill (by simp [State.setLedger, State.setApp])
  refine hpage.trans (.trans ?_ (evalCredit_moves.trans (.of_bill (State.mirror_bill _ _ _ _))))
  exact .of_set (fun _ => rfl) (fun _ he => he)

theorem changeLedger_account : account ((s.changeLedger h f).ledger h) = account (f (s.ledger h)) := by
  rw [changeLedger_moves.account_eq, setLedger_ledger_same]

theorem changeLedger_ledger_ne (hk : k ≠ h) : (s.changeLedger h f).ledger k = s.ledger k :=
  (changeLedger_moves.others k hk).trans (setLedger_ledger_ne hk)

theorem changeLedger_ec (he : (f (s.ledger h)).ec = true) : ((s.changeLedger h f).ledger h).ec = true :=
  changeLedger_moves.keepsEc (by rwa [setLedger_ledger_same])

end CreditState

section Targets

theorem targets_one (hh : h ≠ 0xFFFFF) : s.targets h = [h] := if_neg hh

theorem targets_broadcast (hh : h = 0xFFFFF) : s.targets h = s.trust.meters.map (fun p => p.1) := if_pos hh

end Targets

end Sys2Proof.Machine.Ledgers

/-! PROOFS. Energy charges, credit transfers, emergency credit and debt (R302 to R306, R310). -/

namespace Sys2Proof.Machine.Ledgers

variable {s : State}

section Energy

variable {h : Nat} {m : Handle}

/-- A crossing into an island that is in no block reset is delivered at once (R25). -/
theorem crossing_delivered {i : Nat} {c : Instr} {t : State} (hq : s.pwr.islands.getD i .held ≠ .quiescing)
    (hr : s.pwr.islands.getD i .held ≠ .resetting) : s.crossing i c t = t := if_neg (not_or_intro hq hr)

theorem exec_prepayItem_direct (hq : s.pwr.islands.getD 8 .held ≠ .quiescing) (hr : s.pwr.islands.getD 8 .held ≠ .resetting)
    (hi : s.prepayItem m.toNat = none) : exec (.prepayItem m) s = .next (s.chargeDue m.toNat) := by
  show execPrepayItem m s = _
  simp only [execPrepayItem, hi, crossing_delivered hq hr]

theorem exec_prepayItem_staged {it : Item} (hq : s.pwr.islands.getD 8 .held ≠ .quiescing)
    (hr : s.pwr.islands.getD 8 .held ≠ .resetting) (hi : s.prepayItem m.toNat = some it) : exec (.prepayItem m) s =
      .next (s.setItem (0xC2C + m.toNat % 16) it.id (fun x => { x with work := some .charge })) := by
  show execPrepayItem m s = _
  simp only [execPrepayItem, hi, crossing_delivered hq hr]

theorem chargeDue_nothing (hd : (s.ledger h).due.all (· == 0) = true) : s.chargeDue h = s := if_pos hd

theorem chargeDue_dropped (hd : (s.ledger h).due.all (· == 0) = false) (hp : s.payMode h = 0 ∨ s.isStandby = true) :
    s.chargeDue h = (s.setLedger h (fun l => { l with due := List.replicate 8 0 })).settleEffects h :=
  (if_neg (ne_true_of_eq_false hd)).trans (if_pos hp)

theorem chargeDue_charged (hd : (s.ledger h).due.all (· == 0) = false) (hp : ¬(s.payMode h = 0 ∨ s.isStandby = true)) :
    s.chargeDue h = (s.changeLedger h (s.chargeEnergy h)).settleEffects h :=
  (if_neg (ne_true_of_eq_false hd)).trans (if_neg hp)

/-- With prepayment off, and on a Standby, the energy is dropped and the rest of the account stays (R302, R383). -/
theorem chargeDue_ledger_dropped (hd : (s.ledger h).due.all (· == 0) = false) (hp : s.payMode h = 0 ∨ s.isStandby = true) :
    (s.chargeDue h).ledger h = { s.ledger h with due := List.replicate 8 0 } := by
  rw [chargeDue_dropped hd hp, settleEffects_ledger, setLedger_ledger_same]

theorem chargeDue_account_charged (hd : (s.ledger h).due.all (· == 0) = false) (hp : ¬(s.payMode h = 0 ∨ s.isStandby = true)) :
    account ((s.chargeDue h).ledger h) = account (s.chargeEnergy h (s.ledger h)) := by
  rw [chargeDue_charged hd hp, settleEffects_ledger, changeLedger_account]

/-- Energy is charged once: nothing is left due (R302). -/
theorem chargeDue_chargeDue (hd : (s.ledger h).due.all (· == 0) = false) : (s.chargeDue h).chargeDue h = s.chargeDue h := by
  have hnone : ((s.chargeDue h).ledger h).due = List.replicate 8 0 := by
    by_cases hp : s.payMode h = 0 ∨ s.isStandby = true
    · rw [chargeDue_ledger_dropped hd hp]
    · obtain ⟨-, -, -, -, -, -, hdue⟩ := account_fields (chargeDue_account_charged hd hp)
      exact hdue
  exact chargeDue_nothing (by simp [hnone])

theorem chargeDue_ledger_ne {k : Nat} (hk : k ≠ h) : (s.chargeDue h).ledger k = s.ledger k := by
  unfold State.chargeDue
  split
  · rfl
  · split
    · rw [settleEffects_ledger, setLedger_ledger_ne hk]
    · rw [settleEffects_ledger, changeLedger_ledger_ne hk]

end Energy

section Transfer

variable {r : Req} {arg : Bytes} {o : ObjRow} {l : Ledger}

/-- What R303 asks of every transfer: an identifier, a source that it lists, and an amount in range. -/
theorem judgeTransfer_malformed (hm : fieldAt arg 0 4 = 0 ∨ fieldAt arg 12 1 = 0 ∨ 3 < fieldAt arg 12 1 ∨
    toSigned 64 (fieldAt arg 4 8) < 1 ∨ 1000000000000 < toSigned 64 (fieldAt arg 4 8)) : judgeTransfer l arg = .reject := if_pos hm

/-- A transfer that asks nothing amiss is judged by its identifier alone (R303). -/
theorem judgeTransfer_wellFormed (hid : fieldAt arg 0 4 ≠ 0) (hs1 : 1 ≤ fieldAt arg 12 1) (hs3 : fieldAt arg 12 1 ≤ 3)
    (ha1 : 1 ≤ toSigned 64 (fieldAt arg 4 8)) (ha2 : toSigned 64 (fieldAt arg 4 8) ≤ 1000000000000) : judgeTransfer l arg =
      if fieldAt arg 0 4 = l.lastId.toNat then .duplicate
      else if (l.lastId.toNat = 0xFFFFFFFF ∧ fieldAt arg 0 4 = 1) ∨ (l.lastId.toNat ≠ 0xFFFFFFFF ∧ l.lastId.toNat < fieldAt arg 0 4)
      then .accept else .reject := if_neg (by omega)

/-- The transfer applied to those of some meters that accept it (R303). -/
def transferred (s : State) (arg : Bytes) (hs : List Nat) : State :=
  (hs.filter (fun h => judgeTransfer (s.ledger h) arg == .accept)).foldl (fun t h => t.applyTransfer h arg) s

theorem transferred_one_duplicate {h : Nat} (hj : judgeTransfer (s.ledger h) arg = .duplicate) : transferred s arg [h] = s := by
  simp [transferred, hj]

theorem transferred_one_accept {h : Nat} (hj : judgeTransfer (s.ledger h) arg = .accept) :
    transferred s arg [h] = s.applyTransfer h arg := by
  simp [transferred, hj]

theorem exec_creditTransfer_refused (hs : s.starts r 0xC05410 arg o)
    (hj : ∃ h ∈ s.targets (s.itemOf r o), judgeTransfer (s.ledger h) arg = .reject) :
    exec (.creditTransfer r arg) s = .next (s.respond r (.abort .valueInvalid)) :=
  congrArg Host.Outcome.next (command_refused hs (if_pos (by simpa using hj)))

theorem exec_creditTransfer_done (hs : s.starts r 0xC05410 arg o)
    (hj : ∀ h ∈ s.targets (s.itemOf r o), judgeTransfer (s.ledger h) arg ≠ .reject) : exec (.creditTransfer r arg) s =
      .next ((transferred s arg (s.targets (s.itemOf r o))).succeeds r 0xC05410 (s.itemOf r o)) :=
  congrArg Host.Outcome.next (command_done hs (if_neg (by simpa using hj)))

/-- The account after an accepted transfer: the capped share has left the debt, and the rest is in the balance (R303). -/
theorem applyTransfer_account (h : Nat) (a toDebt : Int) (ha : a = toSigned 64 (fieldAt arg 4 8))
    (hd : toDebt = min (a * (s.cfgN 0x705008 : Int) / 100) (s.ledger h).debt) :
    account ((s.applyTransfer h arg).ledger h) = account { s.ledger h with
      debt := (s.ledger h).debt - toDebt
      balance := wrapS 64 ((s.ledger h).balance + (a - toDebt))
      credited := wrapS 64 ((s.ledger h).credited + a)
      lastId := BitVec.ofNat 32 (fieldAt arg 0 4) } := by
  subst ha hd
  rw [State.applyTransfer, changeLedger_account, recordPrepay_ledger]
  rfl

theorem applyTransfer_ledger_ne {h k : Nat} (hk : k ≠ h) : (s.applyTransfer h arg).ledger k = s.ledger k :=
  (changeLedger_ledger_ne hk).trans recordPrepay_ledger

end Transfer

section EmergencyCredit

variable {r : Req} {arg : Bytes} {o : ObjRow}

/-- Emergency credit activated for some meters (R306). -/
def activated (s : State) (hs : List Nat) : State :=
  hs.foldl (fun t h => t.changeLedger h (fun l => { l with ec := true })) s

theorem exec_requestEmergencyCredit_done (hs : s.starts r 0xC05411 arg o)
    (ha : ∀ h ∈ s.targets (s.itemOf r o), s.ecAllowed h = true) : exec (.requestEmergencyCredit r arg) s =
      .next ((activated s (s.targets (s.itemOf r o))).succeeds r 0xC05411 (s.itemOf r o)) :=
  congrArg Host.Outcome.next (command_done hs (if_pos (List.all_eq_true.mpr ha)))

theorem exec_requestEmergencyCredit_refused (hs : s.starts r 0xC05411 arg o)
    (ha : ∃ h ∈ s.targets (s.itemOf r o), s.ecAllowed h = false) :
    exec (.requestEmergencyCredit r arg) s = .next (s.respond r (.abort .valueInvalid)) :=
  congrArg Host.Outcome.next (command_refused hs (if_neg (by simpa using ha)))

/-- Above the low-credit threshold, with emergency credit active, and in a mode without requests none is allowed (R306). -/
theorem ecAllowed_eq_false {h : Nat} (hn : s.cfgI 8 0x705001 < (s.ledger h).balance ∨ (s.ledger h).ec = true ∨ s.cfgN 0x705003 ≠ 2) :
    s.ecAllowed h = false := by
  rcases hn with hb | he | hm
  · have hle : ¬(s.ledger h).balance ≤ s.cfgI 8 0x705001 := Int.not_le.mpr hb
    simp [State.ecAllowed, hle]
  · simp [State.ecAllowed, he]
  · simp [State.ecAllowed, hm]

end EmergencyCredit

section Debt

variable {r : Req} {arg : Bytes} {o : ObjRow}

/-- An amount added to the debt of a ledger (R304). -/
def addDebt (s : State) (h : Nat) (d : Int) : State := s.changeLedger h (fun l => { l with debt := wrapS 64 (l.debt + d) })

/-- The amount enters the debt, and the balance stays (R304). -/
theorem addDebt_ledger (h : Nat) (d : Int) : ((addDebt s h d).ledger h).debt = wrapS 64 ((s.ledger h).debt + d) ∧
    ((addDebt s h d).ledger h).balance = (s.ledger h).balance := by
  obtain ⟨hbal, hdebt, -⟩ := account_fields (changeLedger_account (s := s) (h := h)
    (f := fun l => { l with debt := wrapS 64 (l.debt + d) }))
  exact ⟨hdebt, hbal⟩

theorem exec_adjustDebt_refused (hs : s.starts r 0xC05412 arg o) (hh : s.itemOf r o ≠ 0xFFFFF)
    (hn : (s.ledger (s.itemOf r o)).debt + toSigned 64 (leNat arg) < 0) :
    exec (.adjustDebt r arg) s = .next (s.respond r (.abort .valueInvalid)) :=
  congrArg Host.Outcome.next (command_refused hs (if_pos (by simpa [targets_one hh] using hn)))

theorem exec_adjustDebt_none (hs : s.starts r 0xC05412 arg o) (hh : s.itemOf r o ≠ 0xFFFFF)
    (hn : 0 ≤ (s.ledger (s.itemOf r o)).debt) (hd : toSigned 64 (leNat arg) = 0) :
    exec (.adjustDebt r arg) s = .next (s.succeeds r 0xC05412 (s.itemOf r o)) :=
  congrArg Host.Outcome.next (command_done hs ((if_neg (by simpa [targets_one hh, hd] using hn)).trans (if_pos hd)))

theorem exec_adjustDebt_added (hs : s.starts r 0xC05412 arg o) (hh : s.itemOf r o ≠ 0xFFFFF)
    (hn : 0 ≤ (s.ledger (s.itemOf r o)).debt + toSigned 64 (leNat arg)) (hd : toSigned 64 (leNat arg) ≠ 0) :
    exec (.adjustDebt r arg) s =
      .next ((addDebt s (s.itemOf r o) (toSigned 64 (leNat arg))).succeeds r 0xC05412 (s.itemOf r o)) := by
  refine congrArg Host.Outcome.next (command_done hs ?_)
  simp only [targets_one hh]
  exact (if_neg (by simpa using hn)).trans (if_neg hd)

end Debt

/-- Settles O31: charges, transfers, emergency credit and debt by the account that each leaves; the broadcast forms by the meters that
a request addresses. -/
theorem ledgersAreChargedAndCredited : Obligations.LedgersAreChargedAndCredited := by
  refine ⟨fun s h hq hr => ⟨exec_prepayItem_direct hq hr, fun it => exec_prepayItem_staged hq hr⟩,
    fun s h hres => congrArg Host.Outcome.next (if_pos hres), fun s h => chargeDue_nothing,
    fun s h cost hd hcost hq hr hi =>
      ⟨_, exec_prepayItem_direct hq hr hi, chargeDue_chargeDue hd, fun k => chargeDue_ledger_ne, ?_, ?_⟩,
    fun s r arg o hs hh => ?_, fun s h arg a toDebt ha hd => ?_, fun l arg => judgeTransfer_malformed,
    fun l arg hid hs1 hs3 ha1 ha2 => ?_, fun s r arg o hs hh => ?_, fun s h => ecAllowed_eq_false,
    fun s h c hc he ha => congrArg Host.Outcome.next (if_pos ⟨hc, he, ha⟩), fun s h c hn => congrArg Host.Outcome.next (if_neg ?_),
    fun s r arg o d hs hh hd => ?_, fun s r arg o hs hh => ?_, fun s r arg o hs hh => ?_⟩
  case refine_1 =>
    intro hp
    rw [chargeDue_ledger_dropped hd hp]
    exact ⟨rfl, rfl⟩
  case refine_2 =>
    intro hm hst
    obtain ⟨hbal, hdebt, -, hchg, hcarry, -, -⟩ :=
      account_fields (chargeDue_account_charged hd (not_or_intro hm (ne_true_of_eq_false hst)))
    subst hcost
    exact ⟨hbal, hchg, hcarry, hdebt⟩
  case refine_3 =>
    have hone : s.targets (s.itemOf r o) = [s.itemOf r o] := targets_one hh
    refine ⟨fun hj => exec_creditTransfer_refused hs (by simpa [hone] using hj), fun hj => ?_, fun hj => ?_⟩
    · rw [exec_creditTransfer_done hs (by simp [hone, hj]), hone, transferred_one_duplicate hj]
    · rw [exec_creditTransfer_done hs (by simp [hone, hj]), hone, transferred_one_accept hj]
  case refine_4 =>
    obtain ⟨hbal, hdebt, hcred, -, -, hlast, -⟩ := account_fields (applyTransfer_account h a toDebt ha hd)
    exact ⟨hdebt, hbal, hcred, hlast, fun k => applyTransfer_ledger_ne⟩
  case refine_5 =>
    rw [judgeTransfer_wellFormed hid hs1 hs3 ha1 ha2]
    refine ⟨fun he => if_pos he, fun hl hne => ?_, fun hl hlt => ?_, fun hl hlt => ?_⟩
    · simp [hl, hne]
    · rw [if_neg (by omega), if_pos (by omega)]
    · rw [if_neg (by omega), if_neg (by omega)]
  case refine_6 =>
    have hone : s.targets (s.itemOf r o) = [s.itemOf r o] := targets_one hh
    refine ⟨fun ha => ⟨?_, changeLedger_ec rfl, fun k => changeLedger_ledger_ne⟩,
      fun ha => exec_requestEmergencyCredit_refused hs (by simpa [hone] using ha)⟩
    rw [exec_requestEmergencyCredit_done hs (by simpa [hone] using ha), hone]
    rfl
  case refine_7 =>
    rintro ⟨hc, he, ha⟩
    rcases hn with hoff | hother | hdenied
    · exact hc hoff
    · exact hother he
    · exact ne_true_of_eq_false hdenied ha
  case refine_8 =>
    subst hd
    refine ⟨exec_adjustDebt_refused hs hh, exec_adjustDebt_none hs hh, fun hn hd => ?_⟩
    obtain ⟨hdebt, hbal⟩ := addDebt_ledger (s := s) (s.itemOf r o) (toSigned 64 (leNat arg))
    exact ⟨_, exec_adjustDebt_added hs hh hn hd, hdebt, hbal, fun k => changeLedger_ledger_ne⟩
  case refine_9 =>
    have hall : s.targets (s.itemOf r o) = s.trust.meters.map (fun p => p.1) := targets_broadcast hh
    refine ⟨fun hj => exec_creditTransfer_refused hs (by simpa [hall] using hj), fun hj => ?_⟩
    rw [exec_creditTransfer_done hs (by simpa [hall] using hj), hall, hh]
    rfl
  case refine_10 =>
    have hall : s.targets (s.itemOf r o) = s.trust.meters.map (fun p => p.1) := targets_broadcast hh
    refine ⟨fun ha => exec_requestEmergencyCredit_refused hs (by simpa [hall] using ha), fun ha => ?_⟩
    rw [exec_requestEmergencyCredit_done hs (by simpa [hall] using ha), hall, hh]
    rfl

end Sys2Proof.Machine.Ledgers

/-! PROOFS. The Host Volume: the NVMe commands as the controller fetches them, the write buffer, deallocation, erase, queues,
features, events, and the map pages in host memory (R337, R341 to R344). -/

namespace Sys2Proof.Machine.HostVolume

variable {s t : State} {c : NvCmd} {i : Instr}

section Fetching

/-- The commands that the controller fetches from a queue of the host, each with its queue (R341). -/
inductive HostCommand (c : NvCmd) : Instr → Prop
  | read (lba n u) : HostCommand c (.nvmeRead c lba n u)
  | write (lba d fua) : HostCommand c (.nvmeWrite c lba d fua)
  | flush : HostCommand c (.nvmeFlush c)
  | datasetManagement (d r) : HostCommand c (.nvmeDatasetManagement c d r)
  | format (ses) : HostCommand c (.nvmeFormat c ses)
  | identify (cns) : HostCommand c (.nvmeIdentify c cns)
  | getLogPage (lid) : HostCommand c (.nvmeGetLogPage c lid)
  | setFeatures (fid v) : HostCommand c (.nvmeSetFeatures c fid v)
  | getFeatures (fid) : HostCommand c (.nvmeGetFeatures c fid)
  | createIoQueue (b id z q) : HostCommand c (.nvmeCreateIoQueue c b id z q)
  | deleteIoQueue (b id) : HostCommand c (.nvmeDeleteIoQueue c b id)
  | abort (q cid) : HostCommand c (.nvmeAbort c q cid)
  | asynchronousEventRequest : HostCommand c (.asynchronousEventRequest c)
  | invalidOpcode : HostCommand c (.nvmeInvalidOpcode c)

/-- Every command of the host passes the controller's fetch before it is carried out. -/
theorem exec_hostCommand (hi : HostCommand c i) (s : State) : ∃ t, exec i s = .next (s.nvRun c i t) := by
  cases hi <;> exact ⟨_, rfl⟩

/-- A command of a queue that is not fetched from changes nothing. -/
theorem exec_unfetched (hf : s.fetches c = false) (hi : HostCommand c i) : exec i s = .next s := by
  obtain ⟨t, ht⟩ := exec_hostCommand hi s
  rw [ht, State.nvRun, hf]
  rfl

/-- A fetched command waits for the storage island, for NAND balance, and behind an earlier one (R25, R219, R342). -/
theorem exec_held (hf : s.fetches c = true) (hw : s.isUp 4 = false ∨ s.allows 12 3 = false ∨ s.arch.nvWait ≠ [])
    (hi : HostCommand c i) : exec i s = .next (s.nvHold i) := by
  obtain ⟨t, ht⟩ := exec_hostCommand hi s
  rw [ht, State.nvRun, hf, if_neg (by simp), if_pos hw]

/-- A command of this queue is fetched and carried out at once. -/
structure CarriesOut (s : State) (c : NvCmd) : Prop where
  fetched : s.fetches c = true
  islandUp : s.isUp 4 = true
  budgeted : s.allows 12 3 = true
  noneWaits : s.arch.nvWait = []

theorem nvRun_of_carriesOut (h : CarriesOut s c) : s.nvRun c i t = t := by
  simp [State.nvRun, h.fetched, h.islandUp, h.budgeted, h.noneWaits]

/-- The commands that name the namespace's data (R341). -/
inductive IoCommand (c : NvCmd) : Instr → Prop
  | read (lba n u) : IoCommand c (.nvmeRead c lba n u)
  | write (lba d fua) : IoCommand c (.nvmeWrite c lba d fua)
  | flush : IoCommand c (.nvmeFlush c)
  | datasetManagement (d r) : IoCommand c (.nvmeDatasetManagement c d r)

theorem exec_ioRefused {st : Nat} (h : CarriesOut s c) (hr : s.ioRefuses c = some st) (hi : IoCommand c i) :
    exec i s = .next (s.nvDone c st) := by
  cases hi <;> exact congrArg Host.Outcome.next ((nvRun_of_carriesOut h).trans (by simp only [hr]))

end Fetching

section Contents

variable {lba : Nat} {d : Bytes}

/-- What an LBA holds: the newest data buffered for it, else the data stored (R342). -/
def contents (s : State) (lba : Nat) : Option Bytes :=
  ((s.arch.wbuf.reverse.find? (fun w => w.lba == lba)).map (fun w => w.data)).or (tblFind? s.arch.hvData lba)

theorem contents_of_unbuffered (h : ∀ w ∈ s.arch.wbuf, w.lba ≠ lba) : contents s lba = tblFind? s.arch.hvData lba := by
  have hnone : s.arch.wbuf.reverse.find? (fun w => w.lba == lba) = none := by simpa using h
  rw [contents, hnone]
  rfl

theorem readLba_of_contents (h : contents s lba = some d) : (s.readLba lba).1 = d := by
  unfold contents at h
  unfold State.readLba
  split
  · next w hw => simpa [hw] using h
  · next hw =>
    have hstored : tblFind? s.arch.hvData lba = some d := by simpa [hw] using h
    simp only [hstored]

@[simp] theorem usePage_hvData (s : State) (p a n : Nat) : (s.usePage p a n).arch.hvData = s.arch.hvData := by
  unfold State.usePage
  split
  · simp
  · dsimp only
    split <;> simp

@[simp] theorem placeUnit_hvData (s : State) (r l a f : Nat) (b : Bytes) :
    (s.placeUnit r l a f b).arch.hvData = s.arch.hvData := by
  simp only [State.placeUnit]
  split <;> simp

@[simp] theorem program_hvData (s : State) (r l a f : Nat) (b : Bytes) : (s.program r l a f b).arch.hvData = s.arch.hvData := by
  simp only [State.program, State.chargeOpen_arch, placeUnit_hvData]
  split <;> simp

@[simp] theorem programBuffer_wbuf (s : State) : s.programBuffer.arch.wbuf = [] := rfl

/-- The state after one write of the buffer is programmed (R342). -/
def programWrite (s : State) (w : HvWrite) : State :=
  { s.program 4 w.lba 12 0 w.data with
    arch := { (s.program 4 w.lba 12 0 w.data).arch with
      hvData := tblPut (s.program 4 w.lba 12 0 w.data).arch.hvData w.lba w.data } }

theorem programWrite_hvData (s : State) (w : HvWrite) : tblPut s.arch.hvData w.lba w.data = (programWrite s w).arch.hvData := by
  simp [programWrite]

/-- Programming stores the buffered data one after another. -/
theorem programBuffer_hvData (s : State) :
    s.programBuffer.arch.hvData = s.arch.wbuf.foldl (fun t w => tblPut t w.lba w.data) s.arch.hvData :=
  (List.foldl_hom (fun t : State => t.arch.hvData) programWrite_hvData).symm

/-- Data put one after another: of each LBA the last is found. -/
theorem tblFind?_foldl_write (l : List HvWrite) (t : Tbl Bytes) : tblFind? (l.foldl (fun t w => tblPut t w.lba w.data) t) lba =
    ((l.reverse.find? (fun w => w.lba == lba)).map (fun w => w.data)).or (tblFind? t lba) := by
  induction l generalizing t with
  | nil => rfl
  | cons w l ih =>
    rw [List.foldl_cons, ih, List.reverse_cons, List.find?_append]
    by_cases hw : w.lba = lba
    · subst hw
      cases l.reverse.find? (fun x => x.lba == w.lba) <;> simp
    · rw [tblFind?_put_ne t w.data (Ne.symm hw)]
      simp [hw]

/-- Programming the buffer leaves what every LBA holds. -/
theorem contents_programBuffer : contents s.programBuffer lba = contents s lba := by
  rw [contents_of_unbuffered (by simp), programBuffer_hvData, tblFind?_foldl_write, contents]

/-- The data programmed are stored as the LBA held them. -/
theorem programBuffer_stored : tblFind? s.programBuffer.arch.hvData lba = contents s lba := by
  rw [← contents_programBuffer, contents_of_unbuffered (by simp)]

/-- The state with data put in the write buffer. -/
def buffered (s : State) (lba : Nat) (d : Bytes) : State :=
  { s with arch := { s.arch with wbuf := s.arch.wbuf ++ [{ lba := lba, data := d, born := s.time.mono }] } }

theorem contents_buffered : contents (buffered s lba d) lba = some d := by simp [contents, buffered]

theorem bufferWrite_short (h : s.arch.wbuf.length + 1 < s.stripe) : s.bufferWrite lba d = buffered s lba d :=
  if_neg (by simpa using h)

theorem contents_bufferWrite : contents (s.bufferWrite lba d) lba = some d := by
  have hw : s.bufferWrite lba d = if s.stripe ≤ (buffered s lba d).arch.wbuf.length then (buffered s lba d).programBuffer
    else buffered s lba d := rfl
  rw [hw]
  split
  · rw [contents_programBuffer, contents_buffered]
  · exact contents_buffered

end Contents

section Reading

variable {lba : Nat} {n : U16}

/-- The data of the Host Volume and its write buffer. -/
def volume (s : State) : Tbl Bytes × List HvWrite := (s.arch.hvData, s.arch.wbuf)

theorem readLba_volume (s : State) (lba : Nat) : volume (s.readLba lba).2 = volume s := by
  unfold State.readLba
  split
  · rfl
  · split
    · simp only [volume, State.charge_arch]
    · rfl

/-- The data of consecutive LBAs, and the state once they are read. -/
def readFrom (s : State) (lba n : Nat) : Bytes × State :=
  (List.range n).foldl (fun acc k => (acc.1 ++ (acc.2.readLba (lba + k)).1, (acc.2.readLba (lba + k)).2)) ([], s)

theorem readFrom_volume (s : State) (lba n : Nat) : volume (readFrom s lba n).2 = volume s :=
  List.foldlRecOn (motive := fun (p : Bytes × State) => volume p.2 = volume s) _ _ rfl
    (fun p hp k _ => (readLba_volume p.2 (lba + k)).trans hp)

theorem exec_nvmeRead_outOfRange (h : CarriesOut s c) (hr : s.ioRefuses c = none) (hn : s.hvBlocks < lba + n.toNat) (u : Bool) :
    exec (.nvmeRead c lba n u) s = .next (s.nvDone c 0x80) :=
  congrArg Host.Outcome.next ((nvRun_of_carriesOut h).trans (by simp only [hr, if_pos hn]))

theorem exec_nvmeRead_uncorrectable (h : CarriesOut s c) (hr : s.ioRefuses c = none) (hn : lba + n.toNat ≤ s.hvBlocks) :
    exec (.nvmeRead c lba n true) s = .next (s.nvDone c 0x281) :=
  congrArg Host.Outcome.next ((nvRun_of_carriesOut h).trans (by simp only [hr, if_neg (Nat.not_lt.mpr hn), if_true]))

theorem exec_nvmeRead_data (h : CarriesOut s c) (hr : s.ioRefuses c = none) (hn : lba + n.toNat ≤ s.hvBlocks) :
    exec (.nvmeRead c lba n false) s = .next ((readFrom s lba n.toNat).2.nvDone c 0 (readFrom s lba n.toNat).1) :=
  congrArg Host.Outcome.next ((nvRun_of_carriesOut h).trans
    (by simp only [hr, if_neg (Nat.not_lt.mpr hn), Bool.false_eq_true, if_false, readFrom]))

end Reading

section Writing

variable {lba : Nat} {d : Bytes}

/-- The state after a Write of one LBA, with FUA or without (R342). -/
def written (s : State) (lba : Nat) (d : Bytes) (fua : Bool) : State :=
  if fua then (s.bufferWrite lba d).programBuffer else s.bufferWrite lba d

theorem contents_written (fua : Bool) : contents (written s lba d fua) lba = some d := by
  cases fua
  · exact contents_bufferWrite
  · exact contents_programBuffer.trans contents_bufferWrite

theorem exec_nvmeWrite_one (h : CarriesOut s c) (hr : s.ioRefuses c = none) (hn : lba < s.hvBlocks)
    (hro : s.arch.readOnly = false) (fua : Bool) :
    exec (.nvmeWrite c lba [d] fua) s = .next ((written s lba d fua).nvDone c 0) := by
  have hin : ¬s.hvBlocks < lba + [d].length := Nat.not_lt.mpr hn
  exact congrArg Host.Outcome.next ((nvRun_of_carriesOut h).trans (by simp only [hr, if_neg hin, hro]; rfl))

theorem exec_nvmeWrite_outOfRange {l : List Bytes} (h : CarriesOut s c) (hr : s.ioRefuses c = none)
    (hn : s.hvBlocks < lba + l.length) (fua : Bool) : exec (.nvmeWrite c lba l fua) s = .next (s.nvDone c 0x80) :=
  congrArg Host.Outcome.next ((nvRun_of_carriesOut h).trans (by simp only [hr, if_pos hn]))

theorem exec_nvmeWrite_readOnly {l : List Bytes} (h : CarriesOut s c) (hr : s.ioRefuses c = none)
    (hn : lba + l.length ≤ s.hvBlocks) (hro : s.arch.readOnly = true) (fua : Bool) :
    exec (.nvmeWrite c lba l fua) s = .next (s.nvDone c 0x20) :=
  congrArg Host.Outcome.next ((nvRun_of_carriesOut h).trans (by simp only [hr, if_neg (Nat.not_lt.mpr hn), hro, if_true]))

theorem exec_nvmeFlush (h : CarriesOut s c) (hr : s.ioRefuses c = none) :
    exec (.nvmeFlush c) s = .next (s.programBuffer.nvDone c 0) :=
  congrArg Host.Outcome.next ((nvRun_of_carriesOut h).trans (by simp only [hr]))

theorem exec_writeBufferProgram_waits (h : s.isUp 4 = false ∨ s.allows 12 3 = false) : exec .writeBufferProgram s = .next s := by
  refine congrArg Host.Outcome.next (if_neg fun hon => ?_)
  simp [hon.1, hon.2] at h

theorem exec_writeBufferProgram (hu : s.isUp 4 = true) (ha : s.allows 12 3 = true) :
    exec .writeBufferProgram s = .next s.programBuffer := congrArg Host.Outcome.next (if_pos ⟨hu, ha⟩)

end Writing

section Deallocation

variable {r : List (Nat × Nat)} {l k : Nat}

/-- An LBA lies in one of the ranges, a start and a length each. -/
def inRanges (r : List (Nat × Nat)) (l : Nat) : Bool := r.any (fun x => decide (x.1 ≤ l) && decide (l < x.1 + x.2))

theorem inRanges_iff : inRanges r l = true ↔ ∃ x ∈ r, x.1 ≤ l ∧ l < x.1 + x.2 := by simp [inRanges]

/-- The LBAs in the ranges that hold data (R343). -/
def mappedIn (s : State) (r : List (Nat × Nat)) : List Nat :=
  (s.arch.hvData.map (fun p => p.1) ++ s.arch.wbuf.map (fun w => w.lba)).filter (inRanges r)

/-- The state after the ranges are deallocated. -/
def deallocated (s : State) (r : List (Nat × Nat)) : State := (mappedIn s r).foldl (fun t l => t.unmapLba l) s

/-- No data are stored or buffered for an LBA. -/
def Unmapped (s : State) (l : Nat) : Prop := tblFind? s.arch.hvData l = none ∧ ∀ w ∈ s.arch.wbuf, w.lba ≠ l

theorem unmapLba_unmapped (s : State) (l : Nat) : Unmapped (s.unmapLba l) l :=
  ⟨tblFind?_del_same _ _, fun w hw => by simpa using (List.mem_filter.mp hw).2⟩

theorem unmapLba_find_ne (s : State) (h : k ≠ l) : tblFind? (s.unmapLba l).arch.hvData k = tblFind? s.arch.hvData k :=
  tblFind?_del_ne _ h

theorem unmapLba_keeps_unmapped (s : State) (h : l ≠ k) (hk : Unmapped s k) : Unmapped (s.unmapLba l) k :=
  ⟨(unmapLba_find_ne s h.symm).trans hk.1, fun w hw => hk.2 w (List.mem_filter.mp hw).1⟩

/-- Every LBA of the ranges is unmapped: one that held no data was so before. -/
theorem deallocated_inside (h : inRanges r l = true) : Unmapped (deallocated s r) l := by
  refine Billing.foldl_establishes unmapLba_unmapped (fun t _ _ => unmapLba_keeps_unmapped t) _ s l ?_
  by_cases hl : l ∈ s.arch.hvData.map (fun p => p.1) ++ s.arch.wbuf.map (fun w => w.lba)
  · exact .inl (List.mem_filter.mpr ⟨hl, h⟩)
  · simp only [List.mem_append, List.mem_map, not_or, not_exists, not_and] at hl
    exact .inr ⟨Dictionary.tblFind?_eq_none hl.1, hl.2⟩

/-- An LBA outside the ranges keeps its stored data. -/
theorem deallocated_outside (h : inRanges r l = false) :
    tblFind? (deallocated s r).arch.hvData l = tblFind? s.arch.hvData l := by
  refine List.foldlRecOn (motive := fun (t : State) => tblFind? t.arch.hvData l = _) _ _ rfl (fun t ht k hk => ?_)
  have hne : l ≠ k := fun he => by simp [(List.mem_filter.mp hk).2, he] at h
  exact (unmapLba_find_ne t hne).trans ht

theorem exec_nvmeDatasetManagement (h : CarriesOut s c) (hr : s.ioRefuses c = none)
    (hin : ∀ x ∈ r, x.2 = 0 ∨ x.1 + x.2 ≤ s.hvBlocks) (b : Bool) :
    exec (.nvmeDatasetManagement c b r) s = .next ((if b then deallocated s r else s).nvDone c 0) := by
  have hany : ¬(r.any (fun x => x.2 != 0 && decide (s.hvBlocks < x.1 + x.2)) = true) := by
    intro hany
    obtain ⟨x, hx, hout⟩ := List.any_eq_true.mp hany
    simp only [Bool.and_eq_true, bne_iff_ne, decide_eq_true_eq] at hout
    have hfits := hin x hx
    omega
  exact congrArg Host.Outcome.next ((nvRun_of_carriesOut h).trans (by simp only [hr, if_neg hany]; rfl))

end Deallocation

section Erase

@[simp] theorem storageSlot_arch (s : State) (n u : Nat) (l : String) (x : Bytes) : (s.storageSlot n u l x).arch = s.arch := by
  unfold State.storageSlot
  split <;> rfl

@[simp] theorem hostKeys_arch (s : State) : s.hostKeys.arch = s.arch := by simp [State.hostKeys]

theorem eraseVolume_hvData (s : State) : s.eraseVolume.arch.hvData = [] := by simp [State.eraseVolume]

theorem eraseVolume_keyGen (s : State) : s.eraseVolume.arch.keyGen = s.arch.keyGen + 1 := by simp [State.eraseVolume]

theorem exec_nvmeFormat (h : CarriesOut s c) (hp : s.hvPresent = true) (hns : c.nsid = 1) (ses : Nat) :
    exec (.nvmeFormat c ses) s = .next (if ses ≠ 2 then s.nvDone c 0x02 else s.eraseVolume.nvDone c 0) :=
  congrArg Host.Outcome.next ((nvRun_of_carriesOut h).trans (if_neg (by simp [hp, hns])))

end Erase

section Admin

variable {n v : Nat}

theorem exec_nvmeIdentify_namespace (h : CarriesOut s c) (hns : c.nsid = 1) :
    exec (.nvmeIdentify c 0) s = .next (s.nvDone c 0 (Config.nvmeData 0 [s.hvBlocks])) :=
  congrArg Host.Outcome.next ((nvRun_of_carriesOut h).trans (by simp [hns]))

theorem exec_nvmeIdentify_controller (h : CarriesOut s c) : exec (.nvmeIdentify c 1) s =
    .next (s.nvDone c 0 (Config.nvmeData 1 [1, 4, (s.hvPages * 16384 + 1048575) / 1048576, 64, 1])) :=
  congrArg Host.Outcome.next (nvRun_of_carriesOut h)

theorem exec_nvmeIdentify_unknown (h : CarriesOut s c) (hn : 2 < n) : exec (.nvmeIdentify c n) s = .next (s.nvDone c 0x02) :=
  congrArg Host.Outcome.next ((nvRun_of_carriesOut h).trans
    (by rw [if_neg (by omega), if_neg (by omega), if_neg (by omega)]))

/-- The SMART log page (R341); its event may be reported again. -/
theorem exec_nvmeGetLogPage_smart (h : CarriesOut s c) : exec (.nvmeGetLogPage c 2) s =
    .next (({ s with arch := { s.arch with maskedEv := s.arch.maskedEv.filter (· != 2) } } : State).nvDone c 0
      (Config.nvmeData 18 [bit s.arch.readOnly * 8, s.percentUsed, min s.arch.freeBlocks s.arch.reserve * 100 / max s.arch.reserve 1])) :=
  congrArg Host.Outcome.next (nvRun_of_carriesOut h)

theorem exec_nvmeGetLogPage_unknown (h : CarriesOut s c) (hn : n = 0 ∨ 3 < n) :
    exec (.nvmeGetLogPage c n) s = .next (s.nvDone c 0x109) :=
  congrArg Host.Outcome.next ((nvRun_of_carriesOut h).trans (by rw [if_neg (by omega), if_neg (by omega)]))

theorem exec_features_unknown (h : CarriesOut s c) (hn : n ∉ nvFeatures) :
    exec (.nvmeSetFeatures c n v) s = .next (s.nvDone c 0x02) ∧ exec (.nvmeGetFeatures c n) s = .next (s.nvDone c 0x02) :=
  have hno : (!nvFeatures.contains n) = true := by simpa using hn
  ⟨congrArg Host.Outcome.next ((nvRun_of_carriesOut h).trans (if_pos hno)),
    congrArg Host.Outcome.next ((nvRun_of_carriesOut h).trans (if_pos hno))⟩

/-- The state with a feature's value set. -/
def withFeature (s : State) (n v : Nat) : State := { s with arch := { s.arch with feats := tblPut s.arch.feats n v } }

theorem exec_nvmeSetFeatures (h : CarriesOut s c) (hn : n ∈ nvFeatures) : exec (.nvmeSetFeatures c n v) s =
    .next ((if n = 0x0D then (withFeature s n v).grantHmb (v % 2 == 1) (v / 2) else withFeature s n v).nvDone c 0) :=
  congrArg Host.Outcome.next ((nvRun_of_carriesOut h).trans (if_neg (by simpa using hn)))

theorem exec_nvmeGetFeatures (h : CarriesOut s c) (hn : n ∈ nvFeatures) : exec (.nvmeGetFeatures c n) s =
    .next (s.nvDone c 0 (Config.nvmeData (32 + n) [tblGet 0 s.arch.feats n])) :=
  congrArg Host.Outcome.next ((nvRun_of_carriesOut h).trans (if_neg (by simpa using hn)))

/-- Less than 64 MiB of host memory are no grant (R344). -/
theorem grantHmb_small (s : State) (enable : Bool) {mib : Nat} (h : mib < 64) :
    (s.grantHmb enable mib).arch.hmbMib = 0 ∧ (s.grantHmb enable mib).arch.resident = [] := by
  simp [State.grantHmb, Nat.not_le.mpr h]

/-- The features that are not the Host Memory Buffer are held as they are set. -/
theorem exec_features_plain (h : CarriesOut s c) (hn : n ∈ [1, 6, 7, 0x0B]) :
    exec (.nvmeSetFeatures c n v) s = .next ((withFeature s n v).nvDone c 0) ∧
      exec (.nvmeGetFeatures c n) s = .next (s.nvDone c 0 (Config.nvmeData (32 + n) [tblGet 0 s.arch.feats n])) := by
  have hmem : n ∈ nvFeatures := List.mem_of_mem_take (i := 4) hn
  have hne : n ≠ 0x0D := by
    rintro rfl
    exact absurd hn (by decide)
  exact ⟨(exec_nvmeSetFeatures h hmem).trans (by rw [if_neg hne]), exec_nvmeGetFeatures h hmem⟩

end Admin

section Queues

variable {id size cq : Nat}

theorem exec_createCq (h : CarriesOut s c) (h1 : 1 ≤ id) (h8 : id ≤ 8) (hz : 1 ≤ size) (hz' : size ≤ 1024)
    (hfree : tblFind? s.arch.cqs id = none) : exec (.nvmeCreateIoQueue c true id size cq) s =
      .next (({ s with arch := { s.arch with cqs := tblPut s.arch.cqs id { cq := id, size := size } } } : State).nvDone c 0) := by
  have hid : ¬(id = 0 ∨ 8 < id ∨ (tblFind? s.arch.cqs id).isSome = true) := by simp [hfree]; omega
  exact congrArg Host.Outcome.next ((nvRun_of_carriesOut h).trans ((if_neg hid).trans (if_neg (by omega))))

theorem exec_createSq (h : CarriesOut s c) (h1 : 1 ≤ id) (h8 : id ≤ 8) (hz : 1 ≤ size) (hz' : size ≤ 1024)
    (hfree : tblFind? s.arch.sqs id = none) (hcq : tblFind? s.arch.cqs cq ≠ none) :
    exec (.nvmeCreateIoQueue c false id size cq) s =
      .next (({ s with arch := { s.arch with sqs := tblPut s.arch.sqs id { cq := cq, size := size } } } : State).nvDone c 0) := by
  have hid : ¬(id = 0 ∨ 8 < id ∨ (tblFind? s.arch.sqs id).isSome = true) := by simp [hfree]; omega
  exact congrArg Host.Outcome.next ((nvRun_of_carriesOut h).trans
    ((if_neg hid).trans ((if_neg (by omega)).trans ((if_neg Bool.false_ne_true).trans (if_neg (by simpa using hcq))))))

theorem exec_createIoQueue_badId (h : CarriesOut s c) (hid : id = 0 ∨ 8 < id) (b : Bool) :
    exec (.nvmeCreateIoQueue c b id size cq) s = .next (s.nvDone c 0x101) :=
  congrArg Host.Outcome.next ((nvRun_of_carriesOut h).trans (if_pos (hid.imp_right .inl)))

/-- A completion queue is deleted only when no submission queue posts to it (R341). -/
theorem exec_deleteCq (h : CarriesOut s c) (hq : tblFind? s.arch.cqs id ≠ none) : exec (.nvmeDeleteIoQueue c true id) s =
    .next (if s.arch.sqs.any (fun p => p.2.cq == id) then s.nvDone c 0x10C
      else ({ s with arch := { s.arch with cqs := tblDel s.arch.cqs id } } : State).nvDone c 0) :=
  congrArg Host.Outcome.next ((nvRun_of_carriesOut h).trans ((if_pos rfl).trans (if_neg (by simpa using hq))))

theorem exec_deleteSq (h : CarriesOut s c) (hq : tblFind? s.arch.sqs id ≠ none) : exec (.nvmeDeleteIoQueue c false id) s =
    .next (({ s with arch := { s.arch with sqs := tblDel s.arch.sqs id } } : State).nvDone c 0) :=
  congrArg Host.Outcome.next ((nvRun_of_carriesOut h).trans ((if_neg Bool.false_ne_true).trans (if_neg (by simpa using hq))))

end Queues

section Events

theorem exec_nvmeAbort_held {k : Nat} (h : CarriesOut s c) (hk : k ∈ s.arch.aers) : exec (.nvmeAbort c 0 k) s =
    .next ((({ s with arch := { s.arch with aers := s.arch.aers.erase k } } : State).emit (.nvme 0 k 0x07 [])).nvDone c 0 [0]) :=
  congrArg Host.Outcome.next ((nvRun_of_carriesOut h).trans (if_pos ⟨rfl, by simpa using hk⟩))

theorem exec_nvmeAbort_nothing {q k : Nat} (h : CarriesOut s c) (hq : q ≠ 0 ∨ k ∉ s.arch.aers) :
    exec (.nvmeAbort c q k) s = .next (s.nvDone c 0 [1]) :=
  congrArg Host.Outcome.next ((nvRun_of_carriesOut h).trans (if_neg fun hheld =>
    hq.elim (fun hne => hne hheld.1) (fun hnot => hnot (List.contains_iff_mem.mp hheld.2))))

theorem exec_asynchronousEventRequest_held (h : CarriesOut s c) (he : s.arch.events = []) :
    exec (.asynchronousEventRequest c) s = .next { s with arch := { s.arch with aers := s.arch.aers ++ [c.cid] } } :=
  congrArg Host.Outcome.next ((nvRun_of_carriesOut h).trans (by simp only [he]))

theorem exec_asynchronousEventRequest_completes {e : Nat} {rest : List Nat} (h : CarriesOut s c) (he : s.arch.events = e :: rest) :
    exec (.asynchronousEventRequest c) s =
      .next (({ s with arch := { s.arch with events := rest } } : State).nvDone c 0 (leBytes 4 e)) :=
  congrArg Host.Outcome.next ((nvRun_of_carriesOut h).trans (by simp only [he]))

theorem exec_nvmeControllerEnable_absent (h : s.hvPresent = false) (b : Bool) : exec (.nvmeControllerEnable b) s = .next s :=
  congrArg Host.Outcome.next (if_pos h)

theorem exec_nvmeControllerEnable_set (h : s.hvPresent = true) : exec (.nvmeControllerEnable true) s =
    .next { s with arch := { s.arch with ccEn := true, rdy := s.arch.restored, nsUp := true } } :=
  congrArg Host.Outcome.next (if_neg (ne_false_of_eq_true h))

/-- A cleared CC.EN resets the controller (R341). -/
theorem exec_nvmeControllerEnable_cleared (h : s.hvPresent = true) : exec (.nvmeControllerEnable false) s =
    .next { s with arch := { s.arch with
      ccEn := false, rdy := false, nvWait := [], cqs := [], sqs := [], feats := [], aers := [], events := [], maskedEv := []
      hmbMib := 0, resident := [] } } :=
  congrArg Host.Outcome.next (if_neg (ne_false_of_eq_true h))

end Events

section MapPages

variable {p : U16} {x : Bytes}

/-- The most recently used page stands first. -/
theorem head?_take_cons {k m : Nat} (l : List Nat) (hm : 0 < m) : ((k :: l).take m).head? = some k := by
  rw [List.head?_take, if_neg (Nat.ne_of_gt hm), List.head?_cons]

/-- The state with a map page as the most recently used of those on chip (R344). -/
def chipUsed (s : State) (k : Nat) : State :=
  { s with arch := { s.arch with mapChip := (k :: s.arch.mapChip.filter (· != k)).take 32 } }

/-- The state with a map page as the most recently used of the host's buffer (R344). -/
def bufferUsed (s : State) (k : Nat) : State :=
  { s with arch := { s.arch with resident := (k :: s.arch.resident.filter (· != k)).take (s.arch.hmbMib * 64) } }

theorem bufferUsed_head? {k : Nat} (h : 64 ≤ s.arch.hmbMib) : (bufferUsed s k).arch.resident.head? = some k :=
  head?_take_cons _ (by omega)

/-- A page's tag under the key of the buffer (R344). -/
def pageTag (s : State) (b : Bytes) : Bytes := (Config.cmac ((s.slotKey 20).getD []) b).take 8

theorem exec_hmbMapFetch_held (h : s.isUp 4 = false) : exec (.hmbMapFetch p x) s = .next s :=
  congrArg Host.Outcome.next (if_pos h)

/-- Without a grant the page is put on chip, after a read of NAND where it was not there. -/
theorem exec_hmbMapFetch_chip (hu : s.isUp 4 = true) (hg : s.arch.hmbMib < 64) : exec (.hmbMapFetch p x) s =
    .next (if s.arch.mapChip.contains p.toNat then chipUsed s p.toNat else (chipUsed s p.toNat).charge 12 3 1) :=
  congrArg Host.Outcome.next ((if_neg (ne_false_of_eq_true hu)).trans (if_pos hg))

theorem exec_hmbMapFetch_missing (hu : s.isUp 4 = true) (hg : 64 ≤ s.arch.hmbMib)
    (hr : s.arch.resident.contains p.toNat = false) :
    exec (.hmbMapFetch p x) s = .next ((bufferUsed s p.toNat).charge 12 3 1) :=
  congrArg Host.Outcome.next ((if_neg (ne_false_of_eq_true hu)).trans
    ((if_neg (Nat.not_lt.mpr hg)).trans (if_pos (by rw [hr, Bool.not_false]))))

/-- A resident page whose tag agrees is used; one whose tag does not is read anew and counted. -/
theorem exec_hmbMapFetch_resident (hu : s.isUp 4 = true) (hg : 64 ≤ s.arch.hmbMib)
    (hr : s.arch.resident.contains p.toNat = true) : exec (.hmbMapFetch p x) s =
      .next (if pageTag s x = pageTag s (s.mapPage p.toNat) then bufferUsed s p.toNat
        else ({ (bufferUsed s p.toNat).charge 12 3 1 with arch := { ((bufferUsed s p.toNat).charge 12 3 1).arch with
          hmbBad := ((bufferUsed s p.toNat).charge 12 3 1).arch.hmbBad + 1 } } : State).raise 0x186 p.toNat) :=
  congrArg Host.Outcome.next ((if_neg (ne_false_of_eq_true hu)).trans
    ((if_neg (Nat.not_lt.mpr hg)).trans (if_neg (by simp only [hr, Bool.not_true, Bool.false_eq_true, not_false_eq_true]))))

end MapPages


/-- Settles O35: clause by clause from what each command comes to; what an LBA holds decides reads, writes and programming. -/
theorem theHostVolumeAnswers : Obligations.TheHostVolumeAnswers := by
  refine ⟨?unfetched, ?held, ?ioRefused, ?reads, ?writes, ?writesRefused, fun s h => exec_writeBufferProgram_waits h, ?programs,
    ?deallocates, ?formats, ?admin, ?queues, ?events, fun s b h => exec_nvmeControllerEnable_absent h b, ?enables,
    fun s p x h => exec_hmbMapFetch_held h, ?mapChip, ?mapMissing, ?mapResident⟩
  case unfetched =>
    intro s c hf
    exact ⟨fun l n u => exec_unfetched hf (.read l n u), fun l d f => exec_unfetched hf (.write l d f), exec_unfetched hf .flush,
      fun d r => exec_unfetched hf (.datasetManagement d r), fun e => exec_unfetched hf (.format e),
      fun n => exec_unfetched hf (.identify n), fun n => exec_unfetched hf (.getLogPage n),
      fun n v => exec_unfetched hf (.setFeatures n v), fun n => exec_unfetched hf (.getFeatures n),
      fun b i z q => exec_unfetched hf (.createIoQueue b i z q), fun b i => exec_unfetched hf (.deleteIoQueue b i),
      fun q i => exec_unfetched hf (.abort q i), exec_unfetched hf .asynchronousEventRequest, exec_unfetched hf .invalidOpcode⟩
  case held =>
    intro s c hf hw
    exact ⟨fun i => rfl, fun l n u => exec_held hf hw (.read l n u), fun l d f => exec_held hf hw (.write l d f),
      exec_held hf hw .flush, fun d r => exec_held hf hw (.datasetManagement d r), fun e => exec_held hf hw (.format e),
      fun n => exec_held hf hw (.identify n), fun n => exec_held hf hw (.getLogPage n),
      fun n v => exec_held hf hw (.setFeatures n v), fun n => exec_held hf hw (.getFeatures n),
      fun b i z q => exec_held hf hw (.createIoQueue b i z q), fun b i => exec_held hf hw (.deleteIoQueue b i),
      fun q i => exec_held hf hw (.abort q i), exec_held hf hw .asynchronousEventRequest, exec_held hf hw .invalidOpcode⟩
  case ioRefused =>
    intro s c st hf hu ha hw hr
    have h : CarriesOut s c := ⟨hf, hu, ha, hw⟩
    exact ⟨fun l n u => exec_ioRefused h hr (.read l n u), fun l d f => exec_ioRefused h hr (.write l d f),
      exec_ioRefused h hr .flush, fun d r => exec_ioRefused h hr (.datasetManagement d r)⟩
  case reads =>
    intro s c lba n hf hu ha hw hr
    have h : CarriesOut s c := ⟨hf, hu, ha, hw⟩
    have hvol := readFrom_volume s lba n.toNat
    exact ⟨exec_nvmeRead_outOfRange h hr, fun hn => ⟨exec_nvmeRead_uncorrectable h hr hn, _, _, exec_nvmeRead_data h hr hn,
      congrArg Prod.fst hvol, congrArg Prod.snd hvol⟩⟩
  case writes =>
    intro s c lba d hf hu ha hw hr hn hro
    have h : CarriesOut s c := ⟨hf, hu, ha, hw⟩
    refine ⟨fun hshort => (exec_nvmeWrite_one h hr hn hro false).trans ?_,
      ⟨_, exec_nvmeWrite_one h hr hn hro true, programBuffer_wbuf _, programBuffer_stored.trans contents_bufferWrite⟩,
      fun f => ⟨_, exec_nvmeWrite_one h hr hn hro f, readLba_of_contents (contents_written f)⟩⟩
    rw [written, bufferWrite_short hshort]
    rfl
  case writesRefused =>
    intro s c lba d f hf hu ha hw hr
    have h : CarriesOut s c := ⟨hf, hu, ha, hw⟩
    exact ⟨fun hn => exec_nvmeWrite_outOfRange h hr hn f, fun hn hro => exec_nvmeWrite_readOnly h hr hn hro f⟩
  case programs =>
    intro s hu ha
    exact ⟨_, exec_writeBufferProgram hu ha, programBuffer_wbuf s,
      fun l hl => programBuffer_stored.trans (contents_of_unbuffered hl),
      fun c hf hu ha hw hr => exec_nvmeFlush ⟨hf, hu, ha, hw⟩ hr⟩
  case deallocates =>
    intro s c r hf hu ha hw hr hin
    have h : CarriesOut s c := ⟨hf, hu, ha, hw⟩
    refine ⟨exec_nvmeDatasetManagement h hr hin false, _, exec_nvmeDatasetManagement h hr hin true, fun l =>
      ⟨fun hl => deallocated_inside (inRanges_iff.mpr hl), fun hl => deallocated_outside (Bool.eq_false_iff.mpr fun ht => ?_)⟩⟩
    obtain ⟨x, hx, hlx⟩ := inRanges_iff.mp ht
    exact hl x hx hlx
  case formats =>
    intro s c e hf hu ha hw hp hns
    have h : CarriesOut s c := ⟨hf, hu, ha, hw⟩
    exact ⟨fun he => (exec_nvmeFormat h hp hns e).trans (by rw [if_pos he]), exec_nvmeFormat h hp hns 2,
      eraseVolume_hvData s, eraseVolume_keyGen s⟩
  case admin =>
    intro s c hf hu ha hw
    have h : CarriesOut s c := ⟨hf, hu, ha, hw⟩
    exact ⟨exec_nvmeIdentify_namespace h, exec_nvmeIdentify_controller h, fun n => exec_nvmeIdentify_unknown h,
      exec_nvmeGetLogPage_smart h, fun n => exec_nvmeGetLogPage_unknown h, fun n v => exec_features_unknown h,
      fun n v => exec_features_plain h, fun v hv => ⟨_, exec_nvmeSetFeatures h (by decide), grantHmb_small _ _ hv⟩,
      congrArg Host.Outcome.next (nvRun_of_carriesOut h)⟩
  case queues =>
    intro s c i z q hf hu ha hw
    have h : CarriesOut s c := ⟨hf, hu, ha, hw⟩
    exact ⟨fun h1 h8 hz hz' hi => ⟨_, exec_createCq h h1 h8 hz hz' hi, tblFind?_put_same _ _ _, rfl⟩,
      fun h1 h8 hz hz' hi hq => ⟨_, exec_createSq h h1 h8 hz hz' hi hq, tblFind?_put_same _ _ _, rfl⟩,
      fun b hi => exec_createIoQueue_badId h hi b,
      fun hi hp => (exec_deleteCq h hi).trans (by rw [if_pos hp]),
      fun hi hp => ⟨_, (exec_deleteCq h hi).trans (by rw [hp]; rfl), tblFind?_del_same _ _⟩,
      fun hi => ⟨_, exec_deleteSq h hi, tblFind?_del_same _ _⟩⟩
  case events =>
    intro s c i hf hu ha hw
    have h : CarriesOut s c := ⟨hf, hu, ha, hw⟩
    exact ⟨exec_nvmeAbort_held h, fun q => exec_nvmeAbort_nothing h, exec_asynchronousEventRequest_held h,
      fun e rest => exec_asynchronousEventRequest_completes h⟩
  case enables =>
    intro s hp
    exact ⟨exec_nvmeControllerEnable_set hp, _, exec_nvmeControllerEnable_cleared hp, rfl, rfl, rfl, rfl, rfl, rfl, rfl⟩
  case mapChip =>
    intro s p x hu hg
    refine ⟨_, exec_hmbMapFetch_chip hu hg, ?_⟩
    rw [apply_ite State.arch, State.charge_arch, ite_self]
    exact ⟨head?_take_cons _ (by decide), List.length_take_le _ _, rfl, rfl⟩
  case mapMissing =>
    intro s p x hu hg hr
    refine ⟨_, exec_hmbMapFetch_missing hu hg hr, ?_⟩
    rw [State.charge_arch]
    exact ⟨bufferUsed_head? hg, rfl⟩
  case mapResident =>
    intro s p x hu hg hr
    have hex := exec_hmbMapFetch_resident (x := x) hu hg hr
    refine ⟨fun htag => ⟨_, hex.trans (congrArg Host.Outcome.next (if_pos htag)), bufferUsed_head? hg, rfl⟩,
      fun htag => ⟨_, hex.trans (congrArg Host.Outcome.next (if_neg htag)), ?_⟩⟩
    simp only [State.raise_arch, State.charge_arch]
    exact ⟨rfl, rfl⟩

end Sys2Proof.Machine.HostVolume

/-! SUPPORT. What the cascade leaves as it is when a message to a meter joins a queue: the state but for the scheduler's record and
the output trace (R206 to R211), and with it the updates. -/

namespace Sys2Proof.Machine.Campaigns

section Cascade

/-- A state without the scheduler's record and the output trace. -/
def outsideCascade (s : State) : State := { s with cas := {}, out := [] }

theorem outsideCascade_cas (s : State) (x : CasState) : outsideCascade { s with cas := x } = outsideCascade s := rfl

@[simp] theorem take_outsideCascade (s : State) (a r n : Nat) (w : Bool) : outsideCascade (s.take a r n w) = outsideCascade s :=
  outsideCascade_cas _ _

@[simp] theorem setItems_outsideCascade (s : State) (f : Nat) (l : List Item) : outsideCascade (s.setItems f l) = outsideCascade s :=
  outsideCascade_cas _ _

@[simp] theorem append_outsideCascade (s : State) (f : Nat) (it : Item) (d : Bool) :
    outsideCascade (s.append f it d) = outsideCascade s := outsideCascade_cas _ _

@[simp] theorem dispatchTo_outsideCascade (s : State) (c f : Nat) (it : Item) :
    outsideCascade (s.dispatchTo c f it) = outsideCascade s := rfl

@[simp] theorem charge_outsideCascade (s : State) (a r n : Nat) : outsideCascade (s.charge a r n) = outsideCascade s := by
  unfold State.charge
  split <;> simp only [take_outsideCascade]

@[simp] theorem preempt_outsideCascade (s : State) (c : Nat) : outsideCascade (s.preempt c) = outsideCascade s := by
  unfold State.preempt
  split
  · rfl
  · rw [outsideCascade_cas, State.setItem, setItems_outsideCascade, State.chargeRun, outsideCascade_cas, charge_outsideCascade]

@[simp] theorem preemptAll_outsideCascade (n : Nat) (s : State) : outsideCascade (s.preemptAll n) = outsideCascade s := by
  induction n generalizing s with
  | zero => rfl
  | succ n ih =>
    simp only [State.preemptAll]
    split
    · rfl
    · split
      · rfl
      · split
        · rfl
        · rw [ih, preempt_outsideCascade]

@[simp] theorem serveStalled_outsideCascade (s : State) : outsideCascade s.serveStalled = outsideCascade s := by
  refine Billing.foldl_view (fun t c => ?_) _ _
  split
  · split
    · rfl
    · exact dispatchTo_outsideCascade _ _ _ _
  · rfl

@[simp] theorem scheduleRounds_outsideCascade (n : Nat) (s : State) : outsideCascade (s.scheduleRounds n) = outsideCascade s := by
  induction n generalizing s with
  | zero => rfl
  | succ n ih => rw [State.scheduleRounds, ih, preemptAll_outsideCascade, serveStalled_outsideCascade]

@[simp] theorem enqueue_outsideCascade (s : State) (a f k key ref : Nat) (tel : Bool) :
    outsideCascade (s.enqueue a f k key ref tel).2 = outsideCascade s := by
  simp only [State.enqueue]
  split
  · rfl
  · split
    · exact setItems_outsideCascade _ _ _
    · split
      · exact outsideCascade_cas _ _
      · split
        · exact outsideCascade_cas _ _
        · exact append_outsideCascade _ _ _ _

@[simp] theorem produce_outsideCascade (s : State) (a f k key ref : Nat) (tel : Bool) :
    outsideCascade (s.produce a f k key ref tel) = outsideCascade s := by
  simp only [State.produce]
  split
  · exact enqueue_outsideCascade s a f k key ref tel
  · exact (outsideCascade_cas _ _).trans (enqueue_outsideCascade s a f k key ref tel)

@[simp] theorem schedule_outsideCascade (s : State) : outsideCascade s.schedule = outsideCascade s := scheduleRounds_outsideCascade 4 s

theorem upd_of_outsideCascade {s t : State} (h : outsideCascade t = outsideCascade s) : t.upd = s.upd := by
  have hupd : (outsideCascade t).upd = (outsideCascade s).upd := congrArg State.upd h
  exact hupd

/-- A message to a meter leaves the updates (R208, R431). -/
@[simp] theorem tell_upd (s : State) (h : Nat) (m : MeterMsg) : (s.tell h m).upd = s.upd := by
  have queued : ∀ (t : State) (f : Nat), ((t.produce m.acct f 2 h m.acct false).schedule).upd = t.upd := fun t f =>
    upd_of_outsideCascade ((schedule_outsideCascade _).trans (produce_outsideCascade t _ f 2 h _ false))
  simp only [State.tell]
  split
  · rfl
  · split
    · exact queued _ _
    · exact queued _ _
    · rfl

end Cascade

end Sys2Proof.Machine.Campaigns

/-! SUPPORT. Tables again: an entry that is found is in the list, and the entries after a change of every value, after a choice of keys
and after new keys. -/

namespace Sys2Proof.Machine.Campaigns

section Tables

variable {α : Type}

theorem mem_of_tblFind? {t : Tbl α} {k : Nat} {v : α} (h : tblFind? t k = some v) : (k, v) ∈ t := by
  induction t with
  | nil => exact absurd h (by simp [tblFind?])
  | cons p t ih =>
    by_cases hk : p.1 = k
    · have hv : p.2 = v := by simpa [tblFind?, hk] using h
      simp [← hk, ← hv]
    · exact List.mem_cons_of_mem p (ih (by simpa [tblFind?, hk] using h))

/-- A change of every value, by its key, changes the value found. -/
theorem tblFind?_map (t : Tbl α) (g : Nat → α → α) (k : Nat) :
    tblFind? (t.map (fun p => (p.1, g p.1 p.2))) k = (tblFind? t k).map (g k) := by
  induction t with
  | nil => rfl
  | cons p t ih =>
    by_cases hk : p.1 = k
    · simp [tblFind?, hk]
    · simp [tblFind?, hk, ih]

theorem tblFind?_filter_of_not {q : Nat → Bool} (t : Tbl α) {k : Nat} (h : q k = false) :
    tblFind? (t.filter (fun p => q p.1)) k = none := by
  refine Dictionary.tblFind?_eq_none (fun p hp hk => ?_)
  have hq : q p.1 = true := (List.mem_filter.mp hp).2
  rw [hk, h] at hq
  exact Bool.false_ne_true hq

/-- Keys of a list that are not listed yet are listed with a value of their own. -/
def listNew (v : α) (l : List Nat) (t : Tbl α) : Tbl α := l.foldl (fun m k => if (tblFind? m k).isSome then m else tblPut m k v) t

theorem tblFind?_listNew {v : α} (l : List Nat) (t : Tbl α) (k : Nat) :
    tblFind? (listNew v l t) k ≠ none ↔ k ∈ l ∨ tblFind? t k ≠ none := by
  induction l generalizing t with
  | nil => simp [listNew]
  | cons j l ih =>
    have hstep : tblFind? (if (tblFind? t j).isSome then t else tblPut t j v) k ≠ none ↔ k = j ∨ tblFind? t k ≠ none := by
      by_cases hk : k = j
      · subst hk
        split
        · next hs => simp [Option.isSome_iff_ne_none.mp hs]
        · simp
      · split
        · simp [hk]
        · rw [tblFind?_put_ne t v hk]
          simp [hk]
    exact (ih _).trans (by rw [hstep, List.mem_cons, or_left_comm, or_assoc])

end Tables

end Sys2Proof.Machine.Campaigns

/-! SUPPORT. Campaigns and their targets: what each change of a campaign, of a target and of the places of the running campaigns leaves
of every campaign (R357, R358, R361). -/

namespace Sys2Proof.Machine.Campaigns

section Records

variable {s t : State} {c d h k : Nat}

theorem camp_congr (h : t.upd.camps = s.upd.camps) (c : Nat) : t.camp c = s.camp c := by rw [State.camp, h, State.camp]

@[simp] theorem setCamp_camp_same (f : Campaign → Campaign) : (s.setCamp c f).camp c = f (s.camp c) := tblGet_upd_same _ _ _ _

theorem setCamp_camp_ne (f : Campaign → Campaign) (hd : d ≠ c) : (s.setCamp c f).camp d = s.camp d := tblGet_upd_ne _ _ _ hd

@[simp] theorem raise_camp (code : Nat) (m : Int) (c : Nat) : (s.raise code m).camp c = s.camp c := camp_congr (by simp) c

@[simp] theorem mirror_camp (kind : MirrorKind) (key : Nat) (b : Bytes) (c : Nat) : (s.mirror kind key b).camp c = s.camp c :=
  camp_congr (by simp) c

@[simp] theorem respond_camp (r : Req) (a : Answer) (c : Nat) : (s.respond r a).camp c = s.camp c := camp_congr (by simp) c

@[simp] theorem tell_camp (h : Nat) (m : MeterMsg) (c : Nat) : (s.tell h m).camp c = s.camp c := camp_congr (by simp) c

/-- Storing an object's value leaves the campaigns. -/
@[simp] theorem storeObj_camp (r : Req) (num : Nat) (o : ObjRow) (v : Bytes) (c : Nat) : (s.storeObj r num o v).camp c = s.camp c := by
  have hval : ∀ (u : State) (i : Nat), (u.storeVal num i v).upd.camps = u.upd.camps := by
    intro u i
    simp only [State.storeVal]
    split <;> rfl
  refine camp_congr ?_ c
  simp only [State.storeObj]
  split
  · rfl
  · rw [hval]
    split <;> rfl

end Records

section Targets

variable {s : State} {c h : Nat} {x : Target} (f : Target → Target)

/-- The target of a campaign at a handle. -/
abbrev target (s : State) (c h : Nat) : Option Target := tblFind? (s.camp c).targets h

/-- A change of a target changes of its campaign the target alone. -/
theorem setTarget_camp (s : State) (c h : Nat) : (s.setTarget c h f).camp c =
    { s.camp c with targets := ((s.setTarget c h f).camp c).targets } := by
  simp [State.setTarget]

@[simp] theorem setTarget_st (s : State) (c h : Nat) : ((s.setTarget c h f).camp c).st = (s.camp c).st := by
  rw [setTarget_camp]

theorem setTarget_target_same (hx : target s c h = some x) : target (s.setTarget c h f) c h = some (f x) := by
  simp only [target] at hx ⊢
  simp [State.setTarget, hx]

theorem setTarget_target_none (hx : target s c h = none) (k : Nat) : target (s.setTarget c h f) c k = target s c k := by
  simp only [target] at hx ⊢
  simp [State.setTarget, hx]

theorem setTarget_target_ne {k : Nat} (hk : k ≠ h) : target (s.setTarget c h f) c k = target s c k := by
  cases hx : target s c h with
  | none => exact setTarget_target_none f hx k
  | some x =>
    simp only [target] at hx ⊢
    simp [State.setTarget, hx, tblFind?_put_ne _ _ hk]

end Targets

section Places

/-- Targets that stand in one table stand in another, and those at their end as they were. -/
structure KeepsEnded (T U : Tbl Target) : Prop where
  listed : ∀ h, tblFind? U h = none ↔ tblFind? T h = none
  ended : ∀ h x, tblFind? T h = some x → x.final = true → tblFind? U h = some x

theorem KeepsEnded.refl (T : Tbl Target) : KeepsEnded T T := ⟨fun _ => Iff.rfl, fun _ _ hx _ => hx⟩

theorem KeepsEnded.trans {T U V : Tbl Target} (h1 : KeepsEnded T U) (h2 : KeepsEnded U V) : KeepsEnded T V :=
  ⟨fun h => (h2.listed h).trans (h1.listed h), fun h x hx hf => h2.ended h x (h1.ended h x hx hf) hf⟩

variable (s : State) (c d : Nat)

/-- A target at its end keeps its place (R361). -/
theorem placeTarget_final {h : Nat} {x : Target} (hf : x.final = true) : s.placeTarget c h x = x := by
  simp only [State.placeTarget, if_pos hf]

theorem placeTargets_keepsEnded (T : Tbl Target) : KeepsEnded T (T.map (fun p => (p.1, s.placeTarget c p.1 p.2))) := by
  refine ⟨fun h => ?_, fun h x hx hf => ?_⟩
  · rw [tblFind?_map T (s.placeTarget c) h, Option.map_eq_none_iff]
  · rw [tblFind?_map T (s.placeTarget c) h, hx, Option.map_some, placeTarget_final s c hf]

/-- A campaign whose targets have all ended is done, and keeps them (R357). -/
theorem campDone_camp_same : (s.campDone c).camp c = { s.camp c with st := ((s.campDone c).camp c).st } := by
  simp only [State.campDone]
  split <;> simp

theorem campDone_camp_ne {c d : Nat} (hd : d ≠ c) : (s.campDone c).camp d = s.camp d := by
  simp only [State.campDone]
  split
  · rw [raise_camp, setCamp_camp_ne _ hd]
  · rfl

/-- One running campaign of `placeAll`. -/
def placeRunning (t : State) (c : Nat) : State :=
  if (t.camp c).st = 3 then
    (t.setCamp c (fun x => { x with targets := x.targets.map (fun p => (p.1, t.placeTarget c p.1 p.2)) })).campDone c
  else t

theorem placeAll_eq : s.placeAll = (s.upd.camps.map (fun p => p.1)).foldl placeRunning s := rfl

/-- Placing a campaign's targets leaves a campaign that does not run, its own or another (R358). -/
theorem placeRunning_camp_of_st_ne (h : (s.camp c).st ≠ 3) : (placeRunning s d).camp c = s.camp c := by
  unfold placeRunning
  split
  · next hrun =>
    have hcd : c ≠ d := fun e => h (e ▸ hrun)
    rw [campDone_camp_ne _ hcd, setCamp_camp_ne _ hcd]
  · rfl

theorem placeRunning_keepsEnded : KeepsEnded (s.camp c).targets ((placeRunning s d).camp c).targets := by
  unfold placeRunning
  split
  · by_cases hcd : c = d
    · subst hcd
      rw [campDone_camp_same, setCamp_camp_same]
      exact placeTargets_keepsEnded s c _
    · rw [campDone_camp_ne _ hcd, setCamp_camp_ne _ hcd]
      exact .refl _
  · exact .refl _

/-- Placing the targets of the running campaigns leaves a campaign that does not run (R358). -/
theorem placeAll_camp_of_st_ne (h : (s.camp c).st ≠ 3) : s.placeAll.camp c = s.camp c := by
  rw [placeAll_eq]
  exact List.foldlRecOn (motive := fun t => t.camp c = s.camp c) _ _ rfl
    (fun t ht d _ => (placeRunning_camp_of_st_ne t c d (by rwa [ht])).trans ht)

/-- Placing the targets lists none and drops none, and leaves those at their end (R358, R361). -/
theorem placeAll_keepsEnded : KeepsEnded (s.camp c).targets (s.placeAll.camp c).targets := by
  rw [placeAll_eq]
  exact List.foldlRecOn (motive := fun t => KeepsEnded (s.camp c).targets (t.camp c).targets) _ _ (.refl _)
    (fun t ht d _ => ht.trans (placeRunning_keepsEnded t c d))

variable {s c} {h : Nat} {x : Target} (hx : target s c h = some x)
include hx

/-- A target that fails has ended with its reason (R361). -/
theorem failTarget_target (reason : Nat) : target (s.failTarget c h reason) c h =
    some { x with st := 9, reason := reason, attempts := 0 } := by
  refine (placeAll_keepsEnded _ c).ended h _ ?_ rfl
  rw [raise_camp]
  exact setTarget_target_same _ hx

/-- A target that enters Activated has ended (R361). -/
theorem toState_activated : target (s.toState c h 8) c h = some { x with st := 8, phase := 0, attempts := 0 } :=
  (placeAll_keepsEnded _ c).ended h _ (setTarget_target_same _ hx) rfl

end Places

end Sys2Proof.Machine.Campaigns

/-! PROOFS. Campaigns to meters: definition and content, the six control codes, targets, the multicast and the unicast part
(R351, R357 to R363). -/

namespace Sys2Proof.Machine.Campaigns

section Definition

variable {s : State} {r : Req} {v arg : Bytes} {o : ObjRow}

/-- A write that its own rule refuses. -/
theorem write_refused {num : Nat} {pre : Nat → Bytes → Option Abort} {post : Nat → State → State} {a : Abort}
    (h : s.writes r num v o) (hp : pre (s.itemOf r o) (o.stored v) = some a) :
    s.writeThen r num v pre post = s.respond r (.abort a) := by
  obtain ⟨hloc, hacc, hval⟩ := h
  simp [State.writeThen, hloc, hacc, hval, hp]

theorem exec_campaignKindWrite_busy (h : s.writes r 0xA08101 v o) (hst : 1 < (s.camp (s.itemOf r o)).st) :
    exec (.campaignKindWrite r v) s = .next (s.respond r (.abort .deviceBusy)) :=
  congrArg Host.Outcome.next (write_refused h (if_neg (Nat.not_le.mpr hst)))

/-- The kind stored, and the campaign a draft unless the kind is 0 (R357, log entry 43). -/
def kindStored (s : State) (r : Req) (o : ObjRow) (v : Bytes) : State :=
  if leNat v = 0 then s.storeObj r 0xA08101 o (o.stored v)
  else (s.storeObj r 0xA08101 o (o.stored v)).setCamp (s.itemOf r o) (fun x => { x with st := 1 })

theorem exec_campaignKindWrite_stored (h : s.writes r 0xA08101 v o) (hst : (s.camp (s.itemOf r o)).st ≤ 1)
    (hs : r.storeOk = true) : exec (.campaignKindWrite r v) s = .next ((kindStored s r o v).respond r (.ok [])) :=
  congrArg Host.Outcome.next (write_stored h (if_pos hst) (.inr hs))

theorem kindStored_camp_same : (kindStored s r o v).camp (s.itemOf r o) =
    { s.camp (s.itemOf r o) with st := if leNat v = 0 then (s.camp (s.itemOf r o)).st else 1 } := by
  unfold kindStored
  split <;> simp

theorem kindStored_camp_ne {c : Nat} (hc : c ≠ s.itemOf r o) : (kindStored s r o v).camp c = s.camp c := by
  unfold kindStored
  split
  · exact storeObj_camp _ _ _ _ _
  · rw [setCamp_camp_ne _ hc, storeObj_camp]

theorem exec_contentBlock_busy (h : s.starts r 0xA08201 arg o) (hst : (s.camp (s.itemOf r o)).st ≠ 1) :
    exec (.contentBlock r arg) s = .next (s.respond r (.abort .deviceBusy)) :=
  congrArg Host.Outcome.next (command_refused h (if_pos hst))

theorem exec_contentBlock_stored (h : s.starts r 0xA08201 arg o) (hst : (s.camp (s.itemOf r o)).st = 1)
    (hb : blockOk arg (s.cdef (s.itemOf r o) 3) = true) (hroom : s.contentHeld < 65536) : exec (.contentBlock r arg) s =
    .next ((s.setCamp (s.itemOf r o) (fun x => { x with
      content := tblPut x.content (fieldAt arg 0 4) (slice arg 4 4096) })).succeeds r 0xA08201 (s.itemOf r o)) :=
  congrArg Host.Outcome.next (command_done h (by simp [hst, hb, Nat.not_le.mpr hroom]))

end Definition

section Control

variable {s : State} {r : Req} {o : ObjRow}

/-- The campaign with another state code. -/
abbrev moved (s : State) (c n : Nat) : State := s.setCamp c (fun x => { x with st := n })

/-- R361: one target of a campaign that is cancelled ends with reason 7, unless it has ended. -/
def cancelTarget (c : Nat) (t : State) (p : Nat × Target) : State :=
  if p.2.final then t else (t.setTarget c p.1 (fun x => { x with st := 9, reason := 7, attempts := 0 })).raise 0x220 p.1

/-- The targets of a campaign ended, and its state Cancelled (R357). -/
def cancelled (s : State) (c : Nat) : State := (s.camp c).targets.foldl (cancelTarget c) (moved s c 7)

theorem exec_verify_ok (h : s.starts r 0xA08202 [1] o) (hst : (s.camp (s.itemOf r o)).st = 1)
    (hok : s.campaignOk (s.itemOf r o) = true) : exec (.verify r) s =
    .next (((moved s (s.itemOf r o) 2).mirror .configuration (0xA08202 * 2 ^ 20 + s.itemOf r o)
      (s.campaignBytes (s.itemOf r o))).succeeds r 0xA08202 (s.itemOf r o)) :=
  congrArg Host.Outcome.next (command_done h ((if_neg (not_not_intro hst)).trans (if_pos hok)))

theorem exec_verify_invalid (h : s.starts r 0xA08202 [1] o) (hst : (s.camp (s.itemOf r o)).st = 1)
    (hok : s.campaignOk (s.itemOf r o) = false) : exec (.verify r) s =
    .next (s.fails r 0xA08202 (s.itemOf r o) .valueInvalid) :=
  congrArg Host.Outcome.next (command_failed h ((if_neg (not_not_intro hst)).trans (if_neg (ne_true_of_eq_false hok))))

theorem exec_start_runs (h : s.starts r 0xA08202 [2] o) (hst : (s.camp (s.itemOf r o)).st = 2) : exec (.start r) s =
    .next ((moved s (s.itemOf r o) 3).placeAll.succeeds r 0xA08202 (s.itemOf r o)) :=
  congrArg Host.Outcome.next (command_done h (if_pos hst))

theorem exec_pause_pauses (h : s.starts r 0xA08202 [3] o) (hst : (s.camp (s.itemOf r o)).st = 3) : exec (.pause r) s =
    .next ((moved s (s.itemOf r o) 4).succeeds r 0xA08202 (s.itemOf r o)) :=
  congrArg Host.Outcome.next (command_done h (if_pos hst))

theorem exec_resume_runs (h : s.starts r 0xA08202 [4] o) (hst : (s.camp (s.itemOf r o)).st = 4) : exec (.resume r) s =
    .next ((moved s (s.itemOf r o) 3).placeAll.succeeds r 0xA08202 (s.itemOf r o)) :=
  congrArg Host.Outcome.next (command_done h (if_pos hst))

theorem exec_cancel_cancels (h : s.starts r 0xA08202 [5] o) (h2 : 2 ≤ (s.camp (s.itemOf r o)).st)
    (h4 : (s.camp (s.itemOf r o)).st ≤ 4) : exec (.cancel r) s =
    .next ((cancelled s (s.itemOf r o)).placeAll.succeeds r 0xA08202 (s.itemOf r o)) :=
  congrArg Host.Outcome.next (command_done h (if_pos ⟨h2, h4⟩))

/-- The states of a campaign that may be forgotten (R357). -/
theorem mem_forgettable {n : Nat} : n ∈ [1, 2, 6, 7] ↔ n = 1 ∨ n = 2 ∨ n = 6 ∨ n = 7 := by simp

theorem exec_delete_forgets (h : s.starts r 0xA08202 [6] o) (hst : (s.camp (s.itemOf r o)).st ∈ [1, 2, 6, 7]) :
    exec (.delete r) s = .next ((s.forgetCampaign (s.itemOf r o)).succeeds r 0xA08202 (s.itemOf r o)) :=
  congrArg Host.Outcome.next (command_done h (if_pos (mem_forgettable.mp hst)))

theorem forgetCampaign_camp_same (c : Nat) : (s.forgetCampaign c).camp c = {} := by
  simp [State.forgetCampaign, State.camp, tblGet]

theorem forgetCampaign_camp_ne {c d : Nat} (hd : d ≠ c) : (s.forgetCampaign c).camp d = s.camp d := by
  simp [State.forgetCampaign, State.camp, tblGet, tblFind?_del_ne _ hd]

section Cancelled

variable {c : Nat}

/-- The target at a handle, if there is one, has ended. -/
def endedAt (c : Nat) (t : State) (h : Nat) : Prop := ∀ x, target t c h = some x → x.final = true

theorem cancelTarget_st (t : State) (p : Nat × Target) : ((cancelTarget c t p).camp c).st = (t.camp c).st := by
  unfold cancelTarget
  split
  · rfl
  · rw [raise_camp, setTarget_st]

theorem cancelTarget_target {t : State} {p : Nat × Target} (hp : p.2.final = false) (h : Nat) : target (cancelTarget c t p) c h =
    target (t.setTarget c p.1 (fun x => { x with st := 9, reason := 7, attempts := 0 })) c h := by
  simp only [cancelTarget, hp, target, Bool.false_eq_true, if_false, raise_camp]

theorem cancelTarget_ends (t : State) {p : Nat × Target} (hp : p.2.final = false) : endedAt c (cancelTarget c t p) p.1 := by
  intro x hx
  rw [cancelTarget_target hp] at hx
  cases h0 : target t c p.1 with
  | none => rw [setTarget_target_none _ h0, h0] at hx; exact absurd hx (by simp)
  | some y => rw [setTarget_target_same _ h0] at hx; exact Option.some.inj hx ▸ rfl

theorem cancelTarget_keeps_ended {t : State} {h : Nat} (p : Nat × Target) (he : endedAt c t h) :
    endedAt c (cancelTarget c t p) h := by
  cases hp : p.2.final with
  | true => simpa [cancelTarget, hp] using he
  | false =>
    by_cases hk : h = p.1
    · exact hk ▸ cancelTarget_ends t hp
    · intro x hx
      rw [cancelTarget_target hp, setTarget_target_ne _ hk] at hx
      exact he x hx

theorem cancelled_st (s : State) (c : Nat) : ((cancelled s c).camp c).st = 7 :=
  (Billing.foldl_view (view := fun t => (t.camp c).st) cancelTarget_st _ _).trans (by simp)

/-- A cancelled campaign has no target that has not ended (R357). -/
theorem cancelled_ended (s : State) (c h : Nat) : endedAt c (cancelled s c) h := by
  have hmoved : ∀ x, target (moved s c 7) c h = some x → target s c h = some x := fun x hx => by
    rwa [target, setCamp_camp_same] at hx
  by_cases h0 : endedAt c (moved s c 7) h
  · exact List.foldlRecOn (motive := fun t => endedAt c t h) _ _ h0 (fun t ht p _ => cancelTarget_keeps_ended p ht)
  · obtain ⟨x, hnot⟩ := Classical.not_forall.mp h0
    obtain ⟨hx, hf⟩ := Classical.not_imp.mp hnot
    exact Billing.foldl_establishes (f := cancelTarget c)
      (P := fun t p => p.2.final = false → endedAt c t p.1) (fun t _ => cancelTarget_ends t)
      (fun t j p _ hP hp => cancelTarget_keeps_ended j (hP hp)) (s.camp c).targets (moved s c 7) (h, x)
      (.inl (mem_of_tblFind? (hmoved x hx))) (Bool.eq_false_iff.mpr hf)

end Cancelled

end Control

section TargetLists

variable {s : State} {r : Req} {arg : Bytes} {o : ObjRow} {l : List (Nat × Nat)}

theorem length_of_targetRanges (hl : targetRanges arg = some l) : arg.length = 2 + 8 * fieldAt arg 0 2 := by
  refine Decidable.byContradiction fun hn => ?_
  have hnone : targetRanges arg = none := if_pos (.inl hn)
  exact Option.some_ne_none l (hl.symm.trans hnone)

/-- The meters in use that stand in some ranges (R358). -/
def metersIn (s : State) (l : List (Nat × Nat)) : List Nat := (s.trust.meters.map (fun p => p.1)).filter (inRanges l)

theorem mem_metersIn {h : Nat} : h ∈ metersIn s l ↔ (∃ v, (h, v) ∈ s.trust.meters) ∧ inRanges l h = true := by
  simp [metersIn]

/-- A campaign's targets and the meters of some ranges, pending where they are new (R358). -/
def withTargets (s : State) (c : Nat) (l : List (Nat × Nat)) : State :=
  s.setCamp c (fun x => { x with targets := listNew { st := 2 } (metersIn s l) x.targets })

/-- A campaign's targets outside some ranges (R358). -/
def withoutTargets (s : State) (c : Nat) (l : List (Nat × Nat)) : State :=
  s.setCamp c (fun x => { x with targets := x.targets.filter (fun p => !inRanges l p.1) })

variable (hl : targetRanges arg = some l) (hne : l ≠ []) (h1 : 1 ≤ (s.camp (s.itemOf r o)).st) (h4 : (s.camp (s.itemOf r o)).st ≤ 4)
include hl hne h1 h4

/-- A list with ranges changes the targets of a campaign that is drafted, verified, running or paused; the list is mirrored (R358). -/
theorem targetsCmd_done {num : Nat} (h : s.starts r num arg o) : s.targetsCmd r num arg =
    ((if num = 0xA08301 then withTargets s (s.itemOf r o) l else withoutTargets s (s.itemOf r o) l).mirror .configuration
      (num * 2 ^ 20 + s.itemOf r o) arg).placeAll.succeeds r num (s.itemOf r o) := by
  refine command_done h ?_
  have hst : ¬((s.camp (s.itemOf r o)).st = 0 ∨ 4 < (s.camp (s.itemOf r o)).st) := by omega
  obtain ⟨a, l', rfl⟩ := List.exists_cons_of_ne_nil hne
  simp only [if_neg (not_not_intro (length_of_targetRanges hl)), hl, if_neg hst]
  rfl

theorem exec_addTargets_done (h : s.starts r 0xA08301 arg o) : exec (.addTargets r arg) s =
    .next (((withTargets s (s.itemOf r o) l).mirror .configuration (0xA08301 * 2 ^ 20 + s.itemOf r o) arg).placeAll.succeeds
      r 0xA08301 (s.itemOf r o)) :=
  congrArg Host.Outcome.next ((targetsCmd_done hl hne h1 h4 h).trans (by rw [if_pos rfl]))

theorem exec_removeTargets_done (h : s.starts r 0xA08302 arg o) : exec (.removeTargets r arg) s =
    .next (((withoutTargets s (s.itemOf r o) l).mirror .configuration (0xA08302 * 2 ^ 20 + s.itemOf r o) arg).placeAll.succeeds
      r 0xA08302 (s.itemOf r o)) :=
  congrArg Host.Outcome.next ((targetsCmd_done hl hne h1 h4 h).trans (by rw [if_neg (by decide)]))

end TargetLists

section Multicast

variable {s : State} {c : Fin 64} {p : Fin 24}

/-- Nothing leaves a campaign that does not run, a port that may not transmit, or a pass that is done (R359, R361). -/
theorem exec_campaignMulticastTx_silent (h : (s.camp c.val).st ≠ 3 ∨ s.mayTransmit p.val = false ∨ s.pwr.quiet = true ∨
    s.cdef c.val 9 ≤ (s.passOf c.val p.val).1) : exec (.campaignMulticastTx c p) s = .next s :=
  congrArg Host.Outcome.next (if_pos (h.imp_right (Or.imp_right (Or.imp_right .inl))))

/-- A key taken for a frame of a port's own after an open value was: the checks are those of the state before it (R119). -/
theorem lineKey_openVal {place n : Nat} {a : Option Nat} {k : Nat} {op : KeyOp} (hup : s.isUp 2 = true)
    (hk : s.keyCheck k op false = .ok n) : (s.openVal place).2.lineKey a k op =
    (some (s.slot n).key, ((s.openVal place).2.usedSlot n).chargeKey a) := by
  have huse : (s.openVal place).2.useKey k op = (some (s.slot n).key, (s.openVal place).2.usedSlot n) := by
    have hk' : (s.openVal place).2.keyCheck k op false = .ok n := hk
    simp only [State.useKey, hk']
    rfl
  have hup' : (s.openVal place).2.isUp 2 = true := hup
  simp [State.lineKey, huse, hup']

variable {b : Nat} (hst : (s.camp c.val).st = 3) (hm : s.mayTransmit p.val = true) (hq : s.pwr.quiet = false)
  (hp : (s.passOf c.val p.val).1 < s.cdef c.val 9) (hw : s.billingWaits (0xC00 + p.val) = false)
  (hb : s.nextBlock c.val p.val (s.campBlocks c.val) (s.passOf c.val p.val).2.1 = some b)
include hst hm hq hp hw

theorem not_heldBack : ¬((s.camp c.val).st ≠ 3 ∨ s.mayTransmit p.val = false ∨ s.pwr.quiet = true ∨
    s.cdef c.val 9 ≤ (s.passOf c.val p.val).1 ∨ s.billingWaits (0xC00 + p.val) = true) := by
  simp [hst, hm, hq, hw, hp]

include hb

/-- A block leaves a port of a standard generation under the broadcast key (R359, R362). -/
theorem exec_campaignMulticastTx_standard {n us : Nat} {l : List (Nat × Nat)} {t : State} (hn : s.isNative p.val = false)
    (hrf : isRf p.val = false) (hkey : s.cdef c.val 6 ≠ 0) (hup : s.isUp 2 = true) (hk : s.keyCheck (s.cdef c.val 6) .dlms false = .ok n)
    (hus : us = (s.openVal 103).1.toNat % 600000) (hfit : s.shareFits c.val p.val us = true)
    (hl : l = (s.time.net, us) :: s.lately c.val p.val) (ht : t = ((s.openVal 103).2.usedSlot n).chargeKey (some 8)) :
    exec (.campaignMulticastTx c p) s =
      .next ((((({ t with upd := { t.upd with stdSent := tblPut t.upd.stdSent (p.val * 64 + c.val) l } } :
        State).drive p.val (s.pcfg p.val 1 1)).emit
        (.stdTx p.val (s.pcfg p.val 1 1) 0xFFFFF (s.stdParam p.val (s.pcfg p.val 1 1))
          (Config.dlms (s.apduForm 0xFFFFF (s.requestOf (.campaign c.val 0 0 b))) 0xFFFFF 13 [(c.val : Int), (b : Int)] ++
            s.campBlock c.val b))).bumpPort p.val 9).passOn c.val p.val b 0) := by
  subst hus hl ht
  refine congrArg Host.Outcome.next ((if_neg (not_heldBack hst hm hq hp hw)).trans ?_)
  simp only [hb, hn, hrf, hkey, hfit, lineKey_openVal hup hk, Bool.false_eq_true, Bool.true_eq_false, or_self, if_false]

/-- A fragment of a block leaves a native port under the network key (R359 to R362). -/
theorem exec_campaignMulticastTx_native {k : Nat} {key : Bytes} {t u : State} (hn : s.isNative p.val = true)
    (hkb : k = if b = (s.passOf c.val p.val).2.1 then (s.passOf c.val p.val).2.2 else 0)
    (hslot : s.campSlot c.val p.val = true) (hopen : s.slotOpen p.val (1 + (s.openVal 104).1.toNat % 32) none = true)
    (hbegan : (s.fport p.val).began = true)
    (hair : isRf p.val = true → s.pcfg p.val 6 2 ≠ 0 ∧
      s.dutyFits p.val (airtime (s.pcfg p.val 3 2) ((s.campFrame c.val p.val b k).length + 29)) = true)
    (hkey : (s.openVal 104).2.lineKey (some 8) (s.netKey p.val) .ccm = (some key, t))
    (hu : u = t.transmit p.val (nativeFrame 3 (s.station p.val) 0xFFFFF [] (s.portClock p.val % 2 ^ 32) 1 key
      (s.campFrame c.val p.val b k))) : exec (.campaignMulticastTx c p) s =
      .next (({ u with upd := { u.upd with lastFrame := tblPut u.upd.lastFrame (p.val * 64 + c.val) (s.portClock p.val) } } :
        State).passOn c.val p.val b k) := by
  subst hkb hu
  refine congrArg Host.Outcome.next ((if_neg (not_heldBack hst hm hq hp hw)).trans ?_)
  have hduty : ¬(isRf p.val = true ∧ (s.pcfg p.val 6 2 = 0 ∨ s.dutyFits p.val (airtime (s.pcfg p.val 3 2)
      ((s.campFrame c.val p.val b (if b = (s.passOf c.val p.val).2.1 then (s.passOf c.val p.val).2.2 else 0)).length + 29)) = false)) := by
    rintro ⟨hrf, hno⟩
    obtain ⟨hdir, hfits⟩ := hair hrf
    simp [hdir, hfits] at hno
  simp only [hb, hn, hslot, hopen, hbegan, hduty, hkey, Bool.true_eq_false, or_self, if_false, if_true]

end Multicast

section Unicast

variable {s : State} {c : Fin 64} {h : Handle} {x : Target}

/-- A handle that is no target takes no step, answer or timeout (R361). -/
theorem exec_noTarget (hx : target s c.val h.toNat = none) : exec (.campaignUnicastStep c h) s = .next s ∧
    exec (.campaignAttemptTimeout c h) s = .next s ∧ ∀ a, exec (.campaignResponse c h a) s = .next s := by
  refine ⟨?_, ?_, fun a => ?_⟩
  · simp only [exec, execCampaignUnicastStep, hx]
  · simp only [exec, execCampaignAttemptTimeout, hx]
  · simp only [exec, execCampaignResponse, hx]

/-- A request sent is counted at its campaign (R366). -/
theorem sendStep_unicasts (x : Target) : ((s.sendStep c.val h.toNat x).camp c.val).unicasts = (s.camp c.val).unicasts + 1 := by
  simp only [State.sendStep, tell_camp, setCamp_camp_same]
  rw [setTarget_camp]

variable (hx : target s c.val h.toNat = some x)
include hx

theorem exec_campaignUnicastStep_of_target : exec (.campaignUnicastStep c h) s =
    .next (if s.unicastOpen c.val h.toNat = false ∨ s.stepDue c.val h.toNat x = false ∨ (x.attempts ≠ 0 ∧ x.st ≠ 6) then s
      else s.sendStep c.val h.toNat x) := by
  simp only [exec, execCampaignUnicastStep, hx]

/-- A first request sent is the target's first attempt; a verified target enters Activating with it (R361). -/
theorem sendStep_target (ha : x.attempts = 0) : ∃ y, target (s.sendStep c.val h.toNat x) c.val h.toNat = some y ∧ y.attempts = 1 ∧
    y.last = s.time.net ∧ y.st = (if x.st = 6 then 7 else x.st) := by
  simp only [State.sendStep, target, tell_camp, setCamp_camp_same]
  refine ⟨_, setTarget_target_same _ hx, ?_⟩
  split
  · exact ⟨rfl, rfl, rfl⟩
  · exact ⟨congrArg (· + 1) ha, rfl, rfl⟩

/-- An answer to no request outstanding changes nothing (R361). -/
theorem exec_campaignResponse_unasked (ha : x.attempts = 0) (a : CampAns) : exec (.campaignResponse c h a) s = .next s := by
  simp only [exec, execCampaignResponse, hx, ha, true_or, if_true]

section Asked

variable (ha : x.attempts ≠ 0) (hst : (s.camp c.val).st = 3)
include ha hst

/-- A meter that does not take images fails its target with reason 2 (R361). -/
theorem exec_campaignResponse_disabled (hs : x.st = 2) (hp : x.phase = 0) (z : Nat) :
    exec (.campaignResponse c h (.attributes z false)) s = .next (s.failTarget c.val h.toNat 2) := by
  simp [exec, execCampaignResponse, hx, ha, hst, hs, hp]

/-- A meter whose blocks are large enough is initiated next (R361). -/
theorem exec_campaignResponse_enabled (hs : x.st = 2) (hp : x.phase = 0) {z : Nat} (hz : s.cdef c.val 2 ≤ z) :
    exec (.campaignResponse c h (.attributes z true)) s =
      .next (s.setTarget c.val h.toNat (fun y => { y with phase := 1, attempts := 0 })) := by
  simp [exec, execCampaignResponse, hx, ha, hst, hs, hp, Nat.not_lt.mpr hz]

/-- A second failed verification fails the target with reason 5 (R361). -/
theorem exec_campaignResponse_unverified (hs : x.st = 5) (hp : x.phase = 1) (hv : 0 < x.verifyFails) :
    exec (.campaignResponse c h (.status 4)) s = .next (s.failTarget c.val h.toNat 5) := by
  simp [exec, execCampaignResponse, hx, ha, hst, hs, hp, Nat.ne_of_gt hv]

/-- An activated image ends its target (R361). -/
theorem exec_campaignResponse_activated (hs : x.st = 7) (hp : x.phase = 1) :
    exec (.campaignResponse c h (.status 6)) s = .next (s.toState c.val h.toNat 8) := by
  simp [exec, execCampaignResponse, hx, ha, hst, hs, hp]

end Asked

theorem exec_campaignAttemptTimeout_of_target : exec (.campaignAttemptTimeout c h) s =
    .next (if x.attempts = 0 ∨ x.final = true ∨ (s.camp c.val).st ≠ 3 ∨ s.time.net < x.last + s.cdef c.val 12 * 1000000000 then s
      else if s.cdef c.val 11 ≤ x.attempts then s.failTarget c.val h.toNat 4
      else if s.unicastOpen c.val h.toNat then s.sendStep c.val h.toNat x else s) := by
  simp only [exec, execCampaignAttemptTimeout, hx]

/-- Exhausted attempts fail the target with reason 4 (R361). -/
theorem exec_campaignAttemptTimeout_exhausted (ha : x.attempts ≠ 0) (hf : x.final = false) (hst : (s.camp c.val).st = 3)
    (hd : x.last + s.cdef c.val 12 * 1000000000 ≤ s.time.net) (hn : s.cdef c.val 11 ≤ x.attempts) :
    exec (.campaignAttemptTimeout c h) s = .next (s.failTarget c.val h.toNat 4) := by
  rw [exec_campaignAttemptTimeout_of_target hx, if_neg (by simp [ha, hf, hst, hd]), if_pos hn]

end Unicast

section ActivationTime

variable {s : State} {c : Fin 64}

theorem exec_campaignActivationTime_early (h : (s.camp c.val).st ≠ 3 ∨ s.time.net < ofTime64 (s.cfgBytes 0xA08107 c.val)) :
    exec (.campaignActivationTime c) s = .next s :=
  congrArg Host.Outcome.next (if_neg (by omega))

theorem exec_campaignActivationTime_due (hst : (s.camp c.val).st = 3) (h : ofTime64 (s.cfgBytes 0xA08107 c.val) ≤ s.time.net) :
    exec (.campaignActivationTime c) s = .next (s.setCamp c.val (fun x => { x with
      targets := x.targets.map (fun p => if p.2.st = 6 then (p.1, { p.2 with due := true }) else p) })) :=
  congrArg Host.Outcome.next (if_pos ⟨hst, h⟩)

end ActivationTime

/-- Settles O37: each clause by the branch of its command; a target at its end keeps its place when the targets are placed. -/
theorem campaignsReachTheirMeters : Obligations.CampaignsReachTheirMeters := by
  refine ⟨?kind, ?content, ?verify, fun s r o => exec_start_runs, fun s r o => exec_pause_pauses, fun s r o => exec_resume_runs,
    ?cancel, ?delete, fun s r o h hn => congrArg Host.Outcome.next (command_refused h (if_pos hn)),
    fun s r o h hn => congrArg Host.Outcome.next (command_refused h (if_neg hn)),
    fun s r o h hn => congrArg Host.Outcome.next (command_refused h (if_neg hn)),
    fun s r o h hn => congrArg Host.Outcome.next (command_refused h (if_neg hn)),
    fun s r o h hn => congrArg Host.Outcome.next (command_refused h (if_neg (by omega))),
    fun s r o h hn => congrArg Host.Outcome.next (command_refused h (if_neg (mt mem_forgettable.mpr hn))),
    ?add, ?remove, fun s c p => exec_campaignMulticastTx_silent, ?standard, ?native, fun s c h => exec_noTarget, ?step, ?answer,
    ?timeout, fun s c => exec_campaignActivationTime_early, fun s c => exec_campaignActivationTime_due⟩
  case kind =>
    intro s r v o h
    refine ⟨exec_campaignKindWrite_busy h, fun hst hs => ⟨_, exec_campaignKindWrite_stored h hst hs, ?_, ?_, fun c hc => ?_⟩⟩
    · rw [respond_camp, kindStored_camp_same]
    · rw [respond_camp, kindStored_camp_same]
    · rw [respond_camp, kindStored_camp_ne hc]
  case content =>
    intro s r arg o h
    exact ⟨exec_contentBlock_busy h, exec_contentBlock_stored h⟩
  case verify =>
    intro s r o h hst
    exact ⟨exec_verify_ok h hst, exec_verify_invalid h hst⟩
  case cancel =>
    intro s r o h h2 h4
    have hcamp : (cancelled s (s.itemOf r o)).placeAll.camp (s.itemOf r o) = (cancelled s (s.itemOf r o)).camp (s.itemOf r o) :=
      placeAll_camp_of_st_ne _ _ (by rw [cancelled_st]; decide)
    refine ⟨_, exec_cancel_cancels h h2 h4, ?_, fun k x hx => ?_⟩
    · rw [hcamp, cancelled_st]
    · rw [hcamp] at hx
      exact cancelled_ended s _ k x hx
  case delete =>
    intro s r o h hst
    exact ⟨exec_delete_forgets h hst, forgetCampaign_camp_same _, fun c hc => forgetCampaign_camp_ne hc⟩
  case add =>
    intro s r arg o l h hl hne h1 h4
    refine ⟨_, exec_addTargets_done hl hne h1 h4 h, fun k => ?_⟩
    rw [Ne, Ne, (placeAll_keepsEnded _ _).listed k, mirror_camp, withTargets, setCamp_camp_same, ← Ne, ← Ne, tblFind?_listNew,
      mem_metersIn]
  case remove =>
    intro s r arg o l h hl hne h1 h4
    refine ⟨_, exec_removeTargets_done hl hne h1 h4 h, fun k hk => ((placeAll_keepsEnded _ _).listed k).mpr ?_⟩
    rw [mirror_camp, withoutTargets, setCamp_camp_same]
    exact tblFind?_filter_of_not (q := fun j => !inRanges l j) _ (by simp [hk])
  case standard =>
    intro s t c p b n l hst hm hq hp hw hb hn hrf hkey hup hk hfit hl ht
    exact exec_campaignMulticastTx_standard hst hm hq hp hw hb hn hrf hkey hup hk rfl hfit hl ht
  case native =>
    intro s t u v c p b k key hst hm hq hp hw hb hn hkb hslot hopen hbegan hair hkey hu hv
    subst hv
    exact exec_campaignMulticastTx_native hst hm hq hp hw hb hn hkb hslot hopen hbegan hair hkey hu
  case step =>
    intro s c h x hx
    refine ⟨fun hno => ?_, fun hopen hdue ha => ⟨s.sendStep c.val h.toNat x, ?_, sendStep_unicasts x, sendStep_target hx ha⟩⟩
    · rw [exec_campaignUnicastStep_of_target hx, if_pos hno]
    · rw [exec_campaignUnicastStep_of_target hx, if_neg (by simp [hopen, hdue, ha])]
  case answer =>
    intro s c h x hx
    refine ⟨exec_campaignResponse_unasked hx, fun ha hst => ⟨fun hs hp z => ⟨?_, exec_campaignResponse_enabled hx ha hst hs hp⟩,
      fun hs hp hv => ?_, fun hs hp => ?_⟩⟩
    · exact ⟨_, _, exec_campaignResponse_disabled hx ha hst hs hp z, failTarget_target hx 2, rfl, rfl⟩
    · exact ⟨_, _, exec_campaignResponse_unverified hx ha hst hs hp hv, failTarget_target hx 5, rfl, rfl⟩
    · exact ⟨_, _, exec_campaignResponse_activated hx ha hst hs hp, toState_activated hx, rfl⟩
  case timeout =>
    intro s c h x hx
    refine ⟨fun hno => ?_, fun ha hf hst hd hn =>
      ⟨_, _, exec_campaignAttemptTimeout_exhausted hx ha hf hst hd hn, failTarget_target hx 4, rfl, rfl⟩⟩
    rw [exec_campaignAttemptTimeout_of_target hx, if_pos hno]

end Sys2Proof.Machine.Campaigns

section
/-! SUPPORT. What no command but the release of a main reset touches: the queue of the commands that wait, the personality that
runs and the profile that runs. For each function of the model one lemma says that it leaves them as they are, in the order of
the model's files; each is proved from those of the functions that it calls. -/

namespace Sys2Proof.Machine

/-- The queue, and the personality and the profile that run: what no command but the release of a main reset touches. With them
the profile that is recorded, which commissioning records as well. -/
def State.standing (s : State) : (List Instr × Bool × Bool) × Option Bool :=
  ((s.pending, s.pwr.ocb, s.pwr.headEnd), s.pwr.recHeadEnd)

/-- The state that the body of a command leaves, whatever it answers. -/
def CmdOut.state : CmdOut → State
  | .refuse _ s => s
  | .done s => s
  | .running s => s
  | .started s => s
  | .failed _ s => s

/-- The state that a release of a main reset leaves, its three conditions met. -/
def State.released (s : State) (x : StartUp) : State :=
  let lost := s.pwr.retTrip || !x.canaryOk
  let s1 := ((s.judgeRetention lost).restartDict).restartPower x (if s.pwr.railsLost then 1 else s.pwr.nextCause.getD 1) lost
  let s3 := (((s1.restartTime).restartEvents x (if s.pwr.railsLost then 1 else s.pwr.nextCause.getD 1)).reportRelease lost).restartTrust
  let s5 := (((((s3.startImages x.badImages s.pwr.pfw).restartWork x).restartArchive).restartBilling).restartRest).setWeir
    (fun w => { w with factoryOk := x.factoryOk, calApplies := 0, calAt := 0 })
  s.resetChanges.foldl (fun (t : State) (p : Nat × Tbl Bytes) => if p.2 = [] then t else t.applied p.1 p.2) s5

end Sys2Proof.Machine

namespace Sys2Proof.Machine.Standing

/-- An outcome goes on, with the queue, the personality and the profile of `s`. -/
def LeavesStanding (s : State) (r : Host.Outcome State Fault Refusal) : Prop := ∃ t : State, r = .next t ∧ t.standing = s.standing

@[simp] theorem leavesStanding_next (s t : State) : LeavesStanding s (.next t) ↔ t.standing = s.standing := by simp [LeavesStanding]

/-- An outcome goes on, with the queue, the personality and the profile that run of `s`. -/
def LeavesRunning (s : State) (r : Host.Outcome State Fault Refusal) : Prop := ∃ t : State, r = .next t ∧ t.standing.1 = s.standing.1

@[simp] theorem leavesRunning_next (s t : State) : LeavesRunning s (.next t) ↔ t.standing.1 = s.standing.1 := by simp [LeavesRunning]

theorem LeavesStanding.running {s : State} {r : Host.Outcome State Fault Refusal} : LeavesStanding s r → LeavesRunning s r
  | ⟨t, hr, ht⟩ => ⟨t, hr, congrArg Prod.fst ht⟩

/-- A left fold keeps what each of its steps keeps. -/
theorem foldl_kept {α β γ : Type} {f : α → β → α} (g : α → γ) (h : ∀ a x, g (f a x) = g a) (l : List β) (a : α) :
    g (l.foldl f a) = g a := by
  induction l generalizing a with
  | nil => rfl
  | cons x l ih => rw [List.foldl_cons, ih, h]

@[simp] theorem standing_mk (p o n l d e t w li pa tr c f a ar b we ba u) :
    (State.mk p o n l d e t w li pa tr c f a ar b we ba u).standing = ((p, w.ocb, w.headEnd), w.recHeadEnd) := by
  unfold State.standing
  rfl

@[simp] theorem standing_ite {c : Prop} [Decidable c] (a b : State) :
    (if c then a else b).standing = if c then a.standing else b.standing := apply_ite _ _ _ _

@[simp] theorem fst_ite {α β : Type} {c : Prop} [Decidable c] (a b : α × β) :
    (if c then a else b).1 = if c then a.1 else b.1 := apply_ite _ _ _ _

@[simp] theorem foldl_standing {β : Type} {f : State → β → State} (h : ∀ t x, (f t x).standing = t.standing) (l : List β) (s : State) :
    (l.foldl f s).standing = s.standing := foldl_kept State.standing h l s

/-! The equations of `CmdOut.state` and of `State.standing` are proved by `unfold`, not as definitional ones: `simp` then keeps a
proof term for each use, which the kernel follows without unfolding the states. -/

@[simp] theorem state_refuse (a : Abort) (s : State) : (CmdOut.refuse a s).state = s := by unfold CmdOut.state; rfl

@[simp] theorem state_done (s : State) : (CmdOut.done s).state = s := by unfold CmdOut.state; rfl

@[simp] theorem state_running (s : State) : (CmdOut.running s).state = s := by unfold CmdOut.state; rfl

@[simp] theorem state_started (s : State) : (CmdOut.started s).state = s := by unfold CmdOut.state; rfl

@[simp] theorem state_failed (a : Abort) (s : State) : (CmdOut.failed a s).state = s := by unfold CmdOut.state; rfl

@[simp] theorem state_ite {c : Prop} [Decidable c] (a b : CmdOut) :
    (if c then a else b).state = if c then a.state else b.state := apply_ite _ _ _ _

section Kept

variable (s : State)

@[simp] theorem standing_eta : ((s.pending, s.pwr.ocb, s.pwr.headEnd), s.pwr.recHeadEnd) = s.standing := by cases s; rfl

@[simp] theorem standing_keep (o n l d e t li pa tr c f a ar b we ba u) :
    (State.mk s.pending o n l d e t s.pwr li pa tr c f a ar b we ba u).standing = s.standing := by cases s; rfl

/-! ### Ops -/

@[simp] theorem storeVal_standing (num inst : Nat) (v : Bytes) : (s.storeVal num inst v).standing = s.standing := by
  simp [State.storeVal]

@[simp] theorem emit_standing (o : Out) : (s.emit o).standing = s.standing := by simp [State.emit]

@[simp] theorem draw_standing : s.draw.2.standing = s.standing := by simp [State.draw]

@[simp] theorem openVal_standing (place : Nat) : (s.openVal place).2.standing = s.standing := by simp [State.openVal]

@[simp] theorem take_standing (a res amount : Nat) (borrower : Bool) : (s.take a res amount borrower).standing = s.standing := by
  simp [State.take]

@[simp] theorem charge_standing (a res amount : Nat) : (s.charge a res amount).standing = s.standing := by simp [State.charge]

@[simp] theorem raise_standing (code : Nat) (measure : Int) : (s.raise code measure).standing = s.standing := by simp [State.raise]

@[simp] theorem sendPair_standing (kind : MirrorKind) (key : Nat) (body : Bytes) : (s.sendPair kind key body).standing = s.standing := by
  simp [State.sendPair]

@[simp] theorem mirror_standing (kind : MirrorKind) (key : Nat) (body : Bytes) : (s.mirror kind key body).standing = s.standing := by
  simp [State.mirror]

@[simp] theorem chargeOpen_standing (place a res : Nat) : (s.chargeOpen place a res).standing = s.standing := by simp [State.chargeOpen]

@[simp] theorem usePage_standing (page acct transfers : Nat) : (s.usePage page acct transfers).standing = s.standing := by
  simp [State.usePage]

@[simp] theorem respondNow_standing (r : Req) (a : Answer) : (s.respondNow r a).standing = s.standing := by
  unfold State.respondNow
  (repeat' split) <;> simp

@[simp] theorem respond_standing (r : Req) (a : Answer) : (s.respond r a).standing = s.standing := by simp [State.respond]

@[simp] theorem serve_standing (o : Out) : (s.serve o).standing = s.standing := by simp [State.serve]

@[simp] theorem answerLate_standing : s.answerLate.standing = s.standing := by
  unfold State.answerLate
  refine foldl_standing (fun t x => ?_) _ _
  (repeat' split) <;> simp

@[simp] theorem setSess_standing (i : SessId) (f : Session → Session) : (s.setSess i f).standing = s.standing := by simp [State.setSess]

@[simp] theorem setCmd_standing (num inst st : Nat) (a : U32) : (s.setCmd num inst st a).standing = s.standing := by simp [State.setCmd]

@[simp] theorem setGroup_standing (g : Nat) (f : Group → Group) : (s.setGroup g f).standing = s.standing := by simp [State.setGroup]

@[simp] theorem reachPhase_standing (n : Nat) : (s.reachPhase n).standing = s.standing := by simp [State.reachPhase]

@[simp] theorem setPwr_standing (s : State) (f : PowerState → PowerState)
    (h : (f s.pwr).ocb = s.pwr.ocb ∧ (f s.pwr).headEnd = s.pwr.headEnd ∧ (f s.pwr).recHeadEnd = s.pwr.recHeadEnd) :
    (s.setPwr f).standing = s.standing := by
  simp [State.setPwr, h]

@[simp] theorem crossing_standing (s : State) (i : Nat) (c : Instr) {t : State} (h : t.standing = s.standing) :
    (s.crossing i c t).standing = s.standing := by simp [State.crossing, h]

/-! ### Operands -/

@[simp] theorem assocEnded_standing (assoc : Nat) : (s.assocEnded assoc).standing = s.standing := by simp [State.assocEnded]

theorem association_standing {s t : State} {i : SessId} {peer : Bytes} (h : s.association i peer = some t) : t.standing = s.standing := by
  rw [State.association] at h
  split at h
  · cases h; rfl
  · rw [Option.ite_none_left_eq_some] at h
    rw [← Option.some.inj h.2]; rfl

/-- A command keeps, of what stands, all that its body keeps. -/
theorem command_kept {α : Type} (s : State) (r : Req) (num : Nat) (arg : Bytes) {body : Nat → State → CmdOut}
    (g : (List Instr × Bool × Bool) × Option Bool → α) (h : ∀ i, g (body i s).state.standing = g s.standing) :
    g (s.command r num arg body).standing = g s.standing := by
  unfold State.command
  split
  · rw [respond_standing]
  next o _ =>
    have hb := h (s.itemOf r o)
    dsimp only
    generalize body (s.itemOf r o) s = out at hb
    cases out <;> simp only [state_refuse, state_done, state_running, state_started, state_failed] at hb <;> (repeat' split) <;> simp_all

@[simp] theorem command_standing (s : State) (r : Req) (num : Nat) (arg : Bytes) {body : Nat → State → CmdOut}
    (h : ∀ i, (body i s).state.standing = s.standing) : (s.command r num arg body).standing = s.standing :=
  command_kept s r num arg id h

@[simp] theorem command_running (s : State) (r : Req) (num : Nat) (arg : Bytes) {body : Nat → State → CmdOut}
    (h : ∀ i, (body i s).state.standing.1 = s.standing.1) : (s.command r num arg body).standing.1 = s.standing.1 :=
  command_kept s r num arg Prod.fst h

@[simp] theorem storeObj_standing (r : Req) (num : Nat) (o : ObjRow) (v : Bytes) : (s.storeObj r num o v).standing = s.standing := by
  simp [State.storeObj]

@[simp] theorem writeThen_standing (s : State) (r : Req) (num : Nat) (v : Bytes) (pre : Nat → Bytes → Option Abort)
    {post : Nat → State → State} (h : ∀ i t, (post i t).standing = t.standing) :
    (s.writeThen r num v pre post).standing = s.standing := by
  unfold State.writeThen
  (repeat' split) <;> simp [h]

@[simp] theorem writeObj_standing (r : Req) (num : Nat) (v : Bytes) (pre : Nat → Bytes → Option Abort) :
    (s.writeObj r num v pre).standing = s.standing := by
  simp [State.writeObj]

@[simp] theorem endCommand_standing (num inst : Nat) (who : Option Req) (a : Option Abort) :
    (s.endCommand num inst who a).standing = s.standing := by
  unfold State.endCommand
  (repeat' split) <;> simp

/-! ### Events -/

@[simp] theorem execEventRaise_standing (code : BitVec 10) (measure : U64) : LeavesStanding s (execEventRaise code measure s) := by
  simp [execEventRaise]

@[simp] theorem execEventTokenRefill_standing (code : BitVec 10) :
    LeavesStanding s (execEventTokenRefill code s) := by simp [execEventTokenRefill]

@[simp] theorem execEventFlush_standing : LeavesStanding s (execEventFlush s) := by simp [execEventFlush]

@[simp] theorem redrawClear_standing (i : SessId) : (s.redrawClear i).standing = s.standing := by simp [State.redrawClear]

@[simp] theorem clearChallengeRead_standing (r : Req) : (s.clearChallengeRead r).standing = s.standing := by
  unfold State.clearChallengeRead
  (repeat' split) <;> simp

@[simp] theorem execClearChallengeRead_standing (r : Req) :
    LeavesStanding s (execClearChallengeRead r s) := by simp [execClearChallengeRead]

@[simp] theorem raiseApplicationBody_standing (arg : Bytes) (i : Nat) : (raiseApplicationBody arg i s).state.standing = s.standing := by
  simp [raiseApplicationBody]

@[simp] theorem execRaiseApplicationEvent_standing (r : Req) (arg : Bytes) : LeavesStanding s (execRaiseApplicationEvent r arg s) := by
  simp [execRaiseApplicationEvent]

/-! ### Time -/

@[simp] theorem addSecond_standing : s.addSecond.standing = s.standing := by simp [State.addSecond]

@[simp] theorem addSub_standing (s : State) (n : Nat) : (s.addSub n).standing = s.standing := by
  rw [State.addSub, standing_ite]
  split
  · simp only [standing_keep]
  · simp only [addSecond_standing, standing_keep]

@[simp] theorem calTick_standing : s.calTick.standing = s.standing := by
  unfold State.calTick
  (repeat' split) <;> simp

@[simp] theorem tick_standing : s.tick.standing = s.standing := by simp [State.tick]

@[simp] theorem atNet_standing (stamp : Nat) : (s.atNet stamp).standing = s.standing := by simp [State.atNet]

@[simp] theorem execCalWrap_standing : LeavesStanding s (execCalWrap s) := by simp [execCalWrap]

@[simp] theorem setCalendarBody_standing (r : Req) (arg : Bytes) (i : Nat) : (setCalendarBody r arg i s).state.standing = s.standing := by
  simp [setCalendarBody]

@[simp] theorem execSetCalendar_standing (r : Req) (arg : Bytes) : LeavesStanding s (execSetCalendar r arg s) := by simp [execSetCalendar]

@[simp] theorem refusePending_standing : s.refusePending.standing = s.standing := by
  unfold State.refusePending
  (repeat' split) <;> simp

@[simp] theorem execCalendarSetNoTick_standing : LeavesStanding s (execCalendarSetNoTick s) := by simp [execCalendarSetNoTick]

@[simp] theorem shift_standing (n : Int) : (s.shift n).standing = s.standing := by simp [State.shift]

@[simp] theorem subSecondShiftBody_standing (r : Req) (arg : Bytes) (i : Nat) :
    (subSecondShiftBody r arg i s).state.standing = s.standing := by
  simp [subSecondShiftBody]

@[simp] theorem execSubSecondShift_standing (r : Req) (arg : Bytes) :
    LeavesStanding s (execSubSecondShift r arg s) := by simp [execSubSecondShift]

@[simp] theorem execHoldEnd_standing : LeavesStanding s (execHoldEnd s) := by simp [execHoldEnd]

@[simp] theorem discipline_standing : s.discipline.standing = s.standing := by simp [State.discipline]

@[simp] theorem execCalendarDiscipline_standing : LeavesStanding s (execCalendarDiscipline s) := by simp [execCalendarDiscipline]

@[simp] theorem execTemperatureBinSample_standing (temp : BitVec 16) : LeavesStanding s (execTemperatureBinSample temp s) := by
  simp [execTemperatureBinSample]

@[simp] theorem execTrimWindowEnd_standing (mean : BitVec 16) (elapsed : Nat) : LeavesStanding s (execTrimWindowEnd mean elapsed s) := by
  simp [execTrimWindowEnd]

@[simp] theorem execRelearnTrim_standing (r : Req) (arg : Bytes) : LeavesStanding s (execRelearnTrim r arg s) := by simp [execRelearnTrim]

@[simp] theorem execOscStop_standing : LeavesStanding s (execOscStop s) := by simp [execOscStop]

@[simp] theorem execOscillatorResume_standing : LeavesStanding s (execOscillatorResume s) := by simp [execOscillatorResume]

@[simp] theorem execDstOffsetChange_standing : LeavesStanding s (execDstOffsetChange s) := by simp [execDstOffsetChange]

@[simp] theorem execDstTableLow_standing (s : State) : LeavesStanding s (execDstTableLow s) := by
  simp only [execDstTableLow, leavesStanding_next]
  split
  · exact raise_standing _ _ _
  · rfl

@[simp] theorem execCaptureEdge_standing (c : Fin 6) (rising : Bool) (stamp : Nat) :
    LeavesStanding s (execCaptureEdge c rising stamp s) := by
  simp [execCaptureEdge]

@[simp] theorem execPpsOutPulse_standing : LeavesStanding s (execPpsOutPulse s) := by simp [execPpsOutPulse]

@[simp] theorem execPtpMessageTx_standing (port : Fin 4) (kind : Fin 4) (residence : Nat) :
    LeavesStanding s (execPtpMessageTx port kind residence s) := by
  simp [execPtpMessageTx]

/-! ### Cascade -/

@[simp] theorem setItems_standing (f : Nat) (l : List Item) : (s.setItems f l).standing = s.standing := by simp [State.setItems]

@[simp] theorem append_standing (f : Nat) (it : Item) (newDesc : Bool) : (s.append f it newDesc).standing = s.standing := by
  simp [State.append]

@[simp] theorem setItem_standing (f id : Nat) (g : Item → Item) : (s.setItem f id g).standing = s.standing := by simp [State.setItem]

@[simp] theorem enqueue_standing (acct f kind key ref : Nat) (telemetry : Bool) :
    (s.enqueue acct f kind key ref telemetry).2.standing = s.standing := by
  simp only [State.enqueue]
  (repeat' split) <;> simp

@[simp] theorem produce_standing (acct f kind key ref : Nat) (telemetry : Bool) :
    (s.produce acct f kind key ref telemetry).standing = s.standing := by
  simp [State.produce]

@[simp] theorem retryKept_standing : s.retryKept.standing = s.standing := by simp [State.retryKept]

@[simp] theorem chargeRun_standing (core f : Nat) (it : Item) (since : Nat) : (s.chargeRun core f it since).standing = s.standing := by
  simp [State.chargeRun]

@[simp] theorem preempt_standing (core : Nat) : (s.preempt core).standing = s.standing := by
  unfold State.preempt
  (repeat' split) <;> simp

@[simp] theorem preemptAll_standing (n : Nat) (s : State) : (s.preemptAll n).standing = s.standing := by
  induction n generalizing s with
  | zero => rfl
  | succ n ih =>
    simp only [State.preemptAll]
    (repeat' split) <;> simp [ih]

@[simp] theorem setStatus_standing (e : EnqStatus) : (s.setStatus e).standing = s.standing := by simp [State.setStatus]

@[simp] theorem countDispatch_standing (f : Nat) (it : Item) : (s.countDispatch f it).standing = s.standing := by
  simp [State.countDispatch]

@[simp] theorem dispatchTo_standing (core f : Nat) (it : Item) : (s.dispatchTo core f it).standing = s.standing := by
  simp [State.dispatchTo]

@[simp] theorem serveStalled_standing : s.serveStalled.standing = s.standing := by
  unfold State.serveStalled
  refine foldl_standing (fun t x => ?_) _ _
  (repeat' split) <;> simp

@[simp] theorem scheduleRounds_standing (n : Nat) (s : State) : (s.scheduleRounds n).standing = s.standing := by
  induction n generalizing s with
  | zero => rfl
  | succ n ih => simp [State.scheduleRounds, ih]

@[simp] theorem schedule_standing : s.schedule.standing = s.standing := by simp [State.schedule]

@[simp] theorem doWants_standing (acct : Nat) (ws : List (Nat × Nat × Nat × Nat)) (s : State) :
    (s.doWants acct ws).2.standing = s.standing := by
  induction ws generalizing s with
  | nil => rfl
  | cons w ws ih =>
    simp only [State.doWants]
    split <;> simp [ih]

@[simp] theorem releaseFlow_standing (f n : Nat) (s : State) : (s.releaseFlow f n).2.standing = s.standing := by
  induction n generalizing s with
  | zero => rfl
  | succ n ih =>
    unfold State.releaseFlow
    split
    · rfl
    · split
      · extract_lets w
        have hw : w.2.standing = s.standing := by
          unfold w
          split <;> simp
        split
        · exact (ih _).trans hw
        · exact (setItem_standing _ _ _ _).trans hw
      · rfl

@[simp] theorem releaseAll_standing (s : State) : s.releaseAll.2.standing = s.standing := by
  simp only [State.releaseAll]
  exact foldl_kept (fun a : List (Nat × Item) × State => a.2.standing) (fun a x => by simp) _ _

@[simp] theorem noteSojourn_standing : s.noteSojourn.standing = s.standing := by simp [State.noteSojourn]

@[simp] theorem releaseRounds_standing (n : Nat) (s : State) : (s.releaseRounds n).2.standing = s.standing := by
  induction n generalizing s with
  | zero => rfl
  | succ n ih =>
    simp only [State.releaseRounds]
    split <;> simp [ih]

@[simp] theorem producer_standing : s.producer.2.standing = s.standing := by
  simp only [State.producer]
  (repeat' split) <;> simp

@[simp] theorem execEnqueue_standing (flow : BitVec 12) (kind : U8) (telemetry : Bool) (key : Handle) (ref : U64) (delay : Option (Fin 4 × Nat)) :
    LeavesStanding s (execEnqueue flow kind telemetry key ref delay s) := by
  unfold execEnqueue
  (repeat' split) <;> simp

@[simp] theorem execDispatchRead_standing (core : Fin 4) : LeavesStanding s (execDispatchRead core s) := by
  unfold execDispatchRead
  (repeat' split) <;> simp

@[simp] theorem endRun_standing (core : Nat) (g : Item → Item) : (s.endRun core g).standing = s.standing := by
  unfold State.endRun
  (repeat' split) <;> simp

@[simp] theorem execRetry_standing (core : Fin 4) : LeavesStanding s (execRetry core s) := by simp [execRetry]

@[simp] theorem joinFlow_standing (f : Nat) (it : Item) : (s.joinFlow f it).standing = s.standing := by simp [State.joinFlow]

@[simp] theorem execDelayDue_standing (l : Fin 4) (s : State) : LeavesStanding s (execDelayDue l s) := by
  rw [execDelayDue, leavesStanding_next, schedule_standing]
  exact foldl_standing (fun t x => joinFlow_standing _ _ _) _ _

@[simp] theorem execBudgetOverrun_standing (core : Fin 4) : LeavesStanding s (execBudgetOverrun core s) := by
  unfold execBudgetOverrun
  (repeat' split) <;> simp

@[simp] theorem execAccountExhausted_standing (a : Fin 16) (res : Fin 4) : LeavesStanding s (execAccountExhausted a res s) := by
  simp [execAccountExhausted]

@[simp] theorem admitInput_standing (src : Nat) : (s.admitInput src).2.standing = s.standing := by
  simp only [State.admitInput]
  (repeat' split) <;> simp

@[simp] theorem chargeRunning_standing : s.chargeRunning.standing = s.standing := by
  unfold State.chargeRunning
  refine foldl_standing (fun t x => ?_) _ _
  (repeat' split) <;> simp

@[simp] theorem sluiceBoundary_standing (start : Nat) : (s.sluiceBoundary start).standing = s.standing := by simp [State.sluiceBoundary]

@[simp] theorem startPeriods_standing : s.startPeriods.standing = s.standing := by simp [State.startPeriods]

/-! ### Keys -/

@[simp] theorem setSlot_standing (n : Nat) (k : KeySlot) : (s.setSlot n k).standing = s.standing := by simp [State.setSlot]

@[simp] theorem zeroize_standing (n : Nat) : (s.zeroize n).standing = s.standing := by simp [State.zeroize]

@[simp] theorem usedSlot_standing (n : Nat) : (s.usedSlot n).standing = s.standing := by simp [State.usedSlot]

@[simp] theorem deriveRoots_standing : s.deriveRoots.standing = s.standing := by simp [State.deriveRoots]

/-! ### Trust -/

@[simp] theorem noteKeyless_standing (n : Nat) : (s.noteKeyless n).standing = s.standing := by
  unfold State.noteKeyless
  (repeat' split) <;> simp

@[simp] theorem destroyWhere_standing (s : State) (p : Nat → KeySlot → Bool) : (s.destroyWhere p).2.standing = s.standing := by
  simp only [State.destroyWhere]
  refine foldl_kept (fun a : Nat × State => a.2.standing) (fun a n => ?_) _ _
  split <;> simp

@[simp] theorem lifeDestroy_standing (target : LifeCycle) : (s.lifeDestroy target).2.standing = s.standing := by
  unfold State.lifeDestroy
  (repeat' split) <;> simp

@[simp] theorem startSweep_standing (slots : List Nat) (zeroized : Nat) (who : List (Nat × Req)) :
    (s.startSweep slots zeroized who).standing = s.standing := by
  unfold State.startSweep
  (repeat' split) <;> simp

@[simp] theorem commissioned_running (s : State) : s.commissioned.standing.1 = s.standing.1 := by
  unfold State.standing State.commissioned
  rfl

@[simp] theorem lifeCycleBody_running (r : Req) (arg : Bytes) (stuck : BitVec 4) (i : Nat) :
    (lifeCycleBody r arg stuck i s).state.standing.1 = s.standing.1 := by
  unfold lifeCycleBody
  (repeat' split) <;> simp

@[simp] theorem lifeCycleCmd_running (r : Req) (arg : Bytes) (stuck : BitVec 4) : (s.lifeCycleCmd r arg stuck).standing.1 = s.standing.1 := by
  simp [State.lifeCycleCmd]

@[simp] theorem execLifeCycleTransition_running (r : Req) (arg : Bytes) (stuck : BitVec 4) :
    LeavesRunning s (execLifeCycleTransition r arg stuck s) := by
  simp [execLifeCycleTransition]

@[simp] theorem keyCmd_standing (s : State) (r : Req) (num : Nat) (arg : Bytes) {body : Nat → State → CmdOut}
    (h : ∀ i, (body i s).state.standing = s.standing) : (s.keyCmd r num arg body).standing = s.standing := by
  simp [State.keyCmd, h]

@[simp] theorem fuseCmd_standing (s : State) (r : Req) (num : Nat) (arg : Bytes) (a b : Bool) (n : Nat) {f : State → CmdOut}
    (h : (f s).state.standing = s.standing) : (s.fuseCmd r num arg a b n f).standing = s.standing := by
  unfold State.fuseCmd
  split
  · simp
  · refine command_standing _ _ _ _ fun i => ?_
    (repeat' split) <;> simp [h]

@[simp] theorem closeDebugCmd_standing (r : Req) (arg : Bytes) (readsBack : Bool) :
    (s.closeDebugCmd r arg readsBack).standing = s.standing := by
  simp [State.closeDebugCmd]

@[simp] theorem execCloseDebugPort_standing (r : Req) (arg : Bytes) (readsBack : Bool) :
    LeavesStanding s (execCloseDebugPort r arg readsBack s) := by
  simp [execCloseDebugPort]

@[simp] theorem lockPersCmd_standing (r : Req) (arg : Bytes) (readsBack : Bool) :
    (s.lockPersCmd r arg readsBack).standing = s.standing := by
  simp [State.lockPersCmd]

@[simp] theorem execLockPersonality_standing (r : Req) (arg : Bytes) (readsBack : Bool) :
    LeavesStanding s (execLockPersonality r arg readsBack s) := by
  simp [execLockPersonality]

@[simp] theorem importFleetCmd_standing (s : State) (r : Req) (a : Bytes) : (s.importFleetCmd r a).standing = s.standing := by
  refine keyCmd_standing _ _ _ _ fun i => ?_
  (repeat' split) <;> simp

@[simp] theorem execImportFleetWrapKey_standing (r : Req) (arg : Bytes) : LeavesStanding s (execImportFleetWrapKey r arg s) := by
  simp [execImportFleetWrapKey]

@[simp] theorem placeKey_standing (parent target usage life : Nat) (key : Bytes) :
    (s.placeKey parent target usage life key).standing = s.standing := by
  simp [State.placeKey]

@[simp] theorem importKeyCmd_standing (r : Req) (arg : Bytes) : (s.importKeyCmd r arg).standing = s.standing := by
  refine keyCmd_standing _ _ _ _ fun i => ?_
  dsimp only
  (repeat' split) <;> simp

@[simp] theorem execImportKey_standing (r : Req) (arg : Bytes) : LeavesStanding s (execImportKey r arg s) := by simp [execImportKey]

@[simp] theorem deriveKeyCmd_standing (r : Req) (arg : Bytes) : (s.deriveKeyCmd r arg).standing = s.standing := by
  refine keyCmd_standing _ _ _ _ fun i => ?_
  dsimp only
  (repeat' split) <;> simp

@[simp] theorem execDeriveKey_standing (r : Req) (arg : Bytes) : LeavesStanding s (execDeriveKey r arg s) := by simp [execDeriveKey]

@[simp] theorem invalidateCmd_standing (r : Req) (arg : Bytes) : (s.invalidateCmd r arg).standing = s.standing := by
  refine command_standing _ _ _ _ fun i => ?_
  dsimp only
  (repeat' split) <;> simp

@[simp] theorem execInvalidate_standing (r : Req) (arg : Bytes) : LeavesStanding s (execInvalidate r arg s) := by simp [execInvalidate]

@[simp] theorem destroyCmd_standing (r : Req) (arg : Bytes) : (s.destroyCmd r arg).standing = s.standing := by
  refine command_standing _ _ _ _ fun i => ?_
  dsimp only
  (repeat' split) <;> simp

@[simp] theorem execDestroy_standing (r : Req) (arg : Bytes) : LeavesStanding s (execDestroy r arg s) := by simp [execDestroy]

@[simp] theorem sweepOrphans_standing : s.sweepOrphans.2.standing = s.standing := by simp [State.sweepOrphans]

@[simp] theorem execOrphanSweepEnd_standing : LeavesStanding s (execOrphanSweepEnd s) := by
  unfold execOrphanSweepEnd
  (repeat' split) <;> simp

@[simp] theorem changeFleetCmd_standing (r : Req) (arg : Bytes) : (s.changeFleetCmd r arg).standing = s.standing := by
  refine keyCmd_standing _ _ _ _ fun i => ?_
  dsimp only
  (repeat' split) <;> simp

@[simp] theorem execChangeFleetWrapKey_standing (r : Req) (arg : Bytes) : LeavesStanding s (execChangeFleetWrapKey r arg s) := by
  simp [execChangeFleetWrapKey]

@[simp] theorem dropOldFleet_standing : s.dropOldFleet.standing = s.standing := by
  unfold State.dropOldFleet
  refine foldl_standing (fun t x => ?_) _ _
  simp

@[simp] theorem rewrapSome_standing (n : Nat) : (s.rewrapSome n).standing = s.standing := by
  simp only [State.rewrapSome]
  (repeat' split) <;> simp

@[simp] theorem rewrapRun_standing : s.rewrapRun.standing = s.standing := by simp [State.rewrapRun]

@[simp] theorem execRewrapComplete_standing : LeavesStanding s (execRewrapComplete s) := by simp [execRewrapComplete]

@[simp] theorem vendorChallengeRead_standing (r : Req) : (s.vendorChallengeRead r).standing = s.standing := by
  unfold State.vendorChallengeRead
  (repeat' split) <;> simp

@[simp] theorem execVendorChallengeRead_standing (r : Req) :
    LeavesStanding s (execVendorChallengeRead r s) := by simp [execVendorChallengeRead]

@[simp] theorem verifyTokenCmd_standing (r : Req) (arg : Bytes) : (s.verifyTokenCmd r arg).standing = s.standing := by
  simp [State.verifyTokenCmd]

@[simp] theorem execVerifyVendorToken_standing (r : Req) (arg : Bytes) : LeavesStanding s (execVerifyVendorToken r arg s) := by
  simp [execVerifyVendorToken]

@[simp] theorem execVendorSessionExpiry_standing (i : SessId) :
    LeavesStanding s (execVendorSessionExpiry i s) := by simp [execVendorSessionExpiry]

@[simp] theorem attestCmd_standing (r : Req) (arg : Bytes) : (s.attestCmd r arg).standing = s.standing := by
  refine command_standing _ _ _ _ fun i => ?_
  dsimp only
  simp

@[simp] theorem execAttestationRequest_standing (r : Req) (arg : Bytes) : LeavesStanding s (execAttestationRequest r arg s) := by
  simp [execAttestationRequest]

@[simp] theorem execAttestationDone_standing : LeavesStanding s (execAttestationDone s) := by
  unfold execAttestationDone
  (repeat' split) <;> simp

@[simp] theorem peerWrite_standing (r : Req) (num : Nat) (v : Bytes) : (s.peerWrite r num v).standing = s.standing := by
  simp [State.peerWrite]

@[simp] theorem execPeerDigestWrite_standing (r : Req) (entry : Fin 32) (v : Bytes) :
    LeavesStanding s (execPeerDigestWrite r entry v s) := by
  simp [execPeerDigestWrite]

@[simp] theorem clearKeyUsed_standing : s.clearKeyUsed.standing = s.standing := by
  unfold State.clearKeyUsed
  (repeat' split) <;> simp

@[simp] theorem clearEventsBody_standing (r : Req) (arg : Bytes) (i : Nat) : (clearEventsBody r arg i s).state.standing = s.standing := by
  simp [clearEventsBody]

@[simp] theorem execClearEvents_standing (r : Req) (arg : Bytes) : LeavesStanding s (execClearEvents r arg s) := by simp [execClearEvents]

/-! ### Accept -/

@[simp] theorem touchSlot_standing (h : Nat) : (s.touchSlot h).standing = s.standing := by simp [State.touchSlot]

theorem claimSlot_standing {s : State} {h : Nat} {x : Nat × State} (e : s.claimSlot h = some x) : x.2.standing = s.standing := by
  unfold State.claimSlot at e
  (repeat' split at e) <;> cases e <;> simp

@[simp] theorem loadKey_standing (s : State) (h : Nat) : (s.loadKey h).2.standing = s.standing := by
  simp only [State.loadKey]
  (repeat' split) <;> try simp
  next hc => exact claimSlot_standing hc

@[simp] theorem bumpAcc_standing (k : Nat) : (s.bumpAcc k).standing = s.standing := by simp [State.bumpAcc]

@[simp] theorem setFport_standing (p : Nat) (f : FieldPort → FieldPort) : (s.setFport p f).standing = s.standing := by
  simp [State.setFport]

@[simp] theorem bumpPort_standing (p k : Nat) : (s.bumpPort p k).standing = s.standing := by simp [State.bumpPort]

@[simp] theorem setCtx_standing (h : Nat) (f : Ctx → Ctx) : (s.setCtx h f).standing = s.standing := by
  unfold State.setCtx
  (repeat' split) <;> simp

@[simp] theorem evictCtx_standing : s.evictCtx.standing = s.standing := by
  unfold State.evictCtx
  (repeat' split) <;> simp

@[simp] theorem snapshot_standing (h : Nat) : (s.snapshot h).standing = s.standing := by
  unfold State.snapshot
  (repeat' split) <;> simp

@[simp] theorem noteHandle_standing (h : Nat) : (s.noteHandle h).standing = s.standing := by
  unfold State.noteHandle
  (repeat' split) <;> simp

@[simp] theorem fetchRemote_standing (h : Nat) : (s.fetchRemote h).standing = s.standing := by
  unfold State.fetchRemote
  (repeat' split) <;> simp

@[simp] theorem execRemoteContextFetch_standing (h : Handle) :
    LeavesStanding s (execRemoteContextFetch h s) := by simp [execRemoteContextFetch]

@[simp] theorem findCtx_standing (h : Nat) : (s.findCtx h).2.standing = s.standing := by
  unfold State.findCtx
  (repeat' split) <;> simp

@[simp] theorem journalMarks_standing : s.journalMarks.standing = s.standing := by
  simp only [State.journalMarks]
  (repeat' split) <;> simp

@[simp] theorem journalAppend_standing (e : JEntry) : (s.journalAppend e).standing = s.standing := by simp [State.journalAppend]

@[simp] theorem setEntry_standing (q : U64) (f : JEntry → JEntry) : (s.setEntry q f).standing = s.standing := by simp [State.setEntry]

@[simp] theorem deliver_standing (src : Nat) (e : JEntry) : (s.deliver src e).standing = s.standing := by simp [State.deliver]

@[simp] theorem settleEffects_standing (h : Nat) : (s.settleEffects h).standing = s.standing := by simp [State.settleEffects]

@[simp] theorem profileAppend_standing (h : Nat) (q : U64) : (s.profileAppend h q).standing = s.standing := by simp [State.profileAppend]

@[simp] theorem itemReleased_standing (f : Nat) (it : Item) : (s.itemReleased f it).standing = s.standing := by
  simp only [State.itemReleased]
  (repeat' split) <;> simp

@[simp] theorem uartTaken_standing (f : Nat) : (s.uartTaken f).standing = s.standing := by simp [State.uartTaken]

@[simp] theorem releaseDone_standing : s.releaseDone.standing = s.standing := by simp [State.releaseDone]

@[simp] theorem seqTake_standing (f : Nat) (it : Item) : (s.seqTake f it).standing = s.standing := by simp [State.seqTake]

@[simp] theorem useKey_standing (handle : Nat) (op : KeyOp) : (s.useKey handle op).2.standing = s.standing := by
  unfold State.useKey
  (repeat' split) <;> simp

@[simp] theorem execKeyUse_standing (k : U32) (op : KeyOp) (s : State) : LeavesStanding s (execKeyUse k op s) := by
  simp only [execKeyUse, leavesStanding_next]
  apply crossing_standing
  split <;> simp

@[simp] theorem useMeterKey_standing (h : Nat) (op : KeyOp) : (s.useMeterKey h op).2.standing = s.standing := by
  simp only [State.useMeterKey]
  (repeat' split) <;> simp

@[simp] theorem chargeKey_standing (acct : Option Nat) : (s.chargeKey acct).standing = s.standing := by
  unfold State.chargeKey
  (repeat' split) <;> simp

@[simp] theorem lineKey_standing (acct : Option Nat) (handle : Nat) (op : KeyOp) : (s.lineKey acct handle op).2.standing = s.standing := by
  simp only [State.lineKey]
  (repeat' split) <;> simp

@[simp] theorem lineMeterKey_standing (acct : Option Nat) (h : Nat) (op : KeyOp) : (s.lineMeterKey acct h op).2.standing = s.standing := by
  simp only [State.lineMeterKey]
  (repeat' split) <;> simp

@[simp] theorem offerKey_standing (o : Offer) : (s.offerKey o).2.standing = s.standing := by
  unfold State.offerKey
  (repeat' split) <;> simp

@[simp] theorem apduVerdict_standing (e : JEntry) (c : Ctx) (n : U32) : (s.apduVerdict e c n).2.standing = s.standing := by
  unfold State.apduVerdict
  (repeat' split) <;> simp

@[simp] theorem judgeApdu_standing (q : U64) : (s.judgeApdu q).2.standing = s.standing := by
  simp only [State.judgeApdu]
  (repeat' split) <;> simp

@[simp] theorem fwdDecided_standing (q : U64) : (s.fwdDecided q).standing = s.standing := by
  unfold State.fwdDecided
  refine foldl_standing (fun t x => ?_) _ _
  (repeat' split) <;> simp

@[simp] theorem handMac_standing (p : Nat) (q : U64) (m : Nat × Bytes) : (s.handMac p q m).standing = s.standing := by
  unfold State.handMac
  (repeat' split) <;> simp

@[simp] theorem settle_standing (d : Deciding) (src : Nat) : (s.settle d src).standing = s.standing := by
  simp only [State.settle]
  (repeat' split) <;> simp

@[simp] theorem mirrorDone_standing (q : U64) : (s.mirrorDone q).standing = s.standing := by simp [State.mirrorDone]

@[simp] theorem confirm_standing (q : U64) : (s.confirm q).standing = s.standing := by
  unfold State.confirm
  (repeat' split) <;> simp

@[simp] theorem decideNow_standing (q : U64) : (s.decideNow q).standing = s.standing := by
  unfold State.decideNow
  (repeat' split) <;> simp

@[simp] theorem acceptStored_standing (o : Offer) (key : Bytes) (n : U32) (e : JEntry) :
    (s.acceptStored o key n e).standing = s.standing := by
  simp [State.acceptStored]

@[simp] theorem acceptMirrored_standing (h : Nat) (e : JEntry) : (s.acceptMirrored h e).standing = s.standing := by
  simp [State.acceptMirrored]

@[simp] theorem acceptDecided_standing (d : Deciding) (src : Nat) : (s.acceptDecided d src).standing = s.standing := by
  simp [State.acceptDecided]

@[simp] theorem acceptFresh_standing (o : Offer) (c : Ctx) (key : Bytes) (n : U32) (body : Bytes) :
    (s.acceptFresh o c key n body).standing = s.standing := by
  simp [State.acceptFresh]

@[simp] theorem refused_standing : s.refused.2.standing = s.standing := by simp [State.refused]

@[simp] theorem acceptJudged_standing (o : Offer) (c : Ctx) (key body : Bytes) : (s.acceptJudged o c key body).2.standing = s.standing := by
  unfold State.acceptJudged
  (repeat' split) <;> simp

@[simp] theorem integrityFails_standing (o : Offer) : (s.integrityFails o).2.standing = s.standing := by
  unfold State.integrityFails
  (repeat' split) <;> simp

@[simp] theorem acceptKeyed_standing (o : Offer) (c : Ctx) (key : Bytes) : (s.acceptKeyed o c key).2.standing = s.standing := by
  simp only [State.acceptKeyed]
  (repeat' split) <;> simp

@[simp] theorem acceptKnown_standing (o : Offer) (c : Ctx) : (s.acceptKnown o c).2.standing = s.standing := by
  simp only [State.acceptKnown]
  (repeat' split) <;> simp

@[simp] theorem acceptAdmitted_standing (o : Offer) : (s.acceptAdmitted o).2.standing = s.standing := by
  simp only [State.acceptAdmitted]
  (repeat' split) <;> simp

@[simp] theorem accept_standing (s : State) (o : Offer) : (s.accept o).2.standing = s.standing := by
  unfold State.accept
  dsimp only
  rw [apply_ite Prod.snd, standing_ite, apply_ite Prod.snd, standing_ite, refused_standing, bumpAcc_standing, acceptAdmitted_standing,
    admitInput_standing]
  simp only [ite_self]

@[simp] theorem turnedAway_standing : s.turnedAway.standing = s.standing := by simp [State.turnedAway]

/-! ### Archive -/

@[simp] theorem placeUnit_standing (region logical acct first : Nat) (stored : Bytes) :
    (s.placeUnit region logical acct first stored).standing = s.standing := by
  simp only [State.placeUnit]
  (repeat' split) <;> simp

@[simp] theorem program_standing (region logical acct first : Nat) (data : Bytes) :
    (s.program region logical acct first data).standing = s.standing := by
  simp [State.program]

@[simp] theorem eraseBlock_standing (k : Nat) : (s.eraseBlock k).standing = s.standing := by simp [State.eraseBlock]

@[simp] theorem moveUnits_standing (k : Nat) : (s.moveUnits k).standing = s.standing := by simp [State.moveUnits]

@[simp] theorem relocate_standing (k : Nat) : (s.relocate k).standing = s.standing := by simp [State.relocate]

@[simp] theorem programFull_standing (cls n : Nat) (s : State) : (s.programFull cls n).standing = s.standing := by
  induction n generalizing s with
  | zero => rfl
  | succ n ih =>
    simp only [State.programFull]
    split <;> simp [ih]

@[simp] theorem padStream_standing (cls : Nat) : (s.padStream cls).standing = s.standing := by simp [State.padStream]

@[simp] theorem trimStream_standing (cls : Nat) : (s.trimStream cls).standing = s.standing := by simp [State.trimStream]

@[simp] theorem setRecs_standing (cls : Nat) (l : List ArchRec) : (s.setRecs cls l).standing = s.standing := by simp [State.setRecs]

@[simp] theorem dropOldest_standing (cls : Nat) : (s.dropOldest cls).standing = s.standing := by simp [State.dropOldest]

@[simp] theorem makeRoom_standing (len n : Nat) (s : State) : (s.makeRoom len n).standing = s.standing := by
  induction n generalizing s with
  | zero => rfl
  | succ n ih =>
    unfold State.makeRoom
    (repeat' split) <;> simp [ih]

@[simp] theorem putRecord_standing (cls : Nat) (r : ArchRec) : (s.putRecord cls r).standing = s.standing := by simp [State.putRecord]

@[simp] theorem appendRec_standing (cls : Nat) (r : ArchRec) : (s.appendRec cls r).standing = s.standing := by simp [State.appendRec]

@[simp] theorem archive_standing (cls coding : Nat) (subject : U32) (stamp : Nat) (body : Bytes) :
    (s.archive cls coding subject stamp body).standing = s.standing := by
  simp [State.archive]

@[simp] theorem recordPrepay_standing (h : Nat) : (s.recordPrepay h).standing = s.standing := by simp [State.recordPrepay]

@[simp] theorem retryAppends_standing : s.retryAppends.standing = s.standing := by simp [State.retryAppends]

@[simp] theorem execArchiveAppend_standing (cls : Fin 10) (coding : Bool) (subject stamp : U32) (body : Bytes) :
    LeavesStanding s (execArchiveAppend cls coding subject stamp body s) := by
  simp [execArchiveAppend]

@[simp] theorem execArchiveRetentionSweep_standing (s : State) : LeavesStanding s (execArchiveRetentionSweep s) := by
  rw [execArchiveRetentionSweep, leavesStanding_next, retryAppends_standing, foldl_standing (fun t k => eraseBlock_standing _ _),
    foldl_standing (fun t i => by simp)]

@[simp] theorem execNandOperationFail_standing (k : BitVec 18) (u : BitVec 14) (w : NandFail) (s : State) :
    LeavesStanding s (execNandOperationFail k u w s) := by
  simp only [execNandOperationFail, leavesStanding_next]
  split
  · rfl
  · simp only [raise_standing, standing_mk, standing_eta, moveUnits_standing]
    cases w <;> (repeat' split) <;> simp

@[simp] theorem checkPool_standing : s.checkPool.standing = s.standing := by simp [State.checkPool]

@[simp] theorem execGarbageCollection_standing : LeavesStanding s (execGarbageCollection s) := by
  simp only [execGarbageCollection]
  (repeat' split) <;> simp

@[simp] theorem execReadScrub_standing (block : BitVec 18) (weak : Bool) :
    LeavesStanding s (execReadScrub block weak s) := by simp [execReadScrub]

@[simp] theorem execReadDisturbRelocate_standing (block : BitVec 18) : LeavesStanding s (execReadDisturbRelocate block s) := by
  simp [execReadDisturbRelocate]

/-! ### Frames -/

@[simp] theorem linkHeard_standing (p : Nat) (b : Bytes) (up : Bool) (rx : Rx) : (s.linkHeard p b up rx).standing = s.standing := by
  unfold State.linkHeard
  (repeat' split) <;> simp

@[simp] theorem setPartner_standing (h : Nat) (f : Partner → Partner) : (s.setPartner h f).standing = s.standing := by
  unfold State.setPartner
  (repeat' split) <;> simp

@[simp] theorem learnDrift_standing (p h : Nat) (rx : Rx) : (s.learnDrift p h rx).standing = s.standing := by simp [State.learnDrift]

@[simp] theorem impulseDrop_standing (p gen : Nat) : (s.impulseDrop p gen).standing = s.standing := by simp [State.impulseDrop]

@[simp] theorem runScript_standing (p k : Nat) : (s.runScript p k).standing = s.standing := by simp [State.runScript]

@[simp] theorem listen_standing (p : Nat) (rx : Rx) : (s.listen p rx).standing = s.standing := by simp [State.listen]

@[simp] theorem heard_standing (p : Nat) (rx : Rx) : (s.heard p rx).standing = s.standing := by simp [State.heard]

@[simp] theorem ackDue_standing (p : Nat) (a : AckDue) : (s.ackDue p a).standing = s.standing := by simp [State.ackDue]

@[simp] theorem lateDecision_standing (p : Nat) : (s.lateDecision p).standing = s.standing := by simp [State.lateDecision]

@[simp] theorem decideLate_standing (p : Nat) (q : U64) : (s.decideLate p q).standing = s.standing := by simp [State.decideLate]

@[simp] theorem acceptNative_standing (p : Nat) (f : NFrame) (rx : Rx) : (s.acceptNative p f rx).standing = s.standing := by
  simp only [State.acceptNative]
  (repeat' split) <;> simp

@[simp] theorem joinFrame_standing (p : Nat) (f : NFrame) (rx : Rx) : (s.joinFrame p f rx).standing = s.standing := by
  simp only [State.joinFrame]
  (repeat' split) <;> simp

@[simp] theorem screenAck_standing (p : Nat) (b : Bytes) (rx : Rx) : (s.screenAck p b rx).2.standing = s.standing := by
  simp only [State.screenAck]
  (repeat' split) <;> simp

@[simp] theorem screenNative_standing (p : Nat) (b : Bytes) (rx : Rx) : (s.screenNative p b rx).2.standing = s.standing := by
  unfold State.screenNative
  (repeat' split) <;> simp

@[simp] theorem beaconRx_standing (p : Nat) (b : Bytes) (rx : Rx) : (s.beaconRx p b rx).standing = s.standing := by simp [State.beaconRx]

@[simp] theorem nativeRx_standing (p : Nat) (b : Bytes) (rx : Rx) : (s.nativeRx p b rx).standing = s.standing := by
  simp only [State.nativeRx]
  (repeat' split) <;> simp

@[simp] theorem holdInput_standing (src : Nat) (w : Inbound) : (s.holdInput src w).standing = s.standing := by
  simp only [State.holdInput]
  (repeat' split) <;> simp

@[simp] theorem holdFrame_standing (src gen p : Nat) (f : StdFrame) (rx : Rx) : (s.holdFrame src gen p f rx).standing = s.standing := by
  simp [State.holdFrame]

@[simp] theorem orWait_standing (s : State) (src : Nat) (c : Instr) {t : State} (h : t.standing = s.standing) :
    (s.orWait src c t).standing = s.standing := by
  simp [State.orWait, h]

@[simp] theorem execNativeFrameRx_standing (port : Fin 24) (bytes : Bytes) (rx : Rx) :
    LeavesStanding s (execNativeFrameRx port bytes rx s) := by
  simp [execNativeFrameRx]

@[simp] theorem execJoinRequest_standing (port : Fin 24) (bytes : Bytes) (rx : Rx) :
    LeavesStanding s (execJoinRequest port bytes rx s) := by
  simp [execJoinRequest]

@[simp] theorem radioApplied_standing (p : Nat) : (s.radioApplied p).standing = s.standing := by simp [State.radioApplied]

@[simp] theorem radiosUp_standing : s.radiosUp.standing = s.standing := by simp [State.radiosUp]

@[simp] theorem countAir_standing (p us : Nat) : (s.countAir p us).standing = s.standing := by simp [State.countAir]

@[simp] theorem stdAir_standing : s.stdAir.2.standing = s.standing := by simp [State.stdAir]

@[simp] theorem drive_standing (p gen : Nat) : (s.drive p gen).standing = s.standing := by simp [State.drive]

@[simp] theorem sendAck_standing (s : State) (p : Nat) (ok : AckDue → Bool) {send : AckDue → State → State}
    (h : ∀ a t, (send a t).standing = t.standing) : (s.sendAck p ok send).standing = s.standing := by
  simp only [State.sendAck]
  (repeat' split) <;> simp [h]

@[simp] theorem execNativePlcAckTx_standing (p : Fin 12) (s : State) : LeavesStanding s (execNativePlcAckTx p s) := by
  rw [execNativePlcAckTx, leavesStanding_next]
  exact sendAck_standing _ _ _ fun a t => emit_standing _ _

@[simp] theorem execNativeRadioAckTx_standing (port : Fin 12) :
    LeavesStanding s (execNativeRadioAckTx port s) := by simp [execNativeRadioAckTx]

@[simp] theorem emitStdAck_standing (p : Nat) (a : AckDue) : (s.emitStdAck p a).standing = s.standing := by simp [State.emitStdAck]

@[simp] theorem execStandardAckTx_standing (port : Fin 24) : LeavesStanding s (execStandardAckTx port s) := by simp [execStandardAckTx]

@[simp] theorem execOcbAckTx_standing (port : Fin 12) : LeavesStanding s (execOcbAckTx port s) := by simp [execOcbAckTx]

/-! ### Partners -/

@[simp] theorem mirrorCtx_standing (h : Nat) : (s.mirrorCtx h).standing = s.standing := by
  unfold State.mirrorCtx
  (repeat' split) <;> simp

@[simp] theorem pinCtx_standing (h : Nat) : (s.pinCtx h).standing = s.standing := by simp [State.pinCtx]

theorem pinPartner_standing {s t : State} {h : Nat} (e : s.pinPartner h = some t) : t.standing = s.standing := by
  unfold State.pinPartner at e
  split at e
  · cases e; rfl
  · split at e
    · cases e
    · cases e
      simp only [mirrorCtx_standing, noteHandle_standing, pinCtx_standing]
      split <;> simp

theorem joinPartner_standing {s t : State} {p h gen : Nat} (e : s.joinPartner p h gen = some t) : t.standing = s.standing := by
  obtain ⟨u, hu, rfl⟩ := Option.map_eq_some_iff.mp e
  simp [pinPartner_standing hu]

@[simp] theorem removePartner_standing (h : Nat) : (s.removePartner h).standing = s.standing := by
  unfold State.removePartner
  (repeat' split) <;> simp

@[simp] theorem transmit_standing (p : Nat) (b : Bytes) : (s.transmit p b).standing = s.standing := by simp [State.transmit]

@[simp] theorem defer_standing (p h code : Nat) : (s.defer p h code).standing = s.standing := by simp [State.defer]

@[simp] theorem undefer_standing (p h code : Nat) : (s.undefer p h code).standing = s.standing := by simp [State.undefer]

@[simp] theorem txUsed_standing (h : Nat) : (s.txUsed h).standing = s.standing := by
  unfold State.txUsed
  (repeat' split) <;> simp

theorem sendCommand_standing {s t : State} {p h code : Nat} {b : Bytes} {n : Bool} (e : s.sendCommand p h code b n = some t) :
    t.standing = s.standing := by
  rw [State.sendCommand] at e
  split at e
  · cases e
  · rw [Option.ite_none_left_eq_some] at e
    obtain ⟨-, e⟩ := e
    dsimp only at e
    split at e
    · cases e
      split <;> simp
    · rw [Option.ite_none_right_eq_some] at e
      rw [← Option.some.inj e.2]
      cases n <;> simp

@[simp] theorem commandWaits_standing (p h code : Nat) : (s.commandWaits p h code).standing = s.standing := by simp [State.commandWaits]

theorem joinResponse_standing {s t : State} {p h w : Nat} (e : s.joinResponse p h w = some t) : t.standing = s.standing := by
  rw [State.joinResponse] at e
  split at e
  · exact sendCommand_standing e
  · extract_lets pair at e
    split at e
    · exact sendCommand_standing e
    · split at e
      · rw [← Option.some.inj e, raise_standing]
      next hj =>
        rw [sendCommand_standing e, ← joinPartner_standing hj]
        split <;> simp

@[simp] theorem execJoinResponse_standing (p : Fin 24) (s : State) : LeavesStanding s (execJoinResponse p s) := by
  simp only [execJoinResponse, leavesStanding_next]
  split
  · rfl
  · split
    next hr => rw [joinResponse_standing hr, standing_keep]
    · simp

@[simp] theorem execSlotAssignmentTx_standing (p : Fin 12) (s : State) : LeavesStanding s (execSlotAssignmentTx p s) := by
  simp only [execSlotAssignmentTx, leavesStanding_next]
  split
  · rfl
  · split
    next hc => rw [sendCommand_standing hc, setPartner_standing]
    · simp

@[simp] theorem execTimingHintTx_standing (p : Fin 24) (s : State) : LeavesStanding s (execTimingHintTx p s) := by
  simp only [execTimingHintTx, leavesStanding_next]
  split
  · rfl
  · split
    next hc => rw [sendCommand_standing hc, setPartner_standing]
    · simp

@[simp] theorem takeMac_standing (p : Nat) (ok : Nat → Bool) : (s.takeMac p ok).2.standing = s.standing := by
  unfold State.takeMac
  (repeat' split) <;> simp

@[simp] theorem neighbours_standing (h : Nat) (body : Bytes) : (s.neighbours h body).standing = s.standing := by simp [State.neighbours]

@[simp] theorem execNeighbourReport_standing (port : Fin 12) : LeavesStanding s (execNeighbourReport port s) := by
  simp only [execNeighbourReport]
  (repeat' split) <;> simp

@[simp] theorem votePhase_standing (p h : Nat) (c : Option Cycle) (off : Int) : (s.votePhase p h c off).standing = s.standing := by
  simp [State.votePhase]

@[simp] theorem setMember_standing (h : Nat) (f : Member → Member) : (s.setMember h f).standing = s.standing := by simp [State.setMember]

@[simp] theorem judgeMember_standing (h : Nat) : (s.judgeMember h).standing = s.standing := by simp [State.judgeMember]

@[simp] theorem inferPhase_standing (h : Nat) (c : Option Cycle) (off tol : Int) : (s.inferPhase h c off tol).standing = s.standing := by
  simp [State.inferPhase]

@[simp] theorem execPhaseReport_standing (port : Fin 12) : LeavesStanding s (execPhaseReport port s) := by
  simp only [execPhaseReport]
  (repeat' split) <;> simp

@[simp] theorem execResynchronised_standing (port : Fin 24) : LeavesStanding s (execResynchronised port s) := by
  simp only [execResynchronised]
  (repeat' split) <;> simp

@[simp] theorem execUnknownCommand_standing (port : Fin 24) : LeavesStanding s (execUnknownCommand port s) := by
  simp only [execUnknownCommand]
  (repeat' split) <;> simp

@[simp] theorem execLinkAgeing_standing : LeavesStanding s (execLinkAgeing s) := by simp [execLinkAgeing]

@[simp] theorem choosePath_standing (p h j step : Nat) : (s.choosePath p h j step).standing = s.standing := by
  unfold State.choosePath
  (repeat' split) <;> simp

@[simp] theorem execPathSelection_standing (port : Fin 12) (due : List (Handle × Fin 8 × Nat)) :
    LeavesStanding s (execPathSelection port due s) := by
  simp [execPathSelection]

@[simp] theorem queueDown_standing (h : Nat) (d : Down) : (s.queueDown h d).2.standing = s.standing := by
  unfold State.queueDown
  (repeat' split) <;> simp

@[simp] theorem takeFirst_standing (p : Nat) (c : Bytes) (l : List (Nat × Item)) (s : State) :
    (s.takeFirst p c l).standing = s.standing := by
  induction l generalizing s with
  | nil => rfl
  | cons x xs ih =>
    simp only [State.takeFirst]
    (repeat' split) <;> simp [ih]

@[simp] theorem takePortItem_standing (p : Nat) (content : Bytes) : (s.takePortItem p content).standing = s.standing := by
  simp [State.takePortItem]

@[simp] theorem downFrame_standing (p h : Nat) (path : List Nat) (d : Down) : (s.downFrame p h path d).2.standing = s.standing := by
  unfold State.downFrame
  (repeat' split) <;> simp

@[simp] theorem sendHead_standing (p h : Nat) (path : List Nat) (x : Partner) (d : Down) :
    (s.sendHead p h path x d).standing = s.standing := by
  simp only [State.sendHead]
  (repeat' split) <;> simp

@[simp] theorem rideAcks_standing (p h : Nat) : (s.rideAcks p h).standing = s.standing := by simp [State.rideAcks]

@[simp] theorem sendStd_standing (p h : Nat) (x : Partner) (d : Down) (rest : List Down) :
    (s.sendStd p h x d rest).standing = s.standing := by
  simp [State.sendStd]

@[simp] theorem downDone_standing (h : Nat) : (s.downDone h).standing = s.standing := by
  unfold State.downDone
  (repeat' split) <;> simp

@[simp] theorem ackRx_standing (p : Nat) (b : Bytes) (rx : Rx) : (s.ackRx p b rx).standing = s.standing := by
  simp only [State.ackRx]
  (repeat' split) <;> simp

@[simp] theorem execDownlinkAckRx_standing (port : Fin 24) (a : Heard) : LeavesStanding s (execDownlinkAckRx port a s) := by
  simp [execDownlinkAckRx]

@[simp] theorem execDownlinkAckTimeout_standing (port : Fin 24) (handle : Handle) :
    LeavesStanding s (execDownlinkAckTimeout port handle s) := by
  simp only [execDownlinkAckTimeout]
  (repeat' split) <;> simp

@[simp] theorem storeKeyRecord_standing (s : State) (h : Nat) (v : Bytes) : (s.storeKeyRecord h v).standing = s.standing := by
  simp only [State.storeKeyRecord]
  cases tblFind? s.trust.meterSlot h <;> simp

@[simp] theorem keyRecordWrite_standing (r : Req) (v : Bytes) : (s.keyRecordWrite r v).standing = s.standing := by
  simp only [State.keyRecordWrite]
  (repeat' split) <;> simp

@[simp] theorem execMeterKeyRecordWrite_standing (r : Req) (v : Bytes) : LeavesStanding s (execMeterKeyRecordWrite r v s) := by
  simp [execMeterKeyRecordWrite]

/-! ### FieldPorts -/

@[simp] theorem execNativeBeaconStart_standing (port : Fin 12) :
    LeavesStanding s (execNativeBeaconStart port s) := by simp [execNativeBeaconStart]

@[simp] theorem execRadioBeaconStart_standing (port : Fin 12) :
    LeavesStanding s (execRadioBeaconStart port s) := by simp [execRadioBeaconStart]

@[simp] theorem execPlcBeaconTx_standing (port : Fin 12) : LeavesStanding s (execPlcBeaconTx port s) := by
  simp only [execPlcBeaconTx]
  (repeat' split) <;> simp

@[simp] theorem execRadioBeaconTx_standing (port : Fin 12) : LeavesStanding s (execRadioBeaconTx port s) := by
  simp only [execRadioBeaconTx]
  (repeat' split) <;> simp

@[simp] theorem execSunBeaconTx_standing (port : Fin 12) : LeavesStanding s (execSunBeaconTx port s) := by simp [execSunBeaconTx]

@[simp] theorem execSetCycleBroadcast_standing (port : Fin 12) :
    LeavesStanding s (execSetCycleBroadcast port s) := by simp [execSetCycleBroadcast]

@[simp] theorem execBlankingReseed_standing (port : Fin 12) (rms : U16) : LeavesStanding s (execBlankingReseed port rms s) := by
  simp [execBlankingReseed]

@[simp] theorem execActiveBeaconMissed_standing (port : Fin 24) : LeavesStanding s (execActiveBeaconMissed port s) := by
  simp [execActiveBeaconMissed]

@[simp] theorem execQuietStartEnd_standing : LeavesStanding s (execQuietStartEnd s) := by simp [execQuietStartEnd]

@[simp] theorem acceptStd_standing (p gen : Nat) (key : Option Nat) (rule : CountRule) (wantAck : Bool) (f : StdFrame) (rx : Rx) :
    (s.acceptStd p gen key rule wantAck f rx).standing = s.standing := by
  simp only [State.acceptStd]
  (repeat' split) <;> simp

@[simp] theorem orHold_standing (s : State) (gen p : Nat) (f : StdFrame) (rx : Rx) {t : State} (h : t.standing = s.standing) :
    (s.orHold gen p f rx t).standing = s.standing := by
  simp [State.orHold, h]

@[simp] theorem g3Rx_standing (p : Nat) (f : StdFrame) (rx : Rx) : (s.g3Rx p f rx).standing = s.standing := by
  unfold State.g3Rx
  (repeat' split) <;> simp

@[simp] theorem execG3FrameRx_standing (port : Fin 12) (f : StdFrame) (rx : Rx) : LeavesStanding s (execG3FrameRx port f rx s) := by
  simp [execG3FrameRx]

@[simp] theorem primeRx_standing (p : Nat) (f : StdFrame) (rx : Rx) : (s.primeRx p f rx).standing = s.standing := by simp [State.primeRx]

@[simp] theorem execPrimeFrameRx_standing (port : Fin 12) (f : StdFrame) (rx : Rx) : LeavesStanding s (execPrimeFrameRx port f rx s) := by
  simp [execPrimeFrameRx]

@[simp] theorem wmbusRx_standing (p : Nat) (f : StdFrame) (rx : Rx) : (s.wmbusRx p f rx).standing = s.standing := by
  unfold State.wmbusRx
  (repeat' split) <;> simp

@[simp] theorem execWmbusFrameRx_standing (port : Fin 12) (f : StdFrame) (link : WMode) (rx : Rx) :
    LeavesStanding s (execWmbusFrameRx port f link rx s) := by
  simp [execWmbusFrameRx]

@[simp] theorem sunRx_standing (p : Nat) (f : StdFrame) (rx : Rx) : (s.sunRx p f rx).standing = s.standing := by simp [State.sunRx]

@[simp] theorem execSunFrameRx_standing (port : Fin 12) (f : StdFrame) (rx : Rx) : LeavesStanding s (execSunFrameRx port f rx s) := by
  simp [execSunFrameRx]

@[simp] theorem ocbRx_standing (p : Nat) (b : Bytes) (rx : Rx) : (s.ocbRx p b rx).standing = s.standing := by
  simp only [State.ocbRx]
  (repeat' split) <;> simp

@[simp] theorem execOcbLpduRx_standing (port : Fin 12) (bytes : Bytes) (rx : Rx) : LeavesStanding s (execOcbLpduRx port bytes rx s) := by
  simp [execOcbLpduRx]

@[simp] theorem pacedJoin_standing (s : State) (p h gen : Nat) {f : State → State} (hf : ∀ t, (f t).standing = t.standing) :
    (s.pacedJoin p h gen f).standing = s.standing := by
  simp only [State.pacedJoin]
  (repeat' split) <;> try simp
  all_goals next hj _ => simp [hf, joinPartner_standing hj]

@[simp] theorem joinOn_standing (s : State) (p h gen : Nat) {f : State → State} (hf : ∀ t, (f t).standing = t.standing) :
    (s.joinOn p h gen f).standing = s.standing := by
  simp [State.joinOn, hf]

@[simp] theorem joinAnswer_standing (p h gen : Nat) : (s.joinAnswer p h gen).standing = s.standing := by simp [State.joinAnswer]

theorem giveGroupKey_standing {s t : State} {p h i : Nat} (e : s.giveGroupKey p h i = some t) : t.standing = s.standing := by
  unfold State.giveGroupKey at e
  dsimp only at e
  split at e <;> cases e
  simp

@[simp] theorem execG3LbpJoin_standing (p : Fin 12) (h : Handle) (s : State) : LeavesStanding s (execG3LbpJoin p h s) := by
  have hj (u : State) (i : Nat) : (u.pacedJoin p.val h.toNat (s.pcfg p.val 1 1) (fun t =>
      match t.giveGroupKey p.val h.toNat i with | none => t | some u => u.bumpPort p.val 9)).standing = u.standing :=
    pacedJoin_standing _ _ _ _ fun t => by
      split
      · rfl
      next hg => simp [giveGroupKey_standing hg]
  simp only [execG3LbpJoin, leavesStanding_next]
  apply orWait_standing
  (repeat' split) <;> try simp
  next hg => simp [giveGroupKey_standing hg]
  all_goals exact (hj _ _).trans (by simp)

@[simp] theorem execG3RekeySwitch_standing (port : Fin 12) : LeavesStanding s (execG3RekeySwitch port s) := by
  simp only [execG3RekeySwitch]
  (repeat' split) <;> simp

@[simp] theorem execPrimeRegistration_standing (port : Fin 12) (handle : Handle) :
    LeavesStanding s (execPrimeRegistration port handle s) := by
  simp [execPrimeRegistration]

@[simp] theorem execSfskDiscovery_standing (port : Fin 12) (handle : Handle) : LeavesStanding s (execSfskDiscovery port handle s) := by
  simp [execSfskDiscovery]

@[simp] theorem installRx_standing (p : Nat) (f : StdFrame) (rx : Rx) : (s.installRx p f rx).standing = s.standing := by
  simp [State.installRx]

@[simp] theorem execWmbusInstallRequest_standing (port : Fin 12) (f : StdHeard) : LeavesStanding s (execWmbusInstallRequest port f s) := by
  simp [execWmbusInstallRequest]

@[simp] theorem execSunAssociation_standing (port : Fin 12) (handle : Handle) : LeavesStanding s (execSunAssociation port handle s) := by
  simp [execSunAssociation]

@[simp] theorem execJournalStuck_standing : LeavesStanding s (execJournalStuck s) := by
  unfold execJournalStuck
  (repeat' split) <;> simp

@[simp] theorem execInputDeadlineDiscard_standing (src : Nat) : LeavesStanding s (execInputDeadlineDiscard src s) := by
  unfold execInputDeadlineDiscard
  (repeat' split) <;> simp

@[simp] theorem serialAccept_standing (p : Nat) (f : StdFrame) (rx : Rx) : (s.serialAccept p f rx).standing = s.standing := by
  simp [State.serialAccept]

@[simp] theorem runHeld_standing (gen p : Nat) (f : StdFrame) (rx : Rx) : (s.runHeld gen p f rx).standing = s.standing := by
  simp [State.runHeld]

@[simp] theorem forwardOne_standing (assoc src : Nat) (x : FwdRecord) (stamp : Nat) :
    (s.forwardOne assoc src x stamp).2.standing = s.standing := by
  simp only [State.forwardOne]
  (repeat' split) <;> simp

@[simp] theorem forwardAll_standing (a src stamp : Nat) (l : List FwdRecord) (s : State) :
    (s.forwardAll a src stamp l).2.standing = s.standing := by
  induction l generalizing s with
  | nil => rfl
  | cons x xs ih => simp [State.forwardAll, ih]

@[simp] theorem forwarding_standing (r : Req) (records : List FwdRecord) (stamp : Nat) :
    (s.forwarding r records stamp).standing = s.standing := by
  simp [State.forwarding]

@[simp] theorem execForwardingRequest_standing (r : Req) (peer : Bytes) (l : List FwdRecord) (stamp : Nat) (s : State) :
    LeavesStanding s (execForwardingRequest r peer l stamp s) := by
  simp only [execForwardingRequest, leavesStanding_next]
  split
  · rfl
  next ha => rw [orWait_standing _ _ _ (forwarding_standing _ _ _ _), association_standing ha]

/-! ### Staging -/

theorem stage_standing {s t : State} {num i : Nat} {v : Bytes} (e : s.stage num i v = .ok t) : t.standing = s.standing := by
  unfold State.stage at e
  (repeat' split at e) <;> cases e
  simp

@[simp] theorem commitSet_standing (g : Nat) (set : Tbl Bytes) : (s.commitSet g set).standing = s.standing := by simp [State.commitSet]

/-! ### Tariff -/

@[simp] theorem setApp_standing (f : AppState → AppState) : (s.setApp f).standing = s.standing := by simp [State.setApp]

@[simp] theorem noteStep_standing (off : Int) : (s.noteStep off).standing = s.standing := by simp [State.noteStep]

@[simp] theorem followRatesAt_standing (at_ : Int) (bmin : Nat) : (s.followRatesAt at_ bmin).standing = s.standing := by
  simp [State.followRatesAt]

@[simp] theorem followRates_standing : s.followRates.standing = s.standing := by simp [State.followRates]

@[simp] theorem execRateSwitch_standing : LeavesStanding s (execRateSwitch s) := by simp [execRateSwitch]

@[simp] theorem activateTable_standing (t : Nat) : (s.activateTable t).standing = s.standing := by simp [State.activateTable]

@[simp] theorem execTariffActive_standing (table : Fin 16) : LeavesStanding s (execTariffActive table s) := by simp [execTariffActive]

@[simp] theorem feederEnergy_standing (f : Nat) (net : Int) : (s.feederEnergy f net).standing = s.standing := by
  simp [State.feederEnergy]

@[simp] theorem feederDemand_standing (f : Nat) (mw : Int) : (s.feederDemand f mw).standing = s.standing := by simp [State.feederDemand]

/-! ### Weir -/

@[simp] theorem setWeir_standing (f : WeirState → WeirState) : (s.setWeir f).standing = s.standing := by simp [State.setWeir]

@[simp] theorem setFeeder_standing (f : Nat) (g : Feeder → Feeder) : (s.setFeeder f g).standing = s.standing := by simp [State.setFeeder]

@[simp] theorem flagFeeders_standing (b : U16) : (s.flagFeeders b).standing = s.standing := by
  unfold State.flagFeeders
  refine foldl_standing (fun t x => ?_) _ _
  simp

@[simp] theorem pushSample_standing (ch : Nat) (y : Int) : (s.pushSample ch y).standing = s.standing := by simp [State.pushSample]

@[simp] theorem takeSamples_standing (raw : List (Fin 128 × BitVec 24)) : (s.takeSamples raw).standing = s.standing := by
  simp [State.takeSamples]

@[simp] theorem runEnergy_standing (p : Tbl (List Int)) (dt : Int) : (s.runEnergy p dt).standing = s.standing := by
  unfold State.runEnergy
  refine foldl_standing (fun t x => ?_) _ _
  simp

@[simp] theorem reachBound_standing (b : Bound) : (s.reachBound b).standing = s.standing := by simp [State.reachBound]

@[simp] theorem runBounds_standing (p : Tbl (List Int)) (stop n cur : Nat) (s : State) :
    (s.runBounds p stop n cur).standing = s.standing := by
  induction n generalizing s cur with
  | zero => simp [State.runBounds]
  | succ n ih =>
    simp only [State.runBounds]
    split <;> simp [ih]

@[simp] theorem stepLength_standing (at_ : Nat) : (s.stepLength at_).standing = s.standing := by
  unfold State.stepLength
  (repeat' split) <;> simp

@[simp] theorem captureSample_standing : s.captureSample.standing = s.standing := by simp [State.captureSample]

@[simp] theorem execCheckChannelSample_standing (at_ : Nat) (raw : List (Fin 128 × BitVec 24)) :
    LeavesStanding s (execCheckChannelSample at_ raw s) := by
  simp [execCheckChannelSample]

@[simp] theorem weirCrossing_standing (num : Cycle) (stamp : Nat) (predicted : Bool) :
    (s.weirCrossing num stamp predicted).standing = s.standing := by
  simp [State.weirCrossing]

@[simp] theorem weirPhase_standing (ph stamp : Nat) : (s.weirPhase ph stamp).standing = s.standing := by
  unfold State.weirPhase
  (repeat' split) <;> simp

@[simp] theorem weirFallback_standing (at_ : Nat) : (s.weirFallback at_).standing = s.standing := by
  simp only [State.weirFallback]
  (repeat' split) <;> simp

@[simp] theorem weirStep_standing (off : Int) : (s.weirStep off).standing = s.standing := by simp [State.weirStep]

@[simp] theorem execRefCheck_standing (ppb : U32) (temp : BitVec 16) : LeavesStanding s (execRefCheck ppb temp s) := by simp [execRefCheck]

@[simp] theorem closeDemand_standing (f : Nat) (extra : U16) : (s.closeDemand f extra).standing = s.standing := by
  simp [State.closeDemand]

@[simp] theorem execFeederDemandIntervalEnd_standing (feeder : Fin 64) : LeavesStanding s (execFeederDemandIntervalEnd feeder s) := by
  simp [execFeederDemandIntervalEnd]

@[simp] theorem resetMaxCmd_standing (s : State) (r : Req) (a : Bytes) : (s.resetMaxCmd r a).standing = s.standing := by
  simp [State.resetMaxCmd]

@[simp] theorem execResetMaximumDemand_standing (r : Req) (arg : Bytes) : LeavesStanding s (execResetMaximumDemand r arg s) := by
  simp [execResetMaximumDemand]

@[simp] theorem execPqBlockEnd_standing (b : PqBlock) (s : State) : LeavesStanding s (execPqBlockEnd b s) := by
  rw [execPqBlockEnd, leavesStanding_next, foldl_standing (fun t f => setFeeder_standing _ _ _), setWeir_standing]

@[simp] theorem aggregate_standing (b : PqBlock) (flags : U16) : (s.aggregate b flags).standing = s.standing := by
  unfold State.aggregate
  refine foldl_standing (fun t x => ?_) _ _
  simp

@[simp] theorem endAggregate_standing (f : Nat) : (s.endAggregate f).standing = s.standing := by simp [State.endAggregate]

@[simp] theorem execPqAggregate_standing (m : Bool) (f : List (Fin 64 × U32)) (s : State) : LeavesStanding s (execPqAggregate m f s) := by
  have h0 := foldl_standing (fun t b => aggregate_standing t b.1 b.2) (s.weir.ring.zip s.weir.ringFlags)
    (s.setWeir (fun w => { w with ring := [], ringFlags := [] }))
  have h1 (u : State) := foldl_standing (fun t x => setFeeder_standing t x.1.val (fun y => { y with freq := x.2.toNat })) f u
  simp only [execPqAggregate, leavesStanding_next]
  split
  · rw [setWeir_standing, foldl_standing (fun t g => endAggregate_standing _ _), h1, h0, setWeir_standing]
  · rw [h1, h0, setWeir_standing]

@[simp] theorem execPqEventDetect_standing (c : Fin 128) (l : U16) (s : State) : LeavesStanding s (execPqEventDetect c l s) := by
  rw [execPqEventDetect, leavesStanding_next]
  refine foldl_standing (fun t f => ?_) _ _
  dsimp only
  (repeat' split) <;> simp

theorem armLatch_standing {s t : State} {i : U16} {c : Cycle} (e : s.armLatch i c = .ok t) : t.standing = s.standing := by
  simp only [State.armLatch] at e
  (repeat' split at e) <;> cases e
  simp

@[simp] theorem armLatchCmd_standing (s : State) (r : Req) (arg : Bytes) : (s.armLatchCmd r arg).standing = s.standing := by
  refine command_standing _ _ _ _ fun i => ?_
  split
  · rfl
  · split
    · rfl
    next ha => exact armLatch_standing ha

@[simp] theorem execArmLatch_standing (r : Req) (arg : Bytes) : LeavesStanding s (execArmLatch r arg s) := by simp [execArmLatch]

@[simp] theorem completeLatches_standing (target : Cycle) (off : List Nat) : (s.completeLatches target off).2.standing = s.standing := by
  simp [State.completeLatches]

@[simp] theorem captureTrigger_standing : s.captureTrigger.standing = s.standing := by simp [State.captureTrigger]

@[simp] theorem captureCmd_standing (r : Req) (arg : Bytes) : (s.captureCmd r arg).standing = s.standing := by simp [State.captureCmd]

@[simp] theorem execCaptureArm_standing (r : Req) : LeavesStanding s (execCaptureArm r s) := by simp [execCaptureArm]

@[simp] theorem execCaptureTriggerNow_standing (r : Req) : LeavesStanding s (execCaptureTriggerNow r s) := by simp [execCaptureTriggerNow]

@[simp] theorem execCaptureDisarm_standing (r : Req) : LeavesStanding s (execCaptureDisarm r s) := by simp [execCaptureDisarm]

@[simp] theorem execCaptureTrigger_standing (feeder : Option (Fin 64)) : LeavesStanding s (execCaptureTrigger feeder s) := by
  unfold execCaptureTrigger
  (repeat' split) <;> simp

@[simp] theorem captureRecords_standing (ch step a n : Nat) (l : List Int) (s : State) :
    (s.captureRecords ch step a n l).standing = s.standing := by
  induction n generalizing s a l with
  | zero => rfl
  | succ n ih =>
    simp only [State.captureRecords]
    split <;> simp [ih]

@[simp] theorem execCaptureDone_standing : LeavesStanding s (execCaptureDone s) := by simp [execCaptureDone]

@[simp] theorem calibrateCmd_standing (r : Req) (arg : Bytes) : (s.calibrateCmd r arg).standing = s.standing := by
  simp [State.calibrateCmd]

@[simp] theorem execCalibrateChannel_standing (r : Req) (arg : Bytes) : LeavesStanding s (execCalibrateChannel r arg s) := by
  simp [execCalibrateChannel]

@[simp] theorem execCalibrationMeasured_standing (m : U64) (s : State) : LeavesStanding s (execCalibrationMeasured m s) := by
  simp only [execCalibrationMeasured, leavesStanding_next]
  (repeat' split) <;> try simp
  next hs => simp [stage_standing hs]

@[simp] theorem execMeasurementSettled_standing : LeavesStanding s (execMeasurementSettled s) := by simp [execMeasurementSettled]

@[simp] theorem missBegun_standing : s.missBegun.standing = s.standing := by simp [State.missBegun]

@[simp] theorem weirPowerFail_standing : s.weirPowerFail.standing = s.standing := by simp [State.weirPowerFail]

@[simp] theorem weirRelease_standing : s.weirRelease.standing = s.standing := by simp [State.weirRelease]

@[simp] theorem weirCalApplied_standing : s.weirCalApplied.standing = s.standing := by simp [State.weirCalApplied]

/-! ### Meters -/

@[simp] theorem tell_standing (h : Nat) (m : MeterMsg) : (s.tell h m).standing = s.standing := by
  unfold State.tell
  (repeat' split) <;> simp

/-! ### Balance -/

@[simp] theorem setSeg_standing (g : Nat) (f : Segment → Segment) : (s.setSeg g f).standing = s.standing := by simp [State.setSeg]

@[simp] theorem setBal_standing (f : BalState → BalState) : (s.setBal f).standing = s.standing := by simp [State.setBal]

@[simp] theorem setOrder_standing (id : U16) (f : Order → Order) : (s.setOrder id f).standing = s.standing := by simp [State.setOrder]

@[simp] theorem readMember_standing (id : U16) (h : Nat) : (s.readMember id h).standing = s.standing := by simp [State.readMember]

@[simp] theorem deliverOrder_standing (id : U16) (target : Cycle) (g : Nat) : (s.deliverOrder id target g).standing = s.standing := by
  unfold State.deliverOrder
  refine foldl_standing (fun t x => ?_) _ _
  (repeat' split) <;> simp

@[simp] theorem holdOrder_standing (id : U16) (target : Cycle) (lead : Nat) : (s.holdOrder id target lead).standing = s.standing := by
  simp [State.holdOrder]

@[simp] theorem issueOrder_standing (id : U16) (target : Cycle) (lead : Nat) : (s.issueOrder id target lead).standing = s.standing := by
  simp [State.issueOrder]

theorem tryOrder_standing {s t : State} {c : Cycle} (e : s.tryOrder c = .ok t) : t.standing = s.standing := by
  simp only [State.tryOrder] at e
  (repeat' split at e) <;> cases e
  next ha => simp [armLatch_standing ha]

@[simp] theorem orderOrSkip_standing (s : State) (c : Cycle) : (s.orderOrSkip c).standing = s.standing := by
  unfold State.orderOrSkip
  split
  next h =>
    split at h
    · cases h
    · exact tryOrder_standing h
  · simp

@[simp] theorem execLatchOrderIssue_standing : LeavesStanding s (execLatchOrderIssue s) := by simp [execLatchOrderIssue]

@[simp] theorem latchNowCmd_standing (s : State) (r : Req) (a : Bytes) : (s.latchNowCmd r a).standing = s.standing := by
  refine command_standing _ _ _ _ fun i => ?_
  dsimp only
  (repeat' split) <;> try rfl
  next h => exact tryOrder_standing h

@[simp] theorem execLatchNow_standing (r : Req) (arg : Bytes) : LeavesStanding s (execLatchNow r arg s) := by simp [execLatchNow]

@[simp] theorem execArmAbandon_standing : LeavesStanding s (execArmAbandon s) := by simp [execArmAbandon]

@[simp] theorem execSetCycleUnicast_standing (handle : Handle) :
    LeavesStanding s (execSetCycleUnicast handle s) := by simp [execSetCycleUnicast]

@[simp] theorem dropMismatched_standing (s : State) (i : U16) (o : Order) (g : Nat) : (s.dropMismatched i o g).standing = s.standing := by
  unfold State.dropMismatched
  split
  · rfl
  · refine foldl_standing (fun t h => ?_) _ _
    (repeat' split) <;> simp

@[simp] theorem tryComplete_standing (s : State) (i : U16) (g : Nat) : (s.tryComplete i g).standing = s.standing := by
  simp only [State.tryComplete]
  (repeat' split) <;> simp

@[simp] theorem execLatchRecordComplete_standing (target : BitVec 40) : LeavesStanding s (execLatchRecordComplete target s) := by
  simp [execLatchRecordComplete]

@[simp] theorem noteAlign_standing (h : Nat) (id : U16) (status : U8) (cycle : Cycle) (al : Option LatchAlign) :
    (s.noteAlign h id status cycle al).standing = s.standing := by
  simp [State.noteAlign]

@[simp] theorem noteLatch_standing (h : Nat) (id : U16) (status : U8) (cycle : Cycle) (al : Option LatchAlign) :
    (s.noteLatch h id status cycle al).standing = s.standing := by
  unfold State.noteLatch
  (repeat' split) <;> simp

@[simp] theorem recordAnswer_standing (h : Nat) (o : Order) (a : Answer2) (cycle : Option Cycle) :
    (s.recordAnswer h o a cycle).standing = s.standing := by
  simp [State.recordAnswer]

@[simp] theorem armRemote_standing (h : Nat) (o : Order) (count : Cycle) (acceptedAt : Nat) :
    (s.armRemote h o count acceptedAt).standing = s.standing := by
  simp [State.armRemote]

@[simp] theorem latchedAnswer_standing (h : Nat) (id : U16) (status : U8) (cycle : Cycle) (regs : Regs) :
    (s.latchedAnswer h id status cycle regs).standing = s.standing := by
  unfold State.latchedAnswer
  (repeat' split) <;> simp

@[simp] theorem answered_standing (h acceptedAt : Nat) (al : Option LatchAlign) (a : LatchAns) :
    (s.answered h acceptedAt al a).standing = s.standing := by
  simp only [State.answered]
  (repeat' split) <;> simp

@[simp] theorem execLatchAnswer_standing (handle : Handle) (seq : U64) (align : Option LatchAlign) (a : LatchAns) :
    LeavesStanding s (execLatchAnswer handle seq align a s) := by
  unfold execLatchAnswer
  (repeat' split) <;> simp

@[simp] theorem execLatchReportWait_standing : LeavesStanding s (execLatchReportWait s) := by simp [execLatchReportWait]

@[simp] theorem incompleteLatch_standing (o : Order) (g : Nat) : (s.incompleteLatch o g).standing = s.standing := by
  simp [State.incompleteLatch]

@[simp] theorem execLatchDeadline_standing : LeavesStanding s (execLatchDeadline s) := by simp [execLatchDeadline]

@[simp] theorem scoreMembers_standing (s : State) (g : Nat) (l : List Nat) : (s.scoreMembers g l).standing = s.standing := by
  simp only [State.scoreMembers]
  split
  · rw [foldl_standing fun t h => setMember_standing _ _ _]
  · rw [foldl_standing fun t p => ?_, foldl_standing fun t h => setMember_standing _ _ _]
    (repeat' split) <;> simp

@[simp] theorem scoreUnmetered_standing (g : Nat) : (s.scoreUnmetered g).standing = s.standing := by simp [State.scoreUnmetered]

@[simp] theorem saveModel_standing (g : Nat) : (s.saveModel g).standing = s.standing := by simp [State.saveModel]

@[simp] theorem modelReset_standing (g : Nat) : (s.modelReset g).standing = s.standing := by simp [State.modelReset]

@[simp] theorem updateModel_standing (g : Nat) (i : Interval) (reads : List Nat) : (s.updateModel g i reads).standing = s.standing := by
  simp [State.updateModel]

@[simp] theorem takeLatch_standing (g : Nat) (k : SegLatch) : (s.takeLatch g k).standing = s.standing := by
  simp only [State.takeLatch]
  (repeat' split) <;> simp

@[simp] theorem bringModel_standing (g : Nat) : (s.bringModel g).standing = s.standing := by simp [State.bringModel]

@[simp] theorem execSegmentUpdate_standing (segment : BitVec 12) : LeavesStanding s (execSegmentUpdate segment s) := by
  simp only [execSegmentUpdate]
  (repeat' split) <;> simp

@[simp] theorem initSegment_standing (g : Nat) : (s.initSegment g).standing = s.standing := by simp [State.initSegment]

@[simp] theorem resetModelCmd_standing (r : Req) (arg : Bytes) : (s.resetModelCmd r arg).standing = s.standing := by
  simp [State.resetModelCmd]

@[simp] theorem execResetModel_standing (r : Req) (arg : Bytes) : LeavesStanding s (execResetModel r arg s) := by simp [execResetModel]

@[simp] theorem touchSegment_standing (g : Nat) (reinit : Bool) : (s.touchSegment g reinit).standing = s.standing := by
  simp [State.touchSegment]

@[simp] theorem restoreModels_standing : s.restoreModels.standing = s.standing := by
  unfold State.restoreModels
  refine foldl_standing (fun t x => ?_) _ _
  (repeat' split) <;> simp

/-! ### Billing -/

@[simp] theorem setMbill_standing (h : Nat) (f : MeterBill → MeterBill) : (s.setMbill h f).standing = s.standing := by
  simp [State.setMbill]

@[simp] theorem openAt_standing (legal : Int) (flags : U16) : (s.openAt legal flags).standing = s.standing := by simp [State.openAt]

@[simp] theorem openNow_standing (flags : U16) : (s.openNow flags).standing = s.standing := by simp [State.openNow]

@[simp] theorem closeIval_standing (at_ legal : Int) (flags : U16) (edge : Bool) :
    (s.closeIval at_ legal flags edge).standing = s.standing := by
  simp [State.closeIval]

@[simp] theorem setLedger_standing (h : Nat) (f : Ledger → Ledger) : (s.setLedger h f).standing = s.standing := by simp [State.setLedger]

@[simp] theorem enterSpan_standing (h : Nat) (sp : Span) (sign : Int) : (s.enterSpan h sp sign).standing = s.standing := by
  simp [State.enterSpan]

@[simp] theorem layDown_standing (h : Nat) (sp : Span) : (s.layDown h sp).standing = s.standing := by simp [State.layDown]

@[simp] theorem reflag_standing (h : Nat) (ks : List Nat) : (s.reflag h ks).standing = s.standing := by simp [State.reflag]

@[simp] theorem demandAt_standing (h k : Nat) (i : Ival) : (s.demandAt h k i).standing = s.standing := by
  unfold State.demandAt
  (repeat' split) <;> simp

@[simp] theorem demandTo_standing (h : Nat) (upto : Int) : (s.demandTo h upto).standing = s.standing := by simp [State.demandTo]

@[simp] theorem finalise_standing (h : Nat) (ok : Hist → Bool) (flag : U16) : (s.finalise h ok flag).standing = s.standing := by
  simp [State.finalise]

@[simp] theorem applyForward_standing (h : Nat) (t0 at_ I E : Int) (clock : Bool) :
    (s.applyForward h t0 at_ I E clock).standing = s.standing := by
  simp [State.applyForward]

@[simp] theorem applyEarlier_standing (h : Nat) (at_ I E : Int) (clock : Bool) :
    (s.applyEarlier h at_ I E clock).standing = s.standing := by
  simp only [State.applyEarlier]
  (repeat' split) <;> simp

@[simp] theorem applyRegs_standing (h : Nat) (at_ I E : Int) (clock : Bool) : (s.applyRegs h at_ I E clock).standing = s.standing := by
  simp only [State.applyRegs]
  (repeat' split) <;> simp

@[simp] theorem markApplied_standing (h : Nat) (seq : U64) : (s.markApplied h seq).standing = s.standing := by simp [State.markApplied]

@[simp] theorem noteChanged_standing (h : Nat) : (s.noteChanged h).standing = s.standing := by simp [State.noteChanged]

@[simp] theorem applyRead_standing (e : JEntry) (kind : ReadKind) (regs : Regs) : (s.applyRead e kind regs).standing = s.standing := by
  simp [State.applyRead]

@[simp] theorem applyReading_standing (h : Nat) (seq : U64) (kind : ReadKind) (regs : Regs) :
    (s.applyReading h seq kind regs).standing = s.standing := by
  unfold State.applyReading
  (repeat' split) <;> simp

@[simp] theorem execReadingApply_standing (h : Handle) (q : U64) (k : ReadKind) (g : Regs) (s : State) :
    LeavesStanding s (execReadingApply h q k g s) := by
  simp only [execReadingApply, leavesStanding_next]
  apply crossing_standing
  split <;> simp

@[simp] theorem execMeterClockRead_standing (handle : Handle) (answer : Option (BitVec 32)) :
    LeavesStanding s (execMeterClockRead handle answer s) := by
  unfold execMeterClockRead
  (repeat' split) <;> simp

@[simp] theorem closeMeter_standing (h : Nat) (x : Hist) (at_ : Int) : (s.closeMeter h x at_).standing = s.standing := by
  simp [State.closeMeter]

@[simp] theorem closePeriod_standing (at_ : Int) (bmin passed : Nat) (flags : U16) :
    (s.closePeriod at_ bmin passed flags).standing = s.standing := by
  simp [State.closePeriod]

@[simp] theorem closeScheduled_standing (at_ : Int) (bmin : Nat) (flags : U16) :
    (s.closeScheduled at_ bmin flags).standing = s.standing := by
  simp [State.closeScheduled]

@[simp] theorem execBillingClose_standing : LeavesStanding s (execBillingClose s) := by simp [execBillingClose]

@[simp] theorem closeNowCmd_standing (r : Req) (arg : Bytes) : (s.closeNowCmd r arg).standing = s.standing := by simp [State.closeNowCmd]

@[simp] theorem execClosePeriodNow_standing (r : Req) (arg : Bytes) :
    LeavesStanding s (execClosePeriodNow r arg s) := by simp [execClosePeriodNow]

@[simp] theorem execPeriodGraceExpiry_standing : LeavesStanding s (execPeriodGraceExpiry s) := by simp [execPeriodGraceExpiry]

@[simp] theorem execDayBlockClose_standing (date : U16) : LeavesStanding s (execDayBlockClose date s) := by simp [execDayBlockClose]

/-! ### Updates -/

@[simp] theorem setFw_standing (kind slot : Nat) (f : FwSlot → FwSlot) : (s.setFw kind slot f).standing = s.standing := by
  simp [State.setFw]

@[simp] theorem beginDownload_standing (r : Req) (arg : Bytes) : (s.beginDownload r arg).standing = s.standing := by
  simp [State.beginDownload]

@[simp] theorem execBeginDownload_standing (r : Req) (arg : Bytes) :
    LeavesStanding s (execBeginDownload r arg s) := by simp [execBeginDownload]

@[simp] theorem imageBlock_standing (r : Req) (arg : Bytes) : (s.imageBlock r arg).standing = s.standing := by
  refine command_standing _ _ _ _ fun i => ?_
  dsimp only
  (repeat' split) <;> simp

@[simp] theorem execImageBlock_standing (r : Req) (arg : Bytes) : LeavesStanding s (execImageBlock r arg s) := by simp [execImageBlock]

@[simp] theorem finishDownload_standing (r : Req) (arg : Bytes) : (s.finishDownload r arg).standing = s.standing := by
  refine command_standing _ _ _ _ fun i => ?_
  dsimp only
  (repeat' split) <;> simp

@[simp] theorem execFinishDownload_standing (r : Req) (arg : Bytes) :
    LeavesStanding s (execFinishDownload r arg s) := by simp [execFinishDownload]

@[simp] theorem abandonDownload_standing (r : Req) (arg : Bytes) : (s.abandonDownload r arg).standing = s.standing := by
  refine command_standing _ _ _ _ fun i => ?_
  dsimp only
  (repeat' split) <;> simp

@[simp] theorem execAbandonDownload_standing (r : Req) (arg : Bytes) : LeavesStanding s (execAbandonDownload r arg s) := by
  simp [execAbandonDownload]

@[simp] theorem activateCmd_standing (r : Req) (arg : Bytes) : (s.activateCmd r arg).standing = s.standing := by simp [State.activateCmd]

@[simp] theorem execActivate_standing (r : Req) (arg : Bytes) : LeavesStanding s (execActivate r arg s) := by simp [execActivate]

@[simp] theorem beginTrial_standing (mask : Nat) : (s.beginTrial mask).standing = s.standing := by
  unfold State.beginTrial
  refine foldl_standing (fun t x => ?_) _ _
  simp

@[simp] theorem restoreBank_standing : s.restoreBank.standing = s.standing := by simp [State.restoreBank]

@[simp] theorem fallBack_standing (outcome : Nat) : (s.fallBack outcome).standing = s.standing := by
  unfold State.fallBack
  (repeat' split) <;> simp

@[simp] theorem advanceSvn_standing (kind v : Nat) (stuck : List Nat) : (s.advanceSvn kind v stuck).standing = s.standing := by
  simp [State.advanceSvn]

@[simp] theorem confirmKind_standing (k : Nat) (stuck : List Nat) : (s.confirmKind k stuck).standing = s.standing := by
  simp [State.confirmKind]

@[simp] theorem confirmHealth_standing (r : Req) (arg : Bytes) (stuck : List Nat) :
    (s.confirmHealth r arg stuck).standing = s.standing := by
  refine command_standing _ _ _ _ fun i => ?_
  dsimp only
  (repeat' split) <;> simp

@[simp] theorem execConfirmHealth_standing (r : Req) (arg : Bytes) (stuck : List Nat) :
    LeavesStanding s (execConfirmHealth r arg stuck s) := by
  simp [execConfirmHealth]

@[simp] theorem execHealthWindowExpiry_standing : LeavesStanding s (execHealthWindowExpiry s) := by
  unfold execHealthWindowExpiry
  (repeat' split) <;> simp

@[simp] theorem execConfigurationMigration_standing (values : List (ObjKey × Nat × Bytes)) (ok : Bool) :
    LeavesStanding s (execConfigurationMigration values ok s) := by
  unfold execConfigurationMigration
  (repeat' split) <;> simp

@[simp] theorem startKind_standing (bad : List (Nat × Nat)) (k : Nat) : (s.startKind bad k).standing = s.standing := by
  simp [State.startKind]

@[simp] theorem measureImages_standing : s.measureImages.standing = s.standing := by simp [State.measureImages]

@[simp] theorem startImages_standing (bad : List (Nat × Nat)) (warned : Bool) : (s.startImages bad warned).standing = s.standing := by
  simp only [State.startImages]
  (repeat' split) <;> simp

/-! ### Campaigns -/

@[simp] theorem setCamp_standing (c : Nat) (f : Campaign → Campaign) : (s.setCamp c f).standing = s.standing := by simp [State.setCamp]

@[simp] theorem setTarget_standing (c h : Nat) (f : Target → Target) : (s.setTarget c h f).standing = s.standing := by
  simp [State.setTarget]

@[simp] theorem campDone_standing (c : Nat) : (s.campDone c).standing = s.standing := by simp [State.campDone]

@[simp] theorem placeAll_standing : s.placeAll.standing = s.standing := by simp [State.placeAll]

@[simp] theorem failTarget_standing (c h reason : Nat) : (s.failTarget c h reason).standing = s.standing := by simp [State.failTarget]

@[simp] theorem toState_standing (c h st : Nat) : (s.toState c h st).standing = s.standing := by simp [State.toState]

@[simp] theorem kindWrite_standing (r : Req) (v : Bytes) : (s.kindWrite r v).standing = s.standing := by simp [State.kindWrite]

@[simp] theorem execCampaignKindWrite_standing (r : Req) (v : Bytes) : LeavesStanding s (execCampaignKindWrite r v s) := by
  simp [execCampaignKindWrite]

@[simp] theorem contentCmd_standing (r : Req) (arg : Bytes) : (s.contentCmd r arg).standing = s.standing := by simp [State.contentCmd]

@[simp] theorem execContentBlock_standing (r : Req) (arg : Bytes) :
    LeavesStanding s (execContentBlock r arg s) := by simp [execContentBlock]

@[simp] theorem forgetCampaign_standing (c : Nat) : (s.forgetCampaign c).standing = s.standing := by simp [State.forgetCampaign]

@[simp] theorem controlCmd_standing (r : Req) (arg : Bytes) : (s.controlCmd r arg).standing = s.standing := by
  refine command_standing _ _ _ _ fun i => ?_
  dsimp only
  (repeat' split) <;> simp

@[simp] theorem execVerify_standing (r : Req) : LeavesStanding s (execVerify r s) := by simp [execVerify]

@[simp] theorem execStart_standing (r : Req) : LeavesStanding s (execStart r s) := by simp [execStart]

@[simp] theorem execPause_standing (r : Req) : LeavesStanding s (execPause r s) := by simp [execPause]

@[simp] theorem execResume_standing (r : Req) : LeavesStanding s (execResume r s) := by simp [execResume]

@[simp] theorem execCancel_standing (r : Req) : LeavesStanding s (execCancel r s) := by simp [execCancel]

@[simp] theorem execDelete_standing (r : Req) : LeavesStanding s (execDelete r s) := by simp [execDelete]

@[simp] theorem targetsCmd_standing (r : Req) (num : Nat) (arg : Bytes) : (s.targetsCmd r num arg).standing = s.standing := by
  refine command_standing _ _ _ _ fun i => ?_
  dsimp only
  (repeat' split) <;> simp

@[simp] theorem execAddTargets_standing (r : Req) (arg : Bytes) : LeavesStanding s (execAddTargets r arg s) := by simp [execAddTargets]

@[simp] theorem execRemoveTargets_standing (r : Req) (arg : Bytes) :
    LeavesStanding s (execRemoveTargets r arg s) := by simp [execRemoveTargets]

@[simp] theorem passOn_standing (c p b k : Nat) : (s.passOn c p b k).standing = s.standing := by simp [State.passOn]

@[simp] theorem execCampaignMulticastTx_standing (campaign : Fin 64) (port : Fin 24) :
    LeavesStanding s (execCampaignMulticastTx campaign port s) := by
  simp only [execCampaignMulticastTx]
  (repeat' split) <;> simp

@[simp] theorem sendStep_standing (c h : Nat) (t0 : Target) : (s.sendStep c h t0).standing = s.standing := by simp [State.sendStep]

@[simp] theorem execCampaignUnicastStep_standing (campaign : Fin 64) (handle : Handle) :
    LeavesStanding s (execCampaignUnicastStep campaign handle s) := by
  simp only [execCampaignUnicastStep]
  (repeat' split) <;> simp

@[simp] theorem execCampaignResponse_standing (campaign : Fin 64) (handle : Handle) (a : CampAns) :
    LeavesStanding s (execCampaignResponse campaign handle a s) := by
  simp only [execCampaignResponse]
  (repeat' split) <;> simp

@[simp] theorem execCampaignAttemptTimeout_standing (campaign : Fin 64) (handle : Handle) :
    LeavesStanding s (execCampaignAttemptTimeout campaign handle s) := by
  simp only [execCampaignAttemptTimeout]
  (repeat' split) <;> simp

@[simp] theorem execCampaignActivationTime_standing (campaign : Fin 64) : LeavesStanding s (execCampaignActivationTime campaign s) := by
  simp [execCampaignActivationTime]

@[simp] theorem campaignsResume_standing : s.campaignsResume.standing = s.standing := by simp [State.campaignsResume]

@[simp] theorem campaignsForget_standing (h : Nat) : (s.campaignsForget h).standing = s.standing := by
  unfold State.campaignsForget
  refine foldl_standing (fun t x => ?_) _ _
  (repeat' split) <;> simp

@[simp] theorem execPartnerRemoval_standing (handle : Handle) :
    LeavesStanding s (execPartnerRemoval handle s) := by simp [execPartnerRemoval]

/-! ### Prepay -/

@[simp] theorem mirrorLedger_standing (h : Nat) : (s.mirrorLedger h).standing = s.standing := by simp [State.mirrorLedger]

@[simp] theorem tellCredit_standing (h : Nat) : (s.tellCredit h).standing = s.standing := by simp [State.tellCredit]

@[simp] theorem autoEc_standing (h : Nat) : (s.autoEc h).standing = s.standing := by simp [State.autoEc]

@[simp] theorem enterCredit_standing (h : Nat) (c : Credit) : (s.enterCredit h c).standing = s.standing := by
  unfold State.enterCredit
  (repeat' split) <;> simp

@[simp] theorem evalCredit_standing (h : Nat) : (s.evalCredit h).standing = s.standing := by simp [State.evalCredit]

@[simp] theorem changeLedger_standing (h : Nat) (f : Ledger → Ledger) : (s.changeLedger h f).standing = s.standing := by
  simp [State.changeLedger]

@[simp] theorem chargeDue_standing (h : Nat) : (s.chargeDue h).standing = s.standing := by simp [State.chargeDue]

@[simp] theorem execPrepayItem_standing (h : Handle) (s : State) : LeavesStanding s (execPrepayItem h s) := by
  simp only [execPrepayItem, leavesStanding_next]
  apply crossing_standing
  split <;> simp

@[simp] theorem showResults_standing : s.showResults.standing = s.standing := by
  unfold State.showResults
  refine foldl_standing (fun t x => ?_) _ _
  (repeat' split) <;> simp

@[simp] theorem recoverDebt_standing (h secs : Nat) : (s.recoverDebt h secs).standing = s.standing := by simp [State.recoverDebt]

@[simp] theorem timeCharges_standing : s.timeCharges.standing = s.standing := by simp [State.timeCharges]

@[simp] theorem sendDisconnect_standing (h : Nat) : (s.sendDisconnect h).standing = s.standing := by simp [State.sendDisconnect]

@[simp] theorem tryDisconnect_standing (h : Nat) : (s.tryDisconnect h).standing = s.standing := by
  simp only [State.tryDisconnect]
  (repeat' split) <;> simp

@[simp] theorem retest_standing : s.retest.standing = s.standing := by simp [State.retest]

@[simp] theorem execNoticeEnd_standing (handle : Handle) : LeavesStanding s (execNoticeEnd handle s) := by simp [execNoticeEnd]

@[simp] theorem execDisconnectIssue_standing (handle : Handle) :
    LeavesStanding s (execDisconnectIssue handle s) := by simp [execDisconnectIssue]

@[simp] theorem execRestorationHoldEnd_standing : LeavesStanding s (execRestorationHoldEnd s) := by simp [execRestorationHoldEnd]

@[simp] theorem execFriendlyHoursChange_standing : LeavesStanding s (execFriendlyHoursChange s) := by simp [execFriendlyHoursChange]

@[simp] theorem execDisconnectConfirmTimeout_standing (handle : Handle) : LeavesStanding s (execDisconnectConfirmTimeout handle s) := by
  simp only [execDisconnectConfirmTimeout]
  (repeat' split) <;> simp

@[simp] theorem sendReconnect_standing (h : Nat) : (s.sendReconnect h).standing = s.standing := by simp [State.sendReconnect]

@[simp] theorem execReconnectIssue_standing (handle : Handle) :
    LeavesStanding s (execReconnectIssue handle s) := by simp [execReconnectIssue]

@[simp] theorem outputOff_standing (h : Nat) : (s.outputOff h).standing = s.standing := by simp [State.outputOff]

@[simp] theorem outputOn_standing (h : Nat) : (s.outputOn h).standing = s.standing := by simp [State.outputOn]

@[simp] theorem execOutputStateResponse_standing (handle : Handle) (a : OutputAns) :
    LeavesStanding s (execOutputStateResponse handle a s) := by
  unfold execOutputStateResponse
  (repeat' split) <;> simp

@[simp] theorem applyTransfer_standing (h : Nat) (arg : Bytes) : (s.applyTransfer h arg).standing = s.standing := by
  simp [State.applyTransfer]

@[simp] theorem execCreditTransfer_standing (r : Req) (arg : Bytes) :
    LeavesStanding s (execCreditTransfer r arg s) := by simp [execCreditTransfer]

@[simp] theorem execRequestEmergencyCredit_standing (r : Req) (arg : Bytes) : LeavesStanding s (execRequestEmergencyCredit r arg s) := by
  simp [execRequestEmergencyCredit]

@[simp] theorem execMeterEcRequest_standing (handle : Handle) (code : U16) : LeavesStanding s (execMeterEcRequest handle code s) := by
  simp [execMeterEcRequest]

@[simp] theorem execAdjustDebt_standing (r : Req) (arg : Bytes) : LeavesStanding s (execAdjustDebt r arg s) := by simp [execAdjustDebt]

/-! ### Loads -/

@[simp] theorem setLgroup_standing (g : Nat) (f : LoadGroup → LoadGroup) : (s.setLgroup g f).standing = s.standing := by
  simp [State.setLgroup]

@[simp] theorem setRelay_standing (r : Nat) (f : Relay → Relay) : (s.setRelay r f).standing = s.standing := by simp [State.setRelay]

@[simp] theorem commandRelay_standing (r : Nat) (t : Bool) : (s.commandRelay r t).standing = s.standing := by
  unfold State.commandRelay
  (repeat' split) <;> simp

@[simp] theorem execRelaySwitch_standing (r : Fin 8) : LeavesStanding s (execRelaySwitch r s) := by
  unfold execRelaySwitch
  (repeat' split) <;> simp

@[simp] theorem commandGroup_standing (g : Nat) (t : Bool) : (s.commandGroup g t).standing = s.standing := by simp [State.commandGroup]

@[simp] theorem scheduleGroup_standing (g : Nat) (t : Bool) : (s.scheduleGroup g t).standing = s.standing := by
  simp [State.scheduleGroup]

@[simp] theorem heatMinute_standing (g : Nat) : (s.heatMinute g).standing = s.standing := by simp [State.heatMinute]

@[simp] theorem scheduleMinute_standing (g : Nat) (releases : Bool) : (s.scheduleMinute g releases).standing = s.standing := by
  simp [State.scheduleMinute]

@[simp] theorem storeHeat_standing : s.storeHeat.standing = s.standing := by simp [State.storeHeat]

@[simp] theorem execLoadgroupMinute_standing (s : State) : LeavesStanding s (execLoadgroupMinute s) := by
  have h (t : State) : (if 10 ≤ t.bill.hMinutes then t.storeHeat else t).standing = t.standing := by simp
  have h1 : (s.enabledGroups.foldl (fun t g => t.heatMinute g) s).standing = s.standing :=
    foldl_standing (fun t g => heatMinute_standing _ _) _ _
  rw [execLoadgroupMinute, leavesStanding_next, standing_ite, foldl_standing (fun t g => scheduleMinute_standing _ _ _), h, standing_keep, h1,
    ite_self]

@[simp] theorem manualBody_standing (n g : Nat) : (manualBody n g s).state.standing = s.standing := by simp [manualBody]

@[simp] theorem manualCmd_standing (r : Req) (arg : Bytes) : (s.manualCmd r arg).standing = s.standing := by simp [State.manualCmd]

@[simp] theorem execManualOn_standing (r : Req) : LeavesStanding s (execManualOn r s) := by simp [execManualOn]

@[simp] theorem execManualOff_standing (r : Req) : LeavesStanding s (execManualOff r s) := by simp [execManualOff]

@[simp] theorem execBackToSchedule_standing (r : Req) : LeavesStanding s (execBackToSchedule r s) := by simp [execBackToSchedule]

@[simp] theorem commandMember_standing (g h : Nat) : (s.commandMember g h).standing = s.standing := by simp [State.commandMember]

@[simp] theorem execGroupMemberCommand_standing (group : Fin 32) (acked : List Handle) :
    LeavesStanding s (execGroupMemberCommand group acked s) := by
  simp [execGroupMemberCommand]

@[simp] theorem holdGroups_standing : s.holdGroups.standing = s.standing := by simp [State.holdGroups]

@[simp] theorem execLoadgroupRelease_standing (s : State) : LeavesStanding s (execLoadgroupRelease s) := by
  unfold execLoadgroupRelease
  extract_lets held ready s1
  have h : s1.standing = s.standing := foldl_standing (fun t g => setLgroup_standing _ _ _) _ _
  rw [leavesStanding_next]
  split
  · rfl
  · split
    · exact h
    · simp only [raise_standing, commandGroup_standing, setLgroup_standing, h]

@[simp] theorem loadTrigger_standing (arg : Nat) : (s.loadTrigger arg).standing = s.standing := by simp [State.loadTrigger]

@[simp] theorem relaysFollow_standing : s.relaysFollow.standing = s.standing := by simp [State.relaysFollow]

@[simp] theorem relaysBack_standing : s.relaysBack.standing = s.standing := by simp [State.relaysBack]

@[simp] theorem relaysOff_standing : s.relaysOff.standing = s.standing := by simp [State.relaysOff]

/-! ### Outage -/

@[simp] theorem intervalEnd_standing (legal : Int) : (s.intervalEnd legal).standing = s.standing := by
  unfold State.intervalEnd
  (repeat' split) <;> simp

@[simp] theorem switchesAt_standing (at_ : Int) (bmin : Nat) (flags : U16) : (s.switchesAt at_ bmin flags).standing = s.standing := by
  simp [State.switchesAt]

@[simp] theorem boundaryEvents_standing (legal : Int) : (s.boundaryEvents legal).standing = s.standing := by simp [State.boundaryEvents]

@[simp] theorem billWarning_standing : s.billWarning.standing = s.standing := by simp [State.billWarning]

@[simp] theorem execProfileIntervalEnd_standing : LeavesStanding s (execProfileIntervalEnd s) := by simp [execProfileIntervalEnd]

@[simp] theorem splitTime_standing (a old new_ : Int) : (s.splitTime a old new_).standing = s.standing := by simp [State.splitTime]

@[simp] theorem absorb_standing (a new_ : Int) : (s.absorb a new_).standing = s.standing := by simp [State.absorb]

@[simp] theorem execClockAdj_standing : LeavesStanding s (execClockAdj s) := by
  unfold execClockAdj
  (repeat' split) <;> simp

@[simp] theorem restoreMinute_standing (upto at_ : Int) : (s.restoreMinute upto at_).standing = s.standing := by
  simp [State.restoreMinute]

@[simp] theorem restoreMinutes_standing (u a : Int) (n : Nat) (s : State) : (s.restoreMinutes u a n).standing = s.standing := by
  induction n generalizing s a with
  | zero => rfl
  | succ n ih =>
    simp only [State.restoreMinutes]
    split <;> simp [ih]

@[simp] theorem openRestored_standing (from_ : Int) : (s.openRestored from_).standing = s.standing := by simp [State.openRestored]

@[simp] theorem afterOutage_standing (w t1 : Int) : (s.afterOutage w t1).standing = s.standing := by simp [State.afterOutage]

@[simp] theorem execOutageRestoration_standing : LeavesStanding s (execOutageRestoration s) := by
  unfold execOutageRestoration
  (repeat' split) <;> simp

/-! ### Tamper -/

@[simp] theorem tamperRecord_standing (edge input : Nat) : (s.tamperRecord edge input).standing = s.standing := by
  simp [State.tamperRecord]

@[simp] theorem execTamperEdge_standing (input : Fin 2) (opened : Bool) : LeavesStanding s (execTamperEdge input opened s) := by
  simp [execTamperEdge]

@[simp] theorem copyTamper_standing (x : TamperRec) : (s.copyTamper x).standing = s.standing := by simp [State.copyTamper]

@[simp] theorem execTamperLogCopy_standing : LeavesStanding s (execTamperLogCopy s) := by simp [execTamperLogCopy]

@[simp] theorem execClearTamperLatches_standing (r : Req) (a : Bytes) (s : State) : LeavesStanding s (execClearTamperLatches r a s) := by
  rw [execClearTamperLatches, leavesStanding_next]
  refine command_standing _ _ _ _ fun i => ?_
  dsimp only
  simp

@[simp] theorem showItem_standing (i : Nat) : (s.showItem i).standing = s.standing := by simp [State.showItem]

@[simp] theorem nextItem_standing : s.nextItem.standing = s.standing := by simp [State.nextItem]

@[simp] theorem execDisplayDwellExpiry_standing : LeavesStanding s (execDisplayDwellExpiry s) := by simp [execDisplayDwellExpiry]

@[simp] theorem execBtnNextPress_standing : LeavesStanding s (execBtnNextPress s) := by simp [execBtnNextPress]

@[simp] theorem execBtnNextHold_standing : LeavesStanding s (execBtnNextHold s) := by simp [execBtnNextHold]

@[simp] theorem execBtnHoldPress_standing : LeavesStanding s (execBtnHoldPress s) := by simp [execBtnHoldPress]

@[simp] theorem execHoldLimitExpiry_standing : LeavesStanding s (execHoldLimitExpiry s) := by simp [execHoldLimitExpiry]

/-! ### Checkpoint -/

@[simp] theorem startCheckpoint_standing : s.startCheckpoint.standing = s.standing := by
  unfold State.startCheckpoint
  (repeat' split) <;> simp

@[simp] theorem keepContext_standing (h : Nat) : (s.keepContext h).standing = s.standing := by
  unfold State.keepContext
  (repeat' split) <;> simp

@[simp] theorem retire_standing (l : List U64) : (s.retire l).standing = s.standing := by simp [State.retire]

@[simp] theorem reclaimLog_standing (q : U64) : (s.reclaimLog q).standing = s.standing := by simp [State.reclaimLog]

@[simp] theorem execCheckpointCommit_standing (u : U16) (b : Bool) (s : State) : LeavesStanding s (execCheckpointCommit u b s) := by
  rw [execCheckpointCommit, leavesStanding_next]
  split
  · rfl
  · extract_lets q s1 s2 s3
    have h : s1.standing = s.standing := foldl_standing (fun t i => program_standing _ _ _ _ _ _) _ _
    split
    · exact h
    · rw [retryAppends_standing, reclaimLog_standing, retire_standing]
      exact h

@[simp] theorem replay_standing (s : State) : s.replay.standing = s.standing := by
  rw [State.replay, schedule_standing]
  exact foldl_standing (fun t e => by rw [standing_keep]) _ _

@[simp] theorem effectsUndone_standing : s.effectsUndone.standing = s.standing := by simp [State.effectsUndone]

@[simp] theorem execStateRestore_standing : LeavesStanding s (execStateRestore s) := by simp [execStateRestore]

@[simp] theorem judgeRun_standing (core : Nat) : (s.judgeRun core).2.standing = s.standing := by
  unfold State.judgeRun
  (repeat' split) <;> simp

@[simp] theorem execDone_standing (core : Fin 4) (wants : List (BitVec 12 × U8 × Handle × U64)) :
    LeavesStanding s (execDone core wants s) := by
  simp [execDone]

@[simp] theorem execFail_standing (core : Fin 4) : LeavesStanding s (execFail core s) := by simp [execFail]

/-! ### Crossing -/

@[simp] theorem latchAwaited_standing (num : Cycle) (stamp : Nat) : (s.latchAwaited num stamp).standing = s.standing := by
  simp [State.latchAwaited]

@[simp] theorem enterCrossing_standing (num : Cycle) (stamp : Nat) (estimated predicted relock : Bool) :
    (s.enterCrossing num stamp estimated predicted relock).standing = s.standing := by
  simp [State.enterCrossing]

@[simp] theorem relock_standing (last stamp : Nat) : (s.relock last stamp).standing = s.standing := by simp [State.relock]

@[simp] theorem disturbedA_standing : s.disturbedA.standing = s.standing := by simp [State.disturbedA]

@[simp] theorem crossingA_standing (stamp : Nat) : (s.crossingA stamp).standing = s.standing := by
  unfold State.crossingA
  (repeat' split) <;> simp

@[simp] theorem keepOffset_standing (ph stamp : Nat) : (s.keepOffset ph stamp).standing = s.standing := by
  unfold State.keepOffset
  (repeat' split) <;> simp

@[simp] theorem crossingPhase_standing (ph stamp : Nat) : (s.crossingPhase ph stamp).standing = s.standing := by
  simp [State.crossingPhase]

@[simp] theorem execZcCrossing_standing (input : Fin 3) (stamp width : Nat) : LeavesStanding s (execZcCrossing input stamp width s) := by
  simp [execZcCrossing]

@[simp] theorem enterPredicted_standing (next : Tracker) (run last : Nat) : (s.enterPredicted next run last).standing = s.standing := by
  simp [State.enterPredicted]

@[simp] theorem execZcPredictedCrossing_standing : LeavesStanding s (execZcPredictedCrossing s) := by
  unfold execZcPredictedCrossing
  (repeat' split) <;> simp

@[simp] theorem setEpoch_standing (n : Cycle) : (s.setEpoch n).standing = s.standing := by simp [State.setEpoch]

@[simp] theorem setEpochCmd_standing (r : Req) (arg : Bytes) : (s.setEpochCmd r arg).standing = s.standing := by simp [State.setEpochCmd]

@[simp] theorem execSetCycleEpoch_standing (r : Req) (arg : Bytes) :
    LeavesStanding s (execSetCycleEpoch r arg s) := by simp [execSetCycleEpoch]

/-! ### Nvme -/

@[simp] theorem nvDone_standing (c : NvCmd) (status : Nat) (data : Bytes) : (s.nvDone c status data).standing = s.standing := by
  simp [State.nvDone]

@[simp] theorem storageSlot_standing (n usage : Nat) (label : String) (extra : Bytes) :
    (s.storageSlot n usage label extra).standing = s.standing := by
  unfold State.storageSlot
  (repeat' split) <;> simp

@[simp] theorem hostKeys_standing : s.hostKeys.standing = s.standing := by simp [State.hostKeys]

@[simp] theorem storageKeys_standing : s.storageKeys.standing = s.standing := by simp [State.storageKeys]

@[simp] theorem programBuffer_standing : s.programBuffer.standing = s.standing := by simp [State.programBuffer]

@[simp] theorem execWriteBufferProgram_standing : LeavesStanding s (execWriteBufferProgram s) := by simp [execWriteBufferProgram]

@[simp] theorem nvHold_standing (i : Instr) : (s.nvHold i).standing = s.standing := by simp [State.nvHold]

@[simp] theorem nvRun_standing (s : State) (c : NvCmd) (i : Instr) {t : State} (h : t.standing = s.standing) :
    (s.nvRun c i t).standing = s.standing := by
  simp [State.nvRun, h]

@[simp] theorem readLba_standing (lba : Nat) : (s.readLba lba).2.standing = s.standing := by
  unfold State.readLba
  (repeat' split) <;> simp

@[simp] theorem execNvmeRead_standing (c : NvCmd) (lba : Nat) (n : U16) (u : Bool) (s : State) :
    LeavesStanding s (execNvmeRead c lba n u s) := by
  rw [execNvmeRead, leavesStanding_next]
  apply nvRun_standing
  split
  · simp
  · dsimp only
    (repeat' split) <;> simp only [nvDone_standing]
    exact foldl_kept (f := fun (a : Bytes × State) i => (a.1 ++ (a.2.readLba (lba + i)).1, (a.2.readLba (lba + i)).2))
      (fun a : Bytes × State => a.2.standing) (fun a i => readLba_standing _ _) _ _

@[simp] theorem bufferWrite_standing (lba : Nat) (data : Bytes) : (s.bufferWrite lba data).standing = s.standing := by
  simp [State.bufferWrite]

@[simp] theorem execNvmeWrite_standing (c : NvCmd) (lba : Nat) (d : List Bytes) (f : Bool) (s : State) :
    LeavesStanding s (execNvmeWrite c lba d f s) := by
  rw [execNvmeWrite, leavesStanding_next]
  apply nvRun_standing
  (repeat' split) <;> simp

@[simp] theorem execNvmeFlush_standing (c : NvCmd) (s : State) : LeavesStanding s (execNvmeFlush c s) := by
  rw [execNvmeFlush, leavesStanding_next]
  apply nvRun_standing
  split <;> simp

@[simp] theorem unmapLba_standing (lba : Nat) : (s.unmapLba lba).standing = s.standing := by simp [State.unmapLba]

@[simp] theorem execNvmeDatasetManagement_standing (c : NvCmd) (d : Bool) (l : List (Nat × Nat)) (s : State) :
    LeavesStanding s (execNvmeDatasetManagement c d l s) := by
  rw [execNvmeDatasetManagement, leavesStanding_next]
  apply nvRun_standing
  (repeat' split) <;> simp

@[simp] theorem eraseVolume_standing : s.eraseVolume.standing = s.standing := by simp [State.eraseVolume]

@[simp] theorem execNvmeFormat_standing (c : NvCmd) (ses : Nat) : LeavesStanding s (execNvmeFormat c ses s) := by simp [execNvmeFormat]

@[simp] theorem execNvmeIdentify_standing (c : NvCmd) (cns : Nat) :
    LeavesStanding s (execNvmeIdentify c cns s) := by simp [execNvmeIdentify]

@[simp] theorem execNvmeGetLogPage_standing (c : NvCmd) (lid : Nat) :
    LeavesStanding s (execNvmeGetLogPage c lid s) := by simp [execNvmeGetLogPage]

@[simp] theorem grantHmb_standing (enable : Bool) (mib : Nat) : (s.grantHmb enable mib).standing = s.standing := by simp [State.grantHmb]

@[simp] theorem execNvmeSetFeatures_standing (c : NvCmd) (fid value : Nat) : LeavesStanding s (execNvmeSetFeatures c fid value s) := by
  simp [execNvmeSetFeatures]

@[simp] theorem execNvmeGetFeatures_standing (c : NvCmd) (fid : Nat) : LeavesStanding s (execNvmeGetFeatures c fid s) := by
  simp [execNvmeGetFeatures]

@[simp] theorem execNvmeCreateIoQueue_standing (c : NvCmd) (completion : Bool) (id size cq : Nat) :
    LeavesStanding s (execNvmeCreateIoQueue c completion id size cq s) := by
  simp [execNvmeCreateIoQueue]

@[simp] theorem execNvmeDeleteIoQueue_standing (c : NvCmd) (completion : Bool) (id : Nat) :
    LeavesStanding s (execNvmeDeleteIoQueue c completion id s) := by
  simp [execNvmeDeleteIoQueue]

@[simp] theorem execNvmeAbort_standing (c : NvCmd) (queue cid : Nat) :
    LeavesStanding s (execNvmeAbort c queue cid s) := by simp [execNvmeAbort]

@[simp] theorem nvEvent_standing (info logPage : Nat) : (s.nvEvent info logPage).standing = s.standing := by
  simp only [State.nvEvent]
  (repeat' split) <;> simp

@[simp] theorem execAsynchronousEventRequest_standing (c : NvCmd) (s : State) : LeavesStanding s (execAsynchronousEventRequest c s) := by
  rw [execAsynchronousEventRequest, leavesStanding_next]
  apply nvRun_standing
  split <;> simp

@[simp] theorem execNvmeInvalidOpcode_standing (c : NvCmd) (s : State) : LeavesStanding s (execNvmeInvalidOpcode c s) := by
  rw [execNvmeInvalidOpcode, leavesStanding_next]
  exact nvRun_standing _ _ _ (nvDone_standing _ _ _ _)

@[simp] theorem execNvmeControllerEnable_standing (en : Bool) : LeavesStanding s (execNvmeControllerEnable en s) := by
  simp [execNvmeControllerEnable]

@[simp] theorem hostVolume_standing (erase : Bool) : (s.hostVolume erase).standing = s.standing := by simp [State.hostVolume]

@[simp] theorem execHmbMapFetch_standing (page : U16) (content : Bytes) : LeavesStanding s (execHmbMapFetch page content s) := by
  simp [execHmbMapFetch]

/-! ### Pair -/

@[simp] theorem setPair_standing (f : PairState → PairState) : (s.setPair f).standing = s.standing := by simp [State.setPair]

@[simp] theorem dropHandover_standing : s.dropHandover.standing = s.standing := by
  unfold State.dropHandover
  (repeat' split) <;> simp

@[simp] theorem giveUp_standing : s.giveUp.standing = s.standing := by simp [State.giveUp]

@[simp] theorem evalHealth_standing : s.evalHealth.standing = s.standing := by simp [State.evalHealth]

@[simp] theorem execHealthEvaluation_standing : LeavesStanding s (execHealthEvaluation s) := by simp [execHealthEvaluation]

@[simp] theorem forceZero_standing (fault : U32) : (s.forceZero fault).standing = s.standing := by simp [State.forceZero]

@[simp] theorem execLeaseExpiry_standing : LeavesStanding s (execLeaseExpiry s) := by simp [execLeaseExpiry]

@[simp] theorem enterLineFault_standing : s.enterLineFault.standing = s.standing := by simp [State.enterLineFault]

@[simp] theorem execClaimLineStuck_standing : LeavesStanding s (execClaimLineStuck s) := by simp [execClaimLineStuck]

@[simp] theorem followLedgers_standing : s.followLedgers.standing = s.standing := by simp [State.followLedgers]

@[simp] theorem becomeActive_standing : s.becomeActive.standing = s.standing := by simp [State.becomeActive]

@[simp] theorem takeOver_standing (cause : Nat) : (s.takeOver cause).standing = s.standing := by simp [State.takeOver]

@[simp] theorem enterSyncing_standing : s.enterSyncing.standing = s.standing := by simp [State.enterSyncing]

@[simp] theorem roundRole_standing (won : Bool) (partnerClaim : Nat) (fresh : Bool) :
    (s.roundRole won partnerClaim fresh).standing = s.standing := by
  unfold State.roundRole
  (repeat' split) <;> simp

@[simp] theorem execClaimRound_standing (partner : Option (U8 × Bool × U8)) (fresh : Bool) :
    LeavesStanding s (execClaimRound partner fresh s) := by
  simp [execClaimRound]

@[simp] theorem execPairStartWindowExpiry_standing : LeavesStanding s (execPairStartWindowExpiry s) := by simp [execPairStartWindowExpiry]

@[simp] theorem sendHeartbeat_standing : s.sendHeartbeat.standing = s.standing := by simp [State.sendHeartbeat]

@[simp] theorem execHeartbeatTx_standing : LeavesStanding s (execHeartbeatTx s) := by simp [execHeartbeatTx]

@[simp] theorem checkPartner_standing (h : Heartbeat) : (s.checkPartner h).standing = s.standing := by
  simp only [State.checkPartner]
  (repeat' split) <;> simp

@[simp] theorem checkSplit_standing (h : Heartbeat) : (s.checkSplit h).standing = s.standing := by
  unfold State.checkSplit
  (repeat' split) <;> simp

@[simp] theorem handedOver_standing (who : Option Req) : (s.handedOver who).standing = s.standing := by
  unfold State.handedOver
  (repeat' split) <;> simp

@[simp] theorem retestFormed_standing (before : State) : (s.retestFormed before).standing = s.standing := by simp [State.retestFormed]

@[simp] theorem execHeartbeatRx_standing (h : Heartbeat) (s : State) : LeavesStanding s (execHeartbeatRx h s) := by
  simp only [execHeartbeatRx, leavesStanding_next]
  (repeat' split) <;> simp

@[simp] theorem handOverCmd_standing (r : Req) (arg : Bytes) : (s.handOverCmd r arg).standing = s.standing := by simp [State.handOverCmd]

@[simp] theorem execHandOver_standing (r : Req) (arg : Bytes) : LeavesStanding s (execHandOver r arg s) := by simp [execHandOver]

@[simp] theorem execHandoverTimeout_standing : LeavesStanding s (execHandoverTimeout s) := by
  unfold execHandoverTimeout
  (repeat' split) <;> simp

@[simp] theorem execPairYield_standing : LeavesStanding s (execPairYield s) := by
  unfold execPairYield
  (repeat' split) <;> simp

@[simp] theorem execPairLost_standing : LeavesStanding s (execPairLost s) := by
  simp only [execPairLost]
  (repeat' split) <;> simp

@[simp] theorem execMirrorRetransmit_standing (s : State) : LeavesStanding s (execMirrorRetransmit s) := by
  rw [execMirrorRetransmit, leavesStanding_next]
  split
  · exact foldl_standing (fun t m => emit_standing _ _) _ _
  · rfl

@[simp] theorem execGratuitousArp_standing : LeavesStanding s (execGratuitousArp s) := by simp [execGratuitousArp]

/-! ### Triggers -/

@[simp] theorem setTrig_standing (n : Nat) (f : Trigger → Trigger) : (s.setTrig n f).standing = s.standing := by simp [State.setTrig]

@[simp] theorem armCmd_standing (r : Req) (n : Nat) (arg : Bytes) : (s.armCmd r n arg).standing = s.standing := by simp [State.armCmd]

@[simp] theorem execArm_standing (r : Req) (n : Fin 32) : LeavesStanding s (execArm r n s) := by simp [execArm]

@[simp] theorem execDisarm_standing (r : Req) (n : Fin 32) : LeavesStanding s (execDisarm r n s) := by simp [execDisarm]

@[simp] theorem latchByTrigger_standing (n : Nat) : (s.latchByTrigger n).standing = s.standing := by simp [State.latchByTrigger]

@[simp] theorem fire_standing (n at_ : Nat) (late : Bool) : (s.fire n at_ late).standing = s.standing := by
  unfold State.fire
  (repeat' split) <;> simp

@[simp] theorem execTriggerFire_standing (n : Fin 32) (at_ : Nat) : LeavesStanding s (execTriggerFire n at_ s) := by
  simp only [execTriggerFire]
  (repeat' split) <;> simp

@[simp] theorem fireCrossed_standing (to_ : Nat) : (s.fireCrossed to_).standing = s.standing := by simp [State.fireCrossed]

/-! ### Sync -/

@[simp] theorem setTime_standing (f : TimeState → TimeState) : (s.setTime f).standing = s.standing := by simp [State.setTime]

@[simp] theorem stepTime_standing (off : Int) : (s.stepTime off).standing = s.standing := by simp [State.stepTime]

@[simp] theorem correct_standing (off : Int) : (s.correct off).standing = s.standing := by simp [State.correct]

@[simp] theorem acquire_standing (off : Int) : (s.acquire off).standing = s.standing := by simp [State.acquire]

@[simp] theorem measureOffset_standing (off : Int) (need : Nat) : (s.measureOffset off need).standing = s.standing := by
  unfold State.measureOffset
  (repeat' split) <;> simp

@[simp] theorem sourceLost_standing (measure : Int) : (s.sourceLost measure).standing = s.standing := by
  unfold State.sourceLost
  (repeat' split) <;> simp

@[simp] theorem setPtp_standing (p : Nat) (f : PtpPort → PtpPort) : (s.setPtp p f).standing = s.standing := by simp [State.setPtp]

@[simp] theorem ptpRx_standing (p : Nat) (m : PtpMsg) : (s.ptpRx p m).standing = s.standing := by
  simp only [State.ptpRx]
  (repeat' split) <;> simp

@[simp] theorem execPtpMessageRx_standing (port : Fin 4) (domain : U8) (m : PtpMsg) (at_ : Nat) :
    LeavesStanding s (execPtpMessageRx port domain m at_ s) := by
  simp [execPtpMessageRx]

@[simp] theorem execPtpAnnounceTimeout_standing (sync : Bool) : LeavesStanding s (execPtpAnnounceTimeout sync s) := by
  simp only [execPtpAnnounceTimeout]
  (repeat' split) <;> simp

@[simp] theorem execPpsInEdge_standing (stamp : Nat) : LeavesStanding s (execPpsInEdge stamp s) := by simp [execPpsInEdge]

@[simp] theorem execPpsInMissed_standing : LeavesStanding s (execPpsInMissed s) := by simp [execPpsInMissed]

@[simp] theorem applySet_standing (c : CalTime) (who : Option (Req × Bool)) : (s.applySet c who).standing = s.standing := by
  unfold State.applySet
  (repeat' split) <;> simp

@[simp] theorem shiftTick_standing : s.shiftTick.standing = s.standing := by
  unfold State.shiftTick
  (repeat' split) <;> simp

@[simp] theorem execCalendarSetTick_standing : LeavesStanding s (execCalendarSetTick s) := by
  unfold execCalendarSetTick
  (repeat' split) <;> simp

/-! ### Power -/

@[simp] theorem enterReset_standing (s : State) (c : U8) : (s.enterReset c).standing = s.standing := by
  simp only [State.enterReset, standing_ite, standing_keep]
  simp

@[simp] theorem deviceReset_standing (cause : U8) : (s.deviceReset cause).standing = s.standing := by simp [State.deviceReset]

@[simp] theorem lockout_standing : s.lockout.standing = s.standing := by
  unfold State.lockout
  (repeat' split) <;> simp

@[simp] theorem warnBilling_standing : s.warnBilling.standing = s.standing := by simp [State.warnBilling]

@[simp] theorem powerFail_standing : s.powerFail.standing = s.standing := by
  simp only [State.powerFail]
  (repeat' split) <;> simp

@[simp] theorem execPowerFailWarning_standing : LeavesStanding s (execPowerFailWarning s) := by simp [execPowerFailWarning]

@[simp] theorem execPowerFailSequenceDone_standing : LeavesStanding s (execPowerFailSequenceDone s) := by simp [execPowerFailSequenceDone]

@[simp] theorem execWarningRecovered_standing : LeavesStanding s (execWarningRecovered s) := by simp [execWarningRecovered]

@[simp] theorem execMainSupplyLoss_standing : LeavesStanding s (execMainSupplyLoss s) := by simp [execMainSupplyLoss]

@[simp] theorem execResetNAsserted_standing : LeavesStanding s (execResetNAsserted s) := by simp [execResetNAsserted]

@[simp] theorem execWatchdogExpiry_standing : LeavesStanding s (execWatchdogExpiry s) := by simp [execWatchdogExpiry]

@[simp] theorem setIsland_standing (i : Nat) (x : IslandSt) : (s.setIsland i x).standing = s.standing := by simp [State.setIsland]

@[simp] theorem beginBlockReset_standing (i : Nat) : (s.beginBlockReset i).standing = s.standing := by simp [State.beginBlockReset]

@[simp] theorem execIslandFault_standing (island : Fin 10) : LeavesStanding s (execIslandFault island s) := by simp [execIslandFault]

@[simp] theorem execQuiesceTimeout_standing (island : Fin 10) :
    LeavesStanding s (execQuiesceTimeout island s) := by simp [execQuiesceTimeout]

@[simp] theorem protocolLost_standing : s.protocolLost.standing = s.standing := by simp [State.protocolLost]

@[simp] theorem storageBack_standing : s.storageBack.standing = s.standing := by simp [State.storageBack]

@[simp] theorem appBack_standing : s.appBack.standing = s.standing := by simp [State.appBack]

@[simp] theorem execIslandStageRelease_standing : LeavesStanding s (execIslandStageRelease s) := by
  simp only [execIslandStageRelease]
  (repeat' split) <;> simp

@[simp] theorem execJunctionTemperatureSample_standing (temp : BitVec 16) : LeavesStanding s (execJunctionTemperatureSample temp s) := by
  simp [execJunctionTemperatureSample]

@[simp] theorem mainResetCmd_standing (r : Req) (arg : Bytes) : (s.mainResetCmd r arg).standing = s.standing := by
  simp [State.mainResetCmd]

@[simp] theorem execMainResetCommand_standing (r : Req) (arg : Bytes) : LeavesStanding s (execMainResetCommand r arg s) := by
  simp [execMainResetCommand]

@[simp] theorem execClearRstcntInvalid_standing (r : Req) (arg : Bytes) : LeavesStanding s (execClearRstcntInvalid r arg s) := by
  simp [execClearRstcntInvalid]

@[simp] theorem execVddAonAccept_standing : LeavesStanding s (execVddAonAccept s) := by simp [execVddAonAccept]

@[simp] theorem execVddAonDrop_standing : LeavesStanding s (execVddAonDrop s) := by simp [execVddAonDrop]

@[simp] theorem execRetTrip_standing : LeavesStanding s (execRetTrip s) := by simp [execRetTrip]

@[simp] theorem execVbatMeasure_standing (vbat vbk : U16) : LeavesStanding s (execVbatMeasure vbat vbk s) := by simp [execVbatMeasure]

@[simp] theorem execMemoryEccError_standing (place : EccPlace) (corrected : Bool) :
    LeavesStanding s (execMemoryEccError place corrected s) := by
  simp [execMemoryEccError]

@[simp] theorem execClockLoss_standing : LeavesStanding s (execClockLoss s) := by simp [execClockLoss]

@[simp] theorem execFailedRestart_standing : LeavesStanding s (execFailedRestart s) := by simp [execFailedRestart]

@[simp] theorem adoptCmd_standing (r : Req) (arg : Bytes) (values : List (ObjKey × Nat × Bytes)) :
    (s.adoptCmd r arg values).standing = s.standing := by
  simp [State.adoptCmd]

@[simp] theorem execAdoptPartnerConfiguration_standing (r : Req) (arg : Bytes) (values : List (ObjKey × Nat × Bytes)) :
    LeavesStanding s (execAdoptPartnerConfiguration r arg values s) := by
  simp [execAdoptPartnerConfiguration]

@[simp] theorem activationReset_standing : s.activationReset.standing = s.standing := by
  unfold State.activationReset
  (repeat' split) <;> simp

@[simp] theorem execActivationReset_standing : LeavesStanding s (execActivationReset s) := by simp [execActivationReset]

/-! ### Links -/

@[simp] theorem setLink_standing (f : LinkState → LinkState) : (s.setLink f).standing = s.standing := by simp [State.setLink]

@[simp] theorem setEth_standing (e : Nat) (f : EthPort → EthPort) : (s.setEth e f).standing = s.standing := by simp [State.setEth]

@[simp] theorem prpJudge_standing (e : Nat) (key : Nat × Nat) : (s.prpJudge e key).standing = s.standing := by simp [State.prpJudge]

@[simp] theorem execEthFrameRx_standing (port : Fin 4) (f : EthFrame) : LeavesStanding s (execEthFrameRx port f s) := by
  unfold execEthFrameRx
  (repeat' split) <;> simp

@[simp] theorem execEthLinkChange_standing (port : Fin 4) (speed : Fin 4) : LeavesStanding s (execEthLinkChange port speed s) := by
  simp [execEthLinkChange]

@[simp] theorem execPrpSupervisionTx_standing : LeavesStanding s (execPrpSupervisionTx s) := by simp [execPrpSupervisionTx]

@[simp] theorem sendRemote_standing (q : RdReq) : (s.sendRemote q).standing = s.standing := by simp [State.sendRemote]

@[simp] theorem execRemoteDownlinkTx_standing (assoc : Nat) :
    LeavesStanding s (execRemoteDownlinkTx assoc s) := by simp [execRemoteDownlinkTx]

@[simp] theorem remoteResults_standing (token : Nat) (res : List (U32 × Nat)) : (s.remoteResults token res).standing = s.standing := by
  simp [State.remoteResults]

@[simp] theorem execRemoteDownlinkResult_standing (token : Nat) (results : List (U32 × U8)) :
    LeavesStanding s (execRemoteDownlinkResult token results s) := by
  simp [execRemoteDownlinkResult]

@[simp] theorem execRemoteDownlinkRetransmit_standing (token : Nat) : LeavesStanding s (execRemoteDownlinkRetransmit token s) := by
  unfold execRemoteDownlinkRetransmit
  (repeat' split) <;> simp

@[simp] theorem execRemoteDownlinkExpiry_standing (tag : U32) : LeavesStanding s (execRemoteDownlinkExpiry tag s) := by
  simp [execRemoteDownlinkExpiry]

@[simp] theorem setDlv_standing (f : Delivery → Delivery) : (s.setDlv f).standing = s.standing := by simp [State.setDlv]

@[simp] theorem raiseDelivery_standing : s.raiseDelivery.standing = s.standing := by simp [State.raiseDelivery]

@[simp] theorem deliveryPeriod_standing : s.deliveryPeriod.standing = s.standing := by simp [State.deliveryPeriod]

@[simp] theorem execDeliveryEnable_standing : LeavesStanding s (execDeliveryEnable s) := by simp [execDeliveryEnable]

@[simp] theorem execDeliveryDisable_standing : LeavesStanding s (execDeliveryDisable s) := by simp [execDeliveryDisable]

@[simp] theorem execDlvAvailWrite_standing (avail : U32) (descs : List (Nat × Nat)) :
    LeavesStanding s (execDlvAvailWrite avail descs s) := by
  simp [execDlvAvailWrite]

@[simp] theorem execDlvBaseWrite_standing (base : U64) (entries : U32) : LeavesStanding s (execDlvBaseWrite base entries s) := by
  simp [execDlvBaseWrite]

@[simp] theorem execDeliveryBufferReturn_standing : LeavesStanding s (execDeliveryBufferReturn s) := by
  unfold execDeliveryBufferReturn
  (repeat' split) <;> simp

@[simp] theorem execReadingDelivery_standing (seq : U64) : LeavesStanding s (execReadingDelivery seq s) := by
  unfold execReadingDelivery
  (repeat' split) <;> simp

@[simp] theorem execPcieLinkTrained_standing : LeavesStanding s (execPcieLinkTrained s) := by simp [execPcieLinkTrained]

@[simp] theorem updateFn1_standing : s.updateFn1.standing = s.standing := by simp [State.updateFn1]

@[simp] theorem execPcieHotReset_standing : LeavesStanding s (execPcieHotReset s) := by simp [execPcieHotReset]

@[simp] theorem setSerial_standing (p : Nat) (f : SerialPort → SerialPort) : (s.setSerial p f).standing = s.standing := by
  simp [State.setSerial]

@[simp] theorem ask_standing (p h tries : Nat) : (s.ask p h tries).standing = s.standing := by simp [State.ask]

theorem takeSerialItem_standing {s : State} {p : Nat} {x : Nat × State} (e : s.takeSerialItem p = some x) : x.2.standing = s.standing := by
  obtain ⟨y, _, rfl⟩ := Option.map_eq_some_iff.mp e
  simp

@[simp] theorem serialNext_standing (s : State) (p : Nat) : (s.serialNext p).standing = s.standing := by
  unfold State.serialNext
  split
  · rfl
  · extract_lets full
    split
    next ht =>
      rw [← takeSerialItem_standing ht]
      split <;> simp
    · rfl
    · split <;> simp

@[simp] theorem execSerialPoll_standing (port : Fin 16) : LeavesStanding s (execSerialPoll port s) := by simp [execSerialPoll]

@[simp] theorem serialDone_standing (p : Nat) : (s.serialDone p).standing = s.standing := by simp [State.serialDone]

@[simp] theorem execSerialReplyRx_standing (port : Fin 16) (good : Bool) (f : StdFrame) (rx : Rx) :
    LeavesStanding s (execSerialReplyRx port good f rx s) := by
  simp only [execSerialReplyRx]
  (repeat' split) <;> simp

@[simp] theorem execSerialResponseTimeout_standing (port : Fin 16) : LeavesStanding s (execSerialResponseTimeout port s) := by
  simp only [execSerialResponseTimeout]
  (repeat' split) <;> simp

@[simp] theorem execUartByteRx_standing (port : Fin 2) (b : Byte) : LeavesStanding s (execUartByteRx port b s) := by simp [execUartByteRx]

/-! ### Settle -/

@[simp] theorem storeActing_standing (key : Nat) (v : Bytes) : (s.storeActing key v).standing = s.standing := by simp [State.storeActing]

@[simp] theorem storeCommitted_standing (g : Nat) : (s.storeCommitted g).standing = s.standing := by simp [State.storeCommitted]

@[simp] theorem dropStandIns_standing (g : Nat) : (s.dropStandIns g).standing = s.standing := by simp [State.dropStandIns]

@[simp] theorem groupSettled_standing (g : Nat) : (s.groupSettled g).standing = s.standing := by simp [State.groupSettled]

/-! ### Reset -/

@[simp] theorem judgeRetention_standing (s : State) (b : Bool) : (s.judgeRetention b).standing = s.standing := by
  cases b <;> rfl

@[simp] theorem settleAll_standing : s.settleAll.standing = s.standing := by simp [State.settleAll]

@[simp] theorem restartDict_standing : s.restartDict.standing = s.standing := by simp [State.restartDict]

@[simp] theorem reopenMismatch_standing : s.reopenMismatch.standing = s.standing := by simp [State.reopenMismatch]

theorem restartPower_running (x : StartUp) (c : U8) (l : Bool) :
    (s.restartPower x c l).standing.1 = (s.pending, s.personality x.ocbLow, decide (2 ≤ x.ctxGib)) := rfl

/-- A recorded Head-end profile stays recorded at a release. -/
theorem restartPower_recHeadEnd (x : StartUp) (c : U8) (l : Bool) (h : s.pwr.recHeadEnd = some true) :
    (s.restartPower x c l).standing.2 = some true := by
  change s.pwr.recHeadEnd.map _ = some true
  rw [h]
  simp

@[simp] theorem restartTime_standing : s.restartTime.standing = s.standing := by simp [State.restartTime]

@[simp] theorem restartEvents_standing (x : StartUp) (cause : U8) : (s.restartEvents x cause).standing = s.standing := by
  simp [State.restartEvents]

@[simp] theorem reportRelease_standing (lost : Bool) : (s.reportRelease lost).standing = s.standing := by simp [State.reportRelease]

@[simp] theorem restartTrust_standing : s.restartTrust.standing = s.standing := by
  simp only [State.restartTrust]
  (repeat' split) <;> simp

@[simp] theorem restartWork_standing (x : StartUp) : (s.restartWork x).standing = s.standing := by simp [State.restartWork]

@[simp] theorem restartArchive_standing : s.restartArchive.standing = s.standing := by simp [State.restartArchive]

@[simp] theorem restartBilling_standing : s.restartBilling.standing = s.standing := by simp [State.restartBilling]

@[simp] theorem restartRest_standing : s.restartRest.standing = s.standing := by simp [State.restartRest]

@[simp] theorem restoreContexts_standing : s.restoreContexts.standing = s.standing := by simp [State.restoreContexts]

@[simp] theorem reloadPin_standing (h : Nat) : (s.reloadPin h).standing = s.standing := by
  simp only [State.reloadPin]
  (repeat' split) <;> simp

@[simp] theorem execAcceptanceReady_standing (s : State) : LeavesStanding s (execAcceptanceReady s) := by
  have h : (s.trust.pins.foldl (fun t h => t.reloadPin h) s.restoreContexts).standing = s.standing := by simp
  have h2 (t : State) : (t.setPwr (fun p => { p with acceptReady := true })).standing = t.standing := by simp
  have h3 (t : State) (x : Int): (t.setPwr (fun p => { p with
          outageOpen := false, outageRec := none, warnTick := none, outageLen := x })).standing = t.standing := by simp
  rw [execAcceptanceReady, leavesStanding_next]
  split
  · rfl
  · dsimp only
    split
    · rw [h3, raise_standing, reachPhase_standing, h2, journalMarks_standing, h]
    · rw [reachPhase_standing, h2, journalMarks_standing, h]

@[simp] theorem execDictionaryAvailable_standing : LeavesStanding s (execDictionaryAvailable s) := by simp [execDictionaryAvailable]

@[simp] theorem erasesEnded_standing : s.erasesEnded.standing = s.standing := by simp [State.erasesEnded]

@[simp] theorem periodValues_standing : s.periodValues.standing = s.standing := by simp [State.periodValues]

@[simp] theorem pacedAfresh_standing : s.pacedAfresh.standing = s.standing := by simp [State.pacedAfresh]

/-! ### Groups -/

@[simp] theorem startRekey_standing (p : Nat) (ch : Tbl Bytes) : (s.startRekey p ch).standing = s.standing := by
  unfold State.startRekey
  (repeat' split) <;> simp

@[simp] theorem timeApplied_standing (ch : Tbl Bytes) : (s.timeApplied ch).standing = s.standing := by simp [State.timeApplied]

@[simp] theorem weirApplied_standing (ch : Tbl Bytes) : (s.weirApplied ch).standing = s.standing := by simp [State.weirApplied]

@[simp] theorem membersMoved_standing (ch : Tbl Bytes) : (s.membersMoved ch).standing = s.standing := by
  unfold State.membersMoved
  refine foldl_standing (fun t x => ?_) _ _
  simp

@[simp] theorem segmentsApplied_standing (ch : Tbl Bytes) : (s.segmentsApplied ch).standing = s.standing := by
  simp [State.segmentsApplied]

@[simp] theorem archiveApplied_standing (ch : Tbl Bytes) : (s.archiveApplied ch).standing = s.standing := by simp [State.archiveApplied]

@[simp] theorem offsetApplied_standing (s : State) (ch : Tbl Bytes) : (s.offsetApplied ch).standing = s.standing := by
  simp only [State.offsetApplied, followRates_standing, standing_mk, standing_eta]
  exact foldl_standing (fun t p => setMbill_standing _ _ _) _ _

@[simp] theorem prepayApplied_standing : s.prepayApplied.standing = s.standing := by simp [State.prepayApplied]

@[simp] theorem keepOlder_standing (ch : Tbl Bytes) : (s.keepOlder ch).standing = s.standing := by simp [State.keepOlder]

@[simp] theorem applied_standing (g : Nat) (ch : Tbl Bytes) : (s.applied g ch).standing = s.standing := by simp [State.applied]

@[simp] theorem switchGroup_standing (g : Nat) : (s.switchGroup g).standing = s.standing := by simp [State.switchGroup]

@[simp] theorem checkGroup_standing (g : Nat) : (s.checkGroup g).standing = s.standing := by simp [State.checkGroup]

@[simp] theorem execGroupSafePointApply_standing (group : Fin 39) : LeavesStanding s (execGroupSafePointApply group s) := by
  simp [execGroupSafePointApply]

@[simp] theorem execCfgMismatchTimeout_standing (group : Fin 39) : LeavesStanding s (execCfgMismatchTimeout group s) := by
  simp [execCfgMismatchTimeout]

@[simp] theorem commitBody_standing (r : Req) (g count : Nat) : (commitBody r g count s).state.standing = s.standing := by
  simp [commitBody]

@[simp] theorem commitCmd_standing (r : Req) (g : Nat) (arg : Bytes) : (s.commitCmd r g arg).standing = s.standing := by
  simp [State.commitCmd]

@[simp] theorem execCommit_standing (r : Req) (group : Fin 39) (arg : Bytes) :
    LeavesStanding s (execCommit r group arg s) := by simp [execCommit]

@[simp] theorem discardBody_standing (g n : Nat) : (discardBody g n s).state.standing = s.standing := by simp [discardBody]

@[simp] theorem discardCmd_standing (r : Req) (g : Nat) (arg : Bytes) : (s.discardCmd r g arg).standing = s.standing := by
  simp [State.discardCmd]

@[simp] theorem execDiscard_standing (r : Req) (group : Fin 39) (arg : Bytes) : LeavesStanding s (execDiscard r group arg s) := by
  simp [execDiscard]

@[simp] theorem restoreCmd_standing (r : Req) (arg : Bytes) : (s.restoreCmd r arg).standing = s.standing := by simp [State.restoreCmd]

@[simp] theorem execRestoreDefaults_standing (r : Req) (arg : Bytes) : LeavesStanding s (execRestoreDefaults r arg s) := by
  simp [execRestoreDefaults]

/-! ### Sessions -/

@[simp] theorem redrawAuth_standing (i : SessId) : (s.redrawAuth i).standing = s.standing := by simp [State.redrawAuth]

@[simp] theorem challengeRead_standing (r : Req) : (s.challengeRead r).standing = s.standing := by
  unfold State.challengeRead
  (repeat' split) <;> simp

@[simp] theorem execAuthenticationChallengeRead_standing (r : Req) : LeavesStanding s (execAuthenticationChallengeRead r s) := by
  simp [execAuthenticationChallengeRead]

@[simp] theorem wrongResponse_standing (tr : Transport) (transport : Nat) : (s.wrongResponse tr transport).standing = s.standing := by
  simp [State.wrongResponse]

@[simp] theorem useRoleKey_standing (i : SessId) (code : Nat) : (s.useRoleKey i code).standing = s.standing := by
  unfold State.useRoleKey
  (repeat' split) <;> simp

@[simp] theorem judgeResponse_standing (i : SessId) (v : Bytes) : (s.judgeResponse i v).2.standing = s.standing := by
  simp only [State.judgeResponse]
  (repeat' split) <;> simp

@[simp] theorem authResponse_standing (r : Req) (v : Bytes) : (s.authResponse r v).standing = s.standing := by
  unfold State.authResponse
  (repeat' split) <;> simp

@[simp] theorem execAuthenticationResponse_standing (r : Req) (v : Bytes) : LeavesStanding s (execAuthenticationResponse r v s) := by
  simp [execAuthenticationResponse]

@[simp] theorem execAuthLockoutExpiry_standing (tr : Transport) :
    LeavesStanding s (execAuthLockoutExpiry tr s) := by simp [execAuthLockoutExpiry]

@[simp] theorem toObserver_standing (i : SessId) : (s.toObserver i).standing = s.standing := by simp [State.toObserver]

@[simp] theorem execSessionIdleTimeout_standing (i : SessId) :
    LeavesStanding s (execSessionIdleTimeout i s) := by simp [execSessionIdleTimeout]

/-! ### Ocb -/

@[simp] theorem codeWrite_standing (r : Req) (num : Nat) (v : Bytes) : (s.codeWrite r num v).standing = s.standing := by
  unfold State.codeWrite
  (repeat' split) <;> simp

@[simp] theorem enterCode_standing (i : SessId) (v : Bytes) : (s.enterCode i v).2.standing = s.standing := by
  unfold State.enterCode
  (repeat' split) <;> simp

@[simp] theorem codeEntry_standing (r : Req) (v : Bytes) : (s.codeEntry r v).standing = s.standing := by
  unfold State.codeEntry
  (repeat' split) <;> simp

@[simp] theorem execAccessCodeEntry_standing (r : Req) (v : Bytes) :
    LeavesStanding s (execAccessCodeEntry r v s) := by simp [execAccessCodeEntry]

@[simp] theorem execAccessCodeLockoutExpiry_standing :
    LeavesStanding s (execAccessCodeLockoutExpiry s) := by simp [execAccessCodeLockoutExpiry]

@[simp] theorem legalTimeWrite_standing (r : Req) (v : Bytes) : (s.legalTimeWrite r v).standing = s.standing := by
  unfold State.legalTimeWrite
  (repeat' split) <;> simp

@[simp] theorem execOcbLegalTimeWrite_standing (r : Req) (v : Bytes) : LeavesStanding s (execOcbLegalTimeWrite r v s) := by
  simp [execOcbLegalTimeWrite]

@[simp] theorem clearOcbCmd_standing (r : Req) (arg : Bytes) : (s.clearOcbCmd r arg).standing = s.standing := by simp [State.clearOcbCmd]

@[simp] theorem execClearOcbEventTable_standing (r : Req) (arg : Bytes) : LeavesStanding s (execClearOcbEventTable r arg s) := by
  simp [execClearOcbEventTable]

@[simp] theorem execOcbHeadendConnect_standing (conn : Nat) (addr : U32) : LeavesStanding s (execOcbHeadendConnect conn addr s) := by
  simp [execOcbHeadendConnect]

@[simp] theorem closeHeadEnd_standing (conn : Nat) : (s.closeHeadEnd conn).standing = s.standing := by simp [State.closeHeadEnd]

@[simp] theorem headEndRecord_standing (conn number handle : Nat) (lpdu : Bytes) (stamp : Nat) :
    (s.headEndRecord conn number handle lpdu stamp).standing = s.standing := by
  simp only [State.headEndRecord]
  (repeat' split) <;> simp

@[simp] theorem execOcbHeadendDelivery_standing (n : Nat) (m : Bytes) (stamp : Nat) (s : State) :
    LeavesStanding s (execOcbHeadendDelivery n m stamp s) := by
  simp only [execOcbHeadendDelivery, leavesStanding_next]
  apply orWait_standing
  (repeat' split) <;> simp

@[simp] theorem execOcbHeadendKeepaliveTx_standing (conn : Nat) : LeavesStanding s (execOcbHeadendKeepaliveTx conn s) := by
  simp [execOcbHeadendKeepaliveTx]

@[simp] theorem execOcbHeadendIdleClose_standing (conn : Nat) : LeavesStanding s (execOcbHeadendIdleClose conn s) := by
  simp [execOcbHeadendIdleClose]

/-! ### Dictionary -/

@[simp] theorem drawChallenge_standing (r : Req) (num : Nat) : (s.drawChallenge r num).2.standing = s.standing := by
  unfold State.drawChallenge
  (repeat' split) <;> simp

@[simp] theorem fetch_standing (r : Req) (num : Nat) : (s.fetch r num).2.standing = s.standing := by
  unfold State.fetch
  (repeat' split) <;> simp

@[simp] theorem get_standing (r : Req) (num : Nat) : (s.get r num).standing = s.standing := by simp [State.get]

@[simp] theorem writeAtOnce_standing (num i : Nat) (v : Bytes) : (s.writeAtOnce num i v).standing = s.standing := by
  simp [State.writeAtOnce]

theorem writeChecked_standing {s t : State} {r : Req} {num i : Nat} {o : ObjRow} {v : Bytes} (e : s.writeChecked r num i o v = .ok t) :
    t.standing = s.standing := by
  unfold State.writeChecked at e
  (repeat' split at e) <;> try cases e
  · exact stage_standing e
  · simp
  · simp

@[simp] theorem write_standing (s : State) (r : Req) (num : Nat) (v : Bytes) : (s.write r num v).standing = s.standing := by
  simp only [State.write]
  (repeat' split) <;> try simp
  next hw => simp [writeChecked_standing hw]

@[simp] theorem putNative_standing (r : Req) (num : Nat) (v : Bytes) : (s.putNative r num v).standing = s.standing := by
  simp [State.putNative]

@[simp] theorem put_standing (r : Req) (num : Nat) (v : Bytes) : (s.put r num v).standing = s.standing := by
  unfold State.put
  (repeat' split) <;> simp

theorem after_standing {s : State} {r : Result} (h : LeavesStanding s r) : (s.after r).standing = s.standing := by
  obtain ⟨t, rfl, ht⟩ := h
  exact ht

@[simp] theorem postTrust_running (s : State) (r : Req) (n : Nat) (a : Bytes) (f : Found) :
    (s.postTrust r n a f).standing.1 = s.standing.1 := by
  unfold State.postTrust
  split <;> simp [after_standing]

@[simp] theorem postNative_running (s : State) (r : Req) (n : Nat) (a : Bytes) (f : Found) :
    (s.postNative r n a f).standing.1 = s.standing.1 := by
  unfold State.postNative
  dsimp only
  split
  · simp
  · split
    · simp
    · split
      · simp
      · split <;> simp [after_standing]

@[simp] theorem post_running (r : Req) (num : Nat) (arg : Bytes) (f : Found) : (s.post r num arg f).standing.1 = s.standing.1 := by
  unfold State.post
  (repeat' split) <;> simp

@[simp] theorem send_running (r : Req) (num : Nat) (v : Bytes) (f : Found) : (s.send r num v f).standing.1 = s.standing.1 := by
  simp [State.send]

@[simp] theorem execObjectWrite_standing (r : Req) (k : ObjKey) (v : Bytes) : LeavesStanding s (execObjectWrite r k v s) := by
  simp [execObjectWrite]

@[simp] theorem execStagedWrite_standing (r : Req) (k : ObjKey) (v : Bytes) : LeavesStanding s (execStagedWrite r k v s) := by
  simp [execStagedWrite]

@[simp] theorem execOcbImmediateWrite_standing (r : Req) (k : ObjKey) (v : Bytes) : LeavesStanding s (execOcbImmediateWrite r k v s) := by
  simp [execOcbImmediateWrite]

/-! ### Display -/

@[simp] theorem chargeShown_standing : s.chargeShown.standing = s.standing := by simp [State.chargeShown]

@[simp] theorem execDisplayFrameTx_standing : LeavesStanding s (execDisplayFrameTx s) := by simp [execDisplayFrameTx]

/-! ### Downlinks -/

@[simp] theorem execDownlinkFrameTx_standing (port : Fin 24) (handle : Handle) (content : Bytes) :
    LeavesStanding s (execDownlinkFrameTx port handle content s) := by
  simp only [execDownlinkFrameTx]
  (repeat' split) <;> simp

/-! ### Mirror -/

@[simp] theorem onStream_standing (s : State) (m : U64) {f : State → State} (h : ∀ t, (f t).standing = t.standing) :
    (s.onStream m f).standing = s.standing := by
  simp [State.onStream, h]

@[simp] theorem mirrorPartner_standing (h : Nat) (link : U16) : (s.mirrorPartner h link).standing = s.standing := by
  simp [State.mirrorPartner]

@[simp] theorem takeEntry_standing (s : State) (b c : Bytes) : (s.takeEntry b c).standing = s.standing := by
  have hd (t : State) (p q : Prop) [Decidable p] [Decidable q] (h : Nat) (l : U16) (n : Nat) (e : JEntry) :
      (if p then (if q then t.mirrorPartner h l else t) else (if q then t.mirrorPartner h l else t).deliver n e).standing = t.standing := by simp
  have hs (t : State) (n : Nat) : (if t.pair.role = .standby then t.sendPair .confirmation n [] else t).standing = t.standing := by simp
  have hj := journalAppend_standing s (JEntry.received b s.time.mono)
  unfold State.takeEntry
  dsimp only
  rw [standing_ite, hs, hd]
  generalize s.journalAppend (JEntry.received b s.time.mono) = t at hj ⊢
  rw [standing_keep t, hj, ite_self]

@[simp] theorem execEntry_standing (m : U64) (bytes context : Bytes) : LeavesStanding s (execEntry m bytes context s) := by simp [execEntry]

@[simp] theorem execConfirmation_standing (m seq : U64) (late : Bool) : LeavesStanding s (execConfirmation m seq late s) := by
  simp only [execConfirmation]
  (repeat' split) <;> simp

@[simp] theorem takeContext_standing (h : Nat) (image : Bytes) : (s.takeContext h image).standing = s.standing := by
  simp [State.takeContext]

@[simp] theorem execContextChange_standing (m : U64) (handle : Handle) (image : Bytes) :
    LeavesStanding s (execContextChange m handle image s) := by
  simp [execContextChange]

@[simp] theorem execBillingDeltaTx_standing : LeavesStanding s (execBillingDeltaTx s) := by simp [execBillingDeltaTx]

@[simp] theorem reconcile_standing (h : Nat) (seq : U64) (set : Bytes) : (s.reconcile h seq set).standing = s.standing := by
  simp [State.reconcile]

@[simp] theorem execBillingDelta_standing (m : U64) (meters : List (Handle × U64 × Bytes)) (period : U32) (shift : U16) (closed : Nat) :
    LeavesStanding s (execBillingDelta m meters period shift closed s) := by
  simp [execBillingDelta]

@[simp] theorem execLedgerDelta_standing (m : U64) (h : Handle) (b : Bytes) (s : State) : LeavesStanding s (execLedgerDelta m h b s) := by
  rw [execLedgerDelta, leavesStanding_next]
  exact onStream_standing _ _ fun t => setLedger_standing _ _ _

@[simp] theorem keyOperation_standing (num : Nat) (h : Handle) (arg : Bytes) : (s.keyOperation num h arg).standing = s.standing := by
  simp [State.keyOperation]

@[simp] theorem execKeyOperation_standing (m : U64) (k : ObjKey) (handle : Handle) (arg : Bytes) :
    LeavesStanding s (execKeyOperation m k handle arg s) := by
  simp [execKeyOperation]

@[simp] theorem takeCampaign_standing (c : CampCopy) : (s.takeCampaign c).standing = s.standing := by
  unfold State.takeCampaign
  refine foldl_standing (fun t x => ?_) _ _
  simp

@[simp] theorem takeConfig_standing (c : MirrorCfg) : (s.takeConfig c).standing = s.standing := by
  unfold State.takeConfig
  (repeat' split) <;> simp

@[simp] theorem execConfiguration_standing (m : U64) (c : MirrorCfg) :
    LeavesStanding s (execConfiguration m c s) := by simp [execConfiguration]

@[simp] theorem adoptCycle_standing (cycle : Cycle) (stamp : Nat) : (s.adoptCycle cycle stamp).standing = s.standing := by
  simp [State.adoptCycle]

@[simp] theorem execTimeState_standing (m : U64) (cycle : Cycle) (stamp : Nat) : LeavesStanding s (execTimeState m cycle stamp s) := by
  simp [execTimeState]

@[simp] theorem execLatchOrder_standing (m : U64) (i : U16) (c : Cycle) (s : State) : LeavesStanding s (execLatchOrder m i c s) := by
  rw [execLatchOrder, leavesStanding_next]
  refine onStream_standing _ _ fun t => ?_
  dsimp only
  rw [holdOrder_standing]
  split
  next h => exact armLatch_standing h
  · rfl

@[simp] theorem takeMeter_standing (x : MeterCopy) : (s.takeMeter x).standing = s.standing := by simp [State.takeMeter]

@[simp] theorem takeBulk_standing (b : BulkCopy) : (s.takeBulk b).standing = s.standing := by simp [State.takeBulk]

@[simp] theorem execResyncComplete_standing (b : BulkCopy) : LeavesStanding s (execResyncComplete b s) := by simp [execResyncComplete]

/-! ### Release -/

@[simp] theorem follow_standing {s : State} {r : Result} (h : LeavesStanding s r) : (s.follow r).standing = s.standing := by
  obtain ⟨t, rfl, ht⟩ := h
  exact ht

@[simp] theorem runRequest_standing (c : Instr) : (s.runRequest c).standing = s.standing := by
  unfold State.runRequest
  (repeat' split) <;> simp

@[simp] theorem runInput_standing (x : Held) : (s.runInput x).standing = s.standing := by
  unfold State.runInput
  (repeat' split) <;> simp

@[simp] theorem runInputs_standing : s.runInputs.standing = s.standing := by simp [State.runInputs]

@[simp] theorem runHostCmd_standing (i : Instr) : (s.runHostCmd i).standing = s.standing := by
  unfold State.runHostCmd
  (repeat' split) <;> simp

@[simp] theorem runHost_standing : s.runHost.standing = s.standing := by simp [State.runHost]

@[simp] theorem runCrossings_standing (i : Nat) : (s.runCrossings i).standing = s.standing := by simp [State.runCrossings]

@[simp] theorem execBudgetPeriodBoundary_standing : LeavesStanding s (execBudgetPeriodBoundary s) := by
  simp only [execBudgetPeriodBoundary]
  (repeat' split) <;> simp

@[simp] theorem execBlockResetRelease_standing (island : Fin 10) : LeavesStanding s (execBlockResetRelease island s) := by
  simp [execBlockResetRelease]

/-! ### Transport -/

@[simp] theorem setLinks_standing (f : LinkState → LinkState) : (s.setLinks f).standing = s.standing := by simp [State.setLinks]

@[simp] theorem setXfer_standing (i : SessId) (x : Option Xfer) : (s.setXfer i x).standing = s.standing := by simp [State.setXfer]

@[simp] theorem sendBlock_standing (r : Req) (k : ObjKey) (v : Bytes) (b : CoapBlock) : (s.sendBlock r k v b).standing = s.standing := by
  simp [State.sendBlock]

@[simp] theorem coapGet_standing (r : Req) (k : ObjKey) (b : Option CoapBlock) : (s.coapGet r k b).standing = s.standing := by
  simp only [State.coapGet]
  (repeat' split) <;> simp

@[simp] theorem coapStore_running (r : Req) (m : CoapMethod) (k : ObjKey) (v : Bytes) (f : Found) :
    (s.coapStore r m k v f).standing.1 = s.standing.1 := by
  simp [State.coapStore]

@[simp] theorem coapSend_running (r : Req) (m : CoapMethod) (k : ObjKey) (b : Option CoapBlock) (v : Bytes) (f : Found) :
    (s.coapSend r m k b v f).standing.1 = s.standing.1 := by
  unfold State.coapSend
  (repeat' split) <;> simp

@[simp] theorem coap_running (r : Req) (m : CoapMethod) (k : ObjKey) (format : Option Nat) (b : Option CoapBlock) (v : Bytes) (f : Found) :
    (s.coap r m k format b v f).standing.1 = s.standing.1 := by
  simp [State.coap]

@[simp] theorem execCoapRequest_running (r : Req) (peer : Bytes) (m : CoapMethod) (k : ObjKey) (fm : Option Nat) (b : Option CoapBlock)
    (v : Bytes) (f : Found) (s : State) : LeavesRunning s (execCoapRequest r peer m k fm b v f s) := by
  simp only [execCoapRequest, leavesRunning_next]
  (repeat' split) <;> try rfl
  next ha => rw [coap_running, association_standing ha]

@[simp] theorem execCoapBlockwiseTimeout_standing (r : Req) :
    LeavesStanding s (execCoapBlockwiseTimeout r s) := by simp [execCoapBlockwiseTimeout]

@[simp] theorem canFrame_standing (p : Nat) : (s.canFrame p).standing = s.standing := by simp [State.canFrame]

@[simp] theorem abortXfer_standing (r : Req) (a : Abort) : (s.abortXfer r a).standing = s.standing := by simp [State.abortXfer]

@[simp] theorem sdoUpload_standing (r : Req) (k : ObjKey) (room : Nat) : (s.sdoUpload r k room).standing = s.standing := by
  simp only [State.sdoUpload]
  (repeat' split) <;> simp

@[simp] theorem sdoDownload_standing (r : Req) (k : ObjKey) (size : Option Nat) : (s.sdoDownload r k size).standing = s.standing := by
  simp only [State.sdoDownload]
  (repeat' split) <;> simp

@[simp] theorem sdoInitiate_running (r : Req) (k : ObjKey) (what : SdoInit) (f : Found) :
    (s.sdoInitiate r k what f).standing.1 = s.standing.1 := by
  unfold State.sdoInitiate
  (repeat' split) <;> simp

@[simp] theorem execSdoInitiate_running (r : Req) (k : ObjKey) (what : SdoInit) (f : Found) :
    LeavesRunning s (execSdoInitiate r k what f s) := by
  simp [execSdoInitiate]

@[simp] theorem sdoFinish_running (r : Req) (x : Xfer) (v : Bytes) (f : Found) : (s.sdoFinish r x v f).standing.1 = s.standing.1 := by
  simp [State.sdoFinish]

@[simp] theorem sdoSegment_running (r : Req) (toggle : Bool) (v : Bytes) (last : Bool) (room : Nat) (f : Found) :
    (s.sdoSegment r toggle v last room f).standing.1 = s.standing.1 := by
  unfold State.sdoSegment
  (repeat' split) <;> simp

@[simp] theorem execSdoSegment_running (r : Req) (toggle : Bool) (v : Bytes) (last : Bool) (room : Nat) (f : Found) :
    LeavesRunning s (execSdoSegment r toggle v last room f s) := by
  simp [execSdoSegment]

@[simp] theorem execSdoSegmentTimeout_standing (r : Req) : LeavesStanding s (execSdoSegmentTimeout r s) := by simp [execSdoSegmentTimeout]

@[simp] theorem execNmtReset_standing (port : Fin 2) : LeavesStanding s (execNmtReset port s) := by simp [execNmtReset]

@[simp] theorem execCanHeartbeat_standing (port : Fin 2) : LeavesStanding s (execCanHeartbeat port s) := by simp [execCanHeartbeat]

@[simp] theorem execCanBusOffRecovery_standing (port : Fin 2) :
    LeavesStanding s (execCanBusOffRecovery port s) := by simp [execCanBusOffRecovery]

@[simp] theorem execProbeSignOn_standing (port : Fin 2) : LeavesStanding s (execProbeSignOn port s) := by simp [execProbeSignOn]

@[simp] theorem probeRead_standing (r : Req) (num : Nat) : (s.probeRead r num).standing = s.standing := by
  simp only [State.probeRead]
  (repeat' split) <;> simp

@[simp] theorem execProbeRequest_running (r : Req) (op : ProbeOp) (f : Found) : LeavesRunning s (execProbeRequest r op f s) := by
  unfold execProbeRequest
  (repeat' split) <;> simp

@[simp] theorem probeEnd_standing (p : Nat) : (s.probeEnd p).standing = s.standing := by simp [State.probeEnd]

@[simp] theorem execProbeSignOff_standing (port : Fin 2) : LeavesStanding s (execProbeSignOff port s) := by simp [execProbeSignOff]

@[simp] theorem execProbeBreak_standing (port : Fin 2) : LeavesStanding s (execProbeBreak port s) := by simp [execProbeBreak]

@[simp] theorem execMailboxDoorbell_standing (slot : U32) (content : Bytes) : LeavesStanding s (execMailboxDoorbell slot content s) := by
  simp [execMailboxDoorbell]

@[simp] theorem mailbox_running (slot : Nat) (storeOk : Bool) (f : Found) : (s.mailbox slot storeOk f).standing.1 = s.standing.1 := by
  simp [State.mailbox]

@[simp] theorem execMailboxRequest_running (slot : Fin 32) (storeOk : Bool) (f : Found) :
    LeavesRunning s (execMailboxRequest slot storeOk f s) := by
  simp [execMailboxRequest]

@[simp] theorem execMbxDoneClear_standing (bits : U32) : LeavesStanding s (execMbxDoneClear bits s) := by simp [execMbxDoneClear]

@[simp] theorem execMailboxEnable_standing : LeavesStanding s (execMailboxEnable s) := by simp [execMailboxEnable]

@[simp] theorem execMailboxDisable_standing : LeavesStanding s (execMailboxDisable s) := by simp [execMailboxDisable]

/-! ### Core -/

@[simp] theorem succeeds_standing (r : Req) (num inst : Nat) : (s.succeeds r num inst).standing = s.standing := by simp [State.succeeds]

@[simp] theorem begins_standing (num inst : Nat) : (s.begins num inst).standing = s.standing := by simp [State.begins]

@[simp] theorem fails_standing (r : Req) (num inst : Nat) (a : Abort) : (s.fails r num inst a).standing = s.standing := by
  simp [State.fails]

end Kept

section Steps

/-- Every command but the release of a main reset leaves the queue, the personality and the profile. -/
theorem exec_running (i : Instr) (s : State) (h : ∀ x, i ≠ .mainResetRelease x) : LeavesRunning s (exec i s) := by
  cases i with
  | mainResetRelease x => exact absurd rfl (h x)
  | _ => simp only [exec]; simp [LeavesStanding.running]

theorem running_pending {s t : State} (h : t.standing.1 = s.standing.1) : t.pending = s.pending := congrArg Prod.fst h

theorem running_ocb {s t : State} (h : t.standing.1 = s.standing.1) : t.pwr.ocb = s.pwr.ocb := congrArg (·.2.1) h

end Steps

section Release

theorem exec_mainResetRelease (s : State) (x : StartUp) : exec (.mainResetRelease x) s = .next
    (if s.pwr.inReset = false ∨ s.pwr.aonAccepted = false ∨ 1100 ≤ s.pwr.tj then s else s.released x) := rfl

theorem exec_mainResetRelease_of_ready {s : State} (x : StartUp) (hr : s.pwr.inReset = true) (ha : s.pwr.aonAccepted = true)
    (ht : s.pwr.tj < 1100) : exec (.mainResetRelease x) s = .next (s.released x) := by
  rw [exec_mainResetRelease, if_neg (by simp [hr, ha]; omega)]

/-- The state of a release once the personality and the profile are taken. -/
def taken (s : State) (x : StartUp) : State :=
  ((s.judgeRetention (s.pwr.retTrip || !x.canaryOk)).restartDict).restartPower x
    (if s.pwr.railsLost then 1 else s.pwr.nextCause.getD 1) (s.pwr.retTrip || !x.canaryOk)

/-- What follows in a release leaves what stands as `restartPower` took it. -/
theorem released_standing (s : State) (x : StartUp) : (s.released x).standing = (taken s x).standing := by
  have h (t : State) (p : Nat × Tbl Bytes) : (if p.2 = [] then t else t.applied p.1 p.2).standing = t.standing := by simp
  rw [State.released, foldl_standing h]
  simp only [setWeir_standing, restartRest_standing, restartBilling_standing, restartArchive_standing, restartWork_standing,
    startImages_standing, restartTrust_standing, reportRelease_standing, restartEvents_standing, restartTime_standing, taken]

theorem restartDict_judgeRetention_standing (s : State) (b : Bool) : (s.judgeRetention b).restartDict.standing = s.standing := by
  rw [restartDict_standing, judgeRetention_standing]

theorem released_running (s : State) (x : StartUp) : (s.released x).standing.1 =
    (s.pending, (s.judgeRetention (s.pwr.retTrip || !x.canaryOk)).restartDict.personality x.ocbLow, decide (2 ≤ x.ctxGib)) := by
  rw [released_standing, taken, restartPower_running,
    running_pending (congrArg Prod.fst (restartDict_judgeRetention_standing s (s.pwr.retTrip || !x.canaryOk)))]

theorem released_headEnd (s : State) (x : StartUp) : (s.released x).pwr.headEnd = decide (2 ≤ x.ctxGib) :=
  congrArg (·.2.2) (released_running s x)

theorem released_recHeadEnd {s : State} (x : StartUp) (h : s.pwr.recHeadEnd = some true) : (s.released x).pwr.recHeadEnd = some true :=
  (congrArg Prod.snd (released_standing s x)).trans
    (restartPower_recHeadEnd _ _ _ _ ((congrArg Prod.snd (restartDict_judgeRetention_standing s _)).trans h))

theorem storeActing_trust (s : State) (n : Nat) (b : Bytes) : (s.storeActing n b).trust = s.trust := by
  simp only [State.storeActing]
  split <;> rfl

theorem storeCommitted_trust (s : State) (g : Nat) : (s.storeCommitted g).trust = s.trust :=
  foldl_kept State.trust (fun t (p : Nat × Bytes) => storeActing_trust t p.1 p.2) _ _

theorem settleAll_trust (s : State) : s.settleAll.trust = s.trust := by
  unfold State.settleAll
  refine foldl_kept State.trust (fun t g => ?_) _ _
  split
  · rfl
  · exact storeCommitted_trust t g

theorem judgeRetention_trust (s : State) (b : Bool) : (s.judgeRetention b).trust = s.trust := by
  unfold State.judgeRetention
  split <;> rfl

theorem restartDict_trust (s : State) : s.restartDict.trust = s.trust := settleAll_trust s

theorem statusWord_mod (s : State) : s.statusWord % 4 = if s.pwr.ocb = true then 2 else 1 := by
  have h : (if s.pwr.ocb = true then 2 else 1) < 4 := by split <;> decide
  unfold State.statusWord
  omega

end Release

section Tick

/-- What a tick of the calendar's clock leaves as it is. -/
def offCalendar (s : State) : Nat × DictState × TrustState × AcceptState × BillState × PowerState :=
  (s.time.mono, s.dict, s.trust, s.acc, s.bill, s.pwr)

theorem addSecond_offCalendar (s : State) : offCalendar s.addSecond = offCalendar s := by
  simp only [State.addSecond]
  split
  · simp [offCalendar]
  · rfl

theorem addSub_offCalendar (s : State) (n : Nat) : offCalendar (s.addSub n) = offCalendar s := by
  have h (b : BitVec 15) : offCalendar { s with time := { s.time with sub := b } } = offCalendar s := rfl
  rw [State.addSub, apply_ite offCalendar, addSecond_offCalendar, h, h (BitVec.ofNat 15 (s.time.sub.toNat + n - 32768)), ite_self]

theorem calTick_offCalendar (s : State) : offCalendar s.calTick = offCalendar s := by
  unfold State.calTick
  split
  · rfl
  · split
    · rfl
    · exact (addSub_offCalendar _ _).trans rfl

theorem tick_offCalendar (s : State) : offCalendar s.tick =
    (if s.pwr.inReset = true then s.time.mono else s.time.mono + 1, s.dict, s.trust, s.acc, s.bill, s.pwr) := by
  rw [State.tick, calTick_offCalendar]
  split <;> rfl

end Tick

/-- Settles O59: the release of a main reset keeps the queue as every other command does. -/
theorem everyCommandCompletes : Obligations.EveryCommandCompletes := by
  intro i s
  by_cases h : ∃ x, i = .mainResetRelease x
  · obtain ⟨x, rfl⟩ := h
    refine ⟨_, exec_mainResetRelease s x, ?_⟩
    split
    · rfl
    · exact congrArg Prod.fst (released_running s x)
  · obtain ⟨t, ht, hs⟩ := exec_running i s (fun x e => h ⟨x, e⟩)
    exact ⟨t, ht, running_pending hs⟩

/-- Settles O52: by O59 for the command at the front, and on an empty queue by the tick. -/
theorem everyStepGoesOnAndServesTheQueueInOrder : Obligations.EveryStepGoesOnAndServesTheQueueInOrder := by
  intro s
  unfold step
  split
  next hq => exact ⟨_, rfl, (running_pending (congrArg Prod.fst (tick_standing s))).trans (by simp [hq])⟩
  next c rest hq =>
    obtain ⟨t, ht, hp⟩ := everyCommandCompletes c { s with pending := rest }
    exact ⟨t, ht, by rw [hp, hq]; rfl⟩

/-- Settles O53: the release by what its parts leave standing, the other commands and the tick by what they leave. -/
theorem thePersonalityStandsUntilTheNextMainReset : Obligations.ThePersonalityStandsUntilTheNextMainReset := by
  refine ⟨fun s x hr ha ht => ⟨_, exec_mainResetRelease_of_ready x hr ha ht, ?_⟩, statusWord_mod, fun s t ht hx => ?_⟩
  · rw [show (s.released x).pwr.ocb = _ from congrArg (·.2.1) (released_running s x)]
    simp only [State.personality, restartDict_trust, judgeRetention_trust]
  · unfold step at ht
    split at ht
    next hq => cases ht; exact running_ocb (congrArg Prod.fst (tick_standing s))
    next c rest hq =>
      obtain ⟨u, hu, hs⟩ := exec_running c { s with pending := rest } (fun x e => hx x rest (e ▸ hq))
      rw [ht] at hu
      cases hu
      exact (running_ocb hs :)

/-- Settles O47: on an empty queue by what the parts of the tick leave as it is. -/
theorem stepTakesTheFrontCommand : Obligations.StepTakesTheFrontCommand := by
  refine ⟨fun c s => by simp only [step, State.withFront], fun c rest s hq => by rw [step, hq],
    fun s hq => ⟨s.tick, by rw [step, hq], ?_⟩⟩
  refine ⟨(running_pending (congrArg Prod.fst (tick_standing s))).trans hq, ?_⟩
  simpa only [offCalendar, Prod.mk.injEq] using tick_offCalendar s

end Sys2Proof.Machine.Standing

end

section
/-! SUPPORT. What the recorder keeps of its entries: a flush moves them, an occurrence adds at most one, with the stamp of the form
that runs (R393 to R397). -/

namespace Sys2Proof.Machine.Recorder

open Standing

/-- Bit 63 of a word is its top half. -/
theorem getLsbD_63_ofNat (n : Nat) (h : n < 2 ^ 64) : (BitVec.ofNat 64 n).getLsbD 63 = decide (2 ^ 63 ≤ n) := by
  rw [BitVec.getLsbD_ofNat, Nat.testBit_eq_decide_div_mod_eq]
  simp only [Nat.lt_add_one, decide_true, Bool.true_and, decide_eq_decide]
  omega

theorem stampNow_form (s : State) : s.stampNow.1.getLsbD 63 = s.pwr.headEnd := by
  unfold State.stampNow
  split
  next h =>
    rw [getLsbD_63_ofNat _ (by omega), h, decide_eq_true_eq]
    omega
  next h =>
    have hp := s.ev.powerCycles.isLt
    rw [getLsbD_63_ofNat _ (by omega), Bool.eq_false_of_not_eq_true h, decide_eq_false_iff_not]
    omega

variable {e : EvState} {x : EvEntry}

theorem mem_copyOut (h : x ∈ e.copyOut.buf ++ e.copyOut.log) : x ∈ e.buf ++ e.log :=
  List.mem_of_mem_take h

theorem mem_flush (h : x ∈ e.flush.buf ++ e.flush.log) : x ∈ e.buf ++ e.log := mem_copyOut h

/-- The entry that an occurrence with a token adds (R391 to R397). -/
theorem mem_record {code : Nat} {measure : Int} {stamp : U64} {seq now depth kind : Nat} {ocb : List OcbEntry} {u : EvState}
    (hu : u = e.record code measure stamp seq now depth kind ocb) (h : x ∈ u.buf ++ u.log) :
    x ∈ e.buf ++ e.log ∨ (x.stamp = stamp ∧ x.code = code) := by
  have added {b l : List EvEntry} {y : EvEntry} (hy : y.stamp = stamp ∧ y.code = code) (hx : x ∈ y :: b ++ l) :
      x ∈ b ++ l ∨ (x.stamp = stamp ∧ x.code = code) := by
    obtain rfl | hx := List.mem_cons.mp hx
    · exact .inr hy
    · exact .inl hx
  subst hu
  unfold EvState.record at h
  dsimp only at h
  split at h
  · replace h := mem_copyOut h
    split at h
    · exact added ⟨rfl, rfl⟩ h
    · exact .inl h
  · split at h
    · exact added ⟨rfl, rfl⟩ h
    · exact .inl h

theorem raise_ev (s : State) (code : Nat) (m : Int) : (s.raise code m).ev =
    s.ev.record code (wrapS 64 m) s.stampNow.1 s.stampNow.2 s.monoSec (s.cfgN 0xB10201 code) (s.cfgN 0xB10203 code)
      (ocbAppend s code m) :=
  State.charge_ev _ _ _ _

/-- Settles O57: the stamp by its top bit, the release by the profile it takes, the records by what an occurrence and a flush keep. -/
theorem stampsFollowTheRunningProfile : Obligations.StampsFollowTheRunningProfile := by
  refine ⟨stampNow_form, fun s x hr ha ht hx hrec => ⟨_, exec_mainResetRelease_of_ready x hr ha ht, released_recHeadEnd x hrec, ?_⟩,
    fun s x hr ha ht hx => ⟨_, exec_mainResetRelease_of_ready x hr ha ht, ?_⟩, fun s code m e he => mem_record (raise_ev s code m) he,
    fun s => ⟨_, rfl, fun e he => mem_flush he⟩⟩
  · rw [stampNow_form, released_headEnd, decide_eq_false_iff_not]
    omega
  · rw [stampNow_form, released_headEnd, decide_eq_true_eq]
    exact hx

end Sys2Proof.Machine.Recorder

end

section
/-! SUPPORT. The delivery engine (R433 to R435): filling a host buffer moves records and keeps their order; nothing else changes them
but a return, a discard and a new reading. -/

namespace Sys2Proof.Machine.HostDelivery

/-- The records not yet returned to the host, oldest first. -/
def records (d : Delivery) : List Bytes := d.filling ++ d.waiting.map (·.2)

section Fill

variable (d : Delivery)

theorem fillBuffer_append (len used : Nat) (l : List (Nat × Bytes)) :
    (fillBuffer len used l).1 ++ (fillBuffer len used l).2.map (·.2) = l.map (·.2) := by
  induction l generalizing used with
  | nil => rfl
  | cons x l ih =>
    unfold fillBuffer
    split
    · simp [ih]
    · rfl

/-- Filling the buffer touches the records that are filled in and that wait. -/
theorem fill_eq : d.fill = { d with filling := d.fill.filling, waiting := d.fill.waiting } := by
  unfold Delivery.fill
  split
  · rfl
  · dsimp only
    split <;> rfl

@[simp] theorem records_fill : records d.fill = records d := by
  unfold Delivery.fill
  split
  · rfl
  · dsimp only
    split
    · rfl
    · rw [records, List.append_assoc, fillBuffer_append, records]

@[simp] theorem fill_enabled : d.fill.enabled = d.enabled := by rw [fill_eq]

@[simp] theorem fill_stopped : d.fill.stopped = d.stopped := by rw [fill_eq]

@[simp] theorem fill_skipped : d.fill.skipped = d.skipped := by rw [fill_eq]

@[simp] theorem fill_ring : d.fill.ring = d.ring := by rw [fill_eq]

@[simp] theorem fill_avail : d.fill.avail = d.avail := by rw [fill_eq]

@[simp] theorem fill_used : d.fill.used = d.used := by rw [fill_eq]

@[simp] theorem fill_gap : d.fill.gap = d.gap := by rw [fill_eq]

@[simp] theorem fill_returned : d.fill.returned = d.returned := by rw [fill_eq]

@[simp] theorem fill_raised : d.fill.raised = d.raised := by rw [fill_eq]

@[simp] theorem records_unfill : records d.unfill = records d := by simp [records, Delivery.unfill, Function.comp_def]

end Fill

section Commands

variable {s : State}

theorem exec_deliveryEnable : exec .deliveryEnable s = .next (if s.link.pcie = false ∨ s.link.dlv.enabled = true then s
    else s.setDlv (fun d => ((if d.stopped then { d with enabled := true, stopped := false, skipped := 0, ring := [], avail := d.used }
      else { d with enabled := true, stopped := false, skipped := 0 }).unfill).fill)) := rfl

theorem deliveryEnable_restarts (hp : s.link.pcie = true) (he : s.link.dlv.enabled = false) : ∃ t : State,
    exec .deliveryEnable s = .next t ∧ t.link.dlv.enabled = true ∧ t.link.dlv.stopped = false ∧ t.link.dlv.skipped = 0 ∧
      records t.link.dlv = records s.link.dlv ∧ t = { s with link := { s.link with dlv := t.link.dlv } } := by
  rw [exec_deliveryEnable, if_neg (by simp [hp, he])]
  refine ⟨_, rfl, ?_, ?_, ?_, ?_, rfl⟩
  all_goals
    simp only [State.setDlv, State.setLink, fill_enabled, fill_stopped, fill_skipped, records_fill, records_unfill]
    split <;> rfl

theorem dlvAvailWrite_takes (a : U32) (l : List (Nat × Nat)) (hp : s.link.pcie = true) (hon : s.link.dlv.on = true)
    (hst : s.link.dlv.stopped = false) : ∃ t : State, exec (.dlvAvailWrite a l) s = .next t ∧ t.link.dlv.avail = a ∧
      t.link.dlv.ring = s.link.dlv.ring ++ (l.take (a - s.link.dlv.avail).toNat).takeWhile descOk ∧
      records t.link.dlv = records s.link.dlv ∧
      (t.link.dlv.stopped = false ↔ (l.take (a - s.link.dlv.avail).toNat).all descOk = true) := by
  refine ⟨_, rfl, ?_⟩
  simp only [hp, hon, hst, State.setDlv, State.setLink, Bool.true_eq_false, Bool.false_eq_true, or_self, if_false, fill_avail, fill_ring,
    fill_stopped, records_fill]
  refine ⟨trivial, trivial, rfl, ?_⟩
  rw [bne_eq_false_iff_eq, List.all_eq_true, ← List.takeWhile_eq_self_iff]
  exact ⟨(List.takeWhile_prefix descOk).eq_of_length, congrArg List.length⟩

theorem exec_dlvBaseWrite (b : U64) (e : U32) (hp : s.link.pcie = true) : exec (.dlvBaseWrite b e) s =
    .next (s.setDlv (fun d => if d.base = b then { d with entries := e }
      else { d.discard with base := b, entries := e, ring := [], avail := d.used })) := by
  simp [exec, execDlvBaseWrite, hp]

/-- A discard leaves no record, and a gap that counts the ones lost where none was open. -/
theorem discard_gap (d : Delivery) (h : d.gap = none) : (d.discard.gap.map (·.2)).getD 0 = (records d).length := by
  have hl : d.unfill.waiting.length = (records d).length := by
    simp [records, Delivery.unfill]
  rw [← hl, Delivery.discard, h]
  cases d.unfill.waiting <;> rfl

theorem dlvBaseWrite_discards {b : U64} (e : U32) (hp : s.link.pcie = true) (hb : s.link.dlv.base ≠ b) : ∃ t : State,
    exec (.dlvBaseWrite b e) s = .next t ∧ t.link.dlv.base = b ∧ t.link.dlv.entries = e ∧ records t.link.dlv = [] ∧
      t.link.dlv.ring = [] ∧ (s.link.dlv.gap = none → (t.link.dlv.gap.map (·.2)).getD 0 = (records s.link.dlv).length) := by
  refine ⟨_, exec_dlvBaseWrite b e hp, ?_⟩
  simp only [State.setDlv, State.setLink, if_neg hb]
  exact ⟨trivial, trivial, rfl, trivial, discard_gap _⟩

theorem exec_deliveryBufferReturn_of_none (h : s.link.dlv.filling = [] ∨ s.link.dlv.ring = [] ∨ s.link.dlv.on = false ∨
    s.link.dlv.stopped = true) : exec .deliveryBufferReturn s = .next s := by
  simp only [exec, execDeliveryBufferReturn]
  split
  · rfl
  · rfl
  next hf hr =>
    rw [if_pos]
    obtain hc | hc | hc := h
    · exact absurd hc (by simp_all)
    · exact absurd hc (by simp_all)
    · exact hc

/-- The state before its vector once the buffer `b` is returned, with the descriptors `l` left. -/
def returned (s : State) (b : List Bytes) (l : List (Nat × Nat)) : State := s.setDlv (fun d =>
  ({ d with filling := [], ring := l, used := d.used + 1, returned := b :: d.returned } : Delivery).fill)

theorem exec_deliveryBufferReturn_returns {d : Nat × Nat} {l : List (Nat × Nat)} (hf : s.link.dlv.filling ≠ [])
    (hr : s.link.dlv.ring = d :: l) (hon : s.link.dlv.on = true) (hst : s.link.dlv.stopped = false) :
    exec .deliveryBufferReturn s = .next (returned s s.link.dlv.filling l).raiseDelivery := by
  obtain ⟨x, xs, hx⟩ := List.exists_cons_of_ne_nil hf
  simp only [exec, execDeliveryBufferReturn, hx, hr, hon, hst]
  rfl

theorem raiseDelivery_dlv (t : State) : ∃ o, t.raiseDelivery.link.dlv = { t.link.dlv with raised := true, owed := o } := by
  unfold State.raiseDelivery
  split
  next h => exact ⟨true, by rw [← h]; rfl⟩
  · exact ⟨false, rfl⟩

theorem raiseDelivery_msix (t : State) :
    t.raiseDelivery.link.msix = if t.link.dlv.raised = true then t.link.msix else (0, 1) :: t.link.msix := by
  unfold State.raiseDelivery
  split <;> rfl

theorem deliveryBufferReturn_returns {d : Nat × Nat} {l : List (Nat × Nat)} (hf : s.link.dlv.filling ≠ [])
    (hr : s.link.dlv.ring = d :: l) (hon : s.link.dlv.on = true) (hst : s.link.dlv.stopped = false) : ∃ t : State,
    exec .deliveryBufferReturn s = .next t ∧ t.link.dlv.used = s.link.dlv.used + 1 ∧ t.link.dlv.ring = l ∧
      t.link.dlv.returned = s.link.dlv.filling :: s.link.dlv.returned ∧ records t.link.dlv = s.link.dlv.waiting.map (·.2) ∧
      t.link.dlv.raised = true ∧ t.link.msix = (if s.link.dlv.raised = true then s.link.msix else (0, 1) :: s.link.msix) := by
  refine ⟨_, exec_deliveryBufferReturn_returns hf hr hon hst, ?_⟩
  obtain ⟨o, ho⟩ := raiseDelivery_dlv (returned s s.link.dlv.filling l)
  have hrec : records (returned s s.link.dlv.filling l).raiseDelivery.link.dlv = records (returned s s.link.dlv.filling l).link.dlv := by rw [ho]; rfl
  rw [hrec, raiseDelivery_msix, ho]
  simp only [returned, State.setDlv, State.setLink, records_fill, fill_used, fill_ring, fill_returned, fill_raised]
  exact ⟨trivial, trivial, trivial, rfl, trivial, trivial⟩

end Commands

section Readings

variable {s : State} {q : U64} {e : JEntry}

theorem exec_readingDelivery_skipped (h : s.entryOf q = none ∨ s.link.dlv.on = false) : exec (.readingDelivery q) s = .next s := by
  simp only [exec, execReadingDelivery]
  split
  · rfl
  next he => rw [if_pos (.inl (h.resolve_left (by simp [he])))]

/-- What the engine makes of a reading's entry `b` of sequence `q` with `room` bytes of buffer (R435). -/
def offered (room q : Nat) (b : Bytes) (d : Delivery) : Delivery :=
  let l := (match d.gap with | none => [] | some x => [(x.1, gapRecord x.1 x.2)]) ++ [(q, b)]
  if d.held + l.foldl (fun n (x : Nat × Bytes) => n + x.2.length) 0 ≤ room then
    ({ d with waiting := d.waiting ++ l, gap := none } : Delivery).fill
  else { d with
    skipped := d.skipped + 1
    gap := some (match d.gap with | none => (q, 1) | some x => (x.1, x.2 + 1)) }

theorem exec_readingDelivery_of_entry (he : s.entryOf q = some e) : exec (.readingDelivery q) s = .next
    (if s.link.dlv.on = false ∨ e.keepalive = true ∨ e.macCmd = true then s
    else s.setDlv (offered s.dlvRoom q.toNat ({ e with isOpen := true } : JEntry).bytes)) := by
  simp only [exec, execReadingDelivery, he]
  rfl

theorem exec_readingDelivery_of_reading (he : s.entryOf q = some e) (hk : e.keepalive = false) (hm : e.macCmd = false)
    (hon : s.link.dlv.on = true) : exec (.readingDelivery q) s =
    .next (s.setDlv (offered s.dlvRoom q.toNat ({ e with isOpen := true } : JEntry).bytes)) := by
  rw [exec_readingDelivery_of_entry he, if_neg (by simp [hk, hm, hon])]

variable {d : Delivery} {room n : Nat} {b : Bytes}

theorem offered_joins (hg : d.gap = none) (h : d.held + b.length ≤ room) :
    records (offered room n b d) = records d ++ [b] ∧ (offered room n b d).skipped = d.skipped := by
  simp [offered, hg, h]
  simp [records]

theorem offered_skips (hg : d.gap = none) (h : room < d.held + b.length) :
    records (offered room n b d) = records d ∧ (offered room n b d).skipped = d.skipped + 1 ∧
      (offered room n b d).gap = some (n, 1) := by
  simp [offered, hg, Nat.not_le.mpr h, records]

theorem offered_closesGap {g : Nat × Nat} (hg : d.gap = some g) (h : d.held + (gapRecord g.1 g.2).length + b.length ≤ room) :
    records (offered room n b d) = records d ++ [gapRecord g.1 g.2, b] ∧ (offered room n b d).gap = none := by
  rw [Nat.add_assoc] at h
  simp [offered, hg, h]
  simp [records]

end Readings

section Training

variable (s : State)

@[simp] theorem nvEvent_link (i p : Nat) : (s.nvEvent i p).link = s.link := by
  unfold State.nvEvent
  split
  · rfl
  · dsimp only
    split <;> rfl

@[simp] theorem nvEvent_nsUp (i p : Nat) : (s.nvEvent i p).arch.nsUp = s.arch.nsUp := by
  unfold State.nvEvent
  split
  · rfl
  · dsimp only
    split <;> rfl

theorem hostVolume_false_link : (s.hostVolume false).link = s.link := by
  simp only [State.hostVolume, Bool.false_eq_true, if_false]
  split <;> simp

theorem hostVolume_false_nsUp : (s.hostVolume false).arch.nsUp = s.hvPresent := by
  simp only [State.hostVolume, Bool.false_eq_true, if_false]
  split <;> simp

theorem exec_pcieLinkTrained : exec .pcieLinkTrained s =
    .next (if s.pwr.inReset = true then s else (s.setLink (fun l => { l with pcie := true })).hostVolume false) := rfl

end Training

/-- Settles O45: a clause for each command of the engine, by the records it leaves. -/
theorem readingsAreDeliveredToTheHost : Obligations.ReadingsAreDeliveredToTheHost := by
  refine ⟨fun s a l b e hp => ?_, fun s he => ?_, fun s hp he => deliveryEnable_restarts hp he, fun s hp => ?_, fun s a l hp => ⟨fun h => ?_,
      dlvAvailWrite_takes a l hp⟩, fun s b e hp => ⟨fun h => ?_, dlvBaseWrite_discards e hp⟩, fun s => exec_deliveryBufferReturn_of_none,
    fun s d l => deliveryBufferReturn_returns, fun s q => exec_readingDelivery_skipped, fun s q e he h => ?_,
    fun s q e he hk hm hon => ?_, fun s hr => ?_, fun s hr => ?_, fun s hp => ?_⟩
  · simp [exec, execDeliveryEnable, execDeliveryDisable, execDlvAvailWrite, execDlvBaseWrite, execPcieHotReset, hp]
  · rw [exec_deliveryEnable, if_pos (.inr he)]
  · simp [exec, execDeliveryDisable, hp, State.setDlv, State.setLink]
  · simp only [exec, execDlvAvailWrite, hp, State.setDlv, State.setLink, Bool.true_eq_false, if_false, if_pos h]
  · simp only [exec_dlvBaseWrite b e hp, State.setDlv, State.setLink, if_pos h]
  · rw [exec_readingDelivery_of_entry he, if_pos (.inr h)]
  · have h := exec_readingDelivery_of_reading he hk hm hon
    exact ⟨fun hg hroom => ⟨_, h, offered_joins hg hroom⟩, fun hg hroom => ⟨_, h, offered_skips hg hroom⟩,
      fun g hg hroom => ⟨_, h, offered_closesGap hg hroom⟩⟩
  · rw [exec_pcieLinkTrained, if_pos hr]
  · rw [exec_pcieLinkTrained, if_neg (by simp [hr])]
    refine ⟨_, rfl, ?_, ?_, ?_⟩
    · rw [hostVolume_false_link]
      rfl
    · rw [hostVolume_false_link]
      rfl
    · rw [hostVolume_false_nsUp]
      change (s.cfgB 0x804001 && true && s.hvBlocks != 0) = _
      rw [Bool.and_true]
  · simp [exec, execPcieHotReset, hp, State.updateFn1, State.setLink]

end Sys2Proof.Machine.HostDelivery

end

section
/-! SUPPORT. A heartbeat that forms the pair (R307, R380): disconnections that waited for it are tested again, and what they leave
of a ledger is mirrored at once (R310, R387). -/

namespace Sys2Proof.Machine.Heartbeats

/-- An Active unit that has heard no partner yet, with the disconnection of meter 5 due; nothing is unacknowledged. -/
def dueAtForming : State := { State.reset with
  pair := { State.reset.pair with role := .active }
  bill := { State.reset.bill with app := { State.reset.bill.app with ledgers := [(5, { st := .exhausted, notice := some 0 })] } } }

/-- The first heartbeat of a healthy Standby. -/
def firstOfStandby : Heartbeat :=
  { role := .standby, pos := 1, claim := 0, winner := none, health := 50, released := false, ocb := false, headEnd := false
    digest := [], lastSeq := 0 }

/-- The messages not acknowledged after an outcome. -/
def unackedAfter (r : Host.Outcome State Fault Refusal) : List (U64 × MirrorKind × Nat × Bytes) :=
  match r with
  | .next t => t.pair.unacked
  | _ => []

/-- The heartbeat leaves a message unacknowledged: the mirrored ledger of meter 5. -/
theorem unacked_after_forming : unackedAfter (exec (.heartbeatRx firstOfStandby) dueAtForming) ≠ [] := by decide +kernel

/-- Refutes O39: a heartbeat that forms the pair has a due disconnection tested again, and the ledger it changes is mirrored, so a
message is unacknowledged after it that was not before. -/
theorem not_heartbeatsAndHandOver : ¬ Obligations.HeartbeatsAndHandOver := by
  intro h
  obtain ⟨-, -, hrx, -⟩ := h
  obtain ⟨t, ht, -, -, -, hkept, -⟩ := hrx dueAtForming firstOfStandby (by decide)
  have hne := unacked_after_forming
  rw [ht] at hne
  obtain ⟨m, hm⟩ := List.exists_mem_of_ne_nil _ hne
  exact absurd (hkept m hm).1 List.not_mem_nil

end Sys2Proof.Machine.Heartbeats

end

section
/-! SUPPORT. The seat of a unit: its keys, its place in the pair but for the mirror stream, and its power state. Raising, mirroring,
programming, ledgers, relays and campaigns go on without it; for each such function one lemma says so, proved from those of the
functions that it calls. -/

namespace Sys2Proof.Machine

/-- A pair's state but for its mirror stream. -/
def PairState.steady (p : PairState) : PairState := { p with txSeq := 0, unacked := [] }

/-- The keys, the pair but for the mirror stream, and the power state. -/
def State.seat (s : State) : TrustState × PairState × PowerState := (s.trust, s.pair.steady, s.pwr)

end Sys2Proof.Machine

namespace Sys2Proof.Machine.Seat

@[simp] theorem seat_mk (p o n l d e t w li pa tr c f a ar b we ba u) :
    (State.mk p o n l d e t w li pa tr c f a ar b we ba u).seat = (tr, pa.steady, w) := by
  unfold State.seat
  rfl

@[simp] theorem seat_ite {c : Prop} [Decidable c] (a b : State) :
    (if c then a else b).seat = if c then a.seat else b.seat := apply_ite _ _ _ _

@[simp] theorem foldl_seat {β : Type} {f : State → β → State} (h : ∀ t x, (f t x).seat = t.seat) (l : List β) (s : State) :
    (l.foldl f s).seat = s.seat := Standing.foldl_kept State.seat h l s

@[simp] theorem steady_sent (p : PairState) (n : U64) (l) : ({ p with txSeq := n, unacked := l } : PairState).steady = p.steady := by
  unfold PairState.steady
  rfl

section Kept

variable (s : State)

@[simp] theorem seat_eta : (s.trust, s.pair.steady, s.pwr) = s.seat := by
  cases s
  rfl

@[simp] theorem emit_seat (o : Out) : (s.emit o).seat = s.seat := by simp [State.emit]

@[simp] theorem openVal_seat (place : Nat) : (s.openVal place).2.seat = s.seat := by simp [State.openVal]

@[simp] theorem take_seat (a res amount : Nat) (borrower : Bool) : (s.take a res amount borrower).seat = s.seat := by
  simp [State.take]

@[simp] theorem charge_seat (a res amount : Nat) : (s.charge a res amount).seat = s.seat := by simp [State.charge]

@[simp] theorem raise_seat (code : Nat) (measure : Int) : (s.raise code measure).seat = s.seat := by simp [State.raise]

@[simp] theorem sendPair_seat (kind : MirrorKind) (key : Nat) (body : Bytes) : (s.sendPair kind key body).seat = s.seat := by
  simp [State.sendPair]

@[simp] theorem mirror_seat (kind : MirrorKind) (key : Nat) (body : Bytes) : (s.mirror kind key body).seat = s.seat := by
  simp [State.mirror]

@[simp] theorem chargeOpen_seat (place a res : Nat) : (s.chargeOpen place a res).seat = s.seat := by simp [State.chargeOpen]

@[simp] theorem usePage_seat (page acct transfers : Nat) : (s.usePage page acct transfers).seat = s.seat := by
  simp [State.usePage]

@[simp] theorem respondNow_seat (r : Req) (a : Answer) : (s.respondNow r a).seat = s.seat := by
  unfold State.respondNow
  (repeat' split) <;> simp

@[simp] theorem respond_seat (r : Req) (a : Answer) : (s.respond r a).seat = s.seat := by simp [State.respond]

@[simp] theorem setCmd_seat (num inst st : Nat) (a : U32) : (s.setCmd num inst st a).seat = s.seat := by simp [State.setCmd]

@[simp] theorem endCommand_seat (num inst : Nat) (who : Option Req) (a : Option Abort) :
    (s.endCommand num inst who a).seat = s.seat := by
  unfold State.endCommand
  (repeat' split) <;> simp

@[simp] theorem setItems_seat (f : Nat) (l : List Item) : (s.setItems f l).seat = s.seat := by simp [State.setItems]

@[simp] theorem append_seat (f : Nat) (it : Item) (newDesc : Bool) : (s.append f it newDesc).seat = s.seat := by
  simp [State.append]

@[simp] theorem setItem_seat (f id : Nat) (g : Item → Item) : (s.setItem f id g).seat = s.seat := by simp [State.setItem]

@[simp] theorem enqueue_seat (acct f kind key ref : Nat) (telemetry : Bool) :
    (s.enqueue acct f kind key ref telemetry).2.seat = s.seat := by
  simp only [State.enqueue]
  (repeat' split) <;> simp

@[simp] theorem produce_seat (acct f kind key ref : Nat) (telemetry : Bool) :
    (s.produce acct f kind key ref telemetry).seat = s.seat := by
  simp [State.produce]

@[simp] theorem countDispatch_seat (f : Nat) (it : Item) : (s.countDispatch f it).seat = s.seat := by
  simp [State.countDispatch]

@[simp] theorem chargeRun_seat (core f : Nat) (it : Item) (since : Nat) : (s.chargeRun core f it since).seat = s.seat := by
  simp [State.chargeRun]

@[simp] theorem dispatchTo_seat (core f : Nat) (it : Item) : (s.dispatchTo core f it).seat = s.seat := by
  simp [State.dispatchTo]

@[simp] theorem preempt_seat (core : Nat) : (s.preempt core).seat = s.seat := by
  unfold State.preempt
  (repeat' split) <;> simp

@[simp] theorem preemptAll_seat (n : Nat) (s : State) : (s.preemptAll n).seat = s.seat := by
  induction n generalizing s with
  | zero => rfl
  | succ n ih =>
    simp only [State.preemptAll]
    (repeat' split) <;> simp [ih]

@[simp] theorem serveStalled_seat : s.serveStalled.seat = s.seat := by
  unfold State.serveStalled
  refine foldl_seat (fun t x => ?_) _ _
  (repeat' split) <;> simp

@[simp] theorem scheduleRounds_seat (n : Nat) (s : State) : (s.scheduleRounds n).seat = s.seat := by
  induction n generalizing s with
  | zero => rfl
  | succ n ih => simp [State.scheduleRounds, ih]

@[simp] theorem schedule_seat : s.schedule.seat = s.seat := by simp [State.schedule]

@[simp] theorem placeUnit_seat (region logical acct first : Nat) (stored : Bytes) :
    (s.placeUnit region logical acct first stored).seat = s.seat := by
  simp only [State.placeUnit]
  (repeat' split) <;> simp

@[simp] theorem program_seat (region logical acct first : Nat) (data : Bytes) :
    (s.program region logical acct first data).seat = s.seat := by
  simp [State.program]

@[simp] theorem programFull_seat (cls n : Nat) (s : State) : (s.programFull cls n).seat = s.seat := by
  induction n generalizing s with
  | zero => rfl
  | succ n ih =>
    simp only [State.programFull]
    split <;> simp [ih]

@[simp] theorem trimStream_seat (cls : Nat) : (s.trimStream cls).seat = s.seat := by simp [State.trimStream]

@[simp] theorem setRecs_seat (cls : Nat) (l : List ArchRec) : (s.setRecs cls l).seat = s.seat := by simp [State.setRecs]

@[simp] theorem dropOldest_seat (cls : Nat) : (s.dropOldest cls).seat = s.seat := by simp [State.dropOldest]

@[simp] theorem makeRoom_seat (len n : Nat) (s : State) : (s.makeRoom len n).seat = s.seat := by
  induction n generalizing s with
  | zero => rfl
  | succ n ih =>
    unfold State.makeRoom
    (repeat' split) <;> simp [ih]

@[simp] theorem putRecord_seat (cls : Nat) (r : ArchRec) : (s.putRecord cls r).seat = s.seat := by simp [State.putRecord]

@[simp] theorem appendRec_seat (cls : Nat) (r : ArchRec) : (s.appendRec cls r).seat = s.seat := by simp [State.appendRec]

@[simp] theorem archive_seat (cls coding : Nat) (subject : U32) (stamp : Nat) (body : Bytes) :
    (s.archive cls coding subject stamp body).seat = s.seat := by
  simp [State.archive]

@[simp] theorem checkPool_seat : s.checkPool.seat = s.seat := by simp [State.checkPool]

@[simp] theorem recordPrepay_seat (h : Nat) : (s.recordPrepay h).seat = s.seat := by simp [State.recordPrepay]

@[simp] theorem setApp_seat (f : AppState → AppState) : (s.setApp f).seat = s.seat := by simp [State.setApp]

@[simp] theorem followRatesAt_seat (at_ : Int) (bmin : Nat) : (s.followRatesAt at_ bmin).seat = s.seat := by
  simp [State.followRatesAt]

@[simp] theorem feederDemand_seat (f : Nat) (mw : Int) : (s.feederDemand f mw).seat = s.seat := by simp [State.feederDemand]

@[simp] theorem setWeir_seat (f : WeirState → WeirState) : (s.setWeir f).seat = s.seat := by simp [State.setWeir]

@[simp] theorem setFeeder_seat (f : Nat) (g : Feeder → Feeder) : (s.setFeeder f g).seat = s.seat := by simp [State.setFeeder]

@[simp] theorem closeDemand_seat (f : Nat) (extra : U16) : (s.closeDemand f extra).seat = s.seat := by
  simp [State.closeDemand]

@[simp] theorem endAggregate_seat (f : Nat) : (s.endAggregate f).seat = s.seat := by simp [State.endAggregate]

@[simp] theorem missBegun_seat : s.missBegun.seat = s.seat := by simp [State.missBegun]

@[simp] theorem weirPowerFail_seat : s.weirPowerFail.seat = s.seat := by simp [State.weirPowerFail]

@[simp] theorem tell_seat (h : Nat) (m : MeterMsg) : (s.tell h m).seat = s.seat := by
  unfold State.tell
  (repeat' split) <;> simp

@[simp] theorem setMbill_seat (h : Nat) (f : MeterBill → MeterBill) : (s.setMbill h f).seat = s.seat := by
  simp [State.setMbill]

@[simp] theorem openAt_seat (legal : Int) (flags : U16) : (s.openAt legal flags).seat = s.seat := by simp [State.openAt]

@[simp] theorem closeIval_seat (at_ legal : Int) (flags : U16) (edge : Bool) :
    (s.closeIval at_ legal flags edge).seat = s.seat := by
  simp [State.closeIval]

@[simp] theorem setLedger_seat (h : Nat) (f : Ledger → Ledger) : (s.setLedger h f).seat = s.seat := by simp [State.setLedger]

@[simp] theorem closeMeter_seat (h : Nat) (x : Hist) (at_ : Int) : (s.closeMeter h x at_).seat = s.seat := by
  simp [State.closeMeter]

@[simp] theorem closePeriod_seat (at_ : Int) (bmin passed : Nat) (flags : U16) :
    (s.closePeriod at_ bmin passed flags).seat = s.seat := by
  simp [State.closePeriod]

@[simp] theorem closeScheduled_seat (at_ : Int) (bmin : Nat) (flags : U16) :
    (s.closeScheduled at_ bmin flags).seat = s.seat := by
  simp [State.closeScheduled]

@[simp] theorem mirrorLedger_seat (h : Nat) : (s.mirrorLedger h).seat = s.seat := by simp [State.mirrorLedger]

@[simp] theorem tellCredit_seat (h : Nat) : (s.tellCredit h).seat = s.seat := by simp [State.tellCredit]

@[simp] theorem autoEc_seat (h : Nat) : (s.autoEc h).seat = s.seat := by simp [State.autoEc]

@[simp] theorem enterCredit_seat (h : Nat) (c : Credit) : (s.enterCredit h c).seat = s.seat := by
  unfold State.enterCredit
  (repeat' split) <;> simp

@[simp] theorem evalCredit_seat (h : Nat) : (s.evalCredit h).seat = s.seat := by simp [State.evalCredit]

@[simp] theorem changeLedger_seat (h : Nat) (f : Ledger → Ledger) : (s.changeLedger h f).seat = s.seat := by
  simp [State.changeLedger]

@[simp] theorem recoverDebt_seat (h secs : Nat) : (s.recoverDebt h secs).seat = s.seat := by simp [State.recoverDebt]

@[simp] theorem timeCharges_seat : s.timeCharges.seat = s.seat := by simp [State.timeCharges]

@[simp] theorem sendDisconnect_seat (h : Nat) : (s.sendDisconnect h).seat = s.seat := by simp [State.sendDisconnect]

@[simp] theorem tryDisconnect_seat (h : Nat) : (s.tryDisconnect h).seat = s.seat := by
  simp only [State.tryDisconnect]
  (repeat' split) <;> simp

@[simp] theorem retest_seat : s.retest.seat = s.seat := by simp [State.retest]

@[simp] theorem storeHeat_seat : s.storeHeat.seat = s.seat := by simp [State.storeHeat]

@[simp] theorem intervalEnd_seat (legal : Int) : (s.intervalEnd legal).seat = s.seat := by
  unfold State.intervalEnd
  (repeat' split) <;> simp

@[simp] theorem switchesAt_seat (at_ : Int) (bmin : Nat) (flags : U16) : (s.switchesAt at_ bmin flags).seat = s.seat := by
  simp [State.switchesAt]

@[simp] theorem boundaryEvents_seat (legal : Int) : (s.boundaryEvents legal).seat = s.seat := by simp [State.boundaryEvents]

@[simp] theorem billWarning_seat : s.billWarning.seat = s.seat := by simp [State.billWarning]

@[simp] theorem programBuffer_seat : s.programBuffer.seat = s.seat := by simp [State.programBuffer]

@[simp] theorem setCamp_seat (c : Nat) (f : Campaign → Campaign) : (s.setCamp c f).seat = s.seat := by simp [State.setCamp]

@[simp] theorem campDone_seat (c : Nat) : (s.campDone c).seat = s.seat := by simp [State.campDone]

@[simp] theorem placeAll_seat : s.placeAll.seat = s.seat := by simp [State.placeAll]

@[simp] theorem campaignsResume_seat : s.campaignsResume.seat = s.seat := by simp [State.campaignsResume]

@[simp] theorem followLedgers_seat : s.followLedgers.seat = s.seat := by simp [State.followLedgers]

end Kept

end Sys2Proof.Machine.Seat
end

section
/-! SUPPORT. Rounds of claims (R371 to R373), the roles that they give (R378, R385), health (R374, R375) and the faults that force
it to 0: what each leaves of the pair's state. -/

namespace Sys2Proof.Machine.PairRounds

open Seat

/-! ### One round (R371 to R373) -/

section Round

variable (s : State) (p : Option (U8 × Bool × U8)) (f : Bool)

/-- The partner's claim, position and tie bits on the line; zeros where it takes no part. -/
def heard : Nat × Nat × Nat := match p with | none => (0, 0, 0) | some x => (x.1.toNat, bit x.2.1, x.2.2.toNat)

/-- This unit's rank in a round, with the tie bits that it draws. -/
def ownRank : Nat := claimRank s.drives s.pwr.strapPos (s.draw.1.toNat % 256)

/-- The partner's rank in a round. -/
def heardRank : Nat := claimRank (heard p).1 (heard p).2.1 (heard p).2.2

/-- This unit wins the round. -/
def wins : Bool := s.drives != 0 && (!((heard p).1 != 0) || decide (heardRank p ≤ ownRank s))

/-- Both drive one claim at one position, and the partner's tie bits are the higher. -/
def equalPositions : Bool :=
  s.drives != 0 && (heard p).1 != 0 && s.drives == (heard p).1 && s.pwr.strapPos == (heard p).2.1 && decide (ownRank s < heardRank p)

/-- A win that counts towards a take-over: no line fault, and the partner released or silent. -/
def winsFreely : Bool :=
  wins s p && !s.pair.lineFault && ((match s.pair.hb with | some h => h.released | none => true) || !f)

/-- The round counted. -/
def counted : State :=
  let s0 := if s.drives = 0 then s else s.draw.2
  s0.setPair (fun x => { x with
    winner := if wins s p then some s.pwr.strapPos else if (heard p).1 != 0 then some (heard p).2.1 else none
    partnerClaim := BitVec.ofNat 8 (heard p).1, claim := BitVec.ofNat 8 s.drives
    wins := if wins s p then x.wins + 1 else 0
    freeWins := if winsFreely s p f then x.freeWins + 1 else 0
    clean := s0.pair.clean + 1
    lineFault := x.lineFault && decide (s0.pair.clean + 1 < 8) })

theorem exec_claimRound : exec (.claimRound p f) s = .next (if s.pair.role = .solo then s
    else
      let s2 := if equalPositions s p then
          (((counted s p f).setPair (fun x => { x with equalPos := true, mismatch := some 4, health := 0, claim := 0 })).raise 0x240 4).giveUp
        else counted s p f
      (if s.drives != 0 && !wins s p && !s2.pair.lineFault then s2.setPair (fun x => { x with won := false }) else s2).roundRole
        (wins s p) (heard p).1 f) := by
  rfl

variable {s p f}

theorem exec_claimRound_won (hr : s.pair.role ≠ .solo) (hw : wins s p = true) (he : equalPositions s p = false) :
    exec (.claimRound p f) s = .next ((counted s p f).roundRole true (heard p).1 f) := by
  simp [exec_claimRound, hr, hw, he]

theorem exec_claimRound_lost (hr : s.pair.role ≠ .solo) (hd : s.drives ≠ 0) (hw : wins s p = false) (he : equalPositions s p = false)
    (hl : s.pair.lineFault = false) : exec (.claimRound p f) s =
      .next (((counted s p f).setPair (fun x => { x with won := false })).roundRole false (heard p).1 f) := by
  have hl' : (counted s p f).pair.lineFault = false := by simp [counted, hd, State.setPair, State.draw, hl]
  simp [exec_claimRound, hr, hw, he, hd, hl']

theorem exec_claimRound_idle (hr : s.pair.role ≠ .solo) (hd : s.drives = 0) :
    exec (.claimRound p f) s = .next ((counted s p f).roundRole false (heard p).1 f) := by
  have hw : wins s p = false := by simp [wins, hd]
  have he : equalPositions s p = false := by simp [equalPositions, hd]
  simp [exec_claimRound, hr, hw, he, hd]

end Round

/-! ### Roles after a round (R372, R378, R385) -/

section Roles

variable (s : State)

theorem pair_of_seat {α : Type} (g : PairState → α) (hg : ∀ p : PairState, g p.steady = g p) {s : State} {p : PairState}
    (h : s.seat.2.1 = p.steady) : g s.pair = g p :=
  (hg s.pair).symm.trans ((congrArg g h).trans (hg p))

/-- The pair's state of a Standby that takes over. -/
def tookOver (cause : Nat) : PairState := { s.pair with
  role := .active, won := true, released := false, failovers := s.pair.failovers + 1, lastFailover := s.time.net
  failCause := BitVec.ofNat 8 cause }

theorem takeOver_seat (cause : Nat) :
    (s.takeOver cause).seat = (s.trust, (tookOver s cause).steady, { s.pwr with quiet := false }) := by
  rw [State.takeOver, retest_seat, raise_seat, campaignsResume_seat, followLedgers_seat]
  rfl

theorem takeOver_pair {α : Type} (g : PairState → α) (hg : ∀ p : PairState, g p.steady = g p) (cause : Nat) :
    g (s.takeOver cause).pair = g (tookOver s cause) :=
  pair_of_seat g hg (congrArg (·.2.1) (takeOver_seat s cause))

theorem pwr_of_seat {s : State} {w : PowerState} (h : s.seat.2.2 = w) : s.pwr = w := h

theorem takeOver_quiet (cause : Nat) : (s.takeOver cause).pwr.quiet = false :=
  congrArg PowerState.quiet (pwr_of_seat (congrArg (·.2.2) (takeOver_seat s cause)))

theorem roundRole_standby {c : Nat} {f : Bool} (hr : s.pair.role = .standby) (hf : 2 ≤ s.pair.freeWins) :
    s.roundRole true c f = s.takeOver (s.takeCause f) := by
  unfold State.roundRole
  rw [hr]
  exact if_pos ⟨rfl, hf⟩

theorem roundRole_lost (c : Nat) (f : Bool) : s.roundRole false c f = s ∨ s.roundRole false c f = s.enterSyncing := by
  unfold State.roundRole
  split
  · rw [if_neg Bool.false_ne_true]
    split
    · exact .inr rfl
    · exact .inl rfl
  · exact .inl (if_neg fun h => Bool.false_ne_true h.1)
  · exact .inl (if_neg fun h => Bool.false_ne_true h.1)
  · exact .inl rfl

theorem roundRole_won_cases (c : Nat) (f : Bool) : s.roundRole true c f = s ∨ s.roundRole true c f = s.becomeActive ∨
    (∃ k, s.roundRole true c f = s.takeOver k) ∨ s.roundRole true c f = s.setPair (fun x => { x with won := true }) := by
  unfold State.roundRole
  split
  · rw [if_pos rfl]
    exact (ite_eq_or_eq _ _ _).elim (fun h => .inr (.inl h)) .inl
  · exact (ite_eq_or_eq _ _ _).elim (fun h => .inr (.inr (.inl ⟨_, h⟩))) .inl
  · exact (ite_eq_or_eq _ _ _).elim (fun h => .inr (.inr (.inr h))) .inl
  · exact .inl rfl

/-- What a round has counted. -/
def roundCount (p : PairState) : Option Nat × U8 × Nat := (p.winner, p.partnerClaim, p.wins)

theorem takeOver_roundCount (k : Nat) : roundCount (s.takeOver k).pair = roundCount s.pair :=
  takeOver_pair s roundCount (fun _ => rfl) k

theorem becomeActive_roundCount : roundCount s.becomeActive.pair = roundCount s.pair := by
  unfold State.becomeActive
  rfl

/-- A won round's role changes leave the count of the round. -/
theorem roundRole_won (c : Nat) (f : Bool) : roundCount (s.roundRole true c f).pair = roundCount s.pair := by
  obtain e | e | ⟨k, e⟩ | e := roundRole_won_cases s c f <;> rw [e]
  · exact becomeActive_roundCount s
  · exact takeOver_roundCount s k
  · rfl

end Roles

/-! ### The claims of a round -/

section Claims

variable {s : State} {c t : U8} {b f : Bool}

theorem bit_le (b : Bool) : bit b ≤ 1 := by cases b <;> decide

theorem wins_of_higher (h : c.toNat < s.drives) : wins s (some (c, b, t)) = true := by
  have hb := bit_le b
  have ht := t.isLt
  simp only [wins, heard, heardRank, ownRank, claimRank, Bool.and_eq_true, bne_iff_ne, Bool.or_eq_true]
  exact ⟨by omega, .inr (decide_eq_true (by omega))⟩

theorem loses_of_lower (h : s.drives < c.toNat) (hp : s.pwr.strapPos ≤ 1) : wins s (some (c, b, t)) = false := by
  have ht : s.draw.1.toNat % 256 < 256 := Nat.mod_lt _ (by decide)
  simp only [wins, heard, heardRank, ownRank, claimRank, Bool.and_eq_false_iff, Bool.or_eq_false_iff]
  exact .inr ⟨by simp; omega, decide_eq_false (by omega)⟩

theorem equalPositions_of_ne (h : s.drives ≠ c.toNat) : equalPositions s (some (c, b, t)) = false := by
  simp [equalPositions, heard, h]

theorem higherClaim_wins (hr : s.pair.role ≠ .solo) (h : c.toNat < s.drives) : ∃ u : State,
    exec (.claimRound (some (c, b, t)) f) s = .next u ∧ u.pair.winner = some s.pwr.strapPos ∧ u.pair.partnerClaim = c ∧
      u.pair.wins = s.pair.wins + 1 := by
  have hw := wins_of_higher (b := b) (t := t) h
  have hd : s.drives ≠ 0 := by omega
  have hcount : roundCount (counted s (some (c, b, t)) f).pair = (some s.pwr.strapPos, c, s.pair.wins + 1) := by
    simp [roundCount, counted, hw, hd, State.setPair, State.draw, heard]
  have hround := (roundRole_won (counted s (some (c, b, t)) f) (heard (some (c, b, t))).1 f).trans hcount
  obtain ⟨hwinner, hclaim, hwins⟩ : _ ∧ _ ∧ _ := by simpa [roundCount] using hround
  exact ⟨_, exec_claimRound_won hr hw (equalPositions_of_ne (by omega)), hwinner, hclaim, hwins⟩

theorem lowerClaim_loses (hr : s.pair.role ≠ .solo) (h0 : 0 < s.drives) (h : s.drives < c.toNat) (hp : s.pwr.strapPos ≤ 1)
    (hl : s.pair.lineFault = false) : ∃ u : State, exec (.claimRound (some (c, b, t)) f) s = .next u ∧
      u.pair.winner = some (bit b) ∧ u.pair.wins = 0 ∧ u.pair.freeWins = 0 ∧ u.pair.won = false ∧ u.ev = s.ev := by
  have hw := loses_of_lower (b := b) (t := t) h hp
  have hd : s.drives ≠ 0 := by omega
  have hc : c.toNat ≠ 0 := by omega
  refine ⟨_, exec_claimRound_lost hr hd hw (equalPositions_of_ne (by omega)) hl, ?_⟩
  have hk : ∀ x ∈ [(counted s (some (c, b, t)) f).setPair (fun x => { x with won := false }),
      ((counted s (some (c, b, t)) f).setPair (fun x => { x with won := false })).enterSyncing],
      x.pair.winner = some (bit b) ∧ x.pair.wins = 0 ∧ x.pair.freeWins = 0 ∧ x.pair.won = false ∧ x.ev = s.ev := by
    simp [counted, winsFreely, hw, hd, hc, State.setPair, State.draw, heard, State.enterSyncing]
  obtain e | e := roundRole_lost ((counted s (some (c, b, t)) f).setPair (fun x => { x with won := false })) (heard (some (c, b, t))).1 f
  · exact hk _ (by simp [e])
  · exact hk _ (by simp [e])

theorem noClaim_neither (p : Option (U8 × Bool × U8)) (hr : s.pair.role ≠ .solo) (hd : s.drives = 0) : ∃ u : State,
    exec (.claimRound p f) s = .next u ∧ u.pair.won = s.pair.won ∧ u.pair.wins = 0 ∧ u.dict = s.dict ∧ u.ev = s.ev := by
  have hw : wins s p = false := by simp [wins, hd]
  refine ⟨_, exec_claimRound_idle hr hd, ?_⟩
  obtain e | e := roundRole_lost (counted s p f) (heard p).1 f <;> rw [e] <;>
    simp [counted, hw, hd, State.setPair, State.enterSyncing]

/-- A Standby whose partner is silent takes over with its second free win (R378, R385). -/
theorem silentPartner_takeOver (hr : s.pair.role = .standby) (hd : 0 < s.drives) (hl : s.pair.lineFault = false)
    (hf : 1 ≤ s.pair.freeWins) : ∃ u : State, exec (.claimRound none false) s = .next u ∧ u.pair.role = .active ∧ u.pair.won = true ∧
      u.pair.failovers = s.pair.failovers + 1 ∧ u.pair.lastFailover = s.time.net ∧ u.pwr.quiet = false := by
  have hd' : s.drives ≠ 0 := by omega
  have hw : wins s none = true := by simp [wins, heard, hd']
  have hfree : winsFreely s none false = true := by simp [winsFreely, hw, hl]
  have hc : (counted s none false).pair.role = .standby ∧ 2 ≤ (counted s none false).pair.freeWins ∧
      (counted s none false).pair.failovers = s.pair.failovers ∧ (counted s none false).time.net = s.time.net := by
    simp [counted, hd', hfree, State.setPair, State.draw, hr, hf]
  obtain ⟨hrole, hfree2, hover, hnet⟩ := hc
  refine ⟨_, exec_claimRound_won (by simp [hr]) hw (by simp [equalPositions, heard]), ?_⟩
  rw [roundRole_standby _ hrole hfree2, ← hover, ← hnet]
  generalize counted s none false = u
  generalize u.takeCause false = k
  exact ⟨takeOver_pair u (·.role) (fun _ => rfl) k, takeOver_pair u (·.won) (fun _ => rfl) k,
    takeOver_pair u (·.failovers) (fun _ => rfl) k, takeOver_pair u (·.lastFailover) (fun _ => rfl) k, takeOver_quiet u k⟩

end Claims

/-! ### Giving up control (R375) -/

section GiveUp

variable (s : State)

/-- The pair's state of a holder that has given up control. -/
def gaveUp : PairState := { s.pair with
  handover := none, yielding := false, won := false, wins := 0, freeWins := 0, claim := 0, released := true, role := .failed
  gapStart := s.time.net }

theorem dropHandover_pair : s.dropHandover.pair = { s.pair with handover := none, yielding := false } := by
  simp only [State.dropHandover, State.setPair]
  split <;> simp

@[simp] theorem dropHandover_time : s.dropHandover.time = s.time := by
  simp only [State.dropHandover, State.setPair]
  split <;> simp

@[simp] theorem dropHandover_pwr : s.dropHandover.pwr = s.pwr := by
  simp only [State.dropHandover, State.setPair]
  split <;> simp

@[simp] theorem dropHandover_trust : s.dropHandover.trust = s.trust := by
  simp only [State.dropHandover, State.setPair]
  split <;> simp

@[simp] theorem dropHandover_ev : s.dropHandover.ev = s.ev := by
  simp only [State.dropHandover, State.setPair]
  split <;> simp

theorem giveUp_pair : s.giveUp.pair = if s.pair.role = .solo ∨ s.pair.won = false then s.pair else gaveUp s := by
  unfold State.giveUp
  split
  · rfl
  · simp [State.relaysOff, dropHandover_pair, gaveUp]

@[simp] theorem giveUp_pwr : s.giveUp.pwr = s.pwr := by
  unfold State.giveUp
  split <;> simp [State.relaysOff]

@[simp] theorem giveUp_trust : s.giveUp.trust = s.trust := by
  unfold State.giveUp
  split <;> simp [State.relaysOff]

theorem giveUp_ev : s.giveUp.ev = if s.pair.role = .solo ∨ s.pair.won = false then s.ev else s.ev.flush := by
  unfold State.giveUp
  split <;> simp [State.relaysOff]

theorem giveUp_won (h : s.pair.role ≠ .solo) : s.giveUp.pair.won = false := by
  rw [giveUp_pair]
  split
  next hs => exact hs.resolve_left h
  · rfl

end GiveUp

/-! ### Health (R374, R375) -/

section Health

variable (s : State)

theorem scoreOf_forced (c : Nat) (h : c % 256 ≠ 0 ∨ c.testBit 15 = true) : scoreOf c = 0 := if_pos h

/-- The conditions and the score written, before a holder with score 0 gives up. -/
def scored : State := s.setPair (fun x => { x with cond := BitVec.ofNat 32 s.conditions, health := scoreOf s.conditions, lease := true })

theorem evalHealth_eq : s.evalHealth =
    let t := if scoreOf s.conditions = 0 then (scored s).giveUp else scored s
    t.setPair (fun x => { x with claim := BitVec.ofNat 8 t.drives }) := rfl

theorem drives_setClaim (t : State) (c : U8) : (t.setPair (fun x => { x with claim := c })).drives = t.drives := rfl

theorem healthEvaluation_writes : ∃ t : State, exec .healthEvaluation s = .next t ∧ t.pair.cond = BitVec.ofNat 32 s.conditions ∧
    t.pair.health = scoreOf s.conditions ∧ t.pair.lease = true ∧ t.pair.claim = BitVec.ofNat 8 t.drives ∧
    (scoreOf s.conditions ≠ 0 → t.pair.role = s.pair.role ∧ t.pair.won = s.pair.won) ∧
    (scoreOf s.conditions = 0 → s.pair.role ≠ .solo → t.pair.won = false) := by
  refine ⟨s.evalHealth, rfl, ?_⟩
  rw [evalHealth_eq]
  dsimp only
  rw [drives_setClaim]
  split
  next h0 =>
    have hkept : (scored s).giveUp.pair.cond = (scored s).pair.cond ∧ (scored s).giveUp.pair.health = (scored s).pair.health ∧
        (scored s).giveUp.pair.lease = (scored s).pair.lease := by
      rw [giveUp_pair]
      split <;> exact ⟨rfl, rfl, rfl⟩
    obtain ⟨hc, hh, hle⟩ := hkept
    exact ⟨hc, hh, hle, rfl, fun h => absurd h0 h, fun _ hr => giveUp_won (scored s) hr⟩
  next h0 => exact ⟨rfl, rfl, rfl, rfl, fun _ => ⟨rfl, rfl⟩, fun h => absurd h h0⟩

/-- A forced condition leaves score and claim 0, and no CLAIM_WON. -/
theorem forceZero_pair (k : U32) : (s.forceZero k).pair.health = 0 ∧ (s.forceZero k).pair.claim = 0 ∧
    (s.forceZero k).pair.faults = s.pair.faults ||| k ∧ (s.forceZero k).pair.lease = s.pair.lease ∧
    (s.pair.role ≠ .solo → (s.forceZero k).pair.won = false) ∧
    (s.pair.role = .active → s.pair.won = true → (s.forceZero k).pair.role = .failed) := by
  have hg : (s.forceZero k).pair = { (s.setPair (fun x => { x with faults := x.faults ||| k, health := 0, claim := 0 })).giveUp.pair with
      cond := (s.forceZero k).pair.cond } := rfl
  rw [hg, giveUp_pair]
  split
  next hs =>
    have hs' : s.pair.role = .solo ∨ s.pair.won = false := hs
    refine ⟨rfl, rfl, rfl, rfl, hs'.resolve_left, fun hr hw => ?_⟩
    obtain h | h := hs'
    · exact absurd (hr.symm.trans h) (by decide)
    · exact absurd (hw.symm.trans h) (by decide)
  · exact ⟨rfl, rfl, rfl, rfl, fun _ => rfl, fun _ _ => rfl⟩

theorem enterLineFault_pair : s.enterLineFault.pair = { s.pair with
    lineFault := true, clean := 0
    lineFaults := if s.pair.lineFault = true then s.pair.lineFaults else s.pair.lineFaults + 1 } := by
  unfold State.enterLineFault
  split
  next h => simp [State.setPair, h]
  · simp [State.setPair]

/-- The restarts of a FAILED unit within the last hour (R376). -/
def restartsLately : List Nat := s.pair.restarts.filter (fun t => decide (s.time.mono < t + 3600 * 32768))

theorem exec_failedRestart : exec .failedRestart s = .next
    (if s.pair.role ≠ .failed ∨ s.cfgN 0xB00006 ≤ (restartsLately s).length then s
    else (s.setPair (fun x => { x with restarts := s.time.mono :: restartsLately s })).deviceReset 8) := rfl

theorem enterReset_pwr (c : U8) (h : s.pwr.inReset = false) :
    (s.enterReset c).pwr.inReset = true ∧ (s.enterReset c).pwr.nextCause = some c := by
  unfold State.enterReset
  rw [if_neg (by simp [h])]
  exact ⟨rfl, rfl⟩

theorem deviceReset_pwr (c : U8) (h : s.pwr.inReset = false) :
    (s.deviceReset c).pwr.inReset = true ∧ (s.deviceReset c).pwr.nextCause = some c := by
  unfold State.deviceReset
  rw [if_neg (by simp [h])]
  exact enterReset_pwr _ c h

end Health

/-- Settles O38: a clause for each command, by the pair's state that it leaves. -/
theorem claimsHealthAndLineFaults : Obligations.ClaimsHealthAndLineFaults := by
  refine ⟨fun s p f hr => by rw [exec_claimRound, if_pos hr], fun s c t b f hr hd => higherClaim_wins hr hd,
    fun s c t b f hr h0 hd hp hl => lowerClaim_loses hr h0 hd hp hl, fun s p f hr hd => noClaim_neither p hr hd,
    fun s hr hd hl hf => silentPartner_takeOver hr hd hl hf, healthEvaluation_writes, scoreOf_forced, by decide, fun s => ?_, fun s => ?_,
    fun s p hp => ?_, fun s p hp => ?_, fun s p => rfl, fun s hr => ?_, fun s hr => ?_, fun s h => ?_, fun s hr hres hn => ?_, fun s => rfl⟩
  · obtain ⟨hh, hc, hf, hl, hw, -⟩ := forceZero_pair (s.setPair (fun x => { x with lease := false })) 1
    exact ⟨_, rfl, hl, hh, hc, hf, hw⟩
  · obtain ⟨hh, hc, hf, -, hw, -⟩ := forceZero_pair s 2
    exact ⟨_, rfl, hh, hc, hf, hw⟩
  · obtain ⟨hh, hc, hf, -, hw, -⟩ := forceZero_pair s 4
    refine ⟨s.forceZero 4, ?_, hh, hc, hf, hw⟩
    simp [exec, execMemoryEccError, hp]
  · simp [exec, execMemoryEccError, hp]
  · simp [exec, execClaimLineStuck, hr]
  · refine ⟨_, congrArg Host.Outcome.next (if_neg hr), ?_⟩
    simp [State.setPair, enterLineFault_pair]
  · exact (exec_failedRestart s).trans (congrArg Host.Outcome.next (if_pos h))
  · have hnot : ¬ (s.pair.role ≠ .failed ∨ s.cfgN 0xB00006 ≤ (restartsLately s).length) := not_or.mpr ⟨by simp [hr], Nat.not_le.mpr hn⟩
    exact ⟨_, (exec_failedRestart s).trans (congrArg Host.Outcome.next (if_neg hnot)), deviceReset_pwr _ 8 hres⟩

end Sys2Proof.Machine.PairRounds
end

section
/-! SUPPORT. The OCB view (R447 to R455): its access codes and legal time as writes to their objects, and the head-end's
connections and messages. -/

namespace Sys2Proof.Machine.OcbView

/-! ### Access codes (R449) -/

section Codes

variable {s : State} {r : Req} {v : Bytes} {o : ObjRow}

/-- The answer to an entry. -/
def codeAnswer : Option Abort → Answer
  | some a => .abort a
  | none => .ok []

theorem exec_accessCodeEntry (h : s.writes r 0x200100 v o) (ht : r.sess.tr = .sdo) : exec (.accessCodeEntry r v) s =
    .next ((s.enterCode r.sess v).2.respond r (codeAnswer (s.enterCode r.sess v).1)) := by
  obtain ⟨hloc, hacc, hval⟩ := h
  simp only [exec, execAccessCodeEntry, State.codeEntry, hloc, hacc, hval, ht, ne_eq, not_true_eq_false, if_false]
  rfl

theorem exec_accessCodeEntry_transport (h : s.locate r 0x200100 = .ok o) (ht : r.sess.tr ≠ .sdo) :
    exec (.accessCodeEntry r v) s = .next (s.respond r (.abort .unsupportedAccess)) := by
  simp [exec, execAccessCodeEntry, State.codeEntry, h, ht]

/-- The count of wrong codes in a row, with entry locked from the fifth on. -/
def wrongCode (s : State) : State :=
  { s with link := { s.link with codeWrong := s.link.codeWrong + 1, codeLocked := decide (5 ≤ s.link.codeWrong + 1) } }

theorem wrongCode_raise_ev (s : State) : ((wrongCode s).raise 0x001 5).ev = (s.raise 0x001 5).ev := by
  rw [State.raise, State.raise, State.charge_ev, State.charge_ev]
  rfl

variable (i : SessId)

theorem enterCode_logoff (h0 : leNat v = 0) : s.enterCode i v = (none, s.toObserver i) := by simp [State.enterCode, h0]

theorem enterCode_locked (h0 : leNat v ≠ 0) (hl : s.link.codeLocked = true) : s.enterCode i v = (some .accessDenied, s) := by
  simp [State.enterCode, h0, hl]

theorem enterCode_role {k : Nat} (h0 : leNat v ≠ 0) (hl : s.link.codeLocked = false) (hk : s.codeRole v = some k) :
    s.enterCode i v = (none,
      ({ s with link := { s.link with codeWrong := 0 } } : State).setSess i (fun x => { x with role := roleOfCode k })) := by
  simp [State.enterCode, h0, hl, hk]

theorem enterCode_wrong (h0 : leNat v ≠ 0) (hl : s.link.codeLocked = false) (hk : s.codeRole v = none) : s.enterCode i v =
    (some .accessDenied, if s.link.codeWrong + 1 < 5 then wrongCode s else (wrongCode s).raise 0x001 5) := by
  simp [State.enterCode, h0, hl, hk, wrongCode]

/-- The role of a code is the highest of the four whose stored digest is the code's. -/
theorem codeRole_eq_some {k : Nat} (h : s.codeRole v = some k) : 1 ≤ k ∧ k ≤ 4 ∧ s.stored (0x200200 + k) 0 = s.codeDigest v ∧
    ∀ j, k < j → j ≤ 4 → s.stored (0x200200 + j) 0 ≠ s.codeDigest v := by
  obtain ⟨hk, before, after, hl, hnot⟩ := List.find?_eq_some_iff_append.mp h
  have hmem : k ∈ [4, 3, 2, 1] := by simp [hl]
  have hin : k ∈ [1, 2, 3, 4] := by simpa [or_comm, or_assoc, or_left_comm] using hmem
  have hbounds : 1 ≤ k ∧ k ≤ 4 := by
    simp only [List.mem_cons, List.not_mem_nil, or_false] at hin
    omega
  refine ⟨hbounds.1, hbounds.2, by simpa using hk, fun j hj h4 => ?_⟩
  have hsorted : ([4, 3, 2, 1] : List Nat).Pairwise (· > ·) := by decide
  have hjin : j ∈ before ++ k :: after := by
    rw [← hl]
    simp only [List.mem_cons, List.not_mem_nil, or_false]
    omega
  rw [hl, List.pairwise_append, List.pairwise_cons] at hsorted
  obtain ⟨-, ⟨hafter, -⟩, -⟩ := hsorted
  rcases List.mem_append.mp hjin with hb | ha
  · simpa using hnot j hb
  · rcases List.mem_cons.mp ha with e | ha
    · omega
    · exact absurd (hafter j ha) (by omega)

end Codes

/-! ### Legal time (R447) -/

/-- What a write to the legal time comes to, once nothing refuses it. -/
theorem exec_ocbLegalTimeWrite {s : State} {r : Req} {v : Bytes} {o : ObjRow} (h : s.writes r 0x210000 v o) :
    exec (.ocbLegalTimeWrite r v) s = .next (
      if setArgOk ((v.drop 2).reverse ++ [0x20]) = false then
        (({ s with time := { s.time with setErr := true } } : State).raise 0x051 0).respond r (.abort .valueInvalid)
      else if s.time.lockout = true then s.respond r (.abort .notReady)
      else if s.time.pendSet ≠ none then s.respond r (.abort .deviceBusy)
      else { s with time := { s.time with pendSet := some (CalTime.ofBcd7 ((v.drop 2).reverse ++ [0x20]), some (r, false)) } }) := by
  obtain ⟨hloc, hacc, hval⟩ := h
  simp [exec, execOcbLegalTimeWrite, State.legalTimeWrite, hloc, hacc, hval, Option.isSome_iff_ne_none]

/-! ### The head-end (R453) -/

section HeadEnd

variable {s : State} {n t : Nat} {m : Bytes}

theorem headEndOpen_listed {d : U32} (h : s.headEndOpen d = true) : s.pwr.ocb = true ∧ s.acting = true ∧ s.link.heConn.length < 8 ∧
    ∃ i < 8, s.cfgOct (0x270002 + i) = beBytes 4 d.toNat := by
  simp only [State.headEndOpen, Bool.and_eq_true, decide_eq_true_eq, List.any_eq_true, List.mem_range, beq_iff_eq] at h
  obtain ⟨⟨⟨⟨⟨hact, hocb⟩, -⟩, hroom⟩, -⟩, hlisted⟩ := h
  exact ⟨hocb, hact, hroom, hlisted⟩

/-- A message that reaches acceptance: on no open connection nothing, a malformed one closes, a delivery is taken as a record. -/
theorem exec_ocbHeadendDelivery (hp : s.pathRuns = true ∨ s.pwr.acceptReady = false) : exec (.ocbHeadendDelivery n m t) s = .next (
    if tblFind? s.link.heConn n = none then s
    else if beNat (slice m 0 2) < 10 ∨ 252 < beNat (slice m 0 2) ∨ beNat (slice m 0 2) ≠ m.length ∨ fieldAt m 2 1 = 0 then s.closeHeadEnd n
    else if fieldAt m 2 1 = 1 then (s.atNet t).headEndRecord n (beNat (slice m 4 4)) (beNat (slice m 8 2)) (m.drop 10) t
    else s) := by
  simp [exec, execOcbHeadendDelivery, State.orWait, hp]

theorem exec_ocbHeadendDelivery_waits (hp : s.pathRuns = false) (ha : s.pwr.acceptReady = true) :
    exec (.ocbHeadendDelivery n m t) s = .next (s.holdInput 77 (.request (.ocbHeadendDelivery n m t))) := by
  simp [exec, execOcbHeadendDelivery, State.orWait, hp, ha]

@[simp] theorem atNet_link (s : State) (k : Nat) : (s.atNet k).link = s.link := by
  unfold State.atNet
  split <;> rfl

@[simp] theorem atNet_acc (s : State) (k : Nat) : (s.atNet k).acc = s.acc := by
  unfold State.atNet
  split <;> rfl

theorem turnedAway_journal (s : State) : s.turnedAway.link = s.link ∧ s.turnedAway.acc.journal = s.acc.journal := by
  unfold State.turnedAway
  split <;> exact ⟨rfl, rfl⟩

/-- A unit that takes no frames leaves a delivery unconfirmed, and journals nothing. -/
theorem headEndRecord_turnedAway (h : s.takesFrames = false) (number handle : Nat) (lpdu : Bytes) (stamp : Nat) :
    (s.headEndRecord n number handle lpdu stamp).link.heUnconf = s.link.heUnconf + 1 ∧
      (s.headEndRecord n number handle lpdu stamp).acc.journal = s.acc.journal := by
  obtain ⟨hlink, hjournal⟩ := turnedAway_journal s
  simp [State.headEndRecord, h, hlink, hjournal]

theorem exec_ocbHeadendDelivery_sound (hp : s.pathRuns = true ∨ s.pwr.acceptReady = false) (hn : tblFind? s.link.heConn n ≠ none)
    (h10 : 10 ≤ m.length) (h252 : m.length ≤ 252) (hlen : beNat (slice m 0 2) = m.length) (h0 : fieldAt m 2 1 ≠ 0) :
    exec (.ocbHeadendDelivery n m t) s = .next (
      if fieldAt m 2 1 = 1 then (s.atNet t).headEndRecord n (beNat (slice m 4 4)) (beNat (slice m 8 2)) (m.drop 10) t else s) := by
  rw [exec_ocbHeadendDelivery hp, if_neg hn, if_neg (by omega)]

end HeadEnd

/-- Settles O46: each write and each message by the branch of its rule. -/
theorem ocbCodesLegalTimeAndHeadEnd : Obligations.OcbCodesLegalTimeAndHeadEnd := by
  refine ⟨fun s r v o h ht => exec_accessCodeEntry_transport h ht, fun s r v o h ht => ?codes, fun s v k hk => codeRole_eq_some hk,
    fun s => rfl, fun s r v a o h ha => ?legalTime, fun s n d hn => ?known, fun s n d hn ho => ?reset, fun s n d hn ho => ?opened,
    fun s d h => headEndOpen_listed h, fun s n t m hn => ?noConnection, fun s n t m hp ha => exec_ocbHeadendDelivery_waits hp ha,
    fun s n t m hp hn hbad => ?malformed, fun s n t m hp hn h10 h252 hlen => ?sound, fun s n hn => ?keepalive, fun s n => rfl,
    fun s r arg o h => ?clear⟩
  case codes =>
    rw [exec_accessCodeEntry h ht]
    refine ⟨fun h0 => ?_, fun h0 hl => ?_, fun k h0 hl hk => ?_, fun h0 hl hk => ?_⟩
    · rw [enterCode_logoff _ h0, codeAnswer]
    · rw [enterCode_locked _ h0 hl, codeAnswer]
    · rw [enterCode_role _ h0 hl hk]
      exact ⟨_, rfl, by rw [Dictionary.setSess_sess_same], rfl, rfl⟩
    · rw [enterCode_wrong _ h0 hl hk]
      refine ⟨_, rfl, ?_⟩
      dsimp only
      split
      next hlt => exact ⟨rfl, rfl, fun _ => ⟨decide_eq_false (by omega), rfl⟩, fun h => absurd h (by omega)⟩
      next hge =>
        rw [State.raise_link, State.raise_dict]
        exact ⟨rfl, rfl, fun h => absurd h (by omega), fun h => ⟨decide_eq_true (by omega), wrongCode_raise_ev s⟩⟩
  case legalTime =>
    subst ha
    rw [exec_ocbLegalTimeWrite h]
    have sound {b : Bool} (hb : b = true) : ¬ b = false := by simp [hb]
    have unlocked {b : Bool} (hb : b = false) : ¬ b = true := by simp [hb]
    refine ⟨fun ha => ?_, fun ha hl => ?_, fun ha hl hp => ?_, fun ha hl hp => ?_⟩
    · rw [if_pos ha]
    · rw [if_neg (sound ha), if_pos hl]
    · rw [if_neg (sound ha), if_neg (unlocked hl), if_pos hp]
    · rw [if_neg (sound ha), if_neg (unlocked hl), if_neg (not_not_intro hp)]
  case known => exact congrArg Host.Outcome.next (if_pos (Option.isSome_iff_ne_none.mpr hn))
  case reset => simp [exec, execOcbHeadendConnect, hn, ho]
  case opened => simp [exec, execOcbHeadendConnect, hn, ho]
  case noConnection =>
    refine ⟨?_, fun hp => ?_⟩
    · simp [exec, execOcbHeadendKeepaliveTx, hn]
    · rw [exec_ocbHeadendDelivery hp, if_pos hn]
  case malformed =>
    rw [exec_ocbHeadendDelivery hp, if_neg hn, if_pos hbad]
    exact ⟨rfl, tblFind?_del_same _ _⟩
  case sound =>
    refine ⟨fun h2 => ?_, fun h1 ht => ?_, fun h1 => ?_⟩ <;> rw [exec_ocbHeadendDelivery_sound hp hn h10 h252 hlen (by omega)]
    · rw [if_neg (by omega)]
    · rw [if_pos h1]
      obtain ⟨hu, hj⟩ := headEndRecord_turnedAway (n := n) ht (beNat (slice m 4 4)) (beNat (slice m 8 2)) (m.drop 10) t
      exact ⟨_, rfl, by rw [hu, atNet_link], by rw [hj, atNet_acc]⟩
    · rw [if_pos h1]
  case keepalive => exact congrArg Host.Outcome.next (if_pos (Option.isSome_iff_ne_none.mpr hn))
  case clear =>
    refine ⟨fun h0 => ?_, fun h0 => ?_⟩
    · exact congrArg Host.Outcome.next (command_refused h (by simp [h0]))
    · exact congrArg Host.Outcome.next (command_done h (by simp [h0]))

end Sys2Proof.Machine.OcbView
end

section
/-! SUPPORT. The periphery: the serial ports and the meters' runs of timeouts (R437 to R439), and the islands' states (R416, R417).
Acceptance, the cascade, the effects of items released and what waited for an island go on without them; for each such function one
lemma says so, proved from those of the functions that it calls. -/

namespace Sys2Proof.Machine

/-- The serial ports, each wired meter's timeouts in a row, and the states of the islands. -/
def State.periphery (s : State) : Tbl SerialPort × Tbl U16 × List IslandSt := (s.link.serial, s.link.consec, s.pwr.islands)

end Sys2Proof.Machine

namespace Sys2Proof.Machine.Periphery

open Standing (foldl_kept)

@[simp] theorem periphery_mk (p o n l d e t w li pa tr c f a ar b we ba u) :
    (State.mk p o n l d e t w li pa tr c f a ar b we ba u).periphery = (li.serial, li.consec, w.islands) := by
  unfold State.periphery
  rfl

@[simp] theorem periphery_ite {c : Prop} [Decidable c] (a b : State) :
    (if c then a else b).periphery = if c then a.periphery else b.periphery := apply_ite _ _ _ _

@[simp] theorem foldl_periphery {β : Type} {f : State → β → State} (h : ∀ t x, (f t x).periphery = t.periphery) (l : List β) (s : State) :
    (l.foldl f s).periphery = s.periphery := foldl_kept State.periphery h l s

/-- An outcome goes on, with the periphery of `s`. -/
def LeavesPeriphery (s : State) (r : Host.Outcome State Fault Refusal) : Prop := ∃ t : State, r = .next t ∧ t.periphery = s.periphery

@[simp] theorem leavesPeriphery_next (s t : State) : LeavesPeriphery s (.next t) ↔ t.periphery = s.periphery := by simp [LeavesPeriphery]

section Kept

variable (s : State)

@[simp] theorem periphery_eta : (s.link.serial, s.link.consec, s.pwr.islands) = s.periphery := by
  cases s
  rfl

@[simp] theorem periphery_keep (p o n l d e t pa tr c f a ar b we ba u) :
    (State.mk p o n l d e t s.pwr s.link pa tr c f a ar b we ba u).periphery = s.periphery := by
  cases s
  rfl

@[simp] theorem setPwr_periphery (f : PowerState → PowerState) (h : (f s.pwr).islands = s.pwr.islands) :
    (s.setPwr f).periphery = s.periphery := by
  simp [State.setPwr, h]

@[simp] theorem emit_periphery (o : Out) : (s.emit o).periphery = s.periphery := by simp [State.emit]

@[simp] theorem openVal_periphery (place : Nat) : (s.openVal place).2.periphery = s.periphery := by simp [State.openVal]

@[simp] theorem take_periphery (a res amount : Nat) (borrower : Bool) : (s.take a res amount borrower).periphery = s.periphery := by
  simp [State.take]

@[simp] theorem charge_periphery (a res amount : Nat) : (s.charge a res amount).periphery = s.periphery := by simp [State.charge]

@[simp] theorem raise_periphery (code : Nat) (measure : Int) : (s.raise code measure).periphery = s.periphery := by simp [State.raise]

@[simp] theorem sendPair_periphery (kind : MirrorKind) (key : Nat) (body : Bytes) : (s.sendPair kind key body).periphery = s.periphery := by
  simp [State.sendPair]

@[simp] theorem mirror_periphery (kind : MirrorKind) (key : Nat) (body : Bytes) : (s.mirror kind key body).periphery = s.periphery := by
  simp [State.mirror]

@[simp] theorem chargeOpen_periphery (place a res : Nat) : (s.chargeOpen place a res).periphery = s.periphery := by simp [State.chargeOpen]

@[simp] theorem usePage_periphery (page acct transfers : Nat) : (s.usePage page acct transfers).periphery = s.periphery := by
  simp [State.usePage]

@[simp] theorem crossing_periphery (s : State) (i : Nat) (c : Instr) {t : State} (h : t.periphery = s.periphery) :
    (s.crossing i c t).periphery = s.periphery := by simp [State.crossing, h]

theorem association_periphery {s t : State} {i : SessId} {peer : Bytes} (h : s.association i peer = some t) : t.periphery = s.periphery := by
  rw [State.association] at h
  split at h
  · cases h; rfl
  · rw [Option.ite_none_left_eq_some] at h
    rw [← Option.some.inj h.2]; rfl

@[simp] theorem atNet_periphery (stamp : Nat) : (s.atNet stamp).periphery = s.periphery := by simp [State.atNet]

@[simp] theorem setItems_periphery (f : Nat) (l : List Item) : (s.setItems f l).periphery = s.periphery := by simp [State.setItems]

@[simp] theorem append_periphery (f : Nat) (it : Item) (newDesc : Bool) : (s.append f it newDesc).periphery = s.periphery := by
  simp [State.append]

@[simp] theorem setItem_periphery (f id : Nat) (g : Item → Item) : (s.setItem f id g).periphery = s.periphery := by simp [State.setItem]

@[simp] theorem enqueue_periphery (acct f kind key ref : Nat) (telemetry : Bool) :
    (s.enqueue acct f kind key ref telemetry).2.periphery = s.periphery := by
  simp only [State.enqueue]
  (repeat' split) <;> simp

@[simp] theorem produce_periphery (acct f kind key ref : Nat) (telemetry : Bool) :
    (s.produce acct f kind key ref telemetry).periphery = s.periphery := by
  simp [State.produce]

@[simp] theorem retryKept_periphery : s.retryKept.periphery = s.periphery := by simp [State.retryKept]

@[simp] theorem chargeRun_periphery (core f : Nat) (it : Item) (since : Nat) : (s.chargeRun core f it since).periphery = s.periphery := by
  simp [State.chargeRun]

@[simp] theorem preempt_periphery (core : Nat) : (s.preempt core).periphery = s.periphery := by
  unfold State.preempt
  (repeat' split) <;> simp

@[simp] theorem preemptAll_periphery (n : Nat) (s : State) : (s.preemptAll n).periphery = s.periphery := by
  induction n generalizing s with
  | zero => rfl
  | succ n ih =>
    simp only [State.preemptAll]
    (repeat' split) <;> simp [ih]

@[simp] theorem countDispatch_periphery (f : Nat) (it : Item) : (s.countDispatch f it).periphery = s.periphery := by
  simp [State.countDispatch]

@[simp] theorem dispatchTo_periphery (core f : Nat) (it : Item) : (s.dispatchTo core f it).periphery = s.periphery := by
  simp [State.dispatchTo]

@[simp] theorem serveStalled_periphery : s.serveStalled.periphery = s.periphery := by
  unfold State.serveStalled
  refine foldl_periphery (fun t x => ?_) _ _
  (repeat' split) <;> simp

@[simp] theorem scheduleRounds_periphery (n : Nat) (s : State) : (s.scheduleRounds n).periphery = s.periphery := by
  induction n generalizing s with
  | zero => rfl
  | succ n ih => simp [State.scheduleRounds, ih]

@[simp] theorem schedule_periphery : s.schedule.periphery = s.periphery := by simp [State.schedule]

@[simp] theorem doWants_periphery (acct : Nat) (ws : List (Nat × Nat × Nat × Nat)) (s : State) :
    (s.doWants acct ws).2.periphery = s.periphery := by
  induction ws generalizing s with
  | nil => rfl
  | cons w ws ih =>
    simp only [State.doWants]
    split <;> simp [ih]

@[simp] theorem releaseFlow_periphery (f n : Nat) (s : State) : (s.releaseFlow f n).2.periphery = s.periphery := by
  induction n generalizing s with
  | zero => rfl
  | succ n ih =>
    unfold State.releaseFlow
    split
    · rfl
    · split
      · extract_lets w
        have hw : w.2.periphery = s.periphery := by
          unfold w
          split <;> simp
        split
        · exact (ih _).trans hw
        · exact (setItem_periphery _ _ _ _).trans hw
      · rfl

@[simp] theorem releaseAll_periphery (s : State) : s.releaseAll.2.periphery = s.periphery := by
  simp only [State.releaseAll]
  exact foldl_kept (fun a : List (Nat × Item) × State => a.2.periphery) (fun a x => by simp) _ _

@[simp] theorem noteSojourn_periphery : s.noteSojourn.periphery = s.periphery := by simp [State.noteSojourn]

@[simp] theorem releaseRounds_periphery (n : Nat) (s : State) : (s.releaseRounds n).2.periphery = s.periphery := by
  induction n generalizing s with
  | zero => rfl
  | succ n ih =>
    simp only [State.releaseRounds]
    split <;> simp [ih]

@[simp] theorem producer_periphery : s.producer.2.periphery = s.periphery := by
  simp only [State.producer]
  (repeat' split) <;> simp

@[simp] theorem admitInput_periphery (src : Nat) : (s.admitInput src).2.periphery = s.periphery := by
  simp only [State.admitInput]
  (repeat' split) <;> simp

@[simp] theorem setSlot_periphery (n : Nat) (k : KeySlot) : (s.setSlot n k).periphery = s.periphery := by simp [State.setSlot]

@[simp] theorem zeroize_periphery (n : Nat) : (s.zeroize n).periphery = s.periphery := by simp [State.zeroize]

@[simp] theorem usedSlot_periphery (n : Nat) : (s.usedSlot n).periphery = s.periphery := by simp [State.usedSlot]

@[simp] theorem touchSlot_periphery (h : Nat) : (s.touchSlot h).periphery = s.periphery := by simp [State.touchSlot]

theorem claimSlot_periphery {s : State} {h : Nat} {x : Nat × State} (e : s.claimSlot h = some x) : x.2.periphery = s.periphery := by
  unfold State.claimSlot at e
  (repeat' split at e) <;> cases e <;> simp

@[simp] theorem loadKey_periphery (s : State) (h : Nat) : (s.loadKey h).2.periphery = s.periphery := by
  simp only [State.loadKey]
  (repeat' split) <;> try simp
  next hc => exact claimSlot_periphery hc

@[simp] theorem bumpAcc_periphery (k : Nat) : (s.bumpAcc k).periphery = s.periphery := by simp [State.bumpAcc]

@[simp] theorem setFport_periphery (p : Nat) (f : FieldPort → FieldPort) : (s.setFport p f).periphery = s.periphery := by
  simp [State.setFport]

@[simp] theorem bumpPort_periphery (p k : Nat) : (s.bumpPort p k).periphery = s.periphery := by simp [State.bumpPort]

@[simp] theorem setCtx_periphery (h : Nat) (f : Ctx → Ctx) : (s.setCtx h f).periphery = s.periphery := by
  unfold State.setCtx
  (repeat' split) <;> simp

@[simp] theorem evictCtx_periphery : s.evictCtx.periphery = s.periphery := by
  unfold State.evictCtx
  (repeat' split) <;> simp

@[simp] theorem snapshot_periphery (h : Nat) : (s.snapshot h).periphery = s.periphery := by
  unfold State.snapshot
  (repeat' split) <;> simp

@[simp] theorem noteHandle_periphery (h : Nat) : (s.noteHandle h).periphery = s.periphery := by
  unfold State.noteHandle
  (repeat' split) <;> simp

@[simp] theorem fetchRemote_periphery (h : Nat) : (s.fetchRemote h).periphery = s.periphery := by
  unfold State.fetchRemote
  (repeat' split) <;> simp

@[simp] theorem findCtx_periphery (h : Nat) : (s.findCtx h).2.periphery = s.periphery := by
  unfold State.findCtx
  (repeat' split) <;> simp

@[simp] theorem journalMarks_periphery : s.journalMarks.periphery = s.periphery := by
  simp only [State.journalMarks]
  (repeat' split) <;> simp

@[simp] theorem journalAppend_periphery (e : JEntry) : (s.journalAppend e).periphery = s.periphery := by simp [State.journalAppend]

@[simp] theorem setEntry_periphery (q : U64) (f : JEntry → JEntry) : (s.setEntry q f).periphery = s.periphery := by simp [State.setEntry]

@[simp] theorem deliver_periphery (src : Nat) (e : JEntry) : (s.deliver src e).periphery = s.periphery := by simp [State.deliver]

@[simp] theorem settleEffects_periphery (h : Nat) : (s.settleEffects h).periphery = s.periphery := by simp [State.settleEffects]

@[simp] theorem profileAppend_periphery (h : Nat) (q : U64) : (s.profileAppend h q).periphery = s.periphery := by simp [State.profileAppend]

@[simp] theorem itemReleased_periphery (f : Nat) (it : Item) : (s.itemReleased f it).periphery = s.periphery := by
  simp only [State.itemReleased]
  (repeat' split) <;> simp

@[simp] theorem uartTaken_periphery (f : Nat) : (s.uartTaken f).periphery = s.periphery := by simp [State.uartTaken]

@[simp] theorem releaseDone_periphery : s.releaseDone.periphery = s.periphery := by simp [State.releaseDone]

@[simp] theorem seqTake_periphery (f : Nat) (it : Item) : (s.seqTake f it).periphery = s.periphery := by simp [State.seqTake]

@[simp] theorem useKey_periphery (handle : Nat) (op : KeyOp) : (s.useKey handle op).2.periphery = s.periphery := by
  unfold State.useKey
  (repeat' split) <;> simp

@[simp] theorem execKeyUse_periphery (k : U32) (op : KeyOp) (s : State) : LeavesPeriphery s (execKeyUse k op s) := by
  simp only [execKeyUse, leavesPeriphery_next]
  apply crossing_periphery
  split <;> simp

@[simp] theorem useMeterKey_periphery (h : Nat) (op : KeyOp) : (s.useMeterKey h op).2.periphery = s.periphery := by
  simp only [State.useMeterKey]
  (repeat' split) <;> simp

@[simp] theorem chargeKey_periphery (acct : Option Nat) : (s.chargeKey acct).periphery = s.periphery := by
  unfold State.chargeKey
  (repeat' split) <;> simp

@[simp] theorem lineKey_periphery (acct : Option Nat) (handle : Nat) (op : KeyOp) : (s.lineKey acct handle op).2.periphery = s.periphery := by
  simp only [State.lineKey]
  (repeat' split) <;> simp

@[simp] theorem lineMeterKey_periphery (acct : Option Nat) (h : Nat) (op : KeyOp) : (s.lineMeterKey acct h op).2.periphery = s.periphery := by
  simp only [State.lineMeterKey]
  (repeat' split) <;> simp

@[simp] theorem offerKey_periphery (o : Offer) : (s.offerKey o).2.periphery = s.periphery := by
  unfold State.offerKey
  (repeat' split) <;> simp

@[simp] theorem apduVerdict_periphery (e : JEntry) (c : Ctx) (n : U32) : (s.apduVerdict e c n).2.periphery = s.periphery := by
  unfold State.apduVerdict
  (repeat' split) <;> simp

@[simp] theorem judgeApdu_periphery (q : U64) : (s.judgeApdu q).2.periphery = s.periphery := by
  simp only [State.judgeApdu]
  (repeat' split) <;> simp

@[simp] theorem handMac_periphery (p : Nat) (q : U64) (m : Nat × Bytes) : (s.handMac p q m).periphery = s.periphery := by
  unfold State.handMac
  (repeat' split) <;> simp

@[simp] theorem settle_periphery (d : Deciding) (src : Nat) : (s.settle d src).periphery = s.periphery := by
  simp only [State.settle]
  (repeat' split) <;> simp

@[simp] theorem decideNow_periphery (q : U64) : (s.decideNow q).periphery = s.periphery := by
  unfold State.decideNow
  (repeat' split) <;> simp

@[simp] theorem acceptStored_periphery (o : Offer) (key : Bytes) (n : U32) (e : JEntry) :
    (s.acceptStored o key n e).periphery = s.periphery := by
  simp [State.acceptStored]

@[simp] theorem acceptMirrored_periphery (h : Nat) (e : JEntry) : (s.acceptMirrored h e).periphery = s.periphery := by
  simp [State.acceptMirrored]

@[simp] theorem acceptDecided_periphery (d : Deciding) (src : Nat) : (s.acceptDecided d src).periphery = s.periphery := by
  simp [State.acceptDecided]

@[simp] theorem acceptFresh_periphery (o : Offer) (c : Ctx) (key : Bytes) (n : U32) (body : Bytes) :
    (s.acceptFresh o c key n body).periphery = s.periphery := by
  simp [State.acceptFresh]

@[simp] theorem refused_periphery : s.refused.2.periphery = s.periphery := by simp [State.refused]

@[simp] theorem acceptJudged_periphery (o : Offer) (c : Ctx) (key body : Bytes) : (s.acceptJudged o c key body).2.periphery = s.periphery := by
  unfold State.acceptJudged
  (repeat' split) <;> simp

@[simp] theorem integrityFails_periphery (o : Offer) : (s.integrityFails o).2.periphery = s.periphery := by
  unfold State.integrityFails
  (repeat' split) <;> simp

@[simp] theorem acceptKeyed_periphery (o : Offer) (c : Ctx) (key : Bytes) : (s.acceptKeyed o c key).2.periphery = s.periphery := by
  simp only [State.acceptKeyed]
  (repeat' split) <;> simp

@[simp] theorem acceptKnown_periphery (o : Offer) (c : Ctx) : (s.acceptKnown o c).2.periphery = s.periphery := by
  simp only [State.acceptKnown]
  (repeat' split) <;> simp

@[simp] theorem acceptAdmitted_periphery (o : Offer) : (s.acceptAdmitted o).2.periphery = s.periphery := by
  simp only [State.acceptAdmitted]
  (repeat' split) <;> simp

@[simp] theorem accept_periphery (s : State) (o : Offer) : (s.accept o).2.periphery = s.periphery := by
  unfold State.accept
  dsimp only
  rw [apply_ite Prod.snd, periphery_ite, apply_ite Prod.snd, periphery_ite, refused_periphery, bumpAcc_periphery, acceptAdmitted_periphery,
    admitInput_periphery]
  simp only [ite_self]

@[simp] theorem turnedAway_periphery : s.turnedAway.periphery = s.periphery := by simp [State.turnedAway]

@[simp] theorem placeUnit_periphery (region logical acct first : Nat) (stored : Bytes) :
    (s.placeUnit region logical acct first stored).periphery = s.periphery := by
  simp only [State.placeUnit]
  (repeat' split) <;> simp

@[simp] theorem program_periphery (region logical acct first : Nat) (data : Bytes) :
    (s.program region logical acct first data).periphery = s.periphery := by
  simp [State.program]

@[simp] theorem programFull_periphery (cls n : Nat) (s : State) : (s.programFull cls n).periphery = s.periphery := by
  induction n generalizing s with
  | zero => rfl
  | succ n ih =>
    simp only [State.programFull]
    split <;> simp [ih]

@[simp] theorem trimStream_periphery (cls : Nat) : (s.trimStream cls).periphery = s.periphery := by simp [State.trimStream]

@[simp] theorem setRecs_periphery (cls : Nat) (l : List ArchRec) : (s.setRecs cls l).periphery = s.periphery := by simp [State.setRecs]

@[simp] theorem dropOldest_periphery (cls : Nat) : (s.dropOldest cls).periphery = s.periphery := by simp [State.dropOldest]

@[simp] theorem makeRoom_periphery (len n : Nat) (s : State) : (s.makeRoom len n).periphery = s.periphery := by
  induction n generalizing s with
  | zero => rfl
  | succ n ih =>
    unfold State.makeRoom
    (repeat' split) <;> simp [ih]

@[simp] theorem putRecord_periphery (cls : Nat) (r : ArchRec) : (s.putRecord cls r).periphery = s.periphery := by simp [State.putRecord]

@[simp] theorem appendRec_periphery (cls : Nat) (r : ArchRec) : (s.appendRec cls r).periphery = s.periphery := by simp [State.appendRec]

@[simp] theorem archive_periphery (cls coding : Nat) (subject : U32) (stamp : Nat) (body : Bytes) :
    (s.archive cls coding subject stamp body).periphery = s.periphery := by
  simp [State.archive]

@[simp] theorem recordPrepay_periphery (h : Nat) : (s.recordPrepay h).periphery = s.periphery := by simp [State.recordPrepay]

@[simp] theorem retryAppends_periphery : s.retryAppends.periphery = s.periphery := by simp [State.retryAppends]

@[simp] theorem checkPool_periphery : s.checkPool.periphery = s.periphery := by simp [State.checkPool]

@[simp] theorem linkHeard_periphery (p : Nat) (b : Bytes) (up : Bool) (rx : Rx) : (s.linkHeard p b up rx).periphery = s.periphery := by
  unfold State.linkHeard
  (repeat' split) <;> simp

@[simp] theorem setPartner_periphery (h : Nat) (f : Partner → Partner) : (s.setPartner h f).periphery = s.periphery := by
  unfold State.setPartner
  (repeat' split) <;> simp

@[simp] theorem learnDrift_periphery (p h : Nat) (rx : Rx) : (s.learnDrift p h rx).periphery = s.periphery := by simp [State.learnDrift]

@[simp] theorem impulseDrop_periphery (p gen : Nat) : (s.impulseDrop p gen).periphery = s.periphery := by simp [State.impulseDrop]

@[simp] theorem runScript_periphery (p k : Nat) : (s.runScript p k).periphery = s.periphery := by simp [State.runScript]

@[simp] theorem listen_periphery (p : Nat) (rx : Rx) : (s.listen p rx).periphery = s.periphery := by simp [State.listen]

@[simp] theorem heard_periphery (p : Nat) (rx : Rx) : (s.heard p rx).periphery = s.periphery := by simp [State.heard]

@[simp] theorem ackDue_periphery (p : Nat) (a : AckDue) : (s.ackDue p a).periphery = s.periphery := by simp [State.ackDue]

@[simp] theorem lateDecision_periphery (p : Nat) : (s.lateDecision p).periphery = s.periphery := by simp [State.lateDecision]

@[simp] theorem decideLate_periphery (p : Nat) (q : U64) : (s.decideLate p q).periphery = s.periphery := by simp [State.decideLate]

@[simp] theorem acceptNative_periphery (p : Nat) (f : NFrame) (rx : Rx) : (s.acceptNative p f rx).periphery = s.periphery := by
  simp only [State.acceptNative]
  (repeat' split) <;> simp

@[simp] theorem joinFrame_periphery (p : Nat) (f : NFrame) (rx : Rx) : (s.joinFrame p f rx).periphery = s.periphery := by
  simp only [State.joinFrame]
  (repeat' split) <;> simp

@[simp] theorem screenAck_periphery (p : Nat) (b : Bytes) (rx : Rx) : (s.screenAck p b rx).2.periphery = s.periphery := by
  simp only [State.screenAck]
  (repeat' split) <;> simp

@[simp] theorem screenNative_periphery (p : Nat) (b : Bytes) (rx : Rx) : (s.screenNative p b rx).2.periphery = s.periphery := by
  unfold State.screenNative
  (repeat' split) <;> simp

@[simp] theorem beaconRx_periphery (p : Nat) (b : Bytes) (rx : Rx) : (s.beaconRx p b rx).periphery = s.periphery := by simp [State.beaconRx]

@[simp] theorem nativeRx_periphery (p : Nat) (b : Bytes) (rx : Rx) : (s.nativeRx p b rx).periphery = s.periphery := by
  simp only [State.nativeRx]
  (repeat' split) <;> simp

@[simp] theorem holdInput_periphery (src : Nat) (w : Inbound) : (s.holdInput src w).periphery = s.periphery := by
  simp only [State.holdInput]
  (repeat' split) <;> simp

@[simp] theorem orWait_periphery (s : State) (src : Nat) (c : Instr) {t : State} (h : t.periphery = s.periphery) :
    (s.orWait src c t).periphery = s.periphery := by
  simp [State.orWait, h]

@[simp] theorem countAir_periphery (p us : Nat) : (s.countAir p us).periphery = s.periphery := by simp [State.countAir]

@[simp] theorem stdAir_periphery : s.stdAir.2.periphery = s.periphery := by simp [State.stdAir]

@[simp] theorem drive_periphery (p gen : Nat) : (s.drive p gen).periphery = s.periphery := by simp [State.drive]

@[simp] theorem emitStdAck_periphery (p : Nat) (a : AckDue) : (s.emitStdAck p a).periphery = s.periphery := by simp [State.emitStdAck]

@[simp] theorem mirrorCtx_periphery (h : Nat) : (s.mirrorCtx h).periphery = s.periphery := by
  unfold State.mirrorCtx
  (repeat' split) <;> simp

@[simp] theorem pinCtx_periphery (h : Nat) : (s.pinCtx h).periphery = s.periphery := by simp [State.pinCtx]

theorem pinPartner_periphery {s t : State} {h : Nat} (e : s.pinPartner h = some t) : t.periphery = s.periphery := by
  unfold State.pinPartner at e
  split at e
  · cases e; rfl
  · split at e
    · cases e
    · cases e
      simp only [mirrorCtx_periphery, noteHandle_periphery, pinCtx_periphery]
      split <;> simp

theorem joinPartner_periphery {s t : State} {p h gen : Nat} (e : s.joinPartner p h gen = some t) : t.periphery = s.periphery := by
  obtain ⟨u, hu, rfl⟩ := Option.map_eq_some_iff.mp e
  simp [pinPartner_periphery hu]

@[simp] theorem undefer_periphery (p h code : Nat) : (s.undefer p h code).periphery = s.periphery := by simp [State.undefer]

@[simp] theorem queueDown_periphery (h : Nat) (d : Down) : (s.queueDown h d).2.periphery = s.periphery := by
  unfold State.queueDown
  (repeat' split) <;> simp

@[simp] theorem downDone_periphery (h : Nat) : (s.downDone h).periphery = s.periphery := by
  unfold State.downDone
  (repeat' split) <;> simp

@[simp] theorem ackRx_periphery (p : Nat) (b : Bytes) (rx : Rx) : (s.ackRx p b rx).periphery = s.periphery := by
  simp only [State.ackRx]
  (repeat' split) <;> simp

@[simp] theorem execDownlinkAckRx_periphery (port : Fin 24) (a : Heard) : LeavesPeriphery s (execDownlinkAckRx port a s) := by
  simp [execDownlinkAckRx]

@[simp] theorem acceptStd_periphery (p gen : Nat) (key : Option Nat) (rule : CountRule) (wantAck : Bool) (f : StdFrame) (rx : Rx) :
    (s.acceptStd p gen key rule wantAck f rx).periphery = s.periphery := by
  simp only [State.acceptStd]
  (repeat' split) <;> simp

@[simp] theorem g3Rx_periphery (p : Nat) (f : StdFrame) (rx : Rx) : (s.g3Rx p f rx).periphery = s.periphery := by
  unfold State.g3Rx
  (repeat' split) <;> simp

@[simp] theorem primeRx_periphery (p : Nat) (f : StdFrame) (rx : Rx) : (s.primeRx p f rx).periphery = s.periphery := by simp [State.primeRx]

@[simp] theorem wmbusRx_periphery (p : Nat) (f : StdFrame) (rx : Rx) : (s.wmbusRx p f rx).periphery = s.periphery := by
  unfold State.wmbusRx
  (repeat' split) <;> simp

@[simp] theorem sunRx_periphery (p : Nat) (f : StdFrame) (rx : Rx) : (s.sunRx p f rx).periphery = s.periphery := by simp [State.sunRx]

@[simp] theorem ocbRx_periphery (p : Nat) (b : Bytes) (rx : Rx) : (s.ocbRx p b rx).periphery = s.periphery := by
  simp only [State.ocbRx]
  (repeat' split) <;> simp

@[simp] theorem pacedJoin_periphery (s : State) (p h gen : Nat) {f : State → State} (hf : ∀ t, (f t).periphery = t.periphery) :
    (s.pacedJoin p h gen f).periphery = s.periphery := by
  simp only [State.pacedJoin]
  (repeat' split) <;> try simp
  all_goals next hj _ => simp [hf, joinPartner_periphery hj]

@[simp] theorem joinOn_periphery (s : State) (p h gen : Nat) {f : State → State} (hf : ∀ t, (f t).periphery = t.periphery) :
    (s.joinOn p h gen f).periphery = s.periphery := by
  simp [State.joinOn, hf]

@[simp] theorem joinAnswer_periphery (p h gen : Nat) : (s.joinAnswer p h gen).periphery = s.periphery := by simp [State.joinAnswer]

theorem giveGroupKey_periphery {s t : State} {p h i : Nat} (e : s.giveGroupKey p h i = some t) : t.periphery = s.periphery := by
  unfold State.giveGroupKey at e
  dsimp only at e
  split at e <;> cases e
  simp

@[simp] theorem execG3LbpJoin_periphery (p : Fin 12) (h : Handle) (s : State) : LeavesPeriphery s (execG3LbpJoin p h s) := by
  have hj (u : State) (i : Nat) : (u.pacedJoin p.val h.toNat (s.pcfg p.val 1 1) (fun t =>
      match t.giveGroupKey p.val h.toNat i with | none => t | some u => u.bumpPort p.val 9)).periphery = u.periphery :=
    pacedJoin_periphery _ _ _ _ fun t => by
      split
      · rfl
      next hg => simp [giveGroupKey_periphery hg]
  simp only [execG3LbpJoin, leavesPeriphery_next]
  apply orWait_periphery
  (repeat' split) <;> try simp
  next hg => simp [giveGroupKey_periphery hg]
  all_goals exact (hj _ _).trans (by simp)

@[simp] theorem execPrimeRegistration_periphery (port : Fin 12) (handle : Handle) :
    LeavesPeriphery s (execPrimeRegistration port handle s) := by
  simp [execPrimeRegistration]

@[simp] theorem execSfskDiscovery_periphery (port : Fin 12) (handle : Handle) : LeavesPeriphery s (execSfskDiscovery port handle s) := by
  simp [execSfskDiscovery]

@[simp] theorem installRx_periphery (p : Nat) (f : StdFrame) (rx : Rx) : (s.installRx p f rx).periphery = s.periphery := by
  simp [State.installRx]

@[simp] theorem execWmbusInstallRequest_periphery (port : Fin 12) (f : StdHeard) : LeavesPeriphery s (execWmbusInstallRequest port f s) := by
  simp [execWmbusInstallRequest]

@[simp] theorem execSunAssociation_periphery (port : Fin 12) (handle : Handle) : LeavesPeriphery s (execSunAssociation port handle s) := by
  simp [execSunAssociation]

@[simp] theorem serialAccept_periphery (p : Nat) (f : StdFrame) (rx : Rx) : (s.serialAccept p f rx).periphery = s.periphery := by
  simp [State.serialAccept]

@[simp] theorem runHeld_periphery (gen p : Nat) (f : StdFrame) (rx : Rx) : (s.runHeld gen p f rx).periphery = s.periphery := by
  simp [State.runHeld]

@[simp] theorem forwardOne_periphery (assoc src : Nat) (x : FwdRecord) (stamp : Nat) :
    (s.forwardOne assoc src x stamp).2.periphery = s.periphery := by
  simp only [State.forwardOne]
  (repeat' split) <;> simp

@[simp] theorem forwardAll_periphery (a src stamp : Nat) (l : List FwdRecord) (s : State) :
    (s.forwardAll a src stamp l).2.periphery = s.periphery := by
  induction l generalizing s with
  | nil => rfl
  | cons x xs ih => simp [State.forwardAll, ih]

@[simp] theorem forwarding_periphery (r : Req) (records : List FwdRecord) (stamp : Nat) :
    (s.forwarding r records stamp).periphery = s.periphery := by
  simp [State.forwarding]

@[simp] theorem execForwardingRequest_periphery (r : Req) (peer : Bytes) (l : List FwdRecord) (stamp : Nat) (s : State) :
    LeavesPeriphery s (execForwardingRequest r peer l stamp s) := by
  simp only [execForwardingRequest, leavesPeriphery_next]
  split
  · rfl
  next ha => rw [orWait_periphery _ _ _ (forwarding_periphery _ _ _ _), association_periphery ha]

@[simp] theorem setApp_periphery (f : AppState → AppState) : (s.setApp f).periphery = s.periphery := by simp [State.setApp]

@[simp] theorem setWeir_periphery (f : WeirState → WeirState) : (s.setWeir f).periphery = s.periphery := by simp [State.setWeir]

@[simp] theorem weirRelease_periphery : s.weirRelease.periphery = s.periphery := by simp [State.weirRelease]

@[simp] theorem tell_periphery (h : Nat) (m : MeterMsg) : (s.tell h m).periphery = s.periphery := by
  unfold State.tell
  (repeat' split) <;> simp [State.emit, State.openVal]

@[simp] theorem setMbill_periphery (h : Nat) (f : MeterBill → MeterBill) : (s.setMbill h f).periphery = s.periphery := by
  simp [State.setMbill]

@[simp] theorem openAt_periphery (legal : Int) (flags : U16) : (s.openAt legal flags).periphery = s.periphery := by simp [State.openAt]

@[simp] theorem openNow_periphery (flags : U16) : (s.openNow flags).periphery = s.periphery := by simp [State.openNow]

@[simp] theorem setLedger_periphery (h : Nat) (f : Ledger → Ledger) : (s.setLedger h f).periphery = s.periphery := by simp [State.setLedger]

@[simp] theorem enterSpan_periphery (h : Nat) (sp : Span) (sign : Int) : (s.enterSpan h sp sign).periphery = s.periphery := by
  simp [State.enterSpan]

@[simp] theorem layDown_periphery (h : Nat) (sp : Span) : (s.layDown h sp).periphery = s.periphery := by simp [State.layDown]

@[simp] theorem reflag_periphery (h : Nat) (ks : List Nat) : (s.reflag h ks).periphery = s.periphery := by simp [State.reflag]

@[simp] theorem demandAt_periphery (h k : Nat) (i : Ival) : (s.demandAt h k i).periphery = s.periphery := by
  unfold State.demandAt
  (repeat' split) <;> simp

@[simp] theorem demandTo_periphery (h : Nat) (upto : Int) : (s.demandTo h upto).periphery = s.periphery := by simp [State.demandTo]

@[simp] theorem finalise_periphery (h : Nat) (ok : Hist → Bool) (flag : U16) : (s.finalise h ok flag).periphery = s.periphery := by
  simp [State.finalise]

@[simp] theorem applyForward_periphery (h : Nat) (t0 at_ I E : Int) (clock : Bool) :
    (s.applyForward h t0 at_ I E clock).periphery = s.periphery := by
  simp [State.applyForward]

@[simp] theorem applyEarlier_periphery (h : Nat) (at_ I E : Int) (clock : Bool) :
    (s.applyEarlier h at_ I E clock).periphery = s.periphery := by
  simp only [State.applyEarlier]
  (repeat' split) <;> simp

@[simp] theorem applyRegs_periphery (h : Nat) (at_ I E : Int) (clock : Bool) : (s.applyRegs h at_ I E clock).periphery = s.periphery := by
  simp only [State.applyRegs]
  (repeat' split) <;> simp

@[simp] theorem markApplied_periphery (h : Nat) (seq : U64) : (s.markApplied h seq).periphery = s.periphery := by simp [State.markApplied]

@[simp] theorem noteChanged_periphery (h : Nat) : (s.noteChanged h).periphery = s.periphery := by simp [State.noteChanged]

@[simp] theorem applyRead_periphery (e : JEntry) (kind : ReadKind) (regs : Regs) : (s.applyRead e kind regs).periphery = s.periphery := by
  simp [State.applyRead]

@[simp] theorem applyReading_periphery (h : Nat) (seq : U64) (kind : ReadKind) (regs : Regs) :
    (s.applyReading h seq kind regs).periphery = s.periphery := by
  unfold State.applyReading
  (repeat' split) <;> simp

@[simp] theorem execReadingApply_periphery (h : Handle) (q : U64) (k : ReadKind) (g : Regs) (s : State) :
    LeavesPeriphery s (execReadingApply h q k g s) := by
  simp only [execReadingApply, leavesPeriphery_next]
  apply crossing_periphery
  split <;> simp

@[simp] theorem mirrorLedger_periphery (h : Nat) : (s.mirrorLedger h).periphery = s.periphery := by simp [State.mirrorLedger]

@[simp] theorem tellCredit_periphery (h : Nat) : (s.tellCredit h).periphery = s.periphery := by simp [State.tellCredit]

@[simp] theorem autoEc_periphery (h : Nat) : (s.autoEc h).periphery = s.periphery := by simp [State.autoEc]

@[simp] theorem enterCredit_periphery (h : Nat) (c : Credit) : (s.enterCredit h c).periphery = s.periphery := by
  unfold State.enterCredit
  (repeat' split) <;> simp

@[simp] theorem evalCredit_periphery (h : Nat) : (s.evalCredit h).periphery = s.periphery := by simp [State.evalCredit]

@[simp] theorem changeLedger_periphery (h : Nat) (f : Ledger → Ledger) : (s.changeLedger h f).periphery = s.periphery := by
  simp [State.changeLedger]

@[simp] theorem chargeDue_periphery (h : Nat) : (s.chargeDue h).periphery = s.periphery := by simp [State.chargeDue]

@[simp] theorem execPrepayItem_periphery (h : Handle) (s : State) : LeavesPeriphery s (execPrepayItem h s) := by
  simp only [execPrepayItem, leavesPeriphery_next]
  apply crossing_periphery
  split <;> simp

@[simp] theorem showResults_periphery : s.showResults.periphery = s.periphery := by
  unfold State.showResults
  refine foldl_periphery (fun t x => ?_) _ _
  (repeat' split) <;> simp

@[simp] theorem setRelay_periphery (r : Nat) (f : Relay → Relay) : (s.setRelay r f).periphery = s.periphery := by simp [State.setRelay]

@[simp] theorem commandRelay_periphery (r : Nat) (t : Bool) : (s.commandRelay r t).periphery = s.periphery := by
  unfold State.commandRelay
  (repeat' split) <;> simp

@[simp] theorem relaysBack_periphery : s.relaysBack.periphery = s.periphery := by simp [State.relaysBack]

@[simp] theorem replay_periphery (s : State) : s.replay.periphery = s.periphery := by
  rw [State.replay, schedule_periphery]
  exact foldl_periphery (fun t e => by rw [periphery_keep]) _ _

@[simp] theorem nvDone_periphery (c : NvCmd) (status : Nat) (data : Bytes) : (s.nvDone c status data).periphery = s.periphery := by
  simp [State.nvDone]

@[simp] theorem storageSlot_periphery (n usage : Nat) (label : String) (extra : Bytes) :
    (s.storageSlot n usage label extra).periphery = s.periphery := by
  unfold State.storageSlot
  (repeat' split) <;> simp

@[simp] theorem hostKeys_periphery : s.hostKeys.periphery = s.periphery := by simp [State.hostKeys]

@[simp] theorem programBuffer_periphery : s.programBuffer.periphery = s.periphery := by simp [State.programBuffer]

@[simp] theorem nvHold_periphery (i : Instr) : (s.nvHold i).periphery = s.periphery := by simp [State.nvHold]

@[simp] theorem nvRun_periphery (s : State) (c : NvCmd) (i : Instr) {t : State} (h : t.periphery = s.periphery) :
    (s.nvRun c i t).periphery = s.periphery := by
  simp [State.nvRun, h]

@[simp] theorem readLba_periphery (lba : Nat) : (s.readLba lba).2.periphery = s.periphery := by
  unfold State.readLba
  (repeat' split) <;> simp

@[simp] theorem execNvmeRead_periphery (c : NvCmd) (lba : Nat) (n : U16) (u : Bool) (s : State) :
    LeavesPeriphery s (execNvmeRead c lba n u s) := by
  rw [execNvmeRead, leavesPeriphery_next]
  apply nvRun_periphery
  split
  · simp
  · dsimp only
    (repeat' split) <;> simp only [nvDone_periphery]
    exact foldl_kept (f := fun (a : Bytes × State) i => (a.1 ++ (a.2.readLba (lba + i)).1, (a.2.readLba (lba + i)).2))
      (fun a : Bytes × State => a.2.periphery) (fun a i => readLba_periphery _ _) _ _

@[simp] theorem bufferWrite_periphery (lba : Nat) (data : Bytes) : (s.bufferWrite lba data).periphery = s.periphery := by
  simp [State.bufferWrite]

@[simp] theorem execNvmeWrite_periphery (c : NvCmd) (lba : Nat) (d : List Bytes) (f : Bool) (s : State) :
    LeavesPeriphery s (execNvmeWrite c lba d f s) := by
  rw [execNvmeWrite, leavesPeriphery_next]
  apply nvRun_periphery
  (repeat' split) <;> simp

@[simp] theorem execNvmeFlush_periphery (c : NvCmd) (s : State) : LeavesPeriphery s (execNvmeFlush c s) := by
  rw [execNvmeFlush, leavesPeriphery_next]
  apply nvRun_periphery
  split <;> simp

@[simp] theorem unmapLba_periphery (lba : Nat) : (s.unmapLba lba).periphery = s.periphery := by simp [State.unmapLba]

@[simp] theorem execNvmeDatasetManagement_periphery (c : NvCmd) (d : Bool) (l : List (Nat × Nat)) (s : State) :
    LeavesPeriphery s (execNvmeDatasetManagement c d l s) := by
  rw [execNvmeDatasetManagement, leavesPeriphery_next]
  apply nvRun_periphery
  (repeat' split) <;> simp

@[simp] theorem eraseVolume_periphery : s.eraseVolume.periphery = s.periphery := by simp [State.eraseVolume]

@[simp] theorem execNvmeFormat_periphery (c : NvCmd) (ses : Nat) : LeavesPeriphery s (execNvmeFormat c ses s) := by simp [execNvmeFormat]

@[simp] theorem execNvmeIdentify_periphery (c : NvCmd) (cns : Nat) :
    LeavesPeriphery s (execNvmeIdentify c cns s) := by simp [execNvmeIdentify]

@[simp] theorem execNvmeGetLogPage_periphery (c : NvCmd) (lid : Nat) :
    LeavesPeriphery s (execNvmeGetLogPage c lid s) := by simp [execNvmeGetLogPage]

@[simp] theorem grantHmb_periphery (enable : Bool) (mib : Nat) : (s.grantHmb enable mib).periphery = s.periphery := by simp [State.grantHmb]

@[simp] theorem execNvmeSetFeatures_periphery (c : NvCmd) (fid value : Nat) : LeavesPeriphery s (execNvmeSetFeatures c fid value s) := by
  simp [execNvmeSetFeatures]

@[simp] theorem execNvmeGetFeatures_periphery (c : NvCmd) (fid : Nat) : LeavesPeriphery s (execNvmeGetFeatures c fid s) := by
  simp [execNvmeGetFeatures]

@[simp] theorem execNvmeCreateIoQueue_periphery (c : NvCmd) (completion : Bool) (id size cq : Nat) :
    LeavesPeriphery s (execNvmeCreateIoQueue c completion id size cq s) := by
  simp [execNvmeCreateIoQueue]

@[simp] theorem execNvmeDeleteIoQueue_periphery (c : NvCmd) (completion : Bool) (id : Nat) :
    LeavesPeriphery s (execNvmeDeleteIoQueue c completion id s) := by
  simp [execNvmeDeleteIoQueue]

@[simp] theorem execNvmeAbort_periphery (c : NvCmd) (queue cid : Nat) :
    LeavesPeriphery s (execNvmeAbort c queue cid s) := by simp [execNvmeAbort]

@[simp] theorem execAsynchronousEventRequest_periphery (c : NvCmd) (s : State) : LeavesPeriphery s (execAsynchronousEventRequest c s) := by
  rw [execAsynchronousEventRequest, leavesPeriphery_next]
  apply nvRun_periphery
  split <;> simp

@[simp] theorem execNvmeInvalidOpcode_periphery (c : NvCmd) (s : State) : LeavesPeriphery s (execNvmeInvalidOpcode c s) := by
  rw [execNvmeInvalidOpcode, leavesPeriphery_next]
  exact nvRun_periphery _ _ _ (nvDone_periphery _ _ _ _)

@[simp] theorem protocolLost_periphery : s.protocolLost.periphery = s.periphery := by simp [State.protocolLost]

@[simp] theorem storageBack_periphery : s.storageBack.periphery = s.periphery := by simp [State.storageBack]

@[simp] theorem appBack_periphery : s.appBack.periphery = s.periphery := by simp [State.appBack]

@[simp] theorem closeHeadEnd_periphery (conn : Nat) : (s.closeHeadEnd conn).periphery = s.periphery := by simp [State.closeHeadEnd]

@[simp] theorem headEndRecord_periphery (conn number handle : Nat) (lpdu : Bytes) (stamp : Nat) :
    (s.headEndRecord conn number handle lpdu stamp).periphery = s.periphery := by
  simp only [State.headEndRecord]
  (repeat' split) <;> simp

@[simp] theorem execOcbHeadendDelivery_periphery (n : Nat) (m : Bytes) (stamp : Nat) (s : State) :
    LeavesPeriphery s (execOcbHeadendDelivery n m stamp s) := by
  simp only [execOcbHeadendDelivery, leavesPeriphery_next]
  apply orWait_periphery
  (repeat' split) <;> simp

@[simp] theorem follow_periphery {s : State} {r : Result} (h : LeavesPeriphery s r) : (s.follow r).periphery = s.periphery := by
  obtain ⟨t, rfl, ht⟩ := h
  exact ht

@[simp] theorem runRequest_periphery (c : Instr) : (s.runRequest c).periphery = s.periphery := by
  unfold State.runRequest
  (repeat' split) <;> simp

@[simp] theorem runInput_periphery (x : Held) : (s.runInput x).periphery = s.periphery := by
  unfold State.runInput
  (repeat' split) <;> simp

@[simp] theorem runInputs_periphery : s.runInputs.periphery = s.periphery := by simp [State.runInputs]

@[simp] theorem runHostCmd_periphery (i : Instr) : (s.runHostCmd i).periphery = s.periphery := by
  unfold State.runHostCmd
  (repeat' split) <;> simp

@[simp] theorem runHost_periphery : s.runHost.periphery = s.periphery := by simp [State.runHost]

@[simp] theorem runCrossings_periphery (i : Nat) : (s.runCrossings i).periphery = s.periphery := by simp [State.runCrossings]

end Kept

end Sys2Proof.Machine.Periphery
end

section
/-! SUPPORT. Ethernet and PRP (R426, R427), downlink to remote meters (R431), wired meters (R437 to R439) and the UARTs (R441): what
each leaves of its own part of the links, and that it changes nothing else but what it puts out. -/

namespace Sys2Proof.Machine.WiredLinks

/-! ### Ethernet (R426, R427) -/

section Ethernet

variable {s : State} {p : Fin 4} {f : EthFrame}

/-- The record of an Ethernet port. -/
def ethPort (s : State) (e : Nat) : EthPort := tblGet {} s.link.eth e

@[simp] theorem setEth_ethPort_same (s : State) (e : Nat) (g : EthPort → EthPort) : ethPort (s.setEth e g) e = g (ethPort s e) :=
  tblGet_upd_same _ _ _ _

theorem setEth_ethPort_ne (s : State) {e k : Nat} (g : EthPort → EthPort) (h : k ≠ e) : ethPort (s.setEth e g) k = ethPort s k :=
  tblGet_upd_ne _ _ _ h

/-- A frame is counted as received. -/
def received (s : State) (e : Nat) : State := s.setEth e (fun x => { x with rx := x.rx + 1 })

theorem received_ethPort (s : State) (e : Nat) : ethPort (received s e) e = { ethPort s e with rx := (ethPort s e).rx + 1 } := by
  rw [received, setEth_ethPort_same]

/-- A frame leaves on both ports. -/
def sentOnBoth (s : State) : State := (s.setEth 0 (fun x => { x with tx := x.tx + 1 })).setEth 1 (fun x => { x with tx := x.tx + 1 })

theorem sentOnBoth_tx (s : State) : (ethPort (sentOnBoth s) 0).tx = (ethPort s 0).tx + 1 ∧
    (ethPort (sentOnBoth s) 1).tx = (ethPort s 1).tx + 1 := by
  have h01 : (0 : Nat) ≠ 1 := by decide
  rw [sentOnBoth, setEth_ethPort_same, setEth_ethPort_ne _ _ h01, setEth_ethPort_ne _ _ h01.symm, setEth_ethPort_same]
  exact ⟨rfl, rfl⟩

/-- What a frame comes to that an enabled port has received whole and into a buffer. -/
theorem exec_ethFrameRx_received (hon : s.ethOn p.val = true) (hf : f.fcsOk = true) (hsize : f.size ≤ 1536) (hbuf : f.noBuf = false) :
    exec (.ethFrameRx p f) s = .next (match f.prp with
      | none => received s p.val
      | some q => if p.val < 2 ∧ s.prpOn = true ∧ f.ptp = false then (received s p.val).prpJudge p.val (f.source.toNat, q.toNat)
        else received s p.val) := by
  simp only [exec, execEthFrameRx, hon, hf, hbuf, Nat.not_lt.mpr hsize, Bool.true_eq_false, Bool.false_eq_true, if_false]
  rfl

variable (s) (e : Nat) (key : Nat × Nat)

/-- The discard table after a frame of a source and sequence that it holds, or does not (R427). -/
theorem prpJudge_eq : s.prpJudge e key =
    if (prpKept s.time.mono s.link.prp).any (fun x => x.1 == key) = true then
      (s.setLink (fun l => { l with prp := prpKept s.time.mono s.link.prp })).setEth e (fun x => { x with dup := x.dup + 1 })
    else s.setLink (fun l => { l with prp := ((key, s.time.mono) :: prpKept s.time.mono s.link.prp).take 4096 }) := rfl

theorem prpJudge_rx : (ethPort (s.prpJudge e key) e).rx = (ethPort s e).rx := by
  rw [prpJudge_eq]
  split
  · rw [setEth_ethPort_same]
    rfl
  · rfl

theorem prpJudge_frame : s.prpJudge e key = { s with link := (s.prpJudge e key).link } := by
  rw [prpJudge_eq]
  split <;> rfl

theorem prpJudge_dup (h : ∃ x ∈ s.link.prp, x.1 = key ∧ s.time.mono * 5 ≤ x.2 * 5 + 65536) :
    (ethPort (s.prpJudge e key) e).dup = (ethPort s e).dup + 1 := by
  obtain ⟨x, hx, hkey, hage⟩ := h
  have hin : (prpKept s.time.mono s.link.prp).any (fun x => x.1 == key) = true :=
    List.any_eq_true.mpr ⟨x, List.mem_filter.mpr ⟨hx, decide_eq_true hage⟩, beq_iff_eq.mpr hkey⟩
  rw [prpJudge_eq, if_pos hin, setEth_ethPort_same]
  rfl

theorem prpJudge_new (h : ∀ x ∈ s.link.prp, x.1 ≠ key) : (ethPort (s.prpJudge e key) e).dup = (ethPort s e).dup ∧
    (s.prpJudge e key).link.prp.head? = some (key, s.time.mono) ∧ (s.prpJudge e key).link.prp.length ≤ 4096 := by
  have hout : ¬ (prpKept s.time.mono s.link.prp).any (fun x => x.1 == key) = true := by
    rw [List.any_eq_true]
    rintro ⟨x, hx, hkey⟩
    exact h x (List.mem_filter.mp hx).1 (beq_iff_eq.mp hkey)
  rw [prpJudge_eq, if_neg hout]
  exact ⟨rfl, rfl, List.length_take_le _ _⟩

/-- The supervision frame leaves on both ports (R427). -/
theorem exec_prpSupervisionTx (s : State) (hp : s.prpOn = true) (h0 : s.ethOn 0 = true) (h1 : s.ethOn 1 = true) :
    exec .prpSupervisionTx s = .next (((sentOnBoth s).setLink (fun l => { l with prpSeq := l.prpSeq + 1 })).emit (.prpSupervision s.link.prpSeq)) := by
  simp [exec, execPrpSupervisionTx, hp, h0, h1, sentOnBoth]

end Ethernet

/-! ### Downlink to remote meters (R431) -/

section Remote

variable (s : State)

/-- The request that the waiting records of an association make. -/
def remoteRequest (a : Nat) : RdReq where
  assoc := a
  token := (((s.remoteFor a).head?).map (fun (x : RdRec) => x.tag.toNat)).getD 0
  sends := 0
  recs := (s.remoteFor a).map (fun (x : RdRec) => { x with gen := (((s.ctxOf x.meter).map (fun c => c.link.toNat % 256)).getD x.gen) })

theorem exec_remoteDownlinkTx (a : Nat) : exec (.remoteDownlinkTx a) s = .next (
    if s.remoteFor a = [] ∨ s.acting = false ∨ s.pwr.inReset = true then s
    else (s.setLink (fun l => { l with
      remote := l.remote ++ [remoteRequest s a]
      remoteWait := l.remoteWait.filter (fun x => !(s.remoteFor a).contains x) })).sendRemote (remoteRequest s a)) := rfl

theorem remoteFor_length (a : Nat) : (s.remoteFor a).length ≤ 64 := List.length_take_le _ _

variable {s} {k : Nat} {q : RdReq}

theorem find_token (hq : q.token = k) : [q].find? (fun q => q.token == k) = some q := by simp [hq]

theorem exec_remoteDownlinkRetransmit_one (hr : s.link.remote = [q]) (hq : q.token = k) : exec (.remoteDownlinkRetransmit k) s = .next (
    if q.sends < 4 then
      (s.setLink (fun l => { l with remote := l.remote.map (fun x => if x.token = k then { x with sends := x.sends + 1 } else x) })).sendRemote q
    else s.remoteResults k (q.recs.map (fun (x : RdRec) => (x.tag, 3)))) := by
  simp only [exec, execRemoteDownlinkRetransmit, hr, find_token hq]

end Remote

/-! ### Wired meters (R437 to R439) -/

section Serial

variable (s : State) (p : Nat)

/-- What a port has counted of its replies, timeouts, collisions and unsecured replies. -/
def tally : U32 × U32 × U32 × U32 :=
  ((s.serial p).replies, (s.serial p).timeouts, (s.serial p).collisions, (s.serial p).unsecured)

@[simp] theorem setSerial_serial_same (g : SerialPort → SerialPort) : (s.setSerial p g).serial p = g (s.serial p) :=
  tblGet_upd_same _ _ _ _

theorem setLink_serial (g : LinkState → LinkState) (h : (g s.link).serial = s.link.serial) (k : Nat) : (s.setLink g).serial k = s.serial k :=
  congrArg (fun t => tblGet ({} : SerialPort) t k) h

theorem setSerial_serial_ne {k : Nat} (g : SerialPort → SerialPort) (h : k ≠ p) : (s.setSerial p g).serial k = s.serial k :=
  tblGet_upd_ne _ _ _ h

theorem serial_of_periphery {s t : State} (h : t.periphery = s.periphery) (k : Nat) : t.serial k = s.serial k := by
  show tblGet {} t.periphery.1 k = tblGet {} s.periphery.1 k
  rw [h]

theorem consec_of_periphery {s t : State} (h : t.periphery = s.periphery) : t.link.consec = s.link.consec := congrArg (fun w => w.2.1) h

theorem emit_serial (o : Out) (k : Nat) : (s.emit o).serial k = s.serial k := rfl

theorem ask_serial (h n : Nat) (ho : s.serialOurs = true) :
    (s.ask p h n).serial p = { s.serial p with sent := (s.serial p).sent + 1, asking := some (h, n) } := by
  rw [State.ask, if_neg (by simp [ho]), emit_serial, setSerial_serial_same]

theorem ask_setSerial_serial (g : SerialPort → SerialPort) (h n : Nat) (ho : s.serialOurs = true) :
    ((s.setSerial p g).ask p h n).serial p =
      { g (s.serial p) with sent := (g (s.serial p)).sent + 1, asking := some (h, n) } := by
  have ho' : (s.setSerial p g).serialOurs = true := ho
  rw [ask_serial _ _ _ _ ho', setSerial_serial_same]

theorem ask_serial_ne {k : Nat} (h n : Nat) (hk : k ≠ p) : (s.ask p h n).serial k = s.serial k := by
  unfold State.ask
  split
  · exact setSerial_serial_ne s p _ hk
  · exact setSerial_serial_ne s p _ hk

theorem tally_eq {s t : State} (h : tally t p = tally s p) : (t.serial p).replies = (s.serial p).replies ∧
    (t.serial p).timeouts = (s.serial p).timeouts ∧ (t.serial p).collisions = (s.serial p).collisions ∧
    (t.serial p).unsecured = (s.serial p).unsecured := by
  simpa [tally] using h

theorem ask_tally (h n : Nat) : tally (s.ask p h n) p = tally s p := by
  unfold State.ask
  split
  · simp only [tally, setSerial_serial_same]
  · show tally (s.setSerial p _) p = _
    simp only [tally, setSerial_serial_same]

theorem ask_consec (h n : Nat) : (s.ask p h n).link.consec = s.link.consec := by
  unfold State.ask
  split <;> rfl

theorem ask_acc (h n : Nat) : (s.ask p h n).acc = s.acc := by
  unfold State.ask
  split <;> rfl

theorem ask_frame (h n : Nat) : s.ask p h n = { s with link := (s.ask p h n).link, out := (s.ask p h n).out } := by
  unfold State.ask
  split <;> rfl

theorem byService_link (l : LinkState) (x : Nat × Item) (ys : List (Nat × Item)) :
    ({ s with link := l } : State).byService x ys = s.byService x ys := by
  induction ys with
  | nil => rfl
  | cons y ys ih =>
    rw [State.byService, State.byService, ih]
    rfl

theorem seqItems_link (l : LinkState) (n : Nat) : ({ s with link := l } : State).seqItems n = s.seqItems n := by
  rw [State.seqItems, funext fun x => funext (byService_link s l x)]
  rfl

/-- No item waits for the port's engine; what the links are does not bear on it. -/
theorem takeSerialItem_link (l : LinkState) : ({ s with link := l } : State).takeSerialItem p = none ↔ s.takeSerialItem p = none := by
  rw [State.takeSerialItem, State.takeSerialItem, Option.map_eq_none_iff, Option.map_eq_none_iff, seqItems_link]
  rfl

theorem takeSerialItem_periphery {it : Nat × State} (h : s.takeSerialItem p = some it) : it.2.periphery = s.periphery := by
  rw [State.takeSerialItem] at h
  obtain ⟨x, -, rfl⟩ := Option.map_eq_some_iff.mp h
  rw [Periphery.showResults_periphery, Periphery.seqTake_periphery]

theorem serialNext_tally : tally (s.serialNext p) p = tally s p ∧ (s.serialNext p).link.consec = s.link.consec := by
  unfold State.serialNext
  split
  · exact ⟨rfl, rfl⟩
  · dsimp only
    split
    next it hit =>
      have hw := takeSerialItem_periphery s p hit
      have hs : tally it.2 p = tally s p := by rw [tally, tally, serial_of_periphery hw]
      have hc := consec_of_periphery hw
      split
      · refine ⟨?_, (ask_consec it.2 p it.1 0).trans hc⟩
        rw [← hs, ← ask_tally it.2 p it.1 0]
        simp only [tally, setSerial_serial_same]
      · exact ⟨(ask_tally it.2 p it.1 0).trans hs, (ask_consec it.2 p it.1 0).trans hc⟩
    · exact ⟨rfl, rfl⟩
    · split
      · exact ⟨by simp only [tally, setSerial_serial_same], rfl⟩
      · refine ⟨(ask_tally _ _ _ _).trans ?_, ask_consec _ _ _ _⟩
        simp only [tally, setSerial_serial_same]

theorem serialNext_acc (h : s.takeSerialItem p = none) : (s.serialNext p).acc = s.acc := by
  unfold State.serialNext
  split
  · rfl
  · rw [h]
    dsimp only
    split
    next e => cases e
    · rfl
    · split
      · rfl
      · exact ask_acc _ _ _ _

theorem serialDone_tally : tally (s.serialDone p) p = tally s p ∧ (s.serialDone p).link.consec = s.link.consec := by
  obtain ⟨ht, hc⟩ := serialNext_tally (s.setSerial p (fun x => { x with asking := none })) p
  exact ⟨ht.trans (by simp only [tally, setSerial_serial_same]), hc⟩

/-- An idle port with no work asks the next meter of its round (R439). -/
theorem serialNext_round {h : Nat} {l : List Nat} (hidle : (s.serial p).asking = none) (ho : s.serialOurs = true) (hc : s.serCfg p 1 ≠ 0)
    (hup : s.isUp 6 = true) (hround : (s.serial p).round = h :: l) (hroom : s.serialFull p = false) (hwork : s.takeSerialItem p = none) :
    s.serialNext p = (s.setSerial p (fun x => { x with round := l })).ask p h 0 := by
  simp [State.serialNext, hidle, ho, hc, hup, hround, hroom, hwork]

/-- The port with a new round. -/
def newRound : State := s.setSerial p (fun x => { x with round := if x.round = [] then s.metersOn p else x.round })

theorem newRound_ours {s : State} {p : Nat} (ho : s.serialOurs = true) : (newRound s p).serialOurs = true := ho

theorem exec_serialPoll (q : Fin 16) : exec (.serialPoll q) s = .next (
    if s.serialOurs = false ∨ s.serCfg q.val 1 = 0 ∨ s.isUp 6 = false then s else (newRound s q.val).serialNext q.val) := rfl

theorem exec_serialPoll_asks (q : Fin 16) {h : Nat} {l : List Nat} (ho : s.serialOurs = true) (hc : s.serCfg q.val 1 ≠ 0)
    (hup : s.isUp 6 = true) (hidle : (s.serial q.val).asking = none) (hround : (s.serial q.val).round = []) (hm : s.metersOn q.val = h :: l)
    (hroom : s.serialFull q.val = false) (hwork : s.takeSerialItem q.val = none) : exec (.serialPoll q) s =
      .next (((newRound s q.val).setSerial q.val (fun x => { x with round := l })).ask q.val h 0) := by
  have hserial : (newRound s q.val).serial q.val = { s.serial q.val with round := h :: l } := by
    simp [newRound, hround, hm]
  rw [exec_serialPoll, if_neg (by simp [ho, hc, hup]), serialNext_round (newRound s q.val) q.val (by rw [hserial]; exact hidle) ho hc hup
    (by rw [hserial]) hroom ((takeSerialItem_link s q.val _).mpr hwork)]

/-- A reply of the meter asked, taken off the port. -/
def replied (h : Nat) : State :=
  (s.setSerial p (fun x => { x with replies := x.replies + 1, fcb := tblUpd false x.fcb h (!·) })).setLink
    (fun l => { l with consec := tblPut l.consec h 0 })

theorem replied_serial (h : Nat) : (replied s p h).serial p =
    { s.serial p with replies := (s.serial p).replies + 1, fcb := tblUpd false (s.serial p).fcb h (!·) } := by
  rw [replied, setLink_serial _ _ rfl, setSerial_serial_same]

/-- A reply without ciphering where none is allowed: taken off the port and counted. -/
def discarded (h : Nat) : State := (replied s p h).setSerial p (fun x => { x with unsecured := x.unsecured + 1 })

theorem discarded_serial (h : Nat) : (discarded s p h).serial p = { s.serial p with
    replies := (s.serial p).replies + 1, unsecured := (s.serial p).unsecured + 1, fcb := tblUpd false (s.serial p).fcb h (!·) } := by
  rw [discarded, setSerial_serial_same, replied_serial]

theorem discarded_links (h : Nat) : ∃ l : LinkState, discarded s p h = { s with link := l } := ⟨(discarded s p h).link, rfl⟩

theorem serialDone_acc (h : s.takeSerialItem p = none) : (s.serialDone p).acc = s.acc :=
  serialNext_acc (s.setSerial p _) p ((takeSerialItem_link s p _).mpr h)

theorem discarded_acc (h : Nat) (hwork : s.takeSerialItem p = none) : ((discarded s p h).serialDone p).acc = s.acc := by
  obtain ⟨l, hl⟩ := discarded_links s p h
  rw [hl]
  exact serialDone_acc _ p ((takeSerialItem_link s p l).mpr hwork)

theorem replied_consec (h : Nat) : tblGet 0 (replied s p h).link.consec h = 0 := tblGet_put_same _ _ _ _

/-- A timeout of the meter asked, counted. -/
def timedOut (h : Nat) : State :=
  (s.setSerial p (fun x => { x with timeouts := x.timeouts + 1 })).setLink (fun l => { l with consec := tblUpd 0 l.consec h satInc })

theorem timedOut_serial (h : Nat) : (timedOut s p h).serial p = { s.serial p with timeouts := (s.serial p).timeouts + 1 } := by
  rw [timedOut, setLink_serial _ _ rfl, setSerial_serial_same]

theorem timedOut_consec (h : Nat) : tblGet 0 (timedOut s p h).link.consec h = satInc (tblGet 0 s.link.consec h) :=
  tblGet_upd_same _ _ _ _

section Exchange

variable {s} {q : Fin 16} {f : StdFrame} {x : Rx} {h n : Nat}

theorem exec_serialResponseTimeout (ha : (s.serial q.val).asking = some (h, n)) : exec (.serialResponseTimeout q) s = .next (
    if n < s.serCfg q.val 5 then (timedOut s q.val h).ask q.val h (n + 1) else (timedOut s q.val h).serialDone q.val) := by
  simp only [exec, execSerialResponseTimeout, ha]
  rfl

/-- Asked again or not, a timeout leaves its two counts. -/
theorem serialResponseTimeout_counts (ha : (s.serial q.val).asking = some (h, n)) : ∃ t : State, exec (.serialResponseTimeout q) s = .next t ∧
    tally t q.val = tally (timedOut s q.val h) q.val ∧ t.link.consec = (timedOut s q.val h).link.consec ∧
    (n < s.serCfg q.val 5 → s.serialOurs = true → (t.serial q.val).asking = some (h, n + 1)) := by
  by_cases hn : n < s.serCfg q.val 5
  · refine ⟨_, (exec_serialResponseTimeout ha).trans (congrArg Host.Outcome.next (if_pos hn)), ask_tally _ _ _ _, ask_consec _ _ _ _,
      fun _ ho => ?_⟩
    have ho' : (timedOut s q.val h).serialOurs = true := ho
    rw [ask_serial _ _ _ _ ho']
  · obtain ⟨htally, hconsec⟩ := serialDone_tally (timedOut s q.val h) q.val
    exact ⟨_, (exec_serialResponseTimeout ha).trans (congrArg Host.Outcome.next (if_neg hn)), htally, hconsec, fun h => absurd h hn⟩

theorem exec_serialReplyRx_bad (ha : (s.serial q.val).asking = some (h, n)) (hup : s.isUp 6 = true) (hn : n < s.serCfg q.val 5) :
    exec (.serialReplyRx q false f x) s =
      .next ((s.setSerial q.val (fun x => { x with collisions := x.collisions + 1 })).ask q.val h (n + 1)) := by
  simp [exec, execSerialReplyRx, ha, hup, hn]

theorem exec_serialReplyRx_other (ha : (s.serial q.val).asking = some (h, n)) (hup : s.isUp 6 = true) (hh : f.handle.toNat ≠ h) :
    exec (.serialReplyRx q true f x) s = .next s := by
  simp [exec, execSerialReplyRx, ha, hup, hh]

theorem exec_serialReplyRx_taken (ha : (s.serial q.val).asking = some (h, n)) (hup : s.isUp 6 = true) (hh : f.handle.toNat = h) :
    exec (.serialReplyRx q true f x) s = .next ((
      if f.mode = 0 ∧ s.serCfg q.val 7 = 0 then discarded s q.val h
      else if (replied s q.val h).pathRuns = true then (replied s q.val h).serialAccept q.val f x
      else (replied s q.val h).holdFrame (25 + q.val) (if q.val < 8 then 9 else 10) q.val f x).serialDone q.val) := by
  simp only [exec, execSerialReplyRx, ha, hup, hh, Bool.true_eq_false, if_false, ne_eq, not_true_eq_false]
  rfl

/-- A ciphered reply is judged or held; either leaves the periphery. -/
theorem exec_serialReplyRx_ciphered (ha : (s.serial q.val).asking = some (h, n)) (hup : s.isUp 6 = true) (hh : f.handle.toNat = h)
    (hm : f.mode ≠ 0) : ∃ t : State, exec (.serialReplyRx q true f x) s = .next (t.serialDone q.val) ∧ t.periphery = (replied s q.val h).periphery := by
  refine ⟨_, exec_serialReplyRx_taken ha hup hh, ?_⟩
  rw [if_neg (fun hn => hm hn.1)]
  split
  · exact Periphery.serialAccept_periphery _ _ _ _
  · exact Periphery.holdInput_periphery _ _ _

theorem exec_serialReplyRx_unsecured (ha : (s.serial q.val).asking = some (h, n)) (hup : s.isUp 6 = true) (hh : f.handle.toNat = h)
    (hm : f.mode = 0) (hc : s.serCfg q.val 7 = 0) : exec (.serialReplyRx q true f x) s =
      .next ((discarded s q.val h).serialDone q.val) :=
  (exec_serialReplyRx_taken ha hup hh).trans (by rw [if_pos ⟨hm, hc⟩])

end Exchange

end Serial

/-! ### UARTs (R441) -/

section Uart

theorem eq_of_outsideCascade {s t : State} (h : Campaigns.outsideCascade t = Campaigns.outsideCascade s) :
    t = { s with cas := t.cas, out := t.out } :=
  congrArg (fun u : State => { u with cas := t.cas, out := t.out }) h

theorem producer_opens (s : State) : s.producer.2 = { s with opens := s.producer.2.opens } := by
  simp only [State.producer]
  split <;> rfl

/-- What a producer's item and the service of the queues change: the scheduler's record, the open amounts drawn, the output. -/
theorem produce_schedule_frame (s : State) (f kind key ref : Nat) (tel : Bool) :
    ∃ t : State, (s.producer.2.produce s.producer.1 f kind key ref tel).schedule = t ∧ t = { s with cas := t.cas, opens := t.opens, out := t.out } := by
  refine ⟨_, rfl, ?_⟩
  have hcas := eq_of_outsideCascade ((Campaigns.schedule_outsideCascade _).trans
    (Campaigns.produce_outsideCascade s.producer.2 s.producer.1 f kind key ref tel))
  have hopens := producer_opens s
  generalize (s.producer.2.produce s.producer.1 f kind key ref tel).schedule = t at hcas ⊢
  generalize s.producer.2.opens = n at hopens
  rw [hopens] at hcas
  have hn : t.opens = n := congrArg State.opens hcas
  rw [hn]
  exact hcas

/-- A byte kept joins the FIFO of its UART and an item the port's flow, which the cascade serves. -/
theorem exec_uartByteRx_kept (s : State) (p : Fin 2) (b : Byte) (hon : s.cfgB (0x443001 + 0x800 * p.val) = true) (hup : s.isUp 6 = true)
    (hroom : (tblGet [] s.link.uart p.val).length < 256) : ∃ t : State, exec (.uartByteRx p b) s = .next t ∧
      t = { s with
        link := { s.link with uart := tblPut s.link.uart p.val (tblGet [] s.link.uart p.val ++ [b]) }
        cas := t.cas, opens := t.opens, out := t.out } := by
  obtain ⟨t, ht, hframe⟩ := produce_schedule_frame
    (s.setLink (fun l => { l with uart := tblPut l.uart p.val (tblGet [] s.link.uart p.val ++ [b]) })) (0xC2A + p.val) 4 p.val 1 true
  refine ⟨t, ?_, hframe⟩
  rw [← ht]
  simp only [exec, execUartByteRx, hon, hup, Nat.not_le.mpr hroom, Bool.true_eq_false, or_self, if_false]

end Uart

/-- Settles O44: the ports, the requests, the polls and the bytes, each by its own part of the links. -/
theorem backhaulAndWiredLinks : Obligations.BackhaulAndWiredLinks := by
  refine ⟨fun s p f h => ?ethOff, fun s p f hon => ?ethOn, fun s p v h => ?linkReset, fun s p v h => ?linkChange, fun s h => ?noSupervision,
    fun s hp h0 h1 => ?supervision, fun s a h => ?noRemote, fun s a h hact hres => ?remote, fun s k l h => ?noRequest,
    fun s k l h => ?result, fun s k q hr hq => ?retransmit, fun s g => rfl, fun s => ?ours, fun s p h => ?noPoll,
    fun s p h l ho hc hup hidle hround hm hroom hwork => ?poll, fun s p g f x h => ?idle, fun s p f x h n ha hup => ?reply,
    fun s p h n ha => ?timeout, fun s p b h => ?uartOff, fun s p b hon hup => ?uart⟩
  case ethOff =>
    obtain h | ⟨hf, hs⟩ := h
    · simp [exec, execEthFrameRx, h]
    · simp [exec, execEthFrameRx, hf, hs]
  case ethOn =>
    refine ⟨fun hf => ?_, fun hf hs hb => ?_, fun hf hs hb hpass => ?_, fun q hf hs hb hq hp hprp hptp => ?_⟩
    · simp [exec, execEthFrameRx, hon, hf]
    · simp [exec, execEthFrameRx, hon, hf, hb, Nat.not_lt.mpr hs]
    · rw [exec_ethFrameRx_received hon hf hs hb]
      split
      · rfl
      next q hq =>
        refine congrArg Host.Outcome.next (if_neg ?_)
        rintro ⟨hp, hprp, hptp⟩
        obtain h | h | h | h := hpass
        · simp [hq] at h
        · omega
        · simp [hprp] at h
        · simp [hptp] at h
    · rw [exec_ethFrameRx_received hon hf hs hb, hq]
      refine ⟨_, congrArg Host.Outcome.next (if_pos ⟨hp, hprp, hptp⟩), ?_, prpJudge_frame _ _ _, fun h => ?_, fun h => ?_⟩
      · rw [← ethPort, prpJudge_rx, received_ethPort]
        rfl
      · rw [← ethPort, prpJudge_dup (received s p.val) p.val _ h, received_ethPort]
        rfl
      · obtain ⟨hdup, hhead, hlen⟩ := prpJudge_new (received s p.val) p.val _ h
        rw [received_ethPort] at hdup
        exact ⟨hdup, hhead, hlen⟩
  case linkReset => simp [exec, execEthLinkChange, h]
  case linkChange => simp [exec, execEthLinkChange, h]
  case noSupervision => exact congrArg Host.Outcome.next (if_pos h)
  case supervision =>
    obtain ⟨htx0, htx1⟩ := sentOnBoth_tx s
    exact ⟨_, exec_prpSupervisionTx s hp h0 h1, htx0, htx1, rfl, rfl, rfl⟩
  case noRemote => rw [exec_remoteDownlinkTx, if_pos h]
  case remote =>
    refine ⟨_, remoteRequest s a, (exec_remoteDownlinkTx s a).trans (congrArg Host.Outcome.next (if_neg (by simp [h, hact, hres]))), rfl, rfl,
      rfl, ?_, ?_, ?_, fun x hx => ?_, rfl⟩
    · rw [remoteRequest, List.length_map]
      exact List.length_pos_iff.mpr h
    · simpa [remoteRequest] using remoteFor_length s a
    · simp [remoteRequest]
    · intro hw
      have hnot := (List.mem_filter.mp hw).2
      simp [hx] at hnot
  case noRequest =>
    have hany : s.link.remote.any (fun q => q.token == k) = false := by simpa using h
    have hfind : s.link.remote.find? (fun q => q.token == k) = none := by simpa using h
    exact ⟨by simp [exec, execRemoteDownlinkResult, hany], by simp [exec, execRemoteDownlinkRetransmit, hfind]⟩
  case result =>
    have hany : s.link.remote.any (fun q => q.token == k) = true := by simpa using h
    refine ⟨_, congrArg Host.Outcome.next (if_pos hany), fun q hq => ?_, rfl⟩
    obtain ⟨hin, htok⟩ := List.mem_filter.mp hq
    exact ⟨hin, by simpa using htok⟩
  case retransmit =>
    rw [exec_remoteDownlinkRetransmit_one hr hq]
    refine ⟨fun hn => ⟨_, congrArg Host.Outcome.next (if_pos hn), ?_, rfl⟩, fun hn => ⟨_, congrArg Host.Outcome.next (if_neg (by omega)), ?_, rfl⟩⟩
    · simp [State.sendRemote, State.setLink, State.emit, hr, hq]
    · simp [State.remoteResults, State.setLink, hr, hq]
  case ours => simp [State.serialOurs]
  case noPoll => rw [exec_serialPoll, if_pos h]
  case poll =>
    refine ⟨_, exec_serialPoll_asks s p ho hc hup hidle hround hm hroom hwork, ?_, ?_, ?_, fun k hk => ?_, ?_⟩
    · rw [ask_setSerial_serial _ _ _ _ _ (newRound_ours ho)]
    · rw [ask_setSerial_serial _ _ _ _ _ (newRound_ours ho)]
    · rw [ask_setSerial_serial _ _ _ _ _ (newRound_ours ho), newRound, setSerial_serial_same]
    · rw [ask_serial_ne _ _ _ _ hk, setSerial_serial_ne _ _ _ hk, newRound, setSerial_serial_ne _ _ _ hk]
    · exact ask_frame _ _ _ _
  case idle => exact ⟨by simp [exec, execSerialReplyRx, h], by simp [exec, execSerialResponseTimeout, h]⟩
  case reply =>
    refine ⟨fun hn ho => ?_, fun hh => exec_serialReplyRx_other ha hup hh, fun hh hm hc hwork => ?_, fun hh hm => ?_⟩
    · refine ⟨_, exec_serialReplyRx_bad ha hup hn, ?_, ?_, ask_frame _ _ _ _⟩
      · rw [ask_setSerial_serial _ _ _ _ _ ho]
      · rw [ask_setSerial_serial _ _ _ _ _ ho]
    · obtain ⟨hr, -, -, hu⟩ := tally_eq p.val (serialDone_tally (discarded s p.val h) p.val).1
      refine ⟨_, exec_serialReplyRx_unsecured ha hup hh hm hc, ?_, ?_, discarded_acc s p.val h hwork⟩
      · rw [hu, discarded_serial]
      · rw [hr, discarded_serial]
    · obtain ⟨t, ht, hw⟩ := exec_serialReplyRx_ciphered (x := x) ha hup hh hm
      obtain ⟨htally, hconsec⟩ := serialDone_tally t p.val
      obtain ⟨hr, -⟩ := tally_eq p.val htally
      refine ⟨_, ht, ?_, ?_⟩
      · rw [hr, serial_of_periphery hw, replied_serial]
      · rw [hconsec, consec_of_periphery hw, replied_consec]
  case timeout =>
    obtain ⟨t, ht, htally, hconsec, hask⟩ := serialResponseTimeout_counts ha
    obtain ⟨-, htimeouts, -⟩ := tally_eq p.val htally
    exact ⟨t, ht, by rw [htimeouts, timedOut_serial], by rw [hconsec, timedOut_consec], hask⟩
  case uartOff => simp [exec, execUartByteRx, h]
  case uart =>
    refine ⟨fun hfull => ?_, fun hroom => ?_⟩
    · simp [exec, execUartByteRx, hon, hup, hfull]
      rfl
    · obtain ⟨t, ht, hframe⟩ := exec_uartByteRx_kept s p b hon hup hroom
      have hlink : t.link = { s.link with uart := tblPut s.link.uart p.val (tblGet [] s.link.uart p.val ++ [b]) } := congrArg State.link hframe
      refine ⟨t, ht, ?_, ?_⟩
      · rw [hlink]
        exact tblGet_put_same _ _ _ _
      · rw [hlink]
        exact hframe

end Sys2Proof.Machine.WiredLinks
end

section
/-! SUPPORT. The power-fail sequence (R405), main resets (R403, R412), block-alone resets (R417) and the commands and measurements of the
supply (R408 to R425): what each leaves of the power state, the recorder, the pair and time. -/

namespace Sys2Proof.Machine.PowerSequences

open Seat PairRounds

/-! ### The recorder -/

theorem flush_flush_log (e : EvState) : e.flush.flush.log = e.flush.log := List.take_of_length_le (List.length_take_le _ _)

/-! ### The power-fail sequence (R405) -/

section Sequence

variable (s : State)

@[simp] theorem setTime_seat (f : TimeState → TimeState) : (s.setTime f).seat = s.seat := by simp [State.setTime]

@[simp] theorem applySet_seat (c : CalTime) (who : Option (Req × Bool)) : (s.applySet c who).seat = s.seat := by
  obtain _ | ⟨r, _ | _⟩ := who <;> simp [State.applySet]

@[simp] theorem lockout_seat : s.lockout.seat = s.seat := by
  unfold State.lockout
  rw [setTime_seat]
  (repeat' split) <;> simp

theorem lockout_locks : s.lockout.time.lockout = true := by
  unfold State.lockout
  rfl

/-- The cycle snapshot at the warning. -/
def snapped : State :=
  match s.time.lastStamp with
  | some t => s.setTime (fun x => { x with snap := some { num := x.cycle, stamp := t, period := x.period } })
  | none => s

theorem snapped_seat : (snapped s).seat = s.seat := by
  unfold snapped
  split
  · exact setTime_seat _ _
  · rfl

theorem snapped_lockout : (snapped s).time.lockout = s.time.lockout := by
  unfold snapped
  split <;> rfl

/-- The warning's first step: a paired unit releases its claim. -/
def claimReleased : State :=
  let s1 := s.setPwr (fun p => { p with pfw := true, seqDone := false })
  if s.pair.role = .solo then s1 else s1.forceZero 0

theorem forceZero_pwr (k : U32) : (s.forceZero k).pwr = s.pwr := giveUp_pwr _

theorem forceZero_trust (k : U32) : (s.forceZero k).trust = s.trust := giveUp_trust _

theorem claimReleased_pwr : (claimReleased s).pwr = { s.pwr with pfw := true, seqDone := false } := by
  unfold claimReleased
  dsimp only
  split
  · rfl
  · rw [forceZero_pwr]
    rfl

theorem claimReleased_trust : (claimReleased s).trust = s.trust := by
  unfold claimReleased
  dsimp only
  split
  · rfl
  · rw [forceZero_trust]
    rfl

theorem claimReleased_pair (h : s.pair.role ≠ .solo) :
    (claimReleased s).pair.health = 0 ∧ (claimReleased s).pair.claim = 0 ∧ (claimReleased s).pair.won = false := by
  obtain ⟨hh, hc, -, -, hw, -⟩ := forceZero_pair (s.setPwr (fun p => { p with pfw := true, seqDone := false })) 0
  rw [claimReleased, if_neg h]
  exact ⟨hh, hc, hw h⟩

/-- The power state with an outage open and its record or its tick noted. -/
def outageNoted (p : PowerState) (o : Bool) (r w : Option CalTime) : PowerState := { p with outageOpen := o, outageRec := r, warnTick := w }

theorem setPwr_seat (f : PowerState → PowerState) : (s.setPwr f).seat = (s.seat.1, s.seat.2.1, f s.seat.2.2) := rfl

/-- The billing engine at a warning changes of the seat no more than the outage (R290, R407). -/
theorem warnBilling_seat : ∃ o r w, s.warnBilling.seat = (s.seat.1, s.seat.2.1, outageNoted s.seat.2.2 o r w) := by
  unfold State.warnBilling
  split
  · exact ⟨_, _, _, rfl⟩
  · split
    · refine ⟨true, some s.time.cal, s.pwr.warnTick, ?_⟩
      rw [setPwr_seat, billWarning_seat]
      rfl
    · exact ⟨_, _, _, rfl⟩

theorem billWarning_time : s.billWarning.time = s.time := by
  obtain ⟨h, -, -⟩ := Billing.clockView_parts (Billing.boundaryEvents_clock s s.time.calNs)
  exact h

theorem warnBilling_time : s.warnBilling.time = s.time := by
  unfold State.warnBilling
  split
  · rfl
  · split
    · exact billWarning_time s
    · rfl

theorem closeDemand_time (f : Nat) (x : U16) : (s.closeDemand f x).time = s.time := by
  unfold State.closeDemand
  dsimp only
  rw [Billing.archive_time]
  unfold State.feederDemand
  dsimp only
  split <;> rfl

theorem endAggregate_time (f : Nat) : (s.endAggregate f).time = s.time := by
  unfold State.endAggregate
  dsimp only
  split
  · rfl
  · rw [Billing.archive_time]
    rfl

theorem weirPowerFail_time : s.weirPowerFail.time = s.time := by
  unfold State.weirPowerFail
  split
  · rfl
  · show (List.foldl _ s s.feedersOn).time = s.time
    refine TimeScales.foldl_time (fun t f => ?_) _ _
    rw [endAggregate_time]
    exact closeDemand_time t f 64

theorem programBuffer_time : s.programBuffer.time = s.time := by
  show (List.foldl _ s s.arch.wbuf).time = s.time
  refine TimeScales.foldl_time (fun t w => ?_) _ _
  exact TimeScales.program_time t _ _ _ _ _

/-- What the sequence makes durable after the claim and the calendar. -/
def madeDurable : State := ((s.weirPowerFail.warnBilling).storeHeat).programBuffer

theorem madeDurable_seat : ∃ o r w, (madeDurable s).seat = (s.seat.1, s.seat.2.1, outageNoted s.seat.2.2 o r w) := by
  obtain ⟨o, r, w, h⟩ := warnBilling_seat s.weirPowerFail
  refine ⟨o, r, w, ?_⟩
  rw [madeDurable, programBuffer_seat, storeHeat_seat, h, weirPowerFail_seat]

theorem madeDurable_time : (madeDurable s).time = s.time := by
  rw [madeDurable, programBuffer_time]
  exact (warnBilling_time _).trans (weirPowerFail_time s)

theorem powerFail_eq : s.powerFail = { madeDurable (snapped (claimReleased s).lockout) with
    ev := { (madeDurable (snapped (claimReleased s).lockout)).ev.flush with writeThrough := true } } := rfl

theorem powerFail_seat : ∃ o r w, s.powerFail.seat =
    (s.trust, (claimReleased s).pair.steady, outageNoted { s.pwr with pfw := true, seqDone := false } o r w) := by
  obtain ⟨o, r, w, h⟩ := madeDurable_seat (snapped (claimReleased s).lockout)
  rw [snapped_seat, lockout_seat] at h
  refine ⟨o, r, w, ?_⟩
  rw [powerFail_eq, ← claimReleased_pwr, ← claimReleased_trust]
  exact h

theorem powerFail_lockout : s.powerFail.time.lockout = true := by
  rw [powerFail_eq]
  dsimp only
  rw [madeDurable_time, snapped_lockout, lockout_locks]

theorem powerFail_durable : s.powerFail.ev.writeThrough = true ∧ s.powerFail.ev.buf = [] ∧ s.powerFail.ev.sumsMram = s.powerFail.ev.sums ∧
    s.powerFail.arch.wbuf = [] := ⟨rfl, rfl, rfl, rfl⟩

end Sequence

/-! ### Main resets (R403, R412) -/

section Resets

variable (s : State)

theorem enterReset_pending (c : U8) (h : s.pwr.inReset = true) : s.enterReset c = s := if_pos h

theorem deviceReset_pending (c : U8) (h : s.pwr.inReset = true) : s.deviceReset c = s := if_pos h

theorem enterReset_inReset (c : U8) : (s.enterReset c).pwr.inReset = true := by
  by_cases h : s.pwr.inReset = true
  · rw [enterReset_pending s c h, h]
  · exact (enterReset_pwr s c (Bool.eq_false_of_not_eq_true h)).1

theorem enterReset_holds (c : U8) (h : s.pwr.inReset = false) : (s.enterReset c).dict.available = false ∧
    (s.enterReset c).pwr.islands = .running :: List.replicate 9 .held := by
  unfold State.enterReset
  rw [if_neg (by simp [h])]
  exact ⟨rfl, rfl⟩

theorem enterReset_seqDone (c : U8) : (s.enterReset c).pwr.seqDone = s.pwr.seqDone := by
  have hgive : (if s.formed = true then s.giveUp else s).pwr.seqDone = s.pwr.seqDone := by
    split
    · rw [giveUp_pwr]
    · rfl
  unfold State.enterReset
  split
  · rfl
  · exact hgive

theorem enterReset_ev (c : U8) (h : s.pwr.inReset = false) : (s.enterReset c).ev = s.ev ∨ (s.enterReset c).ev = s.ev.flush := by
  have hev : (s.enterReset c).ev = (if s.formed then s.giveUp else s).ev := by
    unfold State.enterReset
    rw [if_neg (by simp [h])]
    rfl
  rw [hev]
  split
  · rw [giveUp_ev]
    split
    · exact .inl rfl
    · exact .inr rfl
  · exact .inl rfl

/-- The device's own reset waits for the flush (R396). -/
theorem deviceReset_ev (c : U8) (h : s.pwr.inReset = false) :
    (s.deviceReset c).ev.buf = [] ∧ (s.deviceReset c).ev.log = (s.ev.buf ++ s.ev.log).take 28672 := by
  have he := enterReset_ev { s with ev := s.ev.flush } c h
  have heq : s.deviceReset c = ({ s with ev := s.ev.flush } : State).enterReset c := if_neg (by simp [h])
  rw [heq]
  obtain he | he := he <;> rw [he]
  · exact ⟨rfl, rfl⟩
  · exact ⟨rfl, flush_flush_log s.ev⟩

theorem deviceReset_holds (c : U8) (h : s.pwr.inReset = false) : (s.deviceReset c).pwr.islands = .running :: List.replicate 9 .held := by
  have heq : s.deviceReset c = ({ s with ev := s.ev.flush } : State).enterReset c := if_neg (by simp [h])
  rw [heq]
  exact (enterReset_holds { s with ev := s.ev.flush } c h).2

end Resets

/-! ### Islands (R417, R418) -/

section Islands

variable {s : State} {i : Fin 10}

/-- The block resets of an island within the last minute. -/
def nearResets (s : State) (i : Nat) : List Nat :=
  (tblGet [] s.pwr.blockTimes i).filter (fun t => decide (s.time.mono < t + 60 * 32768))

theorem exec_islandFault : exec (.islandFault i) s = .next (
    if s.pwr.inReset = true ∨ s.pwr.islands.getD i.val .held = .held then s
    else if !resetAlone i.val then s.deviceReset 5
    else if i.val = 6 ∧ s.formed = true then s.forceZero 8
    else if s.pwr.islands.getD i.val .held ≠ .running ∨ 4 ≤ (nearResets s i.val).length then s.deviceReset 5
    else s.beginBlockReset i.val) := rfl

theorem exec_islandFault_main (hres : s.pwr.inReset = false) (hst : s.pwr.islands.getD i.val .held ≠ .held) (hi : i.val ∈ [0, 1, 3, 7]) :
    exec (.islandFault i) s = .next (s.deviceReset 5) := by
  have halone : ∀ n ∈ [0, 1, 3, 7], (!resetAlone n) = true := by decide
  rw [exec_islandFault, if_neg (by simp only [hres, hst]; decide), if_pos (halone _ hi)]

theorem exec_islandFault_alone (hres : s.pwr.inReset = false) (hst : s.pwr.islands.getD i.val .held ≠ .held)
    (hi : i.val ∈ [2, 4, 5, 8, 9]) : exec (.islandFault i) s = .next (
      if s.pwr.islands.getD i.val .held ≠ .running ∨ 4 ≤ (nearResets s i.val).length then s.deviceReset 5
      else s.beginBlockReset i.val) := by
  have halone : ∀ n ∈ [2, 4, 5, 8, 9], ¬ (!resetAlone n) = true ∧ n ≠ 6 := by decide
  obtain ⟨ha, h6⟩ := halone _ hi
  rw [exec_islandFault, if_neg (by simp only [hres, hst]; decide), if_neg ha, if_neg (fun h => h6 h.1)]

theorem exec_islandFault_protocol (hi : i.val = 6) (hres : s.pwr.inReset = false) (hst : s.pwr.islands.getD i.val .held ≠ .held)
    (hf : s.formed = true) : exec (.islandFault i) s = .next (s.forceZero 8) := by
  have halone : ¬ (!resetAlone 6) = true := by decide
  rw [exec_islandFault, if_neg (by simp only [hres, hst]; decide), if_neg (by rw [hi]; exact halone), if_pos ⟨hi, hf⟩]

theorem formed_active (hf : s.formed = true) : s.pair.role = .active := by
  simp only [State.formed, Bool.and_eq_true, decide_eq_true_eq] at hf
  exact hf.1.1

/-- A block-alone reset is counted and raised. -/
def blockCounted (s : State) (n : Nat) : State :=
  (s.setPwr (fun p => { p with
    blockResets := listUpd p.blockResets n satInc
    blockTimes := tblUpd [] p.blockTimes n (fun l => s.time.mono :: l) })).raise 0x042 n

/-- What the island drives stops. -/
def outputsStopped (s : State) (n : Nat) : State := if n = 5 then s.weirPowerFail else if n = 8 then s.relaysOff else s

theorem outputsStopped_pwr (s : State) (n : Nat) : (outputsStopped s n).pwr = s.pwr := by
  unfold outputsStopped
  split
  · exact pwr_of_seat (congrArg (·.2.2) (weirPowerFail_seat s))
  · split <;> rfl

theorem beginBlockReset_eq (n : Nat) : s.beginBlockReset n =
    ({ outputsStopped (blockCounted s n) n with ev := (outputsStopped (blockCounted s n) n).ev.flush } : State).setIsland n .quiescing := rfl

theorem beginBlockReset_pwr (n : Nat) : (s.beginBlockReset n).pwr = { s.pwr with
    blockResets := listUpd s.pwr.blockResets n satInc
    blockTimes := tblUpd [] s.pwr.blockTimes n (fun l => s.time.mono :: l)
    islands := listUpd s.pwr.islands n (fun _ => .quiescing) } := by
  have hpwr : (outputsStopped (blockCounted s n) n).pwr = { s.pwr with
      blockResets := listUpd s.pwr.blockResets n satInc
      blockTimes := tblUpd [] s.pwr.blockTimes n (fun l => s.time.mono :: l) } := by
    rw [outputsStopped_pwr, blockCounted, State.raise_pwr]
    rfl
  rw [beginBlockReset_eq]
  generalize outputsStopped (blockCounted s n) n = t at hpwr
  show { t.pwr with islands := listUpd t.pwr.islands n (fun _ => .quiescing) } = _
  rw [hpwr]

theorem beginBlockReset_buf (n : Nat) : (s.beginBlockReset n).ev.buf = [] := rfl

/-- What is released with an island again: what waited for it runs (R25), on the periphery as it then is. -/
theorem blockResetRelease_islands (hres : s.pwr.inReset = false) (hpfw : s.pwr.pfw = false)
    (hst : s.pwr.islands.getD i.val .held = .quiescing ∨ s.pwr.islands.getD i.val .held = .resetting) :
    ∃ t : State, exec (.blockResetRelease i) s = .next t ∧ t.periphery = (s.setIsland i.val .running).periphery := by
  have hgo : ¬ (s.pwr.inReset = true ∨ s.pwr.pfw = true ∨
      (s.pwr.islands.getD i.val .held ≠ .quiescing ∧ s.pwr.islands.getD i.val .held ≠ .resetting)) := by
    rintro (h | h | ⟨h1, h2⟩)
    · simp [hres] at h
    · simp [hpfw] at h
    · exact hst.elim h1 h2
  refine ⟨_, congrArg Host.Outcome.next (if_neg hgo), ?_⟩
  dsimp only
  (repeat' split) <;> simp

theorem exec_blockResetRelease_idle (h : s.pwr.inReset = true ∨ s.pwr.pfw = true ∨ s.pwr.islands.getD i.val .held = .running ∨
    s.pwr.islands.getD i.val .held = .held) : exec (.blockResetRelease i) s = .next s := by
  refine congrArg Host.Outcome.next (if_pos ?_)
  obtain h | h | h | h := h
  · exact .inl h
  · exact .inr (.inl h)
  all_goals
    rw [h]
    exact .inr (.inr ⟨by decide, by decide⟩)

end Islands

/-! ### Temperature (R422) -/

/-- The temperature is noted, with its flag. -/
def measured (s : State) (x : BitVec 16) : State := s.setPwr (fun p => { p with tj := x.toInt, overtemp := decide (1150 < x.toInt) })

theorem exec_junctionTemperatureSample (s : State) (x : BitVec 16) (hres : s.pwr.inReset = false) :
    exec (.junctionTemperatureSample x) s = .next (if 1250 < x.toInt ∧ s.pwr.pfw = false then
      (measured s x).powerFail.setPwr (fun p => { p with nextCause := some 6 }) else measured s x) :=
  congrArg Host.Outcome.next (if_neg (by simp [hres]))

theorem powerFail_pwr (s : State) : ∃ o r w, s.powerFail.pwr = outageNoted { s.pwr with pfw := true, seqDone := false } o r w := by
  obtain ⟨o, r, w, h⟩ := powerFail_seat s
  exact ⟨o, r, w, congrArg (·.2.2) h⟩

theorem measured_powerFail (s : State) (x : BitVec 16) : (measured s x).powerFail.pwr.pfw = true ∧
    (measured s x).powerFail.pwr.tj = x.toInt ∧ (1150 < x.toInt → (measured s x).powerFail.pwr.overtemp = true) := by
  obtain ⟨o, r, w, h⟩ := powerFail_pwr (measured s x)
  rw [h]
  exact ⟨rfl, rfl, fun hx => decide_eq_true hx⟩

/-- A paired unit's claim is released by the sequence. -/
theorem powerFail_pair (s : State) (hsolo : s.pair.role ≠ .solo) :
    s.powerFail.pair.health = 0 ∧ s.powerFail.pair.claim = 0 ∧ s.powerFail.pair.won = false := by
  obtain ⟨_, _, _, hseat⟩ := powerFail_seat s
  have hpair := congrArg (·.2.1) hseat
  obtain ⟨hh, hc, hwon⟩ := claimReleased_pair s hsolo
  exact ⟨(pair_of_seat (·.health) (fun _ => rfl) hpair).trans hh, (pair_of_seat (·.claim) (fun _ => rfl) hpair).trans hc,
    (pair_of_seat (·.won) (fun _ => rfl) hpair).trans hwon⟩

theorem powerFail_flags (s : State) : s.powerFail.pwr.pfw = true ∧ s.powerFail.pwr.seqDone = false ∧ s.powerFail.trust = s.trust := by
  obtain ⟨_, _, _, hseat⟩ := powerFail_seat s
  obtain ⟨o, r, w, h⟩ := powerFail_pwr s
  rw [h]
  exact ⟨rfl, rfl, congrArg (·.1) hseat⟩

/-! ### The commands of 0x3011 (R414, R423) -/

section Commands

variable {s : State} {r : Req} {arg : Bytes} {o : ObjRow}

theorem exec_mainResetCommand_done (h : s.starts r 0x301101 arg o) (ha : leNat arg = 0x52535421) : exec (.mainResetCommand r arg) s =
    .next (({ s with pwr := { s.pwr with atPeriod := some 9 } } : State).succeeds r 0x301101 (s.itemOf r o)) :=
  congrArg Host.Outcome.next (command_done h (if_neg (not_not_intro ha)))

theorem exec_mainResetCommand_refused (h : s.starts r 0x301101 arg o) (ha : leNat arg ≠ 0x52535421) :
    exec (.mainResetCommand r arg) s = .next (s.respond r (.abort .valueInvalid)) :=
  congrArg Host.Outcome.next (command_refused h (if_pos ha))

theorem exec_clearRstcntInvalid_done (h : s.starts r 0x301102 arg o) : exec (.clearRstcntInvalid r arg) s =
    .next (({ s with pwr := { s.pwr with rstcntInvalid := false } } : State).succeeds r 0x301102 (s.itemOf r o)) :=
  congrArg Host.Outcome.next (command_done h rfl)

end Commands

/-- Settles O42: the sequence by its seat and what it makes durable, the resets, the islands and the supply by their own rules. -/
theorem warningsFaultsAndBlockResets : Obligations.WarningsFaultsAndBlockResets := by
  refine ⟨fun s h => congrArg Host.Outcome.next (if_pos h), fun s hp hr => ?warning, fun s h => congrArg Host.Outcome.next (if_pos h),
    fun s hp hr => ?done, fun s hp hd hr => ?recovered, fun s h => ?notRecovered, fun s => ?supply,
    fun s h => ⟨congrArg Host.Outcome.next (enterReset_pending s 3 h), congrArg Host.Outcome.next (deviceReset_pending s 4 h)⟩,
    fun s h => ?resets, fun s i h => congrArg Host.Outcome.next (if_pos h), fun s i hr hst hi => ?main, fun s i hr hst hrun hi => ?notRunning,
    fun s i hr hst hi hn => ?alone, fun s hr hst hf hw => ?protocol, fun s i h => congrArg Host.Outcome.next (if_pos h),
    fun s i h => congrArg Host.Outcome.next (if_neg h), fun s i hr hp hst => ?release, fun s i h => exec_blockResetRelease_idle h,
    fun s x hr hx => ?cool, fun s x hr hp hx => ?hot, fun s r arg o h => ?mainReset, fun s r arg o h => ?rstcnt, fun s => ⟨rfl, rfl, rfl⟩,
    fun s a b => rfl⟩
  case warning =>
    obtain ⟨hpfw, hseq, htrust⟩ := powerFail_flags s
    obtain ⟨hwt, hbuf, hsums, hwbuf⟩ := powerFail_durable s
    have hlock := powerFail_lockout s
    have hpair := powerFail_pair s
    refine ⟨_, congrArg Host.Outcome.next (if_neg (by simp [hp, hr])), ?_⟩
    generalize s.powerFail = u at hpfw hseq htrust hwt hbuf hsums hwbuf hlock hpair
    exact ⟨hpfw, hseq, hwt, hbuf, hsums, hwbuf, hlock, hpair, htrust⟩
  case done =>
    refine ⟨_, congrArg Host.Outcome.next (if_neg (by simp [hp, hr])), ?_⟩
    dsimp only
    split
    next hc => exact ⟨enterReset_seqDone _ 6, fun h => absurd hc h, fun _ => enterReset_inReset _ 6⟩
    next hc => exact ⟨rfl, fun _ => hr, fun h => absurd h hc⟩
  case recovered =>
    exact ⟨s.enterReset 2, congrArg Host.Outcome.next (if_pos ⟨hp, hd, hr⟩), enterReset_pwr s 2 hr⟩
  case notRecovered =>
    refine congrArg Host.Outcome.next (if_neg ?_)
    rintro ⟨hp, hd, hr⟩
    simp [hp, hd, hr] at h
  case supply => exact ⟨_, rfl, enterReset_inReset s 1, rfl, rfl, rfl⟩
  case resets =>
    obtain ⟨hin, hcause⟩ := enterReset_pwr s 3 h
    obtain ⟨hin4, hcause4⟩ := deviceReset_pwr s 4 h
    obtain ⟨hbuf, hlog⟩ := deviceReset_ev s 4 h
    exact ⟨⟨_, rfl, hin, hcause, (enterReset_holds s 3 h).1⟩, _, rfl, hin4, hcause4, hbuf, hlog, deviceReset_holds s 4 h⟩
  case main => exact ⟨_, exec_islandFault_main hr hst hi, deviceReset_pwr s 5 hr⟩
  case notRunning =>
    exact ⟨_, (exec_islandFault_alone hr hst hi).trans (congrArg Host.Outcome.next (if_pos (.inl hrun))), deviceReset_pwr s 5 hr⟩
  case alone =>
    have hst' : s.pwr.islands.getD i.val .held ≠ .held := by
      rw [hst]
      decide
    have hgo : ¬ (s.pwr.islands.getD i.val .held ≠ .running ∨ 4 ≤ (nearResets s i.val).length) := not_or.mpr ⟨not_not_intro hst, Nat.not_le.mpr hn⟩
    refine ⟨_, (exec_islandFault_alone hr hst' hi).trans (congrArg Host.Outcome.next (if_neg hgo)), ?_⟩
    rw [beginBlockReset_pwr]
    exact ⟨hr, rfl, rfl, beginBlockReset_buf i.val⟩
  case protocol =>
    obtain ⟨-, -, -, -, hwon, hfailed⟩ := forceZero_pair s 8
    have hact := formed_active hf
    refine ⟨_, exec_islandFault_protocol rfl hr hst hf, hfailed hact hw, hwon (by simp [hact]), ?_⟩
    rw [forceZero_pwr, hr]
  case release =>
    obtain ⟨t, ht, hper⟩ := blockResetRelease_islands hr hp hst
    exact ⟨t, ht, congrArg (·.2.2) hper⟩
  case cool =>
    rw [exec_junctionTemperatureSample s x hr, if_neg (fun h => absurd h.1 (by omega))]
    rfl
  case hot =>
    obtain ⟨hpfw, htj, hover⟩ := measured_powerFail s x
    obtain ⟨-, -, -, hwbuf⟩ := powerFail_durable (measured s x)
    have hexec := exec_junctionTemperatureSample s x hr
    rw [if_pos ⟨hx, hp⟩] at hexec
    generalize (measured s x).powerFail = u at hpfw htj hover hwbuf hexec
    exact ⟨_, hexec, hpfw, rfl, htj, hover (by omega), hwbuf⟩
  case mainReset =>
    exact ⟨exec_mainResetCommand_done h, exec_mainResetCommand_refused h⟩
  case rstcnt => exact exec_clearRstcntInvalid_done h


end Sys2Proof.Machine.PowerSequences
end
